-- ==== Sys2Proof/Word.lean ====
section
/-! DEFINITION. The plain types every other file uses: octets, block codes (Table 18.7) and function numbers (R488). -/

namespace Sys2Proof

/-- One octet of memory, of a frame or of a record. -/
abbrev Byte := BitVec 8

/-- A frame, a record or a buffer, first octet first. -/
abbrev Octets := List Byte

/-- Function number: 0 is PF0, 1 is PF1, n + 1 is VF n, 513 is the steward (R488). -/
abbrev Fn := Fin 514

/-- The blocks of Table 18.7, in the order of their codes. -/
inductive Blk where
  | tb | bnd | refs | srv | syn | out | tdc | gn | prt | sve | sec | sch
  | pol | ks | shm | ubw | mate | hif | stw | rst | pwr | flt | pmc | mgp
  deriving DecidableEq, Repr

/-- Block code of Table 18.7. -/
def Blk.code : Blk → Nat
  | .tb => 0 | .bnd => 1 | .refs => 2 | .srv => 3 | .syn => 4 | .out => 5
  | .tdc => 6 | .gn => 7 | .prt => 8 | .sve => 9 | .sec => 10 | .sch => 11
  | .pol => 12 | .ks => 13 | .shm => 14 | .ubw => 15 | .mate => 16 | .hif => 17
  | .stw => 18 | .rst => 19 | .pwr => 20 | .flt => 21 | .pmc => 22 | .mgp => 23

/-- All blocks in the order of their codes. -/
def Blk.all : List Blk :=
  [.tb, .bnd, .refs, .srv, .syn, .out, .tdc, .gn, .prt, .sve, .sec, .sch,
   .pol, .ks, .shm, .ubw, .mate, .hif, .stw, .rst, .pwr, .flt, .pmc, .mgp]

/-- The block with a given code, if the code is in Table 18.7. -/
def Blk.ofCode (n : Nat) : Option Blk := Blk.all[n]?

end Sys2Proof
end

