-- ==== Sys2Proof/Syntax.lean ====
section
/-! DEFINITION. The command set: one constructor per row of spec/opcode_table.json, and the records that some operands are. -/

namespace Sys2Proof

/-- One dual-frequency pair of a solution (R242, R252): its channels, whose satellite has an ephemeris and stands above the mask, and the size of
its post-fit residual in 2^-8 ns. -/
structure GnPair where
  l1 : Fin 192
  l5 : Fin 192
  residual : BitVec 32
  deriving DecidableEq, Repr

/-- One least-squares result (R242 to R245): the solved time at the latch, the standard deviation in 2^-8 ns, the solved week in GPS weeks, and
the largest residual in 2^-8 ns. -/
structure GnFit where
  time : BitVec 96
  sigma : BitVec 32
  week : BitVec 16
  worst : BitVec 32
  deriving DecidableEq, Repr

/-- What a second-peak pass finds on one channel (R255): metrics, P2's code phase less P1's in 2^-8 chip, and Doppler difference in 2^-8 Hz. -/
structure SpResult where
  ch : Fin 192
  p1 : BitVec 64
  p2 : BitVec 64
  noise : BitVec 64
  sep : BitVec 32
  dop : BitVec 32
  deriving DecidableEq, Repr

/-- One position at which a frame's pattern appears (R258): the position, whether complemented, and whether the check of Table 9.2 passes. -/
structure NavCand where
  pos : BitVec 16
  complement : Bool
  check : Bool
  deriving DecidableEq, Repr

/-- One kept stamp of a sample port (Table 9.4): FRC, phase, and sample index relative to the first captured sample. -/
structure SnapStamp where
  frc : BitVec 64
  phase : Fin 32
  idx : BitVec 32
  deriving DecidableEq, Repr

/-- The condition of R277 that fails on a port: signal detect or CDR lock of a lane, auto-negotiation, a local fault, HI_BER, lane skew, or the link
partner's speed. -/
inductive LinkCause where
  | signal (lane : Fin 16)
  | cdr (lane : Fin 16)
  | autoneg
  | localFault
  | hiBer
  | deskew
  | speed
  deriving DecidableEq, Repr

/-- What an observer saw in one window (R430): the output it watches (0 to 19 a clock output, 20 + a pulse output), and the stamps in 1/32 tick of
each edge on the net with the stage's own internal edge. -/
structure ObsPairs where
  n : Fin 28
  edges : List (BitVec 64 × BitVec 64)
  deriving DecidableEq, Repr

/-- The egress stamp of a forwarded chain frame (R412): the port, and the tick and phase of its first header bit. -/
structure UbwEgress where
  port : Fin 4
  tick : BitVec 64
  phase : Fin 32
  deriving DecidableEq, Repr

/-- One request to an SHM bank in a cycle (R465): its master, whether it uses port B of a dual-port bank, its address, and a read of some octets of the
word, a write, or an atomic of 4 or 8 octets. -/
inductive ShmAct where
  | read (len : Fin 33)
  | write (data : List Byte) (poison : Bool)
  | add (wide : Bool) (operand : BitVec 64)
  | swap (wide : Bool) (operand : BitVec 64)
  deriving DecidableEq, Repr

structure ShmReq where
  master : Fin 22
  portB : Bool
  addr : BitVec 32
  act : ShmAct
  deriving DecidableEq, Repr

/-- An MMIO access to the SHM aperture (R492): a read of n octets, or a write and whether it is poisoned. -/
inductive MmioAct where
  | read (n : BitVec 13)
  | write (data : List Byte) (poison : Bool)
  deriving DecidableEq, Repr

/-- A hit at a detector (R563): source, info field and detail. -/
structure FltHit where
  source : Fin 1536
  object : BitVec 16
  detail : BitVec 64
  deriving DecidableEq, Repr

/-- What the steps of Proofing find outside the register space (Table 20.3): the level of the MATE_SIDE strap and whether the checks that
the entropy source, the root and the reads of flash slots A and B face come out good. -/
structure ProofData where
  side : Bool
  entropyOk : Bool
  rootOk : Bool
  readA : Bool
  readB : Bool
  deriving DecidableEq, Repr

/-- The kinds of engine whose clock the governor gates on demand (Table 20.7). -/
inductive EngKind where
  | gh | siv | fft | corr | walker | mgpTx | mgpRx
  deriving DecidableEq, Repr

/-- How many engines have been idle for 1 µs when the governor decides (R554): of the 16 GMAC/HMAC and 6 AES-SIV engines, the FFT engine,
the Crumb walker, and the transmit and receive DMA of MGP. -/
structure IdleEngines where
  gh : Fin 17
  siv : Fin 7
  fft : Bool
  walker : Bool
  mgpTx : Bool
  mgpRx : Bool
  deriving DecidableEq, Repr


/-- The commands of the LVK7260: one constructor per row of the opcode table, with the operands the row's rule names.
A command register's row carries the issuing function and the value written; its other operands stand in that function's window registers. -/
inductive Instr where
  /-- REGISTER_WRITE (R5): A write to a register that has no row of its own acts on each field under its access type and the block's authority rules. -/
  | registerWrite (fn : Fn) (addr : BitVec 19) (value : BitVec 32)
  /-- CG0_ARM (R63): Writing ARM in TB_CG0_CTRL arms commit group CG0 with the chosen trigger kind, or refuses the arm under R26. -/
  | cg0Arm (fn : Fn) (kind : Fin 4)
  /-- CG0_ABORT (R28): Writing ABORT in TB_CG0_CTRL discards the CG0 shadows and arm before the commit instant. -/
  | cg0Abort (fn : Fn) (kind : Fin 4) (arm : Bool)
  /-- SYN_CG_ARM (R167): Writing ARM in SYN_CG_CTRL[g] arms one of CG6–CG13, and is refused when the BOUNDARY_OUT output is not running. -/
  | synCgArm (fn : Fn) (group : Fin 8) (value : BitVec 32)
  /-- SYN_CG_ABORT (R28): Writing ABORT in SYN_CG_CTRL[g] discards that group's shadows and arm. -/
  | synCgAbort (fn : Fn) (group : Fin 8) (value : BitVec 32)
  /-- CG14_ARM (R285): Writing ARM in PRT_CG14_CTRL arms commit group CG14 of the port board, asymmetry and clock fields. -/
  | cg14Arm (fn : Fn) (kind : Fin 4)
  /-- CG14_ABORT (R28): Writing ABORT in PRT_CG14_CTRL discards the CG14 shadows and arm. -/
  | cg14Abort (fn : Fn) (kind : Fin 4) (arm : Bool)
  /-- CG15_ARM (R416): Writing ARM in UBW_CG15_CTRL arms commit group CG15 of the Ubwick port constants. -/
  | cg15Arm (fn : Fn) (kind : Fin 4)
  /-- CG15_ABORT (R28): Writing ABORT in UBW_CG15_CTRL discards the CG15 shadows and arm. -/
  | cg15Abort (fn : Fn) (kind : Fin 4) (arm : Bool)
  /-- GROUP_COMMIT (R27): At an armed group's commit instant all its shadows take effect in one TBCLK cycle and the group becomes unarmed. -/
  | groupCommit (group : Fin 64) (tick : BitVec 64)
  /-- BLOCK_RESET_ORDER (R35): A block reset ordered by the fault collector or a command fences the block's door and opens a cascade shadow. -/
  | blockResetOrder (block : Fin 24)
  /-- DOOR_ABSENT (R35): After the last abort the door goes ABSENT, its generation increments and the block is held in reset. -/
  | doorAbsent (block : Fin 24)
  /-- BLOCK_READY (R566): The reset block reports ready, its door reopens under the new generation and the shadow closes. -/
  | blockReady (block : Fin 24)
  /-- DOOR_REPLY (R34): A reply arriving at a door is delivered when OPEN and discarded and counted when FENCED or ABSENT or of an earlier generation. -/
  | doorReply (block : Fin 24) (gen : BitVec 16)
  /-- TB_FRC_LO_READ (R47): A read of TB_FRC_LO returns FRC[31:0] and latches FRC[63:32] into the reader's TB_FRC_HI. -/
  | tbFrcLoRead (fn : Fn)
  /-- TB_CAPTURE (R76): Writing START to TB_CAP_CTRL captures FRC, time, bound and state of the named clock and increments TB_CAP_SEQ. -/
  | tbCapture (fn : Fn) (vc : Fin 1024)
  /-- VC_SEL_WRITE (R82): A write of VC_SEL selects a clock for the window and empties the function's parameter latch. -/
  | vcSelWrite (fn : Fn) (vc : Fin 1024)
  /-- VC_BASE0_READ (R82): A read of VC_BASE0 latches the selected clock's whole parameter set for the reader. -/
  | vcBase0Read (fn : Fn)
  /-- VC_SET (R58): The SET command gives a clock a pending SET at its trigger tick, in ABSOLUTE or PARENT_OFFSET mode. -/
  | vcSet (fn : Fn) (offset : Bool) (frcTime : Bool)
  /-- VC_ABORT (R81): The ABORT command cancels every pending SET, RATE, ADJUST and RETIRE of the clock. -/
  | vcAbort (fn : Fn)
  /-- VC_RATE (R64): The RATE command schedules a new r for a clock in VC1–VC1023 at its trigger tick. -/
  | vcRate (fn : Fn) (frcTime : Bool)
  /-- VC_ADJUST (R65): The ADJUST command schedules a slewed step of a ratified clock at its trigger tick. -/
  | vcAdjust (fn : Fn) (frcTime : Bool)
  /-- VC_SCHED_ADD (R69): SCHED_ADD places a RATE, RAMP or LEAP segment in the lowest empty slot, or is refused. -/
  | vcSchedAdd (fn : Fn) (kind : Fin 4)
  /-- VC_SCHED_CANCEL (R72): SCHED_CANCEL returns a pending slot to EMPTY before its activation tick. -/
  | vcSchedCancel (fn : Fn) (slot : Fin 8)
  /-- VC_SCHED_CLEAR (R72): SCHED_CLEAR returns every pending slot of the clock to EMPTY. -/
  | vcSchedClear (fn : Fn)
  /-- VC_RETIRE (R62): The RETIRE command schedules the return of a clock in VC1–VC1023 to UNSET. -/
  | vcRetire (fn : Fn) (frcTime : Bool)
  /-- VC_RESET_CLOCK (R56): RESET_CLOCK in lifecycle DEVELOP returns VC0 and every clock whose parent is VC0 to UNSET. -/
  | vcResetClock (fn : Fn)
  /-- VC_SET_TICK (R56): FRC reaches a pending SET tick and the clock takes its value and becomes RATIFIED, its single step. -/
  | vcSetTick (vc : Fin 1024)
  /-- VC_RATE_TICK (R64): A pending RATE reaches its tick and the clock is rebased with the new r. -/
  | vcRateTick (vc : Fin 1024)
  /-- VC_ADJUST_TICK (R65): A pending ADJUST reaches its tick and the clock is rebased with the amount added to P_adj at slope S_adj. -/
  | vcAdjustTick (vc : Fin 1024)
  /-- SLEW_DONE (R65): The slewed step is fully delivered, the clock is rebased, SLEWING clears and SLEW_DONE is posted. -/
  | slewDone (vc : Fin 1024) (tick : BitVec 64)
  /-- VC_RETIRE_TICK (R62): A pending RETIRE reaches its tick and the clock returns to UNSET, discarding its segments, slews and later commands. -/
  | vcRetireTick (vc : Fin 1024)
  /-- VC_PARENT_CHANGE (R61): A PARENT write on an unratified clock takes effect at a rebase 64 ticks later, keeping the time continuous. -/
  | vcParentChange (vc : Fin 1024)
  /-- SEGMENT_ACTIVATION (R70): A schedule segment reaches its activation tick and takes effect as a RATE, RAMP or LEAP, rebasing the clock. -/
  | segmentActivation (vc : Fin 1024) (slot : Fin 8) (tick : BitVec 64)
  /-- RAMP_DONE (R71): A RAMP segment completes its delivery and its slot is freed. -/
  | rampDone (vc : Fin 1024) (tick : BitVec 64)
  /-- LEAP_SECOND_END (R73): The clock again reaches the time it had at an insertion and LEAP_SECOND clears. -/
  | leapSecondEnd (vc : Fin 1024)
  /-- PTM_REQUEST (R79): A PTM Request is stamped on receipt and answered within 2 µs with the named clock's time or no data. -/
  | ptmRequest (tick : BitVec 64) (phase : Fin 32)
  /-- BND_TOK_START (R94): Writing START to BND_TOK_CMD requests a signed time token, capturing the clock and taking a counter value, or is refused. -/
  | bndTokStart (fn : Fn)
  /-- TOKEN_DONE (R97): The token buffer is written and signed, TOK_STATUS is set, BUSY clears and TOK_DONE is posted. -/
  | tokenDone (index : Fin 8)
  /-- PATH_STALE (R89): A point's CAL_AGE_MS passes 25,000 and the point becomes stale, using STALE_UNC. -/
  | pathStale (point : Fin 24)
  /-- AGE_EXPIRED (R86): τ passes BND_AGE_MAX and every bound becomes not bounded. -/
  | ageExpired
  /-- REF_CFG_WRITE (R116): A write of a slot's ENABLE moves the slot to DISABLED or NO_SIGNAL. -/
  | refCfgWrite (fn : Fn) (slot : Fin 32) (value : BitVec 32)
  /-- REF_EDGE_STAMP (R101): A stamped reference edge or time event is written as a 32-byte record into the slot's ring. -/
  | refEdgeStamp (slot : Fin 32) (tick : BitVec 64) (phase : Fin 32) (edges : BitVec 16) (label : Option (BitVec 96))
  /-- REF_STAMP_MISSING (R104): An expected stamp is missing, and LOS_COUNT consecutive misses put the slot in NO_SIGNAL. -/
  | refStampMissing (slot : Fin 32)
  /-- REF_LINK_LOSS (R104): A lane's block lock, a link's alignment or a session's Sync is lost and the slot enters NO_SIGNAL within 64 ticks. -/
  | refLinkLoss (slot : Fin 32)
  /-- MONITOR_TICK (R110): At each whole-second FRC tick every slot's monitors are evaluated, then each selector. -/
  | monitorTick (tick : BitVec 64)
  /-- HOLDOFF_EXPIRY (R121): A selector's HOLDOFF_MS expires and rule 1 of R120 applies to the lost slot. -/
  | holdoffExpiry (sel : Fin 6)
  /-- ESMC_PDU (R107): A received ESMC PDU is mapped to a QR for the slots of its port's lanes, with loop detection. -/
  | esmcPdu (port : Fin 16) (pdu : List Byte)
  /-- ESMC_TIMEOUT (R107): No ESMC PDU arrives for 5 s and the slot's QR becomes 15. -/
  | esmcTimeout (lane : Fin 16)
  /-- TODIN_FRAME (R185): A time-of-day frame received on TODIN is checked and, if valid, labels the next REFIN pulse. -/
  | todinFrame (pin : Fin 4) (frame : List Byte) (whole : Bool)
  /-- SERVO_UPDATE (R126): At each update period the steward computes new rate words and ledger terms, writes the shadows and arms the groups. -/
  | servoUpdate
  /-- SERVO_STALL (R134): No CG0 update has committed for 16 update periods and STALL is set. -/
  | servoStall
  /-- PHASE_STEP (R142): SRV_CMD PHASE_STEP adds Δ to the target offset and issues ADJUST on VC0. -/
  | phaseStep (fn : Fn)
  /-- ACCEPT_OFFSET (R139): SRV_CMD ACCEPT_OFFSET lets the steward slew VC0 onto a rejected slot in VC_ADJ_LIMIT steps. -/
  | acceptOffset (fn : Fn)
  /-- NOUGAT_RESET (R153): SRV_CMD NOUGAT_RESET returns the named model to UNTRAINED. -/
  | nougatReset (fn : Fn)
  /-- ATOM_TUNE_NOW (R161): SRV_CMD ATOM_TUNE_NOW performs the tune write of R157 at once. -/
  | atomTuneNow (fn : Fn) (ack : Bool)
  /-- RATE_OWNER_WRITE (R130): A write of RATE_OWNER moves the system DPLL into or out of MANUAL. -/
  | rateOwnerWrite (fn : Fn) (value : BitVec 32)
  /-- HO_SRC_WRITE (R145): A write of HO_SRC chooses the holdover oscillator, deferred to holdover exit when in HOLDOVER. -/
  | hoSrcWrite (fn : Fn) (value : BitVec 32)
  /-- ATOM_ALM (R146): A change on ATOM_ALM, or of REF28's state, makes the atomic oscillator fail or settle as holdover oscillator. -/
  | atomAlm (level : Bool)
  /-- NOUGAT_SAMPLE (R152): Every 10 s under the training conditions a model takes a sample and refits, possibly changing state. -/
  | nougatSample (model : Fin 2)
  /-- ATOM_TUNE (R157): Every TUNE_S seconds in STEER mode the steward writes a tune word over the tuning bus. -/
  | atomTune (ack : Bool)
  /-- RETUNE_LOCKED (R165): A retuning or searching synthesiser locks, its outputs restart together and the memo is updated. -/
  | retuneLocked (k : Fin 6) (band : BitVec 10)
  /-- RETUNE_TIMEOUT (R165): No band locks within 4 µs of a memo retune, RETUNE_SLOW is posted and a full search starts. -/
  | retuneTimeout (k : Fin 6)
  /-- SYNTH_LOCK_LOSS (R165): A synthesiser's lock detector trips and it enters LOST. -/
  | synthLockLoss (k : Fin 6)
  /-- LOST_RETRY (R165): 1 µs after entering LOST the synthesiser starts a retune with its current M. -/
  | lostRetry (k : Fin 6)
  /-- SYN_MEMO_SEL_WRITE (R166): A write of SYN_MEMO_SEL latches the selected memo entry into the window. -/
  | synMemoSelWrite (fn : Fn) (value : BitVec 32)
  /-- MEMO_PIN (R166): MEMO_CMD PIN marks the selected memo entry as never replaced. -/
  | memoPin (fn : Fn)
  /-- MEMO_UNPIN (R166): MEMO_CMD UNPIN clears the selected entry's PINNED bit. -/
  | memoUnpin (fn : Fn)
  /-- MEMO_INVALIDATE (R166): MEMO_CMD INVALIDATE empties the selected memo entry. -/
  | memoInvalidate (fn : Fn)
  /-- OUTPUT_CHANGE_APPLY (R169): A committed clock-output change takes effect at the output's first rising edge 8 ns after the commit. -/
  | outputChangeApply (out : Fin 20)
  /-- DIVIDER_RESTART (R170): With ALIGN the member dividers restart together once every one has completed its period. -/
  | dividerRestart (group : Fin 8) (k : Fin 6)
  /-- DELAY_REACHED (R174): A moving output delay reaches its new value and DELAY_MOVING clears. -/
  | delayReached (out : Fin 20)
  /-- PULSE_EMIT (R177): A pulse output's clock reaches a target time and the leading edge is placed, or squelched. -/
  | pulseEmit (po : Fin 8) (tick : BitVec 64)
  /-- TOD_FRAME_SEND (R182): START_US after a source pulse the TODOUT pin sends the binary frame or ZDA sentence for the next pulse, or skips it. -/
  | todFrameSend (pin : Fin 4)
  /-- TDC_EDGE (R196): An input edge on a stamp point is accepted by a READY half and converted, or lost. -/
  | tdcEdge (ch : Fin 16) (tick : BitVec 64) (sub : Fin 640) (code : BitVec 12) (falling : Bool)
  /-- CAL_PAIR (R195): An interpolator half completes a calibration pair, which is accepted or rejected, possibly failing or restoring the half. -/
  | calPair (point : Fin 105) (half : Fin 2) (c1 : BitVec 12) (c2 : BitVec 12)
  /-- TDC_RECORD_WRITE (R201): The chip-wide writer drains a channel record from its FIFO into the ring, or drops it when full. -/
  | tdcRecordWrite (ch : Fin 16)
  /-- TDC_CH_EN (R203): A write of a channel's EN starts it with zeroed indices or stops accepting events and drains. -/
  | tdcChEn (fn : Fn) (ch : Fin 16) (value : BitVec 32)
  /-- TDC_DRAINED (R203): A disabled channel's FIFO becomes empty and STATE reads OFF. -/
  | tdcDrained (ch : Fin 16)
  /-- TDC_GATE_ARM (R205): Writing ARM arms a gate, or refuses an invalid FRC_WINDOW arm. -/
  | tdcGateArm (fn : Fn) (gate : Fin 4)
  /-- TDC_GATE_DISARM (R204): Writing DISARM disarms a gate and closes an open window at the tick of the write. -/
  | tdcGateDisarm (fn : Fn) (gate : Fin 4)
  /-- TDC_GATE_EDGE (R204): An edge on TDC_GATEg opens or closes a window in LEVEL or EDGE mode and writes marker records. -/
  | tdcGateEdge (gate : Fin 4) (tick : BitVec 64) (sub : Fin 640) (code : BitVec 12) (falling : Bool)
  /-- TDC_GATE_FRC_WINDOW (R204): FRC reaches OPEN or CLOSE of an FRC_WINDOW gate and the window opens or closes. -/
  | tdcGateFrcWindow (gate : Fin 4)
  /-- CAL_CMD (R210): Writing START to TDC_CAL_CMD queues a calibration of the named point. -/
  | calCmd (fn : Fn) (point : Fin 32)
  /-- CAL_PERIODIC_DUE (R210): CAL_PERIOD_S after a point's last calibration a periodic calibration falls due. -/
  | calPeriodicDue (point : Fin 23)
  /-- CALIBRATION_COMPLETE (R209): A calibration completes and writes TX_DELAY, RX_DELAY and CAL_UNC as one update to TDC and BND. -/
  | calibrationComplete (tx : List (BitVec 32)) (rx : List (BitVec 32))
  /-- GN_PORT_EN (R218): A write of EN on a sample port starts it when its FS and IF limits hold, or posts CFG_LOCKED. -/
  | gnPortEn (fn : Fn) (port : Fin 2) (value : BitVec 32)
  /-- GN_PORT_STAMP (R219): Every 65,536th GNn_CLK edge is stamped and the measured rate checked. -/
  | gnPortStamp (port : Fin 2) (tick : BitVec 64) (phase : Fin 32) (largest : Fin 131073)
  /-- GN_PORT_LOST (R220): A sample port loses its clock or rate and becomes LOST, coasting its channels. -/
  | gnPortLost (port : Fin 2)
  /-- GN_ACQ_SUBMIT (R225): SUBMIT places an acquisition job in the chip-wide queue, or is refused. -/
  | gnAcqSubmit (fn : Fn)
  /-- GN_ACQ_ABORT_ALL (R225): ABORT_ALL discards every queued job and stops the running job. -/
  | gnAcqAbortAll (fn : Fn)
  /-- ACQ_PRN_DONE (R226): A PRN search ends and its acquisition record is written, waiting for ring room. -/
  | acqPrnDone (tick : BitVec 64) (phase : Fin 32) (p1 : BitVec 64) (p2 : BitVec 64) (noise : BitVec 64) (code : BitVec 48) (doppler : BitVec 32)
  /-- ACQ_JOB_DONE (R224): An acquisition job completes and ACQ_DONE is posted. -/
  | acqJobDone
  /-- SS_START (R229): START begins a serial search, or sets REFUSED. -/
  | ssStart (fn : Fn)
  /-- SS_ABORT (R229): ABORT ends the serial search at once with DONE and the best cell so far. -/
  | ssAbort (fn : Fn) (code : BitVec 12) (doppler : BitVec 16) (ratio : BitVec 16)
  /-- SS_DONE (R229): The serial search ends, reports its cell and sets DONE and DETECTED. -/
  | ssDone (code : BitVec 12) (doppler : BitVec 16) (ratio : BitVec 16)
  /-- GN_CH_START (R233): The START channel command sets the NCOs from a stamp and schedules the start epoch, or is refused. -/
  | gnChStart (fn : Fn)
  /-- GN_CH_STOP (R232): The STOP channel command returns the channel to IDLE. -/
  | gnChStop (fn : Fn)
  /-- GN_CH_SET_TOW (R239): SET_TOW gives a tracking channel its transmit time and sets TOW_VALID. -/
  | gnChSetTow (fn : Fn)
  /-- CH_START_EPOCH (R233): A started channel reaches its start epoch and enters PULL_IN. -/
  | chStartEpoch (ch : Fin 192)
  /-- INTEGRATION_BOUNDARY (R234): A channel's integration ends, a dump record is written, and a pending update is applied or a miss counted. -/
  | integrationBoundary (ch : Fin 192) (taps : List (BitVec 32))
  /-- LOOP_UPDATE (R235): Writing WRITE in UPD_CTRL submits a loop update, accepted if its SEQ is valid and discarded as stale otherwise. -/
  | loopUpdate (fn : Fn) (ch : Fin 192) (value : BitVec 32)
  /-- COAST_EXPIRY (R232): COAST_MS passes in COASTING and the channel becomes LOST. -/
  | coastExpiry (ch : Fin 192)
  /-- MEAS_LATCH (R240): At each latch instant every recording channel's replica state is latched and the epoch is written to the ring or dropped whole. -/
  | measLatch (tick : BitVec 64)
  /-- TIME_SOLUTION (R242): At each whole-second latch the steward solves for time and delivers a labelled stamp and bound to REF24. -/
  | timeSolution (tick : BitVec 64) (pairs : List GnPair) (first : GnFit) (second : GnFit)
  /-- SURVEY_DONE (R242): After SURVEY_S seconds the mean position is written and MODE switches to TIMING. -/
  | surveyDone (x : BitVec 64) (y : BitVec 64) (z : BitVec 64)
  /-- SP_PASS_DUE (R254): A second-peak pass falls due every SP_PERIOD_S and starts at the next gap between jobs, or is skipped. -/
  | spPassDue
  /-- SP_PASS_COMPLETE (R255): A second-peak pass ends, HITs are counted, SECOND_PEAK set or cleared and records written. -/
  | spPassComplete (tick : BitVec 64) (results : List SpResult)
  /-- NAV_FRAME (R258): The steward searches a channel's data symbols for the frame pattern and locks or loses the frame. -/
  | navFrame (ch : Fin 192) (cands : List NavCand) (tow : BitVec 32) (epoch : BitVec 32) (week : BitVec 16) (eph : Bool) (alm : Bool)
  /-- PPS_MODEL_COMMIT (R260): Writing COMMIT to GN_PPS_M_CTRL schedules the pulse model values to take effect. -/
  | ppsModelCommit (fn : Fn)
  /-- PPS_MODEL_APPLY (R260): 64 ticks after COMMIT the four pulse-model values take effect together. -/
  | ppsModelApply
  /-- GNSS_PPS_EN (R262): A write of EN=1 schedules GNSS_PPS_OUT's first pulse at least 0.5 s later. -/
  | gnssPpsEn (fn : Fn) (value : BitVec 32)
  /-- GNSS_PPS_PULSE (R263): A GNSS_PPS_OUT pulse leaves at its fixed placement or is squelched, fixing the next pulse. -/
  | gnssPpsPulse
  /-- AUDIT_EN_WRITE (R265): A write of AUDIT_EN starts audit in AWAKE or ends it, waking if asleep. -/
  | auditEnWrite (fn : Fn) (value : BitVec 32)
  /-- AUDIT_SLEEP (R266): AUDIT_ON_S after AWAKE entry the audit result is written and GN enters SLEEP, powering down. -/
  | auditSleep
  /-- AUDIT_WAKE (R265): FRC reaches WAKE and GN enters AWAKE, powering the front end. -/
  | auditWake
  /-- FE_WARM_DONE (R266): After FE_WARM_MS the port EN values are restored and the steward starts hot, warm or cold. -/
  | feWarmDone
  /-- SNAP_ARM (R269): Writing ARM arms a witness snapshot with IMMEDIATE or FRC_TIME trigger, or is refused. -/
  | snapArm (fn : Fn)
  /-- SNAP_TRIGGER (R270): The snapshot trigger tick arrives and raw-sample capture starts. -/
  | snapTrigger
  /-- SNAP_CAPTURE_DONE (R271): Capture ends, the digest-sealed file is complete and the snapshot is HELD, or it fails. -/
  | snapCaptureDone (samples0 : List Byte) (stamps0 : List SnapStamp) (samples1 : List Byte) (stamps1 : List SnapStamp)
  /-- SNAP_RELEASE (R271): Writing RELEASE frees a HELD snapshot. -/
  | snapRelease (fn : Fn)
  /-- PRT_PORT_EN (R273): A write of a port's EN enables it on its lanes, or is refused with CFG_LOCKED. -/
  | prtPortEn (fn : Fn) (port : Fin 16) (value : BitVec 32)
  /-- LANE_LOCK_LOSS (R276): A lane loses block or codeword lock and signals its reference slot within 64 ticks. -/
  | laneLockLoss (lane : Fin 16)
  /-- PORT_LINK_UP (R277): Link conditions have held for LINKUP_MS, the port becomes UP, LINK_GEN increments and calibration is requested. -/
  | portLinkUp (port : Fin 16)
  /-- PORT_LINK_DOWN (R277): A link condition fails, the port becomes DOWN and its point goes unbounded. -/
  | portLinkDown (port : Fin 16) (cause : LinkCause)
  /-- REMOTE_FAULT (R278): A received remote fault keeps the port UP, sets REMOTE_FAULT and discards offered frames. -/
  | remoteFault (port : Fin 16) (present : Bool)
  /-- PRT_FRAME_RX (R280): A whole frame is received, stamped, checked and released to the classifier or exception path. -/
  | prtFrameRx (port : Fin 16) (tick : BitVec 64) (phase : Fin 32) (b : BitVec 13) (frame : List Byte) (codeErr : Bool) (fecUncorr : Bool) (linkCut : Bool)
  /-- PRT_FRAME_TX (R288): A selected frame enters the MAC, its action block is applied in the egress pass and it is sent. -/
  | prtFrameTx (port : Fin 16) (tick : BitVec 64) (phase : Fin 32) (b : BitVec 13)
  /-- TSR_EN (R291): A write of a timestamp ring's EN zeroes its indices, or is refused with RING_REFUSED. -/
  | tsrEn (fn : Fn) (port : Fin 16) (dir : Fin 2) (value : BitVec 32)
  /-- DELAY_REQ (R301): A pipeline serves a Delay_Req, building a Delay_Resp from its ingress stamp and context. -/
  | delayReq (pipe : Fin 8)
  /-- SIGNALING_REQUEST (R314): The grant engine answers a Signaling message's grant and cancel TLVs. -/
  | signalingRequest
  /-- NTP_REQUEST (R325): A pipeline answers an NTP request with a response or kiss-o'-death, or drops it. -/
  | ntpRequest (pipe : Fin 8)
  /-- NTS_REQUEST (R351): An NTS-protected request is decrypted, verified, stamped by launch reservation and sealed. -/
  | ntsRequest (pipe : Fin 8) (start : BitVec 64) (tick : BitVec 64) (phase : Fin 32) (b : BitVec 13)
  /-- LAUNCH_MISS (R353): A sealed response not at the MAC 25.6 ns before its reserved start is discarded. -/
  | launchMiss (port : Fin 16)
  /-- CADENCE_DUE (R322): A cadence-wheel word falls due on VC0 and each due bit builds a Sync or Announce. -/
  | cadenceDue (bitmap : Fin 12) (word : BitVec 16)
  /-- FOLLOW_UP (R311): A two-step Sync's egress stamp returns and its Follow_Up is built. -/
  | followUp (pipe : Fin 8)
  /-- PTP_CLIENT_MESSAGE (R330): A matching message of the client session is delivered to the steward, which estimates master time for REF25. -/
  | ptpClientMessage (t3 : Option (BitVec 96))
  /-- CLI_ANN_TIMEOUT (R331): The Announce receipt timeout expires and ANN_TIMEOUT sets REF25's QR to 15. -/
  | cliAnnTimeout
  /-- CLI_SYNC_TIMEOUT (R331): No Sync arrives in time and the session reports loss of Sync. -/
  | cliSyncTimeout
  /-- CLS_WRITE (R303): The classifier WRITE replaces an entry and increments its GEN, or completes STALE_GEN or REFUSED. -/
  | clsWrite (fn : Fn) (drain : Bool) (expectGen : Fin 16)
  /-- CLS_WRITE_COMPLETE (R305): A waiting WRITE completes once no frame of an older snapshot remains. -/
  | clsWriteComplete (entry : Fin 4096)
  /-- CLS_READ (R303): The classifier READ returns an entry and latches its counters. -/
  | clsRead (fn : Fn)
  /-- CLS_INVALIDATE (R303): INVALIDATE writes an entry with VALID 0. -/
  | clsInvalidate (fn : Fn) (drain : Bool) (expectGen : Fin 16)
  /-- CTX_READ (R309): The context READ copies a context to the window. -/
  | ctxRead (fn : Fn)
  /-- CTX_INSTALL (R309): INSTALL writes a new context with its key and admitted grants, or is refused. -/
  | ctxInstall (fn : Fn)
  /-- CTX_RELEASE (R309): RELEASE cancels the context's grants, releases their load and frees the context. -/
  | ctxRelease (fn : Fn)
  /-- CTX_CANCEL_GRANT (R319): CANCEL_GRANT sends cancels and ends the named grants of a context. -/
  | ctxCancelGrant (fn : Fn) (types : Fin 8)
  /-- GRANT_SWEEP (R320): Every 10 s expired grants are cleared and contexts without grants freed. -/
  | grantSweep
  /-- SA_WRITE (R337): SA WRITE sets an SA's configuration, or is refused. -/
  | saWrite (fn : Fn)
  /-- SA_READ (R337): SA READ fills the window with an SA and its sequence counters. -/
  | saRead (fn : Fn)
  /-- SA_LOAD_KEY (R338): LOAD_KEY copies a Truffle key into an idle SA half and resets its counter. -/
  | saLoadKey (fn : Fn)
  /-- SA_UNLOAD_KEY (R338): UNLOAD_KEY clears an idle SA half. -/
  | saUnloadKey (fn : Fn)
  /-- SA_ROTATE (R339): ROTATE schedules the other loaded half to become the transmitting half. -/
  | saRotate (fn : Fn) (frcTime : Bool)
  /-- ROTATE_TICK (R339): A pending ROTATE reaches its tick and the other half transmits. -/
  | rotateTick (sa : Fin 4096)
  /-- SA_INVALIDATE (R337): INVALIDATE empties an SA with no loaded half. -/
  | saInvalidate (fn : Fn)
  /-- NTS_LOAD (R350): NTS LOAD fills an empty master-key entry in ACCEPT. -/
  | ntsLoad (fn : Fn)
  /-- NTS_MAKE_CURRENT (R350): MAKE_CURRENT swaps the tenant's CURRENT master key in one step. -/
  | ntsMakeCurrent (fn : Fn)
  /-- NTS_UNLOAD (R350): NTS UNLOAD empties an ACCEPT master-key entry. -/
  | ntsUnload (fn : Fn)
  /-- NTS_MINT (R348): MINT encrypts cookies from host C2S and S2C under the tenant's CURRENT key. -/
  | ntsMint (fn : Fn) (count : Fin 16)
  /-- NTS_READ (R350): NTS READ fills the window with a master-key entry. -/
  | ntsRead (fn : Fn)
  /-- SCH_SELECT (R363): A port with room selects the next eligible frame by level, gates, shaper and WFQ tag. -/
  | schSelect (port : Fin 16)
  /-- Q_WRITE (R362): Queue WRITE changes a queue's configuration from the next selection, or is refused. -/
  | qWrite (fn : Fn)
  /-- Q_READ (R384): Queue READ latches depth, bytes, head age and maximum delay. -/
  | qRead (fn : Fn) (clearMax : Bool)
  /-- Q_FLUSH (R362): FLUSH discards every unselected frame of the queue. -/
  | qFlush (fn : Fn)
  /-- GATE_LIST_ARM (R374): Writing ARM in SCH_GATE_CTRL arms the idle gate bank for BASE, or is refused. -/
  | gateListArm (fn : Fn) (port : Fin 16) (value : BitVec 32)
  /-- GATE_LIST_ABORT (R374): Writing ABORT discards the gate-list arm. -/
  | gateListAbort (fn : Fn) (port : Fin 16) (value : BitVec 32)
  /-- GATE_TAKEOVER (R374): VC0 reaches BASE and the idle bank becomes active, posting GATE_SWAP. -/
  | gateTakeover (port : Fin 16) (tick : BitVec 64)
  /-- GATE_ENTRY_START (R373): VC0 reaches the start of a gate-list entry and the port's gates change. -/
  | gateEntryStart (port : Fin 16) (tick : BitVec 64)
  /-- POL_WRITE (R383): Policer WRITE changes a policer, clamping its buckets. -/
  | polWrite (fn : Fn)
  /-- POL_READ (R383): Policer READ latches configuration, tokens and counters. -/
  | polRead (fn : Fn)
  /-- POL_REFILL (R383): REFILL fills every bucket of the policer. -/
  | polRefill (fn : Fn)
  /-- POL_CLEAR_COUNTS (R383): CLEAR_COUNTS zeroes the policer's colour counters. -/
  | polClearCounts (fn : Fn)
  /-- UBW_PORT_EN (R396): A write of a Ubwick port's EN starts HUNT or disables it, or is refused. -/
  | ubwPortEn (fn : Fn) (port : Fin 5) (value : BitVec 32)
  /-- UBW_BLOCK_LOCK (R396): A Ubwick port gains or loses Clause 49 block lock and moves between HUNT and SEARCH. -/
  | ubwBlockLock (port : Fin 5) (locked : Bool)
  /-- UBW_MARKER_RX (R397): A valid alignment marker is received and tracks are advanced or started towards ALIGNED. -/
  | ubwMarkerRx (port : Fin 5) (block : BitVec 64) (tick : BitVec 64) (phase : Fin 32) (marker : List Byte)
  /-- MARKER_MISSING (R396): An expected marker position holds no valid marker, and three in a row return the port to SEARCH. -/
  | markerMissing (port : Fin 5) (block : BitVec 64)
  /-- SUPERFRAME_TX (R398): At each superframe the port sends its marker and timing message, with health and claim evaluated for M. -/
  | superframeTx (port : Fin 5) (tick : BitVec 64) (phase : Fin 32)
  /-- UBW_TIMING_MSG (R401): A received timing message is checked and completes exchange pairs and Toffee data. -/
  | ubwTimingMsg (port : Fin 5) (message : List Byte)
  /-- EXCHANGE_WINDOW_END (R403): At each 1 ms window end the port delivers one labelled stamp to REF26 or REF27. -/
  | exchangeWindowEnd (port : Fin 5) (tick : BitVec 64)
  /-- UBW_CHAIN_FRAME (R409): A received chain frame is delivered, forwarded with residence correction or discarded. -/
  | ubwChainFrame (port : Fin 5) (tick : BitVec 64) (phase : Fin 32) (frame : List Byte) (error : Bool) (egress : List UbwEgress)
  /-- HEARTBEAT_SILENT (R424): No heartbeat transition is seen for 24 cycles and fail-over or takeover rules apply. -/
  | heartbeatSilent
  /-- HEARTBEAT_CONTENTION (R426): A SIDE 1 active unit sees the mate's heartbeat and withdraws within 4 cycles. -/
  | heartbeatContention
  /-- MATE_HOLDOFF_EXPIRY (R426): HOLDOFF_S expires in HOLD and the unit sets TAKE. -/
  | mateHoldoffExpiry
  /-- MATE_SOLO_TIMEOUT (R425): With no Toffee since Proofing the heartbeat has been silent for SOLO_MS and the unit becomes ACTIVE. -/
  | mateSoloTimeout
  /-- TOFFEE_STALE (R423): Three superframes pass without a Toffee message and Toffee is no longer fresh. -/
  | toffeeStale
  /-- OBS_WINDOW (R430): At each 1 ms window each shared-output observer writes OBS and TRACK_OK is evaluated. -/
  | obsWindow (tick : BitVec 64) (seen : List ObsPairs)
  /-- KS_READ_ATTR (R462): READ_ATTR fills the window with a slot's attribute record. -/
  | ksReadAttr (fn : Fn)
  /-- KS_GENERATE (R462): GENERATE fills an empty slot with a key from the entropy source. -/
  | ksGenerate (fn : Fn) (stored : Bool)
  /-- KS_DERIVE (R448): DERIVE fills an empty slot with a key derived from the root or a KDF parent. -/
  | ksDerive (fn : Fn) (stored : Bool)
  /-- KS_RESTRICT (R447): RESTRICT narrows a slot's attributes, keeping its key. -/
  | ksRestrict (fn : Fn) (stored : Bool)
  /-- KS_WIPE (R462): WIPE returns a slot to EMPTY and revokes copies. -/
  | ksWipe (fn : Fn) (stored : Bool)
  /-- KS_ENV_APPLY (R457): ENV_APPLY checks and applies a key envelope in one persistent write, or refuses it. -/
  | ksEnvApply (fn : Fn) (stored : Bool)
  /-- KS_ID_STATEMENT (R453): ID_STATEMENT writes the endorsement-signed identity statement. -/
  | ksIdStatement (fn : Fn)
  /-- KS_EK_CERT (R452): EK_CERT copies the endorsement certificate chain to a buffer. -/
  | ksEkCert (fn : Fn)
  /-- KS_AUTH_SET (R454): AUTH_SET writes an unlocked authority entry. -/
  | ksAuthSet (fn : Fn) (stored : Bool)
  /-- KS_LOCK_AUTH (R454): LOCK_AUTH locks the authority entries. -/
  | ksLockAuth (fn : Fn)
  /-- KS_PROVISION (R436): PROVISION moves BLANK to DEVELOP and generates a root secret. -/
  | ksProvision (fn : Fn)
  /-- KS_DEPLOY (R436): DEPLOY moves DEVELOP to DEPLOYED and locks the authority entries. -/
  | ksDeploy (fn : Fn)
  /-- KS_RETURN (R440): RETURN moves DEVELOP to RETURNED and zeroises. -/
  | ksReturn (fn : Fn)
  /-- TAMPER_TRIP (R439): An enabled tamper source trips and zeroisation completes within 20 µs. -/
  | tamperTrip (source : Fin 6)
  /-- KEY_DELIVERY (R444): A master requests a slot's key and receives it only when every attribute check passes. -/
  | keyDelivery (master : Fin 4) (slot : Fin 1024) (usage : Fin 5) (tenant : Fin 512)
  /-- SLOT_EXPIRY_CHECK (R446): Every second slots whose EXPIRY has certainly passed are wiped and marked EXPIRED. -/
  | slotExpiryCheck (tick : BitVec 64)
  /-- SHM_ACCESS (R465): A master's access to an SHM bank is granted by arbitration and performed with ECC checking. -/
  | shmAccess (bank : Fin 272) (requests : List ShmReq) (ce : Fin 16) (ue : Fin 16)
  /-- CE_WRITEBACK (R467): A corrected word is written back in the bank's next free cycle and counted. -/
  | ceWriteback (bank : Fin 272) (ue : Fin 16)
  /-- SHM_ATOM_ADD (R469): The ADD atomic adds its operand to an aligned word and returns the old value. -/
  | shmAtomAdd (fn : Fn) (wide : Bool)
  /-- SHM_ATOM_SWAP (R469): The SWAP atomic writes its operand to an aligned word and returns the old value. -/
  | shmAtomSwap (fn : Fn) (wide : Bool)
  /-- SHM_CT_WRITE (R476): Contract WRITE sets C(m,g) from the next window, or is refused. -/
  | shmCtWrite (fn : Fn)
  /-- SHM_CT_READ (R476): Contract READ returns a contract and its group sum. -/
  | shmCtRead (fn : Fn)
  /-- CONTRACT_WINDOW_END (R474): At each 1,024-cycle window end unmet contracts count as misses. -/
  | contractWindowEnd (tick : BitVec 64) (waiting : List (Fin 21 × Fin 17))
  /-- SWEEP_GROUP_DONE (R478): A group's initialisation sweep completes and SWEPT is set, with SWEEP_DONE at the end. -/
  | sweepGroupDone (group : Fin 17)
  /-- WALK_ROW_START (R481): ROW_GAP_US after the last row the walker starts saving, testing and restoring the next row. -/
  | walkRowStart
  /-- WALK_ROW_DONE (R483): A row test ends, repairing a faulty row to a spare or degrading the bank. -/
  | walkRowDone (faulty : Bool)
  /-- WALK_STARVED (R482): A row stays in steps 1–3 beyond WALK_STALL_US and WALK_STARVED is posted. -/
  | walkStarved
  /-- SQ_DOORBELL (R497): A write of SQ_TAIL posts submission records, or is discarded as overflowing. -/
  | sqDoorbell (fn : Fn) (ring : Fin 16) (value : BitVec 32)
  /-- RING_FETCH (R498): The HIF fetches a submission record once a completion slot is reserved and in-flight limits allow. -/
  | ringFetch
  /-- RING_COMMAND (R501): A fetched command is presented to its block on a private register instance, or refused. -/
  | ringCommand (fn : Fn) (ring : Fin 16)
  /-- RING_COMPLETION (R504): A ring command completes and its completion record is written. -/
  | ringCompletion (slot : Fin 4096)
  /-- HIF_NOP (R506): The NOP window operation completes with no effect. -/
  | hifNop (fn : Fn)
  /-- HIF_COPY (R506): COPY moves bytes between SHM and host memory after a protection check. -/
  | hifCopy (fn : Fn)
  /-- PT_WRITE (R493): PT_WRITE writes a shadow protection-table entry. -/
  | ptWrite (fn : Fn)
  /-- PT_READ (R493): PT_READ reads a shadow or active protection-table entry. -/
  | ptRead (fn : Fn)
  /-- PT_COMMIT (R493): PT_COMMIT copies the shadow table to the active table and increments the epoch. -/
  | ptCommit (fn : Fn)
  /-- PT_COMMIT_DRAINED (R494): A DRAIN commit completes once no access or command of an older epoch remains. -/
  | ptCommitDrained
  /-- PT_ABORT (R493): PT_ABORT copies the active table back to the shadow. -/
  | ptAbort (fn : Fn)
  /-- SU_HOLD (R513): SU_HOLD increments a block's secure-use count, waking it if gated. -/
  | suHold (fn : Fn)
  /-- SU_RELEASE (R513): SU_RELEASE decrements the count and applies a deferred GATE when it reaches 0. -/
  | suRelease (fn : Fn)
  /-- PWR_REQ (R514): PWR_REQ records RELEASE, FORCE_ON or GATE for a block, deferred while held. -/
  | pwrReq (fn : Fn)
  /-- TX_DESCRIPTOR (R507): A transmit descriptor's frame is offered to its SCH queue or UBW, or fails. -/
  | txDescriptor
  /-- TX_COMPLETION (R507): A transmitted or discarded frame's 16-byte completion is written. -/
  | txCompletion
  /-- RX_DELIVERY (R508): A frame for a receive queue is written to a posted buffer with its completion, or dropped. -/
  | rxDelivery
  /-- IRQ_INTERVAL_END (R511): At the end of an ITR interval a pending vector condition sends its MSI-X message. -/
  | irqIntervalEnd (fn : Fn) (vector : Fin 32)
  /-- MMIO_SHM_ACCESS (R492): An MMIO access to the SHM aperture is checked and performed, or failed silently with recorded code. -/
  | mmioShmAccess (fn : Fn) (addr : BitVec 28) (act : MmioAct)
  /-- MMIO_MALFORMED (R602): A register-space request not of one aligned DW is discarded or returns ones and records REFUSED. -/
  | mmioMalformed (fn : Fn) (addr : BitVec 19) (write : Bool)
  /-- MMIO_READ_REFUSED (R607): A register read outside the function's reach returns 0 and records REFUSED. -/
  | mmioReadRefused (fn : Fn) (addr : BitVec 19)
  /-- HIF_LAT_TOL_WRITE (R512): A write of HIF_LAT_TOL updates the least latency tolerance and the LTR message. -/
  | hifLatTolWrite (fn : Fn) (value : BitVec 32)
  /-- FUNCTION_LEVEL_RESET (R515): An FLR disables the function's rings and returns its register copies to reset. -/
  | functionLevelReset (f : Fin 513)
  /-- PCIE_LINK_DOWN (R516): A PCIe link-down acts as FLR for every function and discards host DMA. -/
  | pcieLinkDown
  /-- PCIE_LINK_UP (R517): The PCIe link trains once Proofing has enabled the HIF. -/
  | pcieLinkUp (speed : Fin 5) (width : Fin 4) (vfs : Fin 512) (ltr : Bool)
  /-- STW_LOAD (R527): LOAD checks and applies an image when none is loaded. -/
  | stwLoad (fn : Fn)
  /-- STW_RESTRUCTURE (R532): RESTRUCTURE validates and stages an image for commit tick T, or is refused. -/
  | stwRestructure (fn : Fn) (src : Fin 4) (readOk : Bool)
  /-- RS_STAGED (R533): Validation and staging end before T − 20 ms and the restructure completes OK. -/
  | rsStaged
  /-- RS_LATE (R533): Staging has not ended by T − 20 ms, shadows are aborted and RS_FAILED posted. -/
  | rsLate
  /-- RS_APPLY (R534): At T ports go down, staged groups and the protection table commit and M is recomputed. -/
  | rsApply
  /-- RS_DONE (R534): The held writes are done, ports and SVE re-enabled, and RS_DONE posted. -/
  | rsDone
  /-- STW_ABORT (R533): ABORT before T discards the restructure and its shadows. -/
  | stwAbort (fn : Fn)
  /-- STW_VERIFY (R526): VERIFY runs checks 1–8 on an image and changes nothing. -/
  | stwVerify (fn : Fn) (src : Fin 4) (readOk : Bool)
  /-- STW_SVN_COMMIT (R529): SVN_COMMIT raises the fused SVN_MIN to the running image's svn. -/
  | stwSvnCommit (fn : Fn)
  /-- POWER_ON_RESET (R538): A monitored supply crosses its threshold and a COLD chip reset begins. -/
  | powerOnReset (vbat : Bool)
  /-- RESET_N_ASSERT (R542): An accepted RESET_N assertion puts the device in reset with pins high-Z and claim 0. -/
  | resetNAssert
  /-- RESET_N_RELEASE (R542): RESET_N deasserted for 4 µs releases the device into Proofing. -/
  | resetNRelease (heldMs : BitVec 32)
  /-- STUCK_RELEASE (R543): RESET_N held 8 s with RSTPIN_STUCK_M releases the device as source STUCK. -/
  | stuckRelease (heldMs : BitVec 32)
  /-- STUCK_CLEAR_COUNT (R543): RESET_N deasserted for 3,277 battery cycles clears STUCK_ACTIVE. -/
  | stuckClearCount
  /-- PERST_N (R538): PERST_N asserts and resets the HIF or, in PERST_MODE 1, the chip WARM. -/
  | perstN
  /-- RST_COLD_RESET (R538): RST_CMD COLD_RESET begins a COLD chip reset within 2 µs. -/
  | rstColdReset (fn : Fn)
  /-- RST_WARM_RESET (R540): RST_CMD WARM_RESET begins a WARM chip reset that keeps FRC and the clocks. -/
  | rstWarmReset (fn : Fn)
  /-- RST_OPT_WRITE (R548): OPT_WRITE writes the option bytes to the copy not in force and verifies it. -/
  | rstOptWrite (fn : Fn) (verified : Bool)
  /-- RST_CLEAR_STUCK (R543): CLEAR_STUCK clears the latched STUCK_RESET. -/
  | rstClearStuck (fn : Fn)
  /-- PROOFING_STEP_DONE (R544): A Proofing step's completion condition holds and, after its gap, the next step starts. -/
  | proofingStepDone (proof : ProofData)
  /-- PROOFING_TIMEOUT (R545): A Proofing step times out, using default options or restarting Proofing after 1 s. -/
  | proofingTimeout
  /-- GOVERNOR_DECISION (R552): Every 1 µs the governor chooses P0 or P1, engine gates, retention and deferred GATE application. -/
  | governorDecision (idle : IdleEngines)
  /-- ENGINE_WAKE (R554): A request to a clock-gated engine restarts its clock within 25.6 ns. -/
  | engineWake (engine : EngKind)
  /-- PWR_ENTER (R556): ENTER takes the device to P2, P3 or P4, or is refused. -/
  | pwrEnter (fn : Fn)
  /-- WAKE_EVENT (R557): An enabled wake source ends P2, P3 or P4. -/
  | wakeEvent (source : Fin 5)
  /-- FAULT_HIT (R563): A fault source hits and the collector logs it and orders its reaction within 51.2 ns. -/
  | faultHit (sources : List FltHit)
  /-- TMR_COMPARE (R571): The triplicated configuration is compared and a disagreement enters the safe state directly. -/
  | tmrCompare (mismatch : Option (BitVec 16))
  /-- READY_TIMEOUT (R567): A reset block does not report ready within READY_TIMEOUT_MS and its READY_TIMEOUT source hits. -/
  | readyTimeout (block : Fin 24)
  /-- SCLK_STOP (R640): SCLK stops and the collector moves to its RC oscillator, raising CLK_FALLBACK. -/
  | sclkStop
  /-- FLT_LOG_WRITE (R569): A fault record leaves the FIFO into the log ring when it has room. -/
  | fltLogWrite
  /-- FLT_SRC_WRITE (R574): SRC_WRITE sets a source's configuration, or is refused. -/
  | fltSrcWrite (fn : Fn)
  /-- FLT_SRC_READ (R574): SRC_READ fills FLT_SRC_CFG with a source's configuration. -/
  | fltSrcRead (fn : Fn)
  /-- FLT_BLOCK_RESET (R566): BLOCK_RESET orders a block reset and completes when the block is ready. -/
  | fltBlockReset (fn : Fn)
  /-- FLT_INJECT (R573): INJECT raises a source's hit at its detector, applied or recorded only. -/
  | fltInject (fn : Fn) (real : List FltHit)
  /-- FLT_LOCK (R574): LOCK locks the source configuration until chip reset. -/
  | fltLock (fn : Fn)
  /-- PMC_CNT_LO_READ (R580): A read of PMC_CNT_LO returns the low bits and latches the high bits. -/
  | pmcCntLoRead (fn : Fn)
  /-- PMC_WIN_CFG_WRITE (R582): A window-counter configuration write resets VALUE and WIN_SEQ within 64 ticks. -/
  | pmcWinCfgWrite (fn : Fn) (n : Fin 128) (reg : Fin 3) (value : BitVec 32)
  /-- PMC_WIN_VAL_LO_READ (R582): A read of PMC_WIN_VAL_LO latches VALUE high bits and WIN_SEQ. -/
  | pmcWinValLoRead (fn : Fn) (n : Fin 128)
  /-- PMC_WINDOW_END (R581): At each window boundary the ended window's count goes to VALUE and WIN_SEQ increments. -/
  | pmcWindowEnd
  /-- PMC_SNAPSHOT (R583): SNAPSHOT arms a capture of every counter at a tick, or is refused. -/
  | pmcSnapshot (fn : Fn) (frcTime : Bool)
  /-- PMC_SNAPSHOT_TICK (R583): The snapshot tick arrives and every counter is captured. -/
  | pmcSnapshotTick
  /-- PMC_SNAPSHOT_DONE (R583): The snapshot buffer is fully written and the command completes OK. -/
  | pmcSnapshotDone
  /-- MGP_EN (R587): A write of MGP_CFG EN starts the MAC, or is refused for 1 Gb/s half duplex. -/
  | mgpEn (fn : Fn) (value : BitVec 32)
  /-- MGP_LINK_CHANGE (R588): The management link goes UP or DOWN, the link-up or link-down of point 22. -/
  | mgpLinkChange (up : Bool) (speed : Fin 3) (full : Bool)
  /-- MDIO_START (R589): Writing START runs one Clause 22 read or write frame. -/
  | mdioStart (fn : Fn) (value : BitVec 32)
  /-- MDIO_DONE (R589): The MDIO frame ends, BUSY clears and read data is in DATA. -/
  | mdioDone (data : BitVec 16)
  /-- MGP_FRAME_RX (R592): A whole frame received on the management port is stamped and delivered by DMA, or dropped. -/
  | mgpFrameRx (tick : BitVec 64) (phase : Fin 32) (frame : List Byte) (codeErr : Bool)
  /-- MGP_FRAME_TX (R590): A management frame is sent with half-duplex deferral and backoff, or discarded after collisions. -/
  | mgpFrameTx (tick : BitVec 64) (phase : Fin 32) (collisions : Fin 17) (late : Bool) (deferred : Bool)
  /-- MGP_WAKE_MATCH (R596): A good frame matches a wake pattern, is counted and may wake the device. -/
  | mgpWakeMatch (frame : List Byte)
  /-- HEARTBEAT_SEEN (R424): Transitions appear on MATE_HB_IN after silence and HB_SEEN becomes 1, arming the fail-over trigger. -/
  | heartbeatSeen
  /-- SCLK_RETURN (R640): SCLK has been present again for 1 µs and the fault collector returns to it from its RC oscillator, RC_CLOCK reading 0. -/
  | sclkReturn
  deriving DecidableEq, Repr

end Sys2Proof
end

