-- ==== Sys2Proof/Decode.lean ====
section
/-! DEFINITION. The reading of a table word. The opcode table gives no row any bits: the device takes its commands as register
accesses, packets and events, never as instruction words. So no word spells a command. -/

namespace Sys2Proof

/-- The command that a word spells by the table's bits: none, since no row of the table has a field. -/
def decodeTableWord (_nbits _w : Nat) : Option Instr := none

end Sys2Proof
end

