-- ==== Sys2Proof/Config.lean ====
section
/-! DEFINITION. What one device or its makers fix and the manual leaves open: constants without a body, so that no proof sees their value. -/

namespace Sys2Proof.Config

/-- A value the manual leaves open, drawn by number (State.fresh counts the draws). -/
opaque freeBits (w : Nat) : Nat → BitVec w

/-- SHA-256 over an octet string. -/
opaque sha256 : Octets → BitVec 256
/-- SHA-384 over an octet string. -/
opaque sha384 : Octets → BitVec 384
/-- AES-CMAC or the KDF of the key store: derived key material of `w` bits from key, label and context. -/
opaque kdf (w : Nat) : Nat → Octets → BitVec w
/-- One AES-128 block under a key. -/
opaque aesBlock : Nat → Nat → BitVec 128
/-- The 128-bit GMAC tag under a key of a length in octets, a nonce and the covered octets. -/
opaque gmac : Nat → Nat → Octets → Octets → BitVec 128
/-- HMAC-SHA-256 under a key. -/
opaque hmac : Nat → Octets → BitVec 256
/-- AES-SIV-CMAC-256 sealing under a key, with associated data, nonce and plaintext: synthetic IV and ciphertext. -/
opaque sivSeal : Nat → Octets → Octets → Octets → BitVec 128 × Octets
/-- AES-SIV-CMAC-256 opening, with associated data, nonce, synthetic IV and ciphertext: the plaintext if the synthetic IV verifies. -/
opaque sivOpen : Nat → Octets → Octets → BitVec 128 → Octets → Option Octets
/-- ECDSA P-384 signature check: public key, message, signature. -/
opaque ecdsaOk : Octets → Octets → Octets → Bool
/-- ML-DSA-65 signature check: public key, context string, message, signature. -/
opaque mldsaOk : Octets → Octets → Octets → Octets → Bool

/-- The identity public keys of a root generation: the ECDSA P-384 point (97 octets), then the ML-DSA-65 key (1,952 octets). -/
opaque idPub : Nat → Octets
/-- An ECDSA P-384 signature (96 octets) by the identity key of a root generation. -/
opaque idEcdsa : Nat → Octets → BitVec 768
/-- An ML-DSA-65 signature (3,309 octets) by the identity key of a root generation, with a context string. -/
opaque idMldsa : Nat → Octets → Octets → Octets
/-- The identity's ECDH P-384 public key (97 octets) and ML-KEM-768 encapsulation key (1,184 octets) of a root generation. -/
opaque idEcdh : Nat → Octets
opaque idMlkem : Nat → Octets
/-- The x-coordinate of the ECDH product of an ephemeral key and the identity key of a root generation; the ML-KEM-768 decapsulation of a ciphertext under
it (R456). -/
opaque idEcdhX : Nat → Octets → BitVec 384
opaque idDecaps : Nat → Octets → BitVec 256
/-- The device serial number, the signatures of the endorsement keys, and the endorsement certificate chain (R452, R453). -/
opaque serial : BitVec 64
opaque ekEcdsa : Octets → BitVec 768
opaque ekMldsa : Octets → Octets → Octets
opaque ekChain : Octets
/-- Nougat's fit (R152): forgetting time in days, whether the temperature terms are fitted, and the samples (tick, offset, temperature in
m°C). Gives Y0, D, TC1, TC2, SIGMA and SIGMA_D in their registers' units. -/
opaque nougatFit : Nat → Bool → List (Nat × Rat × Int) → Int × Int × Int × Int × Nat × Nat

/-- Would the insertion of a key into the client directory need more than 128 displacements (R306)? Given the contexts whose keys the directory holds,
and the key. -/
opaque dirFull : List Nat → Octets → Bool
/-- The device's own MAC address on a serving port, and its IPv4 and IPv6 addresses there. -/
opaque portMac : Nat → BitVec 48
opaque portIp4 : Nat → BitVec 32
opaque portIp6 : Nat → BitVec 128
/-- Octets 1 and 4 to 8 of the IPv4 header (DSCP, identification, flags, TTL) and the traffic class, flow label and hop limit of the IPv6 header
that the device sends. -/
opaque ip4Fields : BitVec 48
opaque ip6Fields : BitVec 40

/-- D_in of a stamp point in ps, fused at manufacture (R192). -/
opaque dIn : Nat → Rat
/-- PKG_TX and PKG_RX of a calibrated point in ps, fused per lane (R208). -/
opaque pkgTx : Nat → Rat
opaque pkgRx : Nat → Rat

/-- The SHA-384 of the Bimevin ROM's contents and the ROM's identifier (R528, Table 19.9), and the digest of the image key fused at manufacture (R526). -/
opaque romDigest : BitVec 384
opaque romId : BitVec 32
opaque imageKey : BitVec 384

end Sys2Proof.Config
end

