-- ==== Sys2Proof/Machine/Bits.lean ====
section
/-! DEFINITION. Sparse tables in one canonical form, register descriptors, and the arithmetic helpers of the manual's formats:
two's complement, saturation, octet order, CRC-16 (R184) and CRC-32. -/

namespace Sys2Proof.Machine

/-! ### Sparse tables: keys strictly rising -/

/-- A sparse table, keys strictly rising. -/
abbrev Tbl (α : Type) := List (Nat × α)

/-- The entry at a key. -/
def tget {α : Type} : Tbl α → Nat → Option α
  | [], _ => none
  | (k, v) :: t, n => if n = k then some v else if n < k then none else tget t n

/-- The entry at a key, or a default. -/
def tgetD {α : Type} (t : Tbl α) (n : Nat) (d : α) : α := (tget t n).getD d

/-- Store an entry, keeping the keys strictly rising. -/
def tset {α : Type} : Tbl α → Nat → α → Tbl α
  | [], n, v => [(n, v)]
  | (k, w) :: t, n, v =>
    if n < k then (n, v) :: (k, w) :: t
    else if n = k then (n, v) :: t
    else (k, w) :: tset t n v

/-- Remove an entry. -/
def tdel {α : Type} : Tbl α → Nat → Tbl α
  | [], _ => []
  | (k, w) :: t, n => if n = k then t else if n < k then (k, w) :: t else (k, w) :: tdel t n

/-- Keep the entries whose key and value satisfy a test. -/
def tfilter {α : Type} (p : Nat → α → Bool) (t : Tbl α) : Tbl α := t.filter fun e => p e.1 e.2

/-- Change every value. -/
def tmap {α : Type} (f : Nat → α → α) (t : Tbl α) : Tbl α := t.map fun e => (e.1, f e.1 e.2)

/-- Change the value at a key, starting from a default. -/
def tupd {α : Type} (t : Tbl α) (n : Nat) (d : α) (f : α → α) : Tbl α := tset t n (f (tgetD t n d))

/-- The keys of a table are strictly rising. -/
def twf {α : Type} : Tbl α → Bool
  | [] => true
  | [_] => true
  | (k, _) :: (l, v) :: t => decide (k < l) && twf ((l, v) :: t)

/-! ### Registers -/

/-- Access types of R5. -/
inductive Acc where
  | rw | ro | wo | w1c | w1s | sh | rws | lk
  deriving DecidableEq, Repr

/-- What a field stores when a value outside its range is written (the field tables): values below `lo` store `below`,
values above `hi` store `above`. -/
structure Clamp where
  lo : Nat
  hi : Nat
  below : Nat
  above : Nat
  deriving DecidableEq, Repr

/-- One field of a register. `bat`: kept by the battery or fuses and not cleared by a chip reset. -/
structure Fld where
  lo : Nat
  w : Nat
  acc : Acc
  rst : Nat
  clamp : Option Clamp
  bat : Bool
  deriving DecidableEq, Repr

/-- One register, or an array of registers: offset, (count, stride) for each index, whether it is "per function", fields. -/
structure RegDesc where
  off : Nat
  dims : List (Nat × Nat)
  perFn : Bool
  flds : List Fld
  deriving DecidableEq, Repr

def rg (off : Nat) (dims : List (Nat × Nat)) (perFn : Bool) (flds : List Fld) : RegDesc := ⟨off, dims, perFn, flds⟩
def fd (lo w : Nat) (acc : Acc) (rst : Nat) : Fld := ⟨lo, w, acc, rst, none, false⟩
def fbt (lo w : Nat) (acc : Acc) (rst : Nat) : Fld := ⟨lo, w, acc, rst, none, true⟩
def fnm (lo w : Nat) (acc : Acc) (rst nlo nhi below above : Nat) (bat : Bool) : Fld :=
  ⟨lo, w, acc, rst, some ⟨nlo, nhi, below, above⟩, bat⟩

/-- A field by name: its block, its register's offset, its place in the register and its reset value. -/
structure FieldRef where
  blk : Blk
  off : Nat
  lo : Nat
  w : Nat
  rst : Nat
  deriving DecidableEq, Repr

/-- The key of a field in a register file: copy 0 is the shared copy, copy F + 1 function F's copy (R605). -/
def FieldRef.key (f : FieldRef) (copy : Nat) : Nat :=
  ((copy * 32 + f.blk.code) * 0x4000 + f.off) * 32 + f.lo

/-- Is an offset one of the registers of an array? -/
def dimsHit : List (Nat × Nat) → Nat → Bool
  | [], d => d == 0
  | (c, st) :: rest, d => (List.range c).any fun i => decide (i * st ≤ d) && dimsHit rest (d - i * st)

def RegDesc.hit (r : RegDesc) (off : Nat) : Bool :=
  decide (r.off ≤ off) && dimsHit r.dims (off - r.off)

/-! ### Numbers -/

/-- The signed value of the low `w` bits of `n`. -/
def sgn (w n : Nat) : Int :=
  let m := n % 2 ^ w
  if m < 2 ^ (w - 1) then (m : Int) else (m : Int) - (2 ^ w : Nat)

/-- The low `w` bits of a signed value. -/
def uns (w : Nat) (i : Int) : Nat := (i % ((2 ^ w : Nat) : Int)).toNat

/-- A signed value held to [-2^(w-1), 2^(w-1) - 1]. -/
def satS (w : Nat) (i : Int) : Int :=
  let h : Int := ((2 ^ (w - 1) : Nat) : Int)
  if i < -h then -h else if h - 1 < i then h - 1 else i

/-- An unsigned value held to its largest `w`-bit value. -/
def satU (w n : Nat) : Nat := if n < 2 ^ w then n else 2 ^ w - 1

/-- Bits [lo + w - 1 : lo] of a number. -/
def bits (n lo w : Nat) : Nat := n / 2 ^ lo % 2 ^ w

/-- One bit of a number. -/
def bitOf (n i : Nat) : Bool := n / 2 ^ i % 2 == 1

/-- A number with one bit set. -/
def setBitN (n i : Nat) : Nat := if bitOf n i then n else n + 2 ^ i

/-- A number with one bit cleared. -/
def clrBitN (n i : Nat) : Nat := if bitOf n i then n - 2 ^ i else n

/-- Rounding up to a whole quotient. -/
def ceilDiv (a b : Nat) : Nat := (a + b - 1) / b

/-- Rounding to nearest, halves away from zero. -/
def roundDiv (a : Int) (b : Nat) : Int :=
  if 0 ≤ a then ((2 * a + b) / (2 * b : Int)) else -((2 * (-a) + b) / (2 * b : Int))

def b2n (b : Bool) : Nat := if b then 1 else 0

/-- Distance from `b` up to `a` in a counter of `w` bits that wraps. -/
def wsub (w a b : Nat) : Nat := (a + 2 ^ w - b % 2 ^ w) % 2 ^ w

/-! ### Octets -/

/-- The value of an octet, most significant octet first. -/
def ofBe (o : Octets) : Nat := o.foldl (fun a b => a * 256 + b.toNat) 0

/-- The value of an octet string, least significant octet first. -/
def ofLe : Octets → Nat
  | [] => 0
  | b :: t => b.toNat + 256 * ofLe t

/-- `n` octets of a value, least significant first. -/
def leBytes : Nat → Nat → Octets
  | 0, _ => []
  | n + 1, v => BitVec.ofNat 8 v :: leBytes n (v / 256)

/-- `n` octets of a value, most significant first. -/
def beBytes (n v : Nat) : Octets := (leBytes n v).reverse

/-- `n` octets from offset `i`. -/
def slice (o : Octets) (i n : Nat) : Octets := (o.drop i).take n

/-- One octet as a number, 0 beyond the end. -/
def byteAt (o : Octets) (i : Nat) : Nat := ((o[i]?).getD 0).toNat

/-- `n` octets of 0. -/
def zeros (n : Nat) : Octets := List.replicate n 0

/-- An octet string cut or filled with 0 to `n` octets. -/
def padTo (n : Nat) (o : Octets) : Octets := (o ++ zeros (n - o.length)).take n

/-- Replace octets from offset `i`. -/
def splice (o : Octets) (i : Nat) (p : Octets) : Octets := o.take i ++ p ++ o.drop (i + p.length)

/-- Octets from a list of numbers. -/
def oct (l : List Nat) : Octets := l.map (BitVec.ofNat 8)

/-- One bit of a CRC shifted left. -/
def crcStep (w poly : Nat) : Nat → Nat → Nat
  | 0, c => c
  | k + 1, c => crcStep w poly k (if c < 2 ^ (w - 1) then (2 * c) % 2 ^ w else ((2 * c) % 2 ^ w) ^^^ poly)

/-- An unreflected CRC of `w` bits, 8 ≤ w. -/
def crcMsb (w poly init : Nat) (o : Octets) : Nat :=
  o.foldl (fun c b => crcStep w poly 8 (c ^^^ (b.toNat * 2 ^ (w - 8)))) init

/-- One bit of a reflected CRC shifted right. -/
def crcStepR (poly : Nat) : Nat → Nat → Nat
  | 0, c => c
  | k + 1, c => crcStepR poly k (if c % 2 = 1 then (c / 2) ^^^ poly else c / 2)

/-- The CRC-32 of IEEE 802.3 over an octet string. -/
def crc32 (o : Octets) : Nat :=
  (o.foldl (fun c b => crcStepR 0xEDB88320 8 (c ^^^ b.toNat)) 0xFFFFFFFF) ^^^ 0xFFFFFFFF

end Sys2Proof.Machine
end

