-- ==== Sys2Proof/Machine/RegsA.lean ====
section
/-! DEFINITION. The register map of the blocks TB, BND, REF, SRV: one row per register of the maps and field tables of spec/02 to spec/23
(offsets, array strides, "per function", fields with access type, reset value and storing rule), and one `FieldRef` name per field.
Transcribed from the tables of the manual; the address counts agree with Table 24.2 (R604). -/

namespace Sys2Proof.Machine

/-- Registers of TB, part 0. -/
def regsTB0 : List RegDesc := [
  rg 0x0 [] false [fd 0 2 .ro 0, fd 2 1 .ro 0, fd 16 11 .ro 0],
  rg 0x4 [] true [fd 0 10 .w1c 0],
  rg 0x8 [] true [fd 0 10 .rw 0],
  rg 0x10 [] true [fd 0 32 .ro 0],
  rg 0x14 [] true [fd 0 32 .ro 0],
  rg 0x20 [] false [fd 0 32 .sh 0],
  rg 0x24 [] false [fd 0 16 .sh 0],
  rg 0x28 [] false [fd 0 2 .rw 0, fd 4 1 .w1s 0, fd 5 1 .w1s 0, fd 8 1 .ro 0],
  rg 0x30 [] false [fd 0 32 .rw 0],
  rg 0x34 [] false [fd 0 32 .rw 0],
  rg 0x38 [] false [fd 0 10 .rw 0, fd 16 1 .rw 0],
  rg 0x40 [] true [fd 0 10 .wo 0, fd 31 1 .wo 0],
  rg 0x44 [] true [fd 0 32 .ro 0],
  rg 0x48 [] true [fd 0 2 .ro 0, fd 2 1 .ro 0, fd 3 1 .ro 0, fd 4 1 .ro 0, fd 5 1 .ro 0, fd 6 1 .ro 0, fd 16 10 .ro 0],
  rg 0x4C [] true [fd 0 32 .ro 0],
  rg 0x50 [] true [fd 0 32 .ro 0],
  rg 0x54 [] true [fd 0 16 .ro 0, fd 16 16 .ro 0],
  rg 0x58 [] true [fd 0 16 .ro 0, fd 16 16 .ro 0],
  rg 0x5C [] true [fd 0 32 .ro 0],
  rg 0x60 [] true [fd 0 32 .ro 0],
  rg 0x64 [] true [fd 0 8 .ro 0],
  rg 0x100 [] true [fd 0 10 .rw 0],
  rg 0x104 [] true [fd 0 2 .ro 0, fd 2 1 .ro 0, fd 3 1 .ro 0, fd 4 1 .ro 0, fd 5 1 .ro 0, fd 8 8 .ro 0, fd 16 4 .ro 0],
  rg 0x108 [] false [fd 0 1 .lk 1, fd 1 1 .lk 1, fd 4 9 .lk 0, fd 15 17 .rw 500]]

/-- Registers of TB, part 1. -/
def regsTB1 : List RegDesc := [
  rg 0x10C [] false [fd 0 32 .rw 1000000],
  rg 0x110 [] true [fd 0 32 .ro 0],
  rg 0x114 [] true [fd 0 32 .ro 0],
  rg 0x118 [] true [fd 0 32 .ro 0],
  rg 0x11C [] true [fd 0 32 .ro 0],
  rg 0x120 [] true [fd 0 32 .ro 0],
  rg 0x124 [] true [fd 0 32 .ro 0],
  rg 0x128 [] true [fd 0 32 .ro 0],
  rg 0x12C [] true [fd 0 32 .ro 0],
  rg 0x130 [] true [fd 0 32 .ro 0],
  rg 0x134 [] true [fd 0 32 .ro 0],
  rg 0x138 [] true [fd 0 16 .ro 0],
  rg 0x13C [] true [fd 0 32 .ro 0],
  rg 0x140 [] true [fd 0 16 .ro 0],
  rg 0x144 [] true [fd 0 32 .ro 0],
  rg 0x148 [] true [fd 0 32 .ro 0],
  rg 0x14C [] true [fd 0 32 .ro 0],
  rg 0x150 [] true [fd 0 32 .ro 0],
  rg 0x154 [] true [fd 0 16 .ro 0, fd 16 16 .ro 0],
  rg 0x160 [] true [fd 0 32 .rw 0],
  rg 0x164 [] true [fd 0 32 .rw 0],
  rg 0x168 [] true [fd 0 32 .rw 0],
  rg 0x16C [] true [fd 0 32 .rw 0],
  rg 0x170 [] true [fd 0 32 .rw 0]]

/-- Registers of TB, part 2. -/
def regsTB2 : List RegDesc := [
  rg 0x174 [] true [fd 0 32 .rw 0],
  rg 0x178 [] true [fd 0 4 .wo 0, fd 4 3 .wo 0, fd 8 1 .wo 0, fd 9 1 .wo 0, fd 10 2 .wo 0],
  rg 0x17C [] true [fd 0 8 .ro 0, fd 8 1 .ro 0, fd 16 3 .ro 0],
  rg 0x180 [(8, 0x8)] true [fd 0 32 .ro 0],
  rg 0x184 [(8, 0x8)] true [fd 0 32 .ro 0],
  rg 0x1C0 [] true [fd 0 17 .ro 0],
  rg 0x1C4 [] true [fd 0 32 .ro 0],
  rg 0x1C8 [] true [fd 0 16 .ro 0]]

/-- The register map of TB. -/
def regsTB : List RegDesc := regsTB0 ++ regsTB1 ++ regsTB2

/-- Registers of BND, part 0. -/
def regsBND0 : List RegDesc := [
  rg 0x0 [] false [fd 0 1 .ro 0, fd 1 1 .ro 0, fd 2 1 .ro 0, fd 8 4 .ro 0],
  rg 0x4 [] true [fd 0 7 .w1c 0],
  rg 0x8 [] true [fd 0 7 .rw 0],
  rg 0xC [] false [fd 0 1 .rw 0],
  rg 0x10 [] false [fd 0 32 .sh 4294967295],
  rg 0x14 [] false [fd 0 8 .sh 255],
  rg 0x18 [] false [fd 0 32 .sh 0],
  rg 0x1C [] false [fd 0 8 .sh 0],
  rg 0x20 [] false [fd 0 32 .sh 0],
  rg 0x24 [] false [fd 0 32 .sh 0],
  rg 0x28 [] false [fd 0 32 .sh 0],
  rg 0x2C [] false [fd 0 16 .sh 0],
  rg 0x30 [] false [fd 0 32 .sh 0],
  rg 0x34 [] false [fd 0 16 .sh 512],
  rg 0x38 [] false [fd 0 32 .rw 604800],
  rg 0x40 [] false [fd 0 24 .rw 0],
  rg 0x44 [] false [fd 0 24 .rw 1],
  rg 0x48 [] false [fd 0 1 .rw 0, fd 1 1 .rw 0, fd 2 1 .rw 0, fd 3 1 .rw 0],
  rg 0x80 [] true [fd 0 10 .rw 0],
  rg 0x84 [] true [fd 0 32 .rw 0],
  rg 0x88 [] true [fd 0 32 .rw 0],
  rg 0x8C [] true [fd 0 32 .rw 0],
  rg 0x90 [] true [fd 0 32 .rw 0],
  rg 0x94 [] true [fd 0 32 .rw 0]]

/-- Registers of BND, part 1. -/
def regsBND1 : List RegDesc := [
  rg 0x98 [] true [fd 0 32 .rw 0],
  rg 0x9C [] true [fd 31 1 .wo 0],
  rg 0xA0 [] true [fd 0 8 .ro 0, fd 8 1 .ro 0],
  rg 0xA4 [] true [fd 0 32 .ro 0],
  rg 0xA8 [] true [fd 0 32 .ro 0],
  rg 0xB0 [] false [fbt 0 32 .ro 0],
  rg 0xB4 [] false [fbt 0 32 .ro 0],
  rg 0x100 [] false [fd 0 16 .ro 0],
  rg 0x110 [(22, 0x10)] false [fd 0 16 .ro 65535],
  rg 0x270 [] false [fd 0 16 .ro 0],
  rg 0x104 [(24, 0x10)] false [fd 0 16 .rw 0, fd 16 16 .rw 0],
  rg 0x108 [] false [fd 0 16 .rw 65535, fd 16 1 .ro 0],
  rg 0x118 [(22, 0x10)] false [fd 0 16 .rw 65535, fd 16 1 .ro 1],
  rg 0x278 [] false [fd 0 16 .rw 65535, fd 16 1 .ro 0],
  rg 0x10C [(24, 0x10)] false [fd 0 32 .ro 4294967295],
  rg 0x1000 [(1024, 0x4)] false [fd 0 32 .rw 0]]

/-- The register map of BND. -/
def regsBND : List RegDesc := regsBND0 ++ regsBND1

/-- Registers of REF, part 0. -/
def regsREF0 : List RegDesc := [
  rg 0x0 [] false [fd 0 6 .ro 0, fd 8 6 .ro 0],
  rg 0x4 [] true [fd 0 11 .w1c 0],
  rg 0x8 [] true [fd 0 11 .rw 0],
  rg 0xC [] false [fd 0 1 .rw 1, fd 1 1 .ro 0],
  rg 0x10 [] false [fd 0 32 .rw 0],
  rg 0x14 [] false [fd 0 16 .rw 0],
  rg 0x18 [] false [fd 0 32 .ro 0],
  rg 0x20 [] false [fd 0 32 .rw 0],
  rg 0x24 [] false [fd 0 32 .rw 0],
  rg 0x100 [(4, 0x40)] false [fd 0 16 .rw 2000, fd 16 16 .rw 20000],
  rg 0x104 [(4, 0x40)] false [fd 0 16 .rw 50, fd 16 16 .rw 500],
  rg 0x108 [(4, 0x40)] false [fnm 0 16 .rw 100 1 3600 1 3600 false, fnm 16 16 .rw 60 1 65535 1 65535 false],
  rg 0x10C [(4, 0x40)] false [fnm 0 16 .rw 300 0 3600 0 3600 false, fnm 16 4 .rw 3 1 15 1 15 false],
  rg 0x110 [(4, 0x40)] false [fd 0 16 .rw 100, fd 16 16 .rw 1000],
  rg 0x114 [(4, 0x40)] false [fd 0 16 .rw 200, fd 16 16 .rw 2000],
  rg 0x118 [(4, 0x40)] false [fd 0 16 .rw 500, fd 16 16 .rw 5000],
  rg 0x11C [(4, 0x40)] false [fd 0 16 .rw 1000, fd 16 16 .rw 10000],
  rg 0x120 [(4, 0x40)] false [fd 0 16 .rw 50, fd 16 16 .rw 500],
  rg 0x124 [(4, 0x40)] false [fd 0 16 .rw 100, fd 16 16 .rw 1000],
  rg 0x128 [(4, 0x40)] false [fd 0 16 .rw 200, fd 16 16 .rw 2000],
  rg 0x12C [(4, 0x40)] false [fd 0 16 .rw 500, fd 16 16 .rw 5000],
  rg 0x200 [] false [fnm 0 2 .rw 2 0 2 0 2 false, fd 2 1 .rw 0, fd 3 1 .rw 0, fd 4 1 .rw 0, fd 5 5 .rw 0, fd 16 16 .rw 500],
  rg 0x220 [(5, 0x20)] false [fnm 0 2 .rw 0 0 2 0 2 false, fd 2 1 .rw 0, fd 3 1 .rw 0, fd 4 1 .rw 0, fd 5 5 .rw 0, fd 16 16 .rw 500],
  rg 0x204 [(6, 0x20)] false [fd 0 32 .rw 0]]

/-- Registers of REF, part 1. -/
def regsREF1 : List RegDesc := [
  rg 0x208 [(6, 0x20), (4, 0x4)] false [fd 0 4 .rw 15, fd 4 4 .rw 15, fd 8 4 .rw 15, fd 12 4 .rw 15, fd 16 4 .rw 15, fd 20 4 .rw 15, fd 24 4 .rw 15, fd 28 4 .rw 15],
  rg 0x218 [(6, 0x20)] false [fd 0 3 .ro 0, fd 8 5 .ro 0, fd 16 5 .ro 0, fd 21 1 .ro 0],
  rg 0x21C [(6, 0x20)] false [fd 0 32 .ro 0],
  rg 0x400 [(32, 0x40)] false [fd 0 1 .rw 0, fd 1 1 .rw 1, fd 2 1 .rw 0, fd 3 1 .rw 0, fd 4 2 .rw 0, fnm 8 3 .rw 0 0 4 0 0 false, fd 12 4 .rw 15, fd 16 1 .rw 0, fnm 24 8 .rw 12 1 255 1 255 false],
  rg 0x404 [(8, 0x40)] false [fd 0 32 .rw 0],
  rg 0x604 [(16, 0x40)] false [fd 0 32 .ro 1562500],
  rg 0xA04 [(4, 0x40)] false [fd 0 32 .ro 0],
  rg 0xB04 [] false [fd 0 32 .rw 0],
  rg 0xB44 [(3, 0x40)] false [fd 0 32 .ro 0],
  rg 0x408 [(32, 0x40)] false [fd 0 3 .ro 0, fd 4 3 .ro 0, fd 8 4 .ro 15, fd 16 1 .ro 0, fd 17 1 .ro 0, fd 18 1 .ro 0, fd 19 1 .ro 0, fd 20 1 .ro 0, fd 21 1 .ro 0, fd 22 1 .ro 0],
  rg 0x40C [(32, 0x40)] false [fd 0 32 .ro 0],
  rg 0x410 [(32, 0x40)] false [fd 0 32 .ro 0],
  rg 0x414 [(32, 0x40)] false [fd 0 32 .ro 0],
  rg 0x418 [(32, 0x40)] false [fd 0 16 .ro 0, fd 16 16 .ro 0],
  rg 0x41C [(32, 0x40)] false [fd 0 16 .ro 0, fd 16 16 .ro 0],
  rg 0x420 [(32, 0x40)] false [fd 0 16 .ro 0, fd 16 16 .ro 0],
  rg 0x424 [(32, 0x40)] false [fd 0 16 .ro 0, fd 16 16 .ro 0],
  rg 0x428 [(8, 0x40)] false [fd 0 32 .rw 4294967295],
  rg 0x628 [(17, 0x40)] false [fd 0 32 .ro 4294967295],
  rg 0xA68 [] false [fd 0 32 .rw 4294967295],
  rg 0xAA8 [(6, 0x40)] false [fd 0 32 .ro 4294967295],
  rg 0x42C [(8, 0x40)] false [fd 0 8 .rw 255],
  rg 0x62C [(17, 0x40)] false [fd 0 8 .ro 255],
  rg 0xA6C [] false [fd 0 8 .rw 255]]

/-- Registers of REF, part 2. -/
def regsREF2 : List RegDesc := [
  rg 0xAAC [(6, 0x40)] false [fd 0 8 .ro 255],
  rg 0x430 [(32, 0x40)] false [fd 0 32 .ro 4294967295],
  rg 0x434 [(32, 0x40)] false [fd 0 8 .ro 255],
  rg 0x438 [(32, 0x40)] false [fd 0 4 .ro 15, fd 8 8 .ro 255, fd 16 8 .ro 255, fd 24 8 .ro 254],
  rg 0x43C [(32, 0x40)] false [fd 0 16 .ro 65535, fd 16 8 .ro 0, fd 24 8 .ro 0]]

/-- The register map of REF. -/
def regsREF : List RegDesc := regsREF0 ++ regsREF1 ++ regsREF2

/-- Registers of SRV, part 0. -/
def regsSRV0 : List RegDesc := [
  rg 0x0 [] false [fd 0 3 .ro 0, fd 3 2 .ro 2, fd 5 1 .ro 0, fd 6 1 .ro 0, fd 7 1 .ro 0, fd 8 1 .ro 0, fd 9 1 .ro 0, fd 10 1 .ro 0, fd 11 1 .ro 0, fd 16 5 .ro 0, fd 21 1 .ro 0],
  rg 0x4 [] true [fd 0 14 .w1c 0],
  rg 0x8 [] true [fd 0 14 .rw 0],
  rg 0xC [] false [fd 0 1 .rw 0, fnm 1 4 .rw 4 0 10 0 10 false, fnm 8 8 .rw 4 1 255 1 255 false],
  rg 0x10 [] false [fnm 0 17 .rw 1000 1 100000 1 100000 false],
  rg 0x14 [] false [fnm 0 17 .rw 1 1 100000 1 100000 false],
  rg 0x18 [] false [fd 0 17 .ro 1000],
  rg 0x1C [] false [fd 0 16 .rw 20, fd 16 16 .rw 60],
  rg 0x20 [] false [fnm 0 16 .rw 300 1 65535 1 65535 false, fd 16 8 .rw 5],
  rg 0x24 [] false [fd 0 32 .rw 1000000],
  rg 0x28 [] false [fd 0 32 .ro 0],
  rg 0x2C [] false [fd 0 32 .ro 0],
  rg 0x30 [] false [fd 0 32 .ro 0],
  rg 0x34 [] false [fd 0 32 .ro 0],
  rg 0x38 [] false [fd 0 32 .rw 0],
  rg 0x3C [] false [fd 0 16 .rw 0],
  rg 0x40 [] false [fd 0 32 .rw 4294967295],
  rg 0x44 [] false [fd 0 16 .ro 0, fd 16 16 .ro 0],
  rg 0x60 [] true [fd 0 32 .rw 0],
  rg 0x64 [] true [fd 0 32 .rw 0],
  rg 0x68 [] true [fd 0 4 .wo 0],
  rg 0x6C [] true [fd 0 8 .ro 0, fd 8 1 .ro 0],
  rg 0x80 [] false [fd 0 1 .rw 0, fd 1 1 .rw 0, fd 2 1 .rw 0, fd 3 1 .rw 1, fnm 4 2 .rw 1 0 2 0 0 false, fd 6 2 .rw 0, fd 16 16 .rw 600],
  rg 0x84 [] false [fnm 0 16 .rw 512 256 65535 256 65535 false]]

/-- Registers of SRV, part 1. -/
def regsSRV1 : List RegDesc := [
  rg 0x88 [] false [fd 0 2 .ro 0, fd 2 2 .ro 0, fd 4 12 .ro 0, fd 16 12 .ro 0],
  rg 0x8C [] false [fnm 0 8 .rw 72 1 255 1 255 false, fnm 8 8 .rw 168 1 255 1 255 false, fnm 16 8 .rw 30 1 255 1 255 false, fd 24 4 .rw 3],
  rg 0x90 [(2, 0x20)] false [fd 0 32 .ro 0],
  rg 0x94 [(2, 0x20)] false [fd 0 32 .ro 0],
  rg 0x98 [(2, 0x20)] false [fd 0 32 .ro 0],
  rg 0x9C [(2, 0x20)] false [fd 0 32 .ro 0],
  rg 0xA0 [(2, 0x20)] false [fd 0 32 .ro 4294967295],
  rg 0xA4 [(2, 0x20)] false [fd 0 32 .ro 4294967295],
  rg 0xA8 [] false [fd 0 32 .rw 2814750],
  rg 0xC8 [] false [fd 0 32 .rw 14074],
  rg 0xAC [] false [fd 0 32 .rw 47223665],
  rg 0xCC [] false [fd 0 32 .rw 472237],
  rg 0xD0 [(2, 0x4)] false [fd 0 32 .ro 0],
  rg 0xD8 [(2, 0x4)] false [fd 0 32 .ro 0],
  rg 0xE0 [(2, 0x4)] false [fd 0 32 .rw 0],
  rg 0xE8 [] false [fd 0 1 .ro 0, fd 1 1 .w1c 0, fd 2 1 .ro 0, fd 16 16 .ro 0],
  rg 0xEC [] false [fd 0 1 .rw 0, fd 1 7 .rw 0, fd 8 4 .rw 0, fd 12 4 .rw 0, fnm 16 2 .rw 2 0 2 0 2 false, fd 18 1 .rw 0, fd 19 1 .rw 0, fnm 20 12 .rw 60 1 4095 1 4095 false],
  rg 0xF0 [] false [fd 0 32 .rw 100000],
  rg 0xF4 [] false [fd 0 32 .rw 2147483647],
  rg 0xF8 [] false [fd 0 32 .ro 0],
  rg 0xFC [] false [fd 0 32 .rw 100],
  rg 0x100 [(4, 0x4)] false [fd 0 8 .rw 0, fd 8 8 .rw 0, fd 16 8 .rw 0, fd 24 8 .rw 0],
  rg 0x200 [(5, 0x20)] false [fd 0 1 .rw 0, fd 1 1 .rw 0, fd 2 1 .rw 1, fd 16 16 .rw 100],
  rg 0x204 [(5, 0x20)] false [fnm 0 17 .rw 10000 1 100000 1 100000 false]]

/-- Registers of SRV, part 2. -/
def regsSRV2 : List RegDesc := [
  rg 0x208 [(5, 0x20)] false [fnm 0 17 .rw 1000 1 100000 1 100000 false],
  rg 0x20C [(5, 0x20)] false [fd 0 17 .ro 10000],
  rg 0x210 [(5, 0x20)] false [fd 0 3 .ro 0, fd 3 1 .ro 0, fd 4 5 .ro 0, fd 9 1 .ro 0],
  rg 0x214 [(5, 0x20)] false [fd 0 32 .ro 0],
  rg 0x218 [(5, 0x20)] false [fd 0 32 .sh 0],
  rg 0x21C [(5, 0x20)] false [fd 0 16 .sh 0]]

/-- The register map of SRV. -/
def regsSRV : List RegDesc := regsSRV0 ++ regsSRV1 ++ regsSRV2

namespace F

def TB_STATUS_VC0_STATE : FieldRef := ⟨.tb, 0x0, 0, 2, 0⟩
def TB_STATUS_FRC_RUN : FieldRef := ⟨.tb, 0x0, 2, 1, 0⟩
def TB_STATUS_RATIFIED_COUNT : FieldRef := ⟨.tb, 0x0, 16, 11, 0⟩
def TB_EVT_STATUS : FieldRef := ⟨.tb, 0x4, 0, 10, 0⟩
def TB_EVT_EN : FieldRef := ⟨.tb, 0x8, 0, 10, 0⟩
def TB_FRC_LO : FieldRef := ⟨.tb, 0x10, 0, 32, 0⟩
def TB_FRC_HI : FieldRef := ⟨.tb, 0x14, 0, 32, 0⟩
def TB_VC0_RATE_LO : FieldRef := ⟨.tb, 0x20, 0, 32, 0⟩
def TB_VC0_RATE_HI : FieldRef := ⟨.tb, 0x24, 0, 16, 0⟩
def TB_CG0_CTRL_KIND : FieldRef := ⟨.tb, 0x28, 0, 2, 0⟩
def TB_CG0_CTRL_ARM : FieldRef := ⟨.tb, 0x28, 4, 1, 0⟩
def TB_CG0_CTRL_ABORT : FieldRef := ⟨.tb, 0x28, 5, 1, 0⟩
def TB_CG0_CTRL_ARMED : FieldRef := ⟨.tb, 0x28, 8, 1, 0⟩
def TB_CG0_TIME_LO : FieldRef := ⟨.tb, 0x30, 0, 32, 0⟩
def TB_CG0_TIME_HI : FieldRef := ⟨.tb, 0x34, 0, 32, 0⟩
def TB_PTM_CTRL_VC : FieldRef := ⟨.tb, 0x38, 0, 10, 0⟩
def TB_PTM_CTRL_EN : FieldRef := ⟨.tb, 0x38, 16, 1, 0⟩
def TB_CAP_CTRL_VC : FieldRef := ⟨.tb, 0x40, 0, 10, 0⟩
def TB_CAP_CTRL_START : FieldRef := ⟨.tb, 0x40, 31, 1, 0⟩
def TB_CAP_SEQ : FieldRef := ⟨.tb, 0x44, 0, 32, 0⟩
def TB_CAP_STATUS_STATE : FieldRef := ⟨.tb, 0x48, 0, 2, 0⟩
def TB_CAP_STATUS_VALID : FieldRef := ⟨.tb, 0x48, 2, 1, 0⟩
def TB_CAP_STATUS_SLEWING : FieldRef := ⟨.tb, 0x48, 3, 1, 0⟩
def TB_CAP_STATUS_RAMPING : FieldRef := ⟨.tb, 0x48, 4, 1, 0⟩
def TB_CAP_STATUS_LEAP_SECOND : FieldRef := ⟨.tb, 0x48, 5, 1, 0⟩
def TB_CAP_STATUS_REFUSED : FieldRef := ⟨.tb, 0x48, 6, 1, 0⟩
def TB_CAP_STATUS_VC : FieldRef := ⟨.tb, 0x48, 16, 10, 0⟩
def TB_CAP_FRC_LO : FieldRef := ⟨.tb, 0x4C, 0, 32, 0⟩
def TB_CAP_FRC_HI : FieldRef := ⟨.tb, 0x50, 0, 32, 0⟩
def TB_CAP_TIME0_FRAC : FieldRef := ⟨.tb, 0x54, 0, 16, 0⟩
def TB_CAP_TIME0_NS : FieldRef := ⟨.tb, 0x54, 16, 16, 0⟩
def TB_CAP_TIME1_NS : FieldRef := ⟨.tb, 0x58, 0, 16, 0⟩
def TB_CAP_TIME1_SEC : FieldRef := ⟨.tb, 0x58, 16, 16, 0⟩
def TB_CAP_TIME2 : FieldRef := ⟨.tb, 0x5C, 0, 32, 0⟩
def TB_CAP_BOUND_LO : FieldRef := ⟨.tb, 0x60, 0, 32, 0⟩
def TB_CAP_BOUND_HI : FieldRef := ⟨.tb, 0x64, 0, 8, 0⟩
def VC_SEL : FieldRef := ⟨.tb, 0x100, 0, 10, 0⟩
def VC_STATE_STATE : FieldRef := ⟨.tb, 0x104, 0, 2, 0⟩
def VC_STATE_SLEWING : FieldRef := ⟨.tb, 0x104, 2, 1, 0⟩
def VC_STATE_RAMPING : FieldRef := ⟨.tb, 0x104, 3, 1, 0⟩
def VC_STATE_LEAP_SECOND : FieldRef := ⟨.tb, 0x104, 4, 1, 0⟩
def VC_STATE_RATE_SAT : FieldRef := ⟨.tb, 0x104, 5, 1, 0⟩
def VC_STATE_LEAP_NET : FieldRef := ⟨.tb, 0x104, 8, 8, 0⟩
def VC_STATE_PENDING : FieldRef := ⟨.tb, 0x104, 16, 4, 0⟩
def VC_CFG_PARENT : FieldRef := ⟨.tb, 0x108, 0, 1, 1⟩
def VC_CFG_STEP_MODE : FieldRef := ⟨.tb, 0x108, 1, 1, 1⟩
def VC_CFG_OWNER : FieldRef := ⟨.tb, 0x108, 4, 9, 0⟩
def VC_CFG_SLEW_MAX_PPB : FieldRef := ⟨.tb, 0x108, 15, 17, 500⟩
def VC_ADJ_LIMIT : FieldRef := ⟨.tb, 0x10C, 0, 32, 1000000⟩
def VC_BASE0 : FieldRef := ⟨.tb, 0x110, 0, 32, 0⟩
def VC_BASE1 : FieldRef := ⟨.tb, 0x114, 0, 32, 0⟩
def VC_BASE2 : FieldRef := ⟨.tb, 0x118, 0, 32, 0⟩
def VC_BASE_XFRAC : FieldRef := ⟨.tb, 0x11C, 0, 32, 0⟩
def VC_FRCBASE_LO : FieldRef := ⟨.tb, 0x120, 0, 32, 0⟩
def VC_FRCBASE_HI : FieldRef := ⟨.tb, 0x124, 0, 32, 0⟩
def VC_ANCHOR0 : FieldRef := ⟨.tb, 0x128, 0, 32, 0⟩
def VC_ANCHOR1 : FieldRef := ⟨.tb, 0x12C, 0, 32, 0⟩
def VC_ANCHOR2 : FieldRef := ⟨.tb, 0x130, 0, 32, 0⟩
def VC_RATE_LO : FieldRef := ⟨.tb, 0x134, 0, 32, 0⟩
def VC_RATE_HI : FieldRef := ⟨.tb, 0x138, 0, 16, 0⟩
def VC_SCHED_RATE_LO : FieldRef := ⟨.tb, 0x13C, 0, 32, 0⟩
def VC_SCHED_RATE_HI : FieldRef := ⟨.tb, 0x140, 0, 16, 0⟩
def VC_ADJ_REMAIN_LO : FieldRef := ⟨.tb, 0x144, 0, 32, 0⟩
def VC_ADJ_REMAIN_HI : FieldRef := ⟨.tb, 0x148, 0, 32, 0⟩
def VC_RAMP_REMAIN_LO : FieldRef := ⟨.tb, 0x14C, 0, 32, 0⟩
def VC_RAMP_REMAIN_HI : FieldRef := ⟨.tb, 0x150, 0, 32, 0⟩
def VC_SCHED_SLOTS_STATES : FieldRef := ⟨.tb, 0x154, 0, 16, 0⟩
def VC_SCHED_SLOTS_KINDS : FieldRef := ⟨.tb, 0x154, 16, 16, 0⟩
def VC_ARG0 : FieldRef := ⟨.tb, 0x160, 0, 32, 0⟩
def VC_ARG1 : FieldRef := ⟨.tb, 0x164, 0, 32, 0⟩
def VC_ARG2 : FieldRef := ⟨.tb, 0x168, 0, 32, 0⟩
def VC_ARG3 : FieldRef := ⟨.tb, 0x16C, 0, 32, 0⟩
def VC_ARG4 : FieldRef := ⟨.tb, 0x170, 0, 32, 0⟩
def VC_ARG5 : FieldRef := ⟨.tb, 0x174, 0, 32, 0⟩
def VC_CMD_OP : FieldRef := ⟨.tb, 0x178, 0, 4, 0⟩
def VC_CMD_SLOT : FieldRef := ⟨.tb, 0x178, 4, 3, 0⟩
def VC_CMD_TRIGGER : FieldRef := ⟨.tb, 0x178, 8, 1, 0⟩
def VC_CMD_MODE : FieldRef := ⟨.tb, 0x178, 9, 1, 0⟩
def VC_CMD_KIND : FieldRef := ⟨.tb, 0x178, 10, 2, 0⟩
def VC_CMD_STATUS_CODE : FieldRef := ⟨.tb, 0x17C, 0, 8, 0⟩
def VC_CMD_STATUS_BUSY : FieldRef := ⟨.tb, 0x17C, 8, 1, 0⟩
def VC_CMD_STATUS_SLOT : FieldRef := ⟨.tb, 0x17C, 16, 3, 0⟩
def VC_SLOT_TICK_LO (n : Nat) : FieldRef := ⟨.tb, 0x180 + 0x8 * n, 0, 32, 0⟩
def VC_SLOT_TICK_HI (n : Nat) : FieldRef := ⟨.tb, 0x184 + 0x8 * n, 0, 32, 0⟩
def VC_ADJ_SLOPE : FieldRef := ⟨.tb, 0x1C0, 0, 17, 0⟩
def VC_RAMP_SLOPE_LO : FieldRef := ⟨.tb, 0x1C4, 0, 32, 0⟩
def VC_RAMP_SLOPE_HI : FieldRef := ⟨.tb, 0x1C8, 0, 16, 0⟩
def BND_STATUS_BOUNDED : FieldRef := ⟨.bnd, 0x0, 0, 1, 0⟩
def BND_STATUS_AGE_EXPIRED : FieldRef := ⟨.bnd, 0x0, 1, 1, 0⟩
def BND_STATUS_SAT : FieldRef := ⟨.bnd, 0x0, 2, 1, 0⟩
def BND_STATUS_TOK_PENDING : FieldRef := ⟨.bnd, 0x0, 8, 4, 0⟩
def BND_EVT_STATUS : FieldRef := ⟨.bnd, 0x4, 0, 7, 0⟩
def BND_EVT_EN : FieldRef := ⟨.bnd, 0x8, 0, 7, 0⟩
def BND_CTRL : FieldRef := ⟨.bnd, 0xC, 0, 1, 0⟩
def BND_REF_LO : FieldRef := ⟨.bnd, 0x10, 0, 32, 4294967295⟩
def BND_REF_HI : FieldRef := ⟨.bnd, 0x14, 0, 8, 255⟩
def BND_SRV_LO : FieldRef := ⟨.bnd, 0x18, 0, 32, 0⟩
def BND_SRV_HI : FieldRef := ⟨.bnd, 0x1C, 0, 8, 0⟩
def BND_AGE_FRC_LO : FieldRef := ⟨.bnd, 0x20, 0, 32, 0⟩
def BND_AGE_FRC_HI : FieldRef := ⟨.bnd, 0x24, 0, 32, 0⟩
def BND_AGE_Y_LO : FieldRef := ⟨.bnd, 0x28, 0, 32, 0⟩
def BND_AGE_Y_HI : FieldRef := ⟨.bnd, 0x2C, 0, 16, 0⟩
def BND_AGE_A : FieldRef := ⟨.bnd, 0x30, 0, 32, 0⟩
def BND_MARGIN : FieldRef := ⟨.bnd, 0x34, 0, 16, 512⟩
def BND_AGE_MAX : FieldRef := ⟨.bnd, 0x38, 0, 32, 604800⟩
def BND_TLV_OUI : FieldRef := ⟨.bnd, 0x40, 0, 24, 0⟩
def BND_TLV_SUBTYPE : FieldRef := ⟨.bnd, 0x44, 0, 24, 1⟩
def BND_TLV_CTRL_SYNC : FieldRef := ⟨.bnd, 0x48, 0, 1, 0⟩
def BND_TLV_CTRL_FOLLOW_UP : FieldRef := ⟨.bnd, 0x48, 1, 1, 0⟩
def BND_TLV_CTRL_DELAY_RESP : FieldRef := ⟨.bnd, 0x48, 2, 1, 0⟩
def BND_TLV_CTRL_ANNOUNCE : FieldRef := ⟨.bnd, 0x48, 3, 1, 0⟩
def BND_TOK_SEL : FieldRef := ⟨.bnd, 0x80, 0, 10, 0⟩
def BND_TOK_NONCE0 : FieldRef := ⟨.bnd, 0x84, 0, 32, 0⟩
def BND_TOK_NONCE1 : FieldRef := ⟨.bnd, 0x88, 0, 32, 0⟩
def BND_TOK_NONCE2 : FieldRef := ⟨.bnd, 0x8C, 0, 32, 0⟩
def BND_TOK_NONCE3 : FieldRef := ⟨.bnd, 0x90, 0, 32, 0⟩
def BND_TOK_ADDR_LO : FieldRef := ⟨.bnd, 0x94, 0, 32, 0⟩
def BND_TOK_ADDR_HI : FieldRef := ⟨.bnd, 0x98, 0, 32, 0⟩
def BND_TOK_CMD : FieldRef := ⟨.bnd, 0x9C, 31, 1, 0⟩
def BND_TOK_STATUS_CODE : FieldRef := ⟨.bnd, 0xA0, 0, 8, 0⟩
def BND_TOK_STATUS_BUSY : FieldRef := ⟨.bnd, 0xA0, 8, 1, 0⟩
def BND_TOK_CTR_LO : FieldRef := ⟨.bnd, 0xA4, 0, 32, 0⟩
def BND_TOK_CTR_HI : FieldRef := ⟨.bnd, 0xA8, 0, 32, 0⟩
def BND_TOK_COUNT_LO : FieldRef := ⟨.bnd, 0xB0, 0, 32, 0⟩
def BND_TOK_COUNT_HI : FieldRef := ⟨.bnd, 0xB4, 0, 32, 0⟩
def BND_PATH_CAL (p : Nat) : FieldRef := ⟨.bnd, 0x100 + 0x10 * p, 0, 16, if p = 0 then 0 else if p = 23 then 0 else 65535⟩
def BND_PATH_BOARD_BOARD_UNC (p : Nat) : FieldRef := ⟨.bnd, 0x104 + 0x10 * p, 0, 16, 0⟩
def BND_PATH_BOARD_ASYM_UNC (p : Nat) : FieldRef := ⟨.bnd, 0x104 + 0x10 * p, 16, 16, 0⟩
def BND_PATH_STALE_STALE_UNC (p : Nat) : FieldRef := ⟨.bnd, 0x108 + 0x10 * p, 0, 16, 65535⟩
def BND_PATH_STALE_IS_STALE (p : Nat) : FieldRef := ⟨.bnd, 0x108 + 0x10 * p, 16, 1, if p = 0 then 0 else if p = 23 then 0 else 1⟩
def BND_PATH_AGE (p : Nat) : FieldRef := ⟨.bnd, 0x10C + 0x10 * p, 0, 32, 4294967295⟩
def BND_VC_EXTRA (n : Nat) : FieldRef := ⟨.bnd, 0x1000 + 0x4 * n, 0, 32, 0⟩
def REF_STATUS_QUALIFIED_COUNT : FieldRef := ⟨.refs, 0x0, 0, 6, 0⟩
def REF_STATUS_SUSPECT_COUNT : FieldRef := ⟨.refs, 0x0, 8, 6, 0⟩
def REF_EVT_STATUS : FieldRef := ⟨.refs, 0x4, 0, 11, 0⟩
def REF_EVT_EN : FieldRef := ⟨.refs, 0x8, 0, 11, 0⟩
def REF_CTRL_QL_MODE : FieldRef := ⟨.refs, 0xC, 0, 1, 1⟩
def REF_CTRL_HO_IS_ATOM : FieldRef := ⟨.refs, 0xC, 1, 1, 0⟩
def REF_HO_Y_LO : FieldRef := ⟨.refs, 0x10, 0, 32, 0⟩
def REF_HO_Y_HI : FieldRef := ⟨.refs, 0x14, 0, 16, 0⟩
def REF_ENS_MEMBERS : FieldRef := ⟨.refs, 0x18, 0, 32, 0⟩
def REF_CLKID_LO : FieldRef := ⟨.refs, 0x20, 0, 32, 0⟩
def REF_CLKID_HI : FieldRef := ⟨.refs, 0x24, 0, 32, 0⟩
def REF_PROF_FOFF_H_SOFT (k : Nat) : FieldRef := ⟨.refs, 0x100 + 0x40 * k, 0, 16, 2000⟩
def REF_PROF_FOFF_H_HARD (k : Nat) : FieldRef := ⟨.refs, 0x100 + 0x40 * k, 16, 16, 20000⟩
def REF_PROF_FOFF_E_SOFT (k : Nat) : FieldRef := ⟨.refs, 0x104 + 0x40 * k, 0, 16, 50⟩
def REF_PROF_FOFF_E_HARD (k : Nat) : FieldRef := ⟨.refs, 0x104 + 0x40 * k, 16, 16, 500⟩
def REF_PROF_TIMERS_FOFF_WIN (k : Nat) : FieldRef := ⟨.refs, 0x108 + 0x40 * k, 0, 16, 100⟩
def REF_PROF_TIMERS_SUSPECT_CLEAR (k : Nat) : FieldRef := ⟨.refs, 0x108 + 0x40 * k, 16, 16, 60⟩
def REF_PROF_QUAL_QUAL_TIME (k : Nat) : FieldRef := ⟨.refs, 0x10C + 0x40 * k, 0, 16, 300⟩
def REF_PROF_QUAL_LOS_COUNT (k : Nat) : FieldRef := ⟨.refs, 0x10C + 0x40 * k, 16, 4, 3⟩
def REF_PROF_MTIE_H_SOFT (k : Nat) (w : Nat) : FieldRef := ⟨.refs, 0x110 + 0x40 * k + 0x4 * w, 0, 16, if w < 1 then 100 else if w < 2 then 200 else if w < 3 then 500 else 1000⟩
def REF_PROF_MTIE_H_HARD (k : Nat) (w : Nat) : FieldRef := ⟨.refs, 0x110 + 0x40 * k + 0x4 * w, 16, 16, if w < 1 then 1000 else if w < 2 then 2000 else if w < 3 then 5000 else 10000⟩
def REF_PROF_MTIE_E_SOFT (k : Nat) (w : Nat) : FieldRef := ⟨.refs, 0x120 + 0x40 * k + 0x4 * w, 0, 16, if w < 1 then 50 else if w < 2 then 100 else if w < 3 then 200 else 500⟩
def REF_PROF_MTIE_E_HARD (k : Nat) (w : Nat) : FieldRef := ⟨.refs, 0x120 + 0x40 * k + 0x4 * w, 16, 16, if w < 1 then 500 else if w < 2 then 1000 else if w < 3 then 2000 else 5000⟩
def REF_SEL_CFG_CAP_REQ (s : Nat) : FieldRef := ⟨.refs, 0x200 + 0x20 * s, 0, 2, if s < 1 then 2 else 0⟩
def REF_SEL_CFG_REVERTIVE (s : Nat) : FieldRef := ⟨.refs, 0x200 + 0x20 * s, 2, 1, 0⟩
def REF_SEL_CFG_FORCE_HO (s : Nat) : FieldRef := ⟨.refs, 0x200 + 0x20 * s, 3, 1, 0⟩
def REF_SEL_CFG_PIN_EN (s : Nat) : FieldRef := ⟨.refs, 0x200 + 0x20 * s, 4, 1, 0⟩
def REF_SEL_CFG_PIN_SLOT (s : Nat) : FieldRef := ⟨.refs, 0x200 + 0x20 * s, 5, 5, 0⟩
def REF_SEL_CFG_HOLDOFF_MS (s : Nat) : FieldRef := ⟨.refs, 0x200 + 0x20 * s, 16, 16, 500⟩
def REF_SEL_CAND (s : Nat) : FieldRef := ⟨.refs, 0x204 + 0x20 * s, 0, 32, 0⟩
def REF_SEL_PRIO_P0 (s : Nat) (i : Nat) : FieldRef := ⟨.refs, 0x208 + 0x20 * s + 0x4 * i, 0, 4, 15⟩
def REF_SEL_PRIO_P1 (s : Nat) (i : Nat) : FieldRef := ⟨.refs, 0x208 + 0x20 * s + 0x4 * i, 4, 4, 15⟩
def REF_SEL_PRIO_P2 (s : Nat) (i : Nat) : FieldRef := ⟨.refs, 0x208 + 0x20 * s + 0x4 * i, 8, 4, 15⟩
def REF_SEL_PRIO_P3 (s : Nat) (i : Nat) : FieldRef := ⟨.refs, 0x208 + 0x20 * s + 0x4 * i, 12, 4, 15⟩
def REF_SEL_PRIO_P4 (s : Nat) (i : Nat) : FieldRef := ⟨.refs, 0x208 + 0x20 * s + 0x4 * i, 16, 4, 15⟩
def REF_SEL_PRIO_P5 (s : Nat) (i : Nat) : FieldRef := ⟨.refs, 0x208 + 0x20 * s + 0x4 * i, 20, 4, 15⟩
def REF_SEL_PRIO_P6 (s : Nat) (i : Nat) : FieldRef := ⟨.refs, 0x208 + 0x20 * s + 0x4 * i, 24, 4, 15⟩
def REF_SEL_PRIO_P7 (s : Nat) (i : Nat) : FieldRef := ⟨.refs, 0x208 + 0x20 * s + 0x4 * i, 28, 4, 15⟩
def REF_SEL_STATUS_STATE (s : Nat) : FieldRef := ⟨.refs, 0x218 + 0x20 * s, 0, 3, 0⟩
def REF_SEL_STATUS_SELECTED (s : Nat) : FieldRef := ⟨.refs, 0x218 + 0x20 * s, 8, 5, 0⟩
def REF_SEL_STATUS_STANDBY (s : Nat) : FieldRef := ⟨.refs, 0x218 + 0x20 * s, 16, 5, 0⟩
def REF_SEL_STATUS_STANDBY_VALID (s : Nat) : FieldRef := ⟨.refs, 0x218 + 0x20 * s, 21, 1, 0⟩
def REF_SEL_SWITCHES (s : Nat) : FieldRef := ⟨.refs, 0x21C + 0x20 * s, 0, 32, 0⟩
def REF_CFG_ENABLE (n : Nat) : FieldRef := ⟨.refs, 0x400 + 0x40 * n, 0, 1, 0⟩
def REF_CFG_ENS_EN (n : Nat) : FieldRef := ⟨.refs, 0x400 + 0x40 * n, 1, 1, 1⟩
def REF_CFG_POLARITY (n : Nat) : FieldRef := ⟨.refs, 0x400 + 0x40 * n, 2, 1, 0⟩
def REF_CFG_USE_PEER_BOUND (n : Nat) : FieldRef := ⟨.refs, 0x400 + 0x40 * n, 3, 1, 0⟩
def REF_CFG_PROFILE (n : Nat) : FieldRef := ⟨.refs, 0x400 + 0x40 * n, 4, 2, 0⟩
def REF_CFG_TOD_SRC (n : Nat) : FieldRef := ⟨.refs, 0x400 + 0x40 * n, 8, 3, 0⟩
def REF_CFG_QR_OVR (n : Nat) : FieldRef := ⟨.refs, 0x400 + 0x40 * n, 12, 4, 15⟩
def REF_CFG_QR_OVR_EN (n : Nat) : FieldRef := ⟨.refs, 0x400 + 0x40 * n, 16, 1, 0⟩
def REF_CFG_CAPTURE_PPM (n : Nat) : FieldRef := ⟨.refs, 0x400 + 0x40 * n, 24, 8, 12⟩
def REF_NOMINAL (n : Nat) : FieldRef := ⟨.refs, 0x404 + 0x40 * n, 0, 32, if n < 8 then 0 else if n < 24 then 1562500 else if n < 28 then 0 else if n < 29 then 0 else 0⟩
def REF_STATE_STATE (n : Nat) : FieldRef := ⟨.refs, 0x408 + 0x40 * n, 0, 3, 0⟩
def REF_STATE_CAP (n : Nat) : FieldRef := ⟨.refs, 0x408 + 0x40 * n, 4, 3, 0⟩
def REF_STATE_QR (n : Nat) : FieldRef := ⟨.refs, 0x408 + 0x40 * n, 8, 4, 15⟩
def REF_STATE_C_HARD (n : Nat) : FieldRef := ⟨.refs, 0x408 + 0x40 * n, 16, 1, 0⟩
def REF_STATE_C_QUALITY (n : Nat) : FieldRef := ⟨.refs, 0x408 + 0x40 * n, 17, 1, 0⟩
def REF_STATE_C_RANGE (n : Nat) : FieldRef := ⟨.refs, 0x408 + 0x40 * n, 18, 1, 0⟩
def REF_STATE_C_LOOP (n : Nat) : FieldRef := ⟨.refs, 0x408 + 0x40 * n, 19, 1, 0⟩
def REF_STATE_SOFT (n : Nat) : FieldRef := ⟨.refs, 0x408 + 0x40 * n, 20, 1, 0⟩
def REF_STATE_ENS_SKIPPED (n : Nat) : FieldRef := ⟨.refs, 0x408 + 0x40 * n, 21, 1, 0⟩
def REF_STATE_TIME_LOST (n : Nat) : FieldRef := ⟨.refs, 0x408 + 0x40 * n, 22, 1, 0⟩
def REF_MEAS_HZ (n : Nat) : FieldRef := ⟨.refs, 0x40C + 0x40 * n, 0, 32, 0⟩
def REF_FOFF_H (n : Nat) : FieldRef := ⟨.refs, 0x410 + 0x40 * n, 0, 32, 0⟩
def REF_FOFF_E (n : Nat) : FieldRef := ⟨.refs, 0x414 + 0x40 * n, 0, 32, 0⟩
def REF_MTIE_H01_W0 (n : Nat) : FieldRef := ⟨.refs, 0x418 + 0x40 * n, 0, 16, 0⟩
def REF_MTIE_H01_W1 (n : Nat) : FieldRef := ⟨.refs, 0x418 + 0x40 * n, 16, 16, 0⟩
def REF_MTIE_H23_W2 (n : Nat) : FieldRef := ⟨.refs, 0x41C + 0x40 * n, 0, 16, 0⟩
def REF_MTIE_H23_W3 (n : Nat) : FieldRef := ⟨.refs, 0x41C + 0x40 * n, 16, 16, 0⟩
def REF_MTIE_E01_W0 (n : Nat) : FieldRef := ⟨.refs, 0x420 + 0x40 * n, 0, 16, 0⟩
def REF_MTIE_E01_W1 (n : Nat) : FieldRef := ⟨.refs, 0x420 + 0x40 * n, 16, 16, 0⟩
def REF_MTIE_E23_W2 (n : Nat) : FieldRef := ⟨.refs, 0x424 + 0x40 * n, 0, 16, 0⟩
def REF_MTIE_E23_W3 (n : Nat) : FieldRef := ⟨.refs, 0x424 + 0x40 * n, 16, 16, 0⟩
def REF_BOUND_BASE_LO (n : Nat) : FieldRef := ⟨.refs, 0x428 + 0x40 * n, 0, 32, 4294967295⟩
def REF_BOUND_BASE_HI (n : Nat) : FieldRef := ⟨.refs, 0x42C + 0x40 * n, 0, 8, 255⟩
def REF_BOUND_LO (n : Nat) : FieldRef := ⟨.refs, 0x430 + 0x40 * n, 0, 32, 4294967295⟩
def REF_BOUND_HI (n : Nat) : FieldRef := ⟨.refs, 0x434 + 0x40 * n, 0, 8, 255⟩
def REF_QL_RX_SSM (n : Nat) : FieldRef := ⟨.refs, 0x438 + 0x40 * n, 0, 4, 15⟩
def REF_QL_RX_ESSM (n : Nat) : FieldRef := ⟨.refs, 0x438 + 0x40 * n, 8, 8, 255⟩
def REF_QL_RX_CLOCK_CLASS (n : Nat) : FieldRef := ⟨.refs, 0x438 + 0x40 * n, 16, 8, 255⟩
def REF_QL_RX_CLOCK_ACCURACY (n : Nat) : FieldRef := ⟨.refs, 0x438 + 0x40 * n, 24, 8, 254⟩
def REF_QL_AGE_AGE (n : Nat) : FieldRef := ⟨.refs, 0x43C + 0x40 * n, 0, 16, 65535⟩
def REF_QL_AGE_CASC_EEEC (n : Nat) : FieldRef := ⟨.refs, 0x43C + 0x40 * n, 16, 8, 0⟩
def REF_QL_AGE_CASC_EEC (n : Nat) : FieldRef := ⟨.refs, 0x43C + 0x40 * n, 24, 8, 0⟩
def SRV_STATUS_SYS_STATE : FieldRef := ⟨.srv, 0x0, 0, 3, 0⟩
def SRV_STATUS_SYS_MODE : FieldRef := ⟨.srv, 0x0, 3, 2, 2⟩
def SRV_STATUS_MEAS_GAP : FieldRef := ⟨.srv, 0x0, 5, 1, 0⟩
def SRV_STATUS_HO_VALID : FieldRef := ⟨.srv, 0x0, 6, 1, 0⟩
def SRV_STATUS_HO_ATOM : FieldRef := ⟨.srv, 0x0, 7, 1, 0⟩
def SRV_STATUS_HO_FALLBACK : FieldRef := ⟨.srv, 0x0, 8, 1, 0⟩
def SRV_STATUS_OFFSET_REJECT : FieldRef := ⟨.srv, 0x0, 9, 1, 0⟩
def SRV_STATUS_STALL : FieldRef := ⟨.srv, 0x0, 10, 1, 0⟩
def SRV_STATUS_RATE_CONFLICT : FieldRef := ⟨.srv, 0x0, 11, 1, 0⟩
def SRV_STATUS_SYS_SLOT : FieldRef := ⟨.srv, 0x0, 16, 5, 0⟩
def SRV_STATUS_SYS_SLOT_VALID : FieldRef := ⟨.srv, 0x0, 21, 1, 0⟩
def SRV_EVT_STATUS : FieldRef := ⟨.srv, 0x4, 0, 14, 0⟩
def SRV_EVT_EN : FieldRef := ⟨.srv, 0x8, 0, 14, 0⟩
def SRV_CTRL_RATE_OWNER : FieldRef := ⟨.srv, 0xC, 0, 1, 0⟩
def SRV_CTRL_UPD_LOG2 : FieldRef := ⟨.srv, 0xC, 1, 4, 4⟩
def SRV_CTRL_OFFSET_N : FieldRef := ⟨.srv, 0xC, 8, 8, 4⟩
def SRV_SYS_BW_CEIL : FieldRef := ⟨.srv, 0x10, 0, 17, 1000⟩
def SRV_SYS_BW_FLOOR : FieldRef := ⟨.srv, 0x14, 0, 17, 1⟩
def SRV_SYS_BW_EFF : FieldRef := ⟨.srv, 0x18, 0, 17, 1000⟩
def SRV_LOCK_LOCK_NS : FieldRef := ⟨.srv, 0x1C, 0, 16, 20⟩
def SRV_LOCK_LOCK_S : FieldRef := ⟨.srv, 0x1C, 16, 16, 60⟩
def SRV_HO_TIMES_HO_AVG_S : FieldRef := ⟨.srv, 0x20, 0, 16, 300⟩
def SRV_HO_TIMES_HO_DELAY_S : FieldRef := ⟨.srv, 0x20, 16, 8, 5⟩
def SRV_STEP_LIMIT : FieldRef := ⟨.srv, 0x24, 0, 32, 1000000⟩
def SRV_SYS_PHASE_ERR_LO : FieldRef := ⟨.srv, 0x28, 0, 32, 0⟩
def SRV_SYS_PHASE_ERR_HI : FieldRef := ⟨.srv, 0x2C, 0, 32, 0⟩
def SRV_SYS_TARGET_LO : FieldRef := ⟨.srv, 0x30, 0, 32, 0⟩
def SRV_SYS_TARGET_HI : FieldRef := ⟨.srv, 0x34, 0, 32, 0⟩
def SRV_FREERUN_RATE_LO : FieldRef := ⟨.srv, 0x38, 0, 32, 0⟩
def SRV_FREERUN_RATE_HI : FieldRef := ⟨.srv, 0x3C, 0, 16, 0⟩
def SRV_FREQREF_Y : FieldRef := ⟨.srv, 0x40, 0, 32, 4294967295⟩
def SRV_COUNTS_UPD_LATE : FieldRef := ⟨.srv, 0x44, 0, 16, 0⟩
def SRV_COUNTS_EXT_ADJUST : FieldRef := ⟨.srv, 0x44, 16, 16, 0⟩
def SRV_ARG0 : FieldRef := ⟨.srv, 0x60, 0, 32, 0⟩
def SRV_ARG1 : FieldRef := ⟨.srv, 0x64, 0, 32, 0⟩
def SRV_CMD : FieldRef := ⟨.srv, 0x68, 0, 4, 0⟩
def SRV_CMD_STATUS_CODE : FieldRef := ⟨.srv, 0x6C, 0, 8, 0⟩
def SRV_CMD_STATUS_BUSY : FieldRef := ⟨.srv, 0x6C, 8, 1, 0⟩
def SRV_HO_CFG_HO_SRC : FieldRef := ⟨.srv, 0x80, 0, 1, 0⟩
def SRV_HO_CFG_ATOM_MODE : FieldRef := ⟨.srv, 0x80, 1, 1, 0⟩
def SRV_HO_CFG_ATOM_ALM_POL : FieldRef := ⟨.srv, 0x80, 2, 1, 0⟩
def SRV_HO_CFG_OD_HO_TRACK : FieldRef := ⟨.srv, 0x80, 3, 1, 1⟩
def SRV_HO_CFG_TEMP_SRC0 : FieldRef := ⟨.srv, 0x80, 4, 2, 1⟩
def SRV_HO_CFG_TEMP_SRC1 : FieldRef := ⟨.srv, 0x80, 6, 2, 0⟩
def SRV_HO_CFG_ATOM_SETTLE_S : FieldRef := ⟨.srv, 0x80, 16, 16, 600⟩
def SRV_HO_MARGIN : FieldRef := ⟨.srv, 0x84, 0, 16, 512⟩
def SRV_NOUGAT_STATUS_STATE0 : FieldRef := ⟨.srv, 0x88, 0, 2, 0⟩
def SRV_NOUGAT_STATUS_STATE1 : FieldRef := ⟨.srv, 0x88, 2, 2, 0⟩
def SRV_NOUGAT_STATUS_TRAIN_H0 : FieldRef := ⟨.srv, 0x88, 4, 12, 0⟩
def SRV_NOUGAT_STATUS_TRAIN_H1 : FieldRef := ⟨.srv, 0x88, 16, 12, 0⟩
def SRV_NG_TRAIN_TRAIN_MIN_H0 : FieldRef := ⟨.srv, 0x8C, 0, 8, 72⟩
def SRV_NG_TRAIN_TRAIN_MIN_H1 : FieldRef := ⟨.srv, 0x8C, 8, 8, 168⟩
def SRV_NG_TRAIN_FORGET_D : FieldRef := ⟨.srv, 0x8C, 16, 8, 30⟩
def SRV_NG_TRAIN_TRAIN_QR_MAX : FieldRef := ⟨.srv, 0x8C, 24, 4, 3⟩
def SRV_NG_Y0 (m : Nat) : FieldRef := ⟨.srv, 0x90 + 0x20 * m, 0, 32, 0⟩
def SRV_NG_DRIFT (m : Nat) : FieldRef := ⟨.srv, 0x94 + 0x20 * m, 0, 32, 0⟩
def SRV_NG_TC1 (m : Nat) : FieldRef := ⟨.srv, 0x98 + 0x20 * m, 0, 32, 0⟩
def SRV_NG_TC2 (m : Nat) : FieldRef := ⟨.srv, 0x9C + 0x20 * m, 0, 32, 0⟩
def SRV_NG_SIGMA (m : Nat) : FieldRef := ⟨.srv, 0xA0 + 0x20 * m, 0, 32, 4294967295⟩
def SRV_NG_SIGMA_D (m : Nat) : FieldRef := ⟨.srv, 0xA4 + 0x20 * m, 0, 32, 4294967295⟩
def SRV_NG_YDEF (m : Nat) : FieldRef := ⟨.srv, 0xA8 + 0x20 * m, 0, 32, if m < 1 then 2814750 else 14074⟩
def SRV_NG_ADEF (m : Nat) : FieldRef := ⟨.srv, 0xAC + 0x20 * m, 0, 32, if m < 1 then 47223665 else 472237⟩
def SRV_NG_THETA0 (m : Nat) : FieldRef := ⟨.srv, 0xD0 + 0x4 * m, 0, 32, 0⟩
def SRV_TEMP (m : Nat) : FieldRef := ⟨.srv, 0xD8 + 0x4 * m, 0, 32, 0⟩
def SRV_TEMP_HOST (m : Nat) : FieldRef := ⟨.srv, 0xE0 + 0x4 * m, 0, 32, 0⟩
def SRV_ATOM_STATUS_ALM : FieldRef := ⟨.srv, 0xE8, 0, 1, 0⟩
def SRV_ATOM_STATUS_BUS_ERR : FieldRef := ⟨.srv, 0xE8, 1, 1, 0⟩
def SRV_ATOM_STATUS_STEERING : FieldRef := ⟨.srv, 0xE8, 2, 1, 0⟩
def SRV_ATOM_STATUS_TUNE_COUNT : FieldRef := ⟨.srv, 0xE8, 16, 16, 0⟩
def SRV_ATOM_CFG_BUS : FieldRef := ⟨.srv, 0xEC, 0, 1, 0⟩
def SRV_ATOM_CFG_I2C_ADDR : FieldRef := ⟨.srv, 0xEC, 1, 7, 0⟩
def SRV_ATOM_CFG_LEN : FieldRef := ⟨.srv, 0xEC, 8, 4, 0⟩
def SRV_ATOM_CFG_POS : FieldRef := ⟨.srv, 0xEC, 12, 4, 0⟩
def SRV_ATOM_CFG_WIDTH : FieldRef := ⟨.srv, 0xEC, 16, 2, 2⟩
def SRV_ATOM_CFG_SPEED : FieldRef := ⟨.srv, 0xEC, 18, 1, 0⟩
def SRV_ATOM_CFG_TUNE_NEG : FieldRef := ⟨.srv, 0xEC, 19, 1, 0⟩
def SRV_ATOM_CFG_TUNE_S : FieldRef := ⟨.srv, 0xEC, 20, 12, 60⟩
def SRV_ATOM_LSB : FieldRef := ⟨.srv, 0xF0, 0, 32, 100000⟩
def SRV_ATOM_LIMIT : FieldRef := ⟨.srv, 0xF4, 0, 32, 2147483647⟩
def SRV_ATOM_TUNE : FieldRef := ⟨.srv, 0xF8, 0, 32, 0⟩
def SRV_ATOM_STEP : FieldRef := ⟨.srv, 0xFC, 0, 32, 100⟩
def SRV_ATOM_TPL_TPL0 (i : Nat) : FieldRef := ⟨.srv, 0x100 + 0x4 * i, 0, 8, 0⟩
def SRV_ATOM_TPL_TPL1 (i : Nat) : FieldRef := ⟨.srv, 0x100 + 0x4 * i, 8, 8, 0⟩
def SRV_ATOM_TPL_TPL2 (i : Nat) : FieldRef := ⟨.srv, 0x100 + 0x4 * i, 16, 8, 0⟩
def SRV_ATOM_TPL_TPL3 (i : Nat) : FieldRef := ⟨.srv, 0x100 + 0x4 * i, 24, 8, 0⟩
def SRV_OD_CFG_ENABLE (k : Nat) : FieldRef := ⟨.srv, 0x200 + 0x20 * (k - 1), 0, 1, 0⟩
def SRV_OD_CFG_MODE (k : Nat) : FieldRef := ⟨.srv, 0x200 + 0x20 * (k - 1), 1, 1, 0⟩
def SRV_OD_CFG_BUILDOUT (k : Nat) : FieldRef := ⟨.srv, 0x200 + 0x20 * (k - 1), 2, 1, 1⟩
def SRV_OD_CFG_LOCK_NS (k : Nat) : FieldRef := ⟨.srv, 0x200 + 0x20 * (k - 1), 16, 16, 100⟩
def SRV_OD_BW_CEIL (k : Nat) : FieldRef := ⟨.srv, 0x204 + 0x20 * (k - 1), 0, 17, 10000⟩
def SRV_OD_BW_FLOOR (k : Nat) : FieldRef := ⟨.srv, 0x208 + 0x20 * (k - 1), 0, 17, 1000⟩
def SRV_OD_BW_EFF (k : Nat) : FieldRef := ⟨.srv, 0x20C + 0x20 * (k - 1), 0, 17, 10000⟩
def SRV_OD_STATUS_STATE (k : Nat) : FieldRef := ⟨.srv, 0x210 + 0x20 * (k - 1), 0, 3, 0⟩
def SRV_OD_STATUS_HO_VALID (k : Nat) : FieldRef := ⟨.srv, 0x210 + 0x20 * (k - 1), 3, 1, 0⟩
def SRV_OD_STATUS_SLOT (k : Nat) : FieldRef := ⟨.srv, 0x210 + 0x20 * (k - 1), 4, 5, 0⟩
def SRV_OD_STATUS_SLOT_VALID (k : Nat) : FieldRef := ⟨.srv, 0x210 + 0x20 * (k - 1), 9, 1, 0⟩
def SRV_OD_PHASE_ERR (k : Nat) : FieldRef := ⟨.srv, 0x214 + 0x20 * (k - 1), 0, 32, 0⟩
def SRV_OD_RATE_LO (k : Nat) : FieldRef := ⟨.srv, 0x218 + 0x20 * (k - 1), 0, 32, 0⟩
def SRV_OD_RATE_HI (k : Nat) : FieldRef := ⟨.srv, 0x21C + 0x20 * (k - 1), 0, 16, 0⟩

end F

end Sys2Proof.Machine
end

