-- ==== Sys2Proof/Machine/RegsB.lean ====
section
/-! DEFINITION. The register map of the blocks SYN, OUT, TDC, GN: one row per register of the maps and field tables of spec/02 to spec/23
(offsets, array strides, "per function", fields with access type, reset value and storing rule), and one `FieldRef` name per field.
Transcribed from the tables of the manual; the address counts agree with Table 24.2 (R604). -/

namespace Sys2Proof.Machine

/-- Registers of SYN, part 0. -/
def regsSYN0 : List RegDesc := [
  rg 0x0 [] false [fd 0 6 .ro 0, fd 8 6 .ro 0],
  rg 0x4 [] true [fd 0 9 .w1c 0],
  rg 0x8 [] true [fd 0 9 .rw 0],
  rg 0x100 [(8, 0x10)] false [fd 0 2 .rw 0, fd 4 1 .w1s 0, fd 5 1 .w1s 0, fd 6 1 .rw 0, fd 8 1 .ro 0, fnm 16 5 .rw 0 0 27 0 0 false],
  rg 0x104 [(8, 0x10)] false [fd 0 32 .rw 0],
  rg 0x108 [(8, 0x10)] false [fd 0 32 .rw 0],
  rg 0x10C [(8, 0x10)] false [fd 0 1 .ro 0, fd 1 1 .ro 0, fd 16 16 .ro 0],
  rg 0x200 [] false [fd 0 1 .ro 1, fd 4 3 .rw 0],
  rg 0x220 [(5, 0x20)] false [fd 0 1 .sh 0, fd 4 3 .rw 0],
  rg 0x204 [] false [fd 0 8 .ro 80],
  rg 0x224 [(5, 0x20)] false [fd 0 8 .sh 80],
  rg 0x208 [] false [fd 0 32 .ro 0],
  rg 0x228 [(5, 0x20)] false [fd 0 32 .sh 0],
  rg 0x20C [] false [fd 0 8 .ro 0],
  rg 0x22C [(5, 0x20)] false [fd 0 8 .sh 0],
  rg 0x210 [(6, 0x20)] false [fd 0 3 .ro 0, fd 3 1 .ro 0, fd 4 4 .ro 0, fd 8 1 .ro 0, fd 16 10 .ro 0],
  rg 0x214 [(6, 0x20)] false [fd 0 16 .ro 0, fd 16 16 .ro 0],
  rg 0x300 [] true [fnm 0 3 .rw 1 1 5 1 1 false, fd 4 4 .rw 0],
  rg 0x304 [] true [fd 0 8 .ro 0],
  rg 0x308 [] true [fd 0 32 .ro 0],
  rg 0x30C [] true [fd 0 8 .ro 0, fd 8 1 .ro 0, fd 9 1 .ro 0],
  rg 0x310 [] true [fd 0 10 .ro 0],
  rg 0x314 [] true [fd 0 2 .wo 0]]

/-- The register map of SYN. -/
def regsSYN : List RegDesc := regsSYN0

/-- Registers of OUT, part 0. -/
def regsOUT0 : List RegDesc := [
  rg 0x0 [] false [fd 0 1 .ro 0, fd 1 1 .ro 0],
  rg 0x4 [] true [fd 0 7 .w1c 0],
  rg 0x8 [] true [fd 0 7 .rw 0],
  rg 0xC [] false [fd 0 16 .rw 0],
  rg 0x100 [(20, 0x10)] false [fnm 0 3 .sh 0 0 5 0 5 false, fd 3 1 .sh 0, fnm 4 2 .sh 2 0 2 0 2 false, fd 6 2 .sh 0, fd 8 1 .sh 0, fd 9 3 .rw 0],
  rg 0x104 [(20, 0x10)] false [fd 0 32 .sh 7],
  rg 0x108 [(20, 0x10)] false [fd 0 4 .sh 0],
  rg 0x10C [(20, 0x10)] false [fd 0 16 .sh 0, fd 16 9 .sh 0],
  rg 0x300 [(20, 0x4)] false [fd 0 2 .ro 0, fd 2 1 .ro 0, fd 3 1 .ro 0, fd 4 1 .ro 0],
  rg 0x400 [(8, 0x40)] false [fnm 0 2 .sh 0 0 2 0 0 false, fd 2 1 .sh 0, fd 3 1 .sh 0, fnm 4 2 .sh 1 0 2 0 2 false, fd 6 1 .sh 0, fd 7 1 .sh 0, fd 8 10 .sh 0, fd 18 3 .rw 0, fd 22 9 .sh 0],
  rg 0x404 [(8, 0x40)] false [fd 0 32 .sh 1000000],
  rg 0x408 [(8, 0x40)] false [fd 0 32 .sh 100000],
  rg 0x40C [(8, 0x40)] false [fd 0 32 .sh 0],
  rg 0x410 [(8, 0x40)] false [fd 0 16 .sh 0],
  rg 0x414 [(8, 0x40)] false [fd 0 24 .sh 0],
  rg 0x418 [(8, 0x40)] false [fd 0 32 .rw 4294967295],
  rg 0x41C [(8, 0x40)] false [fd 0 2 .ro 0, fd 2 1 .ro 0, fd 3 1 .ro 0, fd 16 16 .ro 0],
  rg 0x420 [(8, 0x40)] false [fd 0 32 .ro 0],
  rg 0x424 [(8, 0x40)] false [fd 0 32 .ro 0],
  rg 0x428 [(8, 0x40)] false [fd 0 32 .ro 0],
  rg 0x42C [(8, 0x40)] false [fd 0 32 .ro 0],
  rg 0x600 [(4, 0x10)] false [fd 0 1 .rw 0, fnm 1 4 .rw 0 0 8 0 0 false, fd 5 1 .rw 0, fd 6 1 .rw 0, fd 7 1 .rw 0, fd 8 3 .rw 4, fd 16 16 .rw 1000],
  rg 0x604 [(4, 0x10)] false [fd 0 8 .ro 0, fd 16 16 .ro 0],
  rg 0x680 [(4, 0x10)] false [fd 0 3 .rw 4]]

/-- Registers of OUT, part 1. -/
def regsOUT1 : List RegDesc := [
  rg 0x684 [(4, 0x10)] false [fd 0 16 .ro 0, fd 16 16 .ro 0]]

/-- The register map of OUT. -/
def regsOUT : List RegDesc := regsOUT0 ++ regsOUT1

/-- Registers of TDC, part 0. -/
def regsTDC0 : List RegDesc := [
  rg 0x0 [] false [fd 0 5 .ro 0, fd 5 1 .ro 0, fd 16 16 .ro 0],
  rg 0x4 [] true [fd 0 12 .w1c 0],
  rg 0x8 [] true [fd 0 12 .rw 0],
  rg 0xC [] false [fd 0 1 .rw 1, fnm 4 4 .rw 10 1 10 1 10 false, fnm 8 8 .rw 100 1 255 1 255 false],
  rg 0x10 [] false [fd 0 5 .wo 0, fd 31 1 .wo 0],
  rg 0x100 [(16, 0x40)] false [fd 0 1 .rw 0, fd 1 2 .rw 0, fnm 3 2 .rw 0 0 2 0 2 false, fd 5 1 .rw 0, fd 6 1 .rw 0, fd 7 2 .rw 0, fd 16 9 .rw 0],
  rg 0x104 [(16, 0x40)] false [fd 0 32 .rw 0],
  rg 0x108 [(16, 0x40)] false [fnm 0 5 .rw 8 8 18 8 18 false],
  rg 0x10C [(16, 0x40)] false [fd 0 32 .ro 0],
  rg 0x110 [(16, 0x40)] false [fd 0 32 .rw 0],
  rg 0x114 [(16, 0x40)] false [fd 0 32 .rw 0],
  rg 0x118 [(16, 0x40)] false [fd 0 2 .ro 0, fd 2 1 .ro 0, fd 3 1 .ro 0, fd 4 1 .ro 0, fd 5 1 .ro 0],
  rg 0x11C [(16, 0x40)] false [fd 0 16 .ro 0, fd 16 16 .ro 0],
  rg 0x120 [(16, 0x40)] false [fd 0 12 .ro 0, fd 16 12 .ro 0],
  rg 0x600 [(4, 0x20)] false [fnm 0 2 .rw 0 0 2 0 0 false, fd 2 1 .rw 0, fd 16 16 .rw 0],
  rg 0x604 [(4, 0x20)] false [fd 0 1 .w1s 0, fd 1 1 .w1s 0, fd 8 1 .ro 0, fd 9 1 .ro 0],
  rg 0x608 [(4, 0x20)] false [fd 0 32 .rw 0],
  rg 0x60C [(4, 0x20)] false [fd 0 32 .rw 0],
  rg 0x610 [(4, 0x20)] false [fd 0 32 .rw 0],
  rg 0x614 [(4, 0x20)] false [fd 0 32 .rw 0],
  rg 0x618 [(4, 0x20)] false [fd 0 16 .ro 0],
  rg 0x800 [(22, 0x10)] false [fd 0 32 .ro 0],
  rg 0x804 [(22, 0x10)] false [fd 0 32 .ro 0],
  rg 0x808 [(22, 0x10)] false [fd 0 16 .ro 65535, fd 16 16 .ro 65535]]

/-- Registers of TDC, part 1. -/
def regsTDC1 : List RegDesc := [
  rg 0x80C [(22, 0x10)] false [fd 0 16 .ro 0, fd 16 1 .ro 0, fd 17 1 .ro 0]]

/-- The register map of TDC. -/
def regsTDC : List RegDesc := regsTDC0 ++ regsTDC1

/-- Registers of GN, part 0. -/
def regsGN0 : List RegDesc := [
  rg 0x0 [] false [fd 0 8 .ro 0, fd 8 2 .ro 0, fd 10 1 .ro 0, fd 11 5 .ro 0],
  rg 0x4 [] true [fd 0 15 .w1c 0],
  rg 0x8 [] true [fd 0 15 .rw 0],
  rg 0xC [] false [fd 0 1 .rw 0, fnm 1 3 .rw 3 0 6 0 6 false, fd 4 1 .rw 1, fd 5 1 .rw 1, fd 8 8 .rw 28, fnm 16 16 .rw 1000 1 65535 1 65535 false],
  rg 0x10 [] false [fd 0 32 .rw 0],
  rg 0x14 [] false [fd 0 32 .rw 0],
  rg 0x18 [] false [fd 0 32 .ro 0],
  rg 0x1C [] false [fd 0 32 .rw 0],
  rg 0x20 [] false [fd 0 32 .rw 0],
  rg 0x24 [] false [fd 0 32 .ro 0],
  rg 0x28 [] false [fd 0 32 .rw 0],
  rg 0x2C [] false [fd 0 16 .ro 0, fd 16 16 .ro 0],
  rg 0x40 [(2, 0x20)] false [fd 0 1 .rw 0, fd 1 1 .rw 0, fd 2 1 .rw 0],
  rg 0x44 [] false [fd 0 32 .rw 40920000],
  rg 0x64 [] false [fd 0 32 .rw 61380000],
  rg 0x48 [(2, 0x20)] false [fd 0 32 .rw 0],
  rg 0x4C [(2, 0x20)] false [fd 0 32 .rw 0],
  rg 0x50 [(2, 0x20)] false [fd 0 2 .ro 0, fd 16 16 .ro 0],
  rg 0x54 [(2, 0x20)] false [fd 0 32 .ro 0],
  rg 0x80 [] true [fd 0 3 .rw 0, fd 3 1 .rw 0, fnm 4 4 .rw 1 1 10 1 10 false, fnm 8 7 .rw 1 1 64 1 64 false, fd 16 16 .rw 5000],
  rg 0x84 [] true [fd 0 32 .rw 0],
  rg 0x88 [] true [fd 0 31 .rw 0],
  rg 0x8C [] true [fd 0 32 .rw 0],
  rg 0x90 [] true [fd 0 16 .rw 2560]]

/-- Registers of GN, part 1. -/
def regsGN1 : List RegDesc := [
  rg 0x94 [] true [fd 0 2 .wo 0],
  rg 0x98 [] true [fd 0 8 .ro 0, fd 8 1 .ro 0, fd 16 16 .ro 0],
  rg 0xA0 [] false [fd 0 8 .rw 1, fnm 8 4 .rw 1 1 15 1 15 false, fd 12 1 .rw 0, fd 16 16 .rw 2560],
  rg 0xA4 [] false [fd 0 12 .rw 0, fd 16 12 .rw 2046],
  rg 0xA8 [] false [fd 0 16 .rw 60536, fd 16 10 .rw 500, fd 26 6 .rw 21],
  rg 0xAC [] false [fd 0 1 .w1s 0, fd 1 1 .w1s 0],
  rg 0xB0 [] false [fd 0 12 .ro 0, fd 16 16 .ro 0],
  rg 0xB4 [] false [fd 0 16 .ro 0, fd 16 1 .ro 0, fd 17 1 .ro 0, fd 18 1 .ro 0, fd 19 1 .ro 0],
  rg 0xC0 [] true [fd 0 8 .rw 0],
  rg 0xC4 [] true [fd 0 32 .rw 0],
  rg 0xC8 [] true [fd 0 32 .rw 0],
  rg 0xCC [] true [fd 0 32 .rw 0],
  rg 0xD0 [] true [fd 0 32 .rw 0],
  rg 0xD4 [] true [fd 0 32 .rw 0],
  rg 0xD8 [] true [fd 0 32 .rw 0],
  rg 0xDC [] true [fd 0 4 .wo 0],
  rg 0xE0 [] true [fd 0 8 .ro 0, fd 8 1 .ro 0],
  rg 0x100 [] false [fd 0 1 .rw 1, fd 1 1 .rw 1, fd 2 2 .rw 0, fd 4 4 .rw 15, fnm 8 4 .rw 4 4 15 4 15 false, fnm 12 4 .rw 6 1 15 1 15 false, fd 16 7 .rw 10],
  rg 0x104 [] false [fd 0 2 .ro 0, fd 8 8 .ro 0, fd 16 4 .ro 0],
  rg 0x108 [] false [fd 0 32 .rw 0],
  rg 0x10C [] false [fd 0 32 .rw 0],
  rg 0x110 [] false [fd 0 32 .rw 0],
  rg 0x114 [] false [fd 0 32 .rw 0],
  rg 0x118 [] false [fd 0 32 .rw 0]]

/-- Registers of GN, part 2. -/
def regsGN2 : List RegDesc := [
  rg 0x11C [] false [fd 0 32 .rw 0],
  rg 0x120 [] false [fd 0 32 .rw 3600],
  rg 0x124 [] false [fd 0 16 .rw 2360],
  rg 0x128 [] false [fd 0 32 .rw 4294967295],
  rg 0x130 [(3, 0x4)] false [fd 0 32 .rw 0],
  rg 0x140 [] false [fd 0 32 .ro 0],
  rg 0x144 [] false [fd 0 32 .ro 0],
  rg 0x148 [] false [fd 0 32 .ro 4294967295],
  rg 0x14C [] false [fd 0 32 .ro 4294967295],
  rg 0x150 [] false [fd 0 8 .ro 255],
  rg 0x1000 [(192, 0x40)] false [fd 0 1 .rw 1, fd 1 1 .rw 1, fnm 2 6 .rw 16 1 63 1 63 false, fnm 8 7 .rw 48 1 127 1 127 false, fd 16 14 .rw 512],
  rg 0x1004 [(192, 0x40)] false [fd 0 1 .rw 0, fd 1 9 .rw 0, fnm 10 3 .rw 4 0 5 0 5 false, fnm 13 3 .rw 4 1 7 1 7 false, fd 16 8 .rw 150, fd 24 4 .rw 10, fd 28 4 .rw 4],
  rg 0x1008 [(192, 0x40)] false [fd 0 3 .ro 0, fd 4 3 .ro 0, fd 8 8 .ro 0, fd 16 7 .ro 0, fd 24 5 .ro 0],
  rg 0x100C [(192, 0x40)] false [fd 0 16 .ro 0, fd 16 16 .ro 0],
  rg 0x1010 [(192, 0x40)] false [fd 0 32 .rw 0],
  rg 0x1014 [(192, 0x40)] false [fd 0 16 .rw 0],
  rg 0x1018 [(192, 0x40)] false [fd 0 32 .rw 0],
  rg 0x101C [(192, 0x40)] false [fd 0 16 .rw 0],
  rg 0x1020 [(192, 0x40)] false [fd 0 32 .rw 0],
  rg 0x1024 [(192, 0x40)] false [fd 0 32 .rw 0],
  rg 0x1028 [(192, 0x40)] false [fd 0 16 .rw 0, fd 16 1 .rw 0],
  rg 0x102C [(192, 0x40)] false [fd 0 16 .rw 0, fd 16 16 .rw 0],
  rg 0x1030 [(192, 0x40)] false [fd 0 16 .rw 0, fd 16 1 .rw 0, fd 17 1 .rw 0, fd 18 1 .rw 0, fd 19 1 .rw 0, fd 20 1 .rw 0, fd 21 1 .rw 0, fd 22 1 .rw 0, fd 23 1 .rw 0, fd 31 1 .w1s 0],
  rg 0x1034 [(192, 0x40)] false [fd 0 16 .ro 0, fd 16 16 .ro 0]]

/-- Registers of GN, part 3. -/
def regsGN3 : List RegDesc := [
  rg 0x180 [] false [fnm 0 2 .rw 0 0 2 0 0 false, fd 2 1 .rw 0, fnm 3 5 .rw 3 1 31 1 31 false, fnm 8 8 .rw 10 1 255 1 255 false, fnm 16 8 .rw 30 1 255 1 255 false, fnm 24 8 .rw 50 1 255 1 255 false],
  rg 0x184 [] false [fd 0 2 .ro 0, fd 8 8 .ro 0, fd 16 8 .ro 0],
  rg 0x188 [] true [fd 0 12 .w1c 0],
  rg 0x18C [] true [fd 0 12 .rw 0],
  rg 0x190 [] false [fd 0 1 .rw 1, fnm 1 3 .rw 2 1 7 1 7 false, fnm 8 8 .rw 10 1 255 1 255 false, fd 16 8 .rw 10, fd 24 8 .rw 64],
  rg 0x194 [] false [fd 0 32 .rw 0],
  rg 0x198 [] false [fd 0 32 .ro 0],
  rg 0x19C [] false [fd 0 32 .rw 0],
  rg 0x1A0 [] false [fd 0 16 .ro 0, fd 16 16 .ro 0],
  rg 0x1C0 [] false [fd 0 1 .rw 0, fnm 1 2 .rw 0 0 2 0 0 false, fd 3 1 .rw 0, fnm 4 2 .rw 1 0 2 0 2 false, fnm 8 8 .rw 4 1 255 1 255 false, fd 16 16 .rw 256],
  rg 0x1C4 [] false [fnm 0 32 .rw 100000 8 999999992 8 999999992 false],
  rg 0x1C8 [] false [fd 0 24 .rw 0],
  rg 0x1CC [] false [fd 0 1 .ro 0, fd 1 1 .ro 0, fd 16 16 .ro 0],
  rg 0x1D0 [] false [fd 0 32 .rw 0],
  rg 0x1D4 [] false [fd 0 32 .rw 0],
  rg 0x1D8 [] false [fd 0 32 .rw 0],
  rg 0x1DC [] false [fd 0 32 .rw 0],
  rg 0x1E0 [] false [fd 0 32 .rw 0],
  rg 0x1E4 [] false [fd 0 32 .rw 0],
  rg 0x1E8 [] false [fd 0 16 .rw 0],
  rg 0x1EC [] false [fd 0 32 .rw 4294967295],
  rg 0x1F0 [] false [fd 0 8 .rw 255],
  rg 0x1F4 [] false [fd 0 1 .w1s 0],
  rg 0x200 [] false [fd 0 1 .rw 0, fnm 8 8 .rw 10 1 255 1 255 false, fnm 16 8 .rw 60 1 255 1 255 false, fnm 24 8 .rw 10 1 255 1 255 false]]

/-- Registers of GN, part 4. -/
def regsGN4 : List RegDesc := [
  rg 0x204 [] false [fnm 0 32 .rw 3600 60 2419200 60 2419200 false],
  rg 0x208 [] false [fd 0 2 .ro 0, fd 2 1 .ro 0, fd 3 2 .ro 0, fd 16 16 .ro 0],
  rg 0x20C [] false [fd 0 32 .ro 0],
  rg 0x210 [] false [fd 0 32 .ro 0],
  rg 0x214 [] false [fd 0 32 .ro 4294967295],
  rg 0x218 [] false [fd 0 32 .ro 0],
  rg 0x21C [] false [fd 0 32 .ro 0],
  rg 0x280 [] false [fnm 0 6 .rw 8 2 32 2 32 false, fd 6 2 .rw 3, fd 8 1 .rw 0],
  rg 0x284 [] false [fd 0 32 .rw 0],
  rg 0x288 [] false [fd 0 32 .rw 0],
  rg 0x28C [] false [fd 0 32 .rw 0],
  rg 0x290 [] false [fd 0 1 .w1s 0, fd 1 1 .w1s 0],
  rg 0x294 [] false [fd 0 3 .ro 0, fd 3 2 .ro 0, fd 8 24 .ro 0]]

/-- The register map of GN. -/
def regsGN : List RegDesc := regsGN0 ++ regsGN1 ++ regsGN2 ++ regsGN3 ++ regsGN4

namespace F

def SYN_STATUS_LOCKED : FieldRef := ⟨.syn, 0x0, 0, 6, 0⟩
def SYN_STATUS_BUSY : FieldRef := ⟨.syn, 0x0, 8, 6, 0⟩
def SYN_EVT_STATUS : FieldRef := ⟨.syn, 0x4, 0, 9, 0⟩
def SYN_EVT_EN : FieldRef := ⟨.syn, 0x8, 0, 9, 0⟩
def SYN_CG_CTRL_KIND (g : Nat) : FieldRef := ⟨.syn, 0x100 + 0x10 * (g - 6), 0, 2, 0⟩
def SYN_CG_CTRL_ARM (g : Nat) : FieldRef := ⟨.syn, 0x100 + 0x10 * (g - 6), 4, 1, 0⟩
def SYN_CG_CTRL_ABORT (g : Nat) : FieldRef := ⟨.syn, 0x100 + 0x10 * (g - 6), 5, 1, 0⟩
def SYN_CG_CTRL_ALIGN (g : Nat) : FieldRef := ⟨.syn, 0x100 + 0x10 * (g - 6), 6, 1, 0⟩
def SYN_CG_CTRL_ARMED (g : Nat) : FieldRef := ⟨.syn, 0x100 + 0x10 * (g - 6), 8, 1, 0⟩
def SYN_CG_CTRL_BOUNDARY_OUT (g : Nat) : FieldRef := ⟨.syn, 0x100 + 0x10 * (g - 6), 16, 5, 0⟩
def SYN_CG_TIME_LO (g : Nat) : FieldRef := ⟨.syn, 0x104 + 0x10 * (g - 6), 0, 32, 0⟩
def SYN_CG_TIME_HI (g : Nat) : FieldRef := ⟨.syn, 0x108 + 0x10 * (g - 6), 0, 32, 0⟩
def SYN_CG_STATUS_LAST_PARTIAL (g : Nat) : FieldRef := ⟨.syn, 0x10C + 0x10 * (g - 6), 0, 1, 0⟩
def SYN_CG_STATUS_LAST_REFUSED (g : Nat) : FieldRef := ⟨.syn, 0x10C + 0x10 * (g - 6), 1, 1, 0⟩
def SYN_CG_STATUS_COMMITS (g : Nat) : FieldRef := ⟨.syn, 0x10C + 0x10 * (g - 6), 16, 16, 0⟩
def SYN_S_CFG_ENABLE (k : Nat) : FieldRef := ⟨.syn, 0x200 + 0x20 * k, 0, 1, if k < 1 then 1 else 0⟩
def SYN_S_CFG_GROUP (k : Nat) : FieldRef := ⟨.syn, 0x200 + 0x20 * k, 4, 3, 0⟩
def SYN_S_MULT_INT (k : Nat) : FieldRef := ⟨.syn, 0x204 + 0x20 * k, 0, 8, 80⟩
def SYN_S_MULT_FRAC_LO (k : Nat) : FieldRef := ⟨.syn, 0x208 + 0x20 * k, 0, 32, 0⟩
def SYN_S_MULT_FRAC_HI (k : Nat) : FieldRef := ⟨.syn, 0x20C + 0x20 * k, 0, 8, 0⟩
def SYN_S_STATUS_STATE (k : Nat) : FieldRef := ⟨.syn, 0x210 + 0x20 * k, 0, 3, 0⟩
def SYN_S_STATUS_MULT_REJECT (k : Nat) : FieldRef := ⟨.syn, 0x210 + 0x20 * k, 3, 1, 0⟩
def SYN_S_STATUS_MEMO_ENTRY (k : Nat) : FieldRef := ⟨.syn, 0x210 + 0x20 * k, 4, 4, 0⟩
def SYN_S_STATUS_MEMO_HIT (k : Nat) : FieldRef := ⟨.syn, 0x210 + 0x20 * k, 8, 1, 0⟩
def SYN_S_STATUS_BAND (k : Nat) : FieldRef := ⟨.syn, 0x210 + 0x20 * k, 16, 10, 0⟩
def SYN_S_COUNTS_SEARCHES (k : Nat) : FieldRef := ⟨.syn, 0x214 + 0x20 * k, 0, 16, 0⟩
def SYN_S_COUNTS_LOL_COUNT (k : Nat) : FieldRef := ⟨.syn, 0x214 + 0x20 * k, 16, 16, 0⟩
def SYN_MEMO_SEL_SYNTH : FieldRef := ⟨.syn, 0x300, 0, 3, 1⟩
def SYN_MEMO_SEL_ENTRY : FieldRef := ⟨.syn, 0x300, 4, 4, 0⟩
def SYN_MEMO_KEY_INT : FieldRef := ⟨.syn, 0x304, 0, 8, 0⟩
def SYN_MEMO_KEY_LO : FieldRef := ⟨.syn, 0x308, 0, 32, 0⟩
def SYN_MEMO_KEY_HI_KEY_FRAC : FieldRef := ⟨.syn, 0x30C, 0, 8, 0⟩
def SYN_MEMO_KEY_HI_VALID : FieldRef := ⟨.syn, 0x30C, 8, 1, 0⟩
def SYN_MEMO_KEY_HI_PINNED : FieldRef := ⟨.syn, 0x30C, 9, 1, 0⟩
def SYN_MEMO_BAND : FieldRef := ⟨.syn, 0x310, 0, 10, 0⟩
def SYN_MEMO_CMD : FieldRef := ⟨.syn, 0x314, 0, 2, 0⟩
def OUT_STATUS_SHARED_DRIVE : FieldRef := ⟨.out, 0x0, 0, 1, 0⟩
def OUT_STATUS_SAFE : FieldRef := ⟨.out, 0x0, 1, 1, 0⟩
def OUT_EVT_STATUS : FieldRef := ⟨.out, 0x4, 0, 7, 0⟩
def OUT_EVT_EN : FieldRef := ⟨.out, 0x8, 0, 7, 0⟩
def OUT_TOD_UTC_OFFSET : FieldRef := ⟨.out, 0xC, 0, 16, 0⟩
def OUT_CLK_CFG_SRC (n : Nat) : FieldRef := ⟨.out, 0x100 + 0x10 * n, 0, 3, 0⟩
def OUT_CLK_CFG_EN (n : Nat) : FieldRef := ⟨.out, 0x100 + 0x10 * n, 3, 1, 0⟩
def OUT_CLK_CFG_STOP_STATE (n : Nat) : FieldRef := ⟨.out, 0x100 + 0x10 * n, 4, 2, 2⟩
def OUT_CLK_CFG_FORMAT (n : Nat) : FieldRef := ⟨.out, 0x100 + 0x10 * n, 6, 2, 0⟩
def OUT_CLK_CFG_SHARED (n : Nat) : FieldRef := ⟨.out, 0x100 + 0x10 * n, 8, 1, 0⟩
def OUT_CLK_CFG_GROUP (n : Nat) : FieldRef := ⟨.out, 0x100 + 0x10 * n, 9, 3, 0⟩
def OUT_CLK_DIV_LO (n : Nat) : FieldRef := ⟨.out, 0x104 + 0x10 * n, 0, 32, 7⟩
def OUT_CLK_DIV_HI (n : Nat) : FieldRef := ⟨.out, 0x108 + 0x10 * n, 0, 4, 0⟩
def OUT_CLK_DELAY_PHASE (n : Nat) : FieldRef := ⟨.out, 0x10C + 0x10 * n, 0, 16, 0⟩
def OUT_CLK_DELAY_FINE (n : Nat) : FieldRef := ⟨.out, 0x10C + 0x10 * n, 16, 9, 0⟩
def OUT_CLK_STATUS_STATE (n : Nat) : FieldRef := ⟨.out, 0x300 + 0x4 * n, 0, 2, 0⟩
def OUT_CLK_STATUS_DIV_REJECT (n : Nat) : FieldRef := ⟨.out, 0x300 + 0x4 * n, 2, 1, 0⟩
def OUT_CLK_STATUS_DRIVING (n : Nat) : FieldRef := ⟨.out, 0x300 + 0x4 * n, 3, 1, 0⟩
def OUT_CLK_STATUS_DELAY_MOVING (n : Nat) : FieldRef := ⟨.out, 0x300 + 0x4 * n, 4, 1, 0⟩
def OUT_PO_CFG_TYPE (n : Nat) : FieldRef := ⟨.out, 0x400 + 0x40 * n, 0, 2, 0⟩
def OUT_PO_CFG_POL (n : Nat) : FieldRef := ⟨.out, 0x400 + 0x40 * n, 2, 1, 0⟩
def OUT_PO_CFG_SHARED (n : Nat) : FieldRef := ⟨.out, 0x400 + 0x40 * n, 3, 1, 0⟩
def OUT_PO_CFG_SQUELCH (n : Nat) : FieldRef := ⟨.out, 0x400 + 0x40 * n, 4, 2, 1⟩
def OUT_PO_CFG_EN (n : Nat) : FieldRef := ⟨.out, 0x400 + 0x40 * n, 6, 1, 0⟩
def OUT_PO_CFG_REALIGN (n : Nat) : FieldRef := ⟨.out, 0x400 + 0x40 * n, 7, 1, 0⟩
def OUT_PO_CFG_VC (n : Nat) : FieldRef := ⟨.out, 0x400 + 0x40 * n, 8, 10, 0⟩
def OUT_PO_CFG_GROUP (n : Nat) : FieldRef := ⟨.out, 0x400 + 0x40 * n, 18, 3, 0⟩
def OUT_PO_CFG_FINE (n : Nat) : FieldRef := ⟨.out, 0x400 + 0x40 * n, 22, 9, 0⟩
def OUT_PO_PERIOD (n : Nat) : FieldRef := ⟨.out, 0x404 + 0x40 * n, 0, 32, 1000000⟩
def OUT_PO_WIDTH (n : Nat) : FieldRef := ⟨.out, 0x408 + 0x40 * n, 0, 32, 100000⟩
def OUT_PO_EPOCH_LO (n : Nat) : FieldRef := ⟨.out, 0x40C + 0x40 * n, 0, 32, 0⟩
def OUT_PO_EPOCH_HI (n : Nat) : FieldRef := ⟨.out, 0x410 + 0x40 * n, 0, 16, 0⟩
def OUT_PO_CABLE (n : Nat) : FieldRef := ⟨.out, 0x414 + 0x40 * n, 0, 24, 0⟩
def OUT_PO_SQ_BOUND (n : Nat) : FieldRef := ⟨.out, 0x418 + 0x40 * n, 0, 32, 4294967295⟩
def OUT_PO_STATUS_STATE (n : Nat) : FieldRef := ⟨.out, 0x41C + 0x40 * n, 0, 2, 0⟩
def OUT_PO_STATUS_MISALIGNED (n : Nat) : FieldRef := ⟨.out, 0x41C + 0x40 * n, 2, 1, 0⟩
def OUT_PO_STATUS_DRIVING (n : Nat) : FieldRef := ⟨.out, 0x41C + 0x40 * n, 3, 1, 0⟩
def OUT_PO_STATUS_PULSES (n : Nat) : FieldRef := ⟨.out, 0x41C + 0x40 * n, 16, 16, 0⟩
def OUT_PO_MISALIGN_LO (n : Nat) : FieldRef := ⟨.out, 0x420 + 0x40 * n, 0, 32, 0⟩
def OUT_PO_MISALIGN_HI (n : Nat) : FieldRef := ⟨.out, 0x424 + 0x40 * n, 0, 32, 0⟩
def OUT_PO_LAST_LO (n : Nat) : FieldRef := ⟨.out, 0x428 + 0x40 * n, 0, 32, 0⟩
def OUT_PO_LAST_HI (n : Nat) : FieldRef := ⟨.out, 0x42C + 0x40 * n, 0, 32, 0⟩
def OUT_TOD_CFG_EN (j : Nat) : FieldRef := ⟨.out, 0x600 + 0x10 * j, 0, 1, 0⟩
def OUT_TOD_CFG_SRC (j : Nat) : FieldRef := ⟨.out, 0x600 + 0x10 * j, 1, 4, 0⟩
def OUT_TOD_CFG_FORMAT (j : Nat) : FieldRef := ⟨.out, 0x600 + 0x10 * j, 5, 1, 0⟩
def OUT_TOD_CFG_ZDA_REF (j : Nat) : FieldRef := ⟨.out, 0x600 + 0x10 * j, 6, 1, 0⟩
def OUT_TOD_CFG_SHARED (j : Nat) : FieldRef := ⟨.out, 0x600 + 0x10 * j, 7, 1, 0⟩
def OUT_TOD_CFG_BAUD (j : Nat) : FieldRef := ⟨.out, 0x600 + 0x10 * j, 8, 3, 4⟩
def OUT_TOD_CFG_START_US (j : Nat) : FieldRef := ⟨.out, 0x600 + 0x10 * j, 16, 16, 1000⟩
def OUT_TOD_STATUS_SEQ (j : Nat) : FieldRef := ⟨.out, 0x604 + 0x10 * j, 0, 8, 0⟩
def OUT_TOD_STATUS_SKIPPED (j : Nat) : FieldRef := ⟨.out, 0x604 + 0x10 * j, 16, 16, 0⟩
def OUT_TODIN_CFG (i : Nat) : FieldRef := ⟨.out, 0x680 + 0x10 * i, 0, 3, 4⟩
def OUT_TODIN_STATUS_FRAMES_OK (i : Nat) : FieldRef := ⟨.out, 0x684 + 0x10 * i, 0, 16, 0⟩
def OUT_TODIN_STATUS_FRAMES_BAD (i : Nat) : FieldRef := ⟨.out, 0x684 + 0x10 * i, 16, 16, 0⟩
def TDC_STATUS_CAL_POINT : FieldRef := ⟨.tdc, 0x0, 0, 5, 0⟩
def TDC_STATUS_CAL_BUSY : FieldRef := ⟨.tdc, 0x0, 5, 1, 0⟩
def TDC_STATUS_CH_ACTIVE : FieldRef := ⟨.tdc, 0x0, 16, 16, 0⟩
def TDC_EVT_STATUS : FieldRef := ⟨.tdc, 0x4, 0, 12, 0⟩
def TDC_EVT_EN : FieldRef := ⟨.tdc, 0x8, 0, 12, 0⟩
def TDC_CTRL_CAL_EN : FieldRef := ⟨.tdc, 0xC, 0, 1, 1⟩
def TDC_CTRL_CAL_PERIOD_S : FieldRef := ⟨.tdc, 0xC, 4, 4, 10⟩
def TDC_CTRL_CAL_JUMP_PS : FieldRef := ⟨.tdc, 0xC, 8, 8, 100⟩
def TDC_CAL_CMD_POINT : FieldRef := ⟨.tdc, 0x10, 0, 5, 0⟩
def TDC_CAL_CMD_START : FieldRef := ⟨.tdc, 0x10, 31, 1, 0⟩
def TDC_CH_CFG_EN (n : Nat) : FieldRef := ⟨.tdc, 0x100 + 0x40 * n, 0, 1, 0⟩
def TDC_CH_CFG_SRC (n : Nat) : FieldRef := ⟨.tdc, 0x100 + 0x40 * n, 1, 2, 0⟩
def TDC_CH_CFG_EDGE (n : Nat) : FieldRef := ⟨.tdc, 0x100 + 0x40 * n, 3, 2, 0⟩
def TDC_CH_CFG_OVF_MODE (n : Nat) : FieldRef := ⟨.tdc, 0x100 + 0x40 * n, 5, 1, 0⟩
def TDC_CH_CFG_GATE_EN (n : Nat) : FieldRef := ⟨.tdc, 0x100 + 0x40 * n, 6, 1, 0⟩
def TDC_CH_CFG_GATE_SEL (n : Nat) : FieldRef := ⟨.tdc, 0x100 + 0x40 * n, 7, 2, 0⟩
def TDC_CH_CFG_OWNER (n : Nat) : FieldRef := ⟨.tdc, 0x100 + 0x40 * n, 16, 9, 0⟩
def TDC_CH_RING_BASE (n : Nat) : FieldRef := ⟨.tdc, 0x104 + 0x40 * n, 0, 32, 0⟩
def TDC_CH_RING_SIZE (n : Nat) : FieldRef := ⟨.tdc, 0x108 + 0x40 * n, 0, 5, 8⟩
def TDC_CH_WR_IDX (n : Nat) : FieldRef := ⟨.tdc, 0x10C + 0x40 * n, 0, 32, 0⟩
def TDC_CH_RD_IDX (n : Nat) : FieldRef := ⟨.tdc, 0x110 + 0x40 * n, 0, 32, 0⟩
def TDC_CH_WM (n : Nat) : FieldRef := ⟨.tdc, 0x114 + 0x40 * n, 0, 32, 0⟩
def TDC_CH_STATUS_STATE (n : Nat) : FieldRef := ⟨.tdc, 0x118 + 0x40 * n, 0, 2, 0⟩
def TDC_CH_STATUS_HALF_A_FAILED (n : Nat) : FieldRef := ⟨.tdc, 0x118 + 0x40 * n, 2, 1, 0⟩
def TDC_CH_STATUS_HALF_B_FAILED (n : Nat) : FieldRef := ⟨.tdc, 0x118 + 0x40 * n, 3, 1, 0⟩
def TDC_CH_STATUS_FULL (n : Nat) : FieldRef := ⟨.tdc, 0x118 + 0x40 * n, 4, 1, 0⟩
def TDC_CH_STATUS_GATE_OPEN (n : Nat) : FieldRef := ⟨.tdc, 0x118 + 0x40 * n, 5, 1, 0⟩
def TDC_CH_COUNTS_LOST (n : Nat) : FieldRef := ⟨.tdc, 0x11C + 0x40 * n, 0, 16, 0⟩
def TDC_CH_COUNTS_DROPPED (n : Nat) : FieldRef := ⟨.tdc, 0x11C + 0x40 * n, 16, 16, 0⟩
def TDC_CH_CAL_C1 (n : Nat) : FieldRef := ⟨.tdc, 0x120 + 0x40 * n, 0, 12, 0⟩
def TDC_CH_CAL_C2 (n : Nat) : FieldRef := ⟨.tdc, 0x120 + 0x40 * n, 16, 12, 0⟩
def TDC_GATE_CFG_MODE (g : Nat) : FieldRef := ⟨.tdc, 0x600 + 0x20 * g, 0, 2, 0⟩
def TDC_GATE_CFG_POL (g : Nat) : FieldRef := ⟨.tdc, 0x600 + 0x20 * g, 2, 1, 0⟩
def TDC_GATE_CFG_COUNT (g : Nat) : FieldRef := ⟨.tdc, 0x600 + 0x20 * g, 16, 16, 0⟩
def TDC_GATE_CTRL_ARM (g : Nat) : FieldRef := ⟨.tdc, 0x604 + 0x20 * g, 0, 1, 0⟩
def TDC_GATE_CTRL_DISARM (g : Nat) : FieldRef := ⟨.tdc, 0x604 + 0x20 * g, 1, 1, 0⟩
def TDC_GATE_CTRL_ARMED (g : Nat) : FieldRef := ⟨.tdc, 0x604 + 0x20 * g, 8, 1, 0⟩
def TDC_GATE_CTRL_OPEN (g : Nat) : FieldRef := ⟨.tdc, 0x604 + 0x20 * g, 9, 1, 0⟩
def TDC_GATE_OPEN_LO (g : Nat) : FieldRef := ⟨.tdc, 0x608 + 0x20 * g, 0, 32, 0⟩
def TDC_GATE_OPEN_HI (g : Nat) : FieldRef := ⟨.tdc, 0x60C + 0x20 * g, 0, 32, 0⟩
def TDC_GATE_CLOSE_LO (g : Nat) : FieldRef := ⟨.tdc, 0x610 + 0x20 * g, 0, 32, 0⟩
def TDC_GATE_CLOSE_HI (g : Nat) : FieldRef := ⟨.tdc, 0x614 + 0x20 * g, 0, 32, 0⟩
def TDC_GATE_STATUS (g : Nat) : FieldRef := ⟨.tdc, 0x618 + 0x20 * g, 0, 16, 0⟩
def TDC_CAL_TX (p : Nat) : FieldRef := ⟨.tdc, 0x800 + 0x10 * (p - 1), 0, 32, 0⟩
def TDC_CAL_RX (p : Nat) : FieldRef := ⟨.tdc, 0x804 + 0x10 * (p - 1), 0, 32, 0⟩
def TDC_CAL_UNC_TX_UNC (p : Nat) : FieldRef := ⟨.tdc, 0x808 + 0x10 * (p - 1), 0, 16, 65535⟩
def TDC_CAL_UNC_RX_UNC (p : Nat) : FieldRef := ⟨.tdc, 0x808 + 0x10 * (p - 1), 16, 16, 65535⟩
def TDC_CAL_INFO_COUNT (p : Nat) : FieldRef := ⟨.tdc, 0x80C + 0x10 * (p - 1), 0, 16, 0⟩
def TDC_CAL_INFO_VALID (p : Nat) : FieldRef := ⟨.tdc, 0x80C + 0x10 * (p - 1), 16, 1, 0⟩
def TDC_CAL_INFO_JUMP (p : Nat) : FieldRef := ⟨.tdc, 0x80C + 0x10 * (p - 1), 17, 1, 0⟩
def GN_STATUS_CH_ACTIVE : FieldRef := ⟨.gn, 0x0, 0, 8, 0⟩
def GN_STATUS_PORT_LOST : FieldRef := ⟨.gn, 0x0, 8, 2, 0⟩
def GN_STATUS_ACQ_BUSY : FieldRef := ⟨.gn, 0x0, 10, 1, 0⟩
def GN_STATUS_ACQ_QUEUED : FieldRef := ⟨.gn, 0x0, 11, 5, 0⟩
def GN_EVT_STATUS : FieldRef := ⟨.gn, 0x4, 0, 15, 0⟩
def GN_EVT_EN : FieldRef := ⟨.gn, 0x8, 0, 15, 0⟩
def GN_CTRL_EN : FieldRef := ⟨.gn, 0xC, 0, 1, 0⟩
def GN_CTRL_MEAS_PERIOD : FieldRef := ⟨.gn, 0xC, 1, 3, 3⟩
def GN_CTRL_ROM_LOOPS : FieldRef := ⟨.gn, 0xC, 4, 1, 1⟩
def GN_CTRL_SOLVE : FieldRef := ⟨.gn, 0xC, 5, 1, 1⟩
def GN_CTRL_CN0_MIN : FieldRef := ⟨.gn, 0xC, 8, 8, 28⟩
def GN_CTRL_COAST_MS : FieldRef := ⟨.gn, 0xC, 16, 16, 1000⟩
def GN_DUMP_BASE : FieldRef := ⟨.gn, 0x10, 0, 32, 0⟩
def GN_MEAS_BASE : FieldRef := ⟨.gn, 0x14, 0, 32, 0⟩
def GN_MEAS_WR_IDX : FieldRef := ⟨.gn, 0x18, 0, 32, 0⟩
def GN_MEAS_RD_IDX : FieldRef := ⟨.gn, 0x1C, 0, 32, 0⟩
def GN_ACQ_RING_BASE : FieldRef := ⟨.gn, 0x20, 0, 32, 0⟩
def GN_ACQ_WR_IDX : FieldRef := ⟨.gn, 0x24, 0, 32, 0⟩
def GN_ACQ_RD_IDX : FieldRef := ⟨.gn, 0x28, 0, 32, 0⟩
def GN_COUNTS_EPOCH_DROPPED : FieldRef := ⟨.gn, 0x2C, 0, 16, 0⟩
def GN_COUNTS_UPD_STALE : FieldRef := ⟨.gn, 0x2C, 16, 16, 0⟩
def GN_PORT_CFG_EN (p : Nat) : FieldRef := ⟨.gn, 0x40 + 0x20 * p, 0, 1, 0⟩
def GN_PORT_CFG_BITS (p : Nat) : FieldRef := ⟨.gn, 0x40 + 0x20 * p, 1, 1, 0⟩
def GN_PORT_CFG_SPEC_INV (p : Nat) : FieldRef := ⟨.gn, 0x40 + 0x20 * p, 2, 1, 0⟩
def GN_PORT_FS (p : Nat) : FieldRef := ⟨.gn, 0x44 + 0x20 * p, 0, 32, if p < 1 then 40920000 else 61380000⟩
def GN_PORT_IF (p : Nat) : FieldRef := ⟨.gn, 0x48 + 0x20 * p, 0, 32, 0⟩
def GN_PORT_DELAY (p : Nat) : FieldRef := ⟨.gn, 0x4C + 0x20 * p, 0, 32, 0⟩
def GN_PORT_STATUS_STATE (p : Nat) : FieldRef := ⟨.gn, 0x50 + 0x20 * p, 0, 2, 0⟩
def GN_PORT_STATUS_MAG_FRAC (p : Nat) : FieldRef := ⟨.gn, 0x50 + 0x20 * p, 16, 16, 0⟩
def GN_PORT_FS_MEAS (p : Nat) : FieldRef := ⟨.gn, 0x54 + 0x20 * p, 0, 32, 0⟩
def GN_ACQ_ARG0_SIGNAL : FieldRef := ⟨.gn, 0x80, 0, 3, 0⟩
def GN_ACQ_ARG0_AUTO_ASSIGN : FieldRef := ⟨.gn, 0x80, 3, 1, 0⟩
def GN_ACQ_ARG0_N_COH : FieldRef := ⟨.gn, 0x80, 4, 4, 1⟩
def GN_ACQ_ARG0_N_NC : FieldRef := ⟨.gn, 0x80, 8, 7, 1⟩
def GN_ACQ_ARG0_DOP_SPAN : FieldRef := ⟨.gn, 0x80, 16, 16, 5000⟩
def GN_ACQ_ARG1 : FieldRef := ⟨.gn, 0x84, 0, 32, 0⟩
def GN_ACQ_ARG2 : FieldRef := ⟨.gn, 0x88, 0, 31, 0⟩
def GN_ACQ_ARG3 : FieldRef := ⟨.gn, 0x8C, 0, 32, 0⟩
def GN_ACQ_ARG4 : FieldRef := ⟨.gn, 0x90, 0, 16, 2560⟩
def GN_ACQ_CMD : FieldRef := ⟨.gn, 0x94, 0, 2, 0⟩
def GN_ACQ_STATUS_CODE : FieldRef := ⟨.gn, 0x98, 0, 8, 0⟩
def GN_ACQ_STATUS_BUSY : FieldRef := ⟨.gn, 0x98, 8, 1, 0⟩
def GN_ACQ_STATUS_JOB : FieldRef := ⟨.gn, 0x98, 16, 16, 0⟩
def GN_SS_CFG_PRN : FieldRef := ⟨.gn, 0xA0, 0, 8, 1⟩
def GN_SS_CFG_N_NC : FieldRef := ⟨.gn, 0xA0, 8, 4, 1⟩
def GN_SS_CFG_STOP_ON_DETECT : FieldRef := ⟨.gn, 0xA0, 12, 1, 0⟩
def GN_SS_CFG_THRESH : FieldRef := ⟨.gn, 0xA0, 16, 16, 2560⟩
def GN_SS_CODE_CODE_START : FieldRef := ⟨.gn, 0xA4, 0, 12, 0⟩
def GN_SS_CODE_CODE_COUNT : FieldRef := ⟨.gn, 0xA4, 16, 12, 2046⟩
def GN_SS_DOP_DOP_START : FieldRef := ⟨.gn, 0xA8, 0, 16, 60536⟩
def GN_SS_DOP_DOP_STEP : FieldRef := ⟨.gn, 0xA8, 16, 10, 500⟩
def GN_SS_DOP_DOP_COUNT : FieldRef := ⟨.gn, 0xA8, 26, 6, 21⟩
def GN_SS_CMD_START : FieldRef := ⟨.gn, 0xAC, 0, 1, 0⟩
def GN_SS_CMD_ABORT : FieldRef := ⟨.gn, 0xAC, 1, 1, 0⟩
def GN_SS_RESULT0_CODE : FieldRef := ⟨.gn, 0xB0, 0, 12, 0⟩
def GN_SS_RESULT0_DOPPLER : FieldRef := ⟨.gn, 0xB0, 16, 16, 0⟩
def GN_SS_RESULT1_RATIO : FieldRef := ⟨.gn, 0xB4, 0, 16, 0⟩
def GN_SS_RESULT1_DONE : FieldRef := ⟨.gn, 0xB4, 16, 1, 0⟩
def GN_SS_RESULT1_DETECTED : FieldRef := ⟨.gn, 0xB4, 17, 1, 0⟩
def GN_SS_RESULT1_BUSY : FieldRef := ⟨.gn, 0xB4, 18, 1, 0⟩
def GN_SS_RESULT1_REFUSED : FieldRef := ⟨.gn, 0xB4, 19, 1, 0⟩
def GN_CH_SEL : FieldRef := ⟨.gn, 0xC0, 0, 8, 0⟩
def GN_CH_ARG0 : FieldRef := ⟨.gn, 0xC4, 0, 32, 0⟩
def GN_CH_ARG1 : FieldRef := ⟨.gn, 0xC8, 0, 32, 0⟩
def GN_CH_ARG2 : FieldRef := ⟨.gn, 0xCC, 0, 32, 0⟩
def GN_CH_ARG3 : FieldRef := ⟨.gn, 0xD0, 0, 32, 0⟩
def GN_CH_ARG4 : FieldRef := ⟨.gn, 0xD4, 0, 32, 0⟩
def GN_CH_ARG5 : FieldRef := ⟨.gn, 0xD8, 0, 32, 0⟩
def GN_CH_CMD : FieldRef := ⟨.gn, 0xDC, 0, 4, 0⟩
def GN_CH_CMD_STATUS_CODE : FieldRef := ⟨.gn, 0xE0, 0, 8, 0⟩
def GN_CH_CMD_STATUS_BUSY : FieldRef := ⟨.gn, 0xE0, 8, 1, 0⟩
def GN_SOL_CFG_MODE : FieldRef := ⟨.gn, 0x100, 0, 1, 1⟩
def GN_SOL_CFG_ISB_EST : FieldRef := ⟨.gn, 0x100, 1, 1, 1⟩
def GN_SOL_CFG_REF_SYS : FieldRef := ⟨.gn, 0x100, 2, 2, 0⟩
def GN_SOL_CFG_SYS_EN : FieldRef := ⟨.gn, 0x100, 4, 4, 15⟩
def GN_SOL_CFG_MIN_PAIRS : FieldRef := ⟨.gn, 0x100, 8, 4, 4⟩
def GN_SOL_CFG_SOL_K : FieldRef := ⟨.gn, 0x100, 12, 4, 6⟩
def GN_SOL_CFG_EL_MASK : FieldRef := ⟨.gn, 0x100, 16, 7, 10⟩
def GN_SOL_STATUS_SOL_STATE : FieldRef := ⟨.gn, 0x104, 0, 2, 0⟩
def GN_SOL_STATUS_PAIRS : FieldRef := ⟨.gn, 0x104, 8, 8, 0⟩
def GN_SOL_STATUS_SYSTEMS : FieldRef := ⟨.gn, 0x104, 16, 4, 0⟩
def GN_POS_X_LO : FieldRef := ⟨.gn, 0x108, 0, 32, 0⟩
def GN_POS_X_HI : FieldRef := ⟨.gn, 0x10C, 0, 32, 0⟩
def GN_POS_Y_LO : FieldRef := ⟨.gn, 0x110, 0, 32, 0⟩
def GN_POS_Y_HI : FieldRef := ⟨.gn, 0x114, 0, 32, 0⟩
def GN_POS_Z_LO : FieldRef := ⟨.gn, 0x118, 0, 32, 0⟩
def GN_POS_Z_HI : FieldRef := ⟨.gn, 0x11C, 0, 32, 0⟩
def GN_SURVEY_S : FieldRef := ⟨.gn, 0x120, 0, 32, 3600⟩
def GN_WEEK_FLOOR : FieldRef := ⟨.gn, 0x124, 0, 16, 2360⟩
def GN_BIAS_UNC : FieldRef := ⟨.gn, 0x128, 0, 32, 4294967295⟩
def GN_ISB (k : Nat) : FieldRef := ⟨.gn, 0x130 + 0x4 * k, 0, 32, 0⟩
def GN_SOL_OFFSET_LO : FieldRef := ⟨.gn, 0x140, 0, 32, 0⟩
def GN_SOL_OFFSET_HI : FieldRef := ⟨.gn, 0x144, 0, 32, 0⟩
def GN_SOL_SIGMA : FieldRef := ⟨.gn, 0x148, 0, 32, 4294967295⟩
def GN_SOL_BOUND_LO : FieldRef := ⟨.gn, 0x14C, 0, 32, 4294967295⟩
def GN_SOL_BOUND_HI : FieldRef := ⟨.gn, 0x150, 0, 8, 255⟩
def GN_CH_CFG_AUTO_POOL (c : Nat) : FieldRef := ⟨.gn, 0x1000 + 0x40 * c, 0, 1, 1⟩
def GN_CH_CFG_CARR_AID (c : Nat) : FieldRef := ⟨.gn, 0x1000 + 0x40 * c, 1, 1, 1⟩
def GN_CH_CFG_EL_SPACING (c : Nat) : FieldRef := ⟨.gn, 0x1000 + 0x40 * c, 2, 6, 16⟩
def GN_CH_CFG_VEL_SPACING (c : Nat) : FieldRef := ⟨.gn, 0x1000 + 0x40 * c, 8, 7, 48⟩
def GN_CH_CFG_NOISE_OFS (c : Nat) : FieldRef := ⟨.gn, 0x1000 + 0x40 * c, 16, 14, 512⟩
def GN_CH_LOOP_OWNER (c : Nat) : FieldRef := ⟨.gn, 0x1004 + 0x40 * c, 0, 1, 0⟩
def GN_CH_LOOP_HOST_TENANT (c : Nat) : FieldRef := ⟨.gn, 0x1004 + 0x40 * c, 1, 9, 0⟩
def GN_CH_LOOP_T_INT (c : Nat) : FieldRef := ⟨.gn, 0x1004 + 0x40 * c, 10, 3, 4⟩
def GN_CH_LOOP_MISS_MAX (c : Nat) : FieldRef := ⟨.gn, 0x1004 + 0x40 * c, 13, 3, 4⟩
def GN_CH_LOOP_PLL_BW (c : Nat) : FieldRef := ⟨.gn, 0x1004 + 0x40 * c, 16, 8, 150⟩
def GN_CH_LOOP_FLL_BW (c : Nat) : FieldRef := ⟨.gn, 0x1004 + 0x40 * c, 24, 4, 10⟩
def GN_CH_LOOP_DLL_BW (c : Nat) : FieldRef := ⟨.gn, 0x1004 + 0x40 * c, 28, 4, 4⟩
def GN_CH_STATE_STATE (c : Nat) : FieldRef := ⟨.gn, 0x1008 + 0x40 * c, 0, 3, 0⟩
def GN_CH_STATE_SIGNAL (c : Nat) : FieldRef := ⟨.gn, 0x1008 + 0x40 * c, 4, 3, 0⟩
def GN_CH_STATE_PRN (c : Nat) : FieldRef := ⟨.gn, 0x1008 + 0x40 * c, 8, 8, 0⟩
def GN_CH_STATE_FLAGS (c : Nat) : FieldRef := ⟨.gn, 0x1008 + 0x40 * c, 16, 7, 0⟩
def GN_CH_STATE_T_INT_MS (c : Nat) : FieldRef := ⟨.gn, 0x1008 + 0x40 * c, 24, 5, 0⟩
def GN_CH_CN0_CN0 (c : Nat) : FieldRef := ⟨.gn, 0x100C + 0x40 * c, 0, 16, 0⟩
def GN_CH_CN0_LOCK_S (c : Nat) : FieldRef := ⟨.gn, 0x100C + 0x40 * c, 16, 16, 0⟩
def GN_CH_UPD_CARR_LO (c : Nat) : FieldRef := ⟨.gn, 0x1010 + 0x40 * c, 0, 32, 0⟩
def GN_CH_UPD_CARR_HI (c : Nat) : FieldRef := ⟨.gn, 0x1014 + 0x40 * c, 0, 16, 0⟩
def GN_CH_UPD_CODE_LO (c : Nat) : FieldRef := ⟨.gn, 0x1018 + 0x40 * c, 0, 32, 0⟩
def GN_CH_UPD_CODE_HI (c : Nat) : FieldRef := ⟨.gn, 0x101C + 0x40 * c, 0, 16, 0⟩
def GN_CH_UPD_CSTEP (c : Nat) : FieldRef := ⟨.gn, 0x1020 + 0x40 * c, 0, 32, 0⟩
def GN_CH_UPD_KSTEP (c : Nat) : FieldRef := ⟨.gn, 0x1024 + 0x40 * c, 0, 32, 0⟩
def GN_CH_UPD_SYNC_INDEX (c : Nat) : FieldRef := ⟨.gn, 0x1028 + 0x40 * c, 0, 16, 0⟩
def GN_CH_UPD_SYNC_KIND (c : Nat) : FieldRef := ⟨.gn, 0x1028 + 0x40 * c, 16, 1, 0⟩
def GN_CH_UPD_DISC_DLL (c : Nat) : FieldRef := ⟨.gn, 0x102C + 0x40 * c, 0, 16, 0⟩
def GN_CH_UPD_DISC_PLL (c : Nat) : FieldRef := ⟨.gn, 0x102C + 0x40 * c, 16, 16, 0⟩
def GN_CH_UPD_CTRL_SEQ (c : Nat) : FieldRef := ⟨.gn, 0x1030 + 0x40 * c, 0, 16, 0⟩
def GN_CH_UPD_CTRL_CODE_LOCK (c : Nat) : FieldRef := ⟨.gn, 0x1030 + 0x40 * c, 16, 1, 0⟩
def GN_CH_UPD_CTRL_FREQ_LOCK (c : Nat) : FieldRef := ⟨.gn, 0x1030 + 0x40 * c, 17, 1, 0⟩
def GN_CH_UPD_CTRL_CARR_LOCK (c : Nat) : FieldRef := ⟨.gn, 0x1030 + 0x40 * c, 18, 1, 0⟩
def GN_CH_UPD_CTRL_HALF_CYCLE (c : Nat) : FieldRef := ⟨.gn, 0x1030 + 0x40 * c, 19, 1, 0⟩
def GN_CH_UPD_CTRL_SLIP (c : Nat) : FieldRef := ⟨.gn, 0x1030 + 0x40 * c, 20, 1, 0⟩
def GN_CH_UPD_CTRL_APPLY_CARR (c : Nat) : FieldRef := ⟨.gn, 0x1030 + 0x40 * c, 21, 1, 0⟩
def GN_CH_UPD_CTRL_APPLY_CODE (c : Nat) : FieldRef := ⟨.gn, 0x1030 + 0x40 * c, 22, 1, 0⟩
def GN_CH_UPD_CTRL_SYNC_VALID (c : Nat) : FieldRef := ⟨.gn, 0x1030 + 0x40 * c, 23, 1, 0⟩
def GN_CH_UPD_CTRL_WRITE (c : Nat) : FieldRef := ⟨.gn, 0x1030 + 0x40 * c, 31, 1, 0⟩
def GN_CH_COUNTS_MISSED (c : Nat) : FieldRef := ⟨.gn, 0x1034 + 0x40 * c, 0, 16, 0⟩
def GN_CH_COUNTS_SLIPS (c : Nat) : FieldRef := ⟨.gn, 0x1034 + 0x40 * c, 16, 16, 0⟩
def GN_INT_CFG_INT_FORCE : FieldRef := ⟨.gn, 0x180, 0, 2, 0⟩
def GN_INT_CFG_SP_POLICY : FieldRef := ⟨.gn, 0x180, 2, 1, 0⟩
def GN_INT_CFG_INT_MISS_S : FieldRef := ⟨.gn, 0x180, 3, 5, 3⟩
def GN_INT_CFG_INT_HOLD_S : FieldRef := ⟨.gn, 0x180, 8, 8, 10⟩
def GN_INT_CFG_RES_NS : FieldRef := ⟨.gn, 0x180, 16, 8, 30⟩
def GN_INT_CFG_JUMP_NS : FieldRef := ⟨.gn, 0x180, 24, 8, 50⟩
def GN_INT_STATUS_STATE : FieldRef := ⟨.gn, 0x184, 0, 2, 0⟩
def GN_INT_STATUS_SP_CHANNELS : FieldRef := ⟨.gn, 0x184, 8, 8, 0⟩
def GN_INT_STATUS_FRAME_LOCKED : FieldRef := ⟨.gn, 0x184, 16, 8, 0⟩
def GN_INT_EVT_STATUS : FieldRef := ⟨.gn, 0x188, 0, 12, 0⟩
def GN_INT_EVT_EN : FieldRef := ⟨.gn, 0x18C, 0, 12, 0⟩
def GN_SP_CFG_SP_EN : FieldRef := ⟨.gn, 0x190, 0, 1, 1⟩
def GN_SP_CFG_SP_CONFIRM : FieldRef := ⟨.gn, 0x190, 1, 3, 2⟩
def GN_SP_CFG_SP_PERIOD_S : FieldRef := ⟨.gn, 0x190, 8, 8, 10⟩
def GN_SP_CFG_SP_THRESH : FieldRef := ⟨.gn, 0x190, 16, 8, 10⟩
def GN_SP_CFG_SP_RATIO : FieldRef := ⟨.gn, 0x190, 24, 8, 64⟩
def GN_SP_RING_BASE : FieldRef := ⟨.gn, 0x194, 0, 32, 0⟩
def GN_SP_WR_IDX : FieldRef := ⟨.gn, 0x198, 0, 32, 0⟩
def GN_SP_RD_IDX : FieldRef := ⟨.gn, 0x19C, 0, 32, 0⟩
def GN_INT_COUNTS_PAIR_EXCLUDED : FieldRef := ⟨.gn, 0x1A0, 0, 16, 0⟩
def GN_INT_COUNTS_SP_SKIPPED : FieldRef := ⟨.gn, 0x1A0, 16, 16, 0⟩
def GN_PPS_CFG_EN : FieldRef := ⟨.gn, 0x1C0, 0, 1, 0⟩
def GN_PPS_CFG_PPS_MODE : FieldRef := ⟨.gn, 0x1C0, 1, 2, 0⟩
def GN_PPS_CFG_PPS_POL : FieldRef := ⟨.gn, 0x1C0, 3, 1, 0⟩
def GN_PPS_CFG_PPS_SQ_MIN : FieldRef := ⟨.gn, 0x1C0, 4, 2, 1⟩
def GN_PPS_CFG_PPS_COAST_S : FieldRef := ⟨.gn, 0x1C0, 8, 8, 4⟩
def GN_PPS_CFG_PPS_GROWTH : FieldRef := ⟨.gn, 0x1C0, 16, 16, 256⟩
def GN_PPS_WIDTH : FieldRef := ⟨.gn, 0x1C4, 0, 32, 100000⟩
def GN_PPS_CABLE : FieldRef := ⟨.gn, 0x1C8, 0, 24, 0⟩
def GN_PPS_STATUS_MODE_QERR : FieldRef := ⟨.gn, 0x1CC, 0, 1, 0⟩
def GN_PPS_STATUS_SQUELCHED : FieldRef := ⟨.gn, 0x1CC, 1, 1, 0⟩
def GN_PPS_STATUS_PULSES : FieldRef := ⟨.gn, 0x1CC, 16, 16, 0⟩
def GN_PPS_M_FRC_LO : FieldRef := ⟨.gn, 0x1D0, 0, 32, 0⟩
def GN_PPS_M_FRC_HI : FieldRef := ⟨.gn, 0x1D4, 0, 32, 0⟩
def GN_PPS_M_TIME0 : FieldRef := ⟨.gn, 0x1D8, 0, 32, 0⟩
def GN_PPS_M_TIME1 : FieldRef := ⟨.gn, 0x1DC, 0, 32, 0⟩
def GN_PPS_M_TIME2 : FieldRef := ⟨.gn, 0x1E0, 0, 32, 0⟩
def GN_PPS_M_RATE_LO : FieldRef := ⟨.gn, 0x1E4, 0, 32, 0⟩
def GN_PPS_M_RATE_HI : FieldRef := ⟨.gn, 0x1E8, 0, 16, 0⟩
def GN_PPS_M_BOUND_LO : FieldRef := ⟨.gn, 0x1EC, 0, 32, 4294967295⟩
def GN_PPS_M_BOUND_HI : FieldRef := ⟨.gn, 0x1F0, 0, 8, 255⟩
def GN_PPS_M_CTRL : FieldRef := ⟨.gn, 0x1F4, 0, 1, 0⟩
def GN_AUD_CFG_AUDIT_EN : FieldRef := ⟨.gn, 0x200, 0, 1, 0⟩
def GN_AUD_CFG_FE_WARM_MS : FieldRef := ⟨.gn, 0x200, 8, 8, 10⟩
def GN_AUD_CFG_AUDIT_AVG_S : FieldRef := ⟨.gn, 0x200, 16, 8, 60⟩
def GN_AUD_CFG_AUDIT_ON_MIN : FieldRef := ⟨.gn, 0x200, 24, 8, 10⟩
def GN_AUD_SLEEP_S : FieldRef := ⟨.gn, 0x204, 0, 32, 3600⟩
def GN_AUD_STATUS_STATE : FieldRef := ⟨.gn, 0x208, 0, 2, 0⟩
def GN_AUD_STATUS_AUDIT_OK : FieldRef := ⟨.gn, 0x208, 2, 1, 0⟩
def GN_AUD_STATUS_START : FieldRef := ⟨.gn, 0x208, 3, 2, 0⟩
def GN_AUD_STATUS_AUDITS : FieldRef := ⟨.gn, 0x208, 16, 16, 0⟩
def GN_AUD_OFFSET_LO : FieldRef := ⟨.gn, 0x20C, 0, 32, 0⟩
def GN_AUD_OFFSET_HI : FieldRef := ⟨.gn, 0x210, 0, 32, 0⟩
def GN_AUD_BOUND : FieldRef := ⟨.gn, 0x214, 0, 32, 4294967295⟩
def GN_AUD_WAKE_LO : FieldRef := ⟨.gn, 0x218, 0, 32, 0⟩
def GN_AUD_WAKE_HI : FieldRef := ⟨.gn, 0x21C, 0, 32, 0⟩
def GN_SNAP_CFG_LEN_MS : FieldRef := ⟨.gn, 0x280, 0, 6, 8⟩
def GN_SNAP_CFG_SNAP_PORTS : FieldRef := ⟨.gn, 0x280, 6, 2, 3⟩
def GN_SNAP_CFG_TRIGGER : FieldRef := ⟨.gn, 0x280, 8, 1, 0⟩
def GN_SNAP_BASE : FieldRef := ⟨.gn, 0x284, 0, 32, 0⟩
def GN_SNAP_TIME_LO : FieldRef := ⟨.gn, 0x288, 0, 32, 0⟩
def GN_SNAP_TIME_HI : FieldRef := ⟨.gn, 0x28C, 0, 32, 0⟩
def GN_SNAP_CTRL_ARM : FieldRef := ⟨.gn, 0x290, 0, 1, 0⟩
def GN_SNAP_CTRL_RELEASE : FieldRef := ⟨.gn, 0x290, 1, 1, 0⟩
def GN_SNAP_STATUS_STATE : FieldRef := ⟨.gn, 0x294, 0, 3, 0⟩
def GN_SNAP_STATUS_CAUSE : FieldRef := ⟨.gn, 0x294, 3, 2, 0⟩
def GN_SNAP_STATUS_LENGTH : FieldRef := ⟨.gn, 0x294, 8, 24, 0⟩

end F

end Sys2Proof.Machine
end

