-- ==== Sys2Proof/Machine/RegsC.lean ====
section
/-! DEFINITION. The register map of the blocks PRT, SVE, SEC, SCH, POL, KS, SHM: one row per register of the maps and field tables of spec/02 to spec/23
(offsets, array strides, "per function", fields with access type, reset value and storing rule), and one `FieldRef` name per field.
Transcribed from the tables of the manual; the address counts agree with Table 24.2 (R604). -/

namespace Sys2Proof.Machine

/-- Registers of PRT, part 0. -/
def regsPRT0 : List RegDesc := [
  rg 0x0 [] false [fd 0 16 .ro 0],
  rg 0x4 [] true [fd 0 12 .w1c 0],
  rg 0x8 [] true [fd 0 12 .rw 0],
  rg 0x10 [] false [fd 0 2 .rw 0, fd 4 1 .w1s 0, fd 5 1 .w1s 0, fd 8 1 .ro 0],
  rg 0x14 [] false [fd 0 32 .rw 0],
  rg 0x18 [] false [fd 0 32 .rw 0],
  rg 0x100 [(16, 0x40)] false [fd 0 1 .rw 0, fd 1 4 .rw 0, fd 5 2 .rw 0, fd 7 1 .rw 0, fd 8 1 .rw 0],
  rg 0x104 [(16, 0x40)] false [fnm 0 14 .rw 1522 64 9216 64 9216 false, fnm 16 8 .rw 10 1 255 1 255 false],
  rg 0x108 [(16, 0x40)] false [fd 0 2 .ro 0, fd 2 1 .ro 0, fd 3 1 .ro 0, fd 4 1 .ro 0, fd 5 1 .ro 0, fd 6 1 .ro 0, fd 7 1 .ro 0, fd 16 16 .ro 0],
  rg 0x10C [(16, 0x40)] false [fd 0 16 .sh 0, fd 16 16 .sh 0],
  rg 0x110 [(16, 0x40)] false [fd 0 32 .sh 0],
  rg 0x114 [(16, 0x40)] false [fd 0 10 .sh 0],
  rg 0x118 [(16, 0x40)] false [fd 0 16 .ro 0, fd 16 16 .ro 0],
  rg 0x11C [(16, 0x40)] false [fd 0 16 .ro 0, fd 16 16 .ro 0],
  rg 0x120 [(16, 0x40), (2, 0x10)] false [fd 0 1 .rw 0, fnm 1 4 .rw 8 8 12 8 12 false, fd 5 9 .rw 0, fd 16 16 .rw 0],
  rg 0x124 [(16, 0x40), (2, 0x10)] false [fd 0 21 .rw 0],
  rg 0x128 [(16, 0x40), (2, 0x10)] false [fd 0 32 .ro 0],
  rg 0x12C [(16, 0x40), (2, 0x10)] false [fd 0 32 .rw 0],
  rg 0x600 [(16, 0x4)] false [fd 0 1 .rw 0, fd 1 1 .rw 0, fd 2 4 .rw 0],
  rg 0x640 [(16, 0x4)] false [fd 0 1 .ro 0, fd 1 1 .ro 0, fd 2 1 .ro 0, fd 3 1 .ro 0, fd 8 4 .ro 0, fd 16 16 .ro 0]]

/-- The register map of PRT. -/
def regsPRT : List RegDesc := regsPRT0

/-- Registers of SVE, part 0. -/
def regsSVE0 : List RegDesc := [
  rg 0x0 [] false [fd 0 21 .ro 0],
  rg 0x4 [] true [fd 0 10 .w1c 0],
  rg 0x8 [] true [fd 0 10 .rw 0],
  rg 0xC [] false [fd 0 1 .rw 0, fnm 8 8 .rw 192 1 255 1 255 false],
  rg 0x10 [] false [fnm 0 32 .rw 1638400000 0 2048000000 0 2048000000 false],
  rg 0x14 [] false [fd 0 32 .ro 0],
  rg 0x18 [] false [fd 0 16 .ro 0, fd 16 16 .ro 0],
  rg 0x20 [] false [fd 0 1 .rw 0, fd 4 12 .rw 0, fnm 16 8 .rw 3 1 255 1 255 false, fnm 24 8 .rw 3 1 255 1 255 false],
  rg 0x24 [] false [fd 0 32 .rw 0],
  rg 0x28 [] false [fd 0 32 .rw 0],
  rg 0x2C [] false [fd 0 1 .ro 0, fd 1 1 .ro 0, fd 16 16 .ro 0],
  rg 0x40 [(8, 0x4)] false [fnm 0 32 .rw 320000000 0 400000000 0 400000000 false],
  rg 0x60 [(8, 0x4)] false [fd 0 32 .ro 0],
  rg 0x80 [(8, 0x4)] false [fd 0 9 .ro 0, fd 9 7 .ro 0],
  rg 0x100 [] true [fd 0 12 .rw 0],
  rg 0x104 [(8, 0x4)] true [fd 0 32 .rw 0],
  rg 0x124 [] true [fd 0 2 .wo 0, fd 2 1 .wo 0, fd 4 4 .wo 0],
  rg 0x128 [] true [fd 0 8 .ro 0, fd 8 1 .ro 0, fd 16 4 .ro 0],
  rg 0x12C [] true [fd 0 32 .ro 0],
  rg 0x130 [] true [fd 0 32 .ro 0],
  rg 0x134 [] true [fd 0 32 .ro 0],
  rg 0x140 [] true [fd 0 20 .rw 0],
  rg 0x144 [(16, 0x4)] true [fd 0 32 .rw 0],
  rg 0x184 [] true [fd 0 3 .wo 0, fd 3 3 .wo 0]]

/-- Registers of SVE, part 1. -/
def regsSVE1 : List RegDesc := [
  rg 0x188 [] true [fd 0 8 .ro 0, fd 8 1 .ro 0],
  rg 0x1A0 [] true [fd 0 9 .rw 0],
  rg 0x1A4 [] true [fd 0 32 .rw 4294967295],
  rg 0x1A8 [] true [fd 0 32 .ro 0],
  rg 0x1AC [] true [fd 0 32 .ro 0],
  rg 0x1B0 [] true [fd 0 32 .ro 0],
  rg 0x1B4 [] true [fd 0 32 .ro 0],
  rg 0x1B8 [] true [fd 0 32 .ro 0],
  rg 0x200 [(16, 0x4)] false [fd 0 1 .rw 0, fd 16 16 .rw 65535],
  rg 0x400 [(16, 0x40)] false [fnm 0 2 .rw 0 0 2 0 0 false, fd 2 1 .rw 0, fd 3 1 .rw 1, fd 4 1 .rw 1, fd 5 1 .rw 0, fd 6 1 .rw 1, fd 7 1 .rw 0, fd 8 1 .rw 0, fnm 9 2 .rw 0 0 2 0 2 false, fd 16 4 .rw 0, fd 20 8 .rw 0],
  rg 0x404 [(16, 0x40)] false [fd 0 32 .rw 0],
  rg 0x408 [(16, 0x40)] false [fd 0 32 .rw 0],
  rg 0x40C [(16, 0x40)] false [fd 0 8 .rw 128, fd 8 8 .rw 128, fd 16 8 .rw 6, fd 24 8 .rw 7],
  rg 0x410 [(16, 0x40)] false [fd 0 8 .rw 248, fd 8 8 .rw 254, fd 16 16 .rw 65535],
  rg 0x414 [(16, 0x40)] false [fd 0 8 .rw 160, fd 16 16 .rw 4],
  rg 0x418 [(16, 0x40)] false [fd 0 4 .rw 9, fd 4 4 .rw 4, fd 8 4 .rw 13, fd 12 4 .rw 4, fd 16 4 .rw 9, fd 20 4 .rw 4, fd 24 4 .rw 0, fd 28 4 .rw 1],
  rg 0x41C [(16, 0x40)] false [fnm 0 16 .rw 300 10 65535 10 65535 false, fd 16 4 .rw 0],
  rg 0x420 [(16, 0x40)] false [fd 0 10 .rw 1, fd 16 16 .rw 37],
  rg 0x424 [(16, 0x40)] false [fd 0 8 .rw 1, fd 8 8 .rw 221],
  rg 0x428 [(16, 0x40)] false [fd 0 32 .rw 1196446464],
  rg 0x42C [(16, 0x40)] false [fd 0 32 .rw 0]]

/-- The register map of SVE. -/
def regsSVE : List RegDesc := regsSVE0 ++ regsSVE1

/-- Registers of SEC, part 0. -/
def regsSEC0 : List RegDesc := [
  rg 0x0 [] false [fd 0 5 .ro 16, fd 8 3 .ro 6, fd 16 1 .ro 0],
  rg 0x4 [] true [fd 0 9 .w1c 0],
  rg 0x8 [] true [fd 0 9 .rw 0],
  rg 0xC [] false [fnm 0 16 .rw 568 568 65535 568 65535 false],
  rg 0x10 [] false [fd 0 16 .ro 0, fd 16 16 .ro 0],
  rg 0x14 [] false [fd 0 16 .ro 0, fd 16 16 .ro 0],
  rg 0x40 [(16, 0x4)] false [fd 0 32 .rw 0],
  rg 0x100 [] true [fnm 0 12 .rw 1 1 4095 1 4095 false],
  rg 0x104 [(4, 0x4)] true [fd 0 32 .rw 0],
  rg 0x114 [] true [fd 0 32 .rw 0],
  rg 0x118 [] true [fd 0 32 .rw 0],
  rg 0x11C [] true [fd 0 3 .wo 0, fd 8 1 .wo 0],
  rg 0x120 [] true [fd 0 8 .ro 0, fd 8 1 .ro 0],
  rg 0x124 [] true [fd 0 32 .ro 0],
  rg 0x128 [] true [fd 0 32 .ro 0],
  rg 0x200 [] true [fd 0 6 .rw 0],
  rg 0x204 [] true [fd 0 2 .ro 0, fd 2 1 .ro 0, fd 8 9 .rw 0, fd 20 10 .rw 0],
  rg 0x208 [] true [fd 0 32 .rw 0],
  rg 0x20C [] true [fd 0 32 .rw 0],
  rg 0x210 [] true [fd 0 32 .rw 0],
  rg 0x214 [] true [fd 0 3 .wo 0, fd 8 4 .wo 0],
  rg 0x218 [] true [fd 0 8 .ro 0, fd 8 1 .ro 0]]

/-- The register map of SEC. -/
def regsSEC : List RegDesc := regsSEC0

/-- Registers of SCH, part 0. -/
def regsSCH0 : List RegDesc := [
  rg 0x0 [] false [fd 0 17 .ro 0],
  rg 0x4 [] true [fd 0 12 .w1c 0],
  rg 0x8 [] true [fd 0 12 .rw 0],
  rg 0x10 [] false [fd 0 1 .rw 0, fnm 1 5 .rw 10 8 16 8 16 false, fd 16 16 .rw 0],
  rg 0x14 [] false [fd 0 32 .rw 0],
  rg 0x18 [] false [fd 0 32 .ro 0],
  rg 0x1C [] false [fd 0 32 .rw 0],
  rg 0x40 [] true [fd 0 9 .rw 0],
  rg 0x44 [] true [fd 0 16 .rw 0],
  rg 0x80 [] true [fd 0 16 .rw 0],
  rg 0x84 [] true [fd 0 32 .rw 0],
  rg 0x88 [] true [fd 0 32 .rw 0],
  rg 0x8C [] true [fd 0 32 .rw 0],
  rg 0x90 [] true [fd 0 32 .rw 0],
  rg 0x94 [] true [fd 0 32 .rw 0],
  rg 0x98 [] true [fd 0 2 .wo 0, fd 2 1 .wo 0],
  rg 0x9C [] true [fd 0 8 .ro 0, fd 8 1 .ro 0],
  rg 0xA0 [] true [fd 0 16 .ro 0, fd 16 1 .ro 0],
  rg 0xA4 [] true [fd 0 32 .ro 0],
  rg 0xA8 [] true [fd 0 32 .ro 0],
  rg 0xAC [] true [fd 0 32 .ro 0],
  rg 0xB0 [] true [fd 0 16 .ro 0, fd 16 16 .ro 0],
  rg 0xC0 [] true [fd 0 4 .rw 0, fd 4 1 .rw 0, fd 8 8 .rw 0],
  rg 0xC4 [] true [fd 0 4 .rw 15, fnm 8 24 .rw 1000000 1 16777215 1 16777215 false]]

/-- Registers of SCH, part 1. -/
def regsSCH1 : List RegDesc := [
  rg 0x200 [(16, 0x40)] false [fnm 0 3 .rw 4 1 4 1 4 false, fd 3 1 .rw 0, fd 4 4 .rw 0, fd 8 8 .rw 16, fd 16 1 .rw 0, fnm 17 5 .rw 10 0 20 0 20 false],
  rg 0x204 [(16, 0x40)] false [fd 0 3 .ro 0, fd 4 6 .ro 0],
  rg 0x208 [(16, 0x40)] false [fd 0 16 .ro 0, fd 16 16 .ro 0],
  rg 0x20C [(16, 0x40)] false [fd 0 16 .ro 0, fd 16 16 .ro 0],
  rg 0x210 [(16, 0x40)] false [fd 0 9 .rw 1, fd 9 1 .w1s 0, fd 10 1 .w1s 0, fd 11 1 .ro 0, fd 12 1 .ro 0],
  rg 0x214 [(16, 0x40)] false [fd 0 32 .rw 0],
  rg 0x218 [(16, 0x40)] false [fd 0 32 .rw 0],
  rg 0x21C [(16, 0x40)] false [fd 0 32 .rw 0],
  rg 0x220 [(16, 0x40)] false [fd 0 8 .ro 0, fd 8 4 .ro 15, fd 12 9 .ro 1]]

/-- The register map of SCH. -/
def regsSCH : List RegDesc := regsSCH0 ++ regsSCH1

/-- Registers of POL, part 0. -/
def regsPOL0 : List RegDesc := [
  rg 0x0 [] false [fd 0 14 .ro 0],
  rg 0x4 [] true [fd 0 3 .w1c 0],
  rg 0x8 [] true [fd 0 3 .rw 0],
  rg 0x40 [] true [fd 0 13 .rw 0],
  rg 0x44 [] true [fd 0 1 .rw 0, fd 1 1 .rw 0, fd 2 1 .rw 0, fd 8 8 .rw 0, fd 16 9 .rw 0],
  rg 0x48 [] true [fd 0 32 .rw 0],
  rg 0x4C [] true [fd 0 32 .rw 0],
  rg 0x50 [] true [fd 0 32 .rw 0],
  rg 0x54 [] true [fd 0 32 .rw 0],
  rg 0x58 [] true [fd 0 3 .wo 0],
  rg 0x5C [] true [fd 0 8 .ro 0, fd 8 1 .ro 0],
  rg 0x60 [] true [fd 0 32 .ro 0],
  rg 0x64 [] true [fd 0 32 .ro 0],
  rg 0x68 [] true [fd 0 32 .ro 0],
  rg 0x6C [] true [fd 0 32 .ro 0],
  rg 0x70 [] true [fd 0 32 .ro 0]]

/-- The register map of POL. -/
def regsPOL : List RegDesc := regsPOL0

/-- Registers of KS, part 0. -/
def regsKS0 : List RegDesc := [
  rg 0x0 [] false [fd 0 9 .ro 0, fd 10 10 .ro 0, fd 20 1 .ro 0, fd 21 1 .ro 0, fd 22 1 .ro 1],
  rg 0x4 [] true [fd 0 10 .w1c 0],
  rg 0x8 [] true [fd 0 10 .rw 0],
  rg 0xC [] false [fbt 0 2 .ro 0, fbt 8 7 .ro 0, fbt 16 1 .ro 0, fbt 17 1 .ro 0],
  rg 0x10 [] false [fbt 0 6 .rw 63],
  rg 0x14 [] false [fbt 0 6 .w1c 0, fbt 8 8 .ro 0],
  rg 0x18 [] false [fbt 0 32 .ro 0],
  rg 0x1C [] false [fbt 0 32 .ro 0],
  rg 0x20 [] false [fbt 0 32 .ro 0],
  rg 0x24 [] false [fbt 0 32 .ro 0],
  rg 0x28 [] false [fbt 0 32 .ro 0],
  rg 0x2C [] false [fbt 0 32 .ro 0],
  rg 0x100 [(4, 0x40), (12, 0x4)] false [fbt 0 32 .ro 0],
  rg 0x200 [] true [fd 0 10 .rw 0],
  rg 0x204 [(5, 0x4)] true [fd 0 32 .rw 0],
  rg 0x218 [] true [fd 0 4 .wo 0],
  rg 0x21C [] true [fd 0 8 .ro 0, fd 8 1 .ro 0, fd 12 4 .ro 0],
  rg 0x240 [(8, 0x4)] true [fd 0 32 .rw 0],
  rg 0x260 [(4, 0x4)] true [fd 0 32 .rw 0]]

/-- The register map of KS. -/
def regsKS : List RegDesc := regsKS0

/-- Registers of SHM, part 0. -/
def regsSHM0 : List RegDesc := [
  rg 0x0 [] false [fd 0 1 .ro 0, fd 1 1 .ro 0, fd 2 9 .ro 0],
  rg 0x4 [] true [fd 0 12 .w1c 0],
  rg 0x8 [] true [fd 0 12 .rw 0],
  rg 0xC [] false [fd 0 1 .rw 1, fnm 8 8 .rw 100 1 255 1 255 false, fnm 16 16 .rw 100 1 65535 1 65535 false],
  rg 0x10 [] false [fd 0 16 .ro 0, fd 16 16 .ro 0],
  rg 0x14 [] false [fd 0 32 .ro 0],
  rg 0x18 [] false [fd 0 5 .ro 0, fd 5 1 .ro 0, fd 6 1 .ro 0, fd 8 4 .ro 0],
  rg 0x1C [] false [fd 0 9 .ro 0, fd 16 8 .ro 0, fd 24 3 .ro 0],
  rg 0x20 [] false [fd 0 16 .ro 0, fd 16 16 .ro 0],
  rg 0x40 [] true [fd 0 5 .rw 0, fnm 8 5 .rw 0 0 16 0 16 false],
  rg 0x44 [] true [fd 0 14 .rw 0, fd 16 14 .ro 0],
  rg 0x48 [] true [fd 0 2 .wo 0],
  rg 0x4C [] true [fd 0 8 .ro 0, fd 8 1 .ro 0, fd 12 4 .ro 0],
  rg 0x60 [] true [fd 0 32 .rw 0],
  rg 0x64 [] true [fd 0 32 .rw 0],
  rg 0x68 [] true [fd 0 32 .rw 0],
  rg 0x6C [] true [fd 0 2 .wo 0, fd 2 1 .wo 0],
  rg 0x70 [] true [fd 0 32 .ro 0],
  rg 0x74 [] true [fd 0 32 .ro 0],
  rg 0x78 [] true [fd 0 8 .ro 0, fd 8 1 .ro 0],
  rg 0x100 [(22, 0x8)] false [fd 0 32 .ro 0],
  rg 0x104 [(22, 0x8)] false [fd 0 32 .ro 0],
  rg 0x200 [(17, 0x4)] false [fd 0 16 .ro 0, fd 16 1 .ro 0, fd 17 1 .ro 0]]

/-- The register map of SHM. -/
def regsSHM : List RegDesc := regsSHM0

namespace F

def PRT_STATUS : FieldRef := ⟨.prt, 0x0, 0, 16, 0⟩
def PRT_EVT_STATUS : FieldRef := ⟨.prt, 0x4, 0, 12, 0⟩
def PRT_EVT_EN : FieldRef := ⟨.prt, 0x8, 0, 12, 0⟩
def PRT_CG14_CTRL_KIND : FieldRef := ⟨.prt, 0x10, 0, 2, 0⟩
def PRT_CG14_CTRL_ARM : FieldRef := ⟨.prt, 0x10, 4, 1, 0⟩
def PRT_CG14_CTRL_ABORT : FieldRef := ⟨.prt, 0x10, 5, 1, 0⟩
def PRT_CG14_CTRL_ARMED : FieldRef := ⟨.prt, 0x10, 8, 1, 0⟩
def PRT_CG14_TIME_LO : FieldRef := ⟨.prt, 0x14, 0, 32, 0⟩
def PRT_CG14_TIME_HI : FieldRef := ⟨.prt, 0x18, 0, 32, 0⟩
def PRT_PORT_CFG_EN (n : Nat) : FieldRef := ⟨.prt, 0x100 + 0x40 * n, 0, 1, 0⟩
def PRT_PORT_CFG_MODE (n : Nat) : FieldRef := ⟨.prt, 0x100 + 0x40 * n, 1, 4, 0⟩
def PRT_PORT_CFG_FEC (n : Nat) : FieldRef := ⟨.prt, 0x100 + 0x40 * n, 5, 2, 0⟩
def PRT_PORT_CFG_AN_EN (n : Nat) : FieldRef := ⟨.prt, 0x100 + 0x40 * n, 7, 1, 0⟩
def PRT_PORT_CFG_ERR_DELIVER (n : Nat) : FieldRef := ⟨.prt, 0x100 + 0x40 * n, 8, 1, 0⟩
def PRT_PORT_FRAME_MAX_FRAME (n : Nat) : FieldRef := ⟨.prt, 0x104 + 0x40 * n, 0, 14, 1522⟩
def PRT_PORT_FRAME_LINKUP_MS (n : Nat) : FieldRef := ⟨.prt, 0x104 + 0x40 * n, 16, 8, 10⟩
def PRT_PORT_STATUS_STATE (n : Nat) : FieldRef := ⟨.prt, 0x108 + 0x40 * n, 0, 2, 0⟩
def PRT_PORT_STATUS_LOCAL_FAULT (n : Nat) : FieldRef := ⟨.prt, 0x108 + 0x40 * n, 2, 1, 0⟩
def PRT_PORT_STATUS_REMOTE_FAULT (n : Nat) : FieldRef := ⟨.prt, 0x108 + 0x40 * n, 3, 1, 0⟩
def PRT_PORT_STATUS_HI_BER (n : Nat) : FieldRef := ⟨.prt, 0x108 + 0x40 * n, 4, 1, 0⟩
def PRT_PORT_STATUS_DESKEW_FAIL (n : Nat) : FieldRef := ⟨.prt, 0x108 + 0x40 * n, 5, 1, 0⟩
def PRT_PORT_STATUS_SPEED_MISMATCH (n : Nat) : FieldRef := ⟨.prt, 0x108 + 0x40 * n, 6, 1, 0⟩
def PRT_PORT_STATUS_AN_DONE (n : Nat) : FieldRef := ⟨.prt, 0x108 + 0x40 * n, 7, 1, 0⟩
def PRT_PORT_STATUS_LINK_GEN (n : Nat) : FieldRef := ⟨.prt, 0x108 + 0x40 * n, 16, 16, 0⟩
def PRT_PORT_BOARD_BOARD_TX_PS (n : Nat) : FieldRef := ⟨.prt, 0x10C + 0x40 * n, 0, 16, 0⟩
def PRT_PORT_BOARD_BOARD_RX_PS (n : Nat) : FieldRef := ⟨.prt, 0x10C + 0x40 * n, 16, 16, 0⟩
def PRT_PORT_ASYM (n : Nat) : FieldRef := ⟨.prt, 0x110 + 0x40 * n, 0, 32, 0⟩
def PRT_PORT_VC (n : Nat) : FieldRef := ⟨.prt, 0x114 + 0x40 * n, 0, 10, 0⟩
def PRT_PORT_COUNTS_FCS_ERR (n : Nat) : FieldRef := ⟨.prt, 0x118 + 0x40 * n, 0, 16, 0⟩
def PRT_PORT_COUNTS_TX_DISCARD (n : Nat) : FieldRef := ⟨.prt, 0x118 + 0x40 * n, 16, 16, 0⟩
def PRT_PORT_FEC_FEC_CORR (n : Nat) : FieldRef := ⟨.prt, 0x11C + 0x40 * n, 0, 16, 0⟩
def PRT_PORT_FEC_FEC_UNCORR (n : Nat) : FieldRef := ⟨.prt, 0x11C + 0x40 * n, 16, 16, 0⟩
def PRT_TSR_CFG_EN (n : Nat) (d : Nat) : FieldRef := ⟨.prt, 0x120 + 0x40 * n + 0x10 * d, 0, 1, 0⟩
def PRT_TSR_CFG_LOG2_RECORDS (n : Nat) (d : Nat) : FieldRef := ⟨.prt, 0x120 + 0x40 * n + 0x10 * d, 1, 4, 8⟩
def PRT_TSR_CFG_OWNER (n : Nat) (d : Nat) : FieldRef := ⟨.prt, 0x120 + 0x40 * n + 0x10 * d, 5, 9, 0⟩
def PRT_TSR_CFG_WM (n : Nat) (d : Nat) : FieldRef := ⟨.prt, 0x120 + 0x40 * n + 0x10 * d, 16, 16, 0⟩
def PRT_TSR_BASE (n : Nat) (d : Nat) : FieldRef := ⟨.prt, 0x124 + 0x40 * n + 0x10 * d, 0, 21, 0⟩
def PRT_TSR_WR_IDX (n : Nat) (d : Nat) : FieldRef := ⟨.prt, 0x128 + 0x40 * n + 0x10 * d, 0, 32, 0⟩
def PRT_TSR_RD_IDX (n : Nat) (d : Nat) : FieldRef := ⟨.prt, 0x12C + 0x40 * n + 0x10 * d, 0, 32, 0⟩
def PRT_LANE_CFG_TX_INV (l : Nat) : FieldRef := ⟨.prt, 0x600 + 0x4 * l, 0, 1, 0⟩
def PRT_LANE_CFG_RX_INV (l : Nat) : FieldRef := ⟨.prt, 0x600 + 0x4 * l, 1, 1, 0⟩
def PRT_LANE_CFG_TX_EQ (l : Nat) : FieldRef := ⟨.prt, 0x600 + 0x4 * l, 2, 4, 0⟩
def PRT_LANE_STATUS_SIG_DET (l : Nat) : FieldRef := ⟨.prt, 0x640 + 0x4 * l, 0, 1, 0⟩
def PRT_LANE_STATUS_CDR_LOCK (l : Nat) : FieldRef := ⟨.prt, 0x640 + 0x4 * l, 1, 1, 0⟩
def PRT_LANE_STATUS_BLOCK_LOCK (l : Nat) : FieldRef := ⟨.prt, 0x640 + 0x4 * l, 2, 1, 0⟩
def PRT_LANE_STATUS_MEMBER (l : Nat) : FieldRef := ⟨.prt, 0x640 + 0x4 * l, 3, 1, 0⟩
def PRT_LANE_STATUS_PORT (l : Nat) : FieldRef := ⟨.prt, 0x640 + 0x4 * l, 8, 4, 0⟩
def PRT_LANE_STATUS_LOCK_LOSS (l : Nat) : FieldRef := ⟨.prt, 0x640 + 0x4 * l, 16, 16, 0⟩
def SVE_STATUS : FieldRef := ⟨.sve, 0x0, 0, 21, 0⟩
def SVE_EVT_STATUS : FieldRef := ⟨.sve, 0x4, 0, 10, 0⟩
def SVE_EVT_EN : FieldRef := ⟨.sve, 0x8, 0, 10, 0⟩
def SVE_CTRL_EN : FieldRef := ⟨.sve, 0xC, 0, 1, 0⟩
def SVE_CTRL_HWM : FieldRef := ⟨.sve, 0xC, 8, 8, 192⟩
def SVE_SEC_RESV : FieldRef := ⟨.sve, 0x10, 0, 32, 1638400000⟩
def SVE_SEC_LOAD : FieldRef := ⟨.sve, 0x14, 0, 32, 0⟩
def SVE_COUNTS_SIG_DROPPED : FieldRef := ⟨.sve, 0x18, 0, 16, 0⟩
def SVE_COUNTS_DIR_FULL : FieldRef := ⟨.sve, 0x18, 16, 16, 0⟩
def SVE_CLI_CFG_CLI_EN : FieldRef := ⟨.sve, 0x20, 0, 1, 0⟩
def SVE_CLI_CFG_CLI_ENTRY : FieldRef := ⟨.sve, 0x20, 4, 12, 0⟩
def SVE_CLI_CFG_CLI_ANN_TO : FieldRef := ⟨.sve, 0x20, 16, 8, 3⟩
def SVE_CLI_CFG_CLI_SYNC_TO : FieldRef := ⟨.sve, 0x20, 24, 8, 3⟩
def SVE_CLI_MASTER_LO : FieldRef := ⟨.sve, 0x24, 0, 32, 0⟩
def SVE_CLI_MASTER_HI : FieldRef := ⟨.sve, 0x28, 0, 32, 0⟩
def SVE_CLI_STATUS_ANN_TIMEOUT : FieldRef := ⟨.sve, 0x2C, 0, 1, 0⟩
def SVE_CLI_STATUS_SYNC_LOST : FieldRef := ⟨.sve, 0x2C, 1, 1, 0⟩
def SVE_CLI_STATUS_MESSAGES : FieldRef := ⟨.sve, 0x2C, 16, 16, 0⟩
def SVE_PIPE_RESV (p : Nat) : FieldRef := ⟨.sve, 0x40 + 0x4 * p, 0, 32, 320000000⟩
def SVE_PIPE_LOAD (p : Nat) : FieldRef := ⟨.sve, 0x60 + 0x4 * p, 0, 32, 0⟩
def SVE_PIPE_STATUS_METERED_DEPTH (p : Nat) : FieldRef := ⟨.sve, 0x80 + 0x4 * p, 0, 9, 0⟩
def SVE_PIPE_STATUS_GRANTED_DEPTH (p : Nat) : FieldRef := ⟨.sve, 0x80 + 0x4 * p, 9, 7, 0⟩
def SVE_CLS_SEL : FieldRef := ⟨.sve, 0x100, 0, 12, 0⟩
def SVE_CLS_DATA (i : Nat) : FieldRef := ⟨.sve, 0x104 + 0x4 * i, 0, 32, 0⟩
def SVE_CLS_CMD_OP : FieldRef := ⟨.sve, 0x124, 0, 2, 0⟩
def SVE_CLS_CMD_DRAIN : FieldRef := ⟨.sve, 0x124, 2, 1, 0⟩
def SVE_CLS_CMD_EXPECT_GEN : FieldRef := ⟨.sve, 0x124, 4, 4, 0⟩
def SVE_CLS_STATUS_CODE : FieldRef := ⟨.sve, 0x128, 0, 8, 0⟩
def SVE_CLS_STATUS_BUSY : FieldRef := ⟨.sve, 0x128, 8, 1, 0⟩
def SVE_CLS_STATUS_GEN : FieldRef := ⟨.sve, 0x128, 16, 4, 0⟩
def SVE_CLS_CNT0 : FieldRef := ⟨.sve, 0x12C, 0, 32, 0⟩
def SVE_CLS_CNT1 : FieldRef := ⟨.sve, 0x130, 0, 32, 0⟩
def SVE_CLS_CNT2 : FieldRef := ⟨.sve, 0x134, 0, 32, 0⟩
def SVE_CTX_SEL : FieldRef := ⟨.sve, 0x140, 0, 20, 0⟩
def SVE_CTX_DATA (i : Nat) : FieldRef := ⟨.sve, 0x144 + 0x4 * i, 0, 32, 0⟩
def SVE_CTX_CMD_OP : FieldRef := ⟨.sve, 0x184, 0, 3, 0⟩
def SVE_CTX_CMD_TYPES : FieldRef := ⟨.sve, 0x184, 3, 3, 0⟩
def SVE_CTX_STATUS_CODE : FieldRef := ⟨.sve, 0x188, 0, 8, 0⟩
def SVE_CTX_STATUS_BUSY : FieldRef := ⟨.sve, 0x188, 8, 1, 0⟩
def SVE_TEN_SEL : FieldRef := ⟨.sve, 0x1A0, 0, 9, 0⟩
def SVE_TEN_MAX : FieldRef := ⟨.sve, 0x1A4, 0, 32, 4294967295⟩
def SVE_TEN_LOAD : FieldRef := ⟨.sve, 0x1A8, 0, 32, 0⟩
def SVE_TEN_RED : FieldRef := ⟨.sve, 0x1AC, 0, 32, 0⟩
def SVE_TEN_FULL : FieldRef := ⟨.sve, 0x1B0, 0, 32, 0⟩
def SVE_TEN_KOD : FieldRef := ⟨.sve, 0x1B4, 0, 32, 0⟩
def SVE_TEN_REFUSED : FieldRef := ⟨.sve, 0x1B8, 0, 32, 0⟩
def SVE_PORT_CFG_DEFAULT_ACTION (n : Nat) : FieldRef := ⟨.sve, 0x200 + 0x4 * n, 0, 1, 0⟩
def SVE_PORT_CFG_EXC_QUEUE (n : Nat) : FieldRef := ⟨.sve, 0x200 + 0x4 * n, 16, 16, 65535⟩
def SVE_PROF_CFG_KIND (k : Nat) : FieldRef := ⟨.sve, 0x400 + 0x40 * k, 0, 2, 0⟩
def SVE_PROF_CFG_TWO_STEP (k : Nat) : FieldRef := ⟨.sve, 0x400 + 0x40 * k, 2, 1, 0⟩
def SVE_PROF_CFG_AUTO_CLASS (k : Nat) : FieldRef := ⟨.sve, 0x400 + 0x40 * k, 3, 1, 1⟩
def SVE_PROF_CFG_AUTO_ACC (k : Nat) : FieldRef := ⟨.sve, 0x400 + 0x40 * k, 4, 1, 1⟩
def SVE_PROF_CFG_UTC_VALID (k : Nat) : FieldRef := ⟨.sve, 0x400 + 0x40 * k, 5, 1, 0⟩
def SVE_PROF_CFG_PTP_TIMESCALE (k : Nat) : FieldRef := ⟨.sve, 0x400 + 0x40 * k, 6, 1, 1⟩
def SVE_PROF_CFG_TIME_TRACEABLE (k : Nat) : FieldRef := ⟨.sve, 0x400 + 0x40 * k, 7, 1, 0⟩
def SVE_PROF_CFG_FREQ_TRACEABLE (k : Nat) : FieldRef := ⟨.sve, 0x400 + 0x40 * k, 8, 1, 0⟩
def SVE_PROF_CFG_NTS_MODE (k : Nat) : FieldRef := ⟨.sve, 0x400 + 0x40 * k, 9, 2, 0⟩
def SVE_PROF_CFG_MAJOR_SDO (k : Nat) : FieldRef := ⟨.sve, 0x400 + 0x40 * k, 16, 4, 0⟩
def SVE_PROF_CFG_MINOR_SDO (k : Nat) : FieldRef := ⟨.sve, 0x400 + 0x40 * k, 20, 8, 0⟩
def SVE_PROF_CLKID_LO (k : Nat) : FieldRef := ⟨.sve, 0x404 + 0x40 * k, 0, 32, 0⟩
def SVE_PROF_CLKID_HI (k : Nat) : FieldRef := ⟨.sve, 0x408 + 0x40 * k, 0, 32, 0⟩
def SVE_PROF_DS0_PRIORITY1 (k : Nat) : FieldRef := ⟨.sve, 0x40C + 0x40 * k, 0, 8, 128⟩
def SVE_PROF_DS0_PRIORITY2 (k : Nat) : FieldRef := ⟨.sve, 0x40C + 0x40 * k, 8, 8, 128⟩
def SVE_PROF_DS0_CLASS_LOCKED (k : Nat) : FieldRef := ⟨.sve, 0x40C + 0x40 * k, 16, 8, 6⟩
def SVE_PROF_DS0_CLASS_HO (k : Nat) : FieldRef := ⟨.sve, 0x40C + 0x40 * k, 24, 8, 7⟩
def SVE_PROF_DS1_CLASS_FREE (k : Nat) : FieldRef := ⟨.sve, 0x410 + 0x40 * k, 0, 8, 248⟩
def SVE_PROF_DS1_ACCURACY (k : Nat) : FieldRef := ⟨.sve, 0x410 + 0x40 * k, 8, 8, 254⟩
def SVE_PROF_DS1_VARIANCE (k : Nat) : FieldRef := ⟨.sve, 0x410 + 0x40 * k, 16, 16, 65535⟩
def SVE_PROF_DS2_TIME_SOURCE (k : Nat) : FieldRef := ⟨.sve, 0x414 + 0x40 * k, 0, 8, 160⟩
def SVE_PROF_DS2_HO_BOUND (k : Nat) : FieldRef := ⟨.sve, 0x414 + 0x40 * k, 16, 16, 4⟩
def SVE_PROF_LOG_SYNC_MIN (k : Nat) : FieldRef := ⟨.sve, 0x418 + 0x40 * k, 0, 4, 9⟩
def SVE_PROF_LOG_SYNC_MAX (k : Nat) : FieldRef := ⟨.sve, 0x418 + 0x40 * k, 4, 4, 4⟩
def SVE_PROF_LOG_ANN_MIN (k : Nat) : FieldRef := ⟨.sve, 0x418 + 0x40 * k, 8, 4, 13⟩
def SVE_PROF_LOG_ANN_MAX (k : Nat) : FieldRef := ⟨.sve, 0x418 + 0x40 * k, 12, 4, 4⟩
def SVE_PROF_LOG_DRESP_MIN (k : Nat) : FieldRef := ⟨.sve, 0x418 + 0x40 * k, 16, 4, 9⟩
def SVE_PROF_LOG_DRESP_MAX (k : Nat) : FieldRef := ⟨.sve, 0x418 + 0x40 * k, 20, 4, 4⟩
def SVE_PROF_LOG_MC_SYNC (k : Nat) : FieldRef := ⟨.sve, 0x418 + 0x40 * k, 24, 4, 0⟩
def SVE_PROF_LOG_MC_ANN (k : Nat) : FieldRef := ⟨.sve, 0x418 + 0x40 * k, 28, 4, 1⟩
def SVE_PROF_DUR_DUR_MAX (k : Nat) : FieldRef := ⟨.sve, 0x41C + 0x40 * k, 0, 16, 300⟩
def SVE_PROF_DUR_MC_DRESP (k : Nat) : FieldRef := ⟨.sve, 0x41C + 0x40 * k, 16, 4, 0⟩
def SVE_PROF_UTC_UTC_VC (k : Nat) : FieldRef := ⟨.sve, 0x420 + 0x40 * k, 0, 10, 1⟩
def SVE_PROF_UTC_UTC_BASE (k : Nat) : FieldRef := ⟨.sve, 0x420 + 0x40 * k, 16, 16, 37⟩
def SVE_PROF_NTP_STRATUM (k : Nat) : FieldRef := ⟨.sve, 0x424 + 0x40 * k, 0, 8, 1⟩
def SVE_PROF_NTP_PRECISION (k : Nat) : FieldRef := ⟨.sve, 0x424 + 0x40 * k, 8, 8, 221⟩
def SVE_PROF_NTP_REFID (k : Nat) : FieldRef := ⟨.sve, 0x428 + 0x40 * k, 0, 32, 1196446464⟩
def SVE_PROF_NTP_RDELAY (k : Nat) : FieldRef := ⟨.sve, 0x42C + 0x40 * k, 0, 32, 0⟩
def SEC_STATUS_ENG_GH : FieldRef := ⟨.sec, 0x0, 0, 5, 16⟩
def SEC_STATUS_ENG_SIV : FieldRef := ⟨.sec, 0x0, 8, 3, 6⟩
def SEC_STATUS_NONCE_KEY : FieldRef := ⟨.sec, 0x0, 16, 1, 0⟩
def SEC_EVT_STATUS : FieldRef := ⟨.sec, 0x4, 0, 9, 0⟩
def SEC_EVT_EN : FieldRef := ⟨.sec, 0x8, 0, 9, 0⟩
def SEC_CTRL : FieldRef := ⟨.sec, 0xC, 0, 16, 568⟩
def SEC_COUNTS0_AUTH_FAIL : FieldRef := ⟨.sec, 0x10, 0, 16, 0⟩
def SEC_COUNTS0_SEQ_EXHAUSTED : FieldRef := ⟨.sec, 0x10, 16, 16, 0⟩
def SEC_COUNTS1_NTSN_SENT : FieldRef := ⟨.sec, 0x14, 0, 16, 0⟩
def SEC_COUNTS1_LAUNCH_MISS : FieldRef := ⟨.sec, 0x14, 16, 16, 0⟩
def SEC_REQ_AUTH (i : Nat) : FieldRef := ⟨.sec, 0x40 + 0x4 * i, 0, 32, 0⟩
def SEC_SA_SEL : FieldRef := ⟨.sec, 0x100, 0, 12, 1⟩
def SEC_SA_DATA (i : Nat) : FieldRef := ⟨.sec, 0x104 + 0x4 * i, 0, 32, 0⟩
def SEC_SA_ARG0 : FieldRef := ⟨.sec, 0x114, 0, 32, 0⟩
def SEC_SA_ARG1 : FieldRef := ⟨.sec, 0x118, 0, 32, 0⟩
def SEC_SA_CMD_OP : FieldRef := ⟨.sec, 0x11C, 0, 3, 0⟩
def SEC_SA_CMD_TRIGGER : FieldRef := ⟨.sec, 0x11C, 8, 1, 0⟩
def SEC_SA_STATUS_CODE : FieldRef := ⟨.sec, 0x120, 0, 8, 0⟩
def SEC_SA_STATUS_BUSY : FieldRef := ⟨.sec, 0x120, 8, 1, 0⟩
def SEC_SA_SEQ_A : FieldRef := ⟨.sec, 0x124, 0, 32, 0⟩
def SEC_SA_SEQ_B : FieldRef := ⟨.sec, 0x128, 0, 32, 0⟩
def SEC_NTS_SEL : FieldRef := ⟨.sec, 0x200, 0, 6, 0⟩
def SEC_NTS_CFG_STATE : FieldRef := ⟨.sec, 0x204, 0, 2, 0⟩
def SEC_NTS_CFG_KEY_LOST : FieldRef := ⟨.sec, 0x204, 2, 1, 0⟩
def SEC_NTS_CFG_OWNER : FieldRef := ⟨.sec, 0x204, 8, 9, 0⟩
def SEC_NTS_CFG_SLOT : FieldRef := ⟨.sec, 0x204, 20, 10, 0⟩
def SEC_NTS_KEYID : FieldRef := ⟨.sec, 0x208, 0, 32, 0⟩
def SEC_NTS_ADDR_LO : FieldRef := ⟨.sec, 0x20C, 0, 32, 0⟩
def SEC_NTS_ADDR_HI : FieldRef := ⟨.sec, 0x210, 0, 32, 0⟩
def SEC_NTS_CMD_OP : FieldRef := ⟨.sec, 0x214, 0, 3, 0⟩
def SEC_NTS_CMD_COUNT : FieldRef := ⟨.sec, 0x214, 8, 4, 0⟩
def SEC_NTS_STATUS_CODE : FieldRef := ⟨.sec, 0x218, 0, 8, 0⟩
def SEC_NTS_STATUS_BUSY : FieldRef := ⟨.sec, 0x218, 8, 1, 0⟩
def SCH_STATUS : FieldRef := ⟨.sch, 0x0, 0, 17, 0⟩
def SCH_EVT_STATUS : FieldRef := ⟨.sch, 0x4, 0, 12, 0⟩
def SCH_EVT_EN : FieldRef := ⟨.sch, 0x8, 0, 12, 0⟩
def SCH_SMP_CFG_EN : FieldRef := ⟨.sch, 0x10, 0, 1, 0⟩
def SCH_SMP_CFG_LOG2_RECORDS : FieldRef := ⟨.sch, 0x10, 1, 5, 10⟩
def SCH_SMP_CFG_WM : FieldRef := ⟨.sch, 0x10, 16, 16, 0⟩
def SCH_SMP_BASE : FieldRef := ⟨.sch, 0x14, 0, 32, 0⟩
def SCH_SMP_WR_IDX : FieldRef := ⟨.sch, 0x18, 0, 32, 0⟩
def SCH_SMP_RD_IDX : FieldRef := ⟨.sch, 0x1C, 0, 32, 0⟩
def SCH_TEN_SEL : FieldRef := ⟨.sch, 0x40, 0, 9, 0⟩
def SCH_TEN_QBASE : FieldRef := ⟨.sch, 0x44, 0, 16, 0⟩
def SCH_Q_SEL : FieldRef := ⟨.sch, 0x80, 0, 16, 0⟩
def SCH_Q_CFG0 : FieldRef := ⟨.sch, 0x84, 0, 32, 0⟩
def SCH_Q_CFG1 : FieldRef := ⟨.sch, 0x88, 0, 32, 0⟩
def SCH_Q_CFG2 : FieldRef := ⟨.sch, 0x8C, 0, 32, 0⟩
def SCH_Q_CFG3 : FieldRef := ⟨.sch, 0x90, 0, 32, 0⟩
def SCH_Q_CFG4 : FieldRef := ⟨.sch, 0x94, 0, 32, 0⟩
def SCH_Q_CMD_OP : FieldRef := ⟨.sch, 0x98, 0, 2, 0⟩
def SCH_Q_CMD_CLEAR_MAX : FieldRef := ⟨.sch, 0x98, 2, 1, 0⟩
def SCH_Q_STATUS_CODE : FieldRef := ⟨.sch, 0x9C, 0, 8, 0⟩
def SCH_Q_STATUS_BUSY : FieldRef := ⟨.sch, 0x9C, 8, 1, 0⟩
def SCH_Q_DEPTH_DEPTH : FieldRef := ⟨.sch, 0xA0, 0, 16, 0⟩
def SCH_Q_DEPTH_ELIGIBLE : FieldRef := ⟨.sch, 0xA0, 16, 1, 0⟩
def SCH_Q_BYTES : FieldRef := ⟨.sch, 0xA4, 0, 32, 0⟩
def SCH_Q_AGE : FieldRef := ⟨.sch, 0xA8, 0, 32, 0⟩
def SCH_Q_MAX_DELAY : FieldRef := ⟨.sch, 0xAC, 0, 32, 0⟩
def SCH_Q_DROPS_TAIL_DROP : FieldRef := ⟨.sch, 0xB0, 0, 16, 0⟩
def SCH_Q_DROPS_OTHER_DROP : FieldRef := ⟨.sch, 0xB0, 16, 16, 0⟩
def SCH_GATE_SEL_PORT : FieldRef := ⟨.sch, 0xC0, 0, 4, 0⟩
def SCH_GATE_SEL_BANK : FieldRef := ⟨.sch, 0xC0, 4, 1, 0⟩
def SCH_GATE_SEL_ENTRY : FieldRef := ⟨.sch, 0xC0, 8, 8, 0⟩
def SCH_GATE_DATA_GATES : FieldRef := ⟨.sch, 0xC4, 0, 4, 15⟩
def SCH_GATE_DATA_DUR_NS : FieldRef := ⟨.sch, 0xC4, 8, 24, 1000000⟩
def SCH_PORT_CFG_RUN_AHEAD (n : Nat) : FieldRef := ⟨.sch, 0x200 + 0x40 * n, 0, 3, 4⟩
def SCH_PORT_CFG_GATE_EN (n : Nat) : FieldRef := ⟨.sch, 0x200 + 0x40 * n, 3, 1, 0⟩
def SCH_PORT_CFG_OVERRUN (n : Nat) : FieldRef := ⟨.sch, 0x200 + 0x40 * n, 4, 4, 0⟩
def SCH_PORT_CFG_GUARD_NS (n : Nat) : FieldRef := ⟨.sch, 0x200 + 0x40 * n, 8, 8, 16⟩
def SCH_PORT_CFG_SMP_EN (n : Nat) : FieldRef := ⟨.sch, 0x200 + 0x40 * n, 16, 1, 0⟩
def SCH_PORT_CFG_SMP_LOG2 (n : Nat) : FieldRef := ⟨.sch, 0x200 + 0x40 * n, 17, 5, 10⟩
def SCH_PORT_STATUS_AHEAD (n : Nat) : FieldRef := ⟨.sch, 0x204 + 0x40 * n, 0, 3, 0⟩
def SCH_PORT_STATUS_RESERVED (n : Nat) : FieldRef := ⟨.sch, 0x204 + 0x40 * n, 4, 6, 0⟩
def SCH_PORT_COUNTS_GATE_HOLD (n : Nat) : FieldRef := ⟨.sch, 0x208 + 0x40 * n, 0, 16, 0⟩
def SCH_PORT_COUNTS_GRANT_LAG (n : Nat) : FieldRef := ⟨.sch, 0x208 + 0x40 * n, 16, 16, 0⟩
def SCH_PORT_REVOKE_SENT_REVOKE (n : Nat) : FieldRef := ⟨.sch, 0x20C + 0x40 * n, 0, 16, 0⟩
def SCH_PORT_REVOKE_LINK_DISCARD (n : Nat) : FieldRef := ⟨.sch, 0x20C + 0x40 * n, 16, 16, 0⟩
def SCH_GATE_CTRL_LEN (n : Nat) : FieldRef := ⟨.sch, 0x210 + 0x40 * n, 0, 9, 1⟩
def SCH_GATE_CTRL_ARM (n : Nat) : FieldRef := ⟨.sch, 0x210 + 0x40 * n, 9, 1, 0⟩
def SCH_GATE_CTRL_ABORT (n : Nat) : FieldRef := ⟨.sch, 0x210 + 0x40 * n, 10, 1, 0⟩
def SCH_GATE_CTRL_ARMED (n : Nat) : FieldRef := ⟨.sch, 0x210 + 0x40 * n, 11, 1, 0⟩
def SCH_GATE_CTRL_ACTIVE_BANK (n : Nat) : FieldRef := ⟨.sch, 0x210 + 0x40 * n, 12, 1, 0⟩
def SCH_GATE_BASE0 (n : Nat) : FieldRef := ⟨.sch, 0x214 + 0x40 * n, 0, 32, 0⟩
def SCH_GATE_BASE1 (n : Nat) : FieldRef := ⟨.sch, 0x218 + 0x40 * n, 0, 32, 0⟩
def SCH_GATE_BASE2 (n : Nat) : FieldRef := ⟨.sch, 0x21C + 0x40 * n, 0, 32, 0⟩
def SCH_GATE_STATUS_ENTRY (n : Nat) : FieldRef := ⟨.sch, 0x220 + 0x40 * n, 0, 8, 0⟩
def SCH_GATE_STATUS_GATES (n : Nat) : FieldRef := ⟨.sch, 0x220 + 0x40 * n, 8, 4, 15⟩
def SCH_GATE_STATUS_ACTIVE_LEN (n : Nat) : FieldRef := ⟨.sch, 0x220 + 0x40 * n, 12, 9, 1⟩
def POL_STATUS : FieldRef := ⟨.pol, 0x0, 0, 14, 0⟩
def POL_EVT_STATUS : FieldRef := ⟨.pol, 0x4, 0, 3, 0⟩
def POL_EVT_EN : FieldRef := ⟨.pol, 0x8, 0, 3, 0⟩
def POL_SEL : FieldRef := ⟨.pol, 0x40, 0, 13, 0⟩
def POL_CFG_EN : FieldRef := ⟨.pol, 0x44, 0, 1, 0⟩
def POL_CFG_MODE : FieldRef := ⟨.pol, 0x44, 1, 1, 0⟩
def POL_CFG_UNIT : FieldRef := ⟨.pol, 0x44, 2, 1, 0⟩
def POL_CFG_OVH : FieldRef := ⟨.pol, 0x44, 8, 8, 0⟩
def POL_CFG_OWNER : FieldRef := ⟨.pol, 0x44, 16, 9, 0⟩
def POL_CIR : FieldRef := ⟨.pol, 0x48, 0, 32, 0⟩
def POL_CBS : FieldRef := ⟨.pol, 0x4C, 0, 32, 0⟩
def POL_PIR : FieldRef := ⟨.pol, 0x50, 0, 32, 0⟩
def POL_EBS_PBS : FieldRef := ⟨.pol, 0x54, 0, 32, 0⟩
def POL_CMD : FieldRef := ⟨.pol, 0x58, 0, 3, 0⟩
def POL_CMD_STATUS_CODE : FieldRef := ⟨.pol, 0x5C, 0, 8, 0⟩
def POL_CMD_STATUS_BUSY : FieldRef := ⟨.pol, 0x5C, 8, 1, 0⟩
def POL_TOKENS0 : FieldRef := ⟨.pol, 0x60, 0, 32, 0⟩
def POL_TOKENS1 : FieldRef := ⟨.pol, 0x64, 0, 32, 0⟩
def POL_CNT_GREEN : FieldRef := ⟨.pol, 0x68, 0, 32, 0⟩
def POL_CNT_YELLOW : FieldRef := ⟨.pol, 0x6C, 0, 32, 0⟩
def POL_CNT_RED : FieldRef := ⟨.pol, 0x70, 0, 32, 0⟩
def KS_STATUS_PERSIST_USED : FieldRef := ⟨.ks, 0x0, 0, 9, 0⟩
def KS_STATUS_VOLATILE_USED : FieldRef := ⟨.ks, 0x0, 10, 10, 0⟩
def KS_STATUS_ID_READY : FieldRef := ⟨.ks, 0x0, 20, 1, 0⟩
def KS_STATUS_ENTROPY_OK : FieldRef := ⟨.ks, 0x0, 21, 1, 0⟩
def KS_STATUS_AS_BLANK : FieldRef := ⟨.ks, 0x0, 22, 1, 1⟩
def KS_EVT_STATUS : FieldRef := ⟨.ks, 0x4, 0, 10, 0⟩
def KS_EVT_EN : FieldRef := ⟨.ks, 0x8, 0, 10, 0⟩
def KS_LIFECYCLE_STATE : FieldRef := ⟨.ks, 0xC, 0, 2, 0⟩
def KS_LIFECYCLE_ROOT_GEN : FieldRef := ⟨.ks, 0xC, 8, 7, 0⟩
def KS_LIFECYCLE_ROOT_VALID : FieldRef := ⟨.ks, 0xC, 16, 1, 0⟩
def KS_LIFECYCLE_AUTH_LOCKED : FieldRef := ⟨.ks, 0xC, 17, 1, 0⟩
def KS_TAMPER_CFG : FieldRef := ⟨.ks, 0x10, 0, 6, 63⟩
def KS_TAMPER_LOG_CAUSE : FieldRef := ⟨.ks, 0x14, 0, 6, 0⟩
def KS_TAMPER_LOG_COUNT : FieldRef := ⟨.ks, 0x14, 8, 8, 0⟩
def KS_WRITES_LO : FieldRef := ⟨.ks, 0x18, 0, 32, 0⟩
def KS_WRITES_HI : FieldRef := ⟨.ks, 0x1C, 0, 32, 0⟩
def KS_ENV_COUNT_LO : FieldRef := ⟨.ks, 0x20, 0, 32, 0⟩
def KS_ENV_COUNT_HI : FieldRef := ⟨.ks, 0x24, 0, 32, 0⟩
def KS_SERIAL_LO : FieldRef := ⟨.ks, 0x28, 0, 32, 0⟩
def KS_SERIAL_HI : FieldRef := ⟨.ks, 0x2C, 0, 32, 0⟩
def KS_AUTH (i : Nat) (w : Nat) : FieldRef := ⟨.ks, 0x100 + 0x40 * i + 0x4 * w, 0, 32, 0⟩
def KS_SEL : FieldRef := ⟨.ks, 0x200, 0, 10, 0⟩
def KS_ARG (j : Nat) : FieldRef := ⟨.ks, 0x204 + 0x4 * j, 0, 32, 0⟩
def KS_CMD : FieldRef := ⟨.ks, 0x218, 0, 4, 0⟩
def KS_CMD_STATUS_CODE : FieldRef := ⟨.ks, 0x21C, 0, 8, 0⟩
def KS_CMD_STATUS_BUSY : FieldRef := ⟨.ks, 0x21C, 8, 1, 0⟩
def KS_CMD_STATUS_CAUSE : FieldRef := ⟨.ks, 0x21C, 12, 4, 0⟩
def KS_ATTR (j : Nat) : FieldRef := ⟨.ks, 0x240 + 0x4 * j, 0, 32, 0⟩
def KS_LABEL (j : Nat) : FieldRef := ⟨.ks, 0x260 + 0x4 * j, 0, 32, 0⟩
def SHM_STATUS_SWEEP_DONE : FieldRef := ⟨.shm, 0x0, 0, 1, 0⟩
def SHM_STATUS_WALKING : FieldRef := ⟨.shm, 0x0, 1, 1, 0⟩
def SHM_STATUS_DEGRADED_BANKS : FieldRef := ⟨.shm, 0x0, 2, 9, 0⟩
def SHM_EVT_STATUS : FieldRef := ⟨.shm, 0x4, 0, 12, 0⟩
def SHM_EVT_EN : FieldRef := ⟨.shm, 0x8, 0, 12, 0⟩
def SHM_CTRL_WALK_EN : FieldRef := ⟨.shm, 0xC, 0, 1, 1⟩
def SHM_CTRL_WALK_STALL_US : FieldRef := ⟨.shm, 0xC, 8, 8, 100⟩
def SHM_CTRL_ROW_GAP_US : FieldRef := ⟨.shm, 0xC, 16, 16, 100⟩
def SHM_ECC_CE : FieldRef := ⟨.shm, 0x10, 0, 16, 0⟩
def SHM_ECC_UE : FieldRef := ⟨.shm, 0x10, 16, 16, 0⟩
def SHM_ERR_ADDR : FieldRef := ⟨.shm, 0x14, 0, 32, 0⟩
def SHM_ERR_INFO_MASTER : FieldRef := ⟨.shm, 0x18, 0, 5, 0⟩
def SHM_ERR_INFO_UE : FieldRef := ⟨.shm, 0x18, 5, 1, 0⟩
def SHM_ERR_INFO_VALID : FieldRef := ⟨.shm, 0x18, 6, 1, 0⟩
def SHM_ERR_INFO_LANES : FieldRef := ⟨.shm, 0x18, 8, 4, 0⟩
def SHM_WALK_POS_BANK : FieldRef := ⟨.shm, 0x1C, 0, 9, 0⟩
def SHM_WALK_POS_ROW : FieldRef := ⟨.shm, 0x1C, 16, 8, 0⟩
def SHM_WALK_POS_STEP : FieldRef := ⟨.shm, 0x1C, 24, 3, 0⟩
def SHM_WALK_COUNTS_PASSES : FieldRef := ⟨.shm, 0x20, 0, 16, 0⟩
def SHM_WALK_COUNTS_REPAIRS : FieldRef := ⟨.shm, 0x20, 16, 16, 0⟩
def SHM_CT_SEL_MASTER : FieldRef := ⟨.shm, 0x40, 0, 5, 0⟩
def SHM_CT_SEL_GROUP : FieldRef := ⟨.shm, 0x40, 8, 5, 0⟩
def SHM_CT_DATA_WORDS : FieldRef := ⟨.shm, 0x44, 0, 14, 0⟩
def SHM_CT_DATA_SUM : FieldRef := ⟨.shm, 0x44, 16, 14, 0⟩
def SHM_CT_CMD : FieldRef := ⟨.shm, 0x48, 0, 2, 0⟩
def SHM_CT_STATUS_CODE : FieldRef := ⟨.shm, 0x4C, 0, 8, 0⟩
def SHM_CT_STATUS_BUSY : FieldRef := ⟨.shm, 0x4C, 8, 1, 0⟩
def SHM_CT_STATUS_CAUSE : FieldRef := ⟨.shm, 0x4C, 12, 4, 0⟩
def SHM_ATOM_ADDR : FieldRef := ⟨.shm, 0x60, 0, 32, 0⟩
def SHM_ATOM_ARG_LO : FieldRef := ⟨.shm, 0x64, 0, 32, 0⟩
def SHM_ATOM_ARG_HI : FieldRef := ⟨.shm, 0x68, 0, 32, 0⟩
def SHM_ATOM_CMD_OP : FieldRef := ⟨.shm, 0x6C, 0, 2, 0⟩
def SHM_ATOM_CMD_WIDTH : FieldRef := ⟨.shm, 0x6C, 2, 1, 0⟩
def SHM_ATOM_OLD_LO : FieldRef := ⟨.shm, 0x70, 0, 32, 0⟩
def SHM_ATOM_OLD_HI : FieldRef := ⟨.shm, 0x74, 0, 32, 0⟩
def SHM_ATOM_STATUS_CODE : FieldRef := ⟨.shm, 0x78, 0, 8, 0⟩
def SHM_ATOM_STATUS_BUSY : FieldRef := ⟨.shm, 0x78, 8, 1, 0⟩
def SHM_MST_CONFLICT (m : Nat) : FieldRef := ⟨.shm, 0x100 + 0x8 * m, 0, 32, 0⟩
def SHM_MST_MISS (m : Nat) : FieldRef := ⟨.shm, 0x104 + 0x8 * m, 0, 32, 0⟩
def SHM_GRP_STATUS_DEGRADED (g : Nat) : FieldRef := ⟨.shm, 0x200 + 0x4 * g, 0, 16, 0⟩
def SHM_GRP_STATUS_SWEPT (g : Nat) : FieldRef := ⟨.shm, 0x200 + 0x4 * g, 16, 1, 0⟩
def SHM_GRP_STATUS_RETENTION (g : Nat) : FieldRef := ⟨.shm, 0x200 + 0x4 * g, 17, 1, 0⟩

end F

end Sys2Proof.Machine
end

