-- ==== Sys2Proof/Machine/RegsD.lean ====
section
/-! DEFINITION. The register map of the blocks UBW, MATE, HIF, STW, RST, PWR, FLT, PMC, MGP: one row per register of the maps and field tables of spec/02 to spec/23
(offsets, array strides, "per function", fields with access type, reset value and storing rule), and one `FieldRef` name per field.
Transcribed from the tables of the manual; the address counts agree with Table 24.2 (R604). -/

namespace Sys2Proof.Machine

/-- Registers of UBW, part 0. -/
def regsUBW0 : List RegDesc := [
  rg 0x0 [] false [fd 0 5 .ro 0],
  rg 0x4 [] true [fd 0 13 .w1c 0],
  rg 0x8 [] true [fd 0 13 .rw 0],
  rg 0xC [] false [fd 0 1 .rw 0, fd 4 4 .rw 4, fnm 8 8 .rw 50 1 255 1 255 false, fd 16 16 .rw 65535],
  rg 0x10 [] false [fd 0 2 .rw 0, fd 4 1 .w1s 0, fd 5 1 .w1s 0, fd 8 1 .ro 0],
  rg 0x14 [] false [fd 0 32 .rw 0],
  rg 0x18 [] false [fd 0 32 .rw 0],
  rg 0x20 [] false [fd 0 8 .ro 0, fd 8 1 .ro 0, fd 9 1 .ro 0, fd 10 3 .ro 0, fd 13 1 .ro 0],
  rg 0x24 [] false [fd 0 32 .rw 0],
  rg 0x28 [] false [fd 0 32 .rw 0],
  rg 0x2C [] false [fnm 0 11 .rw 16 1 1024 1 1024 false],
  rg 0x30 [] false [fd 0 16 .ro 0, fd 16 16 .ro 0],
  rg 0x34 [] false [fd 0 16 .ro 0, fd 16 16 .ro 0],
  rg 0x38 [] false [fd 0 32 .ro 0],
  rg 0x3C [] false [fd 0 32 .ro 0],
  rg 0x40 [] false [fd 0 32 .rw 0],
  rg 0x44 [] false [fd 0 32 .ro 0],
  rg 0x80 [(2, 0x10)] false [fd 0 1 .rw 0, fnm 1 4 .rw 8 8 12 8 12 false, fd 5 9 .rw 0, fd 16 16 .rw 0],
  rg 0x84 [(2, 0x10)] false [fd 0 21 .rw 0],
  rg 0x88 [(2, 0x10)] false [fd 0 32 .ro 0],
  rg 0x8C [(2, 0x10)] false [fd 0 32 .rw 0],
  rg 0x100 [(4, 0x40)] false [fd 0 1 .rw 0, fnm 1 2 .rw 0 0 2 0 0 false, fd 3 1 .rw 0, fd 4 1 .rw 0, fd 5 4 .rw 0, fd 9 1 .rw 1],
  rg 0x200 [] false [fd 0 1 .rw 0, fd 1 2 .ro 2, fd 3 1 .rw 0, fd 4 1 .rw 0, fd 5 4 .rw 0, fd 9 1 .rw 0],
  rg 0x104 [(5, 0x40)] false [fd 0 3 .ro 0, fd 3 1 .ro 0, fd 16 16 .ro 0]]

/-- Registers of UBW, part 1. -/
def regsUBW1 : List RegDesc := [
  rg 0x108 [(5, 0x40)] false [fd 0 16 .sh 0, fd 16 16 .sh 0],
  rg 0x10C [(5, 0x40)] false [fd 0 32 .sh 0],
  rg 0x110 [(5, 0x40)] false [fd 0 32 .ro 0],
  rg 0x114 [(5, 0x40)] false [fd 0 32 .ro 0],
  rg 0x118 [(5, 0x40)] false [fd 0 32 .ro 0],
  rg 0x11C [(5, 0x40)] false [fd 0 8 .ro 0, fd 8 2 .ro 0, fd 16 8 .ro 0, fd 24 4 .ro 15],
  rg 0x120 [(5, 0x40)] false [fd 0 16 .ro 0, fd 16 16 .ro 0],
  rg 0x124 [(5, 0x40)] false [fd 0 16 .ro 65535, fd 16 16 .ro 0]]

/-- The register map of UBW. -/
def regsUBW : List RegDesc := regsUBW0 ++ regsUBW1

/-- Registers of MATE, part 0. -/
def regsMATE0 : List RegDesc := [
  rg 0x0 [] false [fd 0 2 .ro 0, fd 2 1 .ro 0, fd 3 1 .ro 0, fd 4 1 .ro 0, fd 5 1 .ro 0, fd 6 1 .ro 0, fd 7 1 .ro 0, fd 8 1 .ro 0, fd 9 1 .ro 0, fd 10 1 .ro 0, fd 16 12 .ro 0],
  rg 0x4 [] true [fd 0 9 .w1c 0],
  rg 0x8 [] true [fd 0 9 .rw 0],
  rg 0xC [] false [fd 0 1 .rw 1, fd 1 1 .rw 1, fd 2 1 .rw 0, fd 4 4 .ro 0, fd 8 1 .ro 0, fnm 16 16 .rw 300 1 65535 1 65535 false],
  rg 0x10 [] false [fd 0 7 .rw 16, fd 8 7 .rw 96, fd 16 7 .rw 8, fd 24 7 .rw 127],
  rg 0x14 [] false [fd 0 7 .rw 4, fd 8 7 .rw 32, fd 16 7 .rw 64, fd 24 7 .rw 0],
  rg 0x18 [] false [fd 0 7 .ro 0, fd 8 8 .ro 0, fd 16 16 .rw 1000],
  rg 0x1C [] false [fd 0 12 .ro 0, fd 16 8 .ro 0, fd 24 8 .ro 0],
  rg 0x20 [] false [fd 0 16 .ro 0],
  rg 0x24 [] false [fd 0 16 .ro 0, fd 16 16 .ro 0],
  rg 0x28 [] false [fnm 0 16 .rw 100 1 65535 1 65535 false, fd 16 8 .rw 16, fnm 24 8 .rw 20 1 255 1 255 false],
  rg 0x100 [(28, 0x4)] false [fd 0 32 .ro 2147483648]]

/-- The register map of MATE. -/
def regsMATE : List RegDesc := regsMATE0

/-- Registers of HIF, part 0. -/
def regsHIF0 : List RegDesc := [
  rg 0x0 [] false [fd 0 1 .ro 0, fd 1 3 .ro 0, fd 4 4 .ro 0, fd 8 9 .ro 0, fd 17 13 .ro 0],
  rg 0x4 [] true [fd 0 8 .w1c 0],
  rg 0x8 [] true [fd 0 8 .rw 0],
  rg 0xC [] true [fd 0 10 .ro 0, fd 16 9 .ro 0, fd 25 1 .ro 0, fd 26 1 .ro 0],
  rg 0x10 [] true [fd 0 32 .rw 4294967295],
  rg 0x14 [] false [fd 0 16 .rw 0, fd 16 16 .rw 0],
  rg 0x18 [] false [fd 0 32 .ro 0],
  rg 0x1C [] true [fd 0 8 .ro 0],
  rg 0x20 [] true [fd 0 32 .ro 0],
  rg 0x24 [] true [fd 0 32 .ro 0],
  rg 0x40 [] true [fd 0 16 .rw 0],
  rg 0x44 [(6, 0x4)] true [fd 0 32 .rw 0],
  rg 0x60 [(8, 0x4)] true [fd 0 32 .rw 0],
  rg 0x80 [] true [fd 0 4 .wo 0],
  rg 0x84 [] true [fd 0 8 .ro 0, fd 8 1 .ro 0],
  rg 0x88 [] true [fd 0 32 .ro 0],
  rg 0x8C [] true [fd 0 32 .ro 0],
  rg 0x100 [(24, 0x4)] false [fd 0 16 .ro 0],
  rg 0x180 [(24, 0x4)] true [fd 0 2 .ro 0, fd 2 1 .ro 0],
  rg 0x200 [] true [fd 0 1 .rw 0, fnm 1 4 .rw 8 4 12 4 12 false, fd 16 16 .rw 0],
  rg 0x204 [] true [fd 0 32 .rw 0],
  rg 0x208 [] true [fd 0 32 .rw 0],
  rg 0x20C [] true [fd 0 32 .ro 0],
  rg 0x210 [] true [fd 0 32 .rw 0]]

/-- Registers of HIF, part 1. -/
def regsHIF1 : List RegDesc := [
  rg 0x214 [] true [fd 0 32 .ro 0],
  rg 0x400 [(16, 0x40)] true [fd 0 1 .rw 0, fnm 1 2 .rw 0 0 2 0 0 false, fd 3 1 .rw 0, fnm 8 4 .rw 6 4 12 4 12 false, fd 16 16 .rw 0],
  rg 0x404 [(16, 0x40)] true [fnm 0 21 .rw 64 1 2097151 1 2097151 false],
  rg 0x408 [(16, 0x40)] true [fd 0 32 .rw 0],
  rg 0x40C [(16, 0x40)] true [fd 0 32 .rw 0],
  rg 0x410 [(16, 0x40)] true [fd 0 32 .rw 0],
  rg 0x414 [(16, 0x40)] true [fd 0 32 .ro 0],
  rg 0x418 [(16, 0x40)] true [fd 0 32 .rw 0],
  rg 0x41C [(16, 0x40)] true [fd 0 32 .rw 0],
  rg 0x420 [(16, 0x40)] true [fd 0 32 .rw 0],
  rg 0x424 [(16, 0x40)] true [fd 0 32 .ro 0],
  rg 0x428 [(16, 0x40)] true [fd 0 13 .ro 0, fd 16 16 .ro 0]]

/-- The register map of HIF. -/
def regsHIF : List RegDesc := regsHIF0 ++ regsHIF1

/-- Registers of STW, part 0. -/
def regsSTW0 : List RegDesc := [
  rg 0x0 [] false [fd 0 2 .ro 0, fd 2 3 .ro 0, fd 5 1 .ro 0, fd 6 1 .ro 0, fbt 8 7 .ro 0, fd 16 7 .ro 0],
  rg 0x4 [] true [fd 0 9 .w1c 0],
  rg 0x8 [] true [fd 0 9 .rw 0],
  rg 0xC [] false [fd 0 32 .ro 0],
  rg 0x10 [] false [fd 0 32 .ro 0],
  rg 0x14 [] false [fd 0 32 .ro 0],
  rg 0x18 [] false [fd 0 7 .ro 0],
  rg 0x1C [] false [fd 0 32 .ro 0],
  rg 0x20 [] false [fd 0 2 .rws 0, fd 8 8 .ro 0, fd 16 8 .ro 0],
  rg 0x24 [] false [fd 0 32 .ro 0],
  rg 0x28 [] false [fd 0 32 .ro 0],
  rg 0x40 [(12, 0x4)] false [fd 0 32 .ro 0],
  rg 0x80 [(12, 0x4)] false [fd 0 32 .ro 0],
  rg 0x100 [(4, 0x4)] true [fd 0 32 .rw 0],
  rg 0x110 [] true [fd 0 3 .wo 0, fd 3 2 .wo 0],
  rg 0x114 [] true [fd 0 8 .ro 0, fd 8 1 .ro 0, fd 12 4 .ro 0],
  rg 0x118 [] true [fd 0 16 .ro 0, fd 16 4 .ro 0],
  rg 0x200 [(16, 0x4)] false [fd 0 10 .ro 0, fd 10 1 .ro 0]]

/-- The register map of STW. -/
def regsSTW : List RegDesc := regsSTW0

/-- Registers of RST, part 0. -/
def regsRST0 : List RegDesc := [
  rg 0x0 [] false [fbt 0 4 .ro 1, fd 4 3 .ro 0, fd 7 1 .ro 0, fd 8 2 .ro 0, fbt 10 1 .ro 0],
  rg 0x4 [] true [fd 0 5 .w1c 0],
  rg 0x8 [] true [fd 0 5 .rw 0],
  rg 0xC [] false [fd 0 1 .ro 0, fd 4 4 .ro 0, fd 8 1 .ro 0, fd 9 1 .ro 0, fd 16 3 .ro 5, fd 20 2 .ro 3, fd 24 1 .ro 1],
  rg 0x10 [] false [fd 0 1 .rw 0, fd 4 4 .rw 0, fd 8 1 .rw 0, fd 9 1 .rw 0, fd 16 3 .rw 5, fd 20 2 .rw 3, fd 24 1 .rw 1],
  rg 0x14 [] true [fd 0 4 .wo 0],
  rg 0x18 [] true [fd 0 8 .ro 0, fd 8 1 .ro 0, fd 12 4 .ro 0],
  rg 0x1C [] false [fd 0 32 .ro 0],
  rg 0x24 [(9, 0x4)] false [fbt 0 32 .ro 0],
  rg 0x48 [] false [fbt 0 16 .ro 0, fbt 16 16 .ro 0],
  rg 0x4C [] false [fbt 0 32 .ro 0],
  rg 0x50 [] false [fbt 0 32 .ro 0],
  rg 0x54 [] false [fbt 0 1 .ro 0, fbt 1 1 .ro 0, fbt 2 1 .ro 0]]

/-- The register map of RST. -/
def regsRST : List RegDesc := regsRST0

/-- Registers of PWR, part 0. -/
def regsPWR0 : List RegDesc := [
  rg 0x0 [] false [fd 0 3 .ro 0, fd 3 1 .ro 0, fd 16 16 .ro 0],
  rg 0x4 [] true [fd 0 6 .w1c 0],
  rg 0x8 [] true [fd 0 6 .rw 0],
  rg 0xC [] false [fd 0 1 .rw 1, fd 1 1 .rw 0],
  rg 0x10 [] false [fd 0 32 .ro 4294967295],
  rg 0x14 [] true [fd 0 3 .rw 0],
  rg 0x18 [] true [fd 0 2 .wo 0],
  rg 0x1C [] true [fd 0 8 .ro 0, fd 8 1 .ro 0, fd 12 4 .ro 0],
  rg 0x20 [] false [fd 0 32 .rw 0],
  rg 0x24 [] false [fd 0 32 .rw 0],
  rg 0x28 [] false [fnm 0 32 .rw 0 1 4294967295 1 4294967295 true],
  rg 0x2C [] false [fbt 0 5 .rw 1],
  rg 0x30 [] false [fbt 0 3 .ro 0, fbt 3 3 .ro 0],
  rg 0x40 [(6, 0x4)] false [fd 0 1 .ro 0, fd 1 1 .ro 0, fd 2 1 .ro 0, fd 3 1 .ro 0],
  rg 0x58 [(2, 0x4)] false [fd 0 1 .ro 1, fd 1 1 .ro 0, fd 2 1 .ro 0, fd 3 1 .ro 0],
  rg 0x60 [(2, 0x4)] false [fd 0 1 .ro 0, fd 1 1 .ro 0, fd 2 1 .ro 0, fd 3 1 .ro 0],
  rg 0x68 [] false [fd 0 1 .ro 1, fd 1 1 .ro 0, fd 2 1 .ro 0, fd 3 1 .ro 0],
  rg 0x6C [(4, 0x4)] false [fd 0 1 .ro 0, fd 1 1 .ro 0, fd 2 1 .ro 0, fd 3 1 .ro 0],
  rg 0x7C [] false [fd 0 1 .ro 1, fd 1 1 .ro 0, fd 2 1 .ro 0, fd 3 1 .ro 0],
  rg 0x80 [(7, 0x4)] false [fd 0 1 .ro 0, fd 1 1 .ro 0, fd 2 1 .ro 0, fd 3 1 .ro 0],
  rg 0x9C [] false [fd 0 1 .ro 1, fd 1 1 .ro 0, fd 2 1 .ro 0, fd 3 1 .ro 0]]

/-- The register map of PWR. -/
def regsPWR : List RegDesc := regsPWR0

/-- Registers of FLT, part 0. -/
def regsFLT0 : List RegDesc := [
  rg 0x0 [] false [fd 0 1 .ro 0, fd 1 1 .ro 0, fd 2 1 .ro 0, fd 3 1 .ro 0, fd 4 5 .ro 0, fd 9 7 .ro 0, fd 16 16 .ro 0],
  rg 0x4 [] true [fd 0 8 .w1c 0],
  rg 0x8 [] true [fd 0 8 .rw 0],
  rg 0xC [] false [fd 0 1 .w1c 0, fd 1 1 .rw 0],
  rg 0x10 [] false [fd 0 1 .rw 0, fnm 1 5 .rw 10 8 16 8 16 false, fd 16 16 .rw 0],
  rg 0x14 [] false [fd 0 32 .rw 0],
  rg 0x18 [] false [fd 0 32 .ro 0],
  rg 0x1C [] false [fd 0 32 .rw 0],
  rg 0x20 [] false [fnm 0 8 .rw 4 1 255 1 255 false, fnm 16 16 .rw 1000 1 65535 1 65535 false],
  rg 0x40 [] true [fnm 0 11 .rw 0 0 1535 0 1535 false],
  rg 0x44 [] true [fd 0 1 .rw 1, fd 1 2 .rw 3, fd 3 7 .rw 32, fbt 10 1 .ro 1, fbt 11 1 .ro 0, fbt 12 1 .ro 0],
  rg 0x48 [] true [fd 0 5 .rw 0, fd 8 1 .rw 0],
  rg 0x4C [] true [fd 0 3 .wo 0],
  rg 0x50 [] true [fd 0 8 .ro 0, fd 8 1 .ro 0, fd 12 4 .ro 0],
  rg 0x60 [(8, 0x4)] false [fd 0 32 .rws 0],
  rg 0x100 [(48, 0x4)] false [fd 0 32 .w1c 0],
  rg 0x200 [] false [fnm 0 16 .rw 1 1 65535 1 65535 false],
  rg 0x204 [] false [fnm 0 16 .rw 1 1 65535 1 65535 false],
  rg 0x208 [] false [fnm 0 16 .rw 1 1 65535 1 65535 false],
  rg 0x20C [] false [fnm 0 16 .rw 1 1 65535 1 65535 false],
  rg 0x210 [] false [fnm 0 16 .rw 2 1 65535 1 65535 false],
  rg 0x214 [] false [fnm 0 16 .rw 1 1 65535 1 65535 false],
  rg 0x218 [] false [fnm 0 16 .rw 1 1 65535 1 65535 false],
  rg 0x21C [] false [fnm 0 16 .rw 10 1 65535 1 65535 false]]

/-- Registers of FLT, part 1. -/
def regsFLT1 : List RegDesc := [
  rg 0x220 [] false [fnm 0 16 .rw 10 1 65535 1 65535 false],
  rg 0x224 [] false [fnm 0 16 .rw 1 1 65535 1 65535 false],
  rg 0x228 [] false [fnm 0 16 .rw 10 1 65535 1 65535 false],
  rg 0x22C [] false [fnm 0 16 .rw 1 1 65535 1 65535 false],
  rg 0x230 [] false [fnm 0 16 .rw 1 1 65535 1 65535 false],
  rg 0x234 [] false [fnm 0 16 .rw 10 1 65535 1 65535 false],
  rg 0x238 [] false [fnm 0 16 .rw 1 1 65535 1 65535 false],
  rg 0x23C [] false [fnm 0 16 .rw 10 1 65535 1 65535 false],
  rg 0x240 [] false [fnm 0 16 .rw 1 1 65535 1 65535 false],
  rg 0x244 [] false [fnm 0 16 .rw 1 1 65535 1 65535 false],
  rg 0x248 [] false [fnm 0 16 .rw 1 1 65535 1 65535 false],
  rg 0x24C [] false [fnm 0 16 .rw 1 1 65535 1 65535 false],
  rg 0x250 [] false [fnm 0 16 .rw 1 1 65535 1 65535 false],
  rg 0x254 [] false [fnm 0 16 .rw 1 1 65535 1 65535 false],
  rg 0x258 [] false [fnm 0 16 .rw 1 1 65535 1 65535 false],
  rg 0x25C [] false [fnm 0 16 .rw 10 1 65535 1 65535 false],
  rg 0x280 [(24, 0x4)] false [fd 0 2 .ro 0, fd 2 1 .ro 0, fd 8 8 .ro 0, fd 16 16 .ro 1]]

/-- The register map of FLT. -/
def regsFLT : List RegDesc := regsFLT0 ++ regsFLT1

/-- Registers of PMC, part 0. -/
def regsPMC0 : List RegDesc := [
  rg 0x0 [] false [fd 0 1 .ro 0, fd 1 8 .ro 0, fd 16 16 .ro 0],
  rg 0x4 [] true [fd 0 4 .w1c 0],
  rg 0x8 [] true [fd 0 4 .rw 0],
  rg 0x10 [] true [fd 0 11 .rw 0],
  rg 0x14 [] true [fd 0 32 .ro 0],
  rg 0x18 [] true [fd 0 16 .ro 0],
  rg 0x20 [] true [fd 0 32 .rw 0],
  rg 0x24 [] true [fd 0 32 .rw 0],
  rg 0x28 [] true [fd 0 32 .rw 0],
  rg 0x2C [] true [fd 0 32 .rw 0],
  rg 0x30 [] true [fd 0 2 .wo 0, fd 2 1 .wo 0],
  rg 0x34 [] true [fd 0 8 .ro 0, fd 8 1 .ro 0, fd 12 4 .ro 0],
  rg 0x100 [(128, 0x20)] false [fnm 0 2 .rw 0 0 2 0 0 false, fd 16 11 .rw 0],
  rg 0x104 [(128, 0x20)] false [fd 0 16 .rw 0, fd 16 16 .rw 0],
  rg 0x108 [(128, 0x20)] false [fnm 0 32 .rw 1562500 15625 624 15625 15 false],
  rg 0x10C [(128, 0x20)] false [fd 0 32 .ro 0],
  rg 0x110 [(128, 0x20)] true [fd 0 16 .ro 0, fd 16 16 .ro 0]]

/-- The register map of PMC. -/
def regsPMC : List RegDesc := regsPMC0

/-- Registers of MGP, part 0. -/
def regsMGP0 : List RegDesc := [
  rg 0x0 [] false [fd 0 1 .ro 0, fd 1 2 .ro 0, fd 3 1 .ro 0, fd 16 16 .ro 0],
  rg 0x4 [] true [fd 0 10 .w1c 0],
  rg 0x8 [] true [fd 0 10 .rw 0],
  rg 0xC [] false [fd 0 1 .rw 0, fd 1 1 .rw 0, fnm 2 2 .rw 2 0 2 0 2 false, fd 4 1 .rw 1, fd 5 1 .rw 1, fd 6 1 .rw 0],
  rg 0x10 [] false [fnm 0 12 .rw 1522 64 2048 64 2048 false],
  rg 0x14 [] false [fd 0 16 .rw 0, fd 16 16 .rw 0],
  rg 0x18 [] false [fd 0 10 .rw 0],
  rg 0x1C [] false [fd 0 5 .rw 0, fd 5 5 .rw 0, fd 10 1 .rw 0, fd 11 1 .w1s 0, fd 12 1 .ro 0, fd 16 16 .rw 0],
  rg 0x40 [(2, 0x40)] false [fd 0 1 .rw 0, fnm 8 4 .rw 6 4 12 4 12 false, fd 16 10 .rw 0, fd 26 5 .rw 0],
  rg 0x44 [(2, 0x40)] false [fd 0 32 .rw 0],
  rg 0x48 [(2, 0x40)] false [fd 0 32 .rw 0],
  rg 0x4C [(2, 0x40)] false [fd 0 32 .rw 0],
  rg 0x50 [(2, 0x40)] false [fd 0 32 .ro 0],
  rg 0x54 [(2, 0x40)] false [fd 0 32 .rw 0],
  rg 0x58 [(2, 0x40)] false [fd 0 32 .rw 0],
  rg 0x5C [(2, 0x40)] false [fd 0 32 .rw 0],
  rg 0x60 [(2, 0x40)] false [fd 0 32 .ro 0],
  rg 0xC0 [(2, 0x10)] false [fd 0 1 .rw 0, fnm 1 4 .rw 8 8 12 8 12 false, fd 5 9 .rw 0, fd 16 16 .rw 0],
  rg 0xC4 [(2, 0x10)] false [fd 0 21 .rw 0],
  rg 0xC8 [(2, 0x10)] false [fd 0 32 .ro 0],
  rg 0xCC [(2, 0x10)] false [fd 0 32 .rw 0],
  rg 0x100 [(16, 0x20), (4, 0x4)] false [fbt 0 32 .rw 0],
  rg 0x110 [(16, 0x20)] false [fbt 0 16 .rw 0],
  rg 0x300 [] false [fbt 0 16 .rw 0]]

/-- Registers of MGP, part 1. -/
def regsMGP1 : List RegDesc := [
  rg 0x304 [] false [fbt 0 4 .ro 0, fbt 16 16 .ro 0]]

/-- The register map of MGP. -/
def regsMGP : List RegDesc := regsMGP0 ++ regsMGP1

namespace F

def UBW_STATUS : FieldRef := ⟨.ubw, 0x0, 0, 5, 0⟩
def UBW_EVT_STATUS : FieldRef := ⟨.ubw, 0x4, 0, 13, 0⟩
def UBW_EVT_EN : FieldRef := ⟨.ubw, 0x8, 0, 13, 0⟩
def UBW_CTRL_ROOT : FieldRef := ⟨.ubw, 0xC, 0, 1, 0⟩
def UBW_CTRL_QR_HO : FieldRef := ⟨.ubw, 0xC, 4, 4, 4⟩
def UBW_CTRL_DELAY_JUMP_PS : FieldRef := ⟨.ubw, 0xC, 8, 8, 50⟩
def UBW_CTRL_HOST_Q : FieldRef := ⟨.ubw, 0xC, 16, 16, 65535⟩
def UBW_CG15_CTRL_KIND : FieldRef := ⟨.ubw, 0x10, 0, 2, 0⟩
def UBW_CG15_CTRL_ARM : FieldRef := ⟨.ubw, 0x10, 4, 1, 0⟩
def UBW_CG15_CTRL_ABORT : FieldRef := ⟨.ubw, 0x10, 5, 1, 0⟩
def UBW_CG15_CTRL_ARMED : FieldRef := ⟨.ubw, 0x10, 8, 1, 0⟩
def UBW_CG15_TIME_LO : FieldRef := ⟨.ubw, 0x14, 0, 32, 0⟩
def UBW_CG15_TIME_HI : FieldRef := ⟨.ubw, 0x18, 0, 32, 0⟩
def UBW_NODE_DEPTH : FieldRef := ⟨.ubw, 0x20, 0, 8, 0⟩
def UBW_NODE_DEPTH_VALID : FieldRef := ⟨.ubw, 0x20, 8, 1, 0⟩
def UBW_NODE_DEPTH_EXCEEDED : FieldRef := ⟨.ubw, 0x20, 9, 1, 0⟩
def UBW_NODE_UP_PORT : FieldRef := ⟨.ubw, 0x20, 10, 3, 0⟩
def UBW_NODE_UP_VALID : FieldRef := ⟨.ubw, 0x20, 13, 1, 0⟩
def UBW_CLKID_LO : FieldRef := ⟨.ubw, 0x24, 0, 32, 0⟩
def UBW_CLKID_HI : FieldRef := ⟨.ubw, 0x28, 0, 32, 0⟩
def UBW_FILTER : FieldRef := ⟨.ubw, 0x2C, 0, 11, 16⟩
def UBW_FWD_COUNTS_FWD_DROP : FieldRef := ⟨.ubw, 0x30, 0, 16, 0⟩
def UBW_FWD_COUNTS_ROUTE_ERR : FieldRef := ⟨.ubw, 0x30, 16, 16, 0⟩
def UBW_FRAME_ERR_FRAME_ERR : FieldRef := ⟨.ubw, 0x34, 0, 16, 0⟩
def UBW_FRAME_ERR_TUNNEL_UNPARSED : FieldRef := ⟨.ubw, 0x34, 16, 16, 0⟩
def UBW_ROOT_ID_LO : FieldRef := ⟨.ubw, 0x38, 0, 32, 0⟩
def UBW_ROOT_ID_HI : FieldRef := ⟨.ubw, 0x3C, 0, 32, 0⟩
def UBW_TX_INFO : FieldRef := ⟨.ubw, 0x40, 0, 32, 0⟩
def UBW_RX_INFO : FieldRef := ⟨.ubw, 0x44, 0, 32, 0⟩
def UBW_TSR_CFG_EN (d : Nat) : FieldRef := ⟨.ubw, 0x80 + 0x10 * d, 0, 1, 0⟩
def UBW_TSR_CFG_LOG2_RECORDS (d : Nat) : FieldRef := ⟨.ubw, 0x80 + 0x10 * d, 1, 4, 8⟩
def UBW_TSR_CFG_OWNER (d : Nat) : FieldRef := ⟨.ubw, 0x80 + 0x10 * d, 5, 9, 0⟩
def UBW_TSR_CFG_WM (d : Nat) : FieldRef := ⟨.ubw, 0x80 + 0x10 * d, 16, 16, 0⟩
def UBW_TSR_BASE (d : Nat) : FieldRef := ⟨.ubw, 0x84 + 0x10 * d, 0, 21, 0⟩
def UBW_TSR_WR_IDX (d : Nat) : FieldRef := ⟨.ubw, 0x88 + 0x10 * d, 0, 32, 0⟩
def UBW_TSR_RD_IDX (d : Nat) : FieldRef := ⟨.ubw, 0x8C + 0x10 * d, 0, 32, 0⟩
def UBW_PORT_CFG_EN (p : Nat) : FieldRef := ⟨.ubw, 0x100 + 0x40 * p, 0, 1, 0⟩
def UBW_PORT_CFG_ROLE (p : Nat) : FieldRef := ⟨.ubw, 0x100 + 0x40 * p, 1, 2, if p < 4 then 0 else 2⟩
def UBW_PORT_CFG_TX_INV (p : Nat) : FieldRef := ⟨.ubw, 0x100 + 0x40 * p, 3, 1, 0⟩
def UBW_PORT_CFG_RX_INV (p : Nat) : FieldRef := ⟨.ubw, 0x100 + 0x40 * p, 4, 1, 0⟩
def UBW_PORT_CFG_TX_EQ (p : Nat) : FieldRef := ⟨.ubw, 0x100 + 0x40 * p, 5, 4, 0⟩
def UBW_PORT_CFG_FWD_EN (p : Nat) : FieldRef := ⟨.ubw, 0x100 + 0x40 * p, 9, 1, if p < 4 then 1 else 0⟩
def UBW_PORT_STATUS_STATE (p : Nat) : FieldRef := ⟨.ubw, 0x104 + 0x40 * p, 0, 3, 0⟩
def UBW_PORT_STATUS_MISMATCH (p : Nat) : FieldRef := ⟨.ubw, 0x104 + 0x40 * p, 3, 1, 0⟩
def UBW_PORT_STATUS_LINK_GEN (p : Nat) : FieldRef := ⟨.ubw, 0x104 + 0x40 * p, 16, 16, 0⟩
def UBW_PORT_BOARD_BOARD_TX_PS (p : Nat) : FieldRef := ⟨.ubw, 0x108 + 0x40 * p, 0, 16, 0⟩
def UBW_PORT_BOARD_BOARD_RX_PS (p : Nat) : FieldRef := ⟨.ubw, 0x108 + 0x40 * p, 16, 16, 0⟩
def UBW_PORT_ASYM (p : Nat) : FieldRef := ⟨.ubw, 0x10C + 0x40 * p, 0, 32, 0⟩
def UBW_PORT_DELAY (p : Nat) : FieldRef := ⟨.ubw, 0x110 + 0x40 * p, 0, 32, 0⟩
def UBW_PORT_OFFSET_LO (p : Nat) : FieldRef := ⟨.ubw, 0x114 + 0x40 * p, 0, 32, 0⟩
def UBW_PORT_OFFSET_HI (p : Nat) : FieldRef := ⟨.ubw, 0x118 + 0x40 * p, 0, 32, 0⟩
def UBW_PORT_PEER_PEER_DEPTH (p : Nat) : FieldRef := ⟨.ubw, 0x11C + 0x40 * p, 0, 8, 0⟩
def UBW_PORT_PEER_PEER_ROLE (p : Nat) : FieldRef := ⟨.ubw, 0x11C + 0x40 * p, 8, 2, 0⟩
def UBW_PORT_PEER_PEER_FLAGS (p : Nat) : FieldRef := ⟨.ubw, 0x11C + 0x40 * p, 16, 8, 0⟩
def UBW_PORT_PEER_PEER_QR (p : Nat) : FieldRef := ⟨.ubw, 0x11C + 0x40 * p, 24, 4, 15⟩
def UBW_PORT_COUNTS_BAD_MARKER (p : Nat) : FieldRef := ⟨.ubw, 0x120 + 0x40 * p, 0, 16, 0⟩
def UBW_PORT_COUNTS_BAD_MSG (p : Nat) : FieldRef := ⟨.ubw, 0x120 + 0x40 * p, 16, 16, 0⟩
def UBW_PORT_SIGMA_SIGMA (p : Nat) : FieldRef := ⟨.ubw, 0x124 + 0x40 * p, 0, 16, 65535⟩
def UBW_PORT_SIGMA_PAIR_MISS (p : Nat) : FieldRef := ⟨.ubw, 0x124 + 0x40 * p, 16, 16, 0⟩
def MATE_STATUS_STATE : FieldRef := ⟨.mate, 0x0, 0, 2, 0⟩
def MATE_STATUS_DRIVING : FieldRef := ⟨.mate, 0x0, 2, 1, 0⟩
def MATE_STATUS_TAKE : FieldRef := ⟨.mate, 0x0, 3, 1, 0⟩
def MATE_STATUS_HB_SEEN : FieldRef := ⟨.mate, 0x0, 4, 1, 0⟩
def MATE_STATUS_HB_FAULT : FieldRef := ⟨.mate, 0x0, 5, 1, 0⟩
def MATE_STATUS_TOFFEE_FRESH : FieldRef := ⟨.mate, 0x0, 6, 1, 0⟩
def MATE_STATUS_TRACK_OK : FieldRef := ⟨.mate, 0x0, 7, 1, 0⟩
def MATE_STATUS_SIDE : FieldRef := ⟨.mate, 0x0, 8, 1, 0⟩
def MATE_STATUS_SIDE_CONFLICT : FieldRef := ⟨.mate, 0x0, 9, 1, 0⟩
def MATE_STATUS_BOTH_PATHS_DOWN : FieldRef := ⟨.mate, 0x0, 10, 1, 0⟩
def MATE_STATUS_CLAIM : FieldRef := ⟨.mate, 0x0, 16, 12, 0⟩
def MATE_EVT_STATUS : FieldRef := ⟨.mate, 0x4, 0, 9, 0⟩
def MATE_EVT_EN : FieldRef := ⟨.mate, 0x8, 0, 9, 0⟩
def MATE_CTRL_REVERTIVE : FieldRef := ⟨.mate, 0xC, 0, 1, 1⟩
def MATE_CTRL_TRACK_CLK : FieldRef := ⟨.mate, 0xC, 1, 1, 1⟩
def MATE_CTRL_FORCE_OUT : FieldRef := ⟨.mate, 0xC, 2, 1, 0⟩
def MATE_CTRL_BASE : FieldRef := ⟨.mate, 0xC, 4, 4, 0⟩
def MATE_CTRL_MATE_EN : FieldRef := ⟨.mate, 0xC, 8, 1, 0⟩
def MATE_CTRL_HOLDOFF_S : FieldRef := ⟨.mate, 0xC, 16, 16, 300⟩
def MATE_HEALTH_W0_W_HOLDOVER : FieldRef := ⟨.mate, 0x10, 0, 7, 16⟩
def MATE_HEALTH_W0_W_FREE : FieldRef := ⟨.mate, 0x10, 8, 7, 96⟩
def MATE_HEALTH_W0_W_BOUND : FieldRef := ⟨.mate, 0x10, 16, 7, 8⟩
def MATE_HEALTH_W0_W_SYNTH : FieldRef := ⟨.mate, 0x10, 24, 7, 127⟩
def MATE_HEALTH_W1_W_SUSPECT : FieldRef := ⟨.mate, 0x14, 0, 7, 4⟩
def MATE_HEALTH_W1_W_TRACK : FieldRef := ⟨.mate, 0x14, 8, 7, 32⟩
def MATE_HEALTH_W1_W_FAULT : FieldRef := ⟨.mate, 0x14, 16, 7, 64⟩
def MATE_HEALTH_W1_SW_PENALTY : FieldRef := ⟨.mate, 0x14, 24, 7, 0⟩
def MATE_HEALTH_HEALTH : FieldRef := ⟨.mate, 0x18, 0, 7, 0⟩
def MATE_HEALTH_CONDITIONS : FieldRef := ⟨.mate, 0x18, 8, 8, 0⟩
def MATE_HEALTH_BOUND_LIM_NS : FieldRef := ⟨.mate, 0x18, 16, 16, 1000⟩
def MATE_PEER0_PEER_CLAIM : FieldRef := ⟨.mate, 0x1C, 0, 12, 0⟩
def MATE_PEER0_PEER_STATE : FieldRef := ⟨.mate, 0x1C, 16, 8, 0⟩
def MATE_PEER0_PEER_CONDITIONS : FieldRef := ⟨.mate, 0x1C, 24, 8, 0⟩
def MATE_PEER1 : FieldRef := ⟨.mate, 0x20, 0, 16, 0⟩
def MATE_COUNTS_SWITCHES : FieldRef := ⟨.mate, 0x24, 0, 16, 0⟩
def MATE_COUNTS_CONTENTIONS : FieldRef := ⟨.mate, 0x24, 16, 16, 0⟩
def MATE_TIMERS_SOLO_MS : FieldRef := ⟨.mate, 0x28, 0, 16, 100⟩
def MATE_TIMERS_HYST : FieldRef := ⟨.mate, 0x28, 16, 8, 16⟩
def MATE_TIMERS_TRACK_10PS : FieldRef := ⟨.mate, 0x28, 24, 8, 20⟩
def MATE_OBS (n : Nat) : FieldRef := ⟨.mate, 0x100 + 0x4 * n, 0, 32, 2147483648⟩
def HIF_STATUS_LINK_UP : FieldRef := ⟨.hif, 0x0, 0, 1, 0⟩
def HIF_STATUS_SPEED : FieldRef := ⟨.hif, 0x0, 1, 3, 0⟩
def HIF_STATUS_WIDTH : FieldRef := ⟨.hif, 0x0, 4, 4, 0⟩
def HIF_STATUS_NUM_VFS : FieldRef := ⟨.hif, 0x0, 8, 9, 0⟩
def HIF_STATUS_INFLIGHT : FieldRef := ⟨.hif, 0x0, 17, 13, 0⟩
def HIF_EVT_STATUS : FieldRef := ⟨.hif, 0x4, 0, 8, 0⟩
def HIF_EVT_EN : FieldRef := ⟨.hif, 0x8, 0, 8, 0⟩
def HIF_FN_INFO_FN : FieldRef := ⟨.hif, 0xC, 0, 10, 0⟩
def HIF_FN_INFO_TENANT : FieldRef := ⟨.hif, 0xC, 16, 9, 0⟩
def HIF_FN_INFO_SECURE : FieldRef := ⟨.hif, 0xC, 25, 1, 0⟩
def HIF_FN_INFO_VF : FieldRef := ⟨.hif, 0xC, 26, 1, 0⟩
def HIF_LAT_TOL : FieldRef := ⟨.hif, 0x10, 0, 32, 4294967295⟩
def HIF_LTR_SNOOP : FieldRef := ⟨.hif, 0x14, 0, 16, 0⟩
def HIF_LTR_NO_SNOOP : FieldRef := ⟨.hif, 0x14, 16, 16, 0⟩
def HIF_EPOCH : FieldRef := ⟨.hif, 0x18, 0, 32, 0⟩
def HIF_ACC_STATUS : FieldRef := ⟨.hif, 0x1C, 0, 8, 0⟩
def HIF_ACC_ADDR_LO : FieldRef := ⟨.hif, 0x20, 0, 32, 0⟩
def HIF_ACC_ADDR_HI : FieldRef := ⟨.hif, 0x24, 0, 32, 0⟩
def HIF_W_SEL : FieldRef := ⟨.hif, 0x40, 0, 16, 0⟩
def HIF_W_ARG (i : Nat) : FieldRef := ⟨.hif, 0x44 + 0x4 * i, 0, 32, 0⟩
def HIF_W_DATA (i : Nat) : FieldRef := ⟨.hif, 0x60 + 0x4 * i, 0, 32, 0⟩
def HIF_W_CMD : FieldRef := ⟨.hif, 0x80, 0, 4, 0⟩
def HIF_W_STATUS_CODE : FieldRef := ⟨.hif, 0x84, 0, 8, 0⟩
def HIF_W_STATUS_BUSY : FieldRef := ⟨.hif, 0x84, 8, 1, 0⟩
def HIF_W_RES0 : FieldRef := ⟨.hif, 0x88, 0, 32, 0⟩
def HIF_W_RES1 : FieldRef := ⟨.hif, 0x8C, 0, 32, 0⟩
def HIF_SU_COUNT (b : Nat) : FieldRef := ⟨.hif, 0x100 + 0x4 * b, 0, 16, 0⟩
def HIF_PWR_REQ_REQ (b : Nat) : FieldRef := ⟨.hif, 0x180 + 0x4 * b, 0, 2, 0⟩
def HIF_PWR_REQ_DEFERRED (b : Nat) : FieldRef := ⟨.hif, 0x180 + 0x4 * b, 2, 1, 0⟩
def HIF_ER_CFG_EN : FieldRef := ⟨.hif, 0x200, 0, 1, 0⟩
def HIF_ER_CFG_LOG2_SIZE : FieldRef := ⟨.hif, 0x200, 1, 4, 8⟩
def HIF_ER_CFG_ITR_US : FieldRef := ⟨.hif, 0x200, 16, 16, 0⟩
def HIF_ER_BASE_LO : FieldRef := ⟨.hif, 0x204, 0, 32, 0⟩
def HIF_ER_BASE_HI : FieldRef := ⟨.hif, 0x208, 0, 32, 0⟩
def HIF_ER_WR : FieldRef := ⟨.hif, 0x20C, 0, 32, 0⟩
def HIF_ER_RD : FieldRef := ⟨.hif, 0x210, 0, 32, 0⟩
def HIF_ER_LOST : FieldRef := ⟨.hif, 0x214, 0, 32, 0⟩
def HIF_RING_CFG_EN (r : Nat) : FieldRef := ⟨.hif, 0x400 + 0x40 * r, 0, 1, 0⟩
def HIF_RING_CFG_KIND (r : Nat) : FieldRef := ⟨.hif, 0x400 + 0x40 * r, 1, 2, 0⟩
def HIF_RING_CFG_IRQ_ALL (r : Nat) : FieldRef := ⟨.hif, 0x400 + 0x40 * r, 3, 1, 0⟩
def HIF_RING_CFG_LOG2_SIZE (r : Nat) : FieldRef := ⟨.hif, 0x400 + 0x40 * r, 8, 4, 6⟩
def HIF_RING_CFG_ITR_US (r : Nat) : FieldRef := ⟨.hif, 0x400 + 0x40 * r, 16, 16, 0⟩
def HIF_RING_PARAM (r : Nat) : FieldRef := ⟨.hif, 0x404 + 0x40 * r, 0, 21, 64⟩
def HIF_SQ_BASE_LO (r : Nat) : FieldRef := ⟨.hif, 0x408 + 0x40 * r, 0, 32, 0⟩
def HIF_SQ_BASE_HI (r : Nat) : FieldRef := ⟨.hif, 0x40C + 0x40 * r, 0, 32, 0⟩
def HIF_SQ_TAIL (r : Nat) : FieldRef := ⟨.hif, 0x410 + 0x40 * r, 0, 32, 0⟩
def HIF_SQ_HEAD (r : Nat) : FieldRef := ⟨.hif, 0x414 + 0x40 * r, 0, 32, 0⟩
def HIF_CQ_BASE_LO (r : Nat) : FieldRef := ⟨.hif, 0x418 + 0x40 * r, 0, 32, 0⟩
def HIF_CQ_BASE_HI (r : Nat) : FieldRef := ⟨.hif, 0x41C + 0x40 * r, 0, 32, 0⟩
def HIF_CQ_HEAD (r : Nat) : FieldRef := ⟨.hif, 0x420 + 0x40 * r, 0, 32, 0⟩
def HIF_CQ_WR (r : Nat) : FieldRef := ⟨.hif, 0x424 + 0x40 * r, 0, 32, 0⟩
def HIF_RING_STATUS_INFLIGHT (r : Nat) : FieldRef := ⟨.hif, 0x428 + 0x40 * r, 0, 13, 0⟩
def HIF_RING_STATUS_DUP_TAGS (r : Nat) : FieldRef := ⟨.hif, 0x428 + 0x40 * r, 16, 16, 0⟩
def STW_STATUS_IMAGE : FieldRef := ⟨.stw, 0x0, 0, 2, 0⟩
def STW_STATUS_RS_STATE : FieldRef := ⟨.stw, 0x0, 2, 3, 0⟩
def STW_STATUS_MEAS_VALID : FieldRef := ⟨.stw, 0x0, 5, 1, 0⟩
def STW_STATUS_PATCHED : FieldRef := ⟨.stw, 0x0, 6, 1, 0⟩
def STW_STATUS_SVN_MIN : FieldRef := ⟨.stw, 0x0, 8, 7, 0⟩
def STW_STATUS_LOAD_PCT : FieldRef := ⟨.stw, 0x0, 16, 7, 0⟩
def STW_EVT_STATUS : FieldRef := ⟨.stw, 0x4, 0, 9, 0⟩
def STW_EVT_EN : FieldRef := ⟨.stw, 0x8, 0, 9, 0⟩
def STW_ROM_ID : FieldRef := ⟨.stw, 0xC, 0, 32, 0⟩
def STW_IMG_ID_LO : FieldRef := ⟨.stw, 0x10, 0, 32, 0⟩
def STW_IMG_ID_HI : FieldRef := ⟨.stw, 0x14, 0, 32, 0⟩
def STW_IMG_INFO : FieldRef := ⟨.stw, 0x18, 0, 7, 0⟩
def STW_IMG_SEQ : FieldRef := ⟨.stw, 0x1C, 0, 32, 0⟩
def STW_BOOT_FAILED_SLOT : FieldRef := ⟨.stw, 0x20, 0, 2, 0⟩
def STW_BOOT_CAUSE_A : FieldRef := ⟨.stw, 0x20, 8, 8, 0⟩
def STW_BOOT_CAUSE_B : FieldRef := ⟨.stw, 0x20, 16, 8, 0⟩
def STW_RS_TIME_LO : FieldRef := ⟨.stw, 0x24, 0, 32, 0⟩
def STW_RS_TIME_HI : FieldRef := ⟨.stw, 0x28, 0, 32, 0⟩
def STW_MEAS (w : Nat) : FieldRef := ⟨.stw, 0x40 + 0x4 * w, 0, 32, 0⟩
def STW_ROMD (w : Nat) : FieldRef := ⟨.stw, 0x80 + 0x4 * w, 0, 32, 0⟩
def STW_ARG (j : Nat) : FieldRef := ⟨.stw, 0x100 + 0x4 * j, 0, 32, 0⟩
def STW_CMD_OP : FieldRef := ⟨.stw, 0x110, 0, 3, 0⟩
def STW_CMD_SRC : FieldRef := ⟨.stw, 0x110, 3, 2, 0⟩
def STW_CMD_STATUS_CODE : FieldRef := ⟨.stw, 0x114, 0, 8, 0⟩
def STW_CMD_STATUS_BUSY : FieldRef := ⟨.stw, 0x114, 8, 1, 0⟩
def STW_CMD_STATUS_CAUSE : FieldRef := ⟨.stw, 0x114, 12, 4, 0⟩
def STW_FAIL_RECORD : FieldRef := ⟨.stw, 0x118, 0, 16, 0⟩
def STW_FAIL_SECTION : FieldRef := ⟨.stw, 0x118, 16, 4, 0⟩
def STW_PATCH_ENTRY (n : Nat) : FieldRef := ⟨.stw, 0x200 + 0x4 * n, 0, 10, 0⟩
def STW_PATCH_VALID (n : Nat) : FieldRef := ⟨.stw, 0x200 + 0x4 * n, 10, 1, 0⟩
def RST_STATUS_LAST_SOURCE : FieldRef := ⟨.rst, 0x0, 0, 4, 1⟩
def RST_STATUS_PROOF_STEP : FieldRef := ⟨.rst, 0x0, 4, 3, 0⟩
def RST_STATUS_PROOF_DONE : FieldRef := ⟨.rst, 0x0, 7, 1, 0⟩
def RST_STATUS_OPT_SRC : FieldRef := ⟨.rst, 0x0, 8, 2, 0⟩
def RST_STATUS_STUCK_ACTIVE : FieldRef := ⟨.rst, 0x0, 10, 1, 0⟩
def RST_EVT_STATUS : FieldRef := ⟨.rst, 0x4, 0, 5, 0⟩
def RST_EVT_EN : FieldRef := ⟨.rst, 0x8, 0, 5, 0⟩
def RST_OPT_MATE_EN : FieldRef := ⟨.rst, 0xC, 0, 1, 0⟩
def RST_OPT_MATE_BASE : FieldRef := ⟨.rst, 0xC, 4, 4, 0⟩
def RST_OPT_RSTPIN_STUCK : FieldRef := ⟨.rst, 0xC, 8, 1, 0⟩
def RST_OPT_PERST_MODE : FieldRef := ⟨.rst, 0xC, 9, 1, 0⟩
def RST_OPT_GEN_MAX : FieldRef := ⟨.rst, 0xC, 16, 3, 5⟩
def RST_OPT_WIDTH_MAX : FieldRef := ⟨.rst, 0xC, 20, 2, 3⟩
def RST_OPT_GOV_EN : FieldRef := ⟨.rst, 0xC, 24, 1, 1⟩
def RST_OPT_NEW_MATE_EN : FieldRef := ⟨.rst, 0x10, 0, 1, 0⟩
def RST_OPT_NEW_MATE_BASE : FieldRef := ⟨.rst, 0x10, 4, 4, 0⟩
def RST_OPT_NEW_RSTPIN_STUCK : FieldRef := ⟨.rst, 0x10, 8, 1, 0⟩
def RST_OPT_NEW_PERST_MODE : FieldRef := ⟨.rst, 0x10, 9, 1, 0⟩
def RST_OPT_NEW_GEN_MAX : FieldRef := ⟨.rst, 0x10, 16, 3, 5⟩
def RST_OPT_NEW_WIDTH_MAX : FieldRef := ⟨.rst, 0x10, 20, 2, 3⟩
def RST_OPT_NEW_GOV_EN : FieldRef := ⟨.rst, 0x10, 24, 1, 1⟩
def RST_CMD : FieldRef := ⟨.rst, 0x14, 0, 4, 0⟩
def RST_CMD_STATUS_CODE : FieldRef := ⟨.rst, 0x18, 0, 8, 0⟩
def RST_CMD_STATUS_BUSY : FieldRef := ⟨.rst, 0x18, 8, 1, 0⟩
def RST_CMD_STATUS_CAUSE : FieldRef := ⟨.rst, 0x18, 12, 4, 0⟩
def RST_OPT_SEQ : FieldRef := ⟨.rst, 0x1C, 0, 32, 0⟩
def RST_CNT (s : Nat) : FieldRef := ⟨.rst, 0x24 + 0x4 * (s - 1), 0, 32, 0⟩
def RST_CNT_PROOF_RESET_DURING_PROOFING : FieldRef := ⟨.rst, 0x48, 0, 16, 0⟩
def RST_CNT_PROOF_PROOF_FAIL : FieldRef := ⟨.rst, 0x48, 16, 16, 0⟩
def RST_HOLD_MS : FieldRef := ⟨.rst, 0x4C, 0, 32, 0⟩
def RST_FRC_RUN : FieldRef := ⟨.rst, 0x50, 0, 32, 0⟩
def RST_BAT_STATUS_STUCK_RESET : FieldRef := ⟨.rst, 0x54, 0, 1, 0⟩
def RST_BAT_STATUS_RSTPIN_STUCK_M : FieldRef := ⟨.rst, 0x54, 1, 1, 0⟩
def RST_BAT_STATUS_MARKER_LOST : FieldRef := ⟨.rst, 0x54, 2, 1, 0⟩
def PWR_STATUS_STATE : FieldRef := ⟨.pwr, 0x0, 0, 3, 0⟩
def PWR_STATUS_FORCED : FieldRef := ⟨.pwr, 0x0, 3, 1, 0⟩
def PWR_STATUS_GATED : FieldRef := ⟨.pwr, 0x0, 16, 16, 0⟩
def PWR_EVT_STATUS : FieldRef := ⟨.pwr, 0x4, 0, 6, 0⟩
def PWR_EVT_EN : FieldRef := ⟨.pwr, 0x8, 0, 6, 0⟩
def PWR_CTRL_GOV_EN : FieldRef := ⟨.pwr, 0xC, 0, 1, 1⟩
def PWR_CTRL_FORCE_P0 : FieldRef := ⟨.pwr, 0xC, 1, 1, 0⟩
def PWR_LEAST_TOL : FieldRef := ⟨.pwr, 0x10, 0, 32, 4294967295⟩
def PWR_ARG : FieldRef := ⟨.pwr, 0x14, 0, 3, 0⟩
def PWR_CMD : FieldRef := ⟨.pwr, 0x18, 0, 2, 0⟩
def PWR_CMD_STATUS_CODE : FieldRef := ⟨.pwr, 0x1C, 0, 8, 0⟩
def PWR_CMD_STATUS_BUSY : FieldRef := ⟨.pwr, 0x1C, 8, 1, 0⟩
def PWR_CMD_STATUS_CAUSE : FieldRef := ⟨.pwr, 0x1C, 12, 4, 0⟩
def PWR_WAKE_FRC_LO : FieldRef := ⟨.pwr, 0x20, 0, 32, 0⟩
def PWR_WAKE_FRC_HI : FieldRef := ⟨.pwr, 0x24, 0, 32, 0⟩
def PWR_WAKE_BAT : FieldRef := ⟨.pwr, 0x28, 0, 32, 0⟩
def PWR_WAKE_CFG : FieldRef := ⟨.pwr, 0x2C, 0, 5, 1⟩
def PWR_WAKE_CAUSE_CAUSE : FieldRef := ⟨.pwr, 0x30, 0, 3, 0⟩
def PWR_WAKE_CAUSE_FROM : FieldRef := ⟨.pwr, 0x30, 3, 3, 0⟩
def PWR_BLK_GATEABLE (b : Nat) : FieldRef := ⟨.pwr, 0x40 + 0x4 * b, 0, 1, if b < 6 then 0 else if b < 8 then 1 else if b < 10 then 0 else if b < 11 then 1 else if b < 15 then 0 else if b < 16 then 1 else if b < 23 then 0 else 1⟩
def PWR_BLK_GATED (b : Nat) : FieldRef := ⟨.pwr, 0x40 + 0x4 * b, 1, 1, 0⟩
def PWR_BLK_GATE_HELD (b : Nat) : FieldRef := ⟨.pwr, 0x40 + 0x4 * b, 2, 1, 0⟩
def PWR_BLK_CLK_GATED (b : Nat) : FieldRef := ⟨.pwr, 0x40 + 0x4 * b, 3, 1, 0⟩
def FLT_STATUS_SAFE : FieldRef := ⟨.flt, 0x0, 0, 1, 0⟩
def FLT_STATUS_LOCKED : FieldRef := ⟨.flt, 0x0, 1, 1, 0⟩
def FLT_STATUS_RC_CLOCK : FieldRef := ⟨.flt, 0x0, 2, 1, 0⟩
def FLT_STATUS_FAULT_N : FieldRef := ⟨.flt, 0x0, 3, 1, 0⟩
def FLT_STATUS_SHADOWS : FieldRef := ⟨.flt, 0x0, 4, 5, 0⟩
def FLT_STATUS_FIFO : FieldRef := ⟨.flt, 0x0, 9, 7, 0⟩
def FLT_STATUS_LOST : FieldRef := ⟨.flt, 0x0, 16, 16, 0⟩
def FLT_EVT_STATUS : FieldRef := ⟨.flt, 0x4, 0, 8, 0⟩
def FLT_EVT_EN : FieldRef := ⟨.flt, 0x8, 0, 8, 0⟩
def FLT_CTRL_FAULTN_LATCH : FieldRef := ⟨.flt, 0xC, 0, 1, 0⟩
def FLT_CTRL_INJ_ALLOW : FieldRef := ⟨.flt, 0xC, 1, 1, 0⟩
def FLT_LOG_CFG_EN : FieldRef := ⟨.flt, 0x10, 0, 1, 0⟩
def FLT_LOG_CFG_LOG2_RECORDS : FieldRef := ⟨.flt, 0x10, 1, 5, 10⟩
def FLT_LOG_CFG_WM : FieldRef := ⟨.flt, 0x10, 16, 16, 0⟩
def FLT_LOG_BASE : FieldRef := ⟨.flt, 0x14, 0, 32, 0⟩
def FLT_LOG_WR_IDX : FieldRef := ⟨.flt, 0x18, 0, 32, 0⟩
def FLT_LOG_RD_IDX : FieldRef := ⟨.flt, 0x1C, 0, 32, 0⟩
def FLT_BR_LIMIT_BR_LIMIT : FieldRef := ⟨.flt, 0x20, 0, 8, 4⟩
def FLT_BR_LIMIT_BR_WINDOW_MS : FieldRef := ⟨.flt, 0x20, 16, 16, 1000⟩
def FLT_SRC_SEL : FieldRef := ⟨.flt, 0x40, 0, 11, 0⟩
def FLT_SRC_CFG_EN : FieldRef := ⟨.flt, 0x44, 0, 1, 1⟩
def FLT_SRC_CFG_SEV : FieldRef := ⟨.flt, 0x44, 1, 2, 3⟩
def FLT_SRC_CFG_REACTION : FieldRef := ⟨.flt, 0x44, 3, 7, 32⟩
def FLT_SRC_CFG_CLASS : FieldRef := ⟨.flt, 0x44, 10, 1, 1⟩
def FLT_SRC_CFG_CASCADE : FieldRef := ⟨.flt, 0x44, 11, 1, 0⟩
def FLT_SRC_CFG_FIXED : FieldRef := ⟨.flt, 0x44, 12, 1, 0⟩
def FLT_ARG_BLOCK : FieldRef := ⟨.flt, 0x48, 0, 5, 0⟩
def FLT_ARG_MODE : FieldRef := ⟨.flt, 0x48, 8, 1, 0⟩
def FLT_CMD : FieldRef := ⟨.flt, 0x4C, 0, 3, 0⟩
def FLT_CMD_STATUS_CODE : FieldRef := ⟨.flt, 0x50, 0, 8, 0⟩
def FLT_CMD_STATUS_BUSY : FieldRef := ⟨.flt, 0x50, 8, 1, 0⟩
def FLT_CMD_STATUS_CAUSE : FieldRef := ⟨.flt, 0x50, 12, 4, 0⟩
def FLT_LAST (w : Nat) : FieldRef := ⟨.flt, 0x60 + 0x4 * w, 0, 32, 0⟩
def FLT_GRP_LATCH (g : Nat) : FieldRef := ⟨.flt, 0x100 + 0x4 * g, 0, 32, 0⟩
def FLT_BLK_CFG (b : Nat) : FieldRef := ⟨.flt, 0x200 + 0x4 * b, 0, 16, if b < 1 then 1 else if b < 2 then 1 else if b < 3 then 1 else if b < 4 then 1 else if b < 5 then 2 else if b < 6 then 1 else if b < 7 then 1 else if b < 8 then 10 else if b < 9 then 10 else if b < 10 then 1 else if b < 11 then 10 else if b < 12 then 1 else if b < 13 then 1 else if b < 14 then 10 else if b < 15 then 1 else if b < 16 then 10 else if b < 17 then 1 else if b < 18 then 1 else if b < 19 then 1 else if b < 20 then 1 else if b < 21 then 1 else if b < 22 then 1 else if b < 23 then 1 else 10⟩
def FLT_BLK_STATUS_DOOR (b : Nat) : FieldRef := ⟨.flt, 0x280 + 0x4 * b, 0, 2, 0⟩
def FLT_BLK_STATUS_SHADOW (b : Nat) : FieldRef := ⟨.flt, 0x280 + 0x4 * b, 2, 1, 0⟩
def FLT_BLK_STATUS_RESETS (b : Nat) : FieldRef := ⟨.flt, 0x280 + 0x4 * b, 8, 8, 0⟩
def FLT_BLK_STATUS_GEN (b : Nat) : FieldRef := ⟨.flt, 0x280 + 0x4 * b, 16, 16, 1⟩
def PMC_STATUS_SNAP_BUSY : FieldRef := ⟨.pmc, 0x0, 0, 1, 0⟩
def PMC_STATUS_WIN_ACTIVE : FieldRef := ⟨.pmc, 0x0, 1, 8, 0⟩
def PMC_STATUS_SNAP_SEQ : FieldRef := ⟨.pmc, 0x0, 16, 16, 0⟩
def PMC_EVT_STATUS : FieldRef := ⟨.pmc, 0x4, 0, 4, 0⟩
def PMC_EVT_EN : FieldRef := ⟨.pmc, 0x8, 0, 4, 0⟩
def PMC_CNT_SEL : FieldRef := ⟨.pmc, 0x10, 0, 11, 0⟩
def PMC_CNT_LO : FieldRef := ⟨.pmc, 0x14, 0, 32, 0⟩
def PMC_CNT_HI : FieldRef := ⟨.pmc, 0x18, 0, 16, 0⟩
def PMC_SNAP_ADDR_LO : FieldRef := ⟨.pmc, 0x20, 0, 32, 0⟩
def PMC_SNAP_ADDR_HI : FieldRef := ⟨.pmc, 0x24, 0, 32, 0⟩
def PMC_SNAP_TIME_LO : FieldRef := ⟨.pmc, 0x28, 0, 32, 0⟩
def PMC_SNAP_TIME_HI : FieldRef := ⟨.pmc, 0x2C, 0, 32, 0⟩
def PMC_CMD_OP : FieldRef := ⟨.pmc, 0x30, 0, 2, 0⟩
def PMC_CMD_TRIGGER : FieldRef := ⟨.pmc, 0x30, 2, 1, 0⟩
def PMC_CMD_STATUS_CODE : FieldRef := ⟨.pmc, 0x34, 0, 8, 0⟩
def PMC_CMD_STATUS_BUSY : FieldRef := ⟨.pmc, 0x34, 8, 1, 0⟩
def PMC_CMD_STATUS_CAUSE : FieldRef := ⟨.pmc, 0x34, 12, 4, 0⟩
def PMC_WIN_CFG_MODE (n : Nat) : FieldRef := ⟨.pmc, 0x100 + 0x20 * n, 0, 2, 0⟩
def PMC_WIN_CFG_EVENT (n : Nat) : FieldRef := ⟨.pmc, 0x100 + 0x20 * n, 16, 11, 0⟩
def PMC_WIN_OBJ_OBJ_VAL (n : Nat) : FieldRef := ⟨.pmc, 0x104 + 0x20 * n, 0, 16, 0⟩
def PMC_WIN_OBJ_OBJ_MASK (n : Nat) : FieldRef := ⟨.pmc, 0x104 + 0x20 * n, 16, 16, 0⟩
def PMC_WIN_LEN (n : Nat) : FieldRef := ⟨.pmc, 0x108 + 0x20 * n, 0, 32, 1562500⟩
def PMC_WIN_VAL_LO (n : Nat) : FieldRef := ⟨.pmc, 0x10C + 0x20 * n, 0, 32, 0⟩
def PMC_WIN_VAL_HI_VALUE (n : Nat) : FieldRef := ⟨.pmc, 0x110 + 0x20 * n, 0, 16, 0⟩
def PMC_WIN_VAL_HI_WIN_SEQ (n : Nat) : FieldRef := ⟨.pmc, 0x110 + 0x20 * n, 16, 16, 0⟩
def MGP_STATUS_LINK_UP : FieldRef := ⟨.mgp, 0x0, 0, 1, 0⟩
def MGP_STATUS_SPEED_ACT : FieldRef := ⟨.mgp, 0x0, 1, 2, 0⟩
def MGP_STATUS_FULL_ACT : FieldRef := ⟨.mgp, 0x0, 3, 1, 0⟩
def MGP_STATUS_LINK_GEN : FieldRef := ⟨.mgp, 0x0, 16, 16, 0⟩
def MGP_EVT_STATUS : FieldRef := ⟨.mgp, 0x4, 0, 10, 0⟩
def MGP_EVT_EN : FieldRef := ⟨.mgp, 0x8, 0, 10, 0⟩
def MGP_CFG_EN : FieldRef := ⟨.mgp, 0xC, 0, 1, 0⟩
def MGP_CFG_IFACE : FieldRef := ⟨.mgp, 0xC, 1, 1, 0⟩
def MGP_CFG_SPEED : FieldRef := ⟨.mgp, 0xC, 2, 2, 2⟩
def MGP_CFG_DUPLEX : FieldRef := ⟨.mgp, 0xC, 4, 1, 1⟩
def MGP_CFG_AN_EN : FieldRef := ⟨.mgp, 0xC, 5, 1, 1⟩
def MGP_CFG_ERR_DELIVER : FieldRef := ⟨.mgp, 0xC, 6, 1, 0⟩
def MGP_FRAME : FieldRef := ⟨.mgp, 0x10, 0, 12, 1522⟩
def MGP_BOARD_BOARD_TX_PS : FieldRef := ⟨.mgp, 0x14, 0, 16, 0⟩
def MGP_BOARD_BOARD_RX_PS : FieldRef := ⟨.mgp, 0x14, 16, 16, 0⟩
def MGP_VC : FieldRef := ⟨.mgp, 0x18, 0, 10, 0⟩
def MGP_MDIO_REG : FieldRef := ⟨.mgp, 0x1C, 0, 5, 0⟩
def MGP_MDIO_PHYAD : FieldRef := ⟨.mgp, 0x1C, 5, 5, 0⟩
def MGP_MDIO_WRITE : FieldRef := ⟨.mgp, 0x1C, 10, 1, 0⟩
def MGP_MDIO_START : FieldRef := ⟨.mgp, 0x1C, 11, 1, 0⟩
def MGP_MDIO_BUSY : FieldRef := ⟨.mgp, 0x1C, 12, 1, 0⟩
def MGP_MDIO_DATA : FieldRef := ⟨.mgp, 0x1C, 16, 16, 0⟩
def MGP_RING_CFG_EN (d : Nat) : FieldRef := ⟨.mgp, 0x40 + 0x40 * d, 0, 1, 0⟩
def MGP_RING_CFG_LOG2_SIZE (d : Nat) : FieldRef := ⟨.mgp, 0x40 + 0x40 * d, 8, 4, 6⟩
def MGP_RING_CFG_OWNER (d : Nat) : FieldRef := ⟨.mgp, 0x40 + 0x40 * d, 16, 10, 0⟩
def MGP_RING_CFG_VEC (d : Nat) : FieldRef := ⟨.mgp, 0x40 + 0x40 * d, 26, 5, 0⟩
def MGP_SQ_BASE_LO (d : Nat) : FieldRef := ⟨.mgp, 0x44 + 0x40 * d, 0, 32, 0⟩
def MGP_SQ_BASE_HI (d : Nat) : FieldRef := ⟨.mgp, 0x48 + 0x40 * d, 0, 32, 0⟩
def MGP_SQ_TAIL (d : Nat) : FieldRef := ⟨.mgp, 0x4C + 0x40 * d, 0, 32, 0⟩
def MGP_SQ_HEAD (d : Nat) : FieldRef := ⟨.mgp, 0x50 + 0x40 * d, 0, 32, 0⟩
def MGP_CQ_BASE_LO (d : Nat) : FieldRef := ⟨.mgp, 0x54 + 0x40 * d, 0, 32, 0⟩
def MGP_CQ_BASE_HI (d : Nat) : FieldRef := ⟨.mgp, 0x58 + 0x40 * d, 0, 32, 0⟩
def MGP_CQ_HEAD (d : Nat) : FieldRef := ⟨.mgp, 0x5C + 0x40 * d, 0, 32, 0⟩
def MGP_CQ_WR (d : Nat) : FieldRef := ⟨.mgp, 0x60 + 0x40 * d, 0, 32, 0⟩
def MGP_TSR_CFG_EN (d : Nat) : FieldRef := ⟨.mgp, 0xC0 + 0x10 * d, 0, 1, 0⟩
def MGP_TSR_CFG_LOG2_RECORDS (d : Nat) : FieldRef := ⟨.mgp, 0xC0 + 0x10 * d, 1, 4, 8⟩
def MGP_TSR_CFG_OWNER (d : Nat) : FieldRef := ⟨.mgp, 0xC0 + 0x10 * d, 5, 9, 0⟩
def MGP_TSR_CFG_WM (d : Nat) : FieldRef := ⟨.mgp, 0xC0 + 0x10 * d, 16, 16, 0⟩
def MGP_TSR_BASE (d : Nat) : FieldRef := ⟨.mgp, 0xC4 + 0x10 * d, 0, 21, 0⟩
def MGP_TSR_WR_IDX (d : Nat) : FieldRef := ⟨.mgp, 0xC8 + 0x10 * d, 0, 32, 0⟩
def MGP_TSR_RD_IDX (d : Nat) : FieldRef := ⟨.mgp, 0xCC + 0x10 * d, 0, 32, 0⟩
def MGP_WAKE_MASK (p : Nat) (w : Nat) : FieldRef := ⟨.mgp, 0x100 + 0x20 * p + 0x4 * w, 0, 32, 0⟩
def MGP_WAKE_CRC (p : Nat) : FieldRef := ⟨.mgp, 0x110 + 0x20 * p, 0, 16, 0⟩
def MGP_WAKE_CFG : FieldRef := ⟨.mgp, 0x300, 0, 16, 0⟩
def MGP_WAKE_STATUS_LAST : FieldRef := ⟨.mgp, 0x304, 0, 4, 0⟩
def MGP_WAKE_STATUS_MATCHES : FieldRef := ⟨.mgp, 0x304, 16, 16, 0⟩

end F

end Sys2Proof.Machine
end

