-- ==== Sys2Proof/Machine/Events.lean ====
section
/-! DEFINITION. The events: one name per defined bit of an EVT_STATUS register, with the event counter that counts its sets
(R578, Table 22.1), and the further block events of Table 22.2. -/

namespace Sys2Proof.Machine

/-- One event: its register (0 to 23 the block's EVT_STATUS, 24 GN_INT_EVT_STATUS), its block, its bit and its event counter. -/
structure EvRef where
  reg : Nat
  blk : Blk
  bit : Nat
  ctr : Nat
  deriving DecidableEq, Repr

namespace Ev

def TB_VC0_RATIFIED : EvRef := ⟨0, .tb, 0, 1536⟩
def TB_CG0_COMMIT : EvRef := ⟨0, .tb, 1, 1537⟩
def TB_CG0_REFUSED : EvRef := ⟨0, .tb, 2, 1538⟩
def TB_SLEW_DONE : EvRef := ⟨0, .tb, 3, 1539⟩
def TB_SCHED_ACT : EvRef := ⟨0, .tb, 4, 1540⟩
def TB_LEAP_APPLIED : EvRef := ⟨0, .tb, 5, 1541⟩
def TB_RATE_SAT : EvRef := ⟨0, .tb, 6, 1542⟩
def TB_CMD_OVERRUN : EvRef := ⟨0, .tb, 7, 1543⟩
def TB_LOCKED_WRITE : EvRef := ⟨0, .tb, 8, 1544⟩
def TB_AUTH_REFUSED : EvRef := ⟨0, .tb, 9, 1545⟩
def BND_UNBOUNDED : EvRef := ⟨1, .bnd, 0, 1552⟩
def BND_AGE_EXPIRED : EvRef := ⟨1, .bnd, 1, 1553⟩
def BND_PATH_STALE : EvRef := ⟨1, .bnd, 2, 1554⟩
def BND_TOK_DONE : EvRef := ⟨1, .bnd, 3, 1555⟩
def BND_TOK_OVERRUN : EvRef := ⟨1, .bnd, 4, 1556⟩
def BND_NO_OUI : EvRef := ⟨1, .bnd, 5, 1557⟩
def BND_AUTH_REFUSED : EvRef := ⟨1, .bnd, 6, 1558⟩
def REF_STATE_CHANGE : EvRef := ⟨2, .refs, 0, 1568⟩
def REF_SUSPECT : EvRef := ⟨2, .refs, 1, 1569⟩
def REF_DISQUALIFIED : EvRef := ⟨2, .refs, 2, 1570⟩
def REF_NO_SIGNAL : EvRef := ⟨2, .refs, 3, 1571⟩
def REF_SEL_CHANGE : EvRef := ⟨2, .refs, 4, 1572⟩
def REF_HOLDOFF : EvRef := ⟨2, .refs, 5, 1573⟩
def REF_SEL_NONE : EvRef := ⟨2, .refs, 6, 1574⟩
def REF_QL_CHANGE : EvRef := ⟨2, .refs, 7, 1575⟩
def REF_LOOP : EvRef := ⟨2, .refs, 8, 1576⟩
def REF_RING_OVERRUN : EvRef := ⟨2, .refs, 9, 1577⟩
def REF_AUTH_REFUSED : EvRef := ⟨2, .refs, 10, 1578⟩
def SRV_SYS_STATE_CHANGE : EvRef := ⟨3, .srv, 0, 1584⟩
def SRV_LOCKED : EvRef := ⟨3, .srv, 1, 1585⟩
def SRV_HOLDOVER_ENTRY : EvRef := ⟨3, .srv, 2, 1586⟩
def SRV_HOLDOVER_EXIT : EvRef := ⟨3, .srv, 3, 1587⟩
def SRV_OD_STATE_CHANGE : EvRef := ⟨3, .srv, 4, 1588⟩
def SRV_OFFSET_REJECT : EvRef := ⟨3, .srv, 5, 1589⟩
def SRV_STALL : EvRef := ⟨3, .srv, 6, 1590⟩
def SRV_HO_FALLBACK : EvRef := ⟨3, .srv, 7, 1591⟩
def SRV_NOUGAT_CHANGE : EvRef := ⟨3, .srv, 8, 1592⟩
def SRV_ATOM_BUS_ERR : EvRef := ⟨3, .srv, 9, 1593⟩
def SRV_RATE_CONFLICT : EvRef := ⟨3, .srv, 10, 1594⟩
def SRV_UPD_LATE : EvRef := ⟨3, .srv, 11, 1595⟩
def SRV_CMD_OVERRUN : EvRef := ⟨3, .srv, 12, 1596⟩
def SRV_AUTH_REFUSED : EvRef := ⟨3, .srv, 13, 1597⟩
def SYN_LOCKED : EvRef := ⟨4, .syn, 0, 1600⟩
def SYN_LOL : EvRef := ⟨4, .syn, 1, 1601⟩
def SYN_RETUNE_SLOW : EvRef := ⟨4, .syn, 2, 1602⟩
def SYN_MULT_REJECT : EvRef := ⟨4, .syn, 3, 1603⟩
def SYN_CG_COMMIT : EvRef := ⟨4, .syn, 4, 1604⟩
def SYN_CG_PARTIAL : EvRef := ⟨4, .syn, 5, 1605⟩
def SYN_CG_REFUSED : EvRef := ⟨4, .syn, 6, 1606⟩
def SYN_MEMO_FULL : EvRef := ⟨4, .syn, 7, 1607⟩
def SYN_AUTH_REFUSED : EvRef := ⟨4, .syn, 8, 1608⟩
def OUT_DIV_REJECT : EvRef := ⟨5, .out, 0, 1616⟩
def OUT_PO_MISALIGN : EvRef := ⟨5, .out, 1, 1617⟩
def OUT_PO_SQUELCH : EvRef := ⟨5, .out, 2, 1618⟩
def OUT_TOD_SKIP : EvRef := ⟨5, .out, 3, 1619⟩
def OUT_TODIN_BAD : EvRef := ⟨5, .out, 4, 1620⟩
def OUT_DRIVE_CHANGE : EvRef := ⟨5, .out, 5, 1621⟩
def OUT_AUTH_REFUSED : EvRef := ⟨5, .out, 6, 1622⟩
def TDC_RING_WM : EvRef := ⟨6, .tdc, 0, 1632⟩
def TDC_DROPPED : EvRef := ⟨6, .tdc, 1, 1633⟩
def TDC_HALF_FAILED : EvRef := ⟨6, .tdc, 2, 1634⟩
def TDC_HALF_RESTORED : EvRef := ⟨6, .tdc, 3, 1635⟩
def TDC_GATE_OPEN : EvRef := ⟨6, .tdc, 4, 1636⟩
def TDC_GATE_CLOSE : EvRef := ⟨6, .tdc, 5, 1637⟩
def TDC_GATE_REFUSED : EvRef := ⟨6, .tdc, 6, 1638⟩
def TDC_CAL_DONE : EvRef := ⟨6, .tdc, 7, 1639⟩
def TDC_CAL_JUMP : EvRef := ⟨6, .tdc, 8, 1640⟩
def TDC_CFG_LOCKED : EvRef := ⟨6, .tdc, 9, 1641⟩
def TDC_RING_REFUSED : EvRef := ⟨6, .tdc, 10, 1642⟩
def TDC_AUTH_REFUSED : EvRef := ⟨6, .tdc, 11, 1643⟩
def GN_ACQ_DONE : EvRef := ⟨7, .gn, 0, 1648⟩
def GN_ACQ_DETECT : EvRef := ⟨7, .gn, 1, 1649⟩
def GN_SS_DONE : EvRef := ⟨7, .gn, 2, 1650⟩
def GN_CH_STATE : EvRef := ⟨7, .gn, 3, 1651⟩
def GN_CH_LOST : EvRef := ⟨7, .gn, 4, 1652⟩
def GN_DUMP : EvRef := ⟨7, .gn, 5, 1653⟩
def GN_UPD_STALE : EvRef := ⟨7, .gn, 6, 1654⟩
def GN_EPOCH : EvRef := ⟨7, .gn, 7, 1655⟩
def GN_EPOCH_DROPPED : EvRef := ⟨7, .gn, 8, 1656⟩
def GN_PORT_LOST : EvRef := ⟨7, .gn, 9, 1657⟩
def GN_SOL_CHANGE : EvRef := ⟨7, .gn, 10, 1658⟩
def GN_SURVEY_DONE : EvRef := ⟨7, .gn, 11, 1659⟩
def GN_CMD_OVERRUN : EvRef := ⟨7, .gn, 12, 1660⟩
def GN_AUTH_REFUSED : EvRef := ⟨7, .gn, 13, 1661⟩
def GN_CFG_LOCKED : EvRef := ⟨7, .gn, 14, 1662⟩
def GN_INT_INT_CHANGE : EvRef := ⟨24, .gn, 0, 1663⟩
def GN_INT_SECOND_PEAK : EvRef := ⟨24, .gn, 1, 1664⟩
def GN_INT_SP_CLEAR : EvRef := ⟨24, .gn, 2, 1665⟩
def GN_INT_PAIR_EXCLUDED : EvRef := ⟨24, .gn, 3, 1666⟩
def GN_INT_FRAME_LOCK : EvRef := ⟨24, .gn, 4, 1667⟩
def GN_INT_FRAME_LOST : EvRef := ⟨24, .gn, 5, 1668⟩
def GN_INT_TOW_CONFLICT : EvRef := ⟨24, .gn, 6, 1669⟩
def GN_INT_PPS_SQUELCH : EvRef := ⟨24, .gn, 7, 1670⟩
def GN_INT_AUDIT_WAKE : EvRef := ⟨24, .gn, 8, 1671⟩
def GN_INT_AUDIT_DONE : EvRef := ⟨24, .gn, 9, 1672⟩
def GN_INT_SNAP_DONE : EvRef := ⟨24, .gn, 10, 1673⟩
def GN_INT_SNAP_FAILED : EvRef := ⟨24, .gn, 11, 1674⟩
def PRT_LINK_UP : EvRef := ⟨8, .prt, 0, 1680⟩
def PRT_LINK_DOWN : EvRef := ⟨8, .prt, 1, 1681⟩
def PRT_FAULT : EvRef := ⟨8, .prt, 2, 1682⟩
def PRT_TSR_WM : EvRef := ⟨8, .prt, 3, 1683⟩
def PRT_TSR_DROPPED : EvRef := ⟨8, .prt, 4, 1684⟩
def PRT_NOT_SENT : EvRef := ⟨8, .prt, 5, 1685⟩
def PRT_CG_COMMIT : EvRef := ⟨8, .prt, 6, 1686⟩
def PRT_CG_REFUSED : EvRef := ⟨8, .prt, 7, 1687⟩
def PRT_CFG_LOCKED : EvRef := ⟨8, .prt, 8, 1688⟩
def PRT_RING_REFUSED : EvRef := ⟨8, .prt, 9, 1689⟩
def PRT_ACTION_ERR : EvRef := ⟨8, .prt, 10, 1690⟩
def PRT_AUTH_REFUSED : EvRef := ⟨8, .prt, 11, 1691⟩
def SVE_GRANT_REFUSED : EvRef := ⟨9, .sve, 0, 1704⟩
def SVE_SIG_DROPPED : EvRef := ⟨9, .sve, 1, 1705⟩
def SVE_KOD_SENT : EvRef := ⟨9, .sve, 2, 1706⟩
def SVE_FIFO_FULL : EvRef := ⟨9, .sve, 3, 1707⟩
def SVE_DIR_FULL : EvRef := ⟨9, .sve, 4, 1708⟩
def SVE_CTX_INVALID : EvRef := ⟨9, .sve, 5, 1709⟩
def SVE_CLS_WRITTEN : EvRef := ⟨9, .sve, 6, 1710⟩
def SVE_CLI_LOST : EvRef := ⟨9, .sve, 7, 1711⟩
def SVE_CMD_OVERRUN : EvRef := ⟨9, .sve, 8, 1712⟩
def SVE_AUTH_REFUSED : EvRef := ⟨9, .sve, 9, 1713⟩
def SEC_AUTH_FAIL : EvRef := ⟨10, .sec, 0, 1728⟩
def SEC_SEQ_LOW : EvRef := ⟨10, .sec, 1, 1729⟩
def SEC_SEQ_EXHAUSTED : EvRef := ⟨10, .sec, 2, 1730⟩
def SEC_ROTATED : EvRef := ⟨10, .sec, 3, 1731⟩
def SEC_KEY_LOST : EvRef := ⟨10, .sec, 4, 1732⟩
def SEC_NTSN_SENT : EvRef := ⟨10, .sec, 5, 1733⟩
def SEC_LAUNCH_MISS : EvRef := ⟨10, .sec, 6, 1734⟩
def SEC_CMD_OVERRUN : EvRef := ⟨10, .sec, 7, 1735⟩
def SEC_AUTH_REFUSED : EvRef := ⟨10, .sec, 8, 1736⟩
def SCH_TAIL_DROP : EvRef := ⟨11, .sch, 0, 1752⟩
def SCH_BUF_FULL : EvRef := ⟨11, .sch, 1, 1753⟩
def SCH_MAP_ERR : EvRef := ⟨11, .sch, 2, 1754⟩
def SCH_GATE_SWAP : EvRef := ⟨11, .sch, 3, 1755⟩
def SCH_GATE_REFUSED : EvRef := ⟨11, .sch, 4, 1756⟩
def SCH_SENT_REVOKE : EvRef := ⟨11, .sch, 5, 1757⟩
def SCH_GRANT_LAG : EvRef := ⟨11, .sch, 6, 1758⟩
def SCH_SMP_WM : EvRef := ⟨11, .sch, 7, 1759⟩
def SCH_SMP_DROPPED : EvRef := ⟨11, .sch, 8, 1760⟩
def SCH_CFG_LOCKED : EvRef := ⟨11, .sch, 9, 1761⟩
def SCH_CMD_OVERRUN : EvRef := ⟨11, .sch, 10, 1762⟩
def SCH_AUTH_REFUSED : EvRef := ⟨11, .sch, 11, 1763⟩
def POL_RED_DROP : EvRef := ⟨12, .pol, 0, 1776⟩
def POL_CMD_OVERRUN : EvRef := ⟨12, .pol, 1, 1777⟩
def POL_AUTH_REFUSED : EvRef := ⟨12, .pol, 2, 1778⟩
def UBW_ALIGNED : EvRef := ⟨15, .ubw, 0, 1824⟩
def UBW_ALIGN_LOST : EvRef := ⟨15, .ubw, 1, 1825⟩
def UBW_MISMATCH : EvRef := ⟨15, .ubw, 2, 1826⟩
def UBW_DEPTH_EXCEEDED : EvRef := ⟨15, .ubw, 3, 1827⟩
def UBW_DELAY_JUMP : EvRef := ⟨15, .ubw, 4, 1828⟩
def UBW_ROUTE_ERR : EvRef := ⟨15, .ubw, 5, 1829⟩
def UBW_FWD_DROP : EvRef := ⟨15, .ubw, 6, 1830⟩
def UBW_TSR_WM : EvRef := ⟨15, .ubw, 7, 1831⟩
def UBW_TSR_DROPPED : EvRef := ⟨15, .ubw, 8, 1832⟩
def UBW_CG_COMMIT : EvRef := ⟨15, .ubw, 9, 1833⟩
def UBW_CG_REFUSED : EvRef := ⟨15, .ubw, 10, 1834⟩
def UBW_CFG_LOCKED : EvRef := ⟨15, .ubw, 11, 1835⟩
def UBW_AUTH_REFUSED : EvRef := ⟨15, .ubw, 12, 1836⟩
def MATE_STATE_CHANGE : EvRef := ⟨16, .mate, 0, 1848⟩
def MATE_TAKE_OVER : EvRef := ⟨16, .mate, 1, 1849⟩
def MATE_YIELD : EvRef := ⟨16, .mate, 2, 1850⟩
def MATE_CONTENTION : EvRef := ⟨16, .mate, 3, 1851⟩
def MATE_HB_FAULT : EvRef := ⟨16, .mate, 4, 1852⟩
def MATE_BOTH_PATHS_DOWN : EvRef := ⟨16, .mate, 5, 1853⟩
def MATE_SIDE_CONFLICT : EvRef := ⟨16, .mate, 6, 1854⟩
def MATE_TRACK_LOST : EvRef := ⟨16, .mate, 7, 1855⟩
def MATE_AUTH_REFUSED : EvRef := ⟨16, .mate, 8, 1856⟩
def KS_ZEROISED : EvRef := ⟨13, .ks, 0, 1792⟩
def KS_ROOT_NEW : EvRef := ⟨13, .ks, 1, 1793⟩
def KS_EXPIRED : EvRef := ⟨13, .ks, 2, 1794⟩
def KS_REVOKED : EvRef := ⟨13, .ks, 3, 1795⟩
def KS_ENV_APPLIED : EvRef := ⟨13, .ks, 4, 1796⟩
def KS_ENV_REFUSED : EvRef := ⟨13, .ks, 5, 1797⟩
def KS_RECOVERED : EvRef := ⟨13, .ks, 6, 1798⟩
def KS_CORRUPT : EvRef := ⟨13, .ks, 7, 1799⟩
def KS_CMD_OVERRUN : EvRef := ⟨13, .ks, 8, 1800⟩
def KS_AUTH_REFUSED : EvRef := ⟨13, .ks, 9, 1801⟩
def SHM_SWEEP_DONE : EvRef := ⟨14, .shm, 0, 1808⟩
def SHM_CE : EvRef := ⟨14, .shm, 1, 1809⟩
def SHM_UE : EvRef := ⟨14, .shm, 2, 1810⟩
def SHM_POISON_CONSUMED : EvRef := ⟨14, .shm, 3, 1811⟩
def SHM_CONTRACT_MISS : EvRef := ⟨14, .shm, 4, 1812⟩
def SHM_CONTRACT_REFUSED : EvRef := ⟨14, .shm, 5, 1813⟩
def SHM_REPAIRED : EvRef := ⟨14, .shm, 6, 1814⟩
def SHM_REPAIR_FAIL : EvRef := ⟨14, .shm, 7, 1815⟩
def SHM_WALK_STARVED : EvRef := ⟨14, .shm, 8, 1816⟩
def SHM_DP_COLLIDE : EvRef := ⟨14, .shm, 9, 1817⟩
def SHM_CMD_OVERRUN : EvRef := ⟨14, .shm, 10, 1818⟩
def SHM_AUTH_REFUSED : EvRef := ⟨14, .shm, 11, 1819⟩
def HIF_RING_ERR : EvRef := ⟨17, .hif, 0, 1864⟩
def HIF_RING_REVOKED : EvRef := ⟨17, .hif, 1, 1865⟩
def HIF_PROT_FAULT : EvRef := ⟨17, .hif, 2, 1866⟩
def HIF_PWR_APPLIED : EvRef := ⟨17, .hif, 3, 1867⟩
def HIF_EPOCH : EvRef := ⟨17, .hif, 4, 1868⟩
def HIF_CFG_LOCKED : EvRef := ⟨17, .hif, 5, 1869⟩
def HIF_CMD_OVERRUN : EvRef := ⟨17, .hif, 6, 1870⟩
def HIF_AUTH_REFUSED : EvRef := ⟨17, .hif, 7, 1871⟩
def STW_IMG_LOADED : EvRef := ⟨18, .stw, 0, 1880⟩
def STW_IMG_REJECTED : EvRef := ⟨18, .stw, 1, 1881⟩
def STW_RS_STAGED : EvRef := ⟨18, .stw, 2, 1882⟩
def STW_RS_DONE : EvRef := ⟨18, .stw, 3, 1883⟩
def STW_RS_FAILED : EvRef := ⟨18, .stw, 4, 1884⟩
def STW_MEAS_CHANGE : EvRef := ⟨18, .stw, 5, 1885⟩
def STW_SVN_RAISED : EvRef := ⟨18, .stw, 6, 1886⟩
def STW_CMD_OVERRUN : EvRef := ⟨18, .stw, 7, 1887⟩
def STW_AUTH_REFUSED : EvRef := ⟨18, .stw, 8, 1888⟩
def RST_STUCK_RELEASE : EvRef := ⟨19, .rst, 0, 1896⟩
def RST_OPT_WRITTEN : EvRef := ⟨19, .rst, 1, 1897⟩
def RST_MARKER_LOST : EvRef := ⟨19, .rst, 2, 1898⟩
def RST_CMD_OVERRUN : EvRef := ⟨19, .rst, 3, 1899⟩
def RST_AUTH_REFUSED : EvRef := ⟨19, .rst, 4, 1900⟩
def PWR_STATE_CHANGE : EvRef := ⟨20, .pwr, 0, 1912⟩
def PWR_GATE_APPLIED : EvRef := ⟨20, .pwr, 1, 1913⟩
def PWR_GATE_HELD : EvRef := ⟨20, .pwr, 2, 1914⟩
def PWR_WOKE : EvRef := ⟨20, .pwr, 3, 1915⟩
def PWR_CMD_OVERRUN : EvRef := ⟨20, .pwr, 4, 1916⟩
def PWR_AUTH_REFUSED : EvRef := ⟨20, .pwr, 5, 1917⟩
def FLT_FAULT : EvRef := ⟨21, .flt, 0, 1928⟩
def FLT_BLOCK_RESET : EvRef := ⟨21, .flt, 1, 1929⟩
def FLT_BLOCK_READY : EvRef := ⟨21, .flt, 2, 1930⟩
def FLT_ESCALATED : EvRef := ⟨21, .flt, 3, 1931⟩
def FLT_LOG_WM : EvRef := ⟨21, .flt, 4, 1932⟩
def FLT_LOG_LOST : EvRef := ⟨21, .flt, 5, 1933⟩
def FLT_CMD_OVERRUN : EvRef := ⟨21, .flt, 6, 1934⟩
def FLT_AUTH_REFUSED : EvRef := ⟨21, .flt, 7, 1935⟩
def PMC_SNAP_DONE : EvRef := ⟨22, .pmc, 0, 1944⟩
def PMC_WIN_DONE : EvRef := ⟨22, .pmc, 1, 1945⟩
def PMC_CMD_OVERRUN : EvRef := ⟨22, .pmc, 2, 1946⟩
def PMC_AUTH_REFUSED : EvRef := ⟨22, .pmc, 3, 1947⟩
def MGP_LINK_UP : EvRef := ⟨23, .mgp, 0, 1960⟩
def MGP_LINK_DOWN : EvRef := ⟨23, .mgp, 1, 1961⟩
def MGP_RX_DROP : EvRef := ⟨23, .mgp, 2, 1962⟩
def MGP_TX_DISCARD : EvRef := ⟨23, .mgp, 3, 1963⟩
def MGP_WAKE : EvRef := ⟨23, .mgp, 4, 1964⟩
def MGP_TSR_WM : EvRef := ⟨23, .mgp, 5, 1965⟩
def MGP_TSR_DROPPED : EvRef := ⟨23, .mgp, 6, 1966⟩
def MGP_RING_ERR : EvRef := ⟨23, .mgp, 7, 1967⟩
def MGP_CFG_LOCKED : EvRef := ⟨23, .mgp, 8, 1968⟩
def MGP_AUTH_REFUSED : EvRef := ⟨23, .mgp, 9, 1969⟩

end Ev

/-- The EVT_EN field of each event register. -/
def evEn : Nat → FieldRef
  | 0 => F.TB_EVT_EN
  | 1 => F.BND_EVT_EN
  | 2 => F.REF_EVT_EN
  | 3 => F.SRV_EVT_EN
  | 4 => F.SYN_EVT_EN
  | 5 => F.OUT_EVT_EN
  | 6 => F.TDC_EVT_EN
  | 7 => F.GN_EVT_EN
  | 8 => F.PRT_EVT_EN
  | 9 => F.SVE_EVT_EN
  | 10 => F.SEC_EVT_EN
  | 11 => F.SCH_EVT_EN
  | 12 => F.POL_EVT_EN
  | 13 => F.KS_EVT_EN
  | 14 => F.SHM_EVT_EN
  | 15 => F.UBW_EVT_EN
  | 16 => F.MATE_EVT_EN
  | 17 => F.HIF_EVT_EN
  | 18 => F.STW_EVT_EN
  | 19 => F.RST_EVT_EN
  | 20 => F.PWR_EVT_EN
  | 21 => F.FLT_EVT_EN
  | 22 => F.PMC_EVT_EN
  | 23 => F.MGP_EVT_EN
  | _ => F.GN_INT_EVT_EN

/-- Number of defined bits of each event register. -/
def evBits : Nat → Nat
  | 0 => 10
  | 1 => 7
  | 2 => 11
  | 3 => 14
  | 4 => 9
  | 5 => 7
  | 6 => 12
  | 7 => 15
  | 8 => 12
  | 9 => 10
  | 10 => 9
  | 11 => 12
  | 12 => 3
  | 13 => 10
  | 14 => 12
  | 15 => 13
  | 16 => 9
  | 17 => 8
  | 18 => 9
  | 19 => 5
  | 20 => 6
  | 21 => 8
  | 22 => 4
  | 23 => 10
  | _ => 12

/-- First event counter of each block (Table 22.1). -/
def evBase : Blk → Nat
  | .tb => 1536
  | .bnd => 1552
  | .refs => 1568
  | .srv => 1584
  | .syn => 1600
  | .out => 1616
  | .tdc => 1632
  | .gn => 1648
  | .prt => 1680
  | .sve => 1704
  | .sec => 1728
  | .sch => 1752
  | .pol => 1776
  | .ks => 1792
  | .shm => 1808
  | .ubw => 1824
  | .mate => 1848
  | .hif => 1864
  | .stw => 1880
  | .rst => 1896
  | .pwr => 1912
  | .flt => 1928
  | .pmc => 1944
  | .mgp => 1960

/-- AUTH_REFUSED of each block. -/
def Ev.authOf : Blk → EvRef
  | .tb => Ev.TB_AUTH_REFUSED
  | .bnd => Ev.BND_AUTH_REFUSED
  | .refs => Ev.REF_AUTH_REFUSED
  | .srv => Ev.SRV_AUTH_REFUSED
  | .syn => Ev.SYN_AUTH_REFUSED
  | .out => Ev.OUT_AUTH_REFUSED
  | .tdc => Ev.TDC_AUTH_REFUSED
  | .gn => Ev.GN_AUTH_REFUSED
  | .prt => Ev.PRT_AUTH_REFUSED
  | .sve => Ev.SVE_AUTH_REFUSED
  | .sec => Ev.SEC_AUTH_REFUSED
  | .sch => Ev.SCH_AUTH_REFUSED
  | .pol => Ev.POL_AUTH_REFUSED
  | .ubw => Ev.UBW_AUTH_REFUSED
  | .mate => Ev.MATE_AUTH_REFUSED
  | .ks => Ev.KS_AUTH_REFUSED
  | .shm => Ev.SHM_AUTH_REFUSED
  | .hif => Ev.HIF_AUTH_REFUSED
  | .stw => Ev.STW_AUTH_REFUSED
  | .rst => Ev.RST_AUTH_REFUSED
  | .pwr => Ev.PWR_AUTH_REFUSED
  | .flt => Ev.FLT_AUTH_REFUSED
  | .pmc => Ev.PMC_AUTH_REFUSED
  | .mgp => Ev.MGP_AUTH_REFUSED

/-- The counter of the replies that a block's doors discard (R578). -/
def evDiscard (b : Blk) : Nat :=
  match b with
  | .gn => 1675
  | b => evBase b + evBits b.code

/-! The further block events of Table 22.2, by counter number. -/
namespace Ct

def PRT_RUNT : Nat := 1693
def PRT_OVERSIZE : Nat := 1694
def PRT_CODE_ERR : Nat := 1695
def PRT_FEC_UNCORR : Nat := 1696
def PRT_LINK_CUT : Nat := 1697
def PRT_MAC_CONTROL : Nat := 1698
def PRT_RX_BUF_FULL : Nat := 1699
def PRT_ERR_DELIVERED : Nat := 1700
def PRT_RX_BYTES : Nat := 1701
def PRT_TX_BYTES : Nat := 1702
def SVE_NO_GRANT : Nat := 1715
def SVE_NO_CONTEXT : Nat := 1716
def SVE_RED_DROP : Nat := 1717
def SVE_HWM_DROP : Nat := 1718
def SVE_NTP_BAD : Nat := 1719
def SVE_CLS_DROP : Nat := 1720
def SVE_SEC_ABSENT : Nat := 1721
def SVE_SERVED_GRANTED : Nat := 1722
def SVE_SERVED_METERED : Nat := 1723
def SVE_HOST_DELIVERED : Nat := 1724
def SEC_NO_SA : Nat := 1738
def SEC_UNKNOWN_KEYID : Nat := 1739
def SEC_ICV_MISMATCH : Nat := 1740
def SEC_SA_MISMATCH : Nat := 1741
def SEC_NO_TLV : Nat := 1742
def SEC_BAD_FORMAT : Nat := 1743
def SEC_KEY_LOST_DROP : Nat := 1744
def SEC_GH_OPS : Nat := 1745
def SEC_SIV_OPS : Nat := 1746
def SCH_DISABLED_DROP : Nat := 1765
def SCH_FLUSHED : Nat := 1766
def SCH_NO_FIT : Nat := 1767
def SCH_LINK_DISCARD : Nat := 1768
def SCH_SELECTED : Nat := 1769
def POL_GREEN : Nat := 1780
def POL_YELLOW : Nat := 1781
def POL_RED : Nat := 1782
def SHM_BANK_ACCESS : Nat := 1821
def SHM_BANK_CONFLICT : Nat := 1822
def UBW_RX_BYTES : Nat := 1838
def UBW_TX_BYTES : Nat := 1839
def UBW_FORWARDED : Nat := 1840
def UBW_DELIVERED : Nat := 1841
def HIF_DMA_DISCARD : Nat := 1873
def HIF_RX_DROP : Nat := 1874
def HIF_RX_BYTES : Nat := 1875
def HIF_TX_BYTES : Nat := 1876
def FLT_FAULTN_SET : Nat := 1937
def FLT_SAFE_ENTRY : Nat := 1938
def MGP_RX_BYTES : Nat := 1971
def MGP_TX_BYTES : Nat := 1972
def MGP_RX_FRAMES : Nat := 1973
def MGP_TX_FRAMES : Nat := 1974
def MGP_FCS_ERR : Nat := 1975
def MGP_RUNT : Nat := 1976
def MGP_OVERSIZE : Nat := 1977
def MGP_CODE_ERR : Nat := 1978
def MGP_COLLISIONS : Nat := 1979
def MGP_LATE_COLLISION : Nat := 1980
def MGP_EXCESS_COLLISIONS : Nat := 1981
def MGP_DEFERRALS : Nat := 1982

end Ct

end Sys2Proof.Machine
end

