-- ==== Sys2Proof/Machine/State.lean ====
section
/-! DEFINITION. The state of the LVK7260: the register file, and for each block what it holds beyond its registers. Plain data throughout. -/

namespace Sys2Proof.Machine

/-- What can stop the machine with a fault: nothing. Every command of this block has an effect (its own, a refusal by completion
code, or none), so no meaning raises a fault (safe). The one constructor keeps the type closed and is raised by nothing. -/
inductive Fault where
  /-- Raised by no command. Safe. -/
  | none
  deriving DecidableEq, Repr

/-- Why the model refuses a command. -/
inductive Refusal where
  /-- Raised by `exec` for a row of the opcode table that has no meaning yet. Safe. -/
  | notModelled (mnemonic : String)
  deriving DecidableEq, Repr

/-- A command window: the issuing function and the copy of the block's per-function registers it uses
(function F: copy F + 1; a command of a ring: a private copy from 1024 on, R501). -/
structure Win where
  fn : Nat
  c : Nat
  deriving DecidableEq, Repr

/-- The status fields of a command window. -/
structure StatRef where
  code : FieldRef
  busy : FieldRef
  cause : Option FieldRef
  deriving DecidableEq, Repr

/-- A request that a block's door has accepted and that has not completed (R35), oldest first. -/
structure Req where
  blk : Blk
  win : Win
  stat : StatRef
  op : Nat
  obj : Nat
  gen : Nat
  /-- HIF_EPOCH at acceptance (R493). -/
  ep : Nat
  deriving DecidableEq, Repr

/-- An armed commit group (R25 to R28): kind, the tick from which it may commit (the commit tick itself where it is known),
and for VC0_SECOND the second awaited, in units of 2^-48 ns. -/
structure CgArm where
  kind : Nat
  tick : Nat
  sec : Int
  deriving DecidableEq, Repr

/-- One interrupt vector (R511): messages sent, a condition waiting for the interval's end, the tick the interval ends, and the pending bit
of a masked vector. -/
structure Vec where
  sent : Nat := 0
  waiting : Bool := false
  until_ : Nat := 0
  pend : Bool := false
  deriving DecidableEq, Repr

/-! ### Timebase -/

/-- The states of Table 2.2. -/
inductive VcState where
  | unset | setPending | ratified
  deriving DecidableEq, Repr

/-- The parameters of Table 2.1. Times are in units of 2^-48 ns, rates in units of 2^-60. -/
structure VcPar where
  parentVc0 : Bool
  b : Int := 0
  f : Nat := 0
  a : Int := 0
  r : Int := 0
  s : Int := 0
  pAdj : Int := 0
  sAdj : Int := 0
  adjPpb : Nat := 0
  pRamp : Int := 0
  sRamp : Int := 0
  deriving DecidableEq, Repr

/-- One segment slot (R69 to R71). State: 0 EMPTY, 1 PENDING, 2 ACTIVE. `sec`: S of a LEAP segment (Table 2.3), once a rebase after its armed tick
has fixed it. -/
structure VcSlot where
  state : Nat := 0
  kind : Nat := 0
  tick : Nat := 0
  a : Int := 0
  b : Int := 0
  sec : Option Int := none
  deriving DecidableEq, Repr

/-- A pending SET: its tick, its mode (false ABSOLUTE, true PARENT_OFFSET), its value in 2^-16 ns, and its issuer. -/
structure VcPendSet where
  tick : Nat
  offset : Bool
  value : Int
  fn : Nat
  deriving DecidableEq, Repr

/-- One virtual clock (R48 to R73). -/
structure Vc where
  state : VcState := .unset
  par : VcPar
  prev : List VcPar := []
  slots : Tbl VcSlot := []
  pendSet : Option VcPendSet := none
  pendRate : Option (Nat × Int) := none
  pendAdj : Option (Nat × Int) := none
  pendRetire : Option Nat := none
  pendParent : Option (Nat × Bool) := none
  leapNet : Int := 0
  leapUntil : Option Int := none
  owner : Nat := 0
  stepAuto : Bool := false
  slewMax : Nat := 500
  adjLimit : Nat := 1000000
  deriving DecidableEq, Repr

/-- The reset value of clock n (Table 2.15: PARENT 1, 0 for VC0; STEP_MODE 1 on VC0). -/
def Vc.init (n : Nat) : Vc := { par := { parentVc0 := n != 0 }, stepAuto := n == 0 }

/-- What the timebase holds beyond its registers: the clocks by number. The latch of R82 stands in the window's registers. -/
structure TbSt where
  vcs : Tbl Vc := []
  deriving DecidableEq, Repr

/-! ### Bound ledger -/

/-- The CG0 terms of the ledger (Table 3.1). -/
structure BndTerms where
  tRef : Nat
  tSrv : Nat
  fAge : Nat
  y : Nat
  a : Nat
  m : Nat
  deriving DecidableEq, Repr

/-- A signed time token in progress (R95): the window it answers, its buffer, its counter value, and octets 0-159 as captured at
acceptance. -/
structure Token where
  win : Win
  addr : Nat
  counter : Nat
  body : Octets
  deriving DecidableEq, Repr

/-- What the ledger holds beyond its registers. -/
structure BndSt where
  /-- The tick of the last CG0 commit and the terms in effect before it (R87). -/
  prev : Option (Nat × BndTerms) := none
  /-- Tick of the last calibration of each point (CAL_AGE_MS, R89). -/
  calAt : Tbl Nat := []
  tokens : List Token := []
  deriving DecidableEq, Repr

/-! ### References -/

/-- One reference stamp: FRC and phase in 1/32 tick (R46), its label in ns, whether that is a TIME label, and the edges since signal
acquisition. -/
structure RefStamp where
  x32 : Nat
  label : Rat
  isTime : Bool
  edges : Nat
  deriving DecidableEq, Repr

/-- One reference slot, beyond its registers (R98 to R118). Values are exact; registers hold them rounded. -/
structure RefSlot where
  /-- SEQ of the next stamp record (R103). -/
  seq : Nat := 0
  /-- First and last stamp since signal acquisition. -/
  first : Option RefStamp := none
  last : Option RefStamp := none
  /-- Last stamp of the previous monitor second; stamps of this one, oldest first. -/
  prevSec : Option RefStamp := none
  sec : List RefStamp := []
  /-- Stamps the servo has not read yet, oldest first (R126). -/
  unread : List RefStamp := []
  edges : Nat := 0
  missing : Nat := 0
  good : Nat := 0
  gap : Bool := false
  qrChanged : Bool := false
  /-- Per-second offsets y, newest first, and y less the ensemble median of the same second; none for a second that formed none. -/
  ys : List (Option Rat) := []
  es : List (Option Rat) := []
  foffH : Rat := 0
  foffE : Rat := 0
  /-- Per-second largest and smallest TIE, newest first, none for a second that formed none; the running TIE_E. -/
  tieH : List (Option (Rat × Rat)) := []
  tieE : List (Option (Rat × Rat)) := []
  tieEAcc : Rat := 0
  /-- W of R118, in ns. -/
  w : Rat := 0
  qual : Nat := 0
  clear : Nat := 0
  /-- The slot left SUSPECT (true) or QUALIFIED for NO_SIGNAL. -/
  leftSuspect : Bool := false
  leftGood : Bool := false
  /-- The label that the next pulse takes (R100), and pulses labelled in a row. -/
  nextLabel : Option Rat := none
  labelled : Nat := 0
  /-- Stamping is enabled: a monitor tick has passed since NOMINAL_HZ was written (R101). -/
  ready : Bool := false
  /-- Received rank, ESMC loop, and the tick of the last quality message. -/
  qrRx : Nat := 15
  loop : Bool := false
  qlTick : Option Nat := none
  linkUp : Bool := false
  deriving DecidableEq, Repr

/-- A selector, beyond its registers: the tick its hold-off ends (R121), and the tick it last left SELECTED (R149). -/
structure RefSel where
  holdoff : Option Nat := none
  leftAt : Option Nat := none
  deriving DecidableEq, Repr

/-- What the reference block holds beyond its registers. -/
structure RefSt where
  slots : Tbl RefSlot := []
  sels : Tbl RefSel := []
  /-- The last monitor tick evaluated. -/
  lastTick : Nat := 0
  deriving DecidableEq, Repr

/-! ### Servo -/

/-- One committed rate of a DPLL: the tick from which it is in force, the rate word, the value h and the offset x of OSC_IN against
ATOM_IN at that update (R145), and whether the loop wrote it outside a measurement gap (R149). -/
structure RateRec where
  tick : Nat
  rate : Int
  h : Int
  x : Option Rat
  counts : Bool
  deriving DecidableEq, Repr

/-- One DPLL (R127 to R141). State codes as SRV_STATUS.SYS_STATE. Errors are in units of 2^-16 ns, stamps in 1/32 tick. -/
structure Dpll where
  st : Nat := 0
  slot : Option Nat := none
  /-- I_k of R128, dimensionless, and the loop's last rate word. -/
  ik : Rat := 0
  rate : Int := 0
  lastX : Option Nat := none
  lastUsed : Option Nat := none
  /-- The build-out offset of R141. -/
  buildOut : Option Int := none
  /-- |e_in| of the last 64 measurements, newest first. -/
  errs : List Nat := []
  /-- The last 8 measurements of R136, newest first: e_in, and label less VC0's time. -/
  last8 : List (Int × Int) := []
  /-- Ticks after which every |e_in| was below LOCK_NS, and below LOCK_NS / 2 while LOCKED. -/
  lockFrom : Nat := 0
  quietFrom : Nat := 0
  high : Nat := 0
  lockedAt : Option Nat := none
  /-- The last measurements, newest first, while the offset is taken (R138). -/
  taking : Option (List Int) := none
  /-- The mode of the last measurements (R127). -/
  mode : Nat := 2
  hoValid : Bool := false
  bw : Nat
  /-- The phase error comes from a mate observer (R431); and after that the next slot is taken with build-out. -/
  track : Bool := false
  force : Bool := false
  /-- Committed rates, newest first, and what the next commit adds. -/
  hist : List RateRec := []
  next : Option RateRec := none
  deriving DecidableEq, Repr

/-- A training sample (R152): tick, offset, temperature in m°C. -/
structure NgSample where
  tick : Nat
  y : Rat
  theta : Int
  deriving DecidableEq, Repr

/-- One Nougat model beyond its registers. -/
structure NgModel where
  samples : List NgSample := []
  bad : Nat := 0
  okRun : Nat := 0
  lastTry : Nat := 0
  deriving DecidableEq, Repr

/-- What the servo holds beyond its registers. -/
structure SrvSt where
  sys : Dpll := { bw := 1000 }
  ods : Tbl Dpll := []
  /-- The update tick written last (R126), and VC0 was RATIFIED then. -/
  target : Nat := 0
  wasRat : Bool := false
  /-- Tick of the last CG0 commit, or of the end of Proofing (R134), and r0 as the steward wrote it for the pending commit. -/
  cg0At : Nat := 0
  wrote : Option Int := none
  /-- Tick of the SET that the steward issued (R136). -/
  ownSet : Option Nat := none
  /-- A change of the target offset that waits for its ADJUST's tick, and the last change: tick and the value before it (R142). -/
  oPend : Option (Nat × Int) := none
  oPrev : Option (Nat × Int) := none
  /-- Amount of an accepted offset still to be issued, ACCEPT_OFFSET given, the last mean offset, and the monitor tick of its measurement
  (R139). -/
  accept : Option Int := none
  acceptCmd : Bool := false
  delta : Int := 0
  retryAt : Nat := 0
  /-- Level of the ATOM_ALM pin, the tick since which no failure condition holds (R146), and the offset x of R145. -/
  almPin : Bool := true
  okSince : Option Nat := none
  x : Option Rat := none
  models : Tbl NgModel := []
  /-- The last tuning transaction (R158) and its tick. -/
  tuneTx : Octets := []
  tuneAt : Nat := 0
  deriving DecidableEq, Repr

/-! ### Synthesis and outputs -/

/-- One band-memo entry (R166). -/
structure MemoEntry where
  key : Nat := 0
  band : Nat := 0
  valid : Bool := false
  pinned : Bool := false
  used : Nat := 0
  deriving DecidableEq, Repr

/-- One synthesiser beyond its registers. DCO cycles are counted from a tick (in ticks) at which the count was `cyc`. -/
structure SynK where
  startAt : Nat := 0
  cycAt : Rat := 0
  cyc : Rat := 0
  rate : Int := 0
  memo : Tbl MemoEntry := []
  uses : Nat := 0
  deriving DecidableEq, Repr

/-- What a clock output runs on now: the values of its SH fields that have reached it. -/
structure ClkVals where
  src : Nat := 0
  en : Bool := false
  stop : Nat := 2
  format : Nat := 0
  shared : Bool := false
  d : Nat := 7
  phase : Nat := 0
  fine : Nat := 0
  deriving DecidableEq, Repr

/-- Why a committed change has not reached an output: it has (0), its own edge (1), an aligned restart (2), or lock (3). -/
structure ClkOut where
  cur : ClkVals := {}
  run : Bool := false
  wait : Nat := 0
  group : Nat := 0
  /-- Tick (in ticks) from which the change may apply: the commit instant plus 8 ns (R169). -/
  since : Rat := 0
  /-- DCO cycle at which the divider last restarted. -/
  origin : Rat := 0
  /-- Instant at which a moving delay arrives (R174). -/
  moveEnd : Option Rat := none
  deriving DecidableEq, Repr

/-- The parameters of a pulse output as they are in use. -/
structure PoVals where
  kind : Nat := 0
  pol : Nat := 0
  shared : Bool := false
  squelch : Nat := 1
  en : Bool := false
  vc : Nat := 0
  fine : Nat := 0
  period : Nat := 1000000
  width : Nat := 100000
  epoch : Nat := 0
  cable : Nat := 0
  deriving DecidableEq, Repr

/-- One pulse output. Times in 2^-48 ns of its clock, less the steps of R179. -/
structure PulseOut where
  cur : PoVals := {}
  /-- Values that apply from the first pulse placed at least 64 ticks after their commit (R180). -/
  new : Option (PoVals × Nat) := none
  /-- Target of the next pulse. -/
  next : Option Int := none
  /-- Sum of the steps since the last realignment, and before the last step with its tick. -/
  offs : Int := 0
  offPrev : Option (Nat × Int) := none
  /-- The last leading edge in 5 ps from FRC 0, and its width in ns; a pulse was placed. -/
  lastEdge : Option Nat := none
  lastWidth : Nat := 0
  deriving DecidableEq, Repr

/-- A time-of-day frame due on a pin: tick of composition, and the pin's configuration at its pulse. -/
structure TodDue where
  at_ : Nat
  src : Nat
  format : Nat
  zdaRef : Nat
  baud : Nat
  /-- Target of the pulse just sent, LEAP_SECOND then, and the pulse's tick. -/
  target : Int
  leap : Bool
  tick : Nat
  deriving DecidableEq, Repr

/-- One TODOUT pin: frames due, oldest first, and the octets sent last. -/
structure TodOut where
  due : List TodDue := []
  sent : Octets := []
  deriving DecidableEq, Repr

/-- What the synthesis and output blocks hold beyond their registers. -/
structure OutSt where
  syns : Tbl SynK := []
  /-- The commit group under which each pending shadow was written (R167), by field key. -/
  shadows : Tbl Nat := []
  clks : Tbl ClkOut := []
  pos : Tbl PulseOut := []
  tods : Tbl TodOut := []
  deriving DecidableEq, Repr

/-! ### Time-interval measurement -/

/-- One interpolator half (R194 to R196): its pair, if one is complete, runs of rejected and accepted pairs, and the instant in ps at
which it is READY. -/
structure Half where
  pair : Option (Nat × Nat) := none
  rej : Nat := 0
  acc : Nat := 0
  failed : Bool := false
  ready : Nat := 0
  deriving DecidableEq, Repr

/-- A stamp point's front end: the half that took the last edge (0 A, 1 B) and that edge's instant in ps. -/
structure StampPoint where
  half : Nat := 1
  at_ : Option Nat := none
  deriving DecidableEq, Repr

/-- A TDC record on its way (Table 7.2); the stamp in units of 20 ps. -/
structure TdcRec where
  stamp : Nat
  falling : Bool := false
  half : Nat := 0
  clamp : Bool := false
  kind : Nat := 0
  gate : Nat := 0
  lost : Nat := 0
  deriving DecidableEq, Repr

/-- A measurement channel: first tick of acceptance, last tick if EN is 0, FIFO oldest first, events lost since the last record made, records
dropped since the last record written, and seq. -/
structure TdcChan where
  from_ : Nat := 0
  until_ : Option Nat := none
  fifo : List TdcRec := []
  lost : Nat := 0
  carry : Nat := 0
  seq : Nat := 0
  deriving DecidableEq, Repr

/-- A gate: the open window's stamp, the last window, its ticks in FRC_WINDOW mode, and windows since the arm. -/
structure TdcGate where
  open_ : Option Nat := none
  last : Option (Nat × Nat) := none
  times : Nat × Nat := (0, 0)
  done : Nat := 0
  deriving DecidableEq, Repr

/-- What the TDC block holds beyond its registers, with the interpolators of every stamp point. -/
structure TdcSt where
  halves : Tbl Half := []
  points : Tbl StampPoint := []
  chans : Tbl TdcChan := []
  gates : Tbl TdcGate := []
  /-- The calibration engine (R210): links up, requests by class (link-up, command, periodic), the one running, and completion ticks. -/
  linkUp : List Nat := []
  reqLink : List Nat := []
  reqCmd : List Nat := []
  reqPer : List Nat := []
  running : Option (Nat × Nat) := none
  calAt : Tbl Nat := []
  deriving DecidableEq, Repr

/-! ### GNSS baseband -/

/-- A sample port (R217 to R220): index of the last stamped sample, the last two stamps (instant in 1/32 tick, index), newest first, the run
of good intervals while LOST, and the EN value saved at SLEEP (R266). -/
structure GnPort where
  stamps : List (Nat × Nat) := []
  run : Nat := 0
  deriving DecidableEq, Repr

/-- An acquisition job (R221 to R227): number, signal, AUTO_ASSIGN, N_COH, N_NC, DOP_SPAN, DOP_CTR, THRESH, PRNs left, the tick from which the
next PRN's search ends, the tick at which the capture ends, and whether its port was LOST in the capture. -/
structure GnJob where
  num : Nat
  sig : Nat
  auto : Bool
  nCoh : Nat
  nNc : Nat
  span : Nat
  thresh : Nat
  prns : List Nat
  ready : Nat := 0
  capEnd : Nat := 0
  fail : Bool := false
  deriving DecidableEq, Repr

/-- A start that awaits its start epoch (R233): the epoch's instant in ticks, signal, PRN and CARR_FREQ. -/
structure GnStart where
  at_ : Rat
  sig : Nat
  prn : Nat
  freq : Int
  deriving DecidableEq, Repr

/-- A valid update that awaits its boundary (R235): the UPD registers as they stood, the first epoch of the integration that SEQ names, and the
tick of acceptance. -/
structure GnUpd where
  carr : Int
  code : Int
  cstep : Int
  kstep : Int
  sync : Nat
  kind : Nat
  dll : Nat
  pll : Nat
  epoch : Nat
  codeLock : Bool
  freqLock : Bool
  carrLock : Bool
  half : Bool
  slip : Bool
  applyCarr : Bool
  applyCode : Bool
  syncValid : Bool
  at_ : Nat
  deriving DecidableEq, Repr

/-- What a second-peak pass last said of a channel (Table 9.1). -/
structure SpInfo where
  frc : Nat := 0
  cn1 : Nat := 0
  cn2 : Nat := 0
  sep : Int := 0
  dop : Int := 0
  ratio : Nat := 0
  deriving DecidableEq, Repr

/-- A tracking channel (R230 to R239). Phases hold at an instant in ticks: the carrier in 2^-32 cycle and the code in 2^-32 chip since start. -/
structure GnChan where
  start : Option GnStart := none
  sig : Nat := 0
  prn : Nat := 0
  at_ : Rat := 0
  carr : Rat := 0
  code : Rat := 0
  freq : Int := 0
  dop : Int := 0
  /-- The integration in progress: its number, its first primary epoch, the epoch that ends it; the last two ended, newest first. -/
  k : Nat := 0
  first : Nat := 0
  next : Nat := 1
  ended : List (Nat × Nat) := []
  upd : Option GnUpd := none
  misses : Nat := 0
  portLost : Bool := false
  /-- Symbol or secondary index: an epoch, the index there, and the kind (0 data symbol, 1 secondary code). -/
  sync : Option (Nat × Nat × Nat) := none
  /-- An epoch, its transmit time in ms of week, and the week. -/
  tow : Option (Nat × Nat × Nat) := none
  slip : Bool := false
  lockAt : Option Rat := none
  coastAt : Nat := 0
  dll : Nat := 0
  pll : Nat := 0
  /-- |P|² and |N|² of the integrations that ended in the last 1,000 ms, by instant. -/
  pw : List (Rat × Nat × Nat) := []
  /-- OWNER in effect (R236). -/
  owner : Nat := 0
  /-- The second-peak monitor (R256): SECOND_PEAK, consecutive HIT passes and passes without, and the last pass's result. -/
  sp : Bool := false
  hits : Nat := 0
  quiet : Nat := 0
  info : SpInfo := {}
  /-- The frame search (R258): position and polarity of the lock, failed frames, and the candidates of the frame before that passed. -/
  lock : Option (Nat × Bool) := none
  fails : Nat := 0
  cands : List (Nat × Bool) := []
  deriving DecidableEq, Repr

/-- One delivered solution of the current window (R267): latch, offset, bound, integrity state. -/
structure GnSol where
  at_ : Nat
  off : Int
  bound : Nat
  integ : Nat
  deriving DecidableEq, Repr

/-- The pulse model (R260): F_M, G_M in 2^-16 ns, y_M and B_M. -/
structure PpsModel where
  f : Nat := 0
  g : Nat := 0
  y : Int := 0
  b : Nat := 0xFFFFFFFFFF
  deriving DecidableEq, Repr

/-- A fixed pulse of GNSS_PPS_OUT (R262): second, ideal instant and leading edge in ps of FRC time, qErr in ps, mode, suppression, and what
its frame says (age in ps, bound). -/
structure PpsPulse where
  sec : Nat
  ideal : Int
  edge : Int
  qErr : Int
  qMode : Bool
  squelched : Bool
  age : Int
  b : Nat
  deriving DecidableEq, Repr

/-- A witness snapshot in hand (R269 to R271): trigger tick, and what was noted at T. -/
structure GnSnap where
  tick : Nat
  header : Octets := []
  deriving DecidableEq, Repr

/-- What the GNSS blocks hold beyond their registers. -/
structure GnSt where
  ports : Tbl GnPort := []
  jobs : List GnJob := []
  jobNum : Nat := 0
  acqSeq : Nat := 0
  /-- Tick from which the serial search may end (R228). -/
  ssEnd : Nat := 0
  chans : Tbl GnChan := []
  /-- Last DUMP event by tenant (Table 8.11). -/
  dumpAt : Tbl Nat := []
  epoch : Nat := 0
  lastLatch : Option Nat := none
  lastSolve : Option Nat := none
  lastSol : Option Nat := none
  surveyAt : Option Nat := none
  sols : List GnSol := []
  okRun : Nat := 0
  /-- The second-peak pass: due tick, one waiting, and the one running with its channels (channel, SIGNAL). -/
  spDue : Nat := 0
  spWait : Bool := false
  spRun : Option (Nat × List Nat) := none
  spSeq : Nat := 0
  model : PpsModel := {}
  modelNew : Option (Nat × PpsModel) := none
  pulse : Option PpsPulse := none
  lastPulse : Option PpsPulse := none
  /-- Audit (R265, R266): tick of entry to AWAKE, port EN values to restore, and the tick of the warm-up's end. -/
  awakeAt : Nat := 0
  savedEn : Nat := 0
  warmAt : Option Nat := none
  snap : Option GnSnap := none
  snapSeq : Nat := 0
  deriving DecidableEq, Repr

/-- The GNSS store of the battery domain (R268): its marker and CRC hold, run number and counts at the write, and its contents. Ephemerides by
signal and PRN, with the time in ticks of their decoding. -/
structure GnStore where
  valid : Bool := false
  run : Nat := 0
  frc : Nat := 0
  bat : Nat := 0
  model : PpsModel := {}
  pos : List Nat := []
  floor : Nat := 0
  isb : List Nat := []
  almanac : Bool := false
  ephs : Tbl Nat := []
  deriving DecidableEq, Repr

/-! ### Serving ports, engines, security, scheduling and policing -/

/-- A host frame's descriptor or buffer: function, ring pair, record index, and the enabling of the ring it belongs to. -/
structure HostTag where
  fn : Nat
  r : Nat
  idx : Nat
  en : Nat
  deriving DecidableEq, Repr

/-- What completes the ICV of a one-step Sync at egress (R346): the key's length, the key and nonce of the tag, the offsets of the PTP header and of the ICV in the
frame, and CF_ZERO. -/
structure IcvFix where
  klen : Nat
  key : Nat
  nonce : Octets
  hdr : Nat
  icv : Nat
  cfZero : Bool
  deriving DecidableEq, Repr

/-- A classifier-entry snapshot (R303): index, contents, GEN. -/
structure EntrySnap where
  idx : Nat
  data : Octets
  gen : Nat
  deriving DecidableEq, Repr

/-- A context's message on its way out: the context, its grant (0 Sync, 1 Announce, 2 Delay_Resp), and for a two-step Sync the snapshot and the
sequenceId of its Follow_Up. -/
structure MsgRef where
  ctx : Nat
  grant : Nat
  sync : Option (EntrySnap × Nat) := none
  deriving DecidableEq, Repr

/-- A frame in a transmit queue or an egress pipeline: octets without FCS, action block, queue, level, originator, and the ticks of enqueue and
selection. `closed` is the time for which gate 0 had been closed at the enqueue; `smp` the depth left in its
queue where the frame is a latency sample. -/
structure TxFrame where
  octets : Octets
  act : Octets
  queue : Nat
  level : Nat
  host : Option HostTag := none
  tenant : Nat := 0
  msg : Option MsgRef := none
  icv : Option IcvFix := none
  enq : Nat := 0
  sel : Nat := 0
  closed : Nat := 0
  revoked : Bool := false
  held : Bool := false
  smp : Option Nat := none
  deriving DecidableEq, Repr

/-- A serving port beyond its registers: the tick since which it is DOWN, the instant in ticks at which its line is free, and the
last frame sent, with its FCS. -/
structure PrtPort where
  downAt : Nat := 0
  freeAt : Rat := 0
  sent : Octets := []
  deriving DecidableEq, Repr

/-- What PRT holds beyond its registers: ports, and the next seq of each timestamp ring by 2n + d. -/
structure PrtSt where
  ports : Tbl PrtPort := []
  seqs : Tbl Nat := []
  deriving DecidableEq, Repr

/-- The kinds of message a pipeline holds. -/
inductive SveKind where
  | delayReq | ntp | nts | followUp | signaling
  deriving DecidableEq, Repr

/-- A message in a FIFO or in the grant queue (R295, R314): its class, the port, the entry snapshot, its context, the received frame without FCS,
the time on the entry's clock in 2^-48 ns (ingress of a request, egress of a Follow_Up's Sync), the stamp's FRC form in 1/32 tick, a
sequenceId, and whether it is answered with a kiss-o'-death. -/
structure SveMsg where
  kind : SveKind
  port : Nat
  snap : EntrySnap
  ctx : Option Nat := none
  frame : Octets := []
  time : Int := 0
  x32 : Nat := 0
  seqId : Nat := 0
  kod : Bool := false
  deriving DecidableEq, Repr

/-- A classifier entry (R300, R304): its 32 octets with GEN as 0, GEN, and its three counters. -/
structure ClsEntry where
  data : Octets := []
  gen : Nat := 0
  cur : Nat := 0
  prev : Nat := 0
  stale : Nat := 0
  deriving DecidableEq, Repr

/-- A WRITE that waits (R305): window, entry, the new contents, and the entry before it where the contents are in force already. -/
structure ClsWait where
  win : Win
  entry : Nat
  data : Octets
  old : Option ClsEntry
  deriving DecidableEq, Repr

/-- A tenant's row of the SVE_TEN window. -/
structure SveTen where
  max : Nat := 0xFFFFFFFF
  load : Nat := 0
  red : Nat := 0
  full : Nat := 0
  kod : Nat := 0
  refused : Nat := 0
  deriving DecidableEq, Repr

/-- The exchange of the client session in progress: the Sync's sequenceId, its ingress stamp in 1/32 tick, t2 (the time of PORT_VC there) and t1
once it is known, in ns. -/
structure CliExch where
  seq : Nat
  x32 : Nat
  t2 : Rat
  t1 : Option Rat
  deriving DecidableEq, Repr

/-- The client session (R330, R331): tick and logMessageInterval of the last accepted Announce and Sync; messages accepted at ingress and not yet
delivered to the steward (PTP message, stamp in 1/32 tick, time of PORT_VC in 2^-48 ns), oldest first; and the exchange in progress. -/
structure CliSess where
  ann : Option (Nat × Int) := none
  sync : Option (Nat × Int) := none
  inbox : List (Octets × Nat × Int) := []
  exch : Option CliExch := none
  deriving DecidableEq, Repr

/-- What the SVE holds beyond its registers. -/
structure SveSt where
  cls : Tbl ClsEntry := []
  waits : List ClsWait := []
  /-- Contexts whose key the directory holds (R306), rising. -/
  dir : List Nat := []
  granted : Tbl (List SveMsg) := []
  metered : Tbl (List SveMsg) := []
  sig : List SveMsg := []
  tens : Tbl SveTen := []
  cli : CliSess := {}
  /-- The last VC0 instant of each cadence bitmap for which a word was served: (LOG + 7) and the number of the word since VC0 time 0 (R322). -/
  wheel : Tbl Int := []
  /-- Tick of the last sweep (R320). -/
  sweepAt : Nat := 0
  /-- Profile writes whose 64 ticks still run: field key, the value before, and the tick of the write. -/
  profOld : List (Nat × Nat × Nat) := []
  deriving DecidableEq, Repr

/-- One half of an SA (R338, R340): its keyID, slot, key copy, next transmit counter, and whether the key is lost. -/
structure SaHalf where
  keyId : Nat
  slot : Nat
  key : Nat
  ctr : Nat := 1
  lost : Bool := false
  deriving DecidableEq, Repr

/-- A security association (R337). `tx`: half B transmits. -/
structure SaEnt where
  valid : Bool := false
  alg : Nat := 0
  icv32 : Bool := false
  cfZero : Bool := false
  spp : Nat := 0
  tenant : Nat := 0
  tx : Bool := false
  a : Option SaHalf := none
  b : Option SaHalf := none
  rot : Option Nat := none
  lost : Bool := false
  deriving DecidableEq, Repr

/-- A master-key entry (R350); state 1 ACCEPT, 2 CURRENT. An entry that is not listed is EMPTY. -/
structure NtsEnt where
  state : Nat
  owner : Nat
  slot : Nat
  keyId : Nat
  key : Nat
  lost : Bool := false
  deriving DecidableEq, Repr

/-- What the SEC holds beyond its registers: SAs, master keys, and the nonces drawn since the derivation of K_N (R354). -/
structure SecSt where
  sas : Tbl SaEnt := []
  nts : Tbl NtsEnt := []
  nonces : Nat := 0
  deriving DecidableEq, Repr

/-- A transmit queue (Table 13.9, R364, R366): `ne` in 2^-24 tick. -/
structure TxQueue where
  en : Bool := false
  port : Nat := 0
  level : Nat := 3
  host : Bool := true
  owner : Nat := 0
  weight : Nat := 1
  ovh : Int := 20
  rate : Nat := 0
  burst : Nat := 0
  maxDepth : Nat := 1024
  frames : List TxFrame := []
  tag : Nat := 0
  ne : Nat := 0
  maxDelay : Nat := 0
  tailDrop : Nat := 0
  otherDrop : Nat := 0
  deriving DecidableEq, Repr

/-- The reset value of queue q (R360). -/
def TxQueue.init (q : Nat) : TxQueue :=
  if q < 32 then { en := true, port := q / 2, level := q % 2, host := false } else {}

/-- A reserved launch (R353, R378): its frame, the reserved start and its end in ticks, the stamp's boundary in 1/32 tick and b, and whether the
port has selected it. -/
structure Launch where
  frame : TxFrame
  start : Rat
  end_ : Rat
  x32 : Nat
  b : Nat
  selected : Bool := false
  deriving DecidableEq, Repr

/-- A port of the scheduler: V by level, gate entries by bank * 256 + entry (GATES, DUR_NS), the active list's BASE in ns of VC0, the armed
BASE and LEN, the egress pipeline, the reservations by start, selections made, and the time for which gate 0 has been closed. -/
structure SchPort where
  v : Tbl Nat := []
  gates : Tbl (Nat × Nat) := []
  base : Rat := 0
  arm : Option (Rat × Nat) := none
  pipe : List TxFrame := []
  launches : List Launch := []
  sels : Nat := 0
  closed : Nat := 0
  closedAt : Option Nat := none
  deriving DecidableEq, Repr

/-- What the SCH holds beyond its registers: queues, tenant maps, ports, and the sampler's next seq. -/
structure SchSt where
  queues : Tbl TxQueue := []
  qbase : Tbl Nat := []
  ports : Tbl SchPort := []
  smpSeq : Nat := 0
  deriving DecidableEq, Repr

/-- A policer (R379 to R383): buckets in 2^-24 token, the residues of the two refills in 2^-24 token / 48,828,125, and the tick of the last refill. -/
structure Policer where
  en : Bool := false
  mode : Nat := 0
  unit : Nat := 0
  ovh : Int := 0
  owner : Nat := 0
  cir : Nat := 0
  cbs : Nat := 0
  pir : Nat := 0
  ebs : Nat := 0
  tc : Nat := 0
  te : Nat := 0
  resC : Nat := 0
  resP : Nat := 0
  at_ : Nat := 0
  green : Nat := 0
  yellow : Nat := 0
  red : Nat := 0
  deriving DecidableEq, Repr

/-- What the POL holds beyond its registers: policers, and the tick of the last RED_DROP event of each owner. -/
structure PolSt where
  pols : Tbl Policer := []
  redAt : Tbl Nat := []
  deriving DecidableEq, Repr

/-! ### Ubwick and the mate -/

/-- A stamped marker (R400): superframe number, stamp in 1/32 tick, and VC0's time at the connector in 2^-16 ns. -/
structure UbwStamp where
  sf : Nat
  x32 : Nat
  time : Int
  deriving DecidableEq, Repr

/-- A locally originated chain frame that waits (R411, R414): its header and Ethernet frame, its class (2 PTP, 3 MGMT), the descriptor that awaits a
completion, TS_REQ and tag. -/
structure UbwTx where
  octets : Octets
  cls : Nat
  host : Option HostTag
  tsReq : Bool
  tag : Nat
  deriving DecidableEq, Repr

/-- A Ubwick port beyond its registers. -/
structure UbwPort where
  /-- Number of the next own superframe, and the timing message sent last (R394, R398). -/
  sf : Nat := 0
  sent : Octets := []
  /-- Candidate tracks: block of the last valid marker, and markers counted (R397). -/
  tracks : List (Nat × Nat) := []
  /-- In ALIGNED and READY: the block at which the next marker is expected, and consecutive positions without one. -/
  next : Nat := 0
  miss : Nat := 0
  /-- Consecutive messages with a bad CRC; a good complementary message has come since ALIGNED was entered (R396). -/
  bad : Nat := 0
  good : Bool := false
  /-- Own departures and partner arrivals, newest first, 64 of each (R400). -/
  deps : List UbwStamp := []
  arrs : List UbwStamp := []
  /-- The partner's bound and rootId fields of its latest message. -/
  bound : Nat := 0xFFFFFFFFFF
  root : Nat := 0
  /-- The last DELAY_N delays, newest first; the window's offsets, newest first, each with its arrival; the last offsets θ̄ by window number, newest
  first; and the last window that ended (R401 to R404). -/
  delays : List Int := []
  thetas : List (Int × UbwStamp) := []
  means : List (Nat × Int) := []
  win : Nat := 0
  /-- Forwarded frames on this egress: class, and the stamp at which each leaves; local frames that wait; the chain frame sent last, and whether it ended in error. -/
  fwd : List (Nat × Nat) := []
  local_ : List UbwTx := []
  frame : Octets := []
  frameErr : Bool := false
  deriving DecidableEq, Repr

/-- What UBW holds beyond its registers. -/
structure UbwSt where
  ports : Tbl UbwPort := []
  deriving DecidableEq, Repr

/-- What MATE holds beyond its registers. -/
structure MateSt where
  /-- Level of the MATE_SIDE strap. -/
  sidePin : Bool := false
  /-- Tick of the end of Proofing, and of the last Toffee message since. -/
  from_ : Nat := 0
  toffee : Option Nat := none
  /-- Ticks at which the heartbeat last became silent and last became seen. -/
  silentAt : Nat := 0
  seenAt : Nat := 0
  /-- Consecutive inconsistent and consistent messages (R428). -/
  wrong : Nat := 0
  right : Nat := 0
  /-- End of the hold-off (R426). -/
  holdEnd : Option Nat := none
  /-- The unit withdraws at its next marker on M (Table 15.3). -/
  leaving : Bool := false
  /-- Observers whose last window had an edge pair (R432), and the tick of that window's end. -/
  obs : List Nat := []
  obsAt : Nat := 0
  deriving DecidableEq, Repr

/-! ### Key store -/

/-- A key slot (R442, R443): its attribute record, its key as a number, and for a persistent slot the copy in force. An EMPTY slot's record is 0
but for VERSION. -/
structure KsSlot where
  attr : Octets := List.replicate 32 0
  key : Nat := 0
  copy : Nat := 0
  deriving DecidableEq, Repr

/-- What the key store holds beyond its registers: the root secret, slots, the copy in force of each authority entry, and whether a zeroisation has
occurred since the last chip reset (R435, R438, R442, R454). -/
structure KsSt where
  root : Option Nat := none
  slots : Tbl KsSlot := []
  authCopy : Tbl Nat := []
  zeroised : Bool := false
  /-- The copies of keys that the steward holds, by slot, and the answer to the last delivery request: master, slot, key (R444, R445). -/
  held : Tbl Nat := []
  last : Option (Nat × Nat × Option Nat) := none
  /-- Tick of the last expiry check (R446). -/
  checkedAt : Nat := 0
  deriving DecidableEq, Repr

/-! ### Shared SRAM -/

/-- A host write that waits for its group's sweep (R479). -/
structure ShmHeld where
  addr : Nat
  data : Octets
  poison : Bool
  deriving DecidableEq, Repr

/-- How an access of the last cycle ended: master, address, completion code, and the octets read. -/
structure ShmDone where
  master : Nat
  addr : Nat
  code : Nat
  data : Octets
  deriving DecidableEq, Repr

/-- A corrected word that awaits its write-back (R467). -/
structure ShmCe where
  bank : Nat
  addr : Nat
  master : Nat
  lanes : Nat
  deriving DecidableEq, Repr

/-- The Crumb walker (R481 to R483): the row it tests or will test next, the tick at which it started and at which the last row completed, WALK_STARVED
was posted for this row, spares used by bank, and the spare of each remapped row (bank * 256 + row). -/
structure ShmWalk where
  bank : Nat := 0
  row : Nat := 0
  at_ : Option Nat := none
  done : Nat := 0
  starved : Bool := false
  spares : Tbl Nat := []
  remap : Tbl Nat := []
  deriving DecidableEq, Repr

/-- What the shared SRAM holds beyond its contents and registers. -/
structure ShmSt where
  /-- Poisoned words (address / 32), rising (R467). -/
  poison : List Nat := []
  /-- Contracts by master * 17 + group: the value set, the value before it, and the window from which it applies (R476). -/
  ct : Tbl (Nat × Nat × Nat) := []
  /-- Words received in a window, by the same key, and the window (R471). -/
  recv : Tbl Nat := []
  win : Nat := 0
  /-- The last grant of each bank port and master, by (2 * bank + port) * 32 + master, and the number of grants (R472). -/
  grants : Tbl Nat := []
  granted : Nat := 0
  ce : List ShmCe := []
  ceAt : Option Nat := none
  missAt : Option Nat := none
  held : List ShmHeld := []
  last : List ShmDone := []
  /-- Tick at which the sweep began, while it runs (R478), and the last access of each group (R477). -/
  sweepAt : Option Nat := none
  usedAt : Tbl Nat := []
  walk : ShmWalk := {}
  deriving DecidableEq, Repr

/-! ### Host interface -/

/-- A received frame that has its buffer and waits for its delivery (R508): the buffer, the source (0 to 15 a serving port, 16 + p a chain port),
the frame without FCS, error flags, the seq of its timestamp-ring record and its stamp's tick. -/
structure RxFrame where
  tag : HostTag
  src : Nat
  octets : Octets
  errs : Nat
  seq : Nat
  frc : Nat
  deriving DecidableEq, Repr

/-- A command of a ring, from fetch to its completion record (R498 to R504): its slot among the 4,096 (its register instance is copy
1024 + slot), its ring and record, whether it is at its block, whether its function was reset since (R515), DUP_TAG, and code and tick where
the HIF itself completed it. -/
structure RingCmd where
  slot : Nat
  tag : HostTag
  octets : Octets
  started : Bool := false
  dead : Bool := false
  dup : Bool := false
  done : Option (Nat × Nat) := none
  deriving DecidableEq, Repr

/-- How the last MMIO access that the HIF answered by itself ended: function, data returned (none for a write), and EP. -/
structure MmioDone where
  fn : Nat
  data : Octets
  ep : Bool
  deriving DecidableEq, Repr

/-- What the host interface holds beyond its registers. -/
structure HifSt where
  /-- Protection table: entries of 32 octets, active and shadow copies (R490, R493). An unlisted entry is all zeros. -/
  ptActive : Tbl Octets := []
  ptShadow : Tbl Octets := []
  /-- The last PTM Response sent: the tick of the Request, and the PTM Master Time it carried, if any (R79). -/
  ptm : Option (Nat × Option Nat) := none
  /-- How often each ring pair has been enabled, by function * 16 + r, and the frames that wait for delivery, oldest first. -/
  ringEn : Tbl Nat := []
  rxq : List RxFrame := []
  /-- Transmit completions to be written: descriptor, code, cause, stamp tick; oldest first. -/
  txDone : List (HostTag × Nat × Nat × Nat) := []
  /-- Fetched commands and fetched transmit descriptors, in fetch order; the ring served last (function * 16 + r). -/
  cmds : List RingCmd := []
  txq : List (HostTag × Octets) := []
  served : Nat := 0
  /-- Tick at which the command of an instance completed, by copy (R504). -/
  doneAt : Tbl Nat := []
  mmio : Option MmioDone := none
  /-- Tick of a function's last PROT_FAULT (R492). -/
  protAt : Tbl Nat := []
  /-- MSI-X table (R601): words by (function * 32 + vector) * 4 + word; an unlisted word is 0, but Vector Control, which is 1 (masked). -/
  msix : Tbl Nat := []
  /-- The host has enabled LTR; LTR messages sent, and the last one (R512). -/
  ltrEn : Bool := false
  ltrSent : Nat := 0
  ltrLast : Nat := 0
  deriving DecidableEq, Repr

/-! ### Steward -/

/-- A restructure from its acceptance to its end (R532 to R534): the image and its source (0 buffer, 1 slot A, 2 slot B), T, the window, the commit
groups that it writes, and at T the EN of the ports (by port) and of the SVE that were in force. -/
structure Restructure where
  image : Octets
  src : Nat
  tick : Nat
  win : Win
  groups : List Nat
  /-- The image has a PROT_TABLE section, and the blocks that its records write, by code. -/
  pt : Bool
  blks : List Nat
  portsEn : List Nat := []
  sveEn : Bool := false
  deriving DecidableEq, Repr

/-- What the steward holds beyond its registers. -/
structure StwSt where
  /-- Regions of the SRAM plan in force, by id: base and size (R525). Empty while no image is applied. -/
  regions : Tbl (Nat × Nat) := []
  /-- Shares of region 2 by port: receive and transmit KiB (R525). -/
  shares : Tbl (Nat × Nat) := []
  /-- Key and image digests of the running image (R528), and its SERVING section (R536). -/
  keyDigest : Octets := List.replicate 48 0
  imgDigest : Octets := List.replicate 48 0
  serving : Octets := []
  /-- Patch RAM by slot (R520). -/
  patches : Tbl Octets := []
  rs : Option Restructure := none
  /-- Blocks, by code, that a restructure is writing (R534). -/
  busy : List Nat := []
  deriving DecidableEq, Repr

/-! ### Reset and power -/

/-- What the reset logic and the battery domain hold beyond their registers. -/
structure RstSt where
  /-- A reset since the last step 0 cleared FRC: the run number rises at step 0 (R539, Table 20.5). -/
  frcCleared : Bool := true
  /-- Step 0 of the Proofing under way is done: its source has been counted. -/
  step0 : Bool := false
  /-- The battery clock's time at FRC 0, in ticks (R268). -/
  batBase : Nat := 0
  /-- The GNSS store (R268). -/
  gnStore : GnStore := {}
  /-- The keep-valid marker and the CRC of the reset counter block are valid (R549). -/
  marker : Bool := true
  /-- RESET_N is accepted and still asserted: the device is in reset (R542). -/
  pin : Bool := false
  /-- The Proofing under way keeps SHM (WAKE3, R541). -/
  keepShm : Bool := false
  /-- QSPI flash: the complement of each octet, so that erased flash lists nothing (R530, R547). -/
  flash : List Host.Cell := []
  deriving DecidableEq, Repr

/-- What the power logic holds beyond its registers: the deep state entered (0, or 2 to 4), the ports whose EN a P2 exit restores (0 to 15 serving,
16 to 20 Ubwick), and the gated blocks on their way back to ON (R555). -/
structure PwrSt where
  deep : Nat := 0
  ports : List Nat := []
  waking : List Nat := []
  /-- Engines clock-gated now, by kind (R554). -/
  gated : List (EngKind × Nat) := []
  deriving DecidableEq, Repr

/-! ### Faults and counters -/

/-- One fault log record (Table 21.6). `reaction` has the bits of byte 15. -/
structure FltRec where
  frc : Nat
  seq : Nat
  source : Nat
  sev : Nat
  integrity : Bool
  secondary : Bool := false
  injected : Bool := false
  escalated : Bool := false
  extended : Bool := false
  lostBefore : Bool := false
  reaction : Nat := 0
  primary : Nat
  obj : Nat := 0
  gen : Nat := 0
  detail : Nat := 0
  deriving DecidableEq, Repr

/-- An open cascade shadow (R566, R568): the block reset, and the seq of the record that ordered it (none for a command). -/
structure Shadow where
  blk : Blk
  primary : Option Nat
  deriving DecidableEq, Repr

/-- A running or fired ready timeout (R567). -/
structure ReadyTimer where
  deadline : Nat
  fired : Bool
  deriving DecidableEq, Repr

/-- What the fault collector holds beyond its registers. -/
structure FltSt where
  /-- Source configurations written by SRC_WRITE, as bits [9:0] of FLT_SRC_CFG (one value stands for the three equal copies). -/
  cfg : Tbl Nat := []
  seq : Nat := 0
  /-- The record FIFO, oldest first (R569). -/
  fifo : List FltRec := []
  lostBefore : Bool := false
  /-- Open shadows, oldest first. -/
  shadows : List Shadow := []
  /-- Ticks of the block resets of each block, newest first (R565). -/
  resetTimes : Tbl (List Nat) := []
  timers : Tbl ReadyTimer := []
  deriving DecidableEq, Repr

/-- A window counter that is not OFF (R581, R582). -/
structure WinCtr where
  value : Nat := 0
  seq : Nat := 0
  running : Nat := 0
  started : Bool := false
  nextEnd : Nat := 0
  deriving DecidableEq, Repr

/-- A snapshot armed or in progress (R583). -/
structure PmcSnap where
  win : Win
  tick : Nat
  addr : Nat
  taken : Option (Tbl Nat × Tbl WinCtr)
  deriving DecidableEq, Repr

/-- What the PMC holds beyond its registers: the event counters and the window counters. -/
structure PmcSt where
  cnt : Tbl Nat := []
  wins : Tbl WinCtr := []
  snap : Option PmcSnap := none
  snaps : Nat := 0
  /-- Tick of the last WIN_DONE (at most one per ms). -/
  winDoneAt : Option Nat := none
  deriving DecidableEq, Repr

/-! ### Management port -/

/-- What the management port holds beyond its registers: how often each ring pair has been enabled, and the MDIO frame in progress. -/
structure MgpSt where
  ringEn : Tbl Nat := []
  mdio : Option Nat := none
  deriving DecidableEq, Repr

/-! ### The whole machine -/

/-- The state of the device. `pending` is the queue of commands, first in, first out. -/
structure State where
  pending : List Instr := []
  /-- FRC (R45), in ticks of 640 ps. -/
  frc : Nat := 0
  /-- Register fields by `FieldRef.key`; a field that is not listed holds its reset value. SH fields hold their shadow. -/
  regs : Tbl Nat := []
  /-- SH fields: the value in effect, by the same keys. -/
  eff : Tbl Nat := []
  /-- Event flags set in every copy, by event register; copies that differ, by register * 1024 + copy. -/
  evtAll : Tbl Nat := []
  evtOwn : Tbl Nat := []
  /-- Accepted requests, in acceptance order. -/
  reqs : List Req := []
  /-- Armed commit groups. -/
  cgs : Tbl CgArm := []
  /-- Interrupt vectors by function * 32 + vector. -/
  vecs : Tbl Vec := []
  /-- Lost event records since the last one written, by copy (R510). -/
  erLost : Tbl Nat := []
  /-- Shared SRAM and host memory (by function * 2^64 + address): bytes that are not 0. -/
  shm : List Host.Cell := []
  hostMem : List Host.Cell := []
  /-- Number of free values drawn. The model's own. -/
  fresh : Nat := 0
  tb : TbSt := {}
  flt : FltSt := {}
  pmc : PmcSt := {}
  rst : RstSt := {}
  bnd : BndSt := {}
  hif : HifSt := {}
  refs : RefSt := {}
  stw : StwSt := {}
  srv : SrvSt := {}
  out : OutSt := {}
  tdc : TdcSt := {}
  gn : GnSt := {}
  prt : PrtSt := {}
  sve : SveSt := {}
  sec : SecSt := {}
  sch : SchSt := {}
  pol : PolSt := {}
  shmx : ShmSt := {}
  ks : KsSt := {}
  ubw : UbwSt := {}
  mate : MateSt := {}
  pwr : PwrSt := {}
  mgp : MgpSt := {}
  deriving DecidableEq, Repr

/-- The machine right after power-on reset, before Proofing has begun its first step: every field at the value the manual states,
or at the value the assumption log names. -/
def State.reset : State := {}

end Sys2Proof.Machine
end

