-- ==== Sys2Proof/Machine/Ops.lean ====
section
/-! DEFINITION. The named operations each registers, memory, events, counters and completions that every meaning is built from. -/

namespace Sys2Proof.Machine

/-! ### Registers -/

/-- The value of a field in a copy: 0 the shared copy, F + 1 function F's copy (R605). -/
def State.rd (s : State) (c : Nat) (f : FieldRef) : Nat := tgetD s.regs (f.key c) f.rst

/-- Store a field: the value is cut to the field's width. -/
def State.wr (c : Nat) (f : FieldRef) (v : Nat) (s : State) : State := { s with regs := tset s.regs (f.key c) (v % 2 ^ f.w) }

/-- A shared register. -/
def State.sh (s : State) (f : FieldRef) : Nat := s.rd 0 f

/-- The value in effect of an SH field (R10). -/
def State.ef (s : State) (f : FieldRef) : Nat := tgetD s.eff (f.key 0) f.rst

/-- Make a value the one in effect. -/
def State.wrEff (f : FieldRef) (v : Nat) (s : State) : State := { s with eff := tset s.eff (f.key 0) (v % 2 ^ f.w) }

/-- A field that the device changes at once in both its shadow and its value in effect. -/
def State.wrBoth (f : FieldRef) (v : Nat) (s : State) : State := (s.wrEff f v).wr 0 f v

/-- A 64-bit value in two registers. -/
def State.rd64 (s : State) (c : Nat) (lo hi : FieldRef) : Nat := s.rd c lo + 2 ^ 32 * s.rd c hi

/-- Store a value in two registers, low word first. -/
def State.wr64 (c : Nat) (lo hi : FieldRef) (v : Nat) (s : State) : State := (s.wr c lo v).wr c hi (v / 2 ^ 32)

/-- Fold an update each a list. -/
def each {α : Type} (l : List α) (f : α → State → State) (s : State) : State := l.foldl (fun t a => f a t) s

/-- Do something only under a condition. -/
def onlyIf (b : Bool) (f : State → State) (s : State) : State := if b then f s else s

/-! ### Time -/

/-- FRC (R45) as a stamp in units of 1/32 tick (R46). -/
def State.now32 (s : State) : Nat := 32 * s.frc

/-- Ticks of 640 ps in a number of ns, rounded up. -/
def ticksOfNs (ns : Nat) : Nat := ceilDiv (ns * 100) 64

/-- Ticks in a number of ms. -/
def ticksOfMs (ms : Nat) : Nat := ms * 1562500

/-- Ticks in a second. -/
def ticksPerSec : Nat := 1562500000

/-! ### Free values -/

/-- Draw a free value of `w` bits: nothing constrains it. -/
def State.free (w : Nat) (s : State) : Nat × State :=
  ((Config.freeBits w s.fresh).toNat, { s with fresh := s.fresh + 1 })

/-! ### Memory -/

/-- The byte at an address of a canonical byte list; an unlisted address reads 0. -/
def cget : List Host.Cell → Nat → Byte
  | [], _ => 0
  | (k, v) :: t, a => if a = k then v else if a < k then 0 else cget t a

/-- Store a byte: addresses stay strictly rising and no byte of 0 is listed. -/
def cset : List Host.Cell → Nat → Byte → List Host.Cell
  | [], a, v => if v = 0 then [] else [(a, v)]
  | (k, w) :: t, a, v =>
    if a < k then (if v = 0 then (k, w) :: t else (a, v) :: (k, w) :: t)
    else if a = k then (if v = 0 then t else (a, v) :: t)
    else (k, w) :: cset t a v

/-- Store octets at consecutive addresses. -/
def csetAll (m : List Host.Cell) (a : Nat) : Octets → List Host.Cell
  | [] => m
  | b :: t => csetAll (cset m a b) (a + 1) t

/-- Read `n` octets. -/
def cgetN (m : List Host.Cell) (a : Nat) : Nat → Octets
  | 0 => []
  | n + 1 => cget m a :: cgetN m (a + 1) n

/-- The canonical form of a byte list. -/
def Memory.wf : List Host.Cell → Bool
  | [] => true
  | [(_, v)] => v != 0
  | (k, v) :: (l, w) :: t => decide (k < l) && (v != 0) && Memory.wf ((l, w) :: t)

/-- A u64 buffer or ring address with bit 63 set names SHM (R491). -/
def addrIsShm (a : Nat) : Bool := bitOf a 63

/-- Bits [62:32] of an SHM address are 0 (R491). -/
def addrWellFormed (a : Nat) : Bool := !addrIsShm a || bits a 32 31 == 0

/-- Key of a host address of a function. -/
def hostKey (fn a : Nat) : Nat := fn * 2 ^ 64 + a

/-- Octets of SHM. -/
def State.shmRead (s : State) (a n : Nat) : Octets := cgetN s.shm a n

/-- Write octets of SHM. A word that a write covers whole is no longer poisoned (R467). -/
def State.shmWrite (a : Nat) (o : Octets) (s : State) : State :=
  { s with
      shm := csetAll s.shm a o
      shmx := { s.shmx with poison := s.shmx.poison.filter fun w => !(decide (a ≤ 32 * w) && decide (32 * w + 32 ≤ a + o.length)) } }

/-- Does a range meet a poisoned word? -/
def State.shmPoisoned (s : State) (a n : Nat) : Bool :=
  s.shmx.poison.any fun w => decide (a < 32 * w + 32) && decide (32 * w < a + n)

/-- Read octets at a u64 address of a function. -/
def State.memRead (s : State) (fn a n : Nat) : Octets :=
  if addrIsShm a then s.shmRead (a % 2 ^ 32) n else cgetN s.hostMem (hostKey fn a) n

/-! ### Counters -/

/-- Does an occurrence of an event on an object count in window counter n (R581)? -/
def winMatches (s : State) (n ev obj : Nat) : Bool :=
  let m := s.sh (F.PMC_WIN_OBJ_OBJ_MASK n)
  s.sh (F.PMC_WIN_CFG_EVENT n) == ev && (obj &&& m) == (s.sh (F.PMC_WIN_OBJ_OBJ_VAL n) &&& m)

/-- One window counter after `k` occurrences of an event on an object at the current tick (R581). -/
def winCount (s : State) (ev obj k n : Nat) (w : WinCtr) : WinCtr :=
  if !winMatches s n ev obj then w
  else if s.sh (F.PMC_WIN_CFG_MODE n) == 1 then { w with value := (w.value + k) % 2 ^ 48 }
  else if w.started then { w with running := (w.running + k) % 2 ^ 48 } else w

/-- Count `k` occurrences of an event on an object (R575, R581). -/
def count (ev obj k : Nat) (s : State) : State :=
  { s with pmc := { s.pmc with
      cnt := tset s.pmc.cnt ev ((tgetD s.pmc.cnt ev 0 + k) % 2 ^ 48)
      wins := tmap (winCount s ev obj k) s.pmc.wins } }

/-! ### Interrupt vectors and event rings -/

/-- Number of MSI-X vectors of a function: 32 on a PF, 8 on a VF, none on the steward (Table 18.1). -/
def vectorsOf (fn : Nat) : Nat := if fn ≤ 1 then 32 else if fn ≤ 512 then 8 else 0

/-- A word of a function's MSI-X table (R601): an entry is masked until it is unmasked. -/
def msixWord (s : State) (fn v j : Nat) : Nat := tgetD s.hif.msix ((fn * 32 + v) * 4 + j) (if j = 3 then 1 else 0)

/-- A vector sends its message, or sets its pending bit while it is masked. -/
def sendVec (fn v itrUs : Nat) (s : State) : State :=
  let w := tgetD s.vecs (fn * 32 + v) {}
  let u := s.frc + ceilDiv (itrUs * 3125) 2
  let w' : Vec :=
    if bitOf (msixWord s fn v 3) 0 then { w with waiting := false, pend := true }
    else { sent := w.sent + 1, waiting := false, until_ := u, pend := false }
  { s with vecs := tset s.vecs (fn * 32 + v) w' }

/-- A vector's condition arises: one message now, or at the end of the running interval (R511). -/
def raiseVec (fn v itrUs : Nat) (s : State) : State :=
  if v < vectorsOf fn then
    let w := tgetD s.vecs (fn * 32 + v) {}
    if s.frc < w.until_ then { s with vecs := tset s.vecs (fn * 32 + v) { w with waiting := true } } else sendVec fn v itrUs s
  else s

/-- The vector of a function's event ring (R511). -/
def erVector (fn : Nat) : Nat := if fn ≤ 1 then 16 else 4

/-- A DMA of the device: into SHM, or into the host memory of a function while the link is up; otherwise it is discarded and
counted (R491, R516). -/
def dmaWrite (fn a : Nat) (o : Octets) (s : State) : State :=
  if addrIsShm a then s.shmWrite (a % 2 ^ 32) o
  else if s.sh F.HIF_STATUS_LINK_UP == 1 then count Ct.HIF_TX_BYTES fn o.length { s with hostMem := csetAll s.hostMem (hostKey fn a) o }
  else count Ct.HIF_DMA_DISCARD fn 1 s

/-- PHASE of a ring record: 1 on the first pass, alternating at each wrap (R497). -/
def phaseOf (idx size : Nat) : Nat := if idx / size % 2 = 0 then 1 else 0

/-- The 32 octets of an event record (Table 18.10). -/
def eventRecord (phase lostFlag blk bit obj lost frc : Nat) (data : Octets) : Octets :=
  oct [phase + 2 * lostFlag, blk, bit, 0] ++ leBytes 2 obj ++ leBytes 2 lost ++ leBytes 8 frc ++ padTo 16 data

/-- Write one event record to the event ring of a copy, or count it lost (R509, R510). -/
def erWrite (e : EvRef) (tick obj : Nat) (data : Octets) (c : Nat) (s : State) : State :=
  if s.rd c F.HIF_ER_CFG_EN == 0 then s
  else
    let size := 2 ^ s.rd c F.HIF_ER_CFG_LOG2_SIZE
    let wr := s.rd c F.HIF_ER_WR
    if size ≤ wsub 32 wr (s.rd c F.HIF_ER_RD) then
      { (s.wr c F.HIF_ER_LOST (s.rd c F.HIF_ER_LOST + 1)) with erLost := tset s.erLost c (tgetD s.erLost c 0 + 1) }
    else
      let lost := tgetD s.erLost c 0
      let r := eventRecord (phaseOf wr size) (b2n (0 < lost)) e.blk.code e.bit obj (satU 16 lost) tick data
      let a := s.rd64 c F.HIF_ER_BASE_LO F.HIF_ER_BASE_HI + 32 * (wr % size)
      raiseVec (c - 1) (erVector (c - 1)) (s.rd c F.HIF_ER_CFG_ITR_US)
        { ((dmaWrite (c - 1) a r s).wr c F.HIF_ER_WR (wr + 1)) with erLost := tdel s.erLost c }

/-- The function copies whose event ring is enabled. -/
def erCopies (s : State) : List Nat :=
  s.regs.filterMap fun e => if e.1 % 2 ^ 24 = F.HIF_ER_CFG_EN.key 0 ∧ e.2 = 1 then some (e.1 / 2 ^ 24) else none

/-- Is an event's bit 1 in a copy's EVT_EN? -/
def evEnabled (s : State) (c : Nat) (e : EvRef) : Bool := bitOf (s.rd c (evEn e.reg)) e.bit

/-- The EVT_STATUS value of a copy. -/
def State.evStatus (s : State) (c reg : Nat) : Nat := tgetD s.evtOwn (reg * 1024 + c) (tgetD s.evtAll reg 0)

/-- Set an event's flag in one copy. -/
def setFlag (e : EvRef) (c : Nat) (s : State) : State :=
  { s with evtOwn := tset s.evtOwn (e.reg * 1024 + c) (setBitN (s.evStatus c e.reg) e.bit) }

/-- Set an event's flag in every copy. -/
def setFlagAll (e : EvRef) (s : State) : State :=
  { s with
      evtAll := tset s.evtAll e.reg (setBitN (tgetD s.evtAll e.reg 0) e.bit)
      evtOwn := tmap (fun k v => if k / 1024 = e.reg then setBitN v e.bit else v) s.evtOwn }

/-- Write an event's record to the rings of the copies that enable it, among those that `reach` names. -/
def erWriteAll (e : EvRef) (reach : Nat → Bool) (tick obj : Nat) (data : Octets) (s : State) : State :=
  each ((erCopies s).filter fun c => evEnabled s c e && reach (c - 1)) (erWrite e tick obj data) s

/-- An event of a tick that is addressed to every function: one count, every copy's flag, one record for each function that enables
it (R509, R578, R579). -/
def postAt (e : EvRef) (tick obj : Nat) (data : Octets) (s : State) : State :=
  erWriteAll e (fun _ => true) tick obj data (setFlagAll e (count e.ctr obj 1 s))

/-- An event of the current tick, with data. -/
def postD (e : EvRef) (obj : Nat) (data : Octets) (s : State) : State := postAt e s.frc obj data s

/-- An event of the current tick. -/
def post (e : EvRef) (obj : Nat) (s : State) : State := postD e obj [] s

/-- An event that is addressed to the functions that `reach` names. -/
def postReach (e : EvRef) (reach : Nat → Bool) (tick obj : Nat) (data : Octets) (s : State) : State :=
  erWriteAll e reach tick obj data
    (each ((List.range 514).filter reach) (fun fn => setFlag e (fn + 1)) (count e.ctr obj 1 s))

/-- An event that is addressed to one function. -/
def postTo (e : EvRef) (fn obj : Nat) (s : State) : State :=
  let t := setFlag e (fn + 1) (count e.ctr obj 1 s)
  onlyIf (evEnabled t (fn + 1) e) (erWrite e t.frc obj [] (fn + 1)) t

/-- An internal master has met poisoned data: it abandons its item (R468). -/
def poisonUsed (m a : Nat) (s : State) : State :=
  let t := (s.wr 0 F.SHM_ERR_ADDR (a / 32 * 32)).wr 0 F.SHM_ERR_INFO_MASTER m
  post Ev.SHM_POISON_CONSUMED m (((t.wr 0 F.SHM_ERR_INFO_UE 1).wr 0 F.SHM_ERR_INFO_VALID 1).wr 0 F.SHM_ERR_INFO_LANES 0xF)


/-! ### Functions and worlds -/

/-- The tenant of a function (R488). The steward's is 0. -/
def tenantOf (fn : Nat) : Nat := if fn ≤ 1 ∨ fn = 513 then 0 else fn - 1

/-- Lifecycle DEVELOP (KS_LIFECYCLE.STATE 1). -/
def State.develop (s : State) : Bool := s.sh F.KS_LIFECYCLE_STATE == 1

/-- The steward's index (R488). -/
def stewardFn : Nat := 513

/-- The host side of the secure world: FN 1, and FN 0 in lifecycle DEVELOP (R489). -/
def State.secure (s : State) (fn : Nat) : Bool := fn == 1 || (fn == 0 && s.develop)

/-- The secure world and the steward. -/
def State.secureSt (s : State) (fn : Nat) : Bool := s.secure fn || fn == stewardFn

/-- A function of tenant 0 or the steward. -/
def tenant0 (fn : Nat) : Bool := fn ≤ 1 || fn == stewardFn

/-! ### Doors, the safe state and completions -/

/-- The device is in the safe state (R572). -/
def State.safe (s : State) : Bool := s.sh F.FLT_STATUS_SAFE == 1

/-- A block's door is OPEN: Proofing is done (Table 20.3, step 7) and no block reset or gate holds it (R34). -/
def State.doorOpen (s : State) (b : Blk) : Bool :=
  s.sh F.RST_STATUS_PROOF_DONE == 1 && s.sh (F.FLT_BLK_STATUS_DOOR b.code) == 0

/-- Door generation (R33). -/
def State.gen (s : State) (b : Blk) : Nat := s.sh (F.FLT_BLK_STATUS_GEN b.code)

namespace Code
def ok : Nat := 0
def deferred : Nat := 1
def refused : Nat := 2
def blockAbsent : Nat := 3
def aborted : Nat := 4
def staleGen : Nat := 5
def uninit : Nat := 6
def poisoned : Nat := 7
def discarded : Nat := 8
end Code

/-- Note the tick at which the command of a ring's instance completed (R504). -/
def noteDone (c : Nat) (s : State) : State :=
  if c < 1024 then s else { s with hif := { s.hif with doneAt := tset s.hif.doneAt c s.frc } }

/-- Write a command's completion into its window (R505): code, BUSY 0, and the cause where the block has one. -/
def complete (st : StatRef) (w : Win) (code cause : Nat) (s : State) : State :=
  let t := noteDone w.c ((s.wr w.c st.code code).wr w.c st.busy 0)
  match st.cause with
  | some f => t.wr w.c f cause
  | none => t

def completeOk (st : StatRef) (w : Win) (s : State) : State := complete st w Code.ok 0 s
def refuse (st : StatRef) (w : Win) (cause : Nat) (s : State) : State := complete st w Code.refused cause s

/-- A restructure holds a block against the functions' writes and commands (R534). -/
def State.rsHolds (s : State) (b : Blk) (fn : Nat) : Bool := s.stw.busy.contains b.code && fn != stewardFn

/-- From the acceptance of a restructure to its tick, arms and aborts of the groups that its image writes are refused (R533). -/
def State.rsHoldsGroup (s : State) (g : Nat) : Bool :=
  (s.sh F.STW_STATUS_RS_STATE == 1 || s.sh F.STW_STATUS_RS_STATE == 2) && ((s.stw.rs.map fun r => r.groups.contains g).getD false)

/-- A write to a command register: discarded with CMD_OVERRUN while BUSY is 1, REFUSED in the safe state (R572), BLOCK_ABSENT at a
door that is not OPEN (R34, R608), and otherwise accepted. -/
def command (b : Blk) (st : StatRef) (overrun : EvRef) (w : Win) (body : State → State) (s : State) : State :=
  if s.rd w.c st.busy == 1 then (if s.safe then s else postTo overrun w.fn 0 s)
  else if s.safe || s.rsHolds b w.fn then refuse st w 0 s
  else if !s.doorOpen b then complete st w Code.blockAbsent 0 s
  else body s

/-- Leave a command in progress: BUSY 1 and an entry in the door's list of accepted requests. -/
def accept (b : Blk) (st : StatRef) (w : Win) (op obj : Nat) (s : State) : State :=
  let t := s.wr w.c st.busy 1
  { t with reqs := t.reqs ++ [⟨b, w, st, op, obj, t.gen b, t.sh F.HIF_EPOCH⟩] }

/-- Complete the accepted requests of a block that match operation and object. -/
def finish (b : Blk) (op obj code cause : Nat) (s : State) : State :=
  let hit : Req → Bool := fun r => r.blk == b && r.op == op && r.obj == obj
  each (s.reqs.filter hit) (fun r => complete r.stat r.win code cause) { s with reqs := s.reqs.filter fun r => !hit r }

/-- Record an access that failed (R492, R607, R608) in the function's HIF_ACC registers. -/
def accFail (fn code addr : Nat) (s : State) : State :=
  ((s.wr (fn + 1) F.HIF_ACC_STATUS code).wr (fn + 1) F.HIF_ACC_ADDR_LO addr).wr (fn + 1) F.HIF_ACC_ADDR_HI (addr / 2 ^ 32)

/-! ### Commit groups (R25 to R28) -/

/-- Is a commit group armed? -/
def State.armed (s : State) (g : Nat) : Bool := (tget s.cgs g).isSome

/-- Discard the shadows of a list of SH fields: reads return the value in effect (R10). -/
def dropShadows (fs : List FieldRef) (s : State) : State := each fs (fun f t => t.wr 0 f (t.ef f)) s

/-- Make the shadows of a list of SH fields take effect (R27). -/
def commitShadows (fs : List FieldRef) (s : State) : State := each fs (fun f t => t.wrEff f (t.sh f)) s

/-- The SH fields of CG0 (R63, R87). -/
def cg0Fields : List FieldRef :=
  [F.TB_VC0_RATE_LO, F.TB_VC0_RATE_HI, F.BND_REF_LO, F.BND_REF_HI, F.BND_SRV_LO, F.BND_SRV_HI, F.BND_AGE_FRC_LO, F.BND_AGE_FRC_HI,
   F.BND_AGE_Y_LO, F.BND_AGE_Y_HI, F.BND_AGE_A, F.BND_MARGIN]

/-- Set or replace the arm of a group (R28). -/
def setArm (g : Nat) (a : CgArm) (s : State) : State := { s with cgs := tset s.cgs g a }

/-- Discard the arm of a group. -/
def dropArm (g : Nat) (s : State) : State := { s with cgs := tdel s.cgs g }

/-- The keys of the shadows pending in a group. -/
def groupKeys (s : State) (g : Nat) : List Nat := (s.out.shadows.filter fun e => e.2 == g).map (·.1)

/-- A shadow is discarded. -/
def dropKey (k : Nat) (s : State) : State :=
  { s with
      regs := match tget s.eff k with
        | some v => tset s.regs k v
        | none => tdel s.regs k
      out := { s.out with shadows := tdel s.out.shadows k } }

/-- Discard a group's shadows and its arm. -/
def cgDrop (g : Nat) (s : State) : State :=
  ((dropArm g (each (groupKeys s g) dropKey s)).wr 0 (F.SYN_CG_CTRL_ARM g) 0).wr 0 (F.SYN_CG_CTRL_ARMED g) 0

end Sys2Proof.Machine
end

