-- ==== Sys2Proof/Machine/Vclock.lean ====
section
/-! DEFINITION. The arithmetic of the virtual clocks (R48 to R54, R74) and of the error bound (R84 to R87). -/

namespace Sys2Proof.Machine

/-! ### Rounding -/

/-- The mean of a list, 0 of an empty one. -/
def meanR (l : List Rat) : Rat := if l.isEmpty then 0 else l.sum / l.length

/-- Nearest integer, halves away from zero (R638). -/
def roundR (x : Rat) : Int := if 0 ≤ x then ⌊x + 1 / 2⌋ else -⌊-x + 1 / 2⌋

/-! ### Virtual-clock time -/

/-- The record of a clock. -/
def State.vc (s : State) (n : Nat) : Vc := tgetD s.tb.vcs n (Vc.init n)

def State.setVc (n : Nat) (v : Vc) (s : State) : State := { s with tb := { s.tb with vcs := tset s.tb.vcs n v } }

/-- r + s, held to the s48 range (R50). -/
def VcPar.rate (p : VcPar) : Int := satS 48 (p.r + p.s)

/-- Is r + s outside the s48 range (R50)? -/
def VcPar.rateSat (p : VcPar) : Bool := satS 48 (p.r + p.s) != p.r + p.s

/-- D(P, S) of R49: the part of an amount that a slope has delivered after E. -/
def slewD (e p s : Int) : Int := if 0 ≤ p then min p (e * s / 2 ^ 60) else -min (-p) (e * s / 2 ^ 60)

/-- E of R49: elapsed time of the parent since the base, in units of 2^-48 ns. A stamp is given in units of 1/32 tick (R46). -/
def VcPar.elapsed (p : VcPar) (x32 : Nat) (t0 : Int) : Int :=
  if p.parentVc0 then t0 - p.a else ((x32 : Int) - 32 * (p.f : Int)) * 2 ^ 48 / 50

/-- t of R49, given E. -/
def VcPar.timeE (p : VcPar) (e : Int) : Int := p.b + e + e * p.rate / 2 ^ 60 + slewD e p.pAdj p.sAdj + slewD e p.pRamp p.sRamp

/-- t of R49. -/
def VcPar.time (p : VcPar) (x32 : Nat) (t0 : Int) : Int := p.timeE (p.elapsed x32 t0)

/-- The parameter set in effect at a stamp's tick (R51, R127). -/
def Vc.parAt (v : Vc) (x32 : Nat) : VcPar :=
  ((v.par :: v.prev).find? fun p => decide (32 * p.f ≤ x32)).getD (v.prev.getLast?.getD v.par)

/-- The sets kept when a clock's parameters change at a tick: the last 64 (R51, R127). -/
def keepPar (v : Vc) (c : Nat) : List VcPar := if v.par.f = c then v.prev else (v.par :: v.prev).take 64

/-- VC0's time at a stamp. -/
def vc0Time (s : State) (x32 : Nat) : Int := ((s.vc 0).parAt x32).time x32 0

/-- The time of clock n at a stamp, in units of 2^-48 ns (R49). -/
def vcTime (s : State) (n x32 : Nat) : Int :=
  if n = 0 then vc0Time s x32 else ((s.vc n).parAt x32).time x32 (vc0Time s x32)

/-- The time of a parent (R58): FRC from 0, or VC0. -/
def parentTime (s : State) (vc0 : Bool) (x32 : Nat) : Int := if vc0 then vc0Time s x32 else (x32 : Int) * 2 ^ 48 / 50

/-! ### Formats -/

/-- A linear count of 2^-16 ns as a T96 (R15). -/
def t96OfLin (v : Int) : Nat :=
  let ns := v / 65536
  uns 48 (ns / 1000000000) * 2 ^ 48 + (ns % 1000000000).toNat * 2 ^ 16 + (v % 65536).toNat

/-- The linear count of 2^-16 ns of a T96. -/
def linOfT96 (t : Nat) : Nat := (t / 2 ^ 48 * 1000000000 + bits t 16 32) * 65536 + t % 65536

/-- A T96's nanosecond field is at most 999,999,999 (R16). -/
def t96Valid (t : Nat) : Bool := decide (bits t 16 32 ≤ 999999999)

/-- A time in units of 2^-48 ns, truncated to 2^-16 ns. -/
def lin16 (t : Int) : Int := t / 2 ^ 32

/-- A time as a T96. -/
def t96 (t : Int) : Nat := t96OfLin (lin16 t)

/-- A time as a TS48 (R74). -/
def ts48 (t : Int) : Nat := uns 48 (lin16 t)

/-- One second in units of 2^-48 ns. -/
def secU : Int := 1000000000 * 2 ^ 48

/-! ### Rebase -/

/-- The slope of a slewed step (R65). -/
def slewSlope (ppb : Nat) : Int := roundDiv ((ppb * 2 ^ 60 : Nat) : Int) 1000000000

/-- S of a LEAP segment: the smallest whole second greater than the clock's time at the tick before its armed tick (Table 2.3). -/
def leapSecondOf (s : State) (n : Nat) (x : VcSlot) : Int := x.sec.getD ((vcTime s n (32 * (x.tick - 1)) / secU + 1) * secU)

/-- The slots of a clock before it, or its parent, is rebased at a tick: a LEAP segment whose armed tick has come keeps its S. -/
def noteLeaps (s : State) (n c : Nat) (l : Tbl VcSlot) : Tbl VcSlot :=
  tmap (fun _ x => if x.kind = 2 ∧ x.state = 1 ∧ x.tick ≤ c then { x with sec := some (leapSecondOf s n x) } else x) l

/-- The clocks whose parent is VC0, before VC0 is rebased. -/
def childLeaps (n c : Nat) (s : State) : State :=
  if n = 0 then
    { s with tb := { s.tb with vcs := tmap (fun m v => if v.par.parentVc0 then { v with slots := noteLeaps s m c v.slots } else v) s.tb.vcs } }
  else s

/-- The clock rebased at a tick (R54): its time at the tick is unchanged. The set before the tick is kept (R51), and the slope of a
slewed step takes SLEW_MAX_PPB (R65, R66). -/
def rebase (s : State) (n c : Nat) : Vc :=
  let v := s.vc n
  let p := v.par
  let t0 := vc0Time s (32 * c)
  let e := p.elapsed (32 * c) t0
  { v with
      slots := noteLeaps s n c v.slots
      prev := keepPar v c
      par := { p with
        b := p.timeE e, f := c, a := if p.parentVc0 then t0 else 0
        pAdj := p.pAdj - slewD e p.pAdj p.sAdj
        pRamp := p.pRamp - slewD e p.pRamp p.sRamp
        sAdj := slewSlope v.slewMax, adjPpb := v.slewMax } }

/-- A clock that enters UNSET at a tick (R57): T96 zero, r 0, no schedule, no slew. Its configuration stays. -/
def unsetVc (v : Vc) (n c : Nat) (t0 : Int) : Vc :=
  { Vc.init n with
      state := .unset
      par := { parentVc0 := v.par.parentVc0, f := c, a := if v.par.parentVc0 then t0 else 0, adjPpb := v.slewMax }
      prev := keepPar v c
      pendParent := v.pendParent
      slots := tmap (fun _ sl => { sl with state := 0 }) v.slots
      owner := v.owner, stepAuto := v.stepAuto, slewMax := v.slewMax, adjLimit := v.adjLimit }

/-- TB_STATUS follows the clocks (Table 2.8). -/
def vcCode : VcState → Nat
  | .unset => 0
  | .setPending => 1
  | .ratified => 2

def syncTb (s : State) : State :=
  (s.wr 0 F.TB_STATUS_VC0_STATE (vcCode (s.vc 0).state)).wr 0 F.TB_STATUS_RATIFIED_COUNT
    (s.tb.vcs.filter fun e => e.2.state == .ratified).length

/-! ### The error bound -/

/-- The bound that asserts nothing (R18). -/
def notBounded : Nat := 0xFFFFFFFFFF

/-- The CG0 terms in effect. -/
def bndNow (s : State) : BndTerms :=
  { tRef := s.ef F.BND_REF_LO + 2 ^ 32 * s.ef F.BND_REF_HI
    tSrv := s.ef F.BND_SRV_LO + 2 ^ 32 * s.ef F.BND_SRV_HI
    fAge := s.ef F.BND_AGE_FRC_LO + 2 ^ 32 * s.ef F.BND_AGE_FRC_HI
    y := s.ef F.BND_AGE_Y_LO + 2 ^ 32 * s.ef F.BND_AGE_Y_HI
    a := s.ef F.BND_AGE_A
    m := s.ef F.BND_MARGIN }

/-- The terms in effect at a tick (R87). -/
def bndAt (s : State) (f : Nat) : BndTerms :=
  match s.bnd.prev with
  | some (c, t) => if f < c then t else bndNow s
  | none => bndNow s

/-- AGE(τ) of R84 for an age in ticks, in units of 2^-8 ns, rounded up. -/
def ageUnits (t : BndTerms) (d : Nat) : Nat :=
  ceilDiv (t.m * (t.y * 16 * d * 2 ^ 13 * 1000000000 * 25 + t.a * 256 * d * d)) (625 * 2 ^ 73 * 1000000000)

/-- VC0's slewed step not yet delivered at a tick, in units of 2^-8 ns, rounded up (R84). -/
def padjUnits (s : State) (f : Nat) : Nat :=
  let p := (s.vc 0).parAt (32 * f)
  let left := p.pAdj - slewD (p.elapsed (32 * f) 0) p.pAdj p.sAdj
  ceilDiv left.natAbs (2 ^ 40)

/-- CAL_AGE_MS of a point at a tick (Table 3.12). -/
def calAgeMs (s : State) (p f : Nat) : Nat :=
  match tget s.bnd.calAt p with
  | some c => min ((f - c) / 1562500) 0xFFFFFFFF
  | none => 0xFFFFFFFF

/-- Is a point stale at a tick (R89)? Points 0 and 23 never are. -/
def pathStale (s : State) (p f : Nat) : Bool := p != 0 && p != 23 && decide (25000 < calAgeMs s p f)

/-- T_PATH(p) at a tick; none where a marker says not bounded (R84, R86, R89). -/
def pathTerm (s : State) (p f : Nat) : Option Nat :=
  if p = 0 then some 0
  else if pathStale s p f then
    let u := s.sh (F.BND_PATH_STALE_STALE_UNC p)
    if u = 0xFFFF then none else some u
  else
    let c := if p = 23 then 0 else s.sh (F.BND_PATH_CAL p)
    if c = 0xFFFF then none
    else some (c + s.sh (F.BND_PATH_BOARD_BOARD_UNC p) + s.sh (F.BND_PATH_BOARD_ASYM_UNC p))

/-- Does the age pass BND_AGE_MAX at a tick (R86)? -/
def ageExpired (s : State) (f : Nat) : Bool :=
  decide (s.sh F.BND_AGE_MAX * 25 * 1000000000 < (f - (bndAt s f).fAge) * 16)

/-- The sum of R84 before saturation; none where R86 names a case other than saturation. -/
def boundSum (s : State) (f p q : Nat) : Option Nat :=
  let t := bndAt s f
  if t.tRef = notBounded ∨ t.tSrv = notBounded ∨ ageExpired s f ∨ (s.vc 0).state ≠ .ratified then none
  else (pathTerm s p f).map fun path => t.tRef + t.tSrv + ageUnits t (f - t.fAge) + padjUnits s f + path + q

/-- b0(f, p) of R84 and R86. -/
def bound0 (s : State) (f p q : Nat) : Nat :=
  match boundSum s f p q with
  | some b => if b ≤ 0xFFFFFFFFFE then b else notBounded
  | none => notBounded

/-- The bound of clock n at a tick and a point (R84 to R86). -/
def bound (s : State) (n f p q : Nat) : Nat :=
  if n = 0 then bound0 s f p q
  else if (s.vc n).state ≠ .ratified ∨ !(s.vc n).par.parentVc0 then notBounded
  else
    let x := s.sh (F.BND_VC_EXTRA n)
    if x = 0xFFFFFFFF then notBounded
    else match boundSum s f p q with
      | some b => if b + x + 1 ≤ 0xFFFFFFFFFE then b + x + 1 else notBounded
      | none => notBounded

/-- Q of R84: 6 for a stamp of a serving port, 3 for another interpolated stamp, 1 for a value computed at a tick. -/
def qPort : Nat := 6
def qStamp : Nat := 3
def qTick : Nat := 1

/-- BND_STATUS follows the bound at the current tick; UNBOUNDED is posted when b0 at point 0 stops being finite, AGE_EXPIRED when
τ passes BND_AGE_MAX (Tables 3.8, 3.9). -/
def syncBound (s : State) : State :=
  let b := bound0 s s.frc 0 qTick
  let fin := b2n (b != notBounded)
  let was := s.sh F.BND_STATUS_BOUNDED
  let sat := match boundSum s s.frc 0 qTick with
    | some x => b2n (decide (0xFFFFFFFFFE < x))
    | none => 0
  let t := ((s.wr 0 F.BND_STATUS_BOUNDED fin).wr 0 F.BND_STATUS_SAT sat).wr 0 F.BND_STATUS_AGE_EXPIRED (b2n (ageExpired s s.frc))
  let t := onlyIf (ageExpired s s.frc && s.sh F.BND_STATUS_AGE_EXPIRED == 0) (post Ev.BND_AGE_EXPIRED 0) t
  onlyIf (was == 1 && fin == 0) (post Ev.BND_UNBOUNDED 0) t

end Sys2Proof.Machine
end

