-- ==== Sys2Proof/Machine/KsCore.lean ====
section
/-! DEFINITION. Attribute records, key delivery, and what a revocation does to the keys that the security engines hold (R438, R443 to R445, R356). -/

namespace Sys2Proof.Machine

/-! ### Slots (Table 16.3) -/

def State.ksSlot (s : State) (n : Nat) : KsSlot := tgetD s.ks.slots n {}

def attrType (a : Octets) : Nat := byteAt a 0
def attrLen (a : Octets) : Nat := byteAt a 1
def attrUsage (a : Octets) : Nat := ofLe (slice a 2 2)
def attrMasters (a : Octets) : Nat := byteAt a 4
def attrFlags (a : Octets) : Nat := byteAt a 5
def attrWorld (a : Octets) : Bool := bitOf (attrFlags a) 0
def attrMeasBind (a : Octets) : Bool := bitOf (attrFlags a) 1
def attrPersist (a : Octets) : Bool := bitOf (attrFlags a) 2
def attrExpired (a : Octets) : Bool := bitOf (attrFlags a) 3
def attrTenant (a : Octets) : Nat := ofLe (slice a 6 2) % 512
def attrLife (a : Octets) : Nat := byteAt a 8
def attrExpiry (a : Octets) : Nat := ofLe (slice a 9 6)
def attrOrigin (a : Octets) : Nat := byteAt a 16
def attrVersion (a : Octets) : Nat := ofLe (slice a 20 4)

/-- The device is treated as BLANK (R438). -/
def asBlank (s : State) : Bool :=
  let l := s.sh F.KS_LIFECYCLE_STATE
  l == 0 || l == 3 || s.ks.root.isNone || s.ks.zeroised

/-- Is the current lifecycle's bit set in LIFEMASK? -/
def lifeOk (s : State) (a : Octets) : Bool :=
  match s.sh F.KS_LIFECYCLE_STATE with
  | 1 => bitOf (attrLife a) 0
  | 2 => bitOf (attrLife a) 1
  | _ => false

/-- Masters of Table 16.3 by bit, and usages by bit. -/
def masterGh : Nat := 0
def masterSiv : Nat := 1
def masterSteward : Nat := 2
def masterKs : Nat := 3
def usageGmac : Nat := 0
def usageHmac : Nat := 1
def usageNts : Nat := 2
def usageSteward : Nat := 4

/-- The key that a master receives of a slot, for a usage and for an SA or entry of a tenant (R444); none where a check fails. -/
def ksDeliver (s : State) (slot master usage tenant : Nat) : Option Nat :=
  let x := s.ksSlot slot
  let a := x.attr
  if asBlank s || !s.doorOpen .ks || attrType a == 0 || attrExpired a || !bitOf (attrMasters a) master || !bitOf (attrUsage a) usage ||
      !lifeOk s a || (attrWorld a && attrTenant a != tenant) then none
  else some x.key

/-! ### The keys of the security engines -/

def State.sa (s : State) (n : Nat) : SaEnt := tgetD s.sec.sas n {}
def State.setSa (n : Nat) (x : SaEnt) (s : State) : State := { s with sec := { s.sec with sas := tset s.sec.sas n x } }
def State.setNts (n : Nat) (x : NtsEnt) (s : State) : State := { s with sec := { s.sec with nts := tset s.sec.nts n x } }

/-- The usage and the key length of an ALG (R338, R444). -/
def algUsage (alg : Nat) : Nat := if alg = 2 then usageHmac else usageGmac
def algLen (alg : Nat) : Nat := if alg = 0 then 16 else 32

/-- A half that loses its key if a test holds of it. -/
def loseHalf (p : SaHalf → Bool) (h : Option SaHalf) : Option SaHalf :=
  h.map fun x => if !x.lost && p x then { x with lost := true, key := 0 } else x

/-- Halves and master entries whose slot a test names lose their keys: KEY_LOST (R356). -/
def loseKeys (p : Nat → Bool) (s : State) : State :=
  let hit : Option SaHalf → Bool := fun h => (h.map fun x => !x.lost && p x.slot).getD false
  let t := each (s.sec.sas.filter fun e => hit e.2.a || hit e.2.b) (fun e t =>
    post Ev.SEC_KEY_LOST e.1 (t.setSa e.1 { e.2 with a := loseHalf (fun x => p x.slot) e.2.a, b := loseHalf (fun x => p x.slot) e.2.b, lost := true })) s
  each (t.sec.nts.filter fun e => !e.2.lost && p e.2.slot) (fun e t =>
    post Ev.SEC_KEY_LOST e.1 (t.setNts e.1 { e.2 with lost := true, key := 0 })) t

/-- The engines reload every loaded key before the SEC's door reopens; a reload that fails loses the key (R357). -/
def secReload (s : State) : State :=
  let bad : SaEnt → Option SaHalf → Bool := fun e h => match h with
    | some x => !x.lost && (ksDeliver s x.slot masterGh (algUsage e.alg) e.tenant).isNone
    | none => false
  let t := each (s.sec.sas.filter fun e => bad e.2 e.2.a || bad e.2 e.2.b) (fun e t =>
    post Ev.SEC_KEY_LOST e.1 (t.setSa e.1 { e.2 with
      a := loseHalf (fun x => bad e.2 (some x)) e.2.a, b := loseHalf (fun x => bad e.2 (some x)) e.2.b, lost := true })) s
  each (t.sec.nts.filter fun e => !e.2.lost && (ksDeliver s e.2.slot masterSiv usageNts e.2.owner).isNone) (fun e t =>
    post Ev.SEC_KEY_LOST e.1 (t.setNts e.1 { e.2 with lost := true, key := 0 })) t

end Sys2Proof.Machine
end

