-- ==== Sys2Proof/Machine/Policing.lean ====
section
/-! DEFINITION. Ingress policers: metering, and the commands of the POL window (R379 to R383, R388 to R390). -/

namespace Sys2Proof.Machine

def State.policer (s : State) (n : Nat) : Policer := tgetD s.pol.pols n {}

/-- ENABLED counts the policers with EN 1. -/
def State.setPolicer (n : Nat) (p : Policer) (s : State) : State :=
  let t := { s with pol := { s.pol with pols := tset s.pol.pols n p } }
  t.wr 0 F.POL_STATUS (t.pol.pols.filter fun e => e.2.en).length

/-! ### Metering -/

/-- A token in the units of a bucket. -/
def token : Nat := 2 ^ 24

/-- Tokens in 2^-24 token that a rate adds in some ticks, with the residue carried: 16 × 0.64 ns × 2^24 = 8,388,608 / 48,828,125 (R381). -/
def refillOf (rate ticks res : Nat) : Nat × Nat :=
  let x := rate * ticks * 8388608 + res
  (x / 48828125, x % 48828125)

/-- Refill at a tick (R381). -/
def Policer.refill (p : Policer) (f : Nat) : Policer :=
  let c := refillOf p.cir (f - p.at_) p.resC
  let tc := p.tc + c.1
  let full := p.cbs * token
  let q := { p with tc := min tc full, resC := c.2, at_ := f }
  if p.mode = 0 then { q with te := min (p.te + (tc - full)) (p.ebs * token) }
  else
    let r := refillOf p.pir (f - p.at_) p.resP
    { q with te := min (p.te + r.1) (p.ebs * token), resP := r.2 }

/-- Every bucket full at a tick. -/
def Policer.fill (p : Policer) (f : Nat) : Policer := { p with tc := p.cbs * token, te := p.ebs * token, at_ := f }

/-- B of R380. -/
def Policer.tokens (p : Policer) (len : Nat) : Nat := if p.unit = 1 then 1 else (max 1 ((len : Int) + p.ovh)).toNat

/-- The colour of a frame (0 green, 1 yellow, 2 red) and the buckets after it (R380). -/
def Policer.meter (p : Policer) (b : Nat) : Nat × Policer :=
  let n := b * token
  if p.mode = 0 then
    if n ≤ p.tc then (0, { p with tc := p.tc - n })
    else if n ≤ p.te then (1, { p with te := p.te - n })
    else (2, p)
  else if p.te < n then (2, p)
  else if p.tc < n then (1, { p with te := p.te - n })
  else (0, { p with tc := p.tc - n, te := p.te - n })

/-- The counter of a colour. -/
def Policer.counted (p : Policer) (c : Nat) : Policer :=
  if c = 0 then { p with green := (p.green + 1) % 2 ^ 32 }
  else if c = 1 then { p with yellow := (p.yellow + 1) % 2 ^ 32 }
  else { p with red := (p.red + 1) % 2 ^ 32 }

/-- RED_DROP, to those who may read the policer, at most once per ms (Table 13.13). -/
def redDrop (n owner : Nat) (s : State) : State :=
  if (tget s.pol.redAt owner).any fun t => decide (s.frc < t + ticksOfMs 1) then s
  else
    postReach Ev.POL_RED_DROP (fun fn => s.secureSt fn || tenantOf fn == owner) s.frc n []
      { s with pol := { s.pol with redAt := tset s.pol.redAt owner s.frc } }

/-- Meter a frame of a length at the current tick: its colour (R379, R380, R388). -/
def polMeter (n len : Nat) (s : State) : Nat × State :=
  if !s.doorOpen .pol then (1, s)
  else
    let p := s.policer n
    let r := if p.en then (p.refill s.frc).meter (p.tokens len) else (0, p)
    let t := count (if r.1 = 0 then Ct.POL_GREEN else if r.1 = 1 then Ct.POL_YELLOW else Ct.POL_RED) n 1 (s.setPolicer n (r.2.counted r.1))
    (r.1, if r.1 = 2 then redDrop n p.owner t else t)

/-- At the reopening of the POL door every enabled policer's buckets are full (R388). -/
def polReopen (s : State) : State :=
  { s with pol := { s.pol with pols := tmap (fun _ p => if p.en then p.fill s.frc else p) s.pol.pols } }

/-! ### Commands -/

def stPol : StatRef := ⟨F.POL_CMD_STATUS_CODE, F.POL_CMD_STATUS_BUSY, none⟩

/-- A write to POL_CMD (R389, R390). -/
def polCommand (w : Win) (read : Bool) (body : Nat → State → State) (s : State) : State :=
  command .pol stPol Ev.POL_CMD_OVERRUN w (fun s =>
    let n := s.rd w.c F.POL_SEL
    if s.secureSt w.fn || (read && tenantOf w.fn == (s.policer n).owner) then body n s else refuse stPol w 0 s) s

/-- WRITE: the buckets keep their contents, held to the new sizes; EN from 0 to 1 fills them (R383). -/
def opPolWrite (w : Win) (s : State) : State :=
  polCommand w false (fun n s =>
    let p := s.policer n
    let cbs := s.rd w.c F.POL_CBS
    let ebs := s.rd w.c F.POL_EBS_PBS
    let q : Policer := { p with
      en := s.rd w.c F.POL_CFG_EN == 1, mode := s.rd w.c F.POL_CFG_MODE, unit := s.rd w.c F.POL_CFG_UNIT, ovh := sgn 8 (s.rd w.c F.POL_CFG_OVH)
      owner := s.rd w.c F.POL_CFG_OWNER, cir := s.rd w.c F.POL_CIR, cbs := cbs, pir := s.rd w.c F.POL_PIR, ebs := ebs
      tc := min p.tc (cbs * token), te := min p.te (ebs * token) }
    completeOk stPol w (s.setPolicer n (if q.en && !p.en then q.fill s.frc else q))) s

/-- POL_WRITE. -/
def execPolWrite (fn : Fn) (s : State) : Host.Outcome State Fault Refusal := .next (opPolWrite ⟨fn.val, fn.val + 1⟩ s)

/-- READ latches configuration, tokens and counters (Table 13.13). -/
def opPolRead (w : Win) (s : State) : State :=
  polCommand w true (fun n s =>
    let p := s.policer n
    let t := ((s.wr w.c F.POL_CFG_EN (b2n p.en)).wr w.c F.POL_CFG_MODE p.mode).wr w.c F.POL_CFG_UNIT p.unit
    let t := ((t.wr w.c F.POL_CFG_OVH (uns 8 p.ovh)).wr w.c F.POL_CFG_OWNER p.owner).wr w.c F.POL_CIR p.cir
    let t := ((t.wr w.c F.POL_CBS p.cbs).wr w.c F.POL_PIR p.pir).wr w.c F.POL_EBS_PBS p.ebs
    let t := (t.wr w.c F.POL_TOKENS0 (p.tc / token)).wr w.c F.POL_TOKENS1 (p.te / token)
    completeOk stPol w (((t.wr w.c F.POL_CNT_GREEN p.green).wr w.c F.POL_CNT_YELLOW p.yellow).wr w.c F.POL_CNT_RED p.red)) s

/-- POL_READ. -/
def execPolRead (fn : Fn) (s : State) : Host.Outcome State Fault Refusal := .next (opPolRead ⟨fn.val, fn.val + 1⟩ s)

/-- REFILL (R383). -/
def opPolRefill (w : Win) (s : State) : State :=
  polCommand w false (fun n s => completeOk stPol w (s.setPolicer n ((s.policer n).fill s.frc))) s

/-- POL_REFILL. -/
def execPolRefill (fn : Fn) (s : State) : Host.Outcome State Fault Refusal := .next (opPolRefill ⟨fn.val, fn.val + 1⟩ s)

/-- CLEAR_COUNTS (R383). -/
def opPolClearCounts (w : Win) (s : State) : State :=
  polCommand w false (fun n s => completeOk stPol w (s.setPolicer n { s.policer n with green := 0, yellow := 0, red := 0 })) s

/-- POL_CLEAR_COUNTS. -/
def execPolClearCounts (fn : Fn) (s : State) : Host.Outcome State Fault Refusal := .next (opPolClearCounts ⟨fn.val, fn.val + 1⟩ s)

end Sys2Proof.Machine
end

