-- ==== Sys2Proof/Machine/Points.lean ====
section
/-! DEFINITION. The requests of the calibration engine and the links of the calibrated points (R210). -/

namespace Sys2Proof.Machine

/-- The next request in the order of R210: point and class (0 link-up, 1 command, 2 periodic). -/
def nextCal (s : State) : Option (Nat × Nat) :=
  let low : List Nat → Option Nat := fun l => l.foldl (fun b p => match b with
    | none => some p
    | some q => some (min p q)) none
  match low s.tdc.reqLink with
  | some p => some (p, 0)
  | none => match s.tdc.reqCmd.head? with
    | some p => some (p, 1)
    | none => (low s.tdc.reqPer).map fun p => (p, 2)

/-- Start the next calibration where the engine is idle. A command for a point whose link is down completes without sampling. -/
def startCal (s : State) : State :=
  if s.tdc.running.isSome || !s.doorOpen .tdc then s
  else
    let s := { s with tdc := { s.tdc with reqCmd := s.tdc.reqCmd.filter fun p => s.tdc.linkUp.contains p } }
    match nextCal s with
    | none => (s.wr 0 F.TDC_STATUS_CAL_BUSY 0).wr 0 F.TDC_STATUS_CAL_POINT 0
    | some (p, k) =>
      let t := { s with tdc := { s.tdc with
        running := some (p, k)
        reqLink := if k = 0 then s.tdc.reqLink.erase p else s.tdc.reqLink
        reqCmd := if k = 1 then s.tdc.reqCmd.erase p else s.tdc.reqCmd
        reqPer := if k = 2 then s.tdc.reqPer.erase p else s.tdc.reqPer } }
      (t.wr 0 F.TDC_STATUS_CAL_BUSY 1).wr 0 F.TDC_STATUS_CAL_POINT p

/-- A calibrated point's link comes up (R210). -/
def calLinkUp (p : Nat) (s : State) : State :=
  startCal { s with tdc := { s.tdc with linkUp := if s.tdc.linkUp.contains p then s.tdc.linkUp else s.tdc.linkUp ++ [p]
                                        reqLink := if s.tdc.reqLink.contains p then s.tdc.reqLink else s.tdc.reqLink ++ [p] } }

/-- A calibrated point's link goes down: CAL_UNC is "not bounded", and a calibration of it is abandoned (R210). -/
def calLinkDown (p : Nat) (s : State) : State :=
  let mine := (s.tdc.running.map (·.1)) == some p
  let t := { s with tdc := { s.tdc with
    linkUp := s.tdc.linkUp.filter (· != p), reqLink := s.tdc.reqLink.filter (· != p), reqPer := s.tdc.reqPer.filter (· != p)
    running := if mine then none else s.tdc.running, calAt := tdel s.tdc.calAt p } }
  let t := (t.wr 0 (F.TDC_CAL_INFO_VALID p) 0).wr 0 (F.BND_PATH_CAL p) 0xFFFF
  startCal (syncBound t)

end Sys2Proof.Machine
end

