-- ==== Sys2Proof/Machine/RefCore.lean ====
section
/-! DEFINITION. Reference slots, ranks and selection: what a change of a slot does (chapter "References, Quality Levels and Selection", R98 to
R109, R116 to R123). -/

namespace Sys2Proof.Machine

/-! ### Slots -/

def State.slot (s : State) (n : Nat) : RefSlot := tgetD s.refs.slots n {}
def State.setSlot (n : Nat) (r : RefSlot) (s : State) : State := { s with refs := { s.refs with slots := tset s.refs.slots n r } }
def State.sel (s : State) (i : Nat) : RefSel := tgetD s.refs.sels i {}
def State.setSel (i : Nat) (r : RefSel) (s : State) : State := { s with refs := { s.refs with sels := tset s.refs.sels i r } }

/-- Slot states (Table 4.12). -/
def stDISABLED : Nat := 0
def stNOSIG : Nat := 1
def stQUALIFYING : Nat := 2
def stQUALIFIED : Nat := 3
def stSUSPECT : Nat := 4
def stDISQ : Nat := 5

def slotState (s : State) (n : Nat) : Nat := s.sh (F.REF_STATE_STATE n)

/-- REFIN pins and ATOM_IN: quality from QR_OVR alone (Table 4.1, R109). -/
def pinSlot (n : Nat) : Bool := n < 8 || n == 28
/-- Slots with an event stream: GNSS, PTP, Ubwick upstream, mate. -/
def eventSlot (n : Nat) : Bool := decide (24 ≤ n) && decide (n ≤ 27)

/-- K of R101: every Kth edge is stamped. -/
def slotK (s : State) (n : Nat) : Nat :=
  let f := s.sh (F.REF_NOMINAL n)
  if 1000 < f then ceilDiv f 1000 else 1

/-- The capability bits of a slot: FREQ, PHASE, TIME (Table 4.1, R99, R100). -/
def slotCap (s : State) (n : Nat) : Nat :=
  if eventSlot n then 7
  else if n < 8 then
    if s.sh (F.REF_CFG_TOD_SRC n) != 0 && 3 ≤ (s.slot n).labelled then 7
    else if 8000 < s.sh (F.REF_NOMINAL n) then 1 else 3
  else if n ≤ 28 then 1 else 0

/-- Effective rank of a slot (R106 to R109). -/
def slotQr (s : State) (n : Nat) : Nat :=
  let r := s.slot n
  if pinSlot n then s.sh (F.REF_CFG_QR_OVR n)
  else if 29 ≤ n then 15
  else
    let forced := r.loop || (n != 24 && !r.linkUp) || (decide (8 ≤ n) && decide (n ≤ 25) && n != 24 && r.qlTick.isNone)
    if forced then 15 else if s.sh (F.REF_CFG_QR_OVR_EN n) == 1 then s.sh (F.REF_CFG_QR_OVR n) else r.qrRx

/-- The received-quality conditions that force QR 15 on message-fed slots are a stale message and a lost link or session. -/
def boundBase (s : State) (n : Nat) : Nat := s.sh (F.REF_BOUND_BASE_LO n) + 2 ^ 32 * s.sh (F.REF_BOUND_BASE_HI n)

/-- REF_BOUND of a slot: the base, widened by W while SUSPECT (R118). -/
def slotBound (s : State) (n : Nat) : Nat :=
  let b := boundBase s n
  if slotState s n = stSUSPECT then
    let sum := b + (⌈(s.slot n).w * 256⌉).toNat
    if b = notBounded ∨ 0xFFFFFFFFFE < sum then notBounded else sum
  else b

def syncSlotBound (n : Nat) (s : State) : State := s.wr64 0 (F.REF_BOUND_LO n) (F.REF_BOUND_HI n) (slotBound s n)

/-- REF_STATUS and REF_ENS_MEMBERS follow the slots (Table 4.8). -/
def ensMember (s : State) (n : Nat) : Bool :=
  slotState s n == stQUALIFIED && s.sh (F.REF_CFG_ENS_EN n) == 1 && !(n == 28 && s.sh F.REF_CTRL_HO_IS_ATOM == 1)

def ensMembers (s : State) : List Nat := (List.range 32).filter (ensMember s)

def syncRefStatus (s : State) : State :=
  let cnt := fun st => ((List.range 32).filter fun n => slotState s n == st).length
  ((s.wr 0 F.REF_STATUS_QUALIFIED_COUNT (cnt stQUALIFIED)).wr 0 F.REF_STATUS_SUSPECT_COUNT (cnt stSUSPECT)).wr 0
    F.REF_ENS_MEMBERS ((ensMembers s).foldl (fun a n => a + 2 ^ n) 0)

/-! ### Selection (R119 to R123) -/

def selState (s : State) (i : Nat) : Nat := s.sh (F.REF_SEL_STATUS_STATE i)
def selNONE : Nat := 0
def selSELECTED : Nat := 1
def selHOLDOFF : Nat := 2
def selPINNED : Nat := 3
def selFORCED : Nat := 4

/-- The slot a selector holds, in SELECTED and HOLDOFF. -/
def selected (s : State) (i : Nat) : Option Nat :=
  if selState s i = selSELECTED ∨ selState s i = selHOLDOFF then some (s.sh (F.REF_SEL_STATUS_SELECTED i)) else none

/-- Priority of a slot at a selector. -/
def selPrio (s : State) (i n : Nat) : Nat :=
  s.sh (match n % 8 with
    | 0 => F.REF_SEL_PRIO_P0 i (n / 8) | 1 => F.REF_SEL_PRIO_P1 i (n / 8) | 2 => F.REF_SEL_PRIO_P2 i (n / 8)
    | 3 => F.REF_SEL_PRIO_P3 i (n / 8) | 4 => F.REF_SEL_PRIO_P4 i (n / 8) | 5 => F.REF_SEL_PRIO_P5 i (n / 8)
    | 6 => F.REF_SEL_PRIO_P6 i (n / 8) | _ => F.REF_SEL_PRIO_P7 i (n / 8))

/-- The conditions of R119 that the pin does not disregard. -/
def candBase (s : State) (i n : Nat) : Bool :=
  bitOf (slotCap s n) (s.sh (F.REF_SEL_CFG_CAP_REQ i)) && s.sh (F.REF_STATE_QR n) != 15 &&
    (slotState s n == stQUALIFIED || (slotState s n == stSUSPECT && selected s i == some n)) &&
    !(n == 28 && s.sh F.REF_CTRL_HO_IS_ATOM == 1)

/-- Is a slot a candidate of a selector (R119)? -/
def candidate (s : State) (i n : Nat) : Bool :=
  bitOf (s.sh (F.REF_SEL_CAND i)) n && selPrio s i n != 15 && candBase s i n

/-- Does slot a rank above slot b (R119)? -/
def ranksAbove (s : State) (i a b : Nat) : Bool :=
  let ql := s.sh F.REF_CTRL_QL_MODE == 1
  let qa := if ql then s.sh (F.REF_STATE_QR a) else 0
  let qb := if ql then s.sh (F.REF_STATE_QR b) else 0
  let ska := s.sh (F.REF_STATE_ENS_SKIPPED a) == 1
  let skb := s.sh (F.REF_STATE_ENS_SKIPPED b) == 1
  let fa := |(s.slot a).foffE|
  let fb := |(s.slot b).foffE|
  if qa != qb then decide (qa < qb)
  else if selPrio s i a != selPrio s i b then decide (selPrio s i a < selPrio s i b)
  else if ska != skb then skb
  else if !ska && fa != fb then decide (fa < fb)
  else decide (a < b)

/-- The best-ranked slot of a list. -/
def best (s : State) (i : Nat) (l : List Nat) : Option Nat :=
  l.foldl (fun b n => match b with
    | none => some n
    | some m => if ranksAbove s i n m then some n else some m) none

def candidates (s : State) (i : Nat) : List Nat := (List.range 32).filter (candidate s i)

/-- The rules of R120, given the current selection. -/
def selectRule (s : State) (i : Nat) : Option Nat :=
  let cs := candidates s i
  let b := best s i cs
  let ql := s.sh F.REF_CTRL_QL_MODE == 1
  match selected s i with
  | none => b
  | some c =>
    if !cs.contains c then b
    else
      let sub := best s i (cs.filter fun n => slotState s n == stQUALIFIED && (!ql || decide (s.sh (F.REF_STATE_QR n) ≤ s.sh (F.REF_STATE_QR c))))
      match (if slotState s c = stSUSPECT then sub else none), b with
      | some x, _ => some x
      | none, none => some c
      | none, some m =>
        let qb := s.sh (F.REF_STATE_QR m)
        let qc := s.sh (F.REF_STATE_QR c)
        if ql && decide (qb < qc) then some m
        else if s.sh (F.REF_SEL_CFG_REVERTIVE i) == 1 &&
            ((ql && decide (qb < qc)) || ((!ql || qb == qc) && decide (selPrio s i m < selPrio s i c))) then some m
        else some c

/-- Put a selector into a state with a selection; counts a change and posts its events (R123). -/
def setSelection (i st : Nat) (sel : Option Nat) (s : State) : State :=
  let old := selected s i
  let oldSt := selState s i
  let r := s.sel i
  let r' : RefSel := { holdoff := if st = selHOLDOFF then r.holdoff else none
                       leftAt := if oldSt = selSELECTED ∧ st ≠ selSELECTED then some s.frc else r.leftAt }
  let t := (s.setSel i r').wr 0 (F.REF_SEL_STATUS_STATE i) st
  let t := match sel with
    | some n => t.wr 0 (F.REF_SEL_STATUS_SELECTED i) n
    | none => t
  let t := if old != sel then
      post Ev.REF_SEL_CHANGE i (t.wr 0 (F.REF_SEL_SWITCHES i) (t.sh (F.REF_SEL_SWITCHES i) + 1)) else t
  let lost := st == selNONE || st == selPINNED || st == selFORCED
  let t := onlyIf (lost && oldSt != st) (post Ev.REF_SEL_NONE i) t
  let sb := best t i ((candidates t i).filter fun n => some n != sel)
  match sb with
  | some n => (t.wr 0 (F.REF_SEL_STATUS_STANDBY i) n).wr 0 (F.REF_SEL_STATUS_STANDBY_VALID i) 1
  | none => t.wr 0 (F.REF_SEL_STATUS_STANDBY_VALID i) 0

/-- A selector's evaluation (R120 to R123). -/
def evalSel (i : Nat) (s : State) : State :=
  if s.sh (F.REF_SEL_CFG_FORCE_HO i) == 1 then setSelection i selFORCED none s
  else
    let pin := s.sh (F.REF_SEL_CFG_PIN_EN i) == 1
    let ps := s.sh (F.REF_SEL_CFG_PIN_SLOT i)
    let cur := selected s i
    let held := selState s i == selHOLDOFF && (s.sel i).holdoff.isSome && !(pin && cur != some ps) &&
      (match cur with
        | some c => slotState s c == stNOSIG
        | none => false)
    if held then setSelection i selHOLDOFF cur s
    else if pin then
      if candBase s i ps then setSelection i selSELECTED (some ps) s else setSelection i selPINNED none s
    else match selectRule s i with
      | some n => setSelection i selSELECTED (some n) s
      | none => setSelection i selNONE none s

def evalSels (s : State) : State := each (List.range 6) evalSel s

/-- The selectors that hold a slot enter HOLDOFF when it loses its signal, unless HOLDOFF_MS is 0 (R121). -/
def startHoldoffs (n : Nat) (s : State) : State :=
  each (List.range 6) (fun i t =>
    let ms := t.sh (F.REF_SEL_CFG_HOLDOFF_MS i)
    if selState t i = selSELECTED ∧ selected t i = some n ∧ ms ≠ 0 ∧ t.sh (F.REF_SEL_CFG_FORCE_HO i) = 0 then
      let u := setSelection i selHOLDOFF (some n) t
      post Ev.REF_HOLDOFF i (u.setSel i { u.sel i with holdoff := some (u.frc + ticksOfMs ms) })
    else t) s

/-! ### State transitions (R116, R117) -/

/-- Move a slot to a state and post its events. Nothing happens when it is there already, but for a restart of QUALIFYING. -/
def setSlotState (n st : Nat) (s : State) : State :=
  let old := slotState s n
  let r := s.slot n
  if old = st then s
  else
    let r' := { r with
      w := if old = stSUSPECT then 0 else r.w, qual := 0, clear := 0
      leftSuspect := old == stSUSPECT, leftGood := old == stSUSPECT || old == stQUALIFIED }
    let t := (s.setSlot n r').wr 0 (F.REF_STATE_STATE n) st
    let t := syncSlotBound n (syncRefStatus t)
    let t := post Ev.REF_STATE_CHANGE n t
    if st = stSUSPECT then post Ev.REF_SUSPECT n t
    else if st = stDISQ then post Ev.REF_DISQUALIFIED n t
    else if st = stNOSIG then post Ev.REF_NO_SIGNAL n t
    else t

/-- Forget what was measured since signal acquisition. -/
def newAcquisition (r : RefSlot) : RefSlot :=
  { r with first := none, last := none, prevSec := none, sec := [], edges := 0, ys := [], es := [], tieH := [], tieE := []
           tieEAcc := 0, foffH := 0, foffE := 0 }

/-- A slot loses its signal (R104). -/
def signalLost (n : Nat) (s : State) : State :=
  if slotState s n = stDISABLED ∨ slotState s n = stNOSIG then s.setSlot n { s.slot n with good := 0 }
  else
    let t := setSlotState n stNOSIG s
    let t := t.setSlot n { newAcquisition (t.slot n) with good := 0, missing := 0 }
    evalSels (startHoldoffs n t)

/-- Is a slot still held by a selector whose hold-off runs? -/
def heldByHoldoff (s : State) (n : Nat) : Bool :=
  (List.range 6).any fun i => selState s i == selHOLDOFF && selected s i == some n && (s.sel i).holdoff.isSome

/-- A slot regains its signal (Table 4.5). -/
def signalRegained (n : Nat) (s : State) : State :=
  let r := s.slot n
  let st := if heldByHoldoff s n && r.leftGood then (if r.leftSuspect then stSUSPECT else stQUALIFIED) else stQUALIFYING
  evalSels (setSlotState n st s)

/-- A slot's capability and rank after a change of their causes: REF_STATE.CAP, QR, C_QUALITY, QL_CHANGE, and QR 15 as a hard cause (R106, R116). -/
def updateQr (n : Nat) (s : State) : State :=
  let q := slotQr s n
  let t := ((s.wr 0 (F.REF_STATE_CAP n) (slotCap s n)).wr 0 (F.REF_STATE_C_QUALITY n) (b2n (q == 15))).wr 0 (F.REF_STATE_C_LOOP n) (b2n (s.slot n).loop)
  if q = s.sh (F.REF_STATE_QR n) then t
  else
    let t := post Ev.REF_QL_CHANGE n ((t.wr 0 (F.REF_STATE_QR n) q).setSlot n { s.slot n with qrChanged := true })
    let st := slotState t n
    let t := if q = 15 ∧ (st = stQUALIFYING ∨ st = stQUALIFIED ∨ st = stSUSPECT) then setSlotState n stDISQ t else t
    evalSels t

/-- ENABLE written (R116): 0 to DISABLED from any state, 1 from DISABLED to NO_SIGNAL. REF29 to REF31 stay DISABLED (R99). -/
def slotEnable (n : Nat) (en : Bool) (s : State) : State :=
  if 29 ≤ n then s
  else if !en then evalSels (setSlotState n stDISABLED (s.setSlot n { newAcquisition (s.slot n) with good := 0, missing := 0, labelled := 0, nextLabel := none }))
  else if slotState s n = stDISABLED then
    let t := s.setSlot n { newAcquisition (s.slot n) with good := 0, missing := 0 }
    updateQr n (setSlotState n stNOSIG t)
  else s

/-- A lane's block lock, a link's alignment or a session's Sync is lost (R104). -/
def linkLost (n : Nat) (s : State) : State :=
  if 8 ≤ n ∧ n ≤ 27 ∧ n ≠ 24 then
    updateQr n (signalLost n (s.setSlot n { s.slot n with linkUp := false }))
  else s

/-- A lane, link or session is up: its slot may regain its signal. -/
def linkRestored (n : Nat) (s : State) : State := updateQr n (s.setSlot n { s.slot n with linkUp := true })

end Sys2Proof.Machine
end

