-- ==== Sys2Proof/Machine/Protect.lean ====
section
/-! DEFINITION. The protection table's checks (R490, R491). -/

namespace Sys2Proof.Machine

/-- Permissions of a protection-table entry: bit numbers of Table 18.2. -/
def permR : Nat := 1
def permW : Nat := 2
def permATOMIC : Nat := 3
def permRING : Nat := 4

/-- First address past SHM (R464). -/
def shmEnd : Nat := 0x08200000

/-- Does an entry cover a page of 4 KiB (Table 18.2)? BASE and LIMIT are taken as whole pages. -/
def ptCovers (e : Octets) (page : Nat) : Bool :=
  decide (ofLe (slice e 8 4) / 4096 ≤ page) && decide (page ≤ ofLe (slice e 12 4) / 4096)

/-- Does an entry permit an access by a function to a page (R490)? -/
def ptPermits (e : Octets) (fn page perm : Nat) : Bool :=
  let f := ofLe (slice e 0 2)
  bitOf f 0 && bitOf f perm && ofLe (slice e 4 2) % 512 == tenantOf fn &&
    (!bitOf f 5 || ofLe (slice e 2 2) % 1024 == fn) && ptCovers e page

/-- Does an entry with FN_ONLY 0 grant a tenant a permission on a page? -/
def ptGrantsTenant (e : Octets) (tenant page perm : Nat) : Bool :=
  let f := ofLe (slice e 0 2)
  bitOf f 0 && bitOf f perm && !bitOf f 5 && ofLe (slice e 4 2) % 512 == tenant && ptCovers e page

/-- The pages that a range touches. -/
def pagesOf (a len : Nat) : List Nat :=
  if len = 0 then [] else (List.range ((a + len - 1) / 4096 - a / 4096 + 1)).map (· + a / 4096)

/-- Is an SHM range wholly permitted to a function (R490)? The secure world passes every check. -/
def shmPermitted (s : State) (fn a len perm : Nat) : Bool :=
  decide (a + len ≤ shmEnd) &&
    (s.secureSt fn || (pagesOf a len).all fun p => s.hif.ptActive.any fun e => ptPermits e.2 fn p perm)

/-- Does a tenant own an SHM range (R490)? Every page with R, W and RING by entries with FN_ONLY 0. -/
def tenantOwns (s : State) (tenant a len : Nat) : Bool :=
  decide (a + len ≤ shmEnd) &&
    (pagesOf a len).all fun p => [permR, permW, permRING].all fun q =>
      s.hif.ptActive.any fun e => ptGrantsTenant e.2 tenant p q

/-- Does a function own the buffer at a u64 address (R490, R491)? Host addresses are checked against nothing. -/
def ownsBuf (s : State) (fn a len : Nat) : Bool :=
  if addrIsShm a then
    addrWellFormed a && shmPermitted s fn (a % 2 ^ 32) len permR && shmPermitted s fn (a % 2 ^ 32) len permW
  else true

end Sys2Proof.Machine
end

