-- ==== Sys2Proof/Machine/HifCore.lean ====
section
/-! DEFINITION. Completion records of the host rings, and the buffers of received frames (R496 to R498, R507, R508). -/

namespace Sys2Proof.Machine

/-- Is a ring pair still as it was when it was enabled for the n-th time? -/
def ringLive (s : State) (fn r en : Nat) : Bool :=
  s.rd (fn + 1) (F.HIF_RING_CFG_EN r) == 1 && tgetD s.hif.ringEn (fn * 16 + r) 0 == en

/-- Octets of a completion record, by KIND (Table 18.3). -/
def cqOctets (kind : Nat) : Nat := if kind = 0 then 128 else if kind = 1 then 16 else 32

/-- Write a completion record (its octet 0 without PHASE) and raise the ring's vector where it is asked for (R497, R511). -/
def cqWrite (fn r : Nat) (irq : Bool) (o : Octets) (s : State) : State :=
  let c := fn + 1
  let size := 2 ^ s.rd c (F.HIF_RING_CFG_LOG2_SIZE r)
  let wr := s.rd c (F.HIF_CQ_WR r)
  let n := cqOctets (s.rd c (F.HIF_RING_CFG_KIND r))
  let rec_ := oct [byteAt o 0 + phaseOf wr size] ++ o.drop 1
  let t := dmaWrite fn (s.rd64 c (F.HIF_CQ_BASE_LO r) (F.HIF_CQ_BASE_HI r) + n * (wr % size)) (padTo n rec_) s
  let t := (t.wr c (F.HIF_CQ_WR r) (wr + 1)).wr c (F.HIF_RING_STATUS_INFLIGHT r) (t.rd c (F.HIF_RING_STATUS_INFLIGHT r) - 1)
  onlyIf (irq || t.rd c (F.HIF_RING_CFG_IRQ_ALL r) == 1) (raiseVec fn r (t.rd c (F.HIF_RING_CFG_ITR_US r))) t

/-- A transmit descriptor is done: code, cause, and the tick of the egress stamp's FRC form, or 0; its completion is to be written (R507). -/
def txComplete (h : HostTag) (code cause frc : Nat) (s : State) : State :=
  { s with hif := { s.hif with txDone := s.hif.txDone ++ [(h, code, cause, frc)] } }

/-! The causes of DISCARDED (R507, R508). -/
namespace TxCause
def disabled : Nat := 1
def mapErr : Nat := 2
def tailDrop : Nat := 3
def bufFull : Nat := 4
def flushed : Nat := 5
def noFit : Nat := 6
def actionErr : Nat := 7
def notSent : Nat := 8
def format : Nat := 9
def linkDiscard : Nat := 10
def protection : Nat := 11
def tooLong : Nat := 12
end TxCause

/-- The buffer that a frame for a receive queue takes: that of the enabled RECEIVE ring 16 × FN + r, if one is posted (R508) and a completion
slot is free (R498). -/
def rxBuffer (s : State) (q : Nat) : Option HostTag :=
  let fn := q / 16
  let r := q % 16
  let c := fn + 1
  if 513 ≤ fn ∨ s.rd c (F.HIF_RING_CFG_EN r) = 0 ∨ s.rd c (F.HIF_RING_CFG_KIND r) ≠ 2 then none
  else
    let en := tgetD s.hif.ringEn (fn * 16 + r) 0
    let waiting := (s.hif.rxq.filter fun x => x.tag.fn == fn && x.tag.r == r && x.tag.en == en).length
    let head := s.rd c (F.HIF_SQ_HEAD r)
    let posted := wsub 32 (s.rd c (F.HIF_SQ_TAIL r)) head
    let used := wsub 32 (s.rd c (F.HIF_CQ_WR r)) (s.rd c (F.HIF_CQ_HEAD r))
    if waiting < posted ∧ waiting + used < 2 ^ s.rd c (F.HIF_RING_CFG_LOG2_SIZE r) then some ⟨fn, r, (head + waiting) % 2 ^ 32, en⟩ else none

/-- Octets of a source's frames that wait for delivery. -/
def rxHeld (s : State) (src : Nat) : Nat := ((s.hif.rxq.filter fun x => x.src == src).map fun x => x.octets.length).sum

end Sys2Proof.Machine
end

