-- ==== Sys2Proof/Machine/TsRing.lean ====
section
/-! DEFINITION. Timestamp rings of serving, chain and management ports: records, indices and enables (R290, R291, R414). -/

namespace Sys2Proof.Machine

/-- One timestamp ring: its registers, the key of its seq, the object its events name, and its events. -/
structure TsrRef where
  en : FieldRef
  log : FieldRef
  owner : FieldRef
  wm : FieldRef
  base : FieldRef
  wr : FieldRef
  rd : FieldRef
  seq : Nat
  obj : Nat
  evWm : EvRef
  evDropped : EvRef
  evRefused : EvRef
  evLocked : EvRef
  deriving DecidableEq, Repr

/-- Ring d of serving port n. -/
def prtTsr (n d : Nat) : TsrRef :=
  { en := F.PRT_TSR_CFG_EN n d, log := F.PRT_TSR_CFG_LOG2_RECORDS n d, owner := F.PRT_TSR_CFG_OWNER n d, wm := F.PRT_TSR_CFG_WM n d
    base := F.PRT_TSR_BASE n d, wr := F.PRT_TSR_WR_IDX n d, rd := F.PRT_TSR_RD_IDX n d, seq := 2 * n + d, obj := n
    evWm := Ev.PRT_TSR_WM, evDropped := Ev.PRT_TSR_DROPPED, evRefused := Ev.PRT_RING_REFUSED, evLocked := Ev.PRT_CFG_LOCKED }

/-- Ring d of the chain ports. -/
def ubwTsr (d : Nat) : TsrRef :=
  { en := F.UBW_TSR_CFG_EN d, log := F.UBW_TSR_CFG_LOG2_RECORDS d, owner := F.UBW_TSR_CFG_OWNER d, wm := F.UBW_TSR_CFG_WM d
    base := F.UBW_TSR_BASE d, wr := F.UBW_TSR_WR_IDX d, rd := F.UBW_TSR_RD_IDX d, seq := 32 + d, obj := 0
    evWm := Ev.UBW_TSR_WM, evDropped := Ev.UBW_TSR_DROPPED, evRefused := Ev.UBW_CFG_LOCKED, evLocked := Ev.UBW_CFG_LOCKED }

/-- Ring d of the management port. -/
def mgpTsr (d : Nat) : TsrRef :=
  { en := F.MGP_TSR_CFG_EN d, log := F.MGP_TSR_CFG_LOG2_RECORDS d, owner := F.MGP_TSR_CFG_OWNER d, wm := F.MGP_TSR_CFG_WM d
    base := F.MGP_TSR_BASE d, wr := F.MGP_TSR_WR_IDX d, rd := F.MGP_TSR_RD_IDX d, seq := 34 + d, obj := 0
    evWm := Ev.MGP_TSR_WM, evDropped := Ev.MGP_TSR_DROPPED, evRefused := Ev.MGP_RING_ERR, evLocked := Ev.MGP_CFG_LOCKED }

/-- Every timestamp ring. -/
def allTsr : List TsrRef :=
  ((List.range 16).map fun n => [prtTsr n 0, prtTsr n 1]).flatten ++ [ubwTsr 0, ubwTsr 1, mgpTsr 0, mgpTsr 1]

/-- First address of the dual-port region (R464). -/
def dualBase : Nat := 0x08000000

def tsrSize (s : State) (r : TsrRef) : Nat := 2 ^ s.sh r.log

/-- The seq that the next record of a ring takes. -/
def tsrSeq (s : State) (r : TsrRef) : Nat := tgetD s.prt.seqs r.seq 0

/-- Write a record, given as a function of its seq, or drop it from a full ring; a dropped record consumes its seq (R291). -/
def tsrWrite (r : TsrRef) (body : Nat → Octets) (s : State) : State :=
  if s.sh r.en == 0 then s
  else
    let seq := tsrSeq s r
    let t := { s with prt := { s.prt with seqs := tset s.prt.seqs r.seq ((seq + 1) % 2 ^ 32) } }
    let wr := t.sh r.wr
    let used := wsub 32 wr (t.sh r.rd)
    if tsrSize t r ≤ used then post r.evDropped r.obj t
    else
      let t := t.shmWrite (dualBase + t.sh r.base + 32 * (wr % tsrSize t r)) (body seq)
      let wm := t.sh r.wm
      onlyIf (wm != 0 && used + 1 == wm) (post r.evWm r.obj) (t.wr 0 r.wr (wr + 1))

/-- Do two rings overlap in the dual-port SRAM? -/
def tsrOverlap (s : State) (a b : TsrRef) : Bool :=
  decide (s.sh a.base < s.sh b.base + 32 * tsrSize s b) && decide (s.sh b.base < s.sh a.base + 32 * tsrSize s a)

/-- May a ring be enabled: apart from every other enabled ring, within what the table grants its owner, aligned to its size (R290, R291)? -/
def tsrOk (s : State) (r : TsrRef) : Bool :=
  let len := 32 * tsrSize s r
  s.sh r.base % len == 0 && tenantOwns s (s.sh r.owner) (dualBase + s.sh r.base) len &&
    allTsr.all fun q => q.seq == r.seq || s.sh q.en == 0 || !tsrOverlap s r q

/-- EN of a ring written (R291). -/
def tsrEnable (r : TsrRef) (en : Bool) (s : State) : State :=
  if !en then s.wr 0 r.en 0
  else if s.sh r.en == 1 then s
  else if !tsrOk s r then post r.evRefused r.obj s
  else
    { (((s.wr 0 r.en 1).wr 0 r.wr 0).wr 0 r.rd 0) with prt := { s.prt with seqs := tset s.prt.seqs r.seq 0 } }

/-- A write of a ring's CFG register (Table 10.10): LOG2_RECORDS and OWNER change only while EN is 0. -/
def writeTsrCfg (r : TsrRef) (v : Nat) (s : State) : State :=
  let log := max 8 (min (bits v 1 4) 12)
  let own := bits v 5 9
  let changes := log != s.sh r.log || own != s.sh r.owner
  let t := if s.sh r.en = 1 then onlyIf changes (post r.evLocked r.obj) s else (s.wr 0 r.log log).wr 0 r.owner own
  tsrEnable r (bitOf v 0) (t.wr 0 r.wm (bits v 16 16))

/-- The FRC form of a stamp less its 20 ps phase: its tick (R284). -/
def frcTick (x32 : Nat) : Nat := x32 / 32

/-- The 32 octets of a record (Table 10.6). `time` in 2^-48 ns. -/
def tsrOctets (x32 : Nat) (d : Nat) (uncal notSent : Bool) (port errs gen seq tag : Nat) (time : Int) (clock len : Nat) : Octets :=
  leBytes 8 (if notSent then 0 else frcTick x32) ++
  oct [(if notSent then 0 else x32 % 32) + 32 * d + 64 * b2n uncal + 128 * b2n notSent, port, errs, gen] ++
  leBytes 4 seq ++ leBytes 4 tag ++ leBytes 6 (ts48 time) ++ leBytes 2 clock ++ leBytes 2 len ++ zeros 2

end Sys2Proof.Machine
end

