-- ==== Sys2Proof/Machine/PortCore.lean ====
section
/-! DEFINITION. Frames on their way out, transmit queues, and what a port's link does to them (R273 to R278, R284, R287, R289, R359 to R365, R371). -/

namespace Sys2Proof.Machine

/-! ### Line rates and stamps -/

/-- t_b in ps (Table 10.3), by MODE and FEC; 0 in modes 0 and 1. -/
def tBit (mode fec : Nat) : Rat :=
  match mode with
  | 0 | 1 => 0
  | 2 => 10000000 / 103125
  | 3 => if fec = 0 then 100000000 / 2578125 else 204800 / 5280
  | 4 => 102400 / 5440
  | 5 => 51200 / 5280
  | 6 | 7 | 8 | 9 => 51200 / 5440
  | _ => 25600 / 5440

/-- M of R373 in Gb/s. -/
def macRate (mode : Nat) : Nat :=
  match mode with
  | 0 | 1 => 1
  | 2 => 10
  | 3 => 25
  | 4 => 50
  | 5 | 6 | 7 => 100
  | 8 | 9 => 200
  | _ => 400

def portMode (s : State) (n : Nat) : Nat := s.sh (F.PRT_PORT_CFG_MODE n)

/-- d of R373 for a frame of length L, in ticks. -/
def lineTicks (s : State) (n len : Nat) : Rat := ((len + 20 : Nat) : Rat) * 25 / (2 * macRate (portMode s n))

/-- F of R284, in 2^-16 ns. -/
def stampF (s : State) (n b : Nat) : Int := roundR ((b : Rat) * tBit (portMode s n) (s.sh (F.PRT_PORT_CFG_FEC n)) * 65536 / 1000)

/-- A of R284: half of ASYM_PS, in 2^-16 ns. -/
def stampA (s : State) (n : Nat) : Int := roundR ((sgn 32 (s.ef (F.PRT_PORT_ASYM n)) : Rat) * 32768 / 1000)

/-- C of R284 for an egress frame, without A. -/
def stampTx (s : State) (n b : Nat) : Int :=
  stampF s n b + sgn 32 (s.sh (F.TDC_CAL_TX (n + 1))) + roundR ((s.ef (F.PRT_PORT_BOARD_BOARD_TX_PS n) : Rat) * 65536 / 1000)

/-- C of R284 for an ingress frame, without A. -/
def stampRx (s : State) (n b : Nat) : Int :=
  stampF s n b - sgn 32 (s.sh (F.TDC_CAL_RX (n + 1))) - roundR ((s.ef (F.PRT_PORT_BOARD_BOARD_RX_PS n) : Rat) * 65536 / 1000)

/-- The time of clock v for a frame, in 2^-48 ns: t_v(s) + C (R284). -/
def stampTime (s : State) (v x32 : Nat) (c : Int) : Int := vcTime s v x32 + c * 2 ^ 32

/-- The FRC form of a stamp, in 1/32 tick: s + C, rounded to the nearest 20 ps (R284). -/
def stampFrc (x32 : Nat) (c : Int) : Nat := ((x32 : Int) + roundR ((c : Rat) * 50 / 65536)).toNat

/-- Until the first calibration on the current link the point is not bounded: UNCAL (R286). -/
def uncal (s : State) (p : Nat) : Bool := s.sh (F.BND_PATH_CAL p) == 0xFFFF

/-! ### Action blocks (Table 10.4) -/

def actClock (a : Octets) : Nat := ofLe (slice a 0 2) % 1024
def actTsReq (a : Octets) : Bool := bitOf (ofLe (slice a 0 2)) 10
def actNoAsym (a : Octets) : Bool := bitOf (ofLe (slice a 0 2)) 11
def actTag (a : Octets) : Nat := ofLe (slice a 4 4)

/-- The four actions: OP and offset. -/
def actOps (a : Octets) : List (Nat × Nat) :=
  [8, 10, 12, 14].map fun i => (ofLe (slice a i 2) % 8, bits (ofLe (slice a i 2)) 3 11)

/-- An action block. -/
def actBlock (clock : Nat) (tsReq noAsym : Bool) (tag : Nat) (ops : List (Nat × Nat)) : Octets :=
  leBytes 2 (clock + 1024 * b2n tsReq + 2048 * b2n noAsym) ++ zeros 2 ++ leBytes 4 tag ++
    padTo 8 (ops.map fun o => leBytes 2 (o.1 + 8 * o.2)).flatten

/-- A one-step message: PTP_TS or NTP_TS (R288). -/
def TxFrame.oneStep (f : TxFrame) : Bool := (actOps f.act).any fun o => o.1 == 1 || o.1 == 3

/-- L of R365: the length as sent, padded, with the FCS. -/
def TxFrame.len (f : TxFrame) : Nat := max 64 (f.octets.length + 4)

/-! ### Frames that are not sent -/

/-- A NOT_SENT record for a frame with TS_REQ (R289). -/
def notSentRecord (n : Nat) (f : TxFrame) (s : State) : State :=
  if actTsReq f.act then
    post Ev.PRT_NOT_SENT n (tsrWrite (prtTsr n 1) (fun seq =>
      tsrOctets 0 1 (uncal s (n + 1)) true n 0 (s.sh (F.PRT_PORT_STATUS_LINK_GEN n) % 256) seq (actTag f.act) 0 (actClock f.act) f.len) s)
  else s

/-- A frame's originator learns that it was not sent. -/
def frameDropped (f : TxFrame) (code cause : Nat) (s : State) : State :=
  match f.host with
  | some h => txComplete h code cause 0 s
  | none => s

/-- A frame that the port discards: NOT_SENT in its record and in its completion. -/
def portDiscard (n : Nat) (cause : Nat) (f : TxFrame) (s : State) : State :=
  frameDropped f Code.discarded cause (notSentRecord n f s)

/-! ### Queues and egress pipelines -/

def State.q (s : State) (q : Nat) : TxQueue := tgetD s.sch.queues q (TxQueue.init q)
def State.schPort (s : State) (n : Nat) : SchPort := tgetD s.sch.ports n {}
def State.prtPort (s : State) (n : Nat) : PrtPort := tgetD s.prt.ports n {}
def State.setPrtPort (n : Nat) (p : PrtPort) (s : State) : State := { s with prt := { s.prt with ports := tset s.prt.ports n p } }

/-- BACKLOGGED counts the queues that hold frames. -/
def State.setQ (q : Nat) (x : TxQueue) (s : State) : State :=
  let t := { s with sch := { s.sch with queues := tset s.sch.queues q x } }
  t.wr 0 F.SCH_STATUS (t.sch.queues.filter fun e => !e.2.frames.isEmpty).length

/-- AHEAD and RESERVED follow the port's pipeline and reservations. -/
def State.setSchPort (n : Nat) (p : SchPort) (s : State) : State :=
  let t := { s with sch := { s.sch with ports := tset s.sch.ports n p } }
  (t.wr 0 (F.SCH_PORT_STATUS_AHEAD n) (min 7 (p.pipe.length + (p.launches.filter (·.selected)).length))).wr 0 (F.SCH_PORT_STATUS_RESERVED n) p.launches.length

/-- Octets that wait for a port: its queues and its pipeline. -/
def txHeld (s : State) (n : Nat) : Nat :=
  ((s.sch.queues.filter fun e => e.2.port == n).map fun e => (e.2.frames.map fun f => f.octets.length).sum).sum +
    ((s.schPort n).pipe.map fun f => f.octets.length).sum

/-- L_acct of R365. -/
def lAcct (q : TxQueue) (f : TxFrame) : Nat := (max 1 ((f.len : Int) + q.ovh)).toNat

/-- inc of R364. -/
def wfqInc (q : TxQueue) (f : TxFrame) : Nat := ceilDiv (lAcct q f * 65536) q.weight

/-- The time for which gate 0 of a port has been closed so far, in ticks. -/
def closedTime (s : State) (n : Nat) : Nat :=
  let p := s.schPort n
  p.closed + (match p.closedAt with
    | some t => s.frc - t
    | none => 0)

/-- Discard the frames of a queue: each completes with a cause; `ctr` counts it. -/
def queueDiscard (q cause : Nat) (ctr : Nat) (s : State) : State :=
  let x := s.q q
  each x.frames (fun f t => frameDropped f Code.discarded cause (count ctr q 1 t)) (s.setQ q { x with frames := [] })

/-- Levels 0 and 1 of a port that is not UP are selected and discarded at once (R371). -/
def linkDiscard (n : Nat) (s : State) : State :=
  let qs := (s.sch.queues.filter fun e => e.2.port == n && decide (e.2.level ≤ 1) && !e.2.frames.isEmpty).map (·.1)
  each qs (fun q t =>
    let k := (t.q q).frames.length
    queueDiscard q TxCause.linkDiscard Ct.SCH_LINK_DISCARD
      (t.wr 0 (F.SCH_PORT_REVOKE_LINK_DISCARD n) (t.sh (F.SCH_PORT_REVOKE_LINK_DISCARD n) + k))) s

def portUp (s : State) (n : Nat) : Bool := s.sh (F.PRT_PORT_STATUS_STATE n) == 2

/-- Count a refused enqueue in its queue: TAIL_DROP with BUF_FULL, or the other causes. -/
def queueDrop (q : Nat) (tail : Bool) (s : State) : State :=
  let x := s.q q
  s.setQ q (if tail then { x with tailDrop := (x.tailDrop + 1) % 2 ^ 16 } else { x with otherDrop := (x.otherDrop + 1) % 2 ^ 16 })

/-- Offer a frame to a queue (R361): the cause of a refusal, or none. -/
def enqueue (n q : Nat) (f : TxFrame) (s : State) : Option Nat × State :=
  let x := s.q q
  let tx := ((tget s.stw.shares n).map (·.2)).getD 0
  let foreign := match f.host with
    | some h => x.host && tenantOf h.fn != x.owner && !s.secure h.fn
    | none => false
  if !x.en then (some TxCause.disabled, count Ct.SCH_DISABLED_DROP q 1 (queueDrop q false s))
  else if x.port ≠ n ∨ x.host ≠ f.host.isSome ∨ foreign = true then (some TxCause.mapErr, post Ev.SCH_MAP_ERR q (queueDrop q false s))
  else if x.maxDepth ≤ x.frames.length then (some TxCause.tailDrop, post Ev.SCH_TAIL_DROP q (queueDrop q true s))
  else if tx * 1024 < txHeld s n + f.octets.length then (some TxCause.bufFull, post Ev.SCH_BUF_FULL q (queueDrop q true s))
  else
    let f' := { f with queue := q, level := x.level, enq := s.frc, closed := closedTime s n }
    let tag := if x.frames.isEmpty then (tgetD (s.schPort n).v x.level 0 + wfqInc x f') % 2 ^ 32 else x.tag
    let t := s.setQ q { x with frames := x.frames ++ [f'], tag := tag }
    (none, if portUp t n then t else linkDiscard n t)

/-! ### Link state (R277) -/

def setPortState (n st : Nat) (s : State) : State :=
  let t := s.wr 0 (F.PRT_PORT_STATUS_STATE n) st
  t.wr 0 F.PRT_STATUS ((List.range 16).foldl (fun a i => if portUp t i then a + 2 ^ i else a) 0)

/-- Lanes of a port's mode (Table 10.1). -/
def modeLanes (mode : Nat) : Nat :=
  match mode with
  | 5 | 8 | 11 => 4
  | 6 | 9 => 2
  | 10 => 8
  | _ => 1

def portLanes (s : State) (n : Nat) : List Nat := (List.range (modeLanes (portMode s n))).map (· + n)

/-- A reserved response that is not sent in its reserved start (R353). -/
def launchMiss (s : State) : State :=
  post Ev.SEC_LAUNCH_MISS 0 (s.wr 0 F.SEC_COUNTS1_LAUNCH_MISS (s.sh F.SEC_COUNTS1_LAUNCH_MISS + 1))

/-- A port leaves UP or is disabled: the frames of its pipeline are not sent (R289), reserved responses are missed, levels 0 and 1 are discarded
(R371), and its point's link is down (R277). -/
def portDown (n : Nat) (s : State) : State :=
  let was := portUp s n
  let t := setPortState n (if s.sh (F.PRT_PORT_CFG_EN n) = 1 then 1 else 0) s
  let t := t.setPrtPort n { t.prtPort n with downAt := t.frc, freeAt := 0 }
  let t := (t.wr 0 (F.PRT_PORT_STATUS_REMOTE_FAULT n) 0).wr 0 (F.PRT_PORT_STATUS_AN_DONE n) 0
  if !was then t
  else
    let p := t.schPort n
    let t := t.setSchPort n { p with pipe := [], launches := [] }
    let t := each p.pipe (portDiscard n TxCause.notSent) t
    let t := each p.launches (fun _ => launchMiss) t
    calLinkDown (n + 1) (linkDiscard n (post Ev.PRT_LINK_DOWN n t))

/-- A port becomes UP: a new link generation, and its point's link-up. -/
def portLinkUp (n : Nat) (s : State) : State :=
  let t := setPortState n 2 (s.wr 0 (F.PRT_PORT_STATUS_LINK_GEN n) (s.sh (F.PRT_PORT_STATUS_LINK_GEN n) + 1))
  let t := each (portLanes t n) (fun l t =>
    linkRestored (8 + l) (((t.wr 0 (F.PRT_LANE_STATUS_SIG_DET l) 1).wr 0 (F.PRT_LANE_STATUS_CDR_LOCK l) 1).wr 0 (F.PRT_LANE_STATUS_BLOCK_LOCK l) 1)) t
  calLinkUp (n + 1) (post Ev.PRT_LINK_UP n t)

/-! ### Block resets -/

/-- A block reset of PRT (R292): ports DOWN, frames in the egress pipelines lost, timestamp rings disabled. -/
def prtLoss (s : State) : State :=
  let t := each (List.range 16) (fun n t =>
    let p := t.schPort n
    let t := each p.pipe (fun f => frameDropped f Code.aborted 0) (t.setSchPort n { p with pipe := [], launches := [] })
    portDown n t) s
  each (List.range 16) (fun n t => (t.wr 0 (F.PRT_TSR_CFG_EN n 0) 0).wr 0 (F.PRT_TSR_CFG_EN n 1) 0) t

/-- A block reset of SCH (R387): queued frames lost, V 0, reservations released. -/
def schLoss (s : State) : State :=
  let t := each (s.sch.queues.filter fun e => !e.2.frames.isEmpty) (fun e t =>
    each e.2.frames (fun f => frameDropped f Code.aborted 0) (t.setQ e.1 { e.2 with frames := [] })) s
  each (List.range 16) (fun n t => t.setSchPort n { t.schPort n with v := [], launches := [] }) t

/-- PIPE_STATUS follows the FIFOs. -/
def syncPipe (p : Nat) (s : State) : State :=
  (s.wr 0 (F.SVE_PIPE_STATUS_METERED_DEPTH p) (min 256 (tgetD s.sve.metered p []).length)).wr 0 (F.SVE_PIPE_STATUS_GRANTED_DEPTH p)
    (min 64 (tgetD s.sve.granted p []).length)

/-- A block reset of SVE (R332): messages in pipelines, FIFOs and the grant queue are lost; a WRITE that waited has had no effect (R36). -/
def sveLoss (s : State) : State :=
  let cls := s.sve.waits.foldl (fun m w => match w.old with
    | some e => tset m w.entry e
    | none => m) s.sve.cls
  each (List.range 8) syncPipe { s with sve := { s.sve with cls := cls, waits := [], granted := [], metered := [], sig := [] } }

/-- A TSR ring disabled by its block. -/
def tsrOff (r : TsrRef) (s : State) : State := s.wr 0 r.en 0

end Sys2Proof.Machine
end

