-- ==== Sys2Proof/Machine/Sources.lean ====
section
/-! DEFINITION. The fault sources: classes, cascades and default configurations (Tables 21.1, 21.2), and the dependents of Table 21.4. -/

namespace Sys2Proof.Machine

/-- Reaction bits of byte 15 of a record (Table 21.6). -/
def rINT : Nat := 0x01
def rNMI : Nat := 0x02
def rBLK : Nat := 0x04
def rCHIP : Nat := 0x08
def rFAULTN : Nat := 0x10
def rSAFE : Nat := 0x20
def rCOLD : Nat := 0x40

/-- Blocks that are never block-reset (R560). -/
def neverReset : Blk → Bool
  | .tb | .mate | .hif | .stw | .rst | .pwr | .flt => true
  | _ => false

/-- One source: class INTEGRITY, CASCADE, default severity and default reaction. -/
structure SrcDesc where
  integrity : Bool
  cascade : Bool
  sev : Nat
  reaction : Nat
  deriving DecidableEq, Repr

/-- The named functional sources of Table 21.1: number, INTEGRITY, severity (1 MINOR, 2 MAJOR, 3 CRITICAL), reaction. -/
def namedSources : List (Nat × Bool × Nat × Nat) := [
  (0, true, 3, 0x20), (1, true, 3, 0x20),
  (64, true, 2, 0x05),
  (128, false, 1, 0x01), (129, true, 2, 0x05),
  (192, true, 2, 0x05),
  (256, true, 3, 0x20), (257, false, 1, 0x01), (258, false, 1, 0x01), (259, false, 1, 0x01),
  (260, false, 1, 0x01), (261, false, 1, 0x01),
  (320, false, 1, 0x01), (321, true, 2, 0x05),
  (384, false, 1, 0x01),
  (448, false, 1, 0x01), (449, true, 2, 0x05),
  (512, false, 1, 0x01), (513, true, 2, 0x05), (514, true, 2, 0x05),
  (576, true, 2, 0x05),
  (640, true, 2, 0x05),
  (704, true, 2, 0x05), (705, true, 2, 0x05),
  (768, true, 1, 0x05)] ++ [
  (832, false, 3, 0x13), (833, false, 2, 0x01), (834, false, 2, 0x11),
  (896, false, 2, 0x01), (897, false, 1, 0x01), (898, false, 1, 0x01),
  (960, false, 1, 0x01), (961, true, 2, 0x05),
  (1024, false, 2, 0x11), (1025, false, 2, 0x11), (1026, false, 3, 0x11), (1027, false, 1, 0x01),
  (1028, true, 3, 0x20),
  (1088, false, 1, 0x01), (1089, true, 3, 0x09), (1090, true, 2, 0x09),
  (1152, true, 2, 0x09), (1153, true, 2, 0x09), (1154, true, 3, 0x20),
  (1216, false, 1, 0x01), (1217, false, 1, 0x01),
  (1280, false, 2, 0x01),
  (1344, true, 3, 0x20), (1345, false, 1, 0x01), (1346, false, 2, 0x11),
  (1408, true, 1, 0x05),
  (1472, false, 1, 0x01), (1473, true, 2, 0x05)]

/-- R of Table 21.2. -/
def genericR (b : Blk) : Nat := if b = .tb then 0x20 else if neverReset b then 0x09 else 0x05

/-- The generic source i of a block, 32 ≤ i (Table 21.2). -/
def genericSource (b : Blk) (i : Nat) : Option SrcDesc :=
  if i < 48 then some ⟨true, false, 2, genericR b⟩
  else match i with
  | 48 => some ⟨true, false, 3, 0x19⟩
  | 49 => some ⟨true, false, 2, genericR b⟩
  | 50 => some ⟨true, true, 2, genericR b⟩
  | 51 => some ⟨true, false, 3, if b = .tb then 0x20 else 0x19⟩
  | 52 => some ⟨true, true, 2, genericR b⟩
  | _ => none

/-- A source of R559, none where its number is reserved. -/
def srcDesc (src : Nat) : Option SrcDesc :=
  match Blk.ofCode (src / 64) with
  | none => none
  | some b =>
    if src % 64 < 32 then
      (namedSources.find? fun e => e.1 == src).map fun e => ⟨e.2.1, false, e.2.2.1, e.2.2.2⟩
    else genericSource b (src % 64)

/-- The configuration word of a source: EN in bit 0, SEV in [2:1], REACTION in [9:3] (Tables 21.5, 21.10). -/
def srcDefault (src : Nat) : Nat :=
  match srcDesc src with
  | some d => 1 + 2 * d.sev + 8 * d.reaction
  | none => 0

/-- The configuration in force of a source (R561). -/
def State.srcCfg (s : State) (src : Nat) : Nat := tgetD s.flt.cfg src (srcDefault src)

/-- The dependents of a block (Table 21.4). -/
def dependents : Blk → List Blk
  | .bnd => [.sve, .hif]
  | .refs => [.srv]
  | .srv => [.syn, .bnd]
  | .syn => [.out, .srv]
  | .out => [.mate]
  | .tdc => [.bnd, .prt, .ubw]
  | .gn => [.refs, .srv]
  | .prt => [.sve, .sch, .sec, .refs, .tdc]
  | .sve => [.sch, .sec, .prt, .hif]
  | .sec => [.sve, .ks]
  | .sch => [.sve, .prt, .hif]
  | .pol => [.sve]
  | .ks => [.sec, .bnd, .stw]
  | .shm => [.sve, .sch, .prt, .tdc, .refs, .gn, .sec, .ubw, .pmc, .mgp, .hif, .stw]
  | .ubw => [.refs, .mate, .tdc]
  | .mgp => [.hif, .tdc]
  | _ => []

/-- The reaction that a source may have: nothing that R560 and R574 forbid. -/
def reactionLegal (src rc : Nat) : Bool :=
  match Blk.ofCode (src / 64), srcDesc src with
  | some b, some d =>
    (!bitOf rc 6 || bitOf rc 3) &&
    (!neverReset b || (!bitOf rc 2 && (!d.integrity || bitOf rc 3 || bitOf rc 5)))
  | _, _ => false

end Sys2Proof.Machine
end

