-- ==== Sys2Proof/Machine/ChipReset.lean ====
section
/-! DEFINITION. A chip reset: what each reset source clears and keeps (R539 to R541, Table 20.2). -/

namespace Sys2Proof.Machine

/-- The register map of a block. -/
def regMap : Blk → List RegDesc
  | .tb => regsTB | .bnd => regsBND | .refs => regsREF | .srv => regsSRV | .syn => regsSYN | .out => regsOUT
  | .tdc => regsTDC | .gn => regsGN | .prt => regsPRT | .sve => regsSVE | .sec => regsSEC | .sch => regsSCH
  | .pol => regsPOL | .ks => regsKS | .shm => regsSHM | .ubw => regsUBW | .mate => regsMATE | .hif => regsHIF
  | .stw => regsSTW | .rst => regsRST | .pwr => regsPWR | .flt => regsFLT | .pmc => regsPMC | .mgp => regsMGP

/-- The register at an offset of a block. -/
def regAt (b : Blk) (off : Nat) : Option RegDesc := (regMap b).find? fun r => r.hit off

/-- The field that starts at a bit of a register. -/
def fldAt (b : Blk) (off lo : Nat) : Option Fld := (regAt b off).bind fun r => r.flds.find? fun f => f.lo == lo

/-- The kinds of chip reset: the rows of Table 20.2. `power` is POR and WAKE4, which also clear the RWS fields. -/
inductive RstKind where
  | power | cold | warm | wake3
  deriving DecidableEq, Repr

/-- Does a register field, named by its key, survive a reset (R9, R539, R540)? The battery's always, RWS unless the row clears it,
and under WARM every TB register that is not per function. -/
def survives (kind : RstKind) (k : Nat) : Bool :=
  let lo := k % 32
  let off := k / 32 % 0x4000
  let copy := k / 2 ^ 24
  match Blk.ofCode (k / 2 ^ 19 % 32) with
  | none => false
  | some b =>
    match fldAt b off lo with
    | none => false
    | some f => f.bat || (f.acc == .rws && kind != .power) || (kind == .warm && b == .tb && copy == 0)

/-- The SH fields of TB. -/
def tbShadows : List FieldRef := [F.TB_VC0_RATE_LO, F.TB_VC0_RATE_HI]

/-- What the battery holds of the key store: the root, the persistent slots and which copy of each authority entry is in force (R442, R454). -/
def ksBattery (k : KsSt) : KsSt := { root := k.root, slots := k.slots.filter fun e => decide (e.1 < 256), authCopy := k.authCopy }

/-- What a WAKE3 reset keeps of the shared SRAM beside its contents: poison and spare rows (R541). -/
def shmKept (x : ShmSt) : ShmSt := { poison := x.poison, walk := { spares := x.walk.spares, remap := x.walk.remap } }

/-- A saturating increment of a field. -/
def satInc (f : FieldRef) (s : State) : State := if s.sh f + 1 < 2 ^ f.w then s.wr 0 f (s.sh f + 1) else s

/-- A chip reset of a source (Table 20.1). It discards every shadow and arm, fences nothing (no door exists until Proofing ends),
and leaves the device before Proofing step 0. One that arrives during Proofing aborts it, and what either row clears is
cleared (R546). -/
def chipReset (code : Nat) (kind : RstKind) (s : State) : State :=
  let warm := kind == .warm
  let wake3 := kind == .wake3 && (s.pwr.deep == 3 || s.rst.keepShm)
  let during := s.sh F.RST_STATUS_PROOF_DONE == 0 && !s.rst.pin && decide (s.pwr.deep ≤ 2)
  let t := dropShadows tbShadows s
  let kept : State :=
    { State.reset with
        pending := s.pending
        hostMem := s.hostMem
        fresh := s.fresh
        frc := if warm then s.frc else 0
        regs := tfilter (fun k _ => survives kind k) t.regs
        eff := tfilter (fun k _ => survives kind k) t.eff
        shm := if wake3 then s.shm else []
        shmx := if wake3 then shmKept s.shmx else {}
        tb := if warm then s.tb else {}
        ks := ksBattery s.ks
        rst := { s.rst with
          frcCleared := s.rst.frcCleared || !warm, step0 := false, batBase := if warm then s.rst.batBase else s.rst.batBase + s.frc,
          pin := false, keepShm := wake3 } }
  let kept := onlyIf during (satInc F.RST_CNT_PROOF_RESET_DURING_PROOFING) kept
  let kept := if warm then (kept.wr 0 (F.SYN_S_STATUS_STATE 0) (s.sh (F.SYN_S_STATUS_STATE 0))).wr 0 F.SYN_STATUS_LOCKED (s.sh F.SYN_STATUS_LOCKED % 2)
    else kept
  (((kept.wr 0 F.TB_CG0_CTRL_ARM 0).wr 0 F.TB_CG0_CTRL_ARMED 0).wr 0 F.RST_STATUS_LAST_SOURCE code).wr 0
    F.FLT_CTRL_FAULTN_LATCH (b2n (code == 6))

end Sys2Proof.Machine
end

