-- ==== Sys2Proof/Machine/GnCore.lean ====
section
/-! DEFINITION. GNSS baseband: signals, channel states, the integrity state and what a block reset discards (chapters "GNSS Signals, Acquisition
and Tracking" and "GNSS Integrity, Audit Sleep and Witness Snapshots", R215, R216, R232, R248, R251, R256, R265, R270, R272). -/

namespace Sys2Proof.Machine

/-- Replace a range of octets with free values: its contents are undefined. -/
def cfillFree (m : List Host.Cell) (a n seed : Nat) : List Host.Cell :=
  m.takeWhile (fun e => decide (e.1 < a)) ++
  (List.range n).filterMap (fun i =>
    let b := Config.freeBits 8 (seed + i)
    if b = 0 then none else some (a + i, b)) ++
  m.dropWhile (fun e => decide (e.1 < a + n))

/-- A range of SHM becomes undefined. -/
def State.shmUndefined (a n : Nat) (s : State) : State := { s with shm := cfillFree s.shm a n s.fresh, fresh := s.fresh + n }

/-! ### Signals (Tables 8.1, 8.18) -/

def sigPort (g : Nat) : Nat := if g < 4 then 0 else 1
/-- Chips of the primary code. -/
def codeLen : Nat → Nat
  | 0 => 1023 | 1 => 1023 | 2 => 4092 | _ => 10230
/-- Primary period in ms. -/
def primMs : Nat → Nat
  | 2 => 4 | 3 => 10 | _ => 1
/-- Data-symbol period in ms. -/
def symMs : Nat → Nat
  | 0 => 20 | 1 => 20 | 2 => 4 | 3 => 10 | 4 => 10 | 5 => 10 | 6 => 20 | _ => 5
/-- Length of the index that sec_index counts: ms of a C/A bit, chips of the secondary code. PRESUMED: the lengths of the signals'
public interface specifications. -/
def secLen : Nat → Nat
  | 0 => 20 | 1 => 20 | 2 => 25 | 3 => 1800 | 4 => 20 | 5 => 20 | 6 => 100 | _ => 100
def chipRate (g : Nat) : Nat := if g < 4 then 1023000 else 10230000
/-- Carrier cycles in one chip (R216). -/
def carrPerChip (g : Nat) : Nat := if g < 4 then 1540 else 115
/-- First and last PRN. -/
def prnRange : Nat → Nat × Nat
  | 0 => (1, 32) | 1 => (193, 202) | 2 => (1, 36) | 3 => (1, 63) | 4 => (1, 32) | 5 => (193, 202) | 6 => (1, 36) | _ => (1, 63)
def prnOk (g p : Nat) : Bool := decide ((prnRange g).1 ≤ p) && decide (p ≤ (prnRange g).2)
/-- System of a signal in REF_SYS order: 0 GPS, 1 Galileo, 2 BeiDou, 3 QZSS. -/
def sigSys (g : Nat) : Nat :=
  match g % 4 with
  | 0 => 0 | 1 => 3 | 2 => 1 | _ => 2

/-! ### Ports and channels -/

def State.gnp (s : State) (p : Nat) : GnPort := tgetD s.gn.ports p {}
def State.setGnp (p : Nat) (x : GnPort) (s : State) : State := { s with gn := { s.gn with ports := tset s.gn.ports p x } }
def State.gnc (s : State) (c : Nat) : GnChan := tgetD s.gn.chans c {}
def State.setGnc (c : Nat) (x : GnChan) (s : State) : State := { s with gn := { s.gn with chans := tset s.gn.chans c x } }

def gnPortState (s : State) (p : Nat) : Nat := s.sh (F.GN_PORT_STATUS_STATE p)
def gnState (s : State) (c : Nat) : Nat := s.sh (F.GN_CH_STATE_STATE c)
def gnIDLE : Nat := 0
def gnPULLIN : Nat := 1
def gnTRACKING : Nat := 2
def gnCOASTING : Nat := 3
def gnLOST : Nat := 4

/-- FLAGS of GN_CH_STATE: CODE_LOCK 0, FREQ_LOCK 1, CARR_LOCK 2, BIT_LOCK 3, SEC_LOCK 4, TOW_VALID 5, HALF_CYCLE 6. -/
def gnFlag (s : State) (c i : Nat) : Bool := bitOf (s.sh (F.GN_CH_STATE_FLAGS c)) i
def setGnFlag (c i : Nat) (v : Bool) (s : State) : State :=
  let f := s.sh (F.GN_CH_STATE_FLAGS c)
  s.wr 0 (F.GN_CH_STATE_FLAGS c) (if v then setBitN f i else clrBitN f i)

/-- The counts of channels that the status registers show. -/
def syncGn (s : State) : State :=
  let cs := s.gn.chans
  ((s.wr 0 F.GN_STATUS_CH_ACTIVE (cs.filter fun e => gnState s e.1 != gnIDLE).length).wr 0 F.GN_INT_STATUS_SP_CHANNELS
    (cs.filter fun e => e.2.sp).length).wr 0 F.GN_INT_STATUS_FRAME_LOCKED (cs.filter fun e => e.2.lock.isSome).length

/-! ### Second-peak records (R257) -/

/-- The 32 octets of a second-peak record (Table 9.1). -/
def spOctets (kind c seq : Nat) (x : GnChan) : Octets :=
  leBytes 8 x.info.frc ++ oct [kind, c, x.sig, x.prn] ++ leBytes 2 x.info.cn1 ++ leBytes 2 x.info.cn2 ++ leBytes 4 (uns 32 x.info.sep) ++
  leBytes 4 (uns 32 x.info.dop) ++ leBytes 2 x.info.ratio ++ leBytes 2 seq ++ zeros 4

/-- Write a record to the monitor's ring, which overwrites its oldest record. -/
def spRecord (kind c : Nat) (s : State) : State :=
  let w := s.sh F.GN_SP_WR_IDX
  let t := s.shmWrite (s.sh F.GN_SP_RING_BASE + 32 * (w % 256)) (spOctets kind c s.gn.spSeq (s.gnc c))
  { (t.wr 0 F.GN_SP_WR_IDX (w + 1)) with gn := { t.gn with spSeq := (t.gn.spSeq + 1) % 2 ^ 16 } }

/-- SECOND_PEAK clears (R256). -/
def spClear (c : Nat) (s : State) : State :=
  let x := s.gnc c
  let t := s.setGnc c { x with sp := false, hits := 0, quiet := 0 }
  if x.sp then post Ev.GN_INT_SP_CLEAR c (syncGn (spRecord 3 c t)) else t

/-! ### Channel states (R232) -/

/-- A channel enters a state: what leaving TRACKING, and entering COASTING, LOST and IDLE bring with them. -/
def setGnState (c st : Nat) (s : State) : State :=
  let old := gnState s c
  if old = st then s
  else
    let t := if old = gnTRACKING then spClear c s else s
    let t := t.wr 0 (F.GN_CH_STATE_STATE c) st
    let t := if st = gnCOASTING then
        let u := (setGnFlag c 2 false t).wr 0 (F.GN_CH_COUNTS_SLIPS c) (t.sh (F.GN_CH_COUNTS_SLIPS c) + 1)
        u.setGnc c { u.gnc c with slip := true, coastAt := u.frc }
      else t
    let t := if st = gnLOST ∨ st = gnIDLE then
        let u := setGnFlag c 5 false t
        u.setGnc c { u.gnc c with tow := none, lock := none, fails := 0, cands := [] }
      else t
    let t := if st = gnIDLE then
        (((t.setGnc c { sig := (t.gnc c).sig, prn := (t.gnc c).prn }).wr 0 (F.GN_CH_STATE_FLAGS c) 0).wr 0 (F.GN_CH_STATE_T_INT_MS c) 0).wr 0
          (F.GN_CH_CN0_LOCK_S c) 0
      else t
    let t := post Ev.GN_CH_STATE c (syncGn t)
    onlyIf (st == gnLOST) (post Ev.GN_CH_LOST c) t

/-- STOP: the channel returns to IDLE, with a start that waits. -/
def gnStop (c : Nat) (s : State) : State :=
  let t := setGnState c gnIDLE s
  t.setGnc c { t.gnc c with start := none }

/-- ACQ_BUSY and ACQ_QUEUED (Table 8.10). -/
def syncAcq (s : State) : State :=
  let n := s.gn.jobs.length
  (s.wr 0 F.GN_STATUS_ACQ_BUSY (b2n (decide (0 < n) && s.gn.spRun.isNone))).wr 0 F.GN_STATUS_ACQ_QUEUED n

/-! ### Snapshots, audit and integrity -/

def snapState (s : State) : Nat := s.sh F.GN_SNAP_STATUS_STATE
def snapIDLE : Nat := 0
def snapARMED : Nat := 1
def snapCAPTURING : Nat := 2
def snapHELD : Nat := 3
def snapFAILED : Nat := 4

/-- A snapshot fails (R266, R270); after a capture the buffer's contents are undefined. -/
def snapFail (cause : Nat) (s : State) : State :=
  let t := if snapState s = snapCAPTURING then s.shmUndefined (s.sh F.GN_SNAP_BASE) 0x500000 else s
  let t := (t.wr 0 F.GN_SNAP_STATUS_STATE snapFAILED).wr 0 F.GN_SNAP_STATUS_CAUSE cause
  post Ev.GN_INT_SNAP_FAILED 0 { t with gn := { t.gn with snap := none } }

def audState (s : State) : Nat := s.sh F.GN_AUD_STATUS_STATE
def audOFF : Nat := 0
def audAWAKE : Nat := 1
def audSLEEP : Nat := 2

/-- Entry to AWAKE (R265, R266): the front end is powered, and the ports follow after the warm-up. -/
def audAwake (s : State) : State :=
  let t := s.wr 0 F.GN_AUD_STATUS_STATE (if s.sh F.GN_AUD_CFG_AUDIT_EN = 1 then audAWAKE else audOFF)
  post Ev.GN_INT_AUDIT_WAKE 0
    { t with gn := { t.gn with awakeAt := t.frc, warmAt := some (t.frc + ticksOfMs (10 * t.sh F.GN_AUD_CFG_FE_WARM_MS)), sols := [] } }

/-- The integrity state, and REF24's rank by Table 4.3 (R251). -/
def setIntegrity (v : Nat) (s : State) : State :=
  if s.sh F.GN_INT_STATUS_STATE = v then s
  else
    let t := post Ev.GN_INT_INT_CHANGE 0 (s.wr 0 F.GN_INT_STATUS_STATE v)
    updateQr 24 (t.setSlot 24 { t.slot 24 with qrRx := if v = 2 then 1 else if v = 1 then 4 else 15 })

/-- A block reset of GN (R248, R272). -/
def gnLoss (s : State) : State :=
  let t := each (s.gn.chans.map (·.1)) gnStop s
  let t := syncAcq { t with gn := { t.gn with jobs := [], spRun := none, spWait := false, okRun := 0 } }
  let t := t.wr 0 F.GN_SS_RESULT1_BUSY 0
  let t := onlyIf (snapState t == snapCAPTURING) (snapFail 2) t
  setIntegrity 0 (onlyIf (audState t == audSLEEP) audAwake t)

end Sys2Proof.Machine
end

