-- ==== Sys2Proof/Machine/UbwCore.lean ====
section
/-! DEFINITION. Ubwick ports: states, depth, the references they feed, and what a block reset does (R391 to R397, R400, R404 to R407, R417). -/

namespace Sys2Proof.Machine

def State.ubwPort (s : State) (p : Nat) : UbwPort := tgetD s.ubw.ports p {}
def State.setUbwPort (p : Nat) (u : UbwPort) (s : State) : State := { s with ubw := { s.ubw with ports := tset s.ubw.ports p u } }

/-! Port states (Table 14.10). -/
def ubDISABLED : Nat := 0
def ubHUNT : Nat := 1
def ubSEARCH : Nat := 2
def ubALIGNED : Nat := 3
def ubREADY : Nat := 4

def ubwState (s : State) (p : Nat) : Nat := s.sh (F.UBW_PORT_STATUS_STATE p)
def ubwRole (s : State) (p : Nat) : Nat := s.sh (F.UBW_PORT_CFG_ROLE p)
def ubwEn (s : State) (p : Nat) : Bool := s.sh (F.UBW_PORT_CFG_EN p) == 1
def ubwMismatch (s : State) (p : Nat) : Bool := s.sh (F.UBW_PORT_STATUS_MISMATCH p) == 1

/-- The timestamp point of a port (R391). -/
def ptUbw (p : Nat) : Nat := 17 + p

/-- The enabled UPSTREAM port. -/
def upPort (s : State) : Option Nat := (List.range 4).find? fun p => ubwEn s p && ubwRole s p == 1

/-- The reference slot that a port feeds: REF26 from the UPSTREAM port, REF27 from M (R403). -/
def ubwSlot (s : State) (p : Nat) : Option Nat := if p = 4 then some 27 else if ubwRole s p = 1 then some 26 else none

/-! ### Depth (R407) -/

/-- The partner's flags and depth on the UPSTREAM port while it is READY: VALID of VC0, DEPTH_VALID and depth. -/
def peerFlag (s : State) (p i : Nat) : Bool := bitOf (s.sh (F.UBW_PORT_PEER_PEER_FLAGS p)) i

/-- The depth that the upstream partner reports, where it reports one. -/
def peerDepth (s : State) : Option Nat :=
  (upPort s).bind fun p => if ubwState s p = ubREADY ∧ peerFlag s p 5 = true then some (s.sh (F.UBW_PORT_PEER_PEER_DEPTH p)) else none

def ubwRoot (s : State) : Bool := s.sh F.UBW_CTRL_ROOT == 1

/-- The node's depth, where it is defined. -/
def nodeDepth (s : State) : Option Nat :=
  if ubwRoot s then some 0 else (peerDepth s).bind fun d => if d = 255 then none else some (d + 1)

/-- NODE, ROOT_ID and STATUS follow the ports. -/
def syncNode (s : State) : State :=
  let up := upPort s
  let ex := !ubwRoot s && peerDepth s == some 255
  let d := nodeDepth s
  let t := ((s.wr 0 F.UBW_NODE_DEPTH (d.getD 0)).wr 0 F.UBW_NODE_DEPTH_VALID (b2n d.isSome)).wr 0 F.UBW_NODE_DEPTH_EXCEEDED (b2n ex)
  let t := (t.wr 0 F.UBW_NODE_UP_PORT (up.getD 0)).wr 0 F.UBW_NODE_UP_VALID (b2n up.isSome)
  let t := t.wr 0 F.UBW_STATUS ((List.range 5).foldl (fun a p => if ubwState t p = ubREADY then a + 2 ^ p else a) 0)
  let t := if ubwRoot t then (t.wr 0 F.UBW_ROOT_ID_LO (t.sh F.UBW_CLKID_LO)).wr 0 F.UBW_ROOT_ID_HI (t.sh F.UBW_CLKID_HI)
    else match up with
      | some p => t.wr64 0 F.UBW_ROOT_ID_LO F.UBW_ROOT_ID_HI (t.ubwPort p).root
      | none => t
  onlyIf (ex && s.sh F.UBW_NODE_DEPTH_EXCEEDED == 0) (post Ev.UBW_DEPTH_EXCEEDED (up.getD 0)) t

/-! ### What a port gives its reference (R404, R405, R429) -/

/-- May a port deliver: READY, no MISMATCH, no DEPTH_EXCEEDED, and the partner's VALID flag is 1 (R403)? -/
def ubwDelivers (s : State) (p : Nat) : Bool :=
  ubwState s p == ubREADY && !ubwMismatch s p && s.sh F.UBW_NODE_DEPTH_EXCEEDED == 0 && peerFlag s p 0

/-- The received QR of a port's slot: the mate's only while its Toffee state is ACTIVE. -/
def ubwQr (s : State) (p : Nat) : Nat :=
  if ubwDelivers s p && (p != 4 || s.sh F.MATE_PEER0_PEER_STATE % 4 == 3) then s.sh (F.UBW_PORT_PEER_PEER_QR p) else 15

/-- Squared standard deviation of the residuals of values about their least-squares line, the values in 2^-16 ns, the result in (2^-8 ns)². -/
def lineVar (l : List (Nat × Int)) : Rat :=
  let n : Rat := l.length
  let xm : Rat := (l.map fun e => (e.1 : Rat)).sum / n
  let ym : Rat := (l.map fun e => (e.2 : Rat) / 256).sum / n
  let sxx : Rat := (l.map fun e => ((e.1 : Rat) - xm) * (e.1 - xm)).sum
  let sxy : Rat := (l.map fun e => ((e.1 : Rat) - xm) * ((e.2 : Rat) / 256 - ym)).sum
  let syy : Rat := (l.map fun e => ((e.2 : Rat) / 256 - ym) * ((e.2 : Rat) / 256 - ym)).sum
  (syy - (if sxx = 0 then 0 else sxy * sxy / sxx)) / n

/-- The least number whose square is at least q. -/
def ceilSqrt (q : Rat) : Nat :=
  let c := (⌈q⌉).toNat
  let r := Nat.sqrt c
  if c ≤ r * r then r else r + 1

/-- SIGMA's square, once 1,000 values of θ̄ exist (R404). -/
def sigmaSq (u : UbwPort) : Option Rat := if u.means.length < 1000 then none else some (lineVar u.means)

/-- E_X of R404. -/
def exTerm (u : UbwPort) : Nat := 3 + (match sigmaSq u with
  | some v => ceilSqrt (9 * v)
  | none => 3 * 0xFFFF)

/-- REF_BOUND_BASE that a port gives its slot. -/
def ubwBoundBase (s : State) (p : Nat) : Nat :=
  let u := s.ubwPort p
  match pathTerm s (ptUbw p) s.frc with
  | some t => let b := u.bound + t + exTerm u
    if u.bound = notBounded ∨ 0xFFFFFFFFFE < b then notBounded else b
  | none => notBounded

/-- The slot of a port follows what the port last received. -/
def syncUbwRef (p : Nat) (s : State) : State :=
  match ubwSlot s p with
  | none => s
  | some n =>
    let t := s.setSlot n { s.slot n with qrRx := ubwQr s p }
    updateQr n (syncSlotBound n (t.wr64 0 (F.REF_BOUND_BASE_LO n) (F.REF_BOUND_BASE_HI n) (ubwBoundBase t p)))

/-- After any change of a port: the node, and both references. -/
def syncUbw (s : State) : State :=
  let t := syncNode s
  each ((upPort t).toList ++ [4]) syncUbwRef t

/-! ### Transitions (Table 14.3) -/

def ubwLinked (st : Nat) : Bool := st == ubALIGNED || st == ubREADY

/-- Move a port to a state: entry to ALIGNED from SEARCH is the link-up of its point, and leaving ALIGNED or READY its link-down (R396). -/
def ubwEnter (p st : Nat) (s : State) : State :=
  let old := ubwState s p
  if old = st then s
  else
    let u := s.ubwPort p
    let t := s.wr 0 (F.UBW_PORT_STATUS_STATE p) st
    let t :=
      if ubwLinked old && !ubwLinked st then
        let t := t.setUbwPort p { u with tracks := [], miss := 0, bad := 0, good := false }
        let t := calLinkDown (ptUbw p) (post Ev.UBW_ALIGN_LOST p t)
        match ubwSlot t p with
        | some n => linkLost n t
        | none => t
      else if !ubwLinked old && ubwLinked st then
        let t := t.setUbwPort p { u with tracks := [], miss := 0, bad := 0, good := false }
        let t := t.wr 0 (F.UBW_PORT_STATUS_LINK_GEN p) (t.sh (F.UBW_PORT_STATUS_LINK_GEN p) + 1)
        let t := calLinkUp (ptUbw p) (post Ev.UBW_ALIGNED p t)
        match ubwSlot t p with
        | some n => linkRestored n t
        | none => t
      else if st = ubALIGNED then t.setUbwPort p { u with good := false, bad := 0 }
      else t.setUbwPort p { u with tracks := [] }
    syncUbw t

/-- ALIGNED to READY: the point is calibrated on this link, and a good complementary message has come (Table 14.3). -/
def ubwTryReady (p : Nat) (s : State) : State :=
  if ubwState s p = ubALIGNED ∧ uncal s (ptUbw p) = false ∧ (s.ubwPort p).good = true ∧ ubwMismatch s p = false then ubwEnter p ubREADY s else s

/-- A local chain frame that is not sent: its completion. -/
def ubwTxDone (f : UbwTx) (code cause frc : Nat) (s : State) : State :=
  match f.host with
  | some h => txComplete h code cause frc s
  | none => s

/-- A block reset of UBW (R417). -/
def ubwLoss (s : State) : State :=
  let t := each (List.range 5) (fun p t =>
    let t := if ubwEn t p then ubwEnter p ubHUNT t else t
    let u := t.ubwPort p
    let t := t.setUbwPort p { u with tracks := [], delays := [], thetas := [], means := [], fwd := [], local_ := [] }
    let t := t.wr 0 (F.UBW_PORT_SIGMA_SIGMA p) 0xFFFF
    each u.local_ (fun f => ubwTxDone f Code.aborted 0 0) t) s
  tsrOff (ubwTsr 0) (tsrOff (ubwTsr 1) t)

end Sys2Proof.Machine
end

