-- ==== Sys2Proof/Machine/Loss.lean ====
section
/-! DEFINITION. What a block loses when its door is fenced for a block reset or a gate: the rule of each chapter on its work in progress. -/

namespace Sys2Proof.Machine

/-! ### Bound ledger (R97) -/

def stTok : StatRef := ⟨F.BND_TOK_STATUS_CODE, F.BND_TOK_STATUS_BUSY, none⟩

def setTokens (l : List Token) (s : State) : State :=
  { (s.wr 0 F.BND_STATUS_TOK_PENDING l.length) with bnd := { s.bnd with tokens := l } }

/-- Complete an accepted token: TOK_STATUS, BUSY and TOK_DONE (R97). -/
def tokenFinish (t : Token) (code : Nat) (s : State) : State :=
  let s := finish .bnd 0 t.counter code 0 s
  postTo Ev.BND_TOK_DONE t.win.fn 0 (setTokens (s.bnd.tokens.filter fun x => x.counter != t.counter) s)

/-- Tokens in progress at a block reset of the ledger or the key store: ABORTED_BY_RESET, and the buffer's contents are undefined:
free octets (R97). -/
def abortTokens (s : State) : State :=
  each s.bnd.tokens (fun t s =>
    let (v, s) := s.free 28672
    tokenFinish t Code.aborted (dmaWrite t.win.fn t.addr (leBytes 3584 v) s)) s

/-! ### TDC (R212) -/

def State.chan (s : State) (n : Nat) : TdcChan := tgetD s.tdc.chans n {}
def State.setChan (n : Nat) (x : TdcChan) (s : State) : State := { s with tdc := { s.tdc with chans := tset s.tdc.chans n x } }
def State.gate (s : State) (g : Nat) : TdcGate := tgetD s.tdc.gates g {}
def State.setGate (g : Nat) (x : TdcGate) (s : State) : State := { s with tdc := { s.tdc with gates := tset s.tdc.gates g x } }

def chState (s : State) (n : Nat) : Nat := s.sh (F.TDC_CH_STATUS_STATE n)

/-- STATE of a channel, and CH_ACTIVE. -/
def setChState (n st : Nat) (s : State) : State :=
  let t := s.wr 0 (F.TDC_CH_STATUS_STATE n) st
  t.wr 0 F.TDC_STATUS_CH_ACTIVE ((List.range 16).foldl (fun a i => if chState t i = 0 then a else a + 2 ^ i) 0)

/-- The ring's size in records. -/
def ringSize (s : State) (n : Nat) : Nat := 2 ^ s.sh (F.TDC_CH_RING_SIZE n)

/-- FULL: the ring is full in mode 0. -/
def ringFull (s : State) (n : Nat) : Bool := decide (ringSize s n ≤ wsub 32 (s.sh (F.TDC_CH_WR_IDX n)) (s.sh (F.TDC_CH_RD_IDX n)))

def syncFull (n : Nat) (s : State) : State :=
  s.wr 0 (F.TDC_CH_STATUS_FULL n) (b2n (ringFull s n && s.sh (F.TDC_CH_CFG_OVF_MODE n) == 0))

/-- Count dropped records. -/
def chDropped (n k : Nat) (s : State) : State :=
  if k = 0 then s else post Ev.TDC_DROPPED n (s.wr 0 (F.TDC_CH_COUNTS_DROPPED n) (s.sh (F.TDC_CH_COUNTS_DROPPED n) + k))

/-- A block reset of the TDC (R212). -/
def tdcLoss (s : State) : State :=
  let t := each (List.range 16) (fun n t =>
    let c := t.chan n
    syncFull n (setChState n 0 ((chDropped n c.fifo.length (t.setChan n { c with fifo := [], until_ := none })).wr 0 (F.TDC_CH_CFG_EN n) 0))) s
  let t := each (List.range 4) (fun g t =>
    ((t.setGate g {}).wr 0 (F.TDC_GATE_CTRL_ARMED g) 0).wr 0 (F.TDC_GATE_CTRL_OPEN g) 0) t
  let t := match t.tdc.running with
    | some (p, k) => { t with tdc := { t.tdc with
        running := none
        reqLink := if k = 0 then t.tdc.reqLink ++ [p] else t.tdc.reqLink
        reqCmd := if k = 1 then p :: t.tdc.reqCmd else t.tdc.reqCmd
        reqPer := if k = 2 then t.tdc.reqPer ++ [p] else t.tdc.reqPer } }
    | none => t
  (t.wr 0 F.TDC_STATUS_CAL_BUSY 0).wr 0 F.TDC_STATUS_CAL_POINT 0

/-! ### Commit groups (R30) -/

/-- CG14's SH fields (R285). -/
def cg14Fields : List FieldRef :=
  ((List.range 16).map fun n =>
    [F.PRT_PORT_BOARD_BOARD_TX_PS n, F.PRT_PORT_BOARD_BOARD_RX_PS n, F.PRT_PORT_ASYM n, F.PRT_PORT_VC n]).flatten

/-- CG15's SH fields (R416). -/
def cg15Fields : List FieldRef :=
  ((List.range 5).map fun p => [F.UBW_PORT_BOARD_BOARD_TX_PS p, F.UBW_PORT_BOARD_BOARD_RX_PS p, F.UBW_PORT_ASYM p]).flatten

/-- Discard the shadows and the arm of CG14. -/
def cg14Drop (s : State) : State :=
  ((dropArm 14 (dropShadows cg14Fields s)).wr 0 F.PRT_CG14_CTRL_ARM 0).wr 0 F.PRT_CG14_CTRL_ARMED 0

/-- Discard the shadows and the arm of CG15. -/
def cg15Drop (s : State) : State :=
  ((dropArm 15 (dropShadows cg15Fields s)).wr 0 F.UBW_CG15_CTRL_ARM 0).wr 0 F.UBW_CG15_CTRL_ARMED 0

/-- A reset of a block that owns commit groups discards their shadows and arms. -/
def groupLoss (b : Blk) (s : State) : State :=
  match b with
  | .srv => each [1, 2, 3, 4, 5] (fun k t => dropArm k (dropShadows [F.SRV_OD_RATE_LO k, F.SRV_OD_RATE_HI k] t)) s
  | .syn => each [6, 7, 8, 9, 10, 11, 12, 13] cgDrop s
  | .prt => cg14Drop s
  | .ubw => cg15Drop s
  | _ => s

/-- A request for RESTRUCTURE, in the door's list. -/
def stwOpRs : Nat := 2

/-- A restructure ends before its tick: its shadows are discarded, and its command, if it still runs, completes with REFUSED (R533, R535). -/
def rsDiscard (cause : Nat) (s : State) : State :=
  match s.stw.rs with
  | none => s
  | some r =>
    let t := each r.groups (fun g t =>
      if g = 0 then dropShadows cg0Fields t
      else if g < 6 then dropShadows [F.SRV_OD_RATE_LO g, F.SRV_OD_RATE_HI g] t
      else if g = 14 then cg14Drop t
      else if g = 15 then cg15Drop t
      else cgDrop g t) s
    let staged := s.sh F.STW_STATUS_RS_STATE == 2
    let t := { t with stw := { t.stw with rs := none }, hif := { t.hif with ptShadow := if staged && r.pt then t.hif.ptActive else t.hif.ptShadow } }
    finish .stw stwOpRs 0 Code.refused cause (t.wr 0 F.STW_STATUS_RS_STATE 0)

/-! ### Shared SRAM, counters and the management port -/

/-- A block reset of SHM (R484): host writes that wait are lost, and a row under test is restored and released. -/
def shmLoss (s : State) : State :=
  { (s.wr 0 F.SHM_STATUS_WALKING 0) with shmx := { s.shmx with held := [], walk := { s.shmx.walk with at_ := none } } }

def stPmc : StatRef := ⟨F.PMC_CMD_STATUS_CODE, F.PMC_CMD_STATUS_BUSY, some F.PMC_CMD_STATUS_CAUSE⟩

/-- Octets of a snapshot (Table 22.3). -/
def snapLen : Nat := 17472

/-- A block reset of PMC (R585): a snapshot in progress is aborted and its buffer's contents are undefined; one not yet started
completes with BLOCK_ABSENT. -/
def pmcLoss (s : State) : State :=
  match s.pmc.snap with
  | none => s
  | some p =>
    let t := { (s.wr 0 F.PMC_STATUS_SNAP_BUSY 0) with pmc := { s.pmc with snap := none } }
    if p.taken.isSome then
      let r := t.free (8 * snapLen)
      complete stPmc p.win Code.aborted 0 (dmaWrite p.win.fn p.addr (leBytes snapLen r.1) r.2)
    else complete stPmc p.win Code.blockAbsent 0 t

/-- The management link goes DOWN (R588). -/
def mgpDown (s : State) : State :=
  if s.sh F.MGP_STATUS_LINK_UP = 0 then s else calLinkDown 22 (post Ev.MGP_LINK_DOWN 0 (s.wr 0 F.MGP_STATUS_LINK_UP 0))

/-- A block reset of MGP (R598). -/
def mgpLoss (s : State) : State :=
  each [0, 1] (fun d t => (t.wr 0 (F.MGP_RING_CFG_EN d) 0).wr 0 (F.MGP_TSR_CFG_EN d) 0) { (mgpDown s).wr 0 F.MGP_MDIO_BUSY 0 with mgp := { s.mgp with mdio := none } }

/-! ### All blocks -/

/-- The state that a block reset, or the application of a GATE, discards in a block (the block-reset rule of its chapter). -/
def blockLoss (b : Blk) (s : State) : State :=
  let s := groupLoss b s
  match b with
  | .bnd => abortTokens s
  | .ks => abortTokens s
  | .tdc => tdcLoss s
  | .gn => gnLoss s
  | .prt => prtLoss s
  | .sve => sveLoss s
  | .sch => schLoss s
  | .ubw => ubwLoss s
  | .shm => shmLoss s
  | .pmc => pmcLoss s
  | .mgp => mgpLoss s
  | _ => s

end Sys2Proof.Machine
end

