-- ==== Sys2Proof/Machine/VcStep.lean ====
section
/-! DEFINITION. What a step of a virtual clock's time does to the pulse outputs that follow it (R179), and which output pins are driven. -/

namespace Sys2Proof.Machine

def State.po (s : State) (n : Nat) : PulseOut := tgetD s.out.pos n {}
def State.setPo (n : Nat) (p : PulseOut) (s : State) : State := { s with out := { s.out with pos := tset s.out.pos n p } }
def State.clk (s : State) (n : Nat) : ClkOut := tgetD s.out.clks n {}
def State.setClk (n : Nat) (c : ClkOut) (s : State) : State := { s with out := { s.out with clks := tset s.out.clks n c } }

/-- P of R179 in ns. -/
def PoVals.p (v : PoVals) : Nat := if v.kind = 0 then 1000000000 else if v.kind = 1 then 2000000000 else v.period

/-- A sum of steps reduced into [-P/2, P/2), in 2^-16 ns. -/
def misalignOf (v : PoVals) (offs : Int) : Int :=
  let p : Int := v.p * 2 ^ 48
  let x := offs % p
  (if p ≤ 2 * x then x - p else x) / 2 ^ 32

/-- MISALIGN and MISALIGNED follow the steps. -/
def syncMisalign (n : Nat) (s : State) : State :=
  let p := s.po n
  let m := misalignOf p.cur p.offs
  let was := s.sh (F.OUT_PO_STATUS_MISALIGNED n)
  let t := (s.wr64 0 (F.OUT_PO_MISALIGN_LO n) (F.OUT_PO_MISALIGN_HI n) (uns 64 m)).wr 0 (F.OUT_PO_STATUS_MISALIGNED n) (b2n (m != 0))
  onlyIf (was == 0 && m != 0) (post Ev.OUT_PO_MISALIGN n) t

/-- Does a pulse output's clock step when clock n steps? A clock that is not RATIFIED moves with its parent VC0. -/
def stepsWith (s : State) (vc n : Nat) : Bool :=
  vc == n || (n == 0 && (s.vc vc).par.parentVc0 && (s.vc vc).state != .ratified)

/-- Clock n's time stepped by `d` (2^-48 ns) at a tick: each pending pulse keeps its instant, and MISALIGN takes the step (R179). -/
def vcStepped (n tick : Nat) (d : Int) (s : State) : State :=
  if d = 0 then s
  else each (List.range 8) (fun i t =>
    let p := t.po i
    if p.next.isSome && stepsWith t p.cur.vc n then
      syncMisalign i (t.setPo i { p with offs := p.offs + d, offPrev := some (tick, p.offs) })
    else t) s

/-- May a pin be driven: not in the safe state, P3 or P4, and a shared net only while the mate logic allows it (R187, R189)? -/
def mayDrive (s : State) (shared : Bool) : Bool := !s.safe && decide (s.pwr.deep ≤ 2) && (!shared || s.sh F.OUT_STATUS_SHARED_DRIVE == 1)

/-- DRIVING of every output follows the causes (R187, R189). -/
def syncDriving (s : State) : State :=
  let a := each (List.range 20) (fun n t =>
    let c := t.clk n
    t.wr 0 (F.OUT_CLK_STATUS_DRIVING n) (b2n (mayDrive t c.cur.shared && (c.run || c.cur.stop != 2)))) s
  each (List.range 8) (fun n t =>
    t.wr 0 (F.OUT_PO_STATUS_DRIVING n) (b2n (mayDrive t (t.po n).cur.shared && (t.po n).cur.en))) a

end Sys2Proof.Machine
end

