-- ==== Sys2Proof/Machine/MateCore.lean ====
section
/-! DEFINITION. The mate state and the drive of the shared nets (R187, R421, R425, R426). -/

namespace Sys2Proof.Machine

/-- SHARED_DRIVE changes; each shared stage goes to high-Z or drives its present level (R187). -/
def setSharedDrive (b : Bool) (s : State) : State :=
  if s.sh F.OUT_STATUS_SHARED_DRIVE = b2n b then s
  else post Ev.OUT_DRIVE_CHANGE 0 (syncDriving (s.wr 0 F.OUT_STATUS_SHARED_DRIVE (b2n b)))

/-! States of Table 15.8. -/
def mtOUT : Nat := 0
def mtSTANDBY : Nat := 1
def mtHOLD : Nat := 2
def mtACTIVE : Nat := 3

def mateState (s : State) : Nat := s.sh F.MATE_STATUS_STATE

/-- Enter a mate state: the unit drives exactly while it is ACTIVE, and the hold-off runs from each entry to HOLD (R425, R426). -/
def mateEnter (st : Nat) (s : State) : State :=
  let old := mateState s
  if old = st then s
  else
    let t := ((s.wr 0 F.MATE_STATUS_STATE st).wr 0 F.MATE_STATUS_DRIVING (b2n (st == mtACTIVE))).wr 0 F.MATE_STATUS_TAKE 0
    let hold := if st = mtHOLD then some (t.frc + t.sh F.MATE_CTRL_HOLDOFF_S * ticksPerSec) else none
    let t := { t with mate := { t.mate with holdEnd := hold, leaving := false } }
    let t := post Ev.MATE_STATE_CHANGE 0 (setSharedDrive (st == mtACTIVE) t)
    let t := onlyIf (st == mtACTIVE) (fun t => post Ev.MATE_TAKE_OVER 0 (t.wr 0 F.MATE_COUNTS_SWITCHES (t.sh F.MATE_COUNTS_SWITCHES + 1))) t
    onlyIf (old == mtACTIVE) (post Ev.MATE_YIELD 0) t

/-- The claim becomes 0 at once: the safe state (R23, R421). A unit without a mate only stops driving. -/
def claimZero (s : State) : State := setSharedDrive false (mateEnter mtOUT (s.wr 0 F.MATE_STATUS_CLAIM 0))

end Sys2Proof.Machine
end

