-- ==== Sys2Proof/Machine/Faults.lean ====
section
/-! DEFINITION. A hit of a fault source: log record, reactions, block reset, safe state and chip reset (R559 to R573). -/

namespace Sys2Proof.Machine

/-- One hit: a source, its info field and its detail. `dry` marks a MODE 0 injection (R573), `primary` the READY_TIMEOUT that
R567 raises as a primary fault. -/
structure Hit where
  src : Nat
  obj : Nat := 0
  detail : Nat := 0
  injected : Bool := false
  dry : Bool := false
  primary : Bool := false
  deriving DecidableEq, Repr

/-- The block of a source (R559). -/
def srcBlk (src : Nat) : Blk := (Blk.ofCode (src / 64)).getD .flt

/-- FAULT_N is driven low while FAULTN_LATCH is 1 or in the safe state, once Proofing has reached step 7 (R564). -/
def pinFaultN (s : State) : State :=
  s.wr 0 F.FLT_STATUS_FAULT_N
    (b2n (s.sh F.RST_STATUS_PROOF_DONE == 1 && (s.sh F.FLT_CTRL_FAULTN_LATCH == 1 || s.safe)))

/-- The latest open shadow that covers a source (R568). -/
def coverOf (s : State) (src : Nat) : Option Shadow :=
  s.flt.shadows.reverse.find? fun sh =>
    sh.blk == srcBlk src || (((srcDesc src).map (·.cascade)).getD false && (dependents sh.blk).contains (srcBlk src))

/-- Has a block already been block-reset BR_LIMIT times within BR_WINDOW_MS (R565)? -/
def escalates (s : State) (b : Blk) : Bool :=
  let win := ticksOfMs (s.sh F.FLT_BR_LIMIT_BR_WINDOW_MS)
  decide (s.sh F.FLT_BR_LIMIT_BR_LIMIT ≤ ((tgetD s.flt.resetTimes b.code []).filter fun t => decide (s.frc < t + win)).length)

/-- A hit with its configuration in force, the shadow that makes it secondary, and whether its reaction acts at all. -/
structure Judged where
  hit : Hit
  cfg : Nat
  cover : Option Shadow
  acting : Bool
  esc : Bool
  deriving DecidableEq, Repr

def Judged.rc (j : Judged) : Nat := bits j.cfg 3 7

/-- STW APPLY (R531), whose reaction acts during the Proofing that raises it. -/
def srcAPPLY : Nat := 1152

/-- Judge one hit in the state before the cycle's reactions (R562, R563, R568). A hit with EN = 0 is not judged. -/
def judge (s : State) (h : Hit) : Option Judged :=
  let cfg := if h.src == 1344 then srcDefault 1344 else s.srcCfg h.src
  if !bitOf cfg 0 then none
  else
    let cover := if bitOf cfg 8 || h.primary then none else coverOf s h.src
    let blocked := s.safe || (s.sh F.RST_STATUS_PROOF_DONE == 0 && h.src != srcAPPLY)
    some ⟨h, cfg, cover, cover.isNone && !blocked, bitOf cfg 5 && escalates s (srcBlk h.src)⟩

/-- The combined reaction of the acting hits of one cycle: safe state, chip reset, COLD (R563). -/
def combined (l : List Judged) : Bool × Bool × Bool :=
  (l.any fun j => bitOf j.rc 5, l.any fun j => bitOf j.rc 3 || j.esc, l.any fun j => bitOf j.rc 3 && bitOf j.rc 6)

/-- The reaction bits of a hit that apply under the combined reaction of its cycle, and ESCALATED (R563, R565). -/
def applied (j : Judged) (safe chip : Bool) : Nat × Bool :=
  let add := j.rc &&& (rINT ||| rNMI ||| rFAULTN)
  if safe then (add ||| (j.rc &&& rSAFE), false)
  else if chip then
    (add ||| (j.rc &&& (rCHIP ||| rCOLD)) ||| (if j.esc then rCHIP else 0), j.esc)
  else (add ||| (j.rc &&& rBLK), false)

/-- The octets of a record (Table 21.6). -/
def FltRec.octets (r : FltRec) : Octets :=
  leBytes 8 r.frc ++ leBytes 4 r.seq ++ leBytes 2 r.source ++
  oct [r.sev + 4 * b2n r.integrity + 8 * b2n r.secondary + 16 * b2n r.injected + 32 * b2n r.escalated +
        64 * b2n r.extended + 128 * b2n r.lostBefore, r.reaction] ++
  leBytes 4 r.primary ++ leBytes 2 r.obj ++ leBytes 2 r.gen ++ leBytes 8 r.detail

/-- Copy a record to FLT_LAST (R570). -/
def writeLast (r : FltRec) (s : State) : State :=
  each (List.range 8) (fun w t => t.wr 0 (F.FLT_LAST w) (ofLe (slice r.octets (4 * w) 4))) s

/-- Put a record into the FIFO, or lose it (R569). -/
def logRecord (r : FltRec) (s : State) : State :=
  let t := onlyIf (bitOf r.reaction 3 || bitOf r.reaction 5) (writeLast r) s
  let t := { t with flt := { t.flt with seq := (t.flt.seq + 1) % 2 ^ 32 } }
  if 64 ≤ t.flt.fifo.length then
    post Ev.FLT_LOG_LOST 1345
      { (t.wr 0 F.FLT_STATUS_LOST (t.sh F.FLT_STATUS_LOST + 1)) with flt := { t.flt with lostBefore := true } }
  else
    let u := { t with flt := { t.flt with fifo := t.flt.fifo ++ [{ r with lostBefore := t.flt.lostBefore }], lostBefore := false } }
    u.wr 0 F.FLT_STATUS_FIFO u.flt.fifo.length

/-- The door generation after the increment that a reset now under way makes (R33, bytes 22–23 of Table 21.6). -/
def genAfter (s : State) (b : Blk) : Nat :=
  if s.sh (F.FLT_BLK_STATUS_DOOR b.code) == 2 then s.gen b else if s.gen b == 0xFFFF then 1 else s.gen b + 1

/-- The record of a judged hit. -/
def recordOf (s : State) (j : Judged) (ap : Nat × Bool) : FltRec :=
  let b := srcBlk j.hit.src
  let blk := bitOf ap.1 2
  { frc := s.frc, seq := s.flt.seq, source := j.hit.src, sev := bits j.cfg 1 2
    integrity := ((srcDesc j.hit.src).map (·.integrity)).getD false
    secondary := j.cover.isSome, injected := j.hit.injected, escalated := ap.2
    extended := blk && s.sh (F.FLT_BLK_STATUS_DOOR b.code) != 0
    reaction := ap.1
    primary := match j.cover with
      | some sh => sh.primary.getD s.flt.seq
      | none => s.flt.seq
    obj := j.hit.obj % 2 ^ 16, gen := if blk then genAfter s b else 0, detail := j.hit.detail % 2 ^ 64 }

/-- NMI: the FAULT event to the rings of PF1, of the steward and, in DEVELOP, of PF0, whatever FLT_EVT_EN holds (R564). -/
def nmiPost (src : Nat) (s : State) : State :=
  let fns := [1, stewardFn] ++ (if s.develop then [0] else [])
  each fns (fun fn t => erWrite Ev.FLT_FAULT t.frc src [] (fn + 1) (setFlag Ev.FLT_FAULT (fn + 1) t))
    (count Ev.FLT_FAULT.ctr src 1 s)

/-- Set FAULTN_LATCH (R564, R579). -/
def faultnSet (src : Nat) (s : State) : State :=
  pinFaultN (count Ct.FLT_FAULTN_SET src 1 (s.wr 0 F.FLT_CTRL_FAULTN_LATCH 1))

/-- The additive reactions of an applied hit (R564, R565). INT and NMI together post the event once to each ring. -/
def additive (j : Judged) (ap : Nat × Bool) (s : State) : State :=
  let src := j.hit.src
  let nm := bitOf ap.1 1
  let s1 := if bitOf ap.1 0 then
      (if nm then
        let t := setFlagAll Ev.FLT_FAULT (count Ev.FLT_FAULT.ctr src 1 s)
        let forced : Nat → Bool := fun c => c == 2 || c == stewardFn + 1 || (c == 1 && s.develop)
        each ((erCopies t).filter fun c => evEnabled t c Ev.FLT_FAULT || forced c) (erWrite Ev.FLT_FAULT t.frc src []) t
      else post Ev.FLT_FAULT src s)
    else if nm then nmiPost src s else s
  let s2 := onlyIf (bitOf ap.1 4) (faultnSet src) s1
  onlyIf ap.2 (post Ev.FLT_ESCALATED (src / 64)) s2

/-- The count of open shadows (FLT_STATUS.SHADOWS) and the SHADOW bit of each block. -/
def syncShadows (b : Blk) (s : State) : State :=
  (s.wr 0 F.FLT_STATUS_SHADOWS s.flt.shadows.length).wr 0 (F.FLT_BLK_STATUS_SHADOW b.code)
    (b2n (s.flt.shadows.any fun sh => sh.blk == b))

/-- Abort every accepted request of a block, in acceptance order (R35). -/
def abortRequests (b : Blk) (s : State) : State :=
  each (s.reqs.filter fun r => r.blk == b) (fun r => complete r.stat r.win Code.aborted 0)
    { s with reqs := s.reqs.filter fun r => r.blk != b }

/-- READY_TIMEOUT_MS from now. -/
def startTimer (b : Blk) (s : State) : State :=
  let tm : ReadyTimer := ⟨s.frc + ticksOfMs (s.sh (F.FLT_BLK_CFG b.code)), false⟩
  { s with flt := { s.flt with timers := tset s.flt.timers b.code tm } }

/-- A block reset ordered now (R35 to R38, R566, R567): fence, abort and shadow, or the extension of a reset under way. -/
def orderBlockReset (b : Blk) (primary : Option Nat) (s : State) : State :=
  if s.sh (F.PWR_BLK_GATED b.code) == 1 then s
  else if s.sh (F.FLT_BLK_STATUS_DOOR b.code) != 0 then
    onlyIf (((tget s.flt.timers b.code).map (·.fired)).getD true) (startTimer b) s
  else
    let t := abortRequests b (s.wr 0 (F.FLT_BLK_STATUS_DOOR b.code) 1)
    let t := blockLoss b t
    let times := t.frc :: tgetD t.flt.resetTimes b.code []
    let t := { t with flt := { t.flt with
        shadows := t.flt.shadows ++ [Shadow.mk b primary], resetTimes := tset t.flt.resetTimes b.code times } }
    let t := t.wr 0 (F.FLT_BLK_STATUS_RESETS b.code) (t.sh (F.FLT_BLK_STATUS_RESETS b.code) + 1)
    post Ev.FLT_BLOCK_RESET b.code (startTimer b (syncShadows b t))

/-- Close the shadows of a block. -/
def closeShadow (b : Blk) (s : State) : State :=
  syncShadows b { s with flt := { s.flt with shadows := s.flt.shadows.filter fun sh => sh.blk != b } }

/-- The safe state (R572): claim 0, heartbeat low, outputs high-Z, no new frames, FAULT_N low, steward halted. The other blocks read
`State.safe`. -/
def enterSafe (src : Nat) (s : State) : State :=
  if s.safe then s
  else onlyIf (s.sh F.STW_STATUS_RS_STATE != 3) (rsDiscard 0) <| claimZero (syncDriving (pinFaultN (count Ct.FLT_SAFE_ENTRY src 1 ((s.wr 0 F.FLT_STATUS_SAFE 1).wr 0 F.OUT_STATUS_SAFE 1))))

/-- Set a source's latch bit and count its hit (R562, R577). -/
def latchHit (h : Hit) (s : State) : State :=
  count h.src h.obj 1 (s.wr 0 (F.FLT_GRP_LATCH (h.src / 32))
    (setBitN (s.sh (F.FLT_GRP_LATCH (h.src / 32))) (h.src % 32)))

/-- The seq of the first record in which a block's BLK_RST is applied. -/
def firstBlk (b : Blk) (l : List (Judged × Nat × Nat)) : Option Nat :=
  (l.find? fun e => srcBlk e.1.hit.src == b && bitOf e.2.1 2 && !e.1.hit.dry).map (·.2.2)

/-- The hits of one cycle, ascending (R563): latched, judged, logged, and their combined reaction applied. `lost` is what the loss
of a record other than LOG_LOST's own raises. -/
def hitsWith (lost : State → State) (l : List Hit) (s : State) : State :=
  let s1 := each l latchHit s
  let js := l.filterMap (judge s)
  let real := js.filter fun j => j.acting && !j.hit.dry
  let (safe, chip, cold) := combined real
  let apOf : Judged → Nat × Bool := fun j =>
    if !j.acting then (0, false)
    else if j.hit.dry then let c := combined (real ++ [j]); applied j c.1 c.2.1
    else applied j safe chip
  let s2 := each js (fun j t => logRecord (recordOf t j (apOf j)) t) s1
  let seqs := (js.zipIdx).map fun e => (e.1, (apOf e.1).1, (s1.flt.seq + e.2) % 2 ^ 32)
  let s3 := each real (fun j => additive j (apOf j)) s2
  let s4 := onlyIf (s2.sh F.FLT_STATUS_LOST != s1.sh F.FLT_STATUS_LOST && !(l.all fun h => h.src == 1345)) lost s3
  if safe then enterSafe ((real.find? fun j => bitOf j.rc 5).map (·.hit.src) |>.getD 0) s4
  else if chip then chipReset 6 (if cold then .cold else .warm) s4
  else
    let blks := (real.filter fun j => bitOf (apOf j).1 2).map (fun j => srcBlk j.hit.src)
    each blks.dedup (fun b => orderBlockReset b (firstBlk b seqs)) s4

/-- The hits of one cycle. A lost record raises LOG_LOST, whose own record is then lost as well (R569). -/
def hits (l : List Hit) (s : State) : State := hitsWith (hitsWith id [{ src := 1345 }]) l s

/-- One hit of a source. -/
def raise (src obj detail : Nat) (s : State) : State := hits [{ src := src, obj := obj, detail := detail }] s

end Sys2Proof.Machine
end

