-- ==== Sys2Proof/Machine/Timebase.lean ====
section
/-! DEFINITION. The timebase and its virtual clocks (chapter "Timebase and Virtual Clocks", R45 to R82), and the arming of commit
groups (R25 to R28). -/

namespace Sys2Proof.Machine

/-! ### Commit groups -/

/-- The arm that a trigger kind gives at acceptance (Table 1.3), or none where it is refused (R26). `time` is the FRC_TIME value,
`boundary` the first tick of BLOCK_BOUNDARY, where the group's boundaries have known ticks. -/
def armOf (s : State) (kind time boundary : Nat) : Option CgArm :=
  match kind with
  | 0 => some ⟨0, s.frc + 64, 0⟩
  | 1 => if time < s.frc + 64 then none else some ⟨1, time, 0⟩
  | 2 => some ⟨2, s.frc + 64, (vc0Time s (32 * (s.frc + 63)) / secU + 1) * secU⟩
  | _ => some ⟨3, boundary, 0⟩

/-- Is a tick the commit instant of an arm (Table 1.3)? For BLOCK_BOUNDARY the owning block says where its boundaries fall. -/
def isCommitTick (s : State) (a : CgArm) (tick : Nat) (boundary : Nat → Bool) : Bool :=
  match a.kind with
  | 0 | 1 => tick == a.tick
  | 2 => decide (a.tick ≤ tick) && decide (a.sec ≤ vc0Time s (32 * tick)) &&
      (tick == a.tick || decide (vc0Time s (32 * (tick - 1)) < a.sec))
  | _ => decide (a.tick ≤ tick) && boundary tick

/-- An ordinary write at a block's door: discarded and recorded where the door is not OPEN (R608), without effect in the safe state. -/
def writeAtDoor (b : Blk) (fn off : Nat) (body : State → State) (s : State) : State :=
  if s.safe then s
  else if !s.doorOpen b then accFail fn Code.blockAbsent (b.code * 0x4000 + off) s
  else if s.rsHolds b fn then postTo (Ev.authOf b) fn 0 s
  else body s

/-- Is a block's door FENCED or ABSENT? -/
def State.fenced (s : State) (b : Blk) : Bool := s.sh (F.FLT_BLK_STATUS_DOOR b.code) != 0

/-- The first tick of CG0's BLOCK_BOUNDARY: bits [15:0] zero, at least 64 ticks ahead (R63). -/
def cg0Boundary (s : State) : Nat := ceilDiv (s.frc + 64) 65536 * 65536

/-- A write of TB_CG0_CTRL (R26, R28, R63, R80). -/
def writeCg0Ctrl (fn kind : Nat) (arm abort : Bool) (s : State) : State :=
  writeAtDoor .tb fn 0x28 (fun s =>
    if !s.secureSt fn then
      onlyIf (arm || abort || kind % 4 != s.sh F.TB_CG0_CTRL_KIND) (postTo Ev.TB_AUTH_REFUSED fn 0) s
    else
      let s := s.wr 0 F.TB_CG0_CTRL_KIND kind
      if (arm || abort) && s.rsHoldsGroup 0 then post Ev.TB_CG0_REFUSED 0 s
      else if abort then ((dropArm 0 (dropShadows cg0Fields s)).wr 0 F.TB_CG0_CTRL_ARM 0).wr 0 F.TB_CG0_CTRL_ARMED 0
      else if arm then
        match armOf s (kind % 4) (s.rd64 0 F.TB_CG0_TIME_LO F.TB_CG0_TIME_HI) (cg0Boundary s) with
        | some a => ((setArm 0 a s).wr 0 F.TB_CG0_CTRL_ARM 1).wr 0 F.TB_CG0_CTRL_ARMED 1
        | none => post Ev.TB_CG0_REFUSED 0 s
      else s) s

/-- CG0_ARM: ARM written as 1 with a trigger kind. -/
def execCg0Arm (fn : Fn) (kind : Fin 4) (s : State) : Host.Outcome State Fault Refusal :=
  .next (writeCg0Ctrl fn.val kind.val true false s)

/-- CG0_ABORT: ABORT written as 1; an ARM in the same write has no effect (R28). -/
def execCg0Abort (fn : Fn) (kind : Fin 4) (arm : Bool) (s : State) : Host.Outcome State Fault Refusal :=
  .next (writeCg0Ctrl fn.val kind.val arm true s)

/-! ### Reads and captures -/

/-- A read of TB_FRC_LO into a copy. -/
def readFrcLo (c : Nat) (s : State) : State := (s.wr c F.TB_FRC_LO s.frc).wr c F.TB_FRC_HI (s.frc / 2 ^ 32)

/-- TB_FRC_LO_READ: returns FRC[31:0] and latches FRC[63:32] for the reader (R47). -/
def execTbFrcLoRead (fn : Fn) (s : State) : Host.Outcome State Fault Refusal :=
  .next (readFrcLo (fn.val + 1) s)

/-- May a function read or capture a clock (Table 2.5)? -/
def vcReadable (s : State) (n fn : Nat) : Bool :=
  n == 0 || s.secureSt fn || tenantOf fn == (s.vc n).owner || tenant0 fn

/-- LEAP_SECOND of a clock. -/
def vcStatusBits (v : Vc) : Nat :=
  vcCode v.state + 8 * b2n (v.par.pAdj != 0) + 16 * b2n (v.par.pRamp != 0) + 32 * b2n v.leapUntil.isSome

/-- The capture registers other than SEQ and STATUS. -/
def capFields : List FieldRef :=
  [F.TB_CAP_FRC_LO, F.TB_CAP_FRC_HI, F.TB_CAP_TIME0_FRAC, F.TB_CAP_TIME0_NS, F.TB_CAP_TIME1_NS, F.TB_CAP_TIME1_SEC,
   F.TB_CAP_TIME2, F.TB_CAP_BOUND_LO, F.TB_CAP_BOUND_HI]

/-- Store a T96 in the layout of TB_CAP_TIME0 to TB_CAP_TIME2. -/
def wrCapTime (c t : Nat) (s : State) : State :=
  each [(F.TB_CAP_TIME0_FRAC, t), (F.TB_CAP_TIME0_NS, t / 2 ^ 16), (F.TB_CAP_TIME1_NS, t / 2 ^ 32),
    (F.TB_CAP_TIME1_SEC, t / 2 ^ 48), (F.TB_CAP_TIME2, t / 2 ^ 64)] (fun e s => s.wr c e.1 e.2) s

/-- A capture of a clock into a window (R76, R80). SEQ increments last. -/
def capture (w : Win) (n : Nat) (s : State) : State :=
  let seq := s.rd w.c F.TB_CAP_SEQ
  let v := s.vc n
  let t :=
    if vcReadable s n w.fn then
      let t := (s.wr w.c F.TB_CAP_STATUS_STATE (vcCode v.state)).wr w.c F.TB_CAP_STATUS_VALID (b2n (v.state == .ratified))
      let t := (t.wr w.c F.TB_CAP_STATUS_SLEWING (b2n (v.par.pAdj != 0))).wr w.c F.TB_CAP_STATUS_RAMPING (b2n (v.par.pRamp != 0))
      let t := (t.wr w.c F.TB_CAP_STATUS_LEAP_SECOND (b2n v.leapUntil.isSome)).wr w.c F.TB_CAP_STATUS_REFUSED 0
      let t := (t.wr w.c F.TB_CAP_STATUS_VC n).wr64 w.c F.TB_CAP_FRC_LO F.TB_CAP_FRC_HI s.frc
      (wrCapTime w.c (t96 (vcTime s n (32 * s.frc))) t).wr64 w.c F.TB_CAP_BOUND_LO F.TB_CAP_BOUND_HI (bound s n s.frc 0 qTick)
    else
      let t := each (capFields ++ [F.TB_CAP_STATUS_STATE, F.TB_CAP_STATUS_VALID, F.TB_CAP_STATUS_SLEWING, F.TB_CAP_STATUS_RAMPING,
        F.TB_CAP_STATUS_LEAP_SECOND, F.TB_CAP_STATUS_VC]) (fun f s => s.wr w.c f 0) s
      t.wr w.c F.TB_CAP_STATUS_REFUSED 1
  t.wr w.c F.TB_CAP_SEQ (seq + 1)

/-- A write of START to TB_CAP_CTRL. -/
def opCapture (w : Win) (n : Nat) (s : State) : State := writeAtDoor .tb w.fn 0x40 (capture w n) s

/-- TB_CAPTURE: START written to TB_CAP_CTRL (R76). -/
def execTbCapture (fn : Fn) (vc : Fin 1024) (s : State) : Host.Outcome State Fault Refusal :=
  .next (opCapture ⟨fn.val, fn.val + 1⟩ vc.val s)

/-- The latched parameter registers (Table 2.16). -/
def latchFields : List FieldRef :=
  [F.VC_BASE0, F.VC_BASE1, F.VC_BASE2, F.VC_BASE_XFRAC, F.VC_FRCBASE_LO, F.VC_FRCBASE_HI, F.VC_ANCHOR0, F.VC_ANCHOR1, F.VC_ANCHOR2,
   F.VC_RATE_LO, F.VC_RATE_HI, F.VC_SCHED_RATE_LO, F.VC_SCHED_RATE_HI, F.VC_ADJ_REMAIN_LO, F.VC_ADJ_REMAIN_HI, F.VC_RAMP_REMAIN_LO,
   F.VC_RAMP_REMAIN_HI, F.VC_ADJ_SLOPE, F.VC_RAMP_SLOPE_LO, F.VC_RAMP_SLOPE_HI, F.VC_SCHED_SLOTS_STATES, F.VC_SCHED_SLOTS_KINDS] ++
    ((List.range 8).map fun i => [F.VC_SLOT_TICK_LO i, F.VC_SLOT_TICK_HI i]).flatten

/-- Empty a window's parameter latch: its registers read 0 (R82). -/
def emptyLatch (c : Nat) (s : State) : State :=
  each latchFields (fun f s => s.wr c f 0) s

/-- A write of VC_SEL: it empties the latch (R82). -/
def writeVcSel (w : Win) (n : Nat) (s : State) : State :=
  writeAtDoor .tb w.fn 0x100 (fun s => emptyLatch w.c (s.wr w.c F.VC_SEL n)) s

/-- VC_SEL_WRITE. -/
def execVcSelWrite (fn : Fn) (vc : Fin 1024) (s : State) : Host.Outcome State Fault Refusal :=
  .next (writeVcSel ⟨fn.val, fn.val + 1⟩ vc.val s)

/-- A slot of a clock. -/
def Vc.slot (v : Vc) (i : Nat) : VcSlot := tgetD v.slots i {}

/-- A read of VC_BASE0 latches the whole parameter set of the selected clock (R82). A clock that the reader may not read gives 0. -/
def readVcBase0 (w : Win) (s : State) : State :=
  let n := s.rd w.c F.VC_SEL
  if !vcReadable s n w.fn then emptyLatch w.c s
  else
    let p := (s.vc n).par
    let b := t96 p.b
    let a := t96 p.a
    let s := ((s.wr w.c F.VC_BASE0 b).wr w.c F.VC_BASE1 (b / 2 ^ 32)).wr w.c F.VC_BASE2 (b / 2 ^ 64)
    let s := (s.wr w.c F.VC_BASE_XFRAC (p.b % 2 ^ 32).toNat).wr64 w.c F.VC_FRCBASE_LO F.VC_FRCBASE_HI p.f
    let s := if p.parentVc0 then ((s.wr w.c F.VC_ANCHOR0 a).wr w.c F.VC_ANCHOR1 (a / 2 ^ 32)).wr w.c F.VC_ANCHOR2 (a / 2 ^ 64)
      else ((s.wr w.c F.VC_ANCHOR0 0).wr w.c F.VC_ANCHOR1 0).wr w.c F.VC_ANCHOR2 0
    let s := (s.wr64 w.c F.VC_RATE_LO F.VC_RATE_HI (uns 48 p.r)).wr64 w.c F.VC_SCHED_RATE_LO F.VC_SCHED_RATE_HI (uns 48 p.s)
    let s := (s.wr64 w.c F.VC_ADJ_REMAIN_LO F.VC_ADJ_REMAIN_HI (uns 64 (p.pAdj / 2 ^ 32))).wr64 w.c F.VC_RAMP_REMAIN_LO
      F.VC_RAMP_REMAIN_HI (uns 64 (p.pRamp / 2 ^ 32))
    let s := (s.wr w.c F.VC_ADJ_SLOPE p.adjPpb).wr64 w.c F.VC_RAMP_SLOPE_LO F.VC_RAMP_SLOPE_HI (uns 48 p.sRamp)
    let sl := (s.vc n).slot
    let s := s.wr w.c F.VC_SCHED_SLOTS_STATES ((List.range 8).map fun i => (sl i).state * 4 ^ i).sum
    let s := s.wr w.c F.VC_SCHED_SLOTS_KINDS ((List.range 8).map fun i => (sl i).kind * 4 ^ i).sum
    each (List.range 8) (fun i s => s.wr64 w.c (F.VC_SLOT_TICK_LO i) (F.VC_SLOT_TICK_HI i) (sl i).tick) s

/-- VC_BASE0_READ. -/
def execVcBase0Read (fn : Fn) (s : State) : Host.Outcome State Fault Refusal :=
  .next (readVcBase0 ⟨fn.val, fn.val + 1⟩ s)

/-! ### The command window -/

def stVc : StatRef := ⟨F.VC_CMD_STATUS_CODE, F.VC_CMD_STATUS_BUSY, none⟩

/-- A write to VC_CMD (R81). -/
def vcCommand (w : Win) (body : Nat → State → State) (s : State) : State :=
  command .tb stVc Ev.TB_CMD_OVERRUN w (fun s => body (s.rd w.c F.VC_SEL) s) s

def vcOk (w : Win) (s : State) : State := completeOk stVc w s
def vcRefuse (w : Win) (s : State) : State := refuse stVc w 0 s

/-- An operand of the window: ARG i, and the pair i, i + 1. -/
def vcArg (s : State) (w : Win) (i : Nat) : Nat :=
  s.rd w.c (match i with
    | 0 => F.VC_ARG0 | 1 => F.VC_ARG1 | 2 => F.VC_ARG2 | 3 => F.VC_ARG3 | 4 => F.VC_ARG4 | _ => F.VC_ARG5)

def vcArg2 (s : State) (w : Win) (i : Nat) : Nat := vcArg s w i + 2 ^ 32 * vcArg s w (i + 1)

/-- The tick of a trigger, or none where it is refused: IMMEDIATE the first tick at least 64 ahead, FRC_TIME the tick in ARG4 and
ARG5 (R81). -/
def vcTrigger (s : State) (w : Win) (frcTime : Bool) : Option Nat :=
  if frcTime then (if vcArg2 s w 4 < s.frc + 64 then none else some (vcArg2 s w 4)) else some (s.frc + 64)

/-- May a function issue SET, ABORT or ADJUST, and on other clocks RATE and SCHED_* (Table 2.5)? -/
def vcMay (s : State) (n fn : Nat) : Bool := s.secureSt fn || (n != 0 && tenantOf fn == (s.vc n).owner)

/-- SET (R16, R56, R58, R59). -/
def opVcSet (w : Win) (offset frcTime : Bool) (s : State) : State :=
  vcCommand w (fun n s =>
    let v := s.vc n
    let value : Int := if offset then sgn 64 (vcArg2 s w 0) else (linOfT96 (vcArg2 s w 0 + 2 ^ 64 * vcArg s w 2) : Int)
    if !vcMay s n w.fn || (n == 0 && w.fn == stewardFn && !v.stepAuto) then vcRefuse w s
    else if v.state = .ratified then vcRefuse w (postTo Ev.TB_LOCKED_WRITE w.fn n s)
    else if !offset && !t96Valid (vcArg2 s w 0 + 2 ^ 64 * vcArg s w 2) then vcRefuse w s
    else if v.par.parentVc0 && (s.vc 0).state != .ratified then vcRefuse w s
    else match vcTrigger s w frcTime with
      | none => vcRefuse w s
      | some c => vcOk w (syncTb (s.setVc n { v with state := .setPending, pendSet := some ⟨c, offset, value, w.fn⟩ }))) s

/-- VC_SET. -/
def execVcSet (fn : Fn) (offset frcTime : Bool) (s : State) : Host.Outcome State Fault Refusal :=
  .next (opVcSet ⟨fn.val, fn.val + 1⟩ offset frcTime s)

/-- Keep a pending change only if its tick has been reached. -/
def keepDue {α : Type} (frc : Nat) (tick : α → Nat) (p : Option α) : Option α := p.filter fun x => decide (tick x ≤ frc)

/-- r0 in effect and its shadow after VC0 enters UNSET (R57). -/
def zeroR0 (s : State) : State := (s.wrBoth F.TB_VC0_RATE_LO 0).wrBoth F.TB_VC0_RATE_HI 0

/-- A clock enters UNSET at a tick: its time returns to T96 zero (R52, R57). `old` is VC0's time at the tick before the change. -/
def enterUnsetFrom (n c : Nat) (old : Int) (s : State) : State :=
  let v := s.vc n
  let d := -(v.par.time (32 * c) old)
  let t := s.setVc n (unsetVc v n c (vc0Time s (32 * c)))
  vcStepped n c d (syncBound (syncTb (onlyIf (n == 0) zeroR0 t)))

def enterUnset (n c : Nat) (s : State) : State := enterUnsetFrom n c (vc0Time s (32 * c)) s

/-- ABORT: every pending SET, RATE, ADJUST and RETIRE whose tick has not been reached (R56, R81). -/
def opVcAbort (w : Win) (s : State) : State :=
  vcCommand w (fun n s =>
    if !vcMay s n w.fn then vcRefuse w s
    else
      let v := s.vc n
      let ps := keepDue s.frc (·.tick) v.pendSet
      let v' := { v with
        pendSet := ps, pendRate := keepDue s.frc (·.1) v.pendRate, pendAdj := keepDue s.frc (·.1) v.pendAdj
        pendRetire := keepDue s.frc id v.pendRetire }
      let t := s.setVc n v'
      vcOk w (onlyIf (v.state == .setPending && ps.isNone) (enterUnset n s.frc) t)) s

/-- VC_ABORT. -/
def execVcAbort (fn : Fn) (s : State) : Host.Outcome State Fault Refusal := .next (opVcAbort ⟨fn.val, fn.val + 1⟩ s)

/-- RATE: r of a clock other than VC0 at its trigger tick (R64). -/
def opVcRate (w : Win) (frcTime : Bool) (s : State) : State :=
  vcCommand w (fun n s =>
    if n == 0 || !vcMay s n w.fn then vcRefuse w s
    else match vcTrigger s w frcTime with
      | none => vcRefuse w s
      | some c => vcOk w (s.setVc n { s.vc n with pendRate := some (c, sgn 48 (vcArg2 s w 0)) })) s

/-- VC_RATE. -/
def execVcRate (fn : Fn) (frcTime : Bool) (s : State) : Host.Outcome State Fault Refusal :=
  .next (opVcRate ⟨fn.val, fn.val + 1⟩ frcTime s)

/-- ADJUST: refused on a clock that is not RATIFIED and above VC_ADJ_LIMIT (R65, R66). One on VC0 that the steward did not issue counts in
EXT_ADJUST while the loop runs (R143). -/
def opVcAdjust (w : Win) (frcTime : Bool) (s : State) : State :=
  vcCommand w (fun n s =>
    let v := s.vc n
    let d := sgn 64 (vcArg2 s w 0)
    if !vcMay s n w.fn || v.state != .ratified || decide (v.adjLimit * 65536 < d.natAbs) then vcRefuse w s
    else match vcTrigger s w frcTime with
      | none => vcRefuse w s
      | some c =>
      let ext := n == 0 && w.fn != stewardFn && (s.sh F.SRV_STATUS_SYS_STATE == 1 || s.sh F.SRV_STATUS_SYS_STATE == 2)
      let t := onlyIf ext (fun s => s.wr 0 F.SRV_COUNTS_EXT_ADJUST (s.sh F.SRV_COUNTS_EXT_ADJUST + 1)) s
      vcOk w (t.setVc n { v with pendAdj := some (c, d) })) s

/-- VC_ADJUST. -/
def execVcAdjust (fn : Fn) (frcTime : Bool) (s : State) : Host.Outcome State Fault Refusal :=
  .next (opVcAdjust ⟨fn.val, fn.val + 1⟩ frcTime s)

/-- Largest slope of a RAMP: 100 ppm (R69). -/
def rampMax : Int := 115292150460685

/-- Place a segment (R69, R70). -/
def opSchedAdd (w : Win) (kind : Nat) (s : State) : State :=
  vcCommand w (fun n s =>
    let v := s.vc n
    let tick := vcArg2 s w 4
    let slope := sgn 48 (vcArg2 s w 2)
    let a : Int := if kind = 0 then sgn 48 (vcArg2 s w 0) else if kind = 1 then sgn 64 (vcArg2 s w 0) else (vcArg s w 0 % 2 : Nat)
    match (List.range 8).find? fun i => (v.slot i).state == 0 with
    | none => vcRefuse w s
    | some i =>
      if n == 0 || !vcMay s n w.fn || v.state != .ratified || decide (tick < s.frc + 64) || kind == 3 ||
          ((List.range 8).any fun j => (v.slot j).state == 1 && (v.slot j).tick == tick) ||
          (kind == 1 && (decide (slope ≤ 0) || decide (rampMax < slope))) then vcRefuse w s
      else
        let v' := { v with slots := tset v.slots i ⟨1, kind, tick, a, if kind = 1 then slope else 0, none⟩ }
        vcOk w ((s.setVc n v').wr w.c F.VC_CMD_STATUS_SLOT i)) s

/-- VC_SCHED_ADD. -/
def execVcSchedAdd (fn : Fn) (kind : Fin 4) (s : State) : Host.Outcome State Fault Refusal :=
  .next (opSchedAdd ⟨fn.val, fn.val + 1⟩ kind.val s)

/-- Is a PENDING segment still before its activation tick? A LEAP waits for its second (R71). -/
def slotBefore (s : State) (sl : VcSlot) : Bool := sl.state == 1 && (sl.kind == 2 || decide (s.frc < sl.tick))

/-- SCHED_CANCEL (R72). -/
def opSchedCancel (w : Win) (slot : Nat) (s : State) : State :=
  vcCommand w (fun n s =>
    let v := s.vc n
    let sl := v.slot slot
    if n == 0 || !vcMay s n w.fn || !slotBefore s sl then vcRefuse w s
    else vcOk w (s.setVc n { v with slots := tset v.slots slot { sl with state := 0 } })) s

/-- VC_SCHED_CANCEL. -/
def execVcSchedCancel (fn : Fn) (slot : Fin 8) (s : State) : Host.Outcome State Fault Refusal :=
  .next (opSchedCancel ⟨fn.val, fn.val + 1⟩ slot.val s)

/-- SCHED_CLEAR: every PENDING slot to EMPTY (R72). -/
def opSchedClear (w : Win) (s : State) : State :=
  vcCommand w (fun n s =>
    let v := s.vc n
    if n == 0 || !vcMay s n w.fn then vcRefuse w s
    else vcOk w (s.setVc n { v with slots := tmap (fun _ sl => if sl.state = 1 then { sl with state := 0 } else sl) v.slots })) s

/-- VC_SCHED_CLEAR. -/
def execVcSchedClear (fn : Fn) (s : State) : Host.Outcome State Fault Refusal := .next (opSchedClear ⟨fn.val, fn.val + 1⟩ s)

/-- RETIRE (R62). -/
def opVcRetire (w : Win) (frcTime : Bool) (s : State) : State :=
  vcCommand w (fun n s =>
    let v := s.vc n
    if n == 0 || !s.secureSt w.fn || v.state != .ratified then vcRefuse w s
    else match vcTrigger s w frcTime with
      | none => vcRefuse w s
      | some c => vcOk w (s.setVc n { v with pendRetire := some c })) s

/-- VC_RETIRE. -/
def execVcRetire (fn : Fn) (frcTime : Bool) (s : State) : Host.Outcome State Fault Refusal :=
  .next (opVcRetire ⟨fn.val, fn.val + 1⟩ frcTime s)

/-- RESET_CLOCK: VC0 only, in lifecycle DEVELOP only; VC0 and every RATIFIED clock whose parent is VC0 enter UNSET (R56, R62). -/
def opVcResetClock (w : Win) (s : State) : State :=
  vcCommand w (fun n s =>
    if n != 0 || !s.secureSt w.fn || !s.develop then vcRefuse w s
    else if (s.vc 0).state != .ratified then vcOk w s
    else
      let c := s.frc + 64
      let kids := (s.tb.vcs.filter fun e => e.1 != 0 && e.2.state == .ratified && e.2.par.parentVc0).map (·.1)
      let old := vc0Time s (32 * c)
      vcOk w (each kids (fun k => enterUnsetFrom k c old) (enterUnset 0 c s))) s

/-- VC_RESET_CLOCK. -/
def execVcResetClock (fn : Fn) (s : State) : Host.Outcome State Fault Refusal := .next (opVcResetClock ⟨fn.val, fn.val + 1⟩ s)

/-! ### Ticks of pending changes (R54 to R73) -/

/-- VC_SET_TICK: FRC has reached a pending SET tick (R56, R58, R61). -/
def vcSetTick (n : Nat) (s : State) : State :=
  let v := s.vc n
  match v.pendSet with
  | none => s
  | some ps =>
    if s.frc < ps.tick then s
    else
      let c := ps.tick
      let s := s.setVc n { v with pendSet := none }
      if v.par.parentVc0 && (s.vc 0).state != .ratified then enterUnset n c s
      else
        let t0 := vc0Time s (32 * c)
        let old := v.par.time (32 * c) t0
        let b := if ps.offset then parentTime s v.par.parentVc0 (32 * c) + ps.value * 2 ^ 32 else ps.value * 2 ^ 32
        let v' := { v with
          pendSet := none, state := .ratified, leapNet := 0, leapUntil := none
          prev := keepPar v c
          par := { v.par with b := b, f := c, a := if v.par.parentVc0 then t0 else 0, pAdj := 0, pRamp := 0, adjPpb := v.slewMax } }
        let t := syncBound (syncTb (s.setVc n v'))
        vcStepped n c (b - old) (onlyIf (n == 0) (postAt Ev.TB_VC0_RATIFIED c 0 []) t)

def execVcSetTick (vc : Fin 1024) (s : State) : Host.Outcome State Fault Refusal := .next (vcSetTick vc.val s)

/-- RATE_SAT on the functions that may read the clock (R50). -/
def postRateSat (n c : Nat) (s : State) : State :=
  onlyIf (s.vc n).par.rateSat (postReach Ev.TB_RATE_SAT (vcReadable s n) c n []) s

/-- VC_RATE_TICK: a pending RATE takes effect (R54, R64). -/
def vcRateTick (n : Nat) (s : State) : State :=
  match (s.vc n).pendRate with
  | none => s
  | some (c, r) =>
    if s.frc < c then s
    else
      let v := rebase s n c
      postRateSat n c (s.setVc n { v with pendRate := none, par := { v.par with r := r } })

def execVcRateTick (vc : Fin 1024) (s : State) : Host.Outcome State Fault Refusal := .next (vcRateTick vc.val s)

/-- The target offset O takes its new value at the tick of its ADJUST (R142). -/
def targetChange (c : Nat) (s : State) : State :=
  match s.srv.oPend with
  | some (tk, o) =>
    if tk ≤ c then
      let old := sgn 64 (s.rd64 0 F.SRV_SYS_TARGET_LO F.SRV_SYS_TARGET_HI)
      { (s.wr64 0 F.SRV_SYS_TARGET_LO F.SRV_SYS_TARGET_HI (uns 64 o)) with srv := { s.srv with oPend := none, oPrev := some (c, old) } }
    else s
  | none => s

/-- VC_ADJUST_TICK: a slewed step starts, or joins the one in progress (R65 to R67). -/
def vcAdjustTick (n : Nat) (s : State) : State :=
  match (s.vc n).pendAdj with
  | none => s
  | some (c, d) =>
    if s.frc < c then s
    else
      let v := rebase s n c
      let p := v.par.pAdj + d * 2 ^ 32
      let t := onlyIf (n == 0) (targetChange c) ((childLeaps n c s).setVc n { v with pendAdj := none, par := { v.par with pAdj := p } })
      onlyIf (p == 0) (postReach Ev.TB_SLEW_DONE (vcReadable s n) c n []) t

def execVcAdjustTick (vc : Fin 1024) (s : State) : Host.Outcome State Fault Refusal := .next (vcAdjustTick vc.val s)

/-- Is an amount with a slope wholly delivered at a tick? -/
def deliveredAt (s : State) (p : VcPar) (amount slope : Int) (tick : Nat) : Bool :=
  slewD (p.elapsed (32 * tick) (vc0Time s (32 * tick))) amount slope == amount

/-- Is a tick the first at or after the base at which an amount is wholly delivered (R54)? -/
def firstDelivered (s : State) (p : VcPar) (amount slope : Int) (tick : Nat) : Bool :=
  decide (tick ≤ s.frc) && decide (p.f ≤ tick) && deliveredAt s p amount slope tick &&
    (tick == p.f || !deliveredAt s p amount slope (tick - 1))

/-- SLEW_DONE: the accumulated amount equals Δ exactly at a tick; the clock is rebased (R65). -/
def slewDone (n tick : Nat) (s : State) : State :=
  let p := (s.vc n).par
  if p.pAdj != 0 && firstDelivered s p p.pAdj p.sAdj tick then
    let v := rebase s n tick
    postReach Ev.TB_SLEW_DONE (vcReadable s n) tick n [] ((childLeaps n tick s).setVc n { v with par := { v.par with pAdj := 0 } })
  else s

def execSlewDone (vc : Fin 1024) (tick : BitVec 64) (s : State) : Host.Outcome State Fault Refusal :=
  .next (slewDone vc.val tick.toNat s)

/-- VC_RETIRE_TICK: the clock returns to UNSET; pending RATE and ADJUST at or after the tick are discarded (R62). -/
def vcRetireTick (n : Nat) (s : State) : State :=
  match (s.vc n).pendRetire with
  | none => s
  | some c => if s.frc < c then s else enterUnset n c s

def execVcRetireTick (vc : Fin 1024) (s : State) : Host.Outcome State Fault Refusal := .next (vcRetireTick vc.val s)

/-- VC_PARENT_CHANGE: a written PARENT takes effect at a rebase (R61). -/
def vcParentChange (n : Nat) (s : State) : State :=
  match (s.vc n).pendParent with
  | none => s
  | some (c, p) =>
    if s.frc < c then s
    else
      let v := rebase s n c
      s.setVc n { v with
        pendParent := none
        par := { v.par with parentVc0 := p, a := if p then vc0Time s (32 * c) else 0 } }

def execVcParentChange (vc : Fin 1024) (s : State) : Host.Outcome State Fault Refusal := .next (vcParentChange vc.val s)

/-- Is a tick the activation tick of a PENDING segment (R70, R71)? -/
def segmentAt (s : State) (n : Nat) (sl : VcSlot) (tick : Nat) : Bool :=
  decide (tick ≤ s.frc) &&
    (if sl.kind = 2 then
      let sec := leapSecondOf s n sl
      decide (sl.tick ≤ tick) && decide (sec ≤ vcTime s n (32 * tick)) &&
        (tick == sl.tick || decide (vcTime s n (32 * (tick - 1)) < sec))
    else tick == sl.tick)

/-- The clock after a segment takes effect at a tick (R70, R71, R73). -/
def segmentEffect (s : State) (n i tick : Nat) (sl : VcSlot) : Vc :=
  let v := rebase s n tick
  match sl.kind with
  | 0 => { v with par := { v.par with s := sl.a }, slots := tset v.slots i { sl with state := 0 } }
  | 1 =>
    let freed := tmap (fun _ x => if x.kind = 1 ∧ x.state = 2 then { x with state := 0 } else x) v.slots
    { v with
        par := { v.par with pRamp := v.par.pRamp + sl.a * 2 ^ 32, sRamp := sl.b }
        slots := tset freed i { sl with state := 2 } }
  | _ =>
    let ins := sl.a == 0
    { v with
        par := { v.par with b := if ins then v.par.b - secU else v.par.b + secU }
        leapNet := sgn 8 (uns 8 (v.leapNet + (if ins then 1 else -1)))
        leapUntil := if ins then some v.par.b else v.leapUntil
        slots := tset v.slots i { sl with state := 0 } }

/-- SEGMENT_ACTIVATION: a PENDING segment takes effect at its activation tick, with its event record (R73). -/
def segmentActivation (n i tick : Nat) (s : State) : State :=
  let v := s.vc n
  let sl := v.slot i
  if sl.state == 1 && segmentAt s n sl tick then
    let t := s.setVc n (segmentEffect s n i tick sl)
    let t := postReach Ev.TB_SCHED_ACT (vcReadable s n) tick n (leBytes 2 n ++ oct [i, sl.kind]) t
    if sl.kind = 2 then
      vcStepped n tick (if sl.a == 0 then -secU else secU) (postReach Ev.TB_LEAP_APPLIED (vcReadable s n) tick n [] t)
    else if sl.kind = 0 then postRateSat n tick t
    else t
  else s

def execSegmentActivation (vc : Fin 1024) (slot : Fin 8) (tick : BitVec 64) (s : State) : Host.Outcome State Fault Refusal :=
  .next (segmentActivation vc.val slot.val tick.toNat s)

/-- RAMP_DONE: a ramp is wholly delivered at a tick; the clock is rebased and the slot freed (R71). -/
def rampDone (n tick : Nat) (s : State) : State :=
  let v := s.vc n
  let p := v.par
  if (v.slots.any fun e => e.2.state == 2) && firstDelivered s p p.pRamp p.sRamp tick then
    let v' := rebase s n tick
    s.setVc n { v' with
      par := { v'.par with pRamp := 0 }
      slots := tmap (fun _ x => if x.state = 2 then { x with state := 0 } else x) v'.slots }
  else s

def execRampDone (vc : Fin 1024) (tick : BitVec 64) (s : State) : Host.Outcome State Fault Refusal :=
  .next (rampDone vc.val tick.toNat s)

/-- LEAP_SECOND_END: the clock's time again reaches the value it had at the insertion (R73). -/
def leapSecondEnd (n : Nat) (s : State) : State :=
  let v := s.vc n
  match v.leapUntil with
  | none => s
  | some u => if vcTime s n (32 * s.frc) < u then s else s.setVc n { v with leapUntil := none }

def execLeapSecondEnd (vc : Fin 1024) (s : State) : Host.Outcome State Fault Refusal := .next (leapSecondEnd vc.val s)

/-- PTM_REQUEST received at a stamp (R79, R487): the Response carries the named clock's time in whole ns modulo 2^64, or no data
while the clock is not RATIFIED or EN is 0. -/
def ptmRequest (x32 : Nat) (s : State) : State :=
  let n := s.sh F.TB_PTM_CTRL_VC
  if s.sh F.HIF_STATUS_LINK_UP == 0 then s
  else
    let data := if s.sh F.TB_PTM_CTRL_EN == 1 && (s.vc n).state == .ratified then
        some (uns 64 (vcTime s n x32 / 2 ^ 48)) else none
    { s with hif := { s.hif with ptm := some (x32, data) } }

/-- The stamp is the FRC tick and its phase of 1/32 tick. -/
def execPtmRequest (tick : BitVec 64) (phase : Fin 32) (s : State) : Host.Outcome State Fault Refusal :=
  .next (ptmRequest (32 * tick.toNat + phase.val) s)

end Sys2Proof.Machine
end

