-- ==== Sys2Proof/Machine/References.lean ====
section
/-! DEFINITION. Reference stamps, monitors and qualification (chapter "References, Quality Levels and Selection", R98 to R124). -/

namespace Sys2Proof.Machine

/-! ### Writes -/

/-- May a function write REF registers (R124)? -/
def refMay (s : State) (fn : Nat) : Bool := s.secureSt fn

/-- REF_CFG as written: the fields with their storing rules (Table 4.12). -/
def storeRefCfg (n v : Nat) (s : State) : State :=
  let tod := bits v 8 3
  let t := ((s.wr 0 (F.REF_CFG_ENABLE n) (bits v 0 1)).wr 0 (F.REF_CFG_ENS_EN n) (bits v 1 1)).wr 0 (F.REF_CFG_POLARITY n) (bits v 2 1)
  let t := ((t.wr 0 (F.REF_CFG_USE_PEER_BOUND n) (bits v 3 1)).wr 0 (F.REF_CFG_PROFILE n) (bits v 4 2)).wr 0 (F.REF_CFG_TOD_SRC n)
    (if 4 < tod then 0 else tod)
  let t := (t.wr 0 (F.REF_CFG_QR_OVR n) (bits v 12 4)).wr 0 (F.REF_CFG_QR_OVR_EN n) (bits v 16 1)
  t.wr 0 (F.REF_CFG_CAPTURE_PPM n) (if bits v 24 8 = 0 then 1 else bits v 24 8)

/-- A write of REF_CFG[n]. -/
def writeRefCfg (fn n v : Nat) (s : State) : State :=
  writeAtDoor .refs fn (0x400 + 0x40 * n) (fun s =>
    if !refMay s fn then postTo Ev.REF_AUTH_REFUSED fn n s
    else if 29 ≤ n then s
    else evalSels (syncRefStatus (updateQr n (slotEnable n (bitOf v 0) (storeRefCfg n v s))))) s

/-- REF_CFG_WRITE: a write of a slot's configuration with its ENABLE (R116). -/
def execRefCfgWrite (fn : Fn) (slot : Fin 32) (value : BitVec 32) (s : State) : Host.Outcome State Fault Refusal :=
  .next (writeRefCfg fn.val slot.val value.toNat s)

/-! ### Stamps -/

/-- The 32 octets of a stamp record (Table 4.2). -/
def stampRecord (n : Nat) (st : RefStamp) (gap qrc : Bool) (delta seq : Nat) : Octets :=
  leBytes 8 (st.x32 / 32) ++ oct [st.x32 % 32 + 32 * b2n st.isTime + 64 * b2n gap + 128 * b2n qrc, n] ++
  leBytes 2 delta ++ leBytes 4 seq ++
  (if st.isTime then leBytes 12 (t96OfLin ⌊st.label * 65536⌋) else leBytes 8 st.edges ++ zeros 4) ++ zeros 4

/-- A region of the SRAM plan. -/
def regionBase (s : State) (id : Nat) : Option Nat := (tget s.stw.regions id).map (·.1)

/-- Write a stamp record into the slot's ring; a full ring overwrites its oldest record and raises RING_OVERRUN (R102, R103). -/
def writeStamp (n delta : Nat) (st : RefStamp) (s : State) : State :=
  let r := s.slot n
  let t := match regionBase s 6 with
    | some b =>
      let a := b + 32768 * n + 32 * (r.seq % 1024)
      let used := s.shmRead a 8 != zeros 8
      onlyIf used (post Ev.REF_RING_OVERRUN n) (s.shmWrite a (stampRecord n st r.gap r.qrChanged delta r.seq))
    | none => s
  t.setSlot n { r with seq := (r.seq + 1) % 2 ^ 32, gap := false, qrChanged := false }

/-- Does a stamp fall within its window: for an edge source within 1 % of the stamp interval after the previous stamp (R104)? -/
def inWindow (s : State) (n x32 : Nat) : Bool :=
  if eventSlot n then true
  else match (s.slot n).last with
    | none => true
    | some p =>
      let k : Rat := slotK s n
      let f : Rat := s.sh (F.REF_NOMINAL n)
      let iv := k * 1000000000 / f
      let d := ((x32 : Rat) - p.x32) / 50
      decide (iv * 99 / 100 ≤ d) && decide (d ≤ iv * 101 / 100)

/-- A stamp of a slot that takes stamps: window, label, ring, and the regaining of the signal (R100 to R104). -/
def takeStamp (n x32 delta : Nat) (timeLabel : Option Rat) (s : State) : State :=
  let win := inWindow s n x32
  let r := if slotState s n = stNOSIG ∧ (win = false ∨ (s.slot n).good = 0) then newAcquisition (s.slot n) else s.slot n
  let good := if win then r.good + 1 else 1
  let edges := if r.first.isSome then r.edges + delta else 0
  let f : Rat := s.sh (F.REF_NOMINAL n)
  let st : RefStamp := match timeLabel with
    | some l => ⟨x32, l, true, edges⟩
    | none => ⟨x32, if f = 0 then 0 else (edges : Rat) * 1000000000 / f, false, edges⟩
  let s := writeStamp n delta st (s.setSlot n r)
  let r := s.slot n
  let s := s.setSlot n { r with
    first := some (r.first.getD st), last := some st, sec := r.sec ++ [st], unread := r.unread ++ [st]
    edges := edges, missing := if win then 0 else r.missing, good := good }
  if slotState s n = stNOSIG ∧ 8 ≤ good then signalRegained n s else s

/-- Label of a REFIN pulse from its time-of-day input (R100): TIME_LOST when no valid frame has labelled it. -/
def pulseLabel (n : Nat) (s : State) : Option Rat × State :=
  if s.sh (F.REF_CFG_TOD_SRC n) = 0 then (none, s)
  else
    let r := s.slot n
    match r.nextLabel with
    | some l =>
      let k := r.labelled + 1
      let t := s.setSlot n { r with nextLabel := none, labelled := k }
      let t := if 3 ≤ k then t.wr 0 (F.REF_STATE_TIME_LOST n) 0 else t
      (if 3 ≤ k then some l else none, t)
    | none => (none, (s.setSlot n { r with labelled := 0 }).wr 0 (F.REF_STATE_TIME_LOST n) 1)

/-- REF_STATE.CAP follows the capability. -/
def syncCap (n : Nat) (s : State) : State := s.wr 0 (F.REF_STATE_CAP n) (slotCap s n)

/-- Numbers of the stamp points: 0 to 15 TDC channels, 16 to 19 gates, 20 to 51 reference slots, 52 to 73 points 1 to 22 of Table 3.2,
74 and 75 GNSS ports, 76 PTM, 77 to 104 mate observers. -/
def ptRef (n : Nat) : Nat := 20 + n
def ptPlane (p : Nat) : Nat := 51 + p
def ptGn (p : Nat) : Nat := 74 + p
def ptObs (i : Nat) : Nat := 77 + i

/-- Both halves of a stamp point are FAILED: it takes no stamps (R195). -/
def pointDead (s : State) (p : Nat) : Bool := (tgetD s.tdc.halves (2 * p) {}).failed && (tgetD s.tdc.halves (2 * p + 1) {}).failed

/-- An expected stamp is missing (R104). -/
def stampMissing (n : Nat) (s : State) : State :=
  if slotState s n = stDISABLED ∨ 29 ≤ n then s
  else
    let r := s.slot n
    let t := s.setSlot n { r with missing := r.missing + 1, good := 0, gap := true }
    if s.sh (F.REF_PROF_QUAL_LOS_COUNT (s.sh (F.REF_CFG_PROFILE n))) ≤ r.missing + 1 then signalLost n t else t

/-- A stamped edge or time event of a slot (R101). A DISABLED slot, and an edge source without NOMINAL_HZ, takes no stamp; a pin whose
interpolator has failed reports it missing (R193). -/
def refEdgeStamp (n x32 delta : Nat) (label : Option Nat) (s : State) : State :=
  if slotState s n = stDISABLED ∨ 29 ≤ n then s
  else if pinSlot n && pointDead s (ptRef n) then stampMissing n s
  else if eventSlot n then
    match label with
    | some l => syncCap n (takeStamp n x32 delta (some ((l : Rat) / 65536)) s)
    | none => s
  else if s.sh (F.REF_NOMINAL n) = 0 ∨ (pinSlot n && !(s.slot n).ready) then s
  else
    let (l, t) := if n < 8 then pulseLabel n s else (none, s)
    syncCap n (takeStamp n x32 delta l t)

/-- REF_EDGE_STAMP: an edge (with the number of edges since the previous stamp) or, with a label, a time event. -/
def execRefEdgeStamp (slot : Fin 32) (tick : BitVec 64) (phase : Fin 32) (edges : BitVec 16) (label : Option (BitVec 96)) (s : State) :
    Host.Outcome State Fault Refusal :=
  .next (refEdgeStamp slot.val (32 * tick.toNat + phase.val) edges.toNat (label.map fun l => linOfT96 l.toNat) s)

/-- REF_STAMP_MISSING. -/
def execRefStampMissing (slot : Fin 32) (s : State) : Host.Outcome State Fault Refusal := .next (stampMissing slot.val s)

/-- REF_LINK_LOSS. -/
def execRefLinkLoss (slot : Fin 32) (s : State) : Host.Outcome State Fault Refusal := .next (linkLost slot.val s)

/-! ### Monitors (R110 to R115) -/

/-- Holdover-oscillator time in ns of a stamp difference in 1/32 tick (R111). -/
def hoTime (s : State) (d32 : Int) : Rat :=
  let h : Rat := sgn 48 (s.sh F.REF_HO_Y_LO + 2 ^ 32 * s.sh F.REF_HO_Y_HI)
  (d32 : Rat) / 50 * (1 + h / 2 ^ 60)

/-- The stamp pair of a monitor second (R111). -/
def stampPair (r : RefSlot) : Option (RefStamp × RefStamp) :=
  match r.sec.getLast? with
  | none => none
  | some b =>
    match r.prevSec.orElse fun _ => r.sec.head? with
    | none => none
    | some a => if a = b then none else some (a, b)

/-- y of R111. -/
def pairY (s : State) (p : RefStamp × RefStamp) : Rat :=
  (p.2.label - p.1.label) / hoTime s ((p.2.x32 : Int) - p.1.x32) - 1

/-- The change in TIE over a pair (R113). -/
def pairTie (s : State) (p : RefStamp × RefStamp) : Rat := hoTime s ((p.2.x32 : Int) - p.1.x32) - (p.2.label - p.1.label)

/-- Rounding towards zero to a multiple. -/
def truncTo (q x : Rat) : Rat := if 0 ≤ x then (⌊x / q⌋ : Rat) * q else -((⌊-x / q⌋ : Rat) * q)

/-- Median; with an even number, the mean of the two middle values put through `mid`. -/
def medianBy (mid : Rat → Rat) (l : List Rat) : Rat :=
  let o := l.mergeSort fun a b => decide (a ≤ b)
  let k := o.length
  if k % 2 = 1 then (o[k / 2]?).getD 0 else mid (((o[k / 2 - 1]?).getD 0 + (o[k / 2]?).getD 0) / 2)

/-- 0.001 ppb. -/
def milliPpb : Rat := 1 / 1000000000000

/-- Largest less smallest TIE of the last w seconds (R113). -/
def mtieOf (l : List (Option (Rat × Rat))) (w : Nat) : Rat :=
  match (l.take w).filterMap id with
  | [] => 0
  | e :: t => (t.foldl (fun a x => max a x.1) e.1) - (t.foldl (fun a x => min a x.2) e.2)

/-- What one slot's evaluation gives (R110 to R114): its records, the MTIE values of the H and the E monitors, and the crossings. -/
structure MonEval where
  slot : RefSlot
  evaluated : Bool
  skipped : Bool
  soft : Bool
  hard : Bool
  foffH : Rat
  mh : List Rat
  me : List Rat
  deriving DecidableEq, Repr

/-- The windows of MTIE in seconds. -/
def mtieWins : List Nat := [1, 10, 100, 1000]

/-- Does a monitor value cross a threshold (R114)? -/
def crosses (x thr : Rat) : Bool := decide (thr ≤ |x|)

/-- Soft and hard crossings of the H or the E monitors, with their thresholds. -/
def crossings (foff : Rat) (mt : List Rat) (fs fh : Nat) (ms mh : List Nat) : Bool × Bool :=
  let u : Rat := 1 / 10000000000
  (crosses foff (fs * u) || (mt.zip ms).any fun e => crosses e.1 (e.2 : Rat),
   crosses foff (fh * u) || (mt.zip mh).any fun e => crosses e.1 (e.2 : Rat))

/-- A second joins the records of the last seconds. -/
def noteSecond {α : Type} (n : Nat) (x : Option α) (l : List (Option α)) : List (Option α) := (x :: l).take n

/-- Evaluate the monitors of a slot at a monitor tick, given the pairs of every slot. A second without a pair forms no value (R110, R111). -/
def monEval (s : State) (pairs : Nat → Option (RefStamp × RefStamp)) (n : Nat) : MonEval :=
  let r := s.slot n
  let prof := s.sh (F.REF_CFG_PROFILE n)
  match pairs n with
  | none =>
    ⟨{ r with ys := noteSecond 3600 none r.ys, es := noteSecond 3600 none r.es
              tieH := noteSecond 1000 none r.tieH, tieE := noteSecond 1000 none r.tieE },
     false, s.sh (F.REF_STATE_ENS_SKIPPED n) == 1, false, false, r.foffH, [], []⟩
  | some p =>
    let win := s.sh (F.REF_PROF_TIMERS_FOFF_WIN prof)
    let y := pairY s p
    let ys := noteSecond 3600 (some y) r.ys
    let foffH := meanR ((ys.take win).filterMap id)
    let others := (ensMembers s).filter fun m => m != n
    let oy := others.filterMap fun m => (pairs m).map (pairY s)
    let ot := others.filterMap fun m => (pairs m).map (pairTie s)
    let skipped := decide (oy.length < 3)
    let es := noteSecond 3600 (if skipped then none else some (y - medianBy (truncTo milliPpb) oy)) r.es
    let foffE := if skipped then r.foffE else meanR ((es.take win).filterMap id)
    let ties := r.sec.map fun st =>
      match r.first with
      | some f => hoTime s ((st.x32 : Int) - f.x32) - (st.label - f.label) + foffH * (st.label - f.label)
      | none => 0
    let tieH := noteSecond 1000 (match ties with
      | [] => none
      | t :: ts => some (ts.foldl max t, ts.foldl min t)) r.tieH
    let acc := r.tieEAcc + (pairTie s p - medianBy id ot)
    let tieE := noteSecond 1000 (if skipped then none else some (max r.tieEAcc acc, min r.tieEAcc acc)) r.tieE
    let hOff := n == 28 && s.sh F.REF_CTRL_HO_IS_ATOM == 1
    let mh := mtieWins.map fun w => if hOff then 0 else mtieOf tieH w
    let me := mtieWins.map (mtieOf tieE)
    let ch := if hOff then (false, false) else crossings foffH mh (s.sh (F.REF_PROF_FOFF_H_SOFT prof)) (s.sh (F.REF_PROF_FOFF_H_HARD prof))
      ((List.range 4).map fun w => s.sh (F.REF_PROF_MTIE_H_SOFT prof w)) ((List.range 4).map fun w => s.sh (F.REF_PROF_MTIE_H_HARD prof w))
    let ce := if skipped then (false, false) else crossings foffE me (s.sh (F.REF_PROF_FOFF_E_SOFT prof)) (s.sh (F.REF_PROF_FOFF_E_HARD prof))
      ((List.range 4).map fun w => s.sh (F.REF_PROF_MTIE_E_SOFT prof w)) ((List.range 4).map fun w => s.sh (F.REF_PROF_MTIE_E_HARD prof w))
    let r' := { r with
      ys := ys, es := es, foffH := foffH, foffE := foffE, tieH := tieH, tieE := tieE
      tieEAcc := if skipped then r.tieEAcc else acc }
    ⟨r', true, skipped, ch.1 || ce.1, ch.2 || ce.2, if hOff then 0 else foffH, mh, if skipped then [] else me⟩

/-- s32 in units of 0.001 ppb, saturating. -/
def foffReg (x : Rat) : Nat := uns 32 (satS 32 (roundR (x / milliPpb)))

/-- u16 ns, rounded up, saturating. -/
def nsReg (x : Rat) : Nat := satU 16 (⌈x⌉).toNat

/-- The monitor registers of a slot (Table 4.12). While ENS_SKIPPED is set, those of the E monitors keep their values (R112). -/
def writeMonitors (n : Nat) (e : MonEval) (s : State) : State :=
  let v := fun (l : List Rat) (k : Nat) => nsReg ((l[k]?).getD 0)
  let t := (s.wr 0 (F.REF_FOFF_H n) (foffReg e.foffH)).wr 0 (F.REF_STATE_ENS_SKIPPED n) (b2n e.skipped)
  let t := (((t.wr 0 (F.REF_MTIE_H01_W0 n) (v e.mh 0)).wr 0 (F.REF_MTIE_H01_W1 n) (v e.mh 1)).wr 0 (F.REF_MTIE_H23_W2 n) (v e.mh 2)).wr 0
    (F.REF_MTIE_H23_W3 n) (v e.mh 3)
  if e.skipped then t
  else
    ((((t.wr 0 (F.REF_FOFF_E n) (foffReg e.slot.foffE)).wr 0 (F.REF_MTIE_E01_W0 n) (v e.me 0)).wr 0 (F.REF_MTIE_E01_W1 n) (v e.me 1)).wr 0
      (F.REF_MTIE_E23_W2 n) (v e.me 2)).wr 0 (F.REF_MTIE_E23_W3 n) (v e.me 3)

/-- Largest MTIE of an evaluation at any window, in ns. -/
def maxMtie (e : MonEval) : Rat := (e.mh ++ e.me).foldl max 0

/-- MEAS_HZ and C_RANGE over a pair (R105). -/
def rangeEval (n : Nat) (p : Option (RefStamp × RefStamp)) (s : State) : State :=
  let nom := s.sh (F.REF_NOMINAL n)
  match p with
  | none => s
  | some p =>
    if nom = 0 ∨ eventSlot n then s
    else
      let hz : Rat := ((p.2.edges : Rat) - p.1.edges) / (((p.2.x32 : Rat) - p.1.x32) / 50) * 1000000000
      let out := decide ((s.sh (F.REF_CFG_CAPTURE_PPM n) : Rat) * nom / 1000000 < |hz - nom|)
      (s.wr 0 (F.REF_MEAS_HZ n) (roundR hz).toNat).wr 0 (F.REF_STATE_C_RANGE n) (b2n out)

/-- The transition of a slot at a monitor tick (Table 4.5, R117). -/
def monTransition (n : Nat) (e : MonEval) (s : State) : State :=
  let prof := s.sh (F.REF_CFG_PROFILE n)
  let st := slotState s n
  let hard := e.hard || s.sh (F.REF_STATE_C_RANGE n) == 1 || s.sh (F.REF_STATE_QR n) == 15
  let r := s.slot n
  if (st = stQUALIFYING ∨ st = stQUALIFIED ∨ st = stSUSPECT) ∧ hard = true then setSlotState n stDISQ s
  else if st = stQUALIFIED ∧ e.soft = true then
    let t := setSlotState n stSUSPECT s
    syncSlotBound n (t.setSlot n { t.slot n with w := maxMtie e })
  else if !e.evaluated then s
  else if st = stQUALIFYING then
    if e.soft then s.setSlot n { r with qual := 0 }
    else if s.sh (F.REF_PROF_QUAL_QUAL_TIME prof) ≤ r.qual + 1 then setSlotState n stQUALIFIED s
    else s.setSlot n { r with qual := r.qual + 1 }
  else if st = stSUSPECT then
    if e.soft then s.setSlot n { r with clear := 0 }
    else if s.sh (F.REF_PROF_TIMERS_SUSPECT_CLEAR prof) ≤ r.clear + 1 then setSlotState n stQUALIFIED s
    else s.setSlot n { r with clear := r.clear + 1 }
  else if st = stDISQ ∧ hard = false ∧ e.soft = false then setSlotState n stQUALIFYING s
  else s

/-- Widen W while SUSPECT (R118). -/
def widen (n : Nat) (e : MonEval) (s : State) : State :=
  if slotState s n = stSUSPECT then
    let r := s.slot n
    syncSlotBound n (s.setSlot n { r with w := max r.w (maxMtie e) })
  else syncSlotBound n s

/-- One slot's evaluation, its registers and its transition. -/
def monSlot (ev : Nat → MonEval) (pairs : Nat → Option (RefStamp × RefStamp)) (n : Nat) (s : State) : State :=
  if slotState s n = stDISABLED ∨ slotState s n = stNOSIG then s
  else
    let e := ev n
    let t := s.setSlot n e.slot
    let t := rangeEval n (pairs n) (onlyIf e.evaluated (writeMonitors n e) t)
    let t := (t.wr 0 (F.REF_STATE_C_HARD n) (b2n e.hard)).wr 0 (F.REF_STATE_SOFT n) (b2n e.soft)
    widen n e (monTransition n e t)

/-- The second's stamps become the previous second's, REF_QL_AGE counts units of 100 ms, and CAP and C_QUALITY follow. -/
def nextSecond (n : Nat) (s : State) : State :=
  let r := s.slot n
  let age := match r.qlTick with
    | some q => min ((s.frc - q) / 156250000) 0xFFFF
    | none => 0xFFFF
  let t := s.setSlot n { r with prevSec := r.sec.getLast?, sec := [], ready := s.sh (F.REF_NOMINAL n) != 0 }
  ((t.wr 0 (F.REF_QL_AGE_AGE n) age).wr 0 (F.REF_STATE_CAP n) (slotCap s n)).wr 0 (F.REF_STATE_C_QUALITY n) (b2n (slotQr s n == 15))

/-- MONITOR_TICK: at a whole-second FRC tick every slot is evaluated, then every selector (R110, R117, R123). -/
def monitorTick (tick : Nat) (s : State) : State :=
  if s.frc < tick ∨ tick % ticksPerSec ≠ 0 ∨ tick ≤ s.refs.lastTick then s
  else
    let s0 := { s with refs := { s.refs with lastTick := tick } }
    let pairs : Nat → Option (RefStamp × RefStamp) := fun n =>
      if slotState s0 n = stDISABLED ∨ slotState s0 n = stNOSIG then none else stampPair (s0.slot n)
    let ev := monEval s0 pairs
    let s1 := each (List.range 29) (monSlot ev pairs) s0
    evalSels (syncRefStatus (each (List.range 29) nextSecond s1))


/-- HOLDOFF_EXPIRY: rule 1 of R120 applies to the lost slot (R121). -/
def holdoffExpiry (i : Nat) (s : State) : State :=
  match (s.sel i).holdoff with
  | none => s
  | some d => if s.frc < d then s else evalSel i (s.setSel i { s.sel i with holdoff := none })

def execHoldoffExpiry (sel : Fin 6) (s : State) : Host.Outcome State Fault Refusal := .next (holdoffExpiry sel.val s)

/-! ### Received quality (R106 to R108) -/

/-- The rank of an SSM code and an enhanced SSM code (Table 4.3). -/
def esmcQr (ssm essm : Nat) : Nat :=
  match ssm, essm with
  | 0x2, 0x21 => 0
  | 0x2, 0x20 => 1
  | 0x2, 0x23 => 2
  | 0x2, _ => 3
  | 0x4, _ => 4
  | 0x8, _ => 5
  | 0xB, 0x22 => 6
  | 0xB, _ => 7
  | _, _ => 15

/-- The rank of a PTP clockClass (Table 4.3). -/
def clockClassQr : Nat → Nat
  | 6 => 1 | 7 => 3 | 135 => 4 | 140 => 5 | 150 => 6 | 160 => 7 | 165 => 8 | 248 => 14 | _ => 15

/-- The body of the first TLV of a type in an ESMC PDU: type (1), length (2, whole TLV), body. -/
def findTlv (ty : Nat) : Nat → Octets → Option Octets
  | 0, _ => none
  | fuel + 1, o =>
    let len := ofBe (slice o 1 2)
    if o.length < 3 ∨ len < 3 then none
    else if byteAt o 0 = ty then some ((o.take len).drop 3)
    else findTlv ty fuel (o.drop len)

/-- A received ESMC PDU for the slots of a port's lanes: QR, loop detection and the cascade counts (R107). The PDU is given from its
subtype octet on: subtype 0x0A, OUI 00-19-A7, 2 octets subtype, version and event flag (1), 3 reserved, then TLVs. -/
def esmcPdu (lanes : List Nat) (pdu : Octets) (s : State) : State :=
  if byteAt pdu 0 ≠ 0x0A ∨ slice pdu 1 3 ≠ oct [0x00, 0x19, 0xA7] then s
  else
    let tlvs := pdu.drop 10
    match findTlv 1 16 tlvs with
    | none => s
    | some ql =>
      let ssm := byteAt ql 0 % 16
      let ext := findTlv 2 16 tlvs
      let essm := (ext.map fun e => byteAt e 0).getD 0xFF
      let loop := (ext.map fun e => slice e 1 8 == beBytes 4 (s.sh F.REF_CLKID_HI) ++ beBytes 4 (s.sh F.REF_CLKID_LO)).getD false
      each (lanes.map (· + 8)) (fun n t =>
        let r := t.slot n
        let t := t.setSlot n { r with qrRx := esmcQr ssm essm, loop := loop, qlTick := some t.frc }
        let t := (t.wr 0 (F.REF_QL_RX_SSM n) ssm).wr 0 (F.REF_QL_RX_ESSM n) essm
        let t := match ext with
          | some e => (t.wr 0 (F.REF_QL_AGE_CASC_EEEC n) (byteAt e 10)).wr 0 (F.REF_QL_AGE_CASC_EEC n) (byteAt e 11)
          | none => (t.wr 0 (F.REF_QL_AGE_CASC_EEEC n) 0).wr 0 (F.REF_QL_AGE_CASC_EEC n) 0
        updateQr n (onlyIf (loop && !r.loop) (post Ev.REF_LOOP n) (t.wr 0 (F.REF_QL_AGE_AGE n) 0))) s

/-- ESMC_TIMEOUT: no ESMC PDU for 5 s; QR becomes 15 (R107). -/
def esmcTimeout (n : Nat) (s : State) : State :=
  let r := s.slot n
  let due := match r.qlTick with
    | some q => decide (q + 5 * ticksPerSec ≤ s.frc)
    | none => true
  if 8 ≤ n ∧ n ≤ 23 ∧ due = true then updateQr n (s.setSlot n { r with qlTick := none }) else s

def execEsmcTimeout (lane : Fin 16) (s : State) : Host.Outcome State Fault Refusal := .next (esmcTimeout (lane.val + 8) s)

/-! ### Time-of-day input (R100, R185) -/

/-- Is a frame valid: sync, version, length, CRC, VALID 1 and UNBOUNDED 0 (R185)? -/
def todinValid (f : Octets) : Bool :=
  f.length == 32 && slice f 0 4 == oct [0x4C, 0x54, 0x01, 0x20] && crcMsb 16 0x1021 0xFFFF (f.take 30) == ofBe (slice f 30 2) &&
    bitOf (byteAt f 5) 0 && !bitOf (byteAt f 5) 4

/-- A frame received on a TODIN pin. It labels the next pulse of every REFIN slot whose TOD_SRC names the pin; `whole` says that it
arrived whole between two pulses. -/
def todinFrame (i : Nat) (f : Octets) (whole : Bool) (s : State) : State :=
  if todinValid f && whole then
    let l : Rat := (ofBe (slice f 8 6) : Rat) * 1000000000 + ofBe (slice f 14 4)
    let t := each ((List.range 8).filter fun n => s.sh (F.REF_CFG_TOD_SRC n) == i + 1)
      (fun n t => t.setSlot n { t.slot n with nextLabel := some l }) s
    t.wr 0 (F.OUT_TODIN_STATUS_FRAMES_OK i) (t.sh (F.OUT_TODIN_STATUS_FRAMES_OK i) + 1)
  else
    post Ev.OUT_TODIN_BAD i (s.wr 0 (F.OUT_TODIN_STATUS_FRAMES_BAD i) (s.sh (F.OUT_TODIN_STATUS_FRAMES_BAD i) + 1))

def execTodinFrame (pin : Fin 4) (frame : List Byte) (whole : Bool) (s : State) : Host.Outcome State Fault Refusal :=
  .next (todinFrame pin.val frame whole s)

end Sys2Proof.Machine
end

