-- ==== Sys2Proof/Machine/ShmCore.lean ====
section
/-! DEFINITION. Groups of the shared SRAM, and reads of buffers that check them (R464, R468, R479). -/

namespace Sys2Proof.Machine

/-- The group of an SHM address (Table 17.1). -/
def shmGroup (a : Nat) : Nat := if a < 0x08000000 then a / 2 ^ 23 else 16

/-- The global bank of an SHM address, and its row in the bank. -/
def shmBank (a : Nat) : Nat := 16 * shmGroup a + bits a 5 4
def shmRow (a : Nat) : Nat := if a < 0x08000000 then bits a 15 8 else bits a 15 6

/-- Is every group that a range meets SWEPT? -/
def shmSwept (s : State) (a n : Nat) : Bool :=
  (List.range 17).all fun g =>
    s.sh (F.SHM_GRP_STATUS_SWEPT g) == 1 || !(decide (shmGroup a ≤ g) && decide (g ≤ shmGroup (a + (n - 1))))

/-- What a read of a range of SHM by a host completes with: OK, UNINIT or POISONED (R468, R479). -/
def shmReadCode (s : State) (a n : Nat) : Nat :=
  if !shmSwept s a n then Code.uninit else if s.shmPoisoned a n then Code.poisoned else Code.ok

/-- The same for a buffer at a u64 address; host memory is neither. -/
def bufCode (s : State) (a n : Nat) : Nat := if addrIsShm a then shmReadCode s (a % 2 ^ 32) n else Code.ok

/-- Masters of Table 17.2 that read data. -/
def mSve (p : Nat) : Nat := 4 + p
def mGrant : Nat := 12
def mSch : Nat := 13
def mPrt : Nat := 14
def mUbw : Nat := 15
def mHif : Nat := 18
def mStw : Nat := 19
def mMgp : Nat := 20

/-- An internal master has met poisoned data: POISON_CONSUMED, and its fault source (R468, Table 21.1). -/
def poisonUse (m a : Nat) (s : State) : State := raise 898 m a (poisonUsed m a s)

/-- The master of a function's accesses. -/
def mOfFn (fn : Nat) : Nat := if fn = stewardFn then mStw else mHif

end Sys2Proof.Machine
end

