-- ==== Sys2Proof/Machine/Sched.lean ====
section
/-! DEFINITION. Time gates, selection, queue commands and gate lists of the scheduler (R359 to R378, R384 to R390). -/

namespace Sys2Proof.Machine

/-! ### Time gates (R372 to R376) -/

/-- A gate list: its BASE in ns of VC0, its bank and LEN. -/
structure GateList where
  base : Rat
  bank : Nat
  len : Nat
  deriving DecidableEq, Repr

def activeList (s : State) (n : Nat) : GateList :=
  ⟨(s.schPort n).base, s.sh (F.SCH_GATE_CTRL_ACTIVE_BANK n), s.sh (F.SCH_GATE_STATUS_ACTIVE_LEN n)⟩

def armedList (s : State) (n : Nat) : Option GateList :=
  (s.schPort n).arm.map fun a => ⟨a.1, 1 - s.sh (F.SCH_GATE_CTRL_ACTIVE_BANK n), a.2⟩

/-- GATES and DUR_NS of an entry; those of reset where it has not been written. -/
def gateEntry (s : State) (n bank e : Nat) : Nat × Nat := tgetD (s.schPort n).gates (bank * 256 + e) (0xF, 1000000)

def cycleNs (s : State) (n : Nat) (l : GateList) : Nat := ((List.range l.len).map fun e => (gateEntry s n l.bank e).2).sum

/-- The entry that an offset in the cycle falls in, and what is left of it. -/
def entryIn (s : State) (n : Nat) (l : GateList) : List Nat → Rat → Nat × Rat
  | [], _ => (0, 0)
  | e :: t, r =>
    let d : Rat := (gateEntry s n l.bank e).2
    if r < d then (e, d - r) else entryIn s n l t (r - d)

/-- The number of the cycle, the entry in force at a VC0 time in ns, and what is left of it (R373). -/
def entryAt (s : State) (n : Nat) (l : GateList) (v : Rat) : Int × Nat × Rat :=
  let c : Rat := cycleNs s n l
  let k := ⌊(v - l.base) / c⌋
  let r := entryIn s n l (List.range l.len) (v - l.base - k * c)
  (k, r.1, r.2)

/-- Does a level stay open for `need` ns from inside an entry of which `left` ns are left? `fuel` bounds the walk. -/
def openFor (s : State) (n : Nat) (l : GateList) (level : Nat) : Nat → Nat → Rat → Rat → Bool
  | 0, _, _, _ => true
  | fuel + 1, e, left, need =>
    if !bitOf (gateEntry s n l.bank e).1 level then false
    else if need ≤ left then true
    else
      let e' := if e + 1 < l.len then e + 1 else 0
      openFor s n l level fuel e' ((gateEntry s n l.bank e').2 : Rat) (need - left)

/-- Does a level stay open under one list throughout [v, v + need)? -/
def listOpen (s : State) (n : Nat) (l : GateList) (level : Nat) (v need : Rat) : Bool :=
  let e := entryAt s n l v
  openFor s n l level (⌈need⌉.toNat + 2) e.2.1 e.2.2 need

/-- Does gate `level` of a port stay open throughout [v, v + need), the armed list beyond its BASE included (R376)? -/
def gateOpen (s : State) (n level : Nat) (v need : Rat) : Bool :=
  if s.sh (F.SCH_PORT_CFG_GATE_EN n) = 0 then true
  else match armedList s n with
    | none => listOpen s n (activeList s n) level v need
    | some a =>
      (decide (a.base ≤ v) || listOpen s n (activeList s n) level v (min need (a.base - v))) &&
        (decide (v + need ≤ a.base) || listOpen s n a level (max v a.base) (v + need - max v a.base))

/-- VC0's time in ns at an instant in ticks. -/
def vc0Ns (s : State) (at_ : Rat) : Rat := (vc0Time s ⌊at_ * 32⌋.toNat : Rat) / 2 ^ 48

/-- A duration in ticks as ns. -/
def nsOfTicks (t : Rat) : Rat := t * 64 / 100

/-- d + GUARD_NS of a frame, in ns. -/
def guardNs (s : State) (n : Nat) (d : Rat) : Rat := nsOfTicks d + (s.sh (F.SCH_PORT_CFG_GUARD_NS n) : Rat)

/-- May a frame of a level and duration start at an instant under the gates (R376)? `whole` frames need the whole interval. -/
def gateFits (s : State) (n level : Nat) (whole : Bool) (d at_ : Rat) : Bool :=
  let v := vc0Ns s at_
  if !whole && bitOf (s.sh (F.SCH_PORT_CFG_OVERRUN n)) level then gateOpen s n level v 0
  else gateOpen s n level v (guardNs s n d)

/-- A reserved interval is a closed gate for every level (R378). -/
def reservedFits (s : State) (n : Nat) (d at_ : Rat) : Bool :=
  (s.schPort n).launches.all fun l => decide (at_ + d ≤ l.start) || decide (l.end_ ≤ at_)

/-- May a queued frame start at an instant? -/
def frameFits (s : State) (n : Nat) (f : TxFrame) (at_ : Rat) : Bool :=
  let d := lineTicks s n f.len
  gateFits s n f.level f.oneStep d at_ && reservedFits s n d at_

/-- The longest window of a level in a list run from one of its entries for a whole cycle, in ns; none if it never closes. -/
def windowFrom (s : State) (n : Nat) (l : GateList) (level : Nat) : Nat → Nat → Nat → Option Nat
  | 0, _, _ => none
  | fuel + 1, e, acc =>
    let g := gateEntry s n l.bank e
    if !bitOf g.1 level then some acc else windowFrom s n l level fuel (if e + 1 < l.len then e + 1 else 0) (acc + g.2)

/-- Does a frame's d + GUARD_NS exceed every window of its level in the active list (R377)? -/
def noFit (s : State) (n : Nat) (f : TxFrame) : Bool :=
  if s.sh (F.SCH_PORT_CFG_GATE_EN n) = 0 then false
  else
    let l := activeList s n
    let loose := !f.oneStep && bitOf (s.sh (F.SCH_PORT_CFG_OVERRUN n)) f.level
    (List.range l.len).all fun e =>
      match windowFrom s n l f.level l.len e 0 with
      | none => false
      | some w => if loose then w == 0 else decide ((w : Rat) < guardNs s n (lineTicks s n f.len))

/-! ### Gate lists -/

/-- ENTRY and GATES of a port as at a tick, and the time for which gate 0 is closed. -/
def gateRefresh (n tick : Nat) (s : State) : State :=
  let l := activeList s n
  let e := (entryAt s n l (vc0Ns s tick)).2.1
  let g := if s.sh (F.SCH_PORT_CFG_GATE_EN n) = 1 then (gateEntry s n l.bank e).1 else 0xF
  let p := s.schPort n
  let p' : SchPort :=
    if bitOf g 0 then { p with closed := p.closed + ((p.closedAt.map fun t => tick - t).getD 0), closedAt := none }
    else { p with closedAt := some (p.closedAt.getD tick) }
  (({ s with sch := { s.sch with ports := tset s.sch.ports n p' } }).wr 0 (F.SCH_GATE_STATUS_ENTRY n) e).wr 0 (F.SCH_GATE_STATUS_GATES n) g

/-- A write of SCH_GATE_CTRL[n] (R374, R389). -/
def writeGateCtrl (fn n v : Nat) (s : State) : State :=
  writeAtDoor .sch fn (0x210 + 0x40 * n) (fun s =>
    if !s.secureSt fn then postTo Ev.SCH_AUTH_REFUSED fn n s
    else
      let len := bits v 0 9
      let s := s.wr 0 (F.SCH_GATE_CTRL_LEN n) len
      let t96v := s.sh (F.SCH_GATE_BASE0 n) + 2 ^ 32 * s.sh (F.SCH_GATE_BASE1 n) + 2 ^ 64 * s.sh (F.SCH_GATE_BASE2 n)
      let base : Rat := (linOfT96 t96v : Rat) / 65536
      let clear : State → State := fun t =>
        ((t.setSchPort n { t.schPort n with arm := none }).wr 0 (F.SCH_GATE_CTRL_ARM n) 0).wr 0 (F.SCH_GATE_CTRL_ARMED n) 0
      if bitOf v 10 then clear s
      else if !bitOf v 9 then s
      else if !t96Valid t96v || len == 0 || decide (256 < len) || decide (base < vc0Ns s s.frc + 1000) then post Ev.SCH_GATE_REFUSED n s
      else ((s.setSchPort n { s.schPort n with arm := some (base, len) }).wr 0 (F.SCH_GATE_CTRL_ARM n) 1).wr 0 (F.SCH_GATE_CTRL_ARMED n) 1) s

/-- GATE_LIST_ARM: the value written to SCH_GATE_CTRL[n]. -/
def execGateListArm (fn : Fn) (port : Fin 16) (value : BitVec 32) (s : State) : Host.Outcome State Fault Refusal :=
  .next (writeGateCtrl fn.val port.val value.toNat s)

/-- GATE_LIST_ABORT: the value written to SCH_GATE_CTRL[n]. -/
def execGateListAbort (fn : Fn) (port : Fin 16) (value : BitVec 32) (s : State) : Host.Outcome State Fault Refusal :=
  .next (writeGateCtrl fn.val port.val value.toNat s)

/-- GATE_TAKEOVER: the first tick at which VC0 reaches the armed BASE (R374, R375). -/
def gateTakeover (n tick : Nat) (s : State) : State :=
  match (s.schPort n).arm with
  | none => s
  | some (base, len) =>
    if s.frc < tick ∨ vc0Ns s tick < base ∨ (0 < tick ∧ base ≤ vc0Ns s (tick - 1 : Nat)) then s
    else
      let t := s.setSchPort n { s.schPort n with arm := none, base := base }
      let t := ((t.wr 0 (F.SCH_GATE_CTRL_ARM n) 0).wr 0 (F.SCH_GATE_CTRL_ARMED n) 0).wr 0 (F.SCH_GATE_CTRL_ACTIVE_BANK n)
        (1 - t.sh (F.SCH_GATE_CTRL_ACTIVE_BANK n))
      postAt Ev.SCH_GATE_SWAP tick n [] (gateRefresh n tick (t.wr 0 (F.SCH_GATE_STATUS_ACTIVE_LEN n) len))

def execGateTakeover (port : Fin 16) (tick : BitVec 64) (s : State) : Host.Outcome State Fault Refusal :=
  .next (gateTakeover port.val tick.toNat s)

/-- GATE_ENTRY_START: the first tick at which VC0 reaches the start of an entry, or the tick of a step that changes the entry (R373, R375). -/
def gateEntryStart (n tick : Nat) (s : State) : State :=
  let l := activeList s n
  let now := entryAt s n l (vc0Ns s tick)
  let was := entryAt s n l (vc0Ns s (tick - 1 : Nat))
  if s.frc < tick ∨ (now.1 = was.1 ∧ now.2.1 = was.2.1) then s else gateRefresh n tick s

def execGateEntryStart (port : Fin 16) (tick : BitVec 64) (s : State) : Host.Outcome State Fault Refusal :=
  .next (gateEntryStart port.val tick.toNat s)

/-! ### Selection (R363 to R371) -/

/-- INC of R366, in 2^-24 tick. -/
def shaperInc (q : TxQueue) : Nat := (roundDiv ((2 ^ 24 * 12500000 : Nat) : Int) q.rate).toNat

/-- Does a queue's shaper allow its head (R366)? -/
def shaperOk (s : State) (q : TxQueue) : Bool := q.rate == 0 || decide (q.ne / 2 ^ 24 ≤ s.frc)

/-- NE after the selection of a frame. -/
def shaperNext (s : State) (q : TxQueue) (f : TxFrame) : Nat :=
  if q.rate = 0 then q.ne else max q.ne (s.frc * 2 ^ 24 - q.burst * shaperInc q) + lAcct q f * shaperInc q

/-- The predicted start of the next frame selected (R369). -/
def predictedStart (s : State) (n : Nat) : Rat :=
  max (s.frc : Rat) (s.prtPort n).freeAt + ((s.schPort n).pipe.map fun f => lineTicks s n f.len).sum

/-- Is a queue eligible (R363)? -/
def eligible (s : State) (n : Nat) (q : TxQueue) : Bool :=
  match q.frames with
  | [] => false
  | f :: _ => q.en && shaperOk s q && frameFits s n f (predictedStart s n)

/-- Tag a precedes tag b (R364). -/
def tagBefore (a b : Nat) : Bool :=
  let d := wsub 32 b a
  decide (1 ≤ d) && decide (d ≤ 2 ^ 31 - 1)

/-- The queue of a level that the port serves next: the first tag, the lower number on a tie. -/
def bestQueue (s : State) (n level : Nat) : Option (Nat × TxQueue) :=
  (s.sch.queues.filter fun e => e.2.port == n && e.2.level == level && eligible s n e.2).foldl (fun b e => match b with
    | none => some e
    | some x => if tagBefore e.2.tag x.2.tag then some e else some x) none

/-- Drop heads that fit no window (R377): how many, and what is left. -/
def dropNoFit (s : State) (n : Nat) : List TxFrame → List TxFrame × List TxFrame
  | [] => ([], [])
  | f :: t => if noFit s n f then let r := dropNoFit s n t; (f :: r.1, r.2) else ([], f :: t)

/-- Discard the heads of a port's queues that fit no window. A head that follows takes its tag as in a queue that becomes backlogged. -/
def purgeNoFit (n : Nat) (s : State) : State :=
  each (s.sch.queues.filter fun e => e.2.port == n && e.2.en && !(dropNoFit s n e.2.frames).1.isEmpty) (fun e t =>
    let r := dropNoFit t n e.2.frames
    let tag := match r.2 with
      | [] => e.2.tag
      | f :: _ => (tgetD (t.schPort n).v e.2.level 0 + wfqInc e.2 f) % 2 ^ 32
    let t := t.setQ e.1 { e.2 with frames := r.2, tag := tag, otherDrop := (e.2.otherDrop + r.1.length) % 2 ^ 16 }
    each r.1 (fun f t => frameDropped f Code.discarded TxCause.noFit (count Ct.SCH_NO_FIT e.1 1 t)) t) s

/-- Ticks a frame has waited with gate 0 open. -/
def lagTicks (s : State) (n : Nat) (f : TxFrame) : Nat := (s.frc - f.enq) - (closedTime s n - f.closed)

/-- GRANT_LAG (R386): a level-0 frame that waited more than 10 µs. -/
def grantLag (n : Nat) (f : TxFrame) (s : State) : State :=
  if f.level = 0 ∧ 15625 < lagTicks s n f then
    post Ev.SCH_GRANT_LAG n (s.wr 0 (F.SCH_PORT_COUNTS_GRANT_LAG n) (s.sh (F.SCH_PORT_COUNTS_GRANT_LAG n) + 1))
  else s

/-- Is the port's next selection a latency sample (R385)? -/
def sampleDue (s : State) (n : Nat) : Bool :=
  s.sh F.SCH_SMP_CFG_EN == 1 && s.sh (F.SCH_PORT_CFG_SMP_EN n) == 1 &&
    ((s.schPort n).sels + 1) % 2 ^ s.sh (F.SCH_PORT_CFG_SMP_LOG2 n) == 0

/-- A delay in ticks as ns, saturating. -/
def delayNs (ticks : Nat) : Nat := satU 32 (ticks * 64 / 100)

/-- Select the head of a queue (R364, R366, R384, R385). -/
def selectFrom (n q : Nat) (s : State) : State :=
  let x := s.q q
  match x.frames with
  | [] => s
  | f :: rest =>
    let p := s.schPort n
    let smp := if sampleDue s n then some rest.length else none
    let f' := { f with sel := s.frc, smp := smp }
    let tag := match rest with
      | [] => x.tag
      | g :: _ => (x.tag + wfqInc x g) % 2 ^ 32
    let t := grantLag n f s
    let t := t.setQ q { x with frames := rest, tag := tag, ne := shaperNext s x f, maxDelay := max x.maxDelay (delayNs (s.frc - f.enq)) }
    count Ct.SCH_SELECTED q 1 (t.setSchPort n { p with pipe := p.pipe ++ [f'], v := tset p.v x.level x.tag, sels := p.sels + 1 })

/-- Mark the first reservation that is not selected yet as selected; none where every one is. -/
def selectLaunch : List Launch → Option (List Launch × Launch)
  | [] => none
  | l :: t => if l.selected then (selectLaunch t).map fun r => (l :: r.1, r.2) else some ({ l with selected := true } :: t, l)

/-- SCH_SELECT: a port with room selects the next frame: a reserved launch, or the first eligible queue of the highest level (R363). -/
def schSelect (n : Nat) (s : State) : State :=
  if s.safe || !s.doorOpen .sch || !portUp s n then s
  else
    let p := s.schPort n
    if s.sh (F.SCH_PORT_CFG_RUN_AHEAD n) ≤ p.pipe.length + (p.launches.filter (·.selected)).length then s
    else match selectLaunch p.launches with
      | some r => count Ct.SCH_SELECTED r.2.frame.queue 1 (s.setSchPort n { p with launches := r.1, sels := p.sels + 1 })
      | none =>
        let t := purgeNoFit n s
        match (List.range 4).findSome? fun l => bestQueue t n l with
        | some e => selectFrom n e.1 t
        | none => t

def execSchSelect (port : Fin 16) (s : State) : Host.Outcome State Fault Refusal := .next (schSelect port.val s)

/-! ### Revocation (R370) -/

/-- Mark the frames that have been selected and not started, and that a test names, as revoked. -/
def revoke (p : TxFrame → Bool) (s : State) : State :=
  let mark : TxFrame → TxFrame := fun f => if p f then { f with revoked := true } else f
  { s with sch := { s.sch with ports := tmap (fun _ x => { x with
      pipe := x.pipe.map mark
      launches := x.launches.map fun l => if l.selected then { l with frame := mark l.frame } else l }) s.sch.ports } }

/-! ### The latency sampler (R385) -/

/-- The record of a sampled frame, written when it starts: only then is it known whether it was revoked or held. -/
def writeSample (n : Nat) (f : TxFrame) (s : State) : State :=
  match f.smp with
  | none => s
  | some depth =>
    if s.sh F.SCH_SMP_CFG_EN = 0 then s
    else
      let seq := s.sch.smpSeq
      let t := { s with sch := { s.sch with smpSeq := (seq + 1) % 2 ^ 32 } }
      let size := 2 ^ s.sh F.SCH_SMP_CFG_LOG2_RECORDS
      let wr := s.sh F.SCH_SMP_WR_IDX
      let used := wsub 32 wr (s.sh F.SCH_SMP_RD_IDX)
      if size ≤ used then post Ev.SCH_SMP_DROPPED n t
      else
        let a := s.sh F.SCH_SMP_BASE + 32 * (wr % size)
        let rec_ := leBytes 8 f.enq ++ leBytes 8 f.sel ++ leBytes 2 f.queue ++
          oct [n, f.level + 4 * b2n f.oneStep + 8 * b2n f.revoked + 16 * b2n f.held] ++ leBytes 2 (satU 16 depth) ++ leBytes 2 f.len ++
          leBytes 4 seq ++ zeros 4
        let wm := s.sh F.SCH_SMP_CFG_WM
        let t := if a + 32 ≤ dualBase then t.shmWrite a rec_ else t
        onlyIf (wm != 0 && used + 1 == wm) (post Ev.SCH_SMP_WM n) (t.wr 0 F.SCH_SMP_WR_IDX (wr + 1))

/-! ### Queue commands (R362, R384, R389) -/

def stQ : StatRef := ⟨F.SCH_Q_STATUS_CODE, F.SCH_Q_STATUS_BUSY, none⟩

def qCommand (w : Win) (body : Nat → State → State) (s : State) : State :=
  command .sch stQ Ev.SCH_CMD_OVERRUN w (fun s => body (s.rd w.c F.SCH_Q_SEL) s) s

/-- The configuration that a window holds (Table 13.9), over a queue. -/
def windowQ (s : State) (w : Win) (x : TxQueue) : TxQueue :=
  let c0 := s.rd w.c F.SCH_Q_CFG0
  let c1 := s.rd w.c F.SCH_Q_CFG1
  { x with
    en := bitOf c0 0, port := bits c0 1 4, level := bits c0 5 2, host := bitOf c0 7, owner := bits c0 8 9
    weight := max 1 (bits c1 0 16), ovh := sgn 8 (bits c1 16 8), rate := s.rd w.c F.SCH_Q_CFG2
    burst := bits (s.rd w.c F.SCH_Q_CFG3) 0 24, maxDepth := max 1 (bits (s.rd w.c F.SCH_Q_CFG4) 0 16) }

/-- WRITE (R362): refused where it moves a queue that holds frames, and to a tenant that does not own the HOST queue or changes more than R389 lets it. -/
def opQWrite (w : Win) (s : State) : State :=
  qCommand w (fun q s =>
    let x := s.q q
    let y := windowQ s w x
    let moved := y.port != x.port || y.level != x.level || y.host != x.host
    let tenantOk := x.host && tenantOf w.fn == x.owner && !moved && y.owner == x.owner
    if (!s.secureSt w.fn && !tenantOk) || (moved && !x.frames.isEmpty) then refuse stQ w 0 s
    else completeOk stQ w (revoke (fun f => f.queue == q) (s.setQ q y))) s

/-- Q_WRITE. -/
def execQWrite (fn : Fn) (s : State) : Host.Outcome State Fault Refusal := .next (opQWrite ⟨fn.val, fn.val + 1⟩ s)

/-- READ (R384). -/
def opQRead (w : Win) (clearMax : Bool) (s : State) : State :=
  qCommand w (fun q s =>
    let x := s.q q
    if !s.secureSt w.fn && tenantOf w.fn != x.owner then refuse stQ w 0 s
    else
      let t := s.wr w.c F.SCH_Q_CFG0 (b2n x.en + 2 * x.port + 32 * x.level + 128 * b2n x.host + 256 * x.owner)
      let t := (t.wr w.c F.SCH_Q_CFG1 (x.weight + 2 ^ 16 * uns 8 x.ovh)).wr w.c F.SCH_Q_CFG2 x.rate
      let t := (t.wr w.c F.SCH_Q_CFG3 x.burst).wr w.c F.SCH_Q_CFG4 x.maxDepth
      let t := (t.wr w.c F.SCH_Q_DEPTH_DEPTH (satU 16 x.frames.length)).wr w.c F.SCH_Q_DEPTH_ELIGIBLE (b2n (eligible s x.port x))
      let t := t.wr w.c F.SCH_Q_BYTES (x.frames.map (·.len)).sum
      let t := t.wr w.c F.SCH_Q_AGE ((x.frames.head?.map fun f => delayNs (s.frc - f.enq)).getD 0)
      let t := (t.wr w.c F.SCH_Q_MAX_DELAY x.maxDelay).wr w.c F.SCH_Q_DROPS_TAIL_DROP x.tailDrop
      let t := t.wr w.c F.SCH_Q_DROPS_OTHER_DROP x.otherDrop
      completeOk stQ w (onlyIf clearMax (fun t => t.setQ q { t.q q with maxDelay := 0 }) t)) s

/-- Q_READ. -/
def execQRead (fn : Fn) (clearMax : Bool) (s : State) : Host.Outcome State Fault Refusal := .next (opQRead ⟨fn.val, fn.val + 1⟩ clearMax s)

/-- FLUSH (R362): every frame that has not been selected is discarded and counted. -/
def opQFlush (w : Win) (s : State) : State :=
  qCommand w (fun q s =>
    let x := s.q q
    if !s.secureSt w.fn && !(x.host && tenantOf w.fn == x.owner) then refuse stQ w 0 s
    else
      let k := x.frames.length
      let t := queueDiscard q TxCause.flushed Ct.SCH_FLUSHED s
      let y := t.q q
      completeOk stQ w (revoke (fun f => f.queue == q) (t.setQ q { y with otherDrop := (y.otherDrop + k) % 2 ^ 16 }))) s

/-- Q_FLUSH. -/
def execQFlush (fn : Fn) (s : State) : Host.Outcome State Fault Refusal := .next (opQFlush ⟨fn.val, fn.val + 1⟩ s)

/-- At the reopening of the SCH door every NE is the tick, and each port takes up its active list where VC0 stands (R387). -/
def schReopen (s : State) : State :=
  let t := { s with sch := { s.sch with queues := tmap (fun _ q => { q with ne := s.frc * 2 ^ 24 }) s.sch.queues } }
  each (List.range 16) (fun n t => gateRefresh n t.frc t) t

end Sys2Proof.Machine
end

