-- ==== Sys2Proof/Machine/PowerCore.lean ====
section
/-! DEFINITION. Latency tolerance, secure-use counts, recorded requests, and the gating of blocks (R512 to R514, R552, R555). -/

namespace Sys2Proof.Machine

/-- The listed copies, by function, of a per-function register. -/
def fnCopies (s : State) (f : FieldRef) : List (Nat × Nat) :=
  s.regs.filterMap fun e =>
    let c := e.1 / 2 ^ 24
    if e.1 % 2 ^ 24 = f.key 0 ∧ 0 < c ∧ c < 1024 then some (c - 1, e.2) else none

/-- L of R552: the least HIF_LAT_TOL over the functions whose link is up, the VFs that are enabled among them. -/
def leastTol (s : State) : Nat :=
  if s.sh F.HIF_STATUS_LINK_UP = 0 then 0xFFFFFFFF
  else ((fnCopies s F.HIF_LAT_TOL).filter fun e => decide (e.1 ≤ s.sh F.HIF_STATUS_NUM_VFS + 1)).foldl (fun m e => min m e.2) 0xFFFFFFFF

def syncTol (s : State) : State := s.wr 0 F.PWR_LEAST_TOL (leastTol s)

/-- Is a block power-gated? -/
def State.gated (s : State) (b : Nat) : Bool := s.sh (F.PWR_BLK_GATED b) == 1

/-- Does some function hold a request of a kind for a block (1 FORCE_ON, 2 GATE)? -/
def asked (s : State) (b req : Nat) : Bool := (fnCopies s (F.HIF_PWR_REQ_REQ b)).any fun e => e.2 == req

/-- A recorded GATE that does not wait under R513. -/
def gateRecorded (s : State) (b : Nat) : Bool :=
  (fnCopies s (F.HIF_PWR_REQ_REQ b)).any fun e => e.2 == 2 && s.rd (e.1 + 1) (F.HIF_PWR_REQ_DEFERRED b) == 0

/-- The governor is held at P0 (R553). -/
def forcedP0 (s : State) : Bool := s.sh F.PWR_CTRL_FORCE_P0 == 1 || s.sh F.PWR_CTRL_GOV_EN == 0

/-- Operations of the HIF window whose requests wait, by the number kept with them: PT_COMMIT with DRAIN and SU_HOLD. -/
def hifOpCommit : Nat := 5
def hifOpHold : Nat := 7

/-- A SU_HOLD waits for a block to come back to ON. -/
def holdWaits (s : State) (b : Nat) : Bool := s.reqs.any fun r => r.blk == .hif && r.op == hifOpHold && r.obj == b

/-- The conditions of R555 on the application of a GATE. -/
def gateMay (s : State) (b : Nat) : Bool :=
  s.sh (F.HIF_SU_COUNT b) == 0 && !asked s b 1 && decide (200000 ≤ leastTol s) && !forcedP0 s && !holdWaits s b &&
    s.sh (F.FLT_BLK_STATUS_DOOR b) == 0

/-- Apply a GATE (R555): the door sequence begins, the block's block-reset rule applies to its work in progress, and its registers keep their
values. -/
def applyGate (b : Blk) (s : State) : State :=
  let t := blockLoss b (abortRequests b (s.wr 0 (F.FLT_BLK_STATUS_DOOR b.code) 1))
  post Ev.PWR_GATE_APPLIED b.code ((t.wr 0 (F.PWR_BLK_GATED b.code) 1).wr 0 (F.PWR_BLK_GATE_HELD b.code) 0)

/-- A recorded GATE is applied, or held (R555). GATE_HELD is posted as it is set. -/
def tryGate (b : Blk) (s : State) : State :=
  let n := b.code
  if s.gated n then s
  else if !asked s n 2 then s.wr 0 (F.PWR_BLK_GATE_HELD n) 0
  else if gateRecorded s n && gateMay s n then applyGate b s
  else if s.sh (F.PWR_BLK_GATE_HELD n) == 1 then s
  else post Ev.PWR_GATE_HELD n (s.wr 0 (F.PWR_BLK_GATE_HELD n) 1)

/-- A gated block starts on its way back to ON (R555). -/
def ungate (b : Nat) (s : State) : State :=
  if s.gated b && !s.pwr.waking.contains b then { s with pwr := { s.pwr with waking := s.pwr.waking ++ [b] } } else s

/-- The block returns once its last GATE is withdrawn or replaced, or a FORCE_ON is held. -/
def checkUngate (b : Nat) (s : State) : State := onlyIf (!asked s b 2 || asked s b 1) (ungate b) s

/-- The gateable blocks (R555). -/
def gateable : List Blk := [.tdc, .gn, .sec, .ubw, .mgp]

def stHif : StatRef := ⟨F.HIF_W_STATUS_CODE, F.HIF_W_STATUS_BUSY, none⟩

/-- SU_HOLD takes effect: the count rises, and RES0 has it (R513). -/
def suHeld (w : Win) (b : Nat) (s : State) : State :=
  let t := s.wr 0 (F.HIF_SU_COUNT b) (s.sh (F.HIF_SU_COUNT b) + 1)
  completeOk stHif w (t.wr w.c F.HIF_W_RES0 (t.sh (F.HIF_SU_COUNT b)))

/-- What a block does before its door reopens (R357, R387, R388). -/
def reopenHook (b : Blk) (s : State) : State :=
  match b with
  | .sec => secReload s
  | .sch => schReopen s
  | .pol => polReopen s
  | _ => s

/-- A gated block is ON again: its door opens under the new generation, and the SU_HOLDs that waited complete. -/
def resumeGated (b : Blk) (s : State) : State :=
  let n := b.code
  let t := reopenHook b ((s.wr 0 (F.PWR_BLK_GATED n) 0).wr 0 (F.FLT_BLK_STATUS_DOOR n) 0)
  let mine : Req → Bool := fun r => r.blk == .hif && r.op == hifOpHold && r.obj == n
  let t := { t with pwr := { t.pwr with waking := t.pwr.waking.filter (· != n) } }
  each (t.reqs.filter mine) (fun r => suHeld r.win n) { t with reqs := t.reqs.filter fun r => !mine r }

end Sys2Proof.Machine
end

