-- ==== Sys2Proof/Machine/FaultCmds.lean ====
section
/-! DEFINITION. The fault collector's rows and the doors': hits, timeouts, the log, the FLT window, and a block reset's way through its door
(R33 to R38, R559 to R574, R640). -/

namespace Sys2Proof.Machine

/-! ### Doors (Tables 1.8, 1.9, 21.3) -/

/-- BLOCK_RESET_ORDER: an order for a block that may be block-reset. -/
def resetOrder (b : Nat) (s : State) : State :=
  match Blk.ofCode b with
  | some k => if neverReset k || s.safe || s.sh F.RST_STATUS_PROOF_DONE == 0 then s else orderBlockReset k none s
  | none => s

def execBlockResetOrder (block : Fin 24) (s : State) : Host.Outcome State Fault Refusal := .next (resetOrder block.val s)

/-- The generation after 0xFFFF is 1 (R33). -/
def nextGen (g : Nat) : Nat := if g = 0xFFFF then 1 else g + 1

/-- DOOR_ABSENT: a FENCED door, whose requests have all ended, becomes ABSENT under the next generation (R33, R35). -/
def doorAbsent (b : Nat) (s : State) : State :=
  if s.sh (F.FLT_BLK_STATUS_DOOR b) = 1 then
    (s.wr 0 (F.FLT_BLK_STATUS_DOOR b) 2).wr 0 (F.FLT_BLK_STATUS_GEN b) (nextGen (s.sh (F.FLT_BLK_STATUS_GEN b)))
  else s

def execDoorAbsent (block : Fin 24) (s : State) : Host.Outcome State Fault Refusal := .next (doorAbsent block.val s)

def stFlt : StatRef := ⟨F.FLT_CMD_STATUS_CODE, F.FLT_CMD_STATUS_BUSY, some F.FLT_CMD_STATUS_CAUSE⟩

/-- The operation number kept with a BLOCK_RESET that waits for its block. -/
def fltOpReset : Nat := 3

/-- BLOCK_READY: the door reopens, the shadow closes, and a BLOCK_RESET command completes (R566); or a gated block is ON again (R555). -/
def blockReady (b : Blk) (s : State) : State :=
  let n := b.code
  if s.sh (F.FLT_BLK_STATUS_DOOR n) ≠ 2 then s
  else if s.gated n then (if s.pwr.waking.contains n then resumeGated b s else s)
  else
    let t := closeShadow b (reopenHook b (s.wr 0 (F.FLT_BLK_STATUS_DOOR n) 0))
    let t := { t with flt := { t.flt with timers := tdel t.flt.timers n } }
    finish .flt fltOpReset n Code.ok 0 (post Ev.FLT_BLOCK_READY n t)

def execBlockReady (block : Fin 24) (s : State) : Host.Outcome State Fault Refusal :=
  .next (match Blk.ofCode block.val with
    | some b => blockReady b s
    | none => s)

/-- DOOR_REPLY: a reply is delivered at an OPEN door under the current generation, and otherwise discarded and counted (R34). What a delivered reply
does stands in the rows of its block. -/
def doorReply (b : Blk) (gen : Nat) (s : State) : State :=
  if s.doorOpen b && gen == s.gen b then s else count (evDiscard b) 0 1 s

def execDoorReply (block : Fin 24) (gen : BitVec 16) (s : State) : Host.Outcome State Fault Refusal :=
  .next (match Blk.ofCode block.val with
    | some b => doorReply b gen.toNat s
    | none => s)

/-! ### Hits -/

/-- The hits of one cycle. Reserved sources are never set (R559). -/
def hitsOf (l : List FltHit) : List Hit :=
  (l.filter fun h => (srcDesc h.source.val).isSome).map fun h => { src := h.source.val, obj := h.object.toNat, detail := h.detail.toNat }

/-- FAULT_HIT. -/
def execFaultHit (sources : List FltHit) (s : State) : Host.Outcome State Fault Refusal :=
  .next (if hitsOf sources = [] then s else hits (hitsOf sources) s)

/-- TMR_COMPARE: a word of the three copies that disagrees enters the safe state directly (R571). -/
def tmrCompare (m : Option (BitVec 16)) (s : State) : State :=
  match m with
  | none => s
  | some i => raise 1344 i.toNat 0 s

def execTmrCompare (mismatch : Option (BitVec 16)) (s : State) : Host.Outcome State Fault Refusal := .next (tmrCompare mismatch s)

/-- READY_TIMEOUT: the shadow closes and the source hits as a primary fault (R567). -/
def readyTimeout (b : Blk) (s : State) : State :=
  let n := b.code
  match tget s.flt.timers n with
  | none => s
  | some tm =>
    if tm.fired ∨ s.frc < tm.deadline ∨ s.sh (F.FLT_BLK_STATUS_DOOR n) = 0 then s
    else
      let t := closeShadow b { s with flt := { s.flt with timers := tset s.flt.timers n { tm with fired := true } } }
      finish .flt fltOpReset n Code.blockAbsent 0 (hits [{ src := 64 * n + 48, primary := true }] t)

def execReadyTimeout (block : Fin 24) (s : State) : Host.Outcome State Fault Refusal :=
  .next (match Blk.ofCode block.val with
    | some b => readyTimeout b s
    | none => s)

/-- SCLK_STOP: the collector moves to its RC oscillator; each move is one hit of CLK_FALLBACK (R640). -/
def sclkStop (s : State) : State :=
  if s.sh F.FLT_STATUS_RC_CLOCK = 1 then s else raise 1346 0 0 (s.wr 0 F.FLT_STATUS_RC_CLOCK 1)

def execSclkStop (s : State) : Host.Outcome State Fault Refusal := .next (sclkStop s)

/-- SCLK_RETURN: the collector is back on SCLK; no source hits. -/
def execSclkReturn (s : State) : Host.Outcome State Fault Refusal := .next (s.wr 0 F.FLT_STATUS_RC_CLOCK 0)

/-! ### The log (R569) -/

/-- FLT_LOG_WRITE: the oldest record of the FIFO goes into the ring, where it is enabled, has room, and SHM can be reached. -/
def fltLogWrite (s : State) : State :=
  match s.flt.fifo with
  | [] => s
  | r :: rest =>
    let size := 2 ^ s.sh F.FLT_LOG_CFG_LOG2_RECORDS
    let wr := s.sh F.FLT_LOG_WR_IDX
    let used := wsub 32 wr (s.sh F.FLT_LOG_RD_IDX)
    if s.sh F.FLT_LOG_CFG_EN = 0 ∨ size ≤ used ∨ s.doorOpen .shm = false then s
    else
      let a := s.sh F.FLT_LOG_BASE / (32 * size) * (32 * size) + 32 * (wr % size)
      let t := { s.shmWrite a r.octets with flt := { s.flt with fifo := rest } }
      let t := (t.wr 0 F.FLT_STATUS_FIFO rest.length).wr 0 F.FLT_LOG_WR_IDX (wr + 1)
      let wm := t.sh F.FLT_LOG_CFG_WM
      onlyIf (wm != 0 && used + 1 == wm) (post Ev.FLT_LOG_WM 0) t

def execFltLogWrite (s : State) : Host.Outcome State Fault Refusal := .next (fltLogWrite s)

/-! ### The FLT window (R574) -/

namespace FltCause
def authority : Nat := 1
def locked : Nat := 2
def fixed : Nat := 3
def rule : Nat := 4
def lifecycle : Nat := 5
end FltCause

def fltCommand (w : Win) (auth : State → Bool) (body : State → State) (s : State) : State :=
  command .flt stFlt Ev.FLT_CMD_OVERRUN w (fun s => if auth s then body s else refuse stFlt w FltCause.authority s) s

/-- Would a configuration break R560, or set BLK_RST on a block that is never block-reset, or COLD without CHIP_RST? -/
def cfgBreaks (src cfg : Nat) : Bool :=
  let rc := bits cfg 3 7
  let b := srcBlk src
  let integ := ((srcDesc src).map (·.integrity)).getD false
  (neverReset b && (bitOf rc 2 || (integ && !bitOf rc 3 && !bitOf rc 5))) || (bitOf rc 6 && !bitOf rc 3)

/-- SRC_WRITE. -/
def opSrcWrite (w : Win) (s : State) : State :=
  fltCommand w (fun s => s.secureSt w.fn) (fun s =>
    let src := s.rd w.c F.FLT_SRC_SEL
    let cfg := s.rd w.c F.FLT_SRC_CFG_EN + 2 * s.rd w.c F.FLT_SRC_CFG_SEV + 8 * s.rd w.c F.FLT_SRC_CFG_REACTION
    if s.sh F.FLT_STATUS_LOCKED = 1 then refuse stFlt w FltCause.locked s
    else if src = 1344 ∨ srcDesc src = none then refuse stFlt w FltCause.fixed s
    else if cfgBreaks src cfg then refuse stFlt w FltCause.rule s
    else completeOk stFlt w { s with flt := { s.flt with cfg := if cfg = srcDefault src then tdel s.flt.cfg src else tset s.flt.cfg src cfg } }) s

def execFltSrcWrite (fn : Fn) (s : State) : Host.Outcome State Fault Refusal := .next (opSrcWrite ⟨fn.val, fn.val + 1⟩ s)

/-- SRC_READ. -/
def opSrcRead (w : Win) (s : State) : State :=
  fltCommand w (fun s => tenant0 w.fn || s.secureSt w.fn) (fun s =>
    let src := s.rd w.c F.FLT_SRC_SEL
    let cfg := s.srcCfg src
    let d := srcDesc src
    let t := ((s.wr w.c F.FLT_SRC_CFG_EN cfg).wr w.c F.FLT_SRC_CFG_SEV (bits cfg 1 2)).wr w.c F.FLT_SRC_CFG_REACTION (bits cfg 3 7)
    let t := (t.wr w.c F.FLT_SRC_CFG_CLASS (b2n ((d.map (·.integrity)).getD false))).wr w.c F.FLT_SRC_CFG_CASCADE (b2n ((d.map (·.cascade)).getD false))
    completeOk stFlt w (t.wr w.c F.FLT_SRC_CFG_FIXED (b2n (src == 1344)))) s

def execFltSrcRead (fn : Fn) (s : State) : Host.Outcome State Fault Refusal := .next (opSrcRead ⟨fn.val, fn.val + 1⟩ s)

/-- BLOCK_RESET. -/
def opBlockReset (w : Win) (s : State) : State :=
  fltCommand w (fun s => s.secureSt w.fn) (fun s =>
    match Blk.ofCode (s.rd w.c F.FLT_ARG_BLOCK) with
    | none => refuse stFlt w FltCause.rule s
    | some b =>
      if neverReset b then refuse stFlt w FltCause.rule s
      else if s.gated b.code then complete stFlt w Code.blockAbsent 0 s
      else orderBlockReset b none (accept .flt stFlt w fltOpReset b.code s)) s

def execFltBlockReset (fn : Fn) (s : State) : Host.Outcome State Fault Refusal := .next (opBlockReset ⟨fn.val, fn.val + 1⟩ s)

/-- INJECT, in a cycle with real hits. A real hit of the same source comes first; source 1,344 acts whatever MODE holds (R571, R573). -/
def opInject (w : Win) (l : List FltHit) (s : State) : State :=
  fltCommand w (fun s => s.secureSt w.fn) (fun s =>
    let src := s.rd w.c F.FLT_SRC_SEL
    if !(s.develop || (s.sh F.KS_LIFECYCLE_STATE == 2 && s.sh F.FLT_CTRL_INJ_ALLOW == 1)) then refuse stFlt w FltCause.lifecycle s
    else if srcDesc src = none then refuse stFlt w FltCause.fixed s
    else
      let h : Hit := { src := src, injected := true, dry := s.rd w.c F.FLT_ARG_MODE == 0 && src != 1344 }
      let real := hitsOf l
      hits ((real.filter fun x => decide (x.src ≤ src)) ++ h :: real.filter fun x => decide (src < x.src)) (completeOk stFlt w s)) s

def execFltInject (fn : Fn) (real : List FltHit) (s : State) : Host.Outcome State Fault Refusal := .next (opInject ⟨fn.val, fn.val + 1⟩ real s)

/-- LOCK. -/
def opFltLock (w : Win) (s : State) : State :=
  fltCommand w (fun s => s.secureSt w.fn) (fun s => completeOk stFlt w (s.wr 0 F.FLT_STATUS_LOCKED 1)) s

def execFltLock (fn : Fn) (s : State) : Host.Outcome State Fault Refusal := .next (opFltLock ⟨fn.val, fn.val + 1⟩ s)

end Sys2Proof.Machine
end

