-- ==== Sys2Proof/Machine/Ledger.lean ====
section
/-! DEFINITION. The bound ledger's deliveries and signed time tokens (chapter "Error Bound Ledger and Signed Time Tokens", R83 to R97). -/

namespace Sys2Proof.Machine

/-! ### What a bound is served with -/

/-- The slot that selector 0 holds, or 0xFF (Table 3.4, octet 20). -/
def refSlotOctet (s : State) : Nat := (selected s 0).getD 0xFF

/-- The flags octet of Table 3.4. -/
def boundFlags (s : State) (n b : Nat) : Nat :=
  let susp := match selected s 0 with
    | some r => slotState s r == stSUSPECT
    | none => false
  b2n ((s.vc n).state == .ratified) + 2 * b2n (s.sh F.SRV_STATUS_SYS_STATE == 3) + 4 * b2n susp +
    8 * b2n ((s.vc 0).par.pAdj != 0) + 16 * b2n (b == notBounded)

/-- The age field: whole seconds of τ at a tick, saturating. -/
def boundAge (s : State) (f : Nat) : Nat := satU 32 ((f - (bndAt s f).fAge) / ticksPerSec)

/-- The bound TLV of clock n at a tick and a point (R93, Table 3.4). -/
def boundTlv (s : State) (n f p q : Nat) : Octets :=
  let b := bound s n f p q
  beBytes 2 0x0003 ++ beBytes 2 22 ++ beBytes 3 (s.sh F.BND_TLV_OUI) ++ beBytes 3 (s.sh F.BND_TLV_SUBTYPE) ++
    oct [1, boundFlags s n b] ++ beBytes 5 b ++ oct [p] ++ beBytes 2 n ++ oct [refSlotOctet s, 0] ++ beBytes 4 (boundAge s f)

/-- NTP Root Dispersion of a bound (R91). -/
def rootDispersion (b : Nat) : Nat := if b = notBounded then 0xFFFFFFFF else ceilDiv (b * 65536) (256 * 1000000000)

/-! ### Tokens -/

/-- The boot measurement's 48 octets (Table 19.7). -/
def measOctets (s : State) : Octets := ((List.range 12).map fun w => beBytes 4 (s.sh (F.STW_MEAS w))).flatten

/-- The identity digest (R451). -/
def identityDigest (s : State) : Octets := beBytes 48 (Config.sha384 (Config.idPub (s.sh F.KS_LIFECYCLE_ROOT_GEN))).toNat

/-- Octets 0 to 159 of a token captured now (Table 3.6). -/
def tokenBody (s : State) (w : Win) (n counter : Nat) (nonce : Octets) : Octets :=
  let b := bound s n s.frc 0 qTick
  oct [0x4C, 0x56, 0x54, 0x54, 1, boundFlags s n b] ++ beBytes 2 n ++ beBytes 2 (tenantOf w.fn) ++
    beBytes 12 (t96 (vcTime s n (32 * s.frc))) ++ beBytes 8 s.frc ++ beBytes 5 b ++ oct [0] ++ beBytes 8 counter ++ nonce ++
    measOctets s ++ identityDigest s ++ oct [uns 8 (s.vc n).leapNet, refSlotOctet s, 0, 0]

/-- The nonce in a window. -/
def tokNonce (s : State) (w : Win) : Octets :=
  beBytes 4 (s.rd w.c F.BND_TOK_NONCE0) ++ beBytes 4 (s.rd w.c F.BND_TOK_NONCE1) ++ beBytes 4 (s.rd w.c F.BND_TOK_NONCE2) ++
    beBytes 4 (s.rd w.c F.BND_TOK_NONCE3)

/-- START written to BND_TOK_CMD (R94, R95). -/
def opTokStart (w : Win) (s : State) : State :=
  command .bnd stTok Ev.BND_TOK_OVERRUN w (fun s =>
    let n := s.rd w.c F.BND_TOK_SEL
    let a := s.rd64 w.c F.BND_TOK_ADDR_LO F.BND_TOK_ADDR_HI
    if !vcReadable s n w.fn || s.sh F.KS_LIFECYCLE_STATE == 0 || decide (8 ≤ s.bnd.tokens.length) || a % 64 != 0 ||
        !ownsBuf s w.fn a 3584 then refuse stTok w 0 s
    else
      let k := s.rd64 0 F.BND_TOK_COUNT_LO F.BND_TOK_COUNT_HI
      let tk : Token := ⟨w, a, k, tokenBody s w n k (tokNonce s w)⟩
      let t := (s.wr64 w.c F.BND_TOK_CTR_LO F.BND_TOK_CTR_HI k).wr64 0 F.BND_TOK_COUNT_LO F.BND_TOK_COUNT_HI (k + 1)
      accept .bnd stTok w 0 k (setTokens (t.bnd.tokens ++ [tk]) t)) s

/-- BND_TOK_START. -/
def execBndTokStart (fn : Fn) (s : State) : Host.Outcome State Fault Refusal := .next (opTokStart ⟨fn.val, fn.val + 1⟩ s)

/-- The whole buffer of a token: its body, both signatures and 15 zero octets (R96, Table 3.6). -/
def tokenBuffer (s : State) (body : Octets) : Octets :=
  let g := s.sh F.KS_LIFECYCLE_ROOT_GEN
  let ctx : Octets := oct [0x4C, 0x56, 0x4B, 0x37, 0x32, 0x36, 0x30, 0x2D, 0x54, 0x4F, 0x4B, 0x45, 0x4E]
  body ++ beBytes 2 96 ++ beBytes 96 (Config.idEcdsa g body).toNat ++ beBytes 2 3309 ++ padTo 3309 (Config.idMldsa g ctx body) ++
    zeros 15

/-- TOKEN_DONE: the buffer of the i-th token in progress is written, and its command completes (R97). -/
def tokenDone (i : Nat) (s : State) : State :=
  match s.bnd.tokens[i]? with
  | none => s
  | some t => tokenFinish t Code.ok (dmaWrite t.win.fn t.addr (tokenBuffer s t.body) s)

/-- TOKEN_DONE, by place in the order of acceptance. -/
def execTokenDone (index : Fin 8) (s : State) : Host.Outcome State Fault Refusal := .next (tokenDone index.val s)

/-! ### Staleness and age -/

/-- PATH_STALE: CAL_AGE_MS of a point has passed 25,000 (R89). -/
def pathBecomesStale (p : Nat) (s : State) : State :=
  if 24 ≤ p ∨ pathStale s p s.frc = false ∨ s.sh (F.BND_PATH_STALE_IS_STALE p) = 1 then s
  else syncBound (post Ev.BND_PATH_STALE p (s.wr 0 (F.BND_PATH_STALE_IS_STALE p) 1))

def execPathStale (point : Fin 24) (s : State) : Host.Outcome State Fault Refusal := .next (pathBecomesStale point.val s)

/-- AGE_EXPIRED: τ has passed BND_AGE_MAX (R86). -/
def agePasses (s : State) : State := if ageExpired s s.frc then syncBound s else s

def execAgeExpired (s : State) : Host.Outcome State Fault Refusal := .next (agePasses s)

/-- A calibration's uncertainty arrives at a point: CAL_UNC, and CAL_AGE_MS restarts (R89). -/
def pathCalibrated (p unc tick : Nat) (s : State) : State :=
  let t := (s.wr 0 (F.BND_PATH_CAL p) unc).wr 0 (F.BND_PATH_STALE_IS_STALE p) 0
  syncBound { t with bnd := { t.bnd with calAt := tset t.bnd.calAt p tick } }

end Sys2Proof.Machine
end

