-- ==== Sys2Proof/Machine/KeyStore.lean ====
section
/-! DEFINITION. The Truffle key store: commands, persistent records, envelopes, delivery, expiry, tamper and zeroisation (R435 to R463). -/

namespace Sys2Proof.Machine

def stKs : StatRef := ⟨F.KS_CMD_STATUS_CODE, F.KS_CMD_STATUS_BUSY, some F.KS_CMD_STATUS_CAUSE⟩

/-! Causes of Table 16.14. -/
namespace KsCause
def authority : Nat := 1
def lifecycle : Nat := 2
def slotState : Nat := 3
def attributes : Nat := 4
def format : Nat := 5
def signature : Nat := 6
def recipient : Nat := 7
def counter : Nat := 8
def unwrap : Nat := 9
def buffer : Nat := 10
def noRoot : Nat := 11
def entropy : Nat := 12
def store : Nat := 13
end KsCause

def State.setKsSlot (n : Nat) (x : KsSlot) (s : State) : State := { s with ks := { s.ks with slots := tset s.ks.slots n x } }

/-- KS_STATUS and ROOT_VALID follow the store. -/
def syncKs (s : State) : State :=
  let used := s.ks.slots.filter fun e => attrType e.2.attr != 0
  let t := (s.wr 0 F.KS_STATUS_PERSIST_USED (used.filter fun e => decide (e.1 < 256)).length).wr 0 F.KS_STATUS_VOLATILE_USED
    (used.filter fun e => decide (256 ≤ e.1)).length
  (t.wr 0 F.KS_STATUS_AS_BLANK (b2n (asBlank t))).wr 0 F.KS_LIFECYCLE_ROOT_VALID (b2n t.ks.root.isSome)

/-! ### Records (R443) -/

/-- A record as it is stored: what the Truffle sets is cleared, and so are reserved bits. -/
def cleanAttr (a : Octets) : Octets :=
  oct [attrType a, attrLen a] ++ leBytes 2 (attrUsage a) ++ oct [attrMasters a % 16, attrFlags a % 8] ++ leBytes 2 (attrTenant a) ++
    oct [attrLife a % 4] ++ slice a 9 6 ++ zeros 17

/-- Is a record valid for a slot: TYPE, LEN, USAGE and PERSIST? -/
def attrOk (n : Nat) (a : Octets) : Bool :=
  let t := attrType a
  let u := attrUsage a
  decide (1 ≤ t) && decide (t ≤ 5) && attrLen a == (if t = 1 then 16 else 32) && decide (u < 32) && (!bitOf u 0 || t == 1 || t == 2) &&
    (!bitOf u 1 || t == 3) && (!bitOf u 2 || t == 4) && (!bitOf u 3 || t == 5) && attrPersist a == decide (n < 256)

/-- The record that the Truffle writes: ORIGIN, PARENT, VERSION and SOURCE set (Table 16.3). -/
def attrSet (a : Octets) (origin parent version source : Nat) : Octets :=
  (cleanAttr a).take 16 ++ oct [origin, 0] ++ leBytes 2 parent ++ leBytes 4 version ++ leBytes 8 source

/-- An EMPTY slot's record: VERSION alone. -/
def emptyAttr (version : Nat) : Octets := zeros 20 ++ leBytes 4 version ++ zeros 8

/-- Is a bit mask contained in another? -/
def maskIn (a b : Nat) : Bool := a &&& b == a

/-! ### Writing (R445, R459) -/

/-- One completed persistent write. -/
def ksWritten (s : State) : State := s.wr64 0 F.KS_WRITES_LO F.KS_WRITES_HI ((s.rd64 0 F.KS_WRITES_LO F.KS_WRITES_HI + 1) % 2 ^ 64)

/-- Does any holder have a copy of a slot's key? -/
def keyHeld (s : State) (n : Nat) : Bool :=
  let hit : Option SaHalf → Bool := fun h => (h.map fun x => !x.lost && x.slot == n).getD false
  (tget s.ks.held n).isSome || (s.sec.sas.any fun e => hit e.2.a || hit e.2.b) || s.sec.nts.any fun e => !e.2.lost && e.2.slot == n

/-- KEY_REVOCATION: every holder discards its copy of a slot (R445). -/
def revokeSlot (n : Nat) (s : State) : State :=
  let was := keyHeld s n
  let t := loseKeys (· == n) { s with ks := { s.ks with held := tdel s.ks.held n } }
  onlyIf was (post Ev.KS_REVOKED n) t

/-- Put a record and key into a slot: a persistent slot by PERSISTENT_WRITE, to its other copy. -/
def putSlot (n : Nat) (attr : Octets) (key : Nat) (s : State) : State :=
  let x := s.ksSlot n
  let t := s.setKsSlot n { attr := attr, key := key, copy := if n < 256 then 1 - x.copy else 0 }
  revokeSlot n (syncKs (if n < 256 then ksWritten t else t))

/-- The VERSION that a write gives a slot. -/
def nextVersion (s : State) (n : Nat) : Nat := (attrVersion (s.ksSlot n).attr + 1) % 2 ^ 32

/-! ### The command window (R438, R462, R463) -/

def ksRefuse (w : Win) (cause : Nat) (s : State) : State := refuse stKs w cause s

/-- A command that the authority of Table 16.10 refuses. -/
def ksDenied (w : Win) (s : State) : State := postTo Ev.KS_AUTH_REFUSED w.fn (s.rd w.c F.KS_SEL) (ksRefuse w KsCause.authority s)

/-- The checks that stand before every operation: R438 unless it is exempt, then authority. -/
def ksCommand (w : Win) (exempt : Bool) (auth : State → Bool) (body : State → State) (s : State) : State :=
  command .ks stKs Ev.KS_CMD_OVERRUN w (fun s =>
    if asBlank s && !exempt then ksRefuse w KsCause.noRoot s else if !auth s then ksDenied w s else body s) s

def ksAttr (s : State) (w : Win) : Octets := ((List.range 8).map fun j => leBytes 4 (s.rd w.c (F.KS_ATTR j))).flatten
def ksAddr (s : State) (w : Win) (j : Nat) : Nat := s.rd64 w.c (F.KS_ARG j) (F.KS_ARG (j + 1))

/-- A record of the function's own tenant, WORLD 1. -/
def ownAttr (fn : Nat) (a : Octets) : Bool := attrWorld a && attrTenant a == tenantOf fn

/-- May a function act on a slot: the secure world and the steward on any, a tenant on a volatile slot whose old record, unless EMPTY, is its own? -/
def maySlot (s : State) (fn n : Nat) : Bool :=
  let a := (s.ksSlot n).attr
  s.secureSt fn || (decide (256 ≤ n) && (attrType a == 0 || ownAttr fn a))

/-- The same, and the new record in the window is its own too. -/
def maySlotNew (w : Win) (s : State) : Bool := maySlot s w.fn (s.rd w.c F.KS_SEL) && (s.secureSt w.fn || ownAttr w.fn (ksAttr s w))

/-- A buffer that a command names is aligned and owned. -/
def ksBufOk (s : State) (fn a n : Nat) : Bool := a % 64 == 0 && ownsBuf s fn a n

/-- The staged copy of a persistent record reads back as written (R459, step 3), or the slot is volatile. -/
def storeOk (n : Nat) (stored : Bool) : Bool := decide (256 ≤ n) || stored

/-! ### Slot commands -/

/-- READ_ATTR. -/
def opKsReadAttr (w : Win) (s : State) : State :=
  ksCommand w true (fun s => s.secureSt w.fn || ownAttr w.fn (s.ksSlot (s.rd w.c F.KS_SEL)).attr) (fun s =>
    let a := (s.ksSlot (s.rd w.c F.KS_SEL)).attr
    completeOk stKs w (each (List.range 8) (fun j t => t.wr w.c (F.KS_ATTR j) (ofLe (slice a (4 * j) 4))) s)) s

def execKsReadAttr (fn : Fn) (s : State) : Host.Outcome State Fault Refusal := .next (opKsReadAttr ⟨fn.val, fn.val + 1⟩ s)

/-- GENERATE: the key is drawn from the entropy source. -/
def opKsGenerate (w : Win) (stored : Bool) (s : State) : State :=
  ksCommand w false (maySlotNew w) (fun s =>
    let n := s.rd w.c F.KS_SEL
    let a := ksAttr s w
    if attrType (s.ksSlot n).attr ≠ 0 then ksRefuse w KsCause.slotState s
    else if !attrOk n a then ksRefuse w KsCause.attributes s
    else if s.sh F.KS_STATUS_ENTROPY_OK = 0 then ksRefuse w KsCause.entropy s
    else if !storeOk n stored then ksRefuse w KsCause.store s
    else
      let (k, s) := s.free (8 * attrLen a)
      completeOk stKs w (putSlot n (attrSet a 0 0 (nextVersion s n) 0) k s)) s

def execKsGenerate (fn : Fn) (stored : Bool) (s : State) : Host.Outcome State Fault Refusal := .next (opKsGenerate ⟨fn.val, fn.val + 1⟩ stored s)

/-- The KDF of R448: `len` octets under a key, with a label of 16 octets and a context of 64. -/
def kdfKey (key len : Nat) (label context : Octets) : Nat :=
  (Config.kdf (8 * len) key (padTo 16 label ++ zeros 1 ++ padTo 64 context)).toNat

/-- The parent of a DERIVE, for R449: the root, or a slot that gives its key to a derivation. -/
def parentOk (s : State) (a : Octets) (n : Nat) (p : Octets) : Bool :=
  attrType p == 5 && bitOf (attrUsage p) 3 && bitOf (attrMasters p) masterKs && !attrExpired p && lifeOk s p &&
    maskIn (attrLife a) (attrLife p) && (!attrWorld p || (attrWorld a && attrTenant a == attrTenant p)) && n < 1024

/-- DERIVE (R448, R449). -/
def opKsDerive (w : Win) (stored : Bool) (s : State) : State :=
  let par (s : State) : Nat := s.rd w.c (F.KS_ARG 4) % 65536
  ksCommand w false (fun s => maySlotNew w s && (s.secureSt w.fn || (par s < 1024 && ownAttr w.fn (s.ksSlot (par s)).attr))) (fun s =>
    let n := s.rd w.c F.KS_SEL
    let a := ksAttr s w
    let p := par s
    if attrType (s.ksSlot n).attr ≠ 0 then ksRefuse w KsCause.slotState s
    else if !attrOk n a || (attrMeasBind a && decide (n < 256)) || !(p == 0xFFFF || parentOk s a p (s.ksSlot p).attr) then ksRefuse w KsCause.attributes s
    else if !storeOk n stored then ksRefuse w KsCause.store s
    else
      let ki := if p = 0xFFFF then s.ks.root.getD 0 else (s.ksSlot p).key
      let label := ((List.range 4).map fun j => leBytes 4 (s.rd w.c (F.KS_LABEL j))).flatten
      let ctx := (cleanAttr a).take 16 ++ (if attrMeasBind a then measOctets s else zeros 48)
      completeOk stKs w (putSlot n (attrSet a 1 p (nextVersion s n) 0) (kdfKey ki (attrLen a) label ctx) s)) s

def execKsDerive (fn : Fn) (stored : Bool) (s : State) : Host.Outcome State Fault Refusal := .next (opKsDerive ⟨fn.val, fn.val + 1⟩ stored s)

/-- Does a record permit no more than another (R447)? -/
def restricts (o a : Octets) : Bool :=
  attrType a == attrType o && attrLen a == attrLen o && attrFlags a % 8 == attrFlags o % 8 && attrTenant a == attrTenant o &&
    maskIn (attrUsage a) (attrUsage o) && maskIn (attrMasters a % 16) (attrMasters o) && maskIn (attrLife a % 4) (attrLife o) &&
    (attrExpiry o == 0 || (attrExpiry a != 0 && decide (attrExpiry a ≤ attrExpiry o)))

/-- RESTRICT (R447). -/
def opKsRestrict (w : Win) (stored : Bool) (s : State) : State :=
  ksCommand w false (maySlotNew w) (fun s =>
    let n := s.rd w.c F.KS_SEL
    let a := ksAttr s w
    let x := s.ksSlot n
    if attrType x.attr = 0 then ksRefuse w KsCause.slotState s
    else if !attrOk n a || !restricts x.attr a then ksRefuse w KsCause.attributes s
    else if !storeOk n stored then ksRefuse w KsCause.store s
    else
      let r := attrSet a (attrOrigin x.attr) (ofLe (slice x.attr 18 2)) (nextVersion s n) (ofLe (slice x.attr 24 8))
      let r := if attrExpired x.attr then splice r 5 (oct [attrFlags r + 8]) else r
      completeOk stKs w (putSlot n r x.key s)) s

def execKsRestrict (fn : Fn) (stored : Bool) (s : State) : Host.Outcome State Fault Refusal := .next (opKsRestrict ⟨fn.val, fn.val + 1⟩ stored s)

/-- WIPE. -/
def opKsWipe (w : Win) (stored : Bool) (s : State) : State :=
  ksCommand w false (fun s => maySlot s w.fn (s.rd w.c F.KS_SEL)) (fun s =>
    let n := s.rd w.c F.KS_SEL
    if !storeOk n stored then ksRefuse w KsCause.store s
    else completeOk stKs w (putSlot n (emptyAttr (nextVersion s n)) 0 s)) s

def execKsWipe (fn : Fn) (stored : Bool) (s : State) : Host.Outcome State Fault Refusal := .next (opKsWipe ⟨fn.val, fn.val + 1⟩ stored s)

/-! ### Zeroisation (R440, R441) -/

def clearAuth (s : State) : State :=
  each (List.range 4) (fun i t => each (List.range 12) (fun j t => t.wr 0 (F.KS_AUTH i j) 0) t) s

/-- ZEROISATION. -/
def zeroise (s : State) : State :=
  let t := clearAuth ((s.wr64 0 F.KS_WRITES_LO F.KS_WRITES_HI 0).wr64 0 F.KS_ENV_COUNT_LO F.KS_ENV_COUNT_HI 0)
  let t := (t.wr64 0 F.BND_TOK_COUNT_LO F.BND_TOK_COUNT_HI 0).wr 0 F.KS_STATUS_ID_READY 0
  let t := t.wr 0 F.SEC_STATUS_NONCE_KEY 0
  let t := { t with ks := { t.ks with root := none, slots := [], authCopy := [], zeroised := true, held := [], last := none } }
  syncKs (loseKeys (fun _ => true) t)

/-- TAMPER_TRIP: an enabled source. -/
def tamperTrip (i : Nat) (s : State) : State :=
  if !bitOf (s.sh F.KS_TAMPER_CFG) i then s
  else
    let t := s.wr 0 F.KS_TAMPER_LOG_CAUSE (setBitN (s.sh F.KS_TAMPER_LOG_CAUSE) i)
    let t := zeroise (t.wr 0 F.KS_TAMPER_LOG_COUNT (min 255 (t.sh F.KS_TAMPER_LOG_COUNT + 1)))
    if t.sh F.PWR_STATUS_STATE = 4 then t else raise 832 0 0 (post Ev.KS_ZEROISED 0 t)

def execTamperTrip (source : Fin 6) (s : State) : Host.Outcome State Fault Refusal := .next (tamperTrip source.val s)

/-! ### Lifecycle (R436) -/

/-- A new root secret from the entropy source; ROOT_GEN rises. -/
def newRoot (s : State) : State :=
  let (r, s) := s.free 256
  let t := { s with ks := { s.ks with root := some r } }
  syncKs (t.wr 0 F.KS_LIFECYCLE_ROOT_GEN (t.sh F.KS_LIFECYCLE_ROOT_GEN + 1))

/-- PROVISION. -/
def opKsProvision (w : Win) (s : State) : State :=
  ksCommand w true (fun s => s.secureSt w.fn || (w.fn == 0 && s.sh F.KS_LIFECYCLE_STATE == 0)) (fun s =>
    if s.sh F.KS_LIFECYCLE_STATE ≠ 0 then ksRefuse w (if asBlank s then KsCause.noRoot else KsCause.lifecycle) s
    else if s.sh F.KS_STATUS_ENTROPY_OK = 0 then ksRefuse w KsCause.entropy s
    else completeOk stKs w (newRoot (s.wr 0 F.KS_LIFECYCLE_STATE 1))) s

def execKsProvision (fn : Fn) (s : State) : Host.Outcome State Fault Refusal := .next (opKsProvision ⟨fn.val, fn.val + 1⟩ s)

/-- DEPLOY. -/
def opKsDeploy (w : Win) (s : State) : State :=
  ksCommand w false (fun s => s.secureSt w.fn) (fun s =>
    if s.sh F.KS_LIFECYCLE_STATE ≠ 1 then ksRefuse w KsCause.lifecycle s
    else completeOk stKs w (syncKs ((s.wr 0 F.KS_LIFECYCLE_STATE 2).wr 0 F.KS_LIFECYCLE_AUTH_LOCKED 1))) s

def execKsDeploy (fn : Fn) (s : State) : Host.Outcome State Fault Refusal := .next (opKsDeploy ⟨fn.val, fn.val + 1⟩ s)

/-- RETURN: zeroisation, without a tamper cause. -/
def opKsReturn (w : Win) (s : State) : State :=
  ksCommand w false (fun s => s.secureSt w.fn) (fun s =>
    if s.sh F.KS_LIFECYCLE_STATE ≠ 1 then ksRefuse w KsCause.lifecycle s
    else completeOk stKs w (zeroise (s.wr 0 F.KS_LIFECYCLE_STATE 3))) s

def execKsReturn (fn : Fn) (s : State) : Host.Outcome State Fault Refusal := .next (opKsReturn ⟨fn.val, fn.val + 1⟩ s)

/-! ### Authority entries (R454) -/

def authEntry (s : State) (i : Nat) : Octets := ((List.range 12).map fun j => beBytes 4 (s.sh (F.KS_AUTH i j))).flatten

/-- Write an authority entry, one persistent write. -/
def putAuth (i : Nat) (o : Octets) (s : State) : State :=
  let t := each (List.range 12) (fun j t => t.wr 0 (F.KS_AUTH i j) (ofBe (slice o (4 * j) 4))) s
  ksWritten { t with ks := { t.ks with authCopy := tset t.ks.authCopy i (1 - tgetD t.ks.authCopy i 0) } }

/-- AUTH_SET. -/
def opKsAuthSet (w : Win) (stored : Bool) (s : State) : State :=
  ksCommand w false (fun s => s.secureSt w.fn) (fun s =>
    let a := ksAddr s w 0
    if s.sh F.KS_LIFECYCLE_AUTH_LOCKED = 1 then ksRefuse w KsCause.slotState s
    else if !ksBufOk s w.fn a 48 then ksRefuse w KsCause.buffer s
    else if bufCode s a 48 ≠ Code.ok then complete stKs w (bufCode s a 48) 0 s
    else if !stored then ksRefuse w KsCause.store s
    else completeOk stKs w (putAuth (s.rd w.c (F.KS_ARG 4) % 4) (s.memRead w.fn a 48) s)) s

def execKsAuthSet (fn : Fn) (stored : Bool) (s : State) : Host.Outcome State Fault Refusal := .next (opKsAuthSet ⟨fn.val, fn.val + 1⟩ stored s)

/-- LOCK_AUTH. -/
def opKsLockAuth (w : Win) (s : State) : State :=
  ksCommand w false (fun s => s.secureSt w.fn) (fun s => completeOk stKs w (s.wr 0 F.KS_LIFECYCLE_AUTH_LOCKED 1)) s

def execKsLockAuth (fn : Fn) (s : State) : Host.Outcome State Fault Refusal := .next (opKsLockAuth ⟨fn.val, fn.val + 1⟩ s)

/-! ### Identity (R451 to R453) -/

def rootGen (s : State) : Nat := s.sh F.KS_LIFECYCLE_ROOT_GEN

/-- Octets 0 to 3,349 of the identity statement (Table 16.5). -/
def idBody (s : State) : Octets :=
  let g := rootGen s
  oct [0x4C, 0x56, 0x49, 0x44, 1, s.sh F.KS_LIFECYCLE_STATE, 0, 0] ++ beBytes 4 g ++ beBytes 8 Config.serial.toNat ++ padTo 2049 (Config.idPub g) ++
    padTo 97 (Config.idEcdh g) ++ padTo 1184 (Config.idMlkem g)

/-- The buffer of 6,784 octets: the statement, and 25 zero octets. -/
def idStatement (s : State) : Octets :=
  let b := idBody s
  let ctx : Octets := oct [0x4C, 0x56, 0x4B, 0x37, 0x32, 0x36, 0x30, 0x2D, 0x49, 0x44, 0x45, 0x4E, 0x54, 0x49, 0x54, 0x59]
  b ++ beBytes 2 96 ++ beBytes 96 (Config.ekEcdsa b).toNat ++ beBytes 2 3309 ++ padTo 3309 (Config.ekMldsa ctx b) ++ zeros 25

/-- ID_STATEMENT. -/
def opKsIdStatement (w : Win) (s : State) : State :=
  ksCommand w false (fun _ => true) (fun s =>
    let a := ksAddr s w 0
    if !ksBufOk s w.fn a 6784 then ksRefuse w KsCause.buffer s
    else completeOk stKs w (dmaWrite w.fn a (idStatement s) s)) s

def execKsIdStatement (fn : Fn) (s : State) : Host.Outcome State Fault Refusal := .next (opKsIdStatement ⟨fn.val, fn.val + 1⟩ s)

/-- EK_CERT (R452). -/
def opKsEkCert (w : Win) (s : State) : State :=
  ksCommand w true (fun _ => true) (fun s =>
    let a := ksAddr s w 0
    let chain := Config.ekChain.take 12288
    if !ksBufOk s w.fn a 12288 then ksRefuse w KsCause.buffer s
    else completeOk stKs w ((dmaWrite w.fn a chain s).wr w.c (F.KS_ARG 4) chain.length)) s

def execKsEkCert (fn : Fn) (s : State) : Host.Outcome State Fault Refusal := .next (opKsEkCert ⟨fn.val, fn.val + 1⟩ s)

/-! ### Envelopes (R455 to R458) -/

/-- The key field that a KEY envelope opens to (R456). -/
def envKey (s : State) (e : Octets) : Option Nat :=
  let g := rootGen s
  let z := beBytes 48 (Config.idEcdhX g (slice e 106 97)).toNat
  let ss := beBytes 32 (Config.idDecaps g (slice e 203 1088)).toNat
  let ki := (beBytes 48 (Config.sha384 (z ++ ss ++ slice e 106 97 ++ slice e 203 1088)).toNat).take 32
  let label : Octets := oct [0x4C, 0x56, 0x4B, 0x37, 0x32, 0x36, 0x30, 0x2D, 0x57, 0x52, 0x41, 0x50]
  let kw := kdfKey (ofBe ki) 32 label (beBytes 48 (Config.sha384 (e.take 106)).toNat ++ zeros 16)
  (Config.sivOpen kw (e.take 1291) [] (BitVec.ofNat 128 (ofBe (slice e 1291 16))) (slice e 1307 32)).map fun k => ofBe (k.take (attrLen (slice e 74 32)))

/-- Check 1 of Table 16.7. -/
def envFormatOk (e : Octets) : Bool :=
  e.take 5 == oct [0x4C, 0x56, 0x4B, 0x45, 1] && decide (1 ≤ byteAt e 5) && decide (byteAt e 5 ≤ 4) && ofBe (slice e 8 4) == 4748 &&
    ofBe (slice e 1339 2) == 96 && ofBe (slice e 1437 2) == 3309

/-- Checks 2 and 3: the authority, its key block and both signatures. -/
def envSignedOk (s : State) (e kb : Octets) : Bool :=
  let i := byteAt e 68
  let ctx : Octets := oct [0x4C, 0x56, 0x4B, 0x37, 0x32, 0x36, 0x30, 0x2D, 0x45, 0x4E, 0x56, 0x45, 0x4C, 0x4F, 0x50, 0x45]
  decide (i < 4) && authEntry s i != zeros 48 && beBytes 48 (Config.sha384 kb).toNat == authEntry s i &&
    Config.ecdsaOk (kb.take 97) (e.take 1339) (slice e 1341 96) && Config.mldsaOk (kb.drop 97) ctx (e.take 1339) (slice e 1439 3309)

/-- Check 7: the kind's own rules; a cause, or none. -/
def envKindBad (s : State) (e : Octets) : Option Nat :=
  let tgt := ofBe (slice e 72 2)
  let a := slice e 74 32
  match byteAt e 5 with
  | 1 =>
    let x := (s.ksSlot tgt).attr
    if 1024 ≤ tgt ∨ attrOk tgt a = false ∨ attrMeasBind a = true then some KsCause.attributes
    else if attrType x ≠ 0 ∧ attrOrigin x ≠ 2 then some KsCause.slotState else none
  | 2 =>
    let rest := (List.range 4).filter fun i => i != tgt && authEntry s i != zeros 48
    if 4 ≤ tgt ∨ (slice e 106 48 = zeros 48 ∧ rest = []) then some KsCause.attributes else none
  | 3 => if 1024 ≤ tgt then some KsCause.attributes else none
  | _ => none

/-- The first check of Table 16.7 that an envelope fails. -/
def envRefusal (s : State) (e kb : Octets) : Option Nat :=
  if !envFormatOk e then some KsCause.format
  else if !envSignedOk s e kb then some KsCause.signature
  else if slice e 12 48 != identityDigest s then some KsCause.recipient
  else if ofBe (slice e 60 8) ≤ s.rd64 0 F.KS_ENV_COUNT_LO F.KS_ENV_COUNT_HI then some KsCause.counter
  else if byteAt e 5 = 4 ∧ s.sh F.KS_LIFECYCLE_STATE ≠ 2 then some KsCause.lifecycle
  else match envKindBad s e with
    | some c => some c
    | none => if byteAt e 5 = 1 ∧ envKey s e = none then some KsCause.unwrap else none

/-- The effect of an envelope that passes every check (R458). -/
def envApply (e : Octets) (s : State) : State :=
  let n := ofBe (slice e 72 2)
  let ctr := ofBe (slice e 60 8)
  let t := s.wr64 0 F.KS_ENV_COUNT_LO F.KS_ENV_COUNT_HI ctr
  match byteAt e 5 with
  | 1 => putSlot n (attrSet (slice e 74 32) 2 0 (nextVersion t n) ctr) ((envKey s e).getD 0) t
  | 2 => putAuth n (slice e 106 48) t
  | 3 => putSlot n (emptyAttr (nextVersion t n)) 0 t
  | _ => zeroise (t.wr 0 F.KS_LIFECYCLE_STATE 3)

/-- Does an envelope write a persistent record? -/
def envPersists (e : Octets) : Bool := byteAt e 5 == 2 || ((byteAt e 5 == 1 || byteAt e 5 == 3) && decide (ofBe (slice e 72 2) < 256))

/-- ENV_APPLY. -/
def opKsEnvApply (w : Win) (stored : Bool) (s : State) : State :=
  ksCommand w false (fun s => s.secureSt w.fn) (fun s =>
    let a := ksAddr s w 0
    let b := ksAddr s w 2
    if !ksBufOk s w.fn a 4748 || !ksBufOk s w.fn b 2049 then ksRefuse w KsCause.buffer s
    else if bufCode s a 4748 ≠ Code.ok then complete stKs w (bufCode s a 4748) 0 s
    else if bufCode s b 2049 ≠ Code.ok then complete stKs w (bufCode s b 2049) 0 s
    else
      let e := s.memRead w.fn a 4748
      let n := ofBe (slice e 72 2)
      match envRefusal s e (s.memRead w.fn b 2049) with
      | some c => post Ev.KS_ENV_REFUSED n (ksRefuse w c s)
      | none =>
        if envPersists e && !stored then ksRefuse w KsCause.store s
        else completeOk stKs w (post Ev.KS_ENV_APPLIED n (envApply e s))) s

def execKsEnvApply (fn : Fn) (stored : Bool) (s : State) : Host.Outcome State Fault Refusal := .next (opKsEnvApply ⟨fn.val, fn.val + 1⟩ stored s)

/-! ### Delivery and expiry (R444 to R446) -/

/-- KEY_DELIVERY: a master's request for a slot's key, for a usage and for an SA or entry of a tenant. The steward keeps its copy until it is revoked. -/
def keyDelivery (master slot usage tenant : Nat) (s : State) : State :=
  let k := ksDeliver s slot master usage tenant
  let held := match k with
    | some v => if master = masterSteward then tset s.ks.held slot v else s.ks.held
    | none => s.ks.held
  { s with ks := { s.ks with last := some (master, slot, k), held := held } }

def execKeyDelivery (master : Fin 4) (slot : Fin 1024) (usage : Fin 5) (tenant : Fin 512) (s : State) : Host.Outcome State Fault Refusal :=
  .next (keyDelivery master.val slot.val usage.val tenant.val s)

/-- Has a slot expired at a tick: VC0's time less its bound has reached EXPIRY? -/
def slotExpired (s : State) (tick : Nat) (a : Octets) : Bool :=
  let b := bound s 0 tick 0 qTick
  attrExpiry a != 0 && !attrExpired a && attrType a != 0 && (s.vc 0).state == .ratified && b != notBounded &&
    decide ((attrExpiry a : Int) * secU ≤ vc0Time s (32 * tick) - (b : Int) * 2 ^ 40)

/-- A slot expires: key wiped, EXPIRED set, VERSION incremented, copies revoked. -/
def expireSlot (n : Nat) (s : State) : State :=
  let a := (s.ksSlot n).attr
  let r := splice (splice a 5 (oct [attrFlags a + 8])) 20 (leBytes 4 (nextVersion s n))
  post Ev.KS_EXPIRED n (putSlot n r 0 s)

/-- SLOT_EXPIRY_CHECK at a tick that is a multiple of 1,562,500,000. -/
def expiryCheck (tick : Nat) (s : State) : State :=
  if tick % ticksPerSec ≠ 0 ∨ s.frc < tick ∨ tick ≤ s.ks.checkedAt ∨ s.doorOpen .ks = false then s
  else
    let t := { s with ks := { s.ks with checkedAt := tick } }
    each ((s.ks.slots.filter fun e => slotExpired s tick e.2.attr).map (·.1)) expireSlot t

def execSlotExpiryCheck (tick : BitVec 64) (s : State) : Host.Outcome State Fault Refusal := .next (expiryCheck tick.toNat s)

end Sys2Proof.Machine
end

