-- ==== Sys2Proof/Machine/Pmc.lean ====
section
/-! DEFINITION. Counter reads, window counters and snapshots (R575 to R586). -/

namespace Sys2Proof.Machine

/-- A read of PMC_CNT_LO: the low bits, and the high bits latched (R580). -/
def readCntLo (c : Nat) (s : State) : State :=
  let v := tgetD s.pmc.cnt (s.rd c F.PMC_CNT_SEL) 0
  (s.wr c F.PMC_CNT_LO v).wr c F.PMC_CNT_HI (v / 2 ^ 32)

def execPmcCntLoRead (fn : Fn) (s : State) : Host.Outcome State Fault Refusal := .next (readCntLo (fn.val + 1) s)

def winLen (s : State) (n : Nat) : Nat := s.sh (F.PMC_WIN_LEN n)

/-- A window counter starts anew (R582): VALUE and WIN_SEQ 0, and in WINDOW mode nothing counted before the next boundary. -/
def winRestart (n : Nat) (s : State) : State :=
  let l := winLen s n
  let w : WinCtr := { nextEnd := (s.frc / l + 1) * l }
  let t := { s with pmc := { s.pmc with
    wins := if s.sh (F.PMC_WIN_CFG_MODE n) = 0 then tdel s.pmc.wins n else tset s.pmc.wins n w } }
  t.wr 0 F.PMC_STATUS_WIN_ACTIVE t.pmc.wins.length

/-- A write of WIN_CFG, WIN_OBJ or WIN_LEN of a window counter. -/
def writeWin (fn n reg v : Nat) (s : State) : State :=
  writeAtDoor .pmc fn (0x100 + 0x20 * n + 4 * reg) (fun s =>
    if !s.secureSt fn then postTo Ev.PMC_AUTH_REFUSED fn n s
    else
      winRestart n (match reg with
        | 0 => (s.wr 0 (F.PMC_WIN_CFG_MODE n) (if v % 4 = 3 then 0 else v % 4)).wr 0 (F.PMC_WIN_CFG_EVENT n) (bits v 16 11)
        | 1 => (s.wr 0 (F.PMC_WIN_OBJ_OBJ_VAL n) v).wr 0 (F.PMC_WIN_OBJ_OBJ_MASK n) (v / 2 ^ 16)
        | _ => s.wr 0 (F.PMC_WIN_LEN n) (max v 15625))) s

def execPmcWinCfgWrite (fn : Fn) (n : Fin 128) (reg : Fin 3) (value : BitVec 32) (s : State) : Host.Outcome State Fault Refusal :=
  .next (writeWin fn.val n.val reg.val value.toNat s)

/-- A read of PMC_WIN_VAL_LO: VALUE's high bits and WIN_SEQ are latched (R582). -/
def readWinLo (fn n : Nat) (s : State) : State :=
  let w := tgetD s.pmc.wins n {}
  let t := s.wr 0 (F.PMC_WIN_VAL_LO n) w.value
  (t.wr (fn + 1) (F.PMC_WIN_VAL_HI_VALUE n) (w.value / 2 ^ 32)).wr (fn + 1) (F.PMC_WIN_VAL_HI_WIN_SEQ n) w.seq

def execPmcWinValLoRead (fn : Fn) (n : Fin 128) (s : State) : Host.Outcome State Fault Refusal := .next (readWinLo fn.val n.val s)

/-- A window counter's boundary has come. -/
def winDue (s : State) (n : Nat) (w : WinCtr) : Bool := s.sh (F.PMC_WIN_CFG_MODE n) == 2 && decide (w.nextEnd ≤ s.frc)

/-- One counter at its boundary: the ended window's count becomes VALUE, or the first whole window begins (R581, R582). -/
def winEnd (s : State) (n : Nat) (w : WinCtr) : WinCtr :=
  if !winDue s n w then w
  else if w.started then { w with value := w.running, seq := (w.seq + 1) % 2 ^ 16, running := 0, nextEnd := w.nextEnd + winLen s n }
  else { w with started := true, running := 0, nextEnd := w.nextEnd + winLen s n }

/-- PMC_WINDOW_END: every counter whose boundary has come. WIN_DONE is posted at most once per ms. -/
def windowEnd (s : State) : State :=
  let done := s.pmc.wins.filter fun e => winDue s e.1 e.2 && e.2.started
  let t := { s with pmc := { s.pmc with wins := tmap (winEnd s) s.pmc.wins } }
  match done with
  | [] => t
  | e :: _ =>
    let recent := match s.pmc.winDoneAt with
      | some p => decide (s.frc < p + 1562500)
      | none => false
    if recent then t else post Ev.PMC_WIN_DONE e.1 { t with pmc := { t.pmc with winDoneAt := some t.frc } }

def execPmcWindowEnd (s : State) : Host.Outcome State Fault Refusal := .next (windowEnd s)

/-! ### Snapshots (R583, R584) -/

/-- SNAPSHOT. -/
def opSnapshot (w : Win) (frcTime : Bool) (s : State) : State :=
  command .pmc stPmc Ev.PMC_CMD_OVERRUN w (fun s =>
    let a := s.rd64 w.c F.PMC_SNAP_ADDR_LO F.PMC_SNAP_ADDR_HI
    let at_ := s.rd64 w.c F.PMC_SNAP_TIME_LO F.PMC_SNAP_TIME_HI
    if s.pmc.snap.isSome then refuse stPmc w 2 s
    else if a % 64 ≠ 0 ∨ ownsBuf s w.fn a snapLen = false then refuse stPmc w 3 s
    else if frcTime = true ∧ at_ < s.frc + 64 then refuse stPmc w 0 s
    else
      let t := (accept .pmc stPmc w 1 0 s).wr 0 F.PMC_STATUS_SNAP_BUSY 1
      { t with pmc := { t.pmc with snap := some ⟨w, if frcTime then at_ else t.frc + 64, a, none⟩ } }) s

def execPmcSnapshot (fn : Fn) (frcTime : Bool) (s : State) : Host.Outcome State Fault Refusal := .next (opSnapshot ⟨fn.val, fn.val + 1⟩ frcTime s)

/-- PMC_SNAPSHOT_TICK: every counter as it stands. -/
def snapshotTick (s : State) : State :=
  match s.pmc.snap with
  | none => s
  | some p =>
    if p.taken.isSome ∨ s.frc < p.tick then s
    else { s with pmc := { s.pmc with snap := some { p with taken := some (s.pmc.cnt, s.pmc.wins) }, snaps := (s.pmc.snaps + 1) % 2 ^ 32 } }

def execPmcSnapshotTick (s : State) : Host.Outcome State Fault Refusal := .next (snapshotTick s)

/-- The octets of a snapshot (Table 22.3). -/
def snapOctets (seq run tick : Nat) (c : Tbl Nat) (w : Tbl WinCtr) : Octets :=
  oct [0x4C, 0x56, 0x50, 0x43, 1, 0, 0, 0] ++ leBytes 4 seq ++ leBytes 4 run ++ leBytes 8 tick ++ leBytes 2 2048 ++ leBytes 2 128 ++ zeros 36 ++
    ((List.range 2048).map fun e => leBytes 6 (tgetD c e 0) ++ zeros 2).flatten ++
    ((List.range 128).map fun n => leBytes 6 (tgetD w n {}).value ++ leBytes 2 (tgetD w n {}).seq).flatten

/-- PMC_SNAPSHOT_DONE: the buffer is written, and the command completes. -/
def snapshotDone (s : State) : State :=
  match s.pmc.snap with
  | none => s
  | some p =>
    match p.taken with
    | none => s
    | some (c, w) =>
      let t := dmaWrite p.win.fn p.addr (snapOctets s.pmc.snaps (s.sh F.RST_FRC_RUN) p.tick c w) s
      let t := (t.wr 0 F.PMC_STATUS_SNAP_BUSY 0).wr 0 F.PMC_STATUS_SNAP_SEQ t.pmc.snaps
      post Ev.PMC_SNAP_DONE 0 (finish .pmc 1 0 Code.ok 0 { t with pmc := { t.pmc with snap := none } })

def execPmcSnapshotDone (s : State) : Host.Outcome State Fault Refusal := .next (snapshotDone s)

end Sys2Proof.Machine
end

