-- ==== Sys2Proof/Machine/Servo.lean ====
section
/-! DEFINITION. The servo: DPLLs, holdover, Nougat and the atomic oscillator (chapter "Servo, Holdover and the Atomic Oscillator",
R125 to R161). The steward's arithmetic is exact on rationals; π is taken as `piQ`. -/

namespace Sys2Proof.Machine

/-! ### Constants and small parts -/

/-- π as the loop uses it. DESIGN CHOICE: the manual gives no precision for the steward's arithmetic. -/
def piQ : Rat := 3141592653589793238 / 1000000000000000000

/-- U in ticks (R126). -/
def updPeriod (s : State) : Nat := 2 ^ s.sh F.SRV_CTRL_UPD_LOG2 * 65536

/-- The steward runs: Proofing is done and the device is not in the safe state (R22, R522). -/
def stewardRuns (s : State) : Bool := s.sh F.RST_STATUS_PROOF_DONE == 1 && !s.safe

/-- DPLL states (Tables 5.8, 5.14). -/
def dpFREE : Nat := 0
def dpACQ : Nat := 1
def dpLOCKED : Nat := 2
def dpHOLD : Nat := 3
def dpMANUAL : Nat := 4
def dpFOLLOW : Nat := 5

/-- A rate word held to ±2^-13 and to the s48 range (R128, R149). -/
def clampRate (r : Int) : Int := max (-(2 ^ 47)) (min (2 ^ 47 - 1) r)

/-- The fractional frequency of a rate word. -/
def fracRate (r : Int) : Rat := (r : Rat) / 2 ^ 60

/-- Offset that h and a rate word imply (R149). -/
def implied (h r : Int) : Rat := (1 + fracRate h) / (1 + fracRate r) - 1

/-- The rate word against a predicted offset (R149). -/
def rateFor (h : Int) (y : Rat) : Int := clampRate (roundR (((1 + fracRate h) / (1 + y) - 1) * 2 ^ 60))

/-- h in force (R145). -/
def hoH (s : State) : Int := sgn 48 (s.sh F.REF_HO_Y_LO + 2 ^ 32 * s.sh F.REF_HO_Y_HI)

/-- r0 in effect. -/
def r0Now (s : State) : Int := sgn 48 (s.ef F.TB_VC0_RATE_LO + 2 ^ 32 * s.ef F.TB_VC0_RATE_HI)

/-- The mode of a slot at a selector: 0 TIME, 1 PHASE, 2 FREQ (R127). -/
def slotMode (s : State) (i n : Nat) : Nat :=
  let c := slotCap s n
  let best := if bitOf c 2 then 2 else if bitOf c 1 then 1 else 0
  2 - min best (s.sh (F.REF_SEL_CFG_CAP_REQ i))

/-- 2^L for a signed L. -/
def pow2 (l : Int) : Rat := if 0 ≤ l then (2 : Rat) ^ l.toNat else 1 / (2 : Rat) ^ (-l).toNat

/-- The stamp interval of a slot in ns (Table 4.1, R101, R104); one second for a slot without a NOMINAL_HZ or a Sync. -/
def stampInterval (s : State) (n : Nat) : Rat :=
  if n = 26 ∨ n = 27 then 1000000
  else if n = 25 then 1000000000 * pow2 ((s.sve.cli.sync.map (·.2)).getD 0)
  else if n = 24 ∨ s.sh (F.REF_NOMINAL n) = 0 then 1000000000
  else (slotK s n : Rat) * 1000000000 / s.sh (F.REF_NOMINAL n)

/-- Reduction into [-1/2, 1/2) of an interval. -/
def wrapHalf (iv x : Rat) : Rat := x - iv * (⌊x / iv + 1 / 2⌋ : Rat)

/-- ns to 2^-16 ns. -/
def toU16 (x : Rat) : Int := roundR (x * 65536)

/-! ### One measurement (R127, R128, R129, R141) -/

/-- The bandwidth limits of R129, in mHz: the highest and the lowest value allowed. -/
def bwHi (s : State) (ceil n : Nat) : Nat :=
  let upd := ticksPerSec * 1000 / updPeriod s
  let meas := (⌊1000000000000 / stampInterval s n⌋).toNat
  min ceil (min upd meas / 10)

def bwClamp (s : State) (ceil floor n bw : Nat) : Nat := max (min floor (bwHi s ceil n)) (min bw (bwHi s ceil n))

/-- The mean of the errors of one update. -/
def meanErr (l : List Int) : Int := roundDiv l.sum l.length

/-- Bookkeeping of a measurement: the times without a large error, the run of very large ones, and the bandwidth's rise (R129, R130). -/
def Dpll.note (d : Dpll) (e : Int) (tick lockNs : Nat) : Dpll :=
  let a := e.natAbs
  { d with
      lockFrom := if a < lockNs * 65536 then d.lockFrom else tick
      quietFrom := if 2 * a < lockNs * 65536 ∧ d.st = dpLOCKED then d.quietFrom else tick
      high := if 4 * lockNs * 65536 < a then d.high + 1 else 0
      bw := if lockNs * 65536 < a then 2 * d.bw else d.bw }

/-- The last 64 |e_in| in the current mode (R133). -/
def Dpll.noteErr (d : Dpll) (mode : Nat) (e : Int) : Dpll :=
  { d with mode := mode, errs := (e.natAbs :: if d.mode = mode then d.errs else []).take 64 }

/-- The loop of R128 on one measurement. The first after an entry has no interval T_m and moves no integrator. -/
def Dpll.loop (d : Dpll) (e : Int) (x32 : Nat) : Dpll :=
  let tm : Rat := match d.lastX with
    | some p => ((x32 : Rat) - p) / (32 * ticksPerSec)
    | none => 0
  let w : Rat := piQ * d.bw / 5000
  let es : Rat := (e : Rat) / 65536000000000
  let ik := d.ik + w * w * tm * es
  { d with ik := ik, rate := clampRate (roundR ((10 * w * es + ik) * 2 ^ 60)), lastX := some x32 }

/-- Bandwidth halves after 20 time constants of quiet while LOCKED (R129). -/
def Dpll.quiet (d : Dpll) (tick : Nat) : Dpll :=
  let need : Rat := 20 * 1000 / (2 * piQ * d.bw) * ticksPerSec
  if d.st = dpLOCKED ∧ need ≤ (tick : Rat) - d.quietFrom then { d with bw := d.bw / 2, quietFrom := tick } else d

/-- Entry to ACQUIRE on a slot. A running loop's integrator is frozen (R138); otherwise it starts from the rate in force. -/
def Dpll.acquire (d : Dpll) (n bw now : Nat) (rate : Int) (take : Bool) : Dpll :=
  { d with
      st := dpACQ, slot := some n, lastX := none, buildOut := none, last8 := [], lockFrom := now, quietFrom := now
      high := 0, lockedAt := none, bw := bw, ik := if d.st = dpLOCKED ∨ d.st = dpACQ then d.ik else fracRate rate, rate := rate
      taking := if take then some [] else none }

/-- Leaving a loop for HOLDOVER or FREE_RUN. Entry to FREE_RUN clears HO_VALID (R130). -/
def Dpll.leave (d : Dpll) (st : Nat) : Dpll :=
  { d with st := st, lockedAt := none, taking := none, high := 0, hoValid := d.hoValid && st == dpHOLD }

/-- HO_VALID is set after HO_AVG_S + HO_DELAY_S seconds of LOCKED (R130). -/
def Dpll.validate (d : Dpll) (s : State) : Dpll :=
  match d.lockedAt with
  | some l =>
    let need := (s.sh F.SRV_HO_TIMES_HO_AVG_S + s.sh F.SRV_HO_TIMES_HO_DELAY_S) * ticksPerSec
    if d.st = dpLOCKED ∧ l + need ≤ s.frc then { d with hoValid := true } else d
  | none => d

/-! ### Averages over the past (R149, R150, R152) -/

/-- Weighted sum and weight of a value over a window [a, b) of FRC time; records are newest first. -/
def winSum (val : RateRec → Option Rat) (a b : Nat) : Nat → List RateRec → Rat × Nat
  | _, [] => (0, 0)
  | e, r :: rs =>
    let t := winSum val a b r.tick rs
    let w := min e b - max r.tick a
    match (if r.counts then val r else none) with
    | some v => (t.1 + v * w, t.2 + w)
    | none => t

/-- The weighted mean, none where no record of the window counts. -/
def winMean (val : RateRec → Option Rat) (a b now : Nat) (l : List RateRec) : Option Rat :=
  let t := winSum val a b now l
  if t.2 = 0 then none else some (t.1 / t.2)

/-- The averaging window of R149 for a loss. -/
def hoWindow (s : State) (loss : Nat) : Nat × Nat :=
  let b := loss - s.sh F.SRV_HO_TIMES_HO_DELAY_S * ticksPerSec
  (b - s.sh F.SRV_HO_TIMES_HO_AVG_S * ticksPerSec, b)

/-- The loss of a selector (R149). -/
def lossTick (s : State) (i : Nat) : Nat := ((s.sel i).leftAt).getD s.frc

/-! ### Nougat (R151 to R153) -/

def State.ng (s : State) (m : Nat) : NgModel := tgetD s.srv.models m {}
def State.setNg (m : Nat) (g : NgModel) (s : State) : State := { s with srv := { s.srv with models := tset s.srv.models m g } }

/-- State of a model: 0 UNTRAINED, 1 TRAINED, 2 DEGRADED. -/
def ngState (s : State) (m : Nat) : Nat := s.sh (if m = 0 then F.SRV_NOUGAT_STATUS_STATE0 else F.SRV_NOUGAT_STATUS_STATE1)

def setNgState (m st : Nat) (s : State) : State :=
  if ngState s m = st then s
  else post Ev.SRV_NOUGAT_CHANGE m (s.wr 0 (if m = 0 then F.SRV_NOUGAT_STATUS_STATE0 else F.SRV_NOUGAT_STATUS_STATE1) st)

/-- Y in 2^-60 and A in 2^-72 per second of a model (R151), rounded up. -/
def ngY (s : State) (m : Nat) : Nat :=
  if ngState s m = 1 then satU 48 (ceilDiv (3 * s.sh (F.SRV_NG_SIGMA m) * 2 ^ 60) (10 ^ 15)) else s.sh (F.SRV_NG_YDEF m) * 4096

def ngA (s : State) (m : Nat) : Nat :=
  if ngState s m = 1 then satU 32 (ceilDiv (3 * s.sh (F.SRV_NG_SIGMA_D m) * 2 ^ 72) (10 ^ 21)) else s.sh (F.SRV_NG_ADEF m)

/-- The effective holdover oscillator's model. -/
def hoModel (s : State) : Nat := if s.sh F.SRV_STATUS_HO_ATOM = 1 then 1 else 0

/-- Temperature of a model's oscillator in m°C. -/
def ngTheta (s : State) (m : Nat) : Int := sgn 32 (s.sh (F.SRV_TEMP m))

def tempSrc (s : State) (m : Nat) : Nat := s.sh (if m = 0 then F.SRV_HO_CFG_TEMP_SRC0 else F.SRV_HO_CFG_TEMP_SRC1)

/-- A trained model's prediction at a tick and a temperature (R149). -/
def ngPredict (s : State) (m tick : Nat) (theta : Int) : Rat :=
  let q := fun f => ((sgn 32 (s.sh f) : Int) : Rat)
  let ts := ((s.ng m).samples.getLast?.map (·.tick)).getD tick
  let dt : Rat := ((tick : Rat) - ts) / ticksPerSec
  let dth : Rat := ((theta : Rat) - q (F.SRV_NG_THETA0 m)) / 1000
  q (F.SRV_NG_Y0 m) / 10 ^ 13 + q (F.SRV_NG_DRIFT m) / 10 ^ 21 * dt + q (F.SRV_NG_TC1 m) / 10 ^ 15 * dth +
    q (F.SRV_NG_TC2 m) / 10 ^ 15 * dth * dth

/-- ŷ of R149 for an update at a tick. -/
def predictY (s : State) (tick : Nat) : Rat :=
  let m := hoModel s
  if ngState s m = 1 then ngPredict s m tick (ngTheta s m)
  else
    let d := s.srv.sys
    let loss := lossTick s 0
    let w := hoWindow s loss
    match winMean (fun r => some (implied r.h r.rate)) w.1 w.2 s.frc d.hist with
    | some y => y
    | none => match d.hist.find? (fun r => r.counts && decide (r.tick ≤ loss)) with
      | some r => implied r.h r.rate
      | none => 0

/-- Is θ more than 2 °C outside the span of a model's samples? -/
def outOfSpan (g : NgModel) (theta : Int) : Bool :=
  match g.samples with
  | [] => false
  | a :: t =>
    let lo := t.foldl (fun m x => min m x.theta) a.theta
    let hi := t.foldl (fun m x => max m x.theta) a.theta
    decide (theta < lo - 2000) || decide (hi + 2000 < theta)

/-- The temperature of each model is read at the monitor tick: none, a free value for the on-die sensor, or the host's (Table 5.12). -/
def readTemp (m : Nat) (s : State) : State :=
  match tempSrc s m with
  | 1 => let (v, t) := s.free 32; t.wr 0 (F.SRV_TEMP m) v
  | 2 => s.wr 0 (F.SRV_TEMP m) (s.sh (F.SRV_TEMP_HOST m))
  | _ => s.wr 0 (F.SRV_TEMP m) 0

/-- The temperature condition of Table 5.3, evaluated in every state of the DPLL. -/
def tempCheck (m : Nat) (s : State) : State :=
  if ngState s m = 1 ∧ tempSrc s m ≠ 0 ∧ outOfSpan (s.ng m) (ngTheta s m) = true then
    setNgState m 2 (s.setNg m { s.ng m with okRun := 0 })
  else s

/-! ### The atomic oscillator as holdover oscillator (R145, R146) -/

/-- Is ATOM_ALM active? -/
def almActive (s : State) : Bool := s.srv.almPin == (s.sh F.SRV_HO_CFG_ATOM_ALM_POL == 1)

/-- Does a failure condition of R146 hold? -/
def atomFailing (s : State) : Bool :=
  almActive s || slotState s 28 == stDISABLED || slotState s 28 == stNOSIG || s.sh (F.REF_STATE_C_RANGE 28) == 1

/-- Follow the failure conditions. -/
def atomWatch (s : State) : State :=
  let t := s.wr 0 F.SRV_ATOM_STATUS_ALM (b2n (almActive s))
  { t with srv := { t.srv with okSince := if atomFailing s then none else some (s.srv.okSince.getD s.frc) } }

/-- No failure condition has held for ATOM_SETTLE_S seconds. -/
def atomSettled (s : State) : Bool :=
  match s.srv.okSince with
  | some t => decide (t + s.sh F.SRV_HO_CFG_ATOM_SETTLE_S * ticksPerSec ≤ s.frc)
  | none => false

def setHoAtom (b : Bool) (s : State) : State := (s.wr 0 F.SRV_STATUS_HO_ATOM (b2n b)).wr 0 F.REF_CTRL_HO_IS_ATOM (b2n b)

/-- The effective holdover oscillator at an update (R145, R146). True when a fallback has happened now. -/
def hoChoose (s : State) : Bool × State :=
  let atom := s.sh F.SRV_STATUS_HO_ATOM == 1
  let hold := s.srv.sys.st == dpHOLD
  let src := s.sh F.SRV_HO_CFG_HO_SRC == 1
  if atom && atomFailing s then
    (true, post Ev.SRV_HO_FALLBACK 0 ((setHoAtom false s).wr 0 F.SRV_STATUS_HO_FALLBACK 1))
  else if !hold && !src then (false, (setHoAtom false s).wr 0 F.SRV_STATUS_HO_FALLBACK 0)
  else if !hold && !atom && src && atomSettled s then (false, (setHoAtom true s).wr 0 F.SRV_STATUS_HO_FALLBACK 0)
  else (false, s)

/-- REF_HO_Y and its evaluation at a monitor tick (R145): x from REF28's stamp pair. -/
def hoMonitor (p : Option (RefStamp × RefStamp)) (s : State) : State :=
  let x : Option Rat := p.bind fun q =>
    if q.2.label = q.1.label then none else some ((((q.2.x32 : Rat) - q.1.x32) / 50) / (q.2.label - q.1.label) - 1)
  let s := { s with srv := { s.srv with x := x } }
  let h : Int := if s.sh F.SRV_STATUS_HO_ATOM = 1 then
      (match x with
        | some v => roundR (-v * 2 ^ 60)
        | none => hoH s) else 0
  s.wr64 0 F.REF_HO_Y_LO F.REF_HO_Y_HI (uns 48 (satS 48 h))

/-! ### The system DPLL -/

def setSys (d : Dpll) (s : State) : State := { s with srv := { s.srv with sys := d } }

/-- The target offset in force at a stamp (R142). -/
def targetAt (s : State) (x32 : Nat) : Int :=
  let o := sgn 64 (s.rd64 0 F.SRV_SYS_TARGET_LO F.SRV_SYS_TARGET_HI)
  match s.srv.oPrev with
  | some (c, v) => if x32 < 32 * c then v else o
  | none => o

/-- The undelivered part of VC0's slewed step at a stamp, in 2^-16 ns. -/
def padjAt (s : State) (x32 : Nat) : Int :=
  let p := (s.vc 0).parAt x32
  roundDiv (p.pAdj - slewD (p.elapsed x32 0) p.pAdj p.sAdj) (2 ^ 32)

/-- label - t0 of a stamp, in ns; a slot without TIME gives its pulse's place only (R127). -/
def bareErr (s : State) (st : RefStamp) : Rat := (if st.isTime then st.label else 0) - (vc0Time s st.x32 : Rat) / 2 ^ 48

/-- label + O - t0 of a stamp, in ns. -/
def rawErr (s : State) (st : RefStamp) : Rat := bareErr s st + (targetAt s st.x32 : Rat) / 65536

/-- e of a stamp in 2^-16 ns in a mode. -/
def stampErr (s : State) (n mode : Nat) (st : RefStamp) : Int :=
  if mode = 0 then toU16 (rawErr s st) else toU16 (wrapHalf (stampInterval s n) (rawErr s st))

/-- e less a build-out offset, in its interval. -/
def lessBuildOut (s : State) (n : Nat) (bo e : Int) : Int :=
  toU16 (wrapHalf (stampInterval s n) (((e - bo : Int) : Rat) / 65536))

/-- Is VC0 RATIFIED? -/
def vc0Rat (s : State) : Bool := (s.vc 0).state == .ratified

/-- The mode in use on a slot: FREQ until VC0 is RATIFIED (R135, R136). -/
def sysMode (s : State) (n : Nat) : Nat := if vc0Rat s then slotMode s 0 n else 2

/-- The slot that a selector is SELECTED on. -/
def selOn (s : State) (i : Nat) : Option Nat := if selState s i = selSELECTED then selected s i else none

/-- Is selection lost (R130)? -/
def selLost (s : State) (i : Nat) : Bool :=
  selState s i == selNONE || selState s i == selPINNED || selState s i == selFORCED

/-- May the system DPLL use a slot's mode (R135, R137)? -/
def sysUsable (s : State) (n : Nat) : Bool := (bitOf (slotCap s n) 2 && (s.vc 0).stepAuto) || vc0Rat s

/-- The next state of a DPLL by Table 5.1 (without MANUAL and the loss of VC0), the highest-ranked target of R131 first: state, and whether
ACQUIRE is entered anew. `on` is the slot its selector is SELECTED on, `usable` that FREE_RUN may leave for it, `blocked` that an offset is
rejected, and `lockOk` that the loop is closed. -/
def nextState (s : State) (d : Dpll) (lost : Bool) (on : Option Nat) (usable blocked lockOk : Bool) : Nat × Bool :=
  let looping := d.st == dpACQ || d.st == dpLOCKED
  let gone := looping && lost
  if gone && !d.hoValid then (dpFREE, false)
  else if gone then (dpHOLD, false)
  else if looping && on.isSome && on != d.slot then (dpACQ, true)
  else if d.st == dpLOCKED && decide (3 ≤ d.high) then (dpACQ, true)
  else if !looping && on.isSome && !blocked && (d.st == dpHOLD || usable) then (dpACQ, true)
  else if d.st == dpACQ && lockOk && (match d.lastX with
      | some x => decide (d.lockFrom + s.sh F.SRV_LOCK_LOCK_S * ticksPerSec ≤ x / 32)
      | none => false) then (dpLOCKED, false)
  else (d.st, false)

/-- The steward's ADJUST on VC0 with trigger IMMEDIATE. One that still waits for its tick is carried along, since a later command of the
same operation replaces it (R81). -/
def stewardAdjust (delta : Int) (s : State) : State :=
  let v := s.vc 0
  let wait := match v.pendAdj with
    | some (c, d) => if s.frc < c then d else 0
    | none => 0
  s.setVc 0 { v with pendAdj := some (s.frc + 64, wait + delta) }

/-- The offset limits of R138, in 2^-16 ns. -/
def offsetOk (s : State) (delta : Int) : Bool :=
  decide (delta.natAbs ≤ s.sh F.SRV_STEP_LIMIT * 65536) && decide (delta.natAbs ≤ (s.vc 0).adjLimit * 65536)

/-- The highest bandwidth that R129 allows the system DPLL on a slot. -/
def sysBwTop (s : State) (n : Nat) : Nat :=
  bwClamp s (s.sh F.SRV_SYS_BW_CEIL) (s.sh F.SRV_SYS_BW_FLOOR) n (s.sh F.SRV_SYS_BW_CEIL)

/-- An offset measurement: the mean of OFFSET_N of them is delivered as an ADJUST, or rejected (R138, R139). While it is rejected, it is taken
again at each monitor tick. -/
def takeOffset (e : Int) (x32 : Nat) (s : State) : State :=
  let d := s.srv.sys
  match d.taking with
  | none => s
  | some l =>
    let l := (e :: l).take (s.sh F.SRV_CTRL_OFFSET_N)
    let rej := s.sh F.SRV_STATUS_OFFSET_REJECT == 1
    let d := { d with taking := some l, lastX := some x32 }
    if l.length < s.sh F.SRV_CTRL_OFFSET_N ∨ (rej && decide (s.refs.lastTick ≤ s.srv.retryAt)) then setSys d s
    else
      let delta := meanErr l
      let s := { s with srv := { s.srv with delta := delta, retryAt := s.refs.lastTick } }
      if offsetOk s delta then
        let n := d.slot.getD 0
        let d := if rej then { d.acquire n (sysBwTop s n) 0 (r0Now s) false with hoValid := d.hoValid } else d
        stewardAdjust delta (setSys { d with taking := none, lastX := some x32, lockFrom := x32 / 32, quietFrom := x32 / 32 }
          (s.wr 0 F.SRV_STATUS_OFFSET_REJECT 0))
      else
        let d' := if rej then d else { d.leave (if d.hoValid then dpHOLD else dpFREE) with taking := some l }
        onlyIf (!rej) (post Ev.SRV_OFFSET_REJECT 0) ((setSys d' s).wr 0 F.SRV_STATUS_OFFSET_REJECT 1)

/-- The last 8 measurements agree with their mean to within LOCK_NS (R136). -/
def agree8 (d : Dpll) (lockNs : Nat) : Bool :=
  d.last8.length == 8 &&
    (let m := meanErr (d.last8.map (·.1))
     d.last8.all fun e => decide ((e.1 - m).natAbs ≤ lockNs * 65536))

/-- The steward's SET of VC0 (R136): its tick and its value from the mean of the last 8 measurements. -/
def firstSet (s : State) : State :=
  let d := s.srv.sys
  let v := s.vc 0
  let free := match v.pendSet with
    | none => true
    | some p => p.fn == stewardFn && s.srv.ownSet.isNone
  if d.st == dpACQ && !vc0Rat s && v.stepAuto && v.pendSet.isNone && free && agree8 d (s.sh F.SRV_LOCK_LOCK_NS) &&
      (match d.slot with
        | some n => bitOf (slotCap s n) 2
        | none => false) then
    let u := updPeriod s
    let c := ceilDiv (s.frc + 65536) u * u
    let value := lin16 (vc0Time s (32 * c)) + meanErr (d.last8.map (·.2))
    if value < 0 then s
    else
      let t := syncTb (s.setVc 0 { v with state := .setPending, pendSet := some ⟨c, false, value, stewardFn⟩ })
      { t with srv := { t.srv with ownSet := some c } }
  else s

/-- ABORT of the steward's own SET when the selection changes before its tick (R136). -/
def abortOwnSet (s : State) : State :=
  let v := s.vc 0
  let own := match v.pendSet with
    | some p => p.fn == stewardFn && decide (s.frc < p.tick)
    | none => false
  let moved := selLost s 0 || ((selOn s 0).isSome && selOn s 0 != s.srv.sys.slot)
  if s.srv.ownSet.isSome && own && moved then
    enterUnset 0 s.frc (({ s with srv := { s.srv with ownSet := none } } : State).setVc 0 { v with pendSet := none })
  else s

/-- The next part of an accepted offset, when the previous one has been delivered (R139). -/
def acceptStep (s : State) : State :=
  match s.srv.accept with
  | none => s
  | some rem =>
    let v := s.vc 0
    if v.pendAdj.isSome ∨ v.par.pAdj ≠ 0 ∨ !vc0Rat s then s
    else
      let lim : Int := v.adjLimit * 65536
      let part := max (-lim) (min lim rem)
      let t := stewardAdjust part s
      let left := rem - part
      { t with srv := { t.srv with accept := if left = 0 then none else some left } }

/-- The build-out offset of a measurement (R141): that of the first one in FREQ mode. -/
def sysBuildOut (s : State) (n : Nat) (sts : List RefStamp) : Option Int :=
  if sysMode s n = 2 then some (s.srv.sys.buildOut.getD (meanErr (sts.map (stampErr s n 2)))) else none

/-- e_in of a stamp (R127, R141). The part of an accepted offset that is not issued yet is subtracted too (R139). -/
def stampIn (s : State) (n : Nat) (bo : Option Int) (st : RefStamp) : Int :=
  (match bo with
    | some b => lessBuildOut s n b (stampErr s n 2 st)
    | none => stampErr s n (sysMode s n) st) - padjAt s st.x32 - s.srv.accept.getD 0

/-- The measurement of an update on a slot, with the stamps that arrived (R127): the loop, the offset, or the first step's record. -/
def sysMeasure (n : Nat) (sts : List RefStamp) (s : State) : State :=
  match sts.getLast? with
  | none => s
  | some last =>
    let mode := sysMode s n
    let d := s.srv.sys
    let bo := sysBuildOut s n sts
    let e := meanErr (sts.map (stampIn s n bo))
    let tick := last.x32 / 32
    let s := s.wr64 0 F.SRV_SYS_PHASE_ERR_LO F.SRV_SYS_PHASE_ERR_HI (uns 64 e)
    let d := { (d.noteErr mode e) with buildOut := bo, lastUsed := if mode = 2 then d.lastUsed else some tick }
    if d.taking.isSome then takeOffset e last.x32 (setSys d s)
    else
      let d := { (d.note e tick (s.sh F.SRV_LOCK_LOCK_NS)) with
        last8 := ((e, meanErr (sts.map fun st => toU16 (bareErr s st))) :: d.last8).take 8 }
      let d := (d.loop e last.x32).quiet tick
      setSys { d with bw := bwClamp s (s.sh F.SRV_SYS_BW_CEIL) (s.sh F.SRV_SYS_BW_FLOOR) n d.bw } s

/-- The state that the triggers of Table 5.1 give the system DPLL at an update (R131, R132, R139), and whether ACQUIRE is entered anew. -/
def sysNext (s : State) (left rej acc : Bool) : Nat × Bool :=
  let d := s.srv.sys
  let rat := vc0Rat s
  if s.sh F.SRV_CTRL_RATE_OWNER = 1 then (dpMANUAL, false)
  else if d.st = dpMANUAL then (if d.hoValid && rat && !left then dpHOLD else dpFREE, false)
  else if left then (dpFREE, false)
  else if acc then (dpACQ, true)
  else if selState s 0 = selHOLDOFF then (d.st, false)
  else nextState s d (selLost s 0) (selOn s 0) (((selOn s 0).map (sysUsable s)).getD false) rej (rat && d.taking.isNone)

/-- The slot that a DPLL outside its loop measures: the one whose offset is rejected, or the one that pulls r0 before VC0 is RATIFIED. -/
def sysAside (s : State) (rej : Bool) (d : Dpll) : Dpll :=
  match selOn s 0 with
  | some n =>
    if rej then (if d.slot = some n then d else { d with slot := some n, taking := some [], buildOut := none })
    else if d.st = dpFREE ∧ !vc0Rat s then
      (if d.slot = some n then d
       else { d.acquire n (sysBwTop s n) s.frc (r0Now s) false with st := dpFREE, hoValid := d.hoValid })
    else { d with slot := none }
  | none => if rej then d else { d with slot := none }

/-- The transition of the system DPLL at an update (Table 5.1, R131, R139). -/
def sysTransit (s : State) : State :=
  let s := abortOwnSet s
  let d := s.srv.sys
  let rat := vc0Rat s
  let left := s.srv.wasRat && !rat
  let rej := s.sh F.SRV_STATUS_OFFSET_REJECT == 1 && !left
  let acc := s.srv.acceptCmd && rej && (selOn s 0).isSome && s.sh F.SRV_CTRL_RATE_OWNER == 0 && d.st != dpMANUAL
  let x := sysNext s left rej acc
  let st := x.1
  let f := (s.vc 0).par.f
  let ownNow := rat && (s.srv.ownSet.map (· == f)).getD false
  let d0 := if left then { d with hoValid := false } else d
  let n := (selOn s 0).getD (d.slot.getD 0)
  let d1 : Dpll :=
    if st = dpACQ ∧ x.2 = true then d0.acquire n (sysBwTop s n) s.frc (r0Now s) (rat && !acc && slotMode s 0 n != 2)
    -- VC0 became RATIFIED under the loop: TIME mode goes on after the steward's SET, and takes the offset otherwise (R136, R137)
    else if st = dpACQ ∧ rat = true ∧ s.srv.wasRat = false then
      { d0 with buildOut := none, last8 := [], lockFrom := f, quietFrom := f
                taking := if ownNow || sysMode s n == 2 then none else some [] }
    else if st = dpACQ ∨ (st = dpLOCKED ∧ d0.st = dpLOCKED) then d0
    else if st = dpLOCKED then
      { d0 with st := dpLOCKED, lockedAt := some s.frc, quietFrom := s.frc, high := 0 }
    else if st = d0.st then (if st = dpMANUAL then d0 else sysAside s rej d0)
    else if st = dpMANUAL then { d0 with st := dpMANUAL, lockedAt := none, taking := none, slot := none }
    else sysAside s rej { d0.leave st with slot := if rej then d0.slot else none }
  let t := if acc || left then s.wr 0 F.SRV_STATUS_OFFSET_REJECT 0 else s
  { t with srv := { t.srv with
      sys := d1, wasRat := rat, ownSet := if rat then none else t.srv.ownSet, acceptCmd := t.srv.acceptCmd && rej && !acc
      accept := if acc then some t.srv.delta else if (st = dpACQ ∨ st = dpLOCKED) ∧ x.2 = false then t.srv.accept else none } }

/-- The events of an update's change of state (R131). -/
def sysEvents (old : Nat) (s : State) : State :=
  let st := s.srv.sys.st
  let t := onlyIf (old != st) (post Ev.SRV_SYS_STATE_CHANGE st) s
  let t := onlyIf (old != st && st == dpLOCKED) (post Ev.SRV_LOCKED 0) t
  let t := onlyIf (old != st && st == dpHOLD) (post Ev.SRV_HOLDOVER_ENTRY 0) t
  onlyIf (old != st && old == dpHOLD) (post Ev.SRV_HOLDOVER_EXIT 0) t

/-- Does the loop run in FREE_RUN, before VC0 is RATIFIED (R135)? -/
def preStep (s : State) : Option Nat :=
  if s.srv.sys.st = dpFREE ∧ !vc0Rat s ∧ s.sh F.SRV_STATUS_OFFSET_REJECT = 0 then selOn s 0 else none

/-- The slot whose stamps the system DPLL takes at this update. -/
def sysSlot (s : State) : Option Nat :=
  let d := s.srv.sys
  if d.st = dpMANUAL ∨ selState s 0 ≠ selSELECTED then none
  else if d.st = dpACQ ∨ d.st = dpLOCKED ∨ s.sh F.SRV_STATUS_OFFSET_REJECT = 1 then d.slot
  else preStep s

/-- The stamps of an update: at the update that sees VC0 RATIFIED, those from its tick on. -/
def sysStamps (was : Bool) (n : Nat) (s : State) : List RefStamp :=
  let l := (s.slot n).unread
  if !was && vc0Rat s then l.filter fun st => decide (32 * (s.vc 0).par.f ≤ st.x32) else l

/-- r0 that the steward writes at an update for a tick (Table 5.2, R149). -/
def sysRate (s : State) (tick : Nat) : Int :=
  let d := s.srv.sys
  let fr := sgn 48 (s.rd64 0 F.SRV_FREERUN_RATE_LO F.SRV_FREERUN_RATE_HI)
  if d.st = dpACQ ∨ d.st = dpLOCKED ∨ (preStep s).isSome then d.rate
  else if d.st = dpHOLD then rateFor (hoH s) (predictY s tick)
  else if s.sh F.SRV_STATUS_HO_ATOM = 1 then clampRate (rateFor (hoH s) 0 + fr)
  else clampRate fr

/-- The ledger terms that the steward writes (Table 5.2, R148), from the terms held. `fallback`: the oscillator fell back now. -/
def sysTerms (s : State) (tick : Nat) (fallback : Bool) : BndTerms :=
  let d := s.srv.sys
  let b := { bndNow s with m := s.sh F.SRV_HO_MARGIN }
  let m := hoModel s
  if d.st = dpACQ ∨ d.st = dpLOCKED then
    if d.taking.isSome then b
    else
      let n := d.slot.getD 0
      if sysMode s n = 2 then
        let fy := s.sh F.SRV_FREQREF_Y
        { b with tRef := if fy = 0xFFFFFFFF then notBounded else b.tRef, y := fy * 4096, a := 0 }
      else
        let e := (if d.mode = sysMode s n then d.errs else []).foldl max 0
        { b with
            tRef := slotBound s n
            tSrv := if 0xFFFFFFFFFE < ceilDiv (2 * e) 256 then notBounded else ceilDiv (2 * e) 256
            fAge := d.lastUsed.getD b.fAge, y := ngY s m, a := ngA s m }
  else if d.st = dpHOLD then
    if fallback then
      let sum := b.tSrv + ageUnits (bndNow s) (tick - b.fAge)
      { b with tSrv := if b.tSrv = notBounded ∨ 0xFFFFFFFFFE < sum then notBounded else sum, fAge := tick, y := ngY s 0, a := ngA s 0 }
    else b
  else { b with tRef := notBounded }

/-- Write the shadows of VC0's rate word and of the ledger terms, where the steward may (R88). -/
def writeCg0 (r : Int) (b : BndTerms) (s : State) : State :=
  let t := s.wr64 0 F.TB_VC0_RATE_LO F.TB_VC0_RATE_HI (uns 48 r)
  if t.sh F.BND_CTRL = 1 then t
  else
    let t := ((t.wr64 0 F.BND_REF_LO F.BND_REF_HI b.tRef).wr64 0 F.BND_SRV_LO F.BND_SRV_HI b.tSrv).wr64 0 F.BND_AGE_FRC_LO
      F.BND_AGE_FRC_HI b.fAge
    ((t.wr64 0 F.BND_AGE_Y_LO F.BND_AGE_Y_HI b.y).wr 0 F.BND_AGE_A b.a).wr 0 F.BND_MARGIN b.m

/-- SRV_STATUS follows the system DPLL (Table 5.8). -/
def syncSys (s : State) : State :=
  let d := s.srv.sys
  let t := (s.wr 0 F.SRV_STATUS_SYS_STATE d.st).wr 0 F.SRV_STATUS_HO_VALID (b2n d.hoValid)
  let t := (t.wr 0 F.SRV_STATUS_MEAS_GAP (b2n (selState s 0 == selHOLDOFF))).wr 0 F.SRV_SYS_BW_EFF d.bw
  let f := if d.st = dpACQ ∨ d.st = dpLOCKED then d.slot else preStep s
  match f with
  | some n => ((t.wr 0 F.SRV_STATUS_SYS_SLOT n).wr 0 F.SRV_STATUS_SYS_SLOT_VALID 1).wr 0 F.SRV_STATUS_SYS_MODE (sysMode s n)
  | none => t.wr 0 F.SRV_STATUS_SYS_SLOT_VALID 0

/-- The system DPLL's part of an update for a tick: transition, measurement, first step, and CG0 armed (R126). -/
def sysUpdate (tick : Nat) (s : State) : State :=
  let old := s.srv.sys.st
  let was := s.srv.wasRat
  let (fb, s) := hoChoose (atomWatch s)
  let s := sysTransit s
  let s := match sysSlot s with
    | some n => sysMeasure n (sysStamps was n s) s
    | none => s
  let s := sysEvents old (acceptStep (firstSet s))
  let s := syncSys (setSys (s.srv.sys.validate s) s)
  let d := s.srv.sys
  if d.st = dpMANUAL then s
  else
    let r := sysRate s tick
    let gap := s.sh F.SRV_STATUS_MEAS_GAP == 1
    let loops := ((d.st == dpACQ || d.st == dpLOCKED) && d.taking.isNone) || (preStep s).isSome
    let rec_ : RateRec := ⟨tick, r, hoH s, s.srv.x, loops && !gap⟩
    let s := writeCg0 r (sysTerms s tick fb) s
    let s := { s with srv := { s.srv with wrote := some r, sys := { d with next := some rec_ } } }
    let s := (s.wr64 0 F.TB_CG0_TIME_LO F.TB_CG0_TIME_HI tick).wr 0 F.TB_CG0_CTRL_KIND 1
    ((setArm 0 ⟨1, tick, 0⟩ s).wr 0 F.TB_CG0_CTRL_ARM 1).wr 0 F.TB_CG0_CTRL_ARMED 1

/-! ### Output DPLLs (R125, R141, R150) -/

def State.od (s : State) (k : Nat) : Dpll := tgetD s.srv.ods k { bw := 10000 }
def State.setOd (k : Nat) (d : Dpll) (s : State) : State := { s with srv := { s.srv with ods := tset s.srv.ods k d } }

/-- The rate word of ODk in effect. -/
def odRateNow (s : State) (k : Nat) : Int := sgn 48 (s.ef (F.SRV_OD_RATE_LO k) + 2 ^ 32 * s.ef (F.SRV_OD_RATE_HI k))

/-- The integral of committed rate words up to a stamp, in ns · 2^60. -/
def rateIntegral (x32 : Nat) : Nat → List RateRec → Rat
  | _, [] => 0
  | e, r :: rs => (r.rate : Rat) * ((min e x32 - 32 * r.tick : Nat) : Rat) / 50 + rateIntegral x32 (32 * r.tick) rs

/-- Sk's time at a stamp in ns: the integral of its committed rate words (R128). -/
def odTime (s : State) (k x32 : Nat) : Rat := (x32 : Rat) / 50 + rateIntegral x32 (32 * s.frc + 32) (s.od k).hist / 2 ^ 60

/-- The output whose observer gives ODk its phase error (R431): while the unit is not ACTIVE and TRACK_CLK is 1, the lowest-numbered shared clock
output that ODk's synthesiser feeds. -/
def trackedOut (s : State) (k : Nat) : Option Nat :=
  if s.sh F.MATE_CTRL_MATE_EN = 1 ∧ s.sh F.MATE_STATUS_STATE ≠ 3 ∧ s.sh F.MATE_CTRL_TRACK_CLK = 1 then
    (List.range 20).find? fun n => s.ef (F.OUT_CLK_CFG_SRC n) == k && s.ef (F.OUT_CLK_CFG_SHARED n) == 1
  else none

/-- ODk's transition (Table 5.1 without MANUAL). While it follows an observer its slot stands as that of the mate, REF27. -/
def odTransit (k : Nat) (left : Bool) (s : State) : State :=
  let d := s.od k
  let follow := s.sh (F.SRV_OD_CFG_MODE k) == 1
  let en := s.sh (F.SRV_OD_CFG_ENABLE k) == 1
  let d := if d.st = dpFOLLOW ∧ !follow then { d with st := dpFREE } else d
  let tr := (trackedOut s k).isSome
  let on := if tr then some 27 else selOn s k
  let lost := !tr && selLost s k
  let (st, anew) := if !en then (dpFREE, false) else if follow then (dpFOLLOW, false) else
    let x := if left then (dpFREE, false) else if !tr && selState s k == selHOLDOFF then (d.st, false)
      else nextState s d lost on true false true
    if d.track != tr && (x.1 == dpACQ || x.1 == dpLOCKED) then (dpACQ, true) else x
  let d0 := if left then { d with hoValid := false } else d
  let d1 : Dpll :=
    if st = dpACQ ∧ anew = true then
      let n := on.getD 0
      let fl := s.sh (F.SRV_OD_BW_FLOOR k)
      let cl := s.sh (F.SRV_OD_BW_CEIL k)
      { d0.acquire n (bwClamp s cl fl n cl) s.frc (odRateNow s k) false with track := tr, force := d.track && !tr }
    else if st = d0.st then d0
    else if st = dpLOCKED then
      { d0 with st := dpLOCKED, lockedAt := some s.frc, quietFrom := s.frc, high := 0 }
    else d0.leave st
  onlyIf ((s.od k).st != st) (post Ev.SRV_OD_STATE_CHANGE k) (s.setOd k d1)

/-- A measured phase error of ODk, before build-out, at a stamp. -/
def odTake (k n : Nat) (raw : Int) (x32 : Nat) (s : State) : State :=
  let d := s.od k
  let bo := if s.sh (F.SRV_OD_CFG_BUILDOUT k) = 1 ∨ d.force = true then some (d.buildOut.getD raw) else none
  let e := match bo with
    | some b => if d.track then raw - b else lessBuildOut s n b raw
    | none => raw
  let tick := x32 / 32
  let d := ({ d with buildOut := bo, lastUsed := some tick }).note e tick (s.sh (F.SRV_OD_CFG_LOCK_NS k))
  let d := (d.loop e x32).quiet tick
  let d := { d with bw := bwClamp s (s.sh (F.SRV_OD_BW_CEIL k)) (s.sh (F.SRV_OD_BW_FLOOR k)) n d.bw }
  (s.setOd k d).wr 0 (F.SRV_OD_PHASE_ERR k) (uns 32 (satS 32 (roundDiv e 256)))

/-- ODk's measurement of an update: its slot's stamps, or the observer's last window where that is new (the own edge's phase against the net). -/
def odMeasure (k n : Nat) (sts : List RefStamp) (s : State) : State :=
  match trackedOut s k with
  | some o =>
    let x32 := 32 * s.mate.obsAt
    let v := s.sh (F.MATE_OBS o)
    if v = 0x80000000 ∨ (s.od k).lastX.getD 0 ≥ x32 then s else odTake k n (-(sgn 32 v) * 256) x32 s
  | none => match sts.getLast? with
    | none => s
    | some last =>
      let iv := stampInterval s n
      let err : RefStamp → Int := fun st => toU16 (wrapHalf iv ((if st.isTime then st.label else 0) - odTime s k st.x32))
      odTake k n (meanErr (sts.map err)) last.x32 s

/-- ODk's rate word (R128, R150). -/
def odRate (s : State) (k : Nat) : Int :=
  let d := s.od k
  if d.st = dpACQ ∨ d.st = dpLOCKED then (if d.lastX.isNone then odRateNow s k else d.rate)
  else if d.st = dpHOLD then
    let w := hoWindow s (lossTick s k)
    let own := match winMean (fun r => some (r.rate : Rat)) w.1 w.2 s.frc d.hist with
      | some v => v
      | none => (d.rate : Rat)
    let add : Rat := if s.sh F.SRV_HO_CFG_OD_HO_TRACK = 1 then
        (r0Now s : Rat) - (winMean (fun r => some (r.rate : Rat)) w.1 w.2 s.frc s.srv.sys.hist).getD (r0Now s) else 0
    clampRate (roundR (own + add))
  else 0

/-- SRV_OD_STATUS follows ODk. -/
def syncOd (k : Nat) (s : State) : State :=
  let d := s.od k
  let t := ((s.wr 0 (F.SRV_OD_STATUS_STATE k) d.st).wr 0 (F.SRV_OD_STATUS_HO_VALID k) (b2n d.hoValid)).wr 0 (F.SRV_OD_BW_EFF k) d.bw
  match (if d.st = dpACQ ∨ d.st = dpLOCKED then d.slot else none) with
  | some n => (t.wr 0 (F.SRV_OD_STATUS_SLOT k) n).wr 0 (F.SRV_OD_STATUS_SLOT_VALID k) 1
  | none => t.wr 0 (F.SRV_OD_STATUS_SLOT_VALID k) 0

/-- ODk's part of an update: CGk is armed when its rate word changes (R126). -/
def odUpdate (tick : Nat) (left : Bool) (k : Nat) (s : State) : State :=
  let s := odTransit k left s
  let d := s.od k
  let loops := d.st == dpACQ || d.st == dpLOCKED
  let gap := !d.track && selState s k == selHOLDOFF
  let s := match (if loops && !gap then d.slot else none) with
    | some n => odMeasure k n (s.slot n).unread s
    | none => s
  let s := syncOd k (s.setOd k ((s.od k).validate s))
  if s.sh (F.SRV_OD_CFG_ENABLE k) = 0 ∨ d.st = dpFOLLOW then s
  else
    let r := odRate s k
    if r = odRateNow s k then s
    else
      let d := s.od k
      let s := s.setOd k { d with next := some ⟨tick, r, 0, none, loops && !gap⟩ }
      setArm k ⟨1, tick, 0⟩ (s.wr64 0 (F.SRV_OD_RATE_LO k) (F.SRV_OD_RATE_HI k) (uns 48 r))

/-! ### Updates and commits -/

/-- The stamps are read: the next update takes those that arrive after it. -/
def clearUnread (s : State) : State :=
  { s with refs := { s.refs with slots := tmap (fun _ r => { r with unread := [] }) s.refs.slots } }

/-- SERVO_UPDATE (R126): one update for each multiple of U, armed for the next one. An arm that R26 would refuse loses the update. -/
def servoUpdate (s : State) : State :=
  let u := updPeriod s
  let tick := (s.frc / u + 1) * u
  if !stewardRuns s || !s.doorOpen .srv || tick == s.srv.target then s
  else
    let s := { s with srv := { s.srv with target := tick } }
    if tick < s.frc + 64 then
      post Ev.SRV_UPD_LATE 0 (s.wr 0 F.SRV_COUNTS_UPD_LATE (s.sh F.SRV_COUNTS_UPD_LATE + 1))
    else
      let left := s.srv.wasRat && !vc0Rat s
      clearUnread (each [1, 2, 3, 4, 5] (odUpdate tick left) (sysUpdate tick s))

def execServoUpdate (s : State) : Host.Outcome State Fault Refusal := .next (servoUpdate s)

/-- SERVO_STALL: no CG0 commit for 16 update periods (R134). -/
def servoStall (s : State) : State :=
  if s.sh F.RST_STATUS_PROOF_DONE = 1 ∧ s.sh F.SRV_STATUS_STALL = 0 ∧ s.srv.cg0At + 16 * updPeriod s ≤ s.frc then
    post Ev.SRV_STALL 0 (s.wr 0 F.SRV_STATUS_STALL 1)
  else s

def execServoStall (s : State) : Host.Outcome State Fault Refusal := .next (servoStall s)

/-- What the servo sees of a CG0 commit at a tick: STALL clears, a foreign r0 is a RATE_CONFLICT (R134, R144), the rate is recorded,
and an ODk in FOLLOW takes r0 (R150). -/
def srvCg0Commit (tick : Nat) (s : State) : State :=
  let r := r0Now s
  let s := { (s.wr 0 F.SRV_STATUS_STALL 0) with srv := { s.srv with cg0At := tick } }
  let d := s.srv.sys
  let rec0 : RateRec := match d.next with
    | some n => { n with tick := tick, rate := r }
    | none => ⟨tick, r, hoH s, s.srv.x, false⟩
  let s := setSys { d with hist := rec0 :: d.hist, next := none } s
  let s := match (if s.sh F.SRV_CTRL_RATE_OWNER = 0 then s.srv.wrote else none) with
    | some w =>
      if w = r then s.wr 0 F.SRV_STATUS_RATE_CONFLICT 0
      else post Ev.SRV_RATE_CONFLICT 0 (setSys { s.srv.sys with ik := fracRate r } (s.wr 0 F.SRV_STATUS_RATE_CONFLICT 1))
    | none => s
  let s := { s with srv := { s.srv with wrote := none } }
  each [1, 2, 3, 4, 5] (fun k t =>
    if t.sh (F.SRV_OD_CFG_ENABLE k) = 1 ∧ t.sh (F.SRV_OD_CFG_MODE k) = 1 then
      let d := t.od k
      let t := t.setOd k { d with hist := ⟨tick, r, 0, none, false⟩ :: d.hist }
      (t.wrBoth (F.SRV_OD_RATE_LO k) (uns 48 r)).wrBoth (F.SRV_OD_RATE_HI k) (uns 48 r / 2 ^ 32)
    else t) s

/-- What the servo sees of a CGk commit at a tick. -/
def srvOdCommit (k tick : Nat) (s : State) : State :=
  let d := s.od k
  let r := odRateNow s k
  let rec0 : RateRec := match d.next with
    | some n => { n with tick := tick, rate := r }
    | none => ⟨tick, r, 0, none, false⟩
  s.setOd k { d with hist := rec0 :: d.hist, next := none }

/-- Readings of the last second that only the device can take, as free values: the steward's busy share (R521), and the codewords that each UP port
with FEC has corrected. -/
def freeReadings (s : State) : State :=
  let t := (s.free 7).2.wr 0 F.STW_STATUS_LOAD_PCT (min (s.free 7).1 100)
  each (List.range 16) (fun n t =>
    if t.sh (F.PRT_PORT_STATUS_STATE n) = 2 ∧ t.sh (F.PRT_PORT_CFG_FEC n) ≠ 0 then
      (t.free 16).2.wr 0 (F.PRT_PORT_FEC_FEC_CORR n) ((t.sh (F.PRT_PORT_FEC_FEC_CORR n) + (t.free 16).1) % 2 ^ 16)
    else t) t

/-- MONITOR_TICK: the monitors, then the steward's tasks of the monitor tick: temperatures, REF_HO_Y and the atomic oscillator's
conditions (R110, R145, R146, R153). -/
def monitorAll (tick : Nat) (s : State) : State :=
  if s.frc < tick ∨ tick % ticksPerSec ≠ 0 ∨ tick ≤ s.refs.lastTick then s
  else
    let p := stampPair (s.slot 28)
    let t := freeReadings (atomWatch (monitorTick tick s))
    if stewardRuns t then tempCheck 1 (tempCheck 0 (hoMonitor p (readTemp 1 (readTemp 0 t)))) else t

def execMonitorTick (tick : BitVec 64) (s : State) : Host.Outcome State Fault Refusal := .next (monitorAll tick.toNat s)

/-! ### Nougat samples and tuning (R152, R157, R158) -/

/-- The training conditions of R152. -/
def training (s : State) : Bool :=
  let d := s.srv.sys
  d.st == dpLOCKED && s.sh F.SRV_STATUS_MEAS_GAP == 0 &&
    (match d.slot with
      | some n => sysMode s n != 2 && decide (s.sh (F.REF_STATE_QR n) ≤ s.sh F.SRV_NG_TRAIN_TRAIN_QR_MAX)
      | none => false)

/-- The oscillator's offset that one committed rate implies: OSC_IN against the timescale, or ATOM_IN through x. -/
def oscOffset (m : Nat) (r : RateRec) : Option Rat :=
  if m = 0 then some (implied 0 r.rate) else r.x.map fun x => (1 - x) / (1 + fracRate r.rate) - 1

/-- Frequency that the tune word in force contributes. -/
def tuneFreq (s : State) : Rat :=
  let w : Rat := sgn 32 (s.sh F.SRV_ATOM_TUNE)
  (if s.sh F.SRV_ATOM_CFG_TUNE_NEG = 1 then -w else w) * s.sh F.SRV_ATOM_LSB / 10 ^ 18

/-- Store a fit in a model's registers. -/
def storeFit (m : Nat) (g : NgModel) (s : State) : State :=
  let useT := tempSrc s m != 0
  let f := Config.nougatFit (s.sh F.SRV_NG_TRAIN_FORGET_D) useT (g.samples.map fun x => (x.tick, x.y, x.theta))
  let th := (g.samples.getLast?.map (·.theta)).getD 0
  let t := (s.wr 0 (F.SRV_NG_Y0 m) (uns 32 (satS 32 f.1))).wr 0 (F.SRV_NG_DRIFT m) (uns 32 (satS 32 f.2.1))
  let t := (t.wr 0 (F.SRV_NG_TC1 m) (if useT then uns 32 (satS 32 f.2.2.1) else 0)).wr 0 (F.SRV_NG_TC2 m)
    (if useT then uns 32 (satS 32 f.2.2.2.1) else 0)
  ((t.wr 0 (F.SRV_NG_SIGMA m) (satU 32 f.2.2.2.2.1)).wr 0 (F.SRV_NG_SIGMA_D m) (satU 32 f.2.2.2.2.2)).wr 0 (F.SRV_NG_THETA0 m) (uns 32 th)

/-- TRAIN_H of a model. -/
def trainH (m : Nat) : FieldRef := if m = 0 then F.SRV_NOUGAT_STATUS_TRAIN_H0 else F.SRV_NOUGAT_STATUS_TRAIN_H1
def trainMin (m : Nat) : FieldRef := if m = 0 then F.SRV_NG_TRAIN_TRAIN_MIN_H0 else F.SRV_NG_TRAIN_TRAIN_MIN_H1

/-- NOUGAT_SAMPLE of a model, every 10 s (R152, Table 5.3). -/
def nougatSample (m : Nat) (s : State) : State :=
  let g := s.ng m
  if s.frc < g.lastTry + 10 * ticksPerSec ∨ !stewardRuns s then s
  else
    let s := s.setNg m { g with lastTry := s.frc }
    let y? := winMean (oscOffset m) (s.frc - 100 * ticksPerSec) s.frc s.frc s.srv.sys.hist
    match (if training s then y? else none) with
    | none => s
    | some y =>
      let y := if m = 1 ∧ s.sh F.SRV_HO_CFG_ATOM_MODE = 1 then y - tuneFreq s else y
      let th := ngTheta s m
      let sig : Rat := (s.sh (F.SRV_NG_SIGMA m) : Rat) / 10 ^ 15
      let res := |y - ngPredict s m s.frc th|
      let g := { s.ng m with
        samples := g.samples ++ [⟨s.frc, y, th⟩]
        bad := if 5 * sig < res then g.bad + 1 else 0, okRun := if res ≤ 3 * sig then g.okRun + 1 else 0 }
      let back := !outOfSpan (s.ng m) th
      let t := storeFit m g (s.setNg m g)
      let hrs := satU 12 (g.samples.length / 360)
      let t := t.wr 0 (trainH m) hrs
      let st := ngState t m
      if st = 0 ∧ t.sh (trainMin m) ≤ hrs then setNgState m 1 (t.setNg m { g with bad := 0, okRun := 0 })
      else if st = 1 ∧ 3 ≤ g.bad then setNgState m 2 (t.setNg m { g with bad := 0, okRun := 0 })
      else if st = 2 ∧ 3 ≤ g.okRun ∧ back = true then setNgState m 1 (t.setNg m { g with bad := 0, okRun := 0 })
      else t

def execNougatSample (model : Fin 2) (s : State) : Host.Outcome State Fault Refusal := .next (nougatSample model.val s)

/-- Width in bytes of the tune word (R158). -/
def tuneWidth (s : State) : Nat := s.sh F.SRV_ATOM_CFG_WIDTH + 2

/-- The template bytes. -/
def tuneTemplate (s : State) : Octets :=
  let b := ((List.range 4).map fun i => [s.sh (F.SRV_ATOM_TPL_TPL0 i), s.sh (F.SRV_ATOM_TPL_TPL1 i), s.sh (F.SRV_ATOM_TPL_TPL2 i),
    s.sh (F.SRV_ATOM_TPL_TPL3 i)]).flatten
  (oct b).take (s.sh F.SRV_ATOM_CFG_LEN + 1)

/-- The tune word of R157 while the training conditions hold; otherwise the word is held. -/
def tuneWord (s : State) : Int :=
  let w := sgn 32 (s.sh F.SRV_ATOM_TUNE)
  let per := s.sh F.SRV_ATOM_CFG_TUNE_S * ticksPerSec
  let lim : Int := s.sh F.SRV_ATOM_LIMIT
  let step : Int := s.sh F.SRV_ATOM_STEP
  match (if training s && s.sh F.SRV_ATOM_LSB != 0 then winMean (oscOffset 1) (s.frc - per) s.frc s.frc s.srv.sys.hist else none) with
  | none => w
  | some y =>
    let c := roundR (y * 10 ^ 18 / s.sh F.SRV_ATOM_LSB)
    let target := if s.sh F.SRV_ATOM_CFG_TUNE_NEG = 1 then w + c else w - c
    let target := max (-lim) (min lim target)
    max (w - step) (min (w + step) target)

/-- One tune write (R158): the transaction's bytes, and BUS_ERR on a bad place or an I2C NACK. -/
def tuneWrite (ack : Bool) (s : State) : State :=
  let n := s.sh F.SRV_ATOM_CFG_LEN + 1
  let pos := s.sh F.SRV_ATOM_CFG_POS
  let w := tuneWidth s
  let s := { s with srv := { s.srv with tuneAt := s.frc } }
  if n < pos + w then s.wr 0 F.SRV_ATOM_STATUS_BUS_ERR 1
  else
    let v := tuneWord s
    let s := { s with srv := { s.srv with tuneTx := splice (tuneTemplate s) pos (beBytes w (uns (8 * w) v)) } }
    if s.sh F.SRV_ATOM_CFG_BUS = 0 ∧ ack = false then post Ev.SRV_ATOM_BUS_ERR 0 (s.wr 0 F.SRV_ATOM_STATUS_BUS_ERR 1)
    else (s.wr 0 F.SRV_ATOM_TUNE (uns 32 v)).wr 0 F.SRV_ATOM_STATUS_TUNE_COUNT (s.sh F.SRV_ATOM_STATUS_TUNE_COUNT + 1)

/-- ATOM_TUNE: every TUNE_S seconds in STEER mode under the training conditions (R157). -/
def atomTune (ack : Bool) (s : State) : State :=
  let on := s.sh F.SRV_HO_CFG_ATOM_MODE == 1 && training s && stewardRuns s
  let s := s.wr 0 F.SRV_ATOM_STATUS_STEERING (b2n on)
  if on && decide (s.srv.tuneAt + s.sh F.SRV_ATOM_CFG_TUNE_S * ticksPerSec ≤ s.frc) then tuneWrite ack s else s

/-- ATOM_TUNE: `ack` is the oscillator's answer on I2C. -/
def execAtomTune (ack : Bool) (s : State) : Host.Outcome State Fault Refusal := .next (atomTune ack s)

/-- ATOM_ALM: a level of the pin, or a change of REF28's state (R146). -/
def atomAlm (level : Bool) (s : State) : State := atomWatch { s with srv := { s.srv with almPin := level } }

def execAtomAlm (level : Bool) (s : State) : Host.Outcome State Fault Refusal := .next (atomAlm level s)

/-! ### Commands and writes (R160, R161) -/

def stSrv : StatRef := ⟨F.SRV_CMD_STATUS_CODE, F.SRV_CMD_STATUS_BUSY, none⟩

/-- A write to SRV_CMD; only the steward and the secure world issue commands. -/
def srvCommand (w : Win) (body : State → State) (s : State) : State :=
  command .srv stSrv Ev.SRV_CMD_OVERRUN w (fun s => if s.secureSt w.fn then body s else refuse stSrv w 0 s) s

/-- PHASE_STEP (R142). -/
def opPhaseStep (w : Win) (s : State) : State :=
  srvCommand w (fun s =>
    let d := sgn 64 (s.rd64 w.c F.SRV_ARG0 F.SRV_ARG1)
    let o := match s.srv.oPend with
      | some (_, v) => v
      | none => sgn 64 (s.rd64 0 F.SRV_SYS_TARGET_LO F.SRV_SYS_TARGET_HI)
    if !vc0Rat s || decide ((s.vc 0).adjLimit * 65536 < d.natAbs) || decide (2 ^ 47 * 65536 < (o + d).natAbs) then refuse stSrv w 0 s
    else
      let t := stewardAdjust d s
      completeOk stSrv w { t with srv := { t.srv with oPend := some (s.frc + 64, o + d) } }) s

def execPhaseStep (fn : Fn) (s : State) : Host.Outcome State Fault Refusal := .next (opPhaseStep ⟨fn.val, fn.val + 1⟩ s)

/-- ACCEPT_OFFSET (R139): at its next update the DPLL acquires the slot and slews the measured offset in steps. -/
def opAcceptOffset (w : Win) (s : State) : State :=
  srvCommand w (fun s =>
    if s.sh F.SRV_STATUS_OFFSET_REJECT = 0 ∨ !s.secure w.fn then refuse stSrv w 0 s
    else completeOk stSrv w { s with srv := { s.srv with acceptCmd := true } }) s

def execAcceptOffset (fn : Fn) (s : State) : Host.Outcome State Fault Refusal := .next (opAcceptOffset ⟨fn.val, fn.val + 1⟩ s)

/-- A model returns to UNTRAINED (Table 5.3). -/
def resetModel (m : Nat) (s : State) : State :=
  let t := s.setNg m {}
  let t := each [F.SRV_NG_Y0 m, F.SRV_NG_DRIFT m, F.SRV_NG_TC1 m, F.SRV_NG_TC2 m, F.SRV_NG_THETA0 m, trainH m] (fun f t => t.wr 0 f 0) t
  setNgState m 0 ((t.wr 0 (F.SRV_NG_SIGMA m) 0xFFFFFFFF).wr 0 (F.SRV_NG_SIGMA_D m) 0xFFFFFFFF)

/-- NOUGAT_RESET (R153). -/
def opNougatReset (w : Win) (s : State) : State :=
  srvCommand w (fun s => completeOk stSrv w (resetModel (s.rd w.c F.SRV_ARG0 % 2) s)) s

def execNougatReset (fn : Fn) (s : State) : Host.Outcome State Fault Refusal := .next (opNougatReset ⟨fn.val, fn.val + 1⟩ s)

/-- ATOM_TUNE_NOW (R161, Table 5.6). -/
def opAtomTuneNow (w : Win) (ack : Bool) (s : State) : State :=
  srvCommand w (fun s =>
    if s.sh F.SRV_HO_CFG_ATOM_MODE = 1 then completeOk stSrv w (tuneWrite ack s) else refuse stSrv w 0 s) s

def execAtomTuneNow (fn : Fn) (ack : Bool) (s : State) : Host.Outcome State Fault Refusal :=
  .next (opAtomTuneNow ⟨fn.val, fn.val + 1⟩ ack s)

/-- A write of SRV_CTRL: RATE_OWNER is the secure world's alone (R130, R160). A write that would change it from elsewhere is refused. -/
def writeSrvCtrl (fn v : Nat) (s : State) : State :=
  writeAtDoor .srv fn 0xC (fun s =>
    if !s.secureSt fn || (!s.secure fn && bits v 0 1 != s.sh F.SRV_CTRL_RATE_OWNER) then postTo Ev.SRV_AUTH_REFUSED fn 0 s
    else
      let n := bits v 8 8
      ((s.wr 0 F.SRV_CTRL_RATE_OWNER (bits v 0 1)).wr 0 F.SRV_CTRL_UPD_LOG2 (min (bits v 1 4) 10)).wr 0 F.SRV_CTRL_OFFSET_N
        (if n = 0 then 1 else n)) s

/-- RATE_OWNER_WRITE: the value written to SRV_CTRL. MANUAL is entered or left at the next update (R131). -/
def execRateOwnerWrite (fn : Fn) (value : BitVec 32) (s : State) : Host.Outcome State Fault Refusal :=
  .next (writeSrvCtrl fn.val value.toNat s)

/-- The fields of SRV_HO_CFG that only the secure world writes (R160): HO_SRC, ATOM_MODE, ATOM_ALM_POL and ATOM_SETTLE_S. -/
def hoCfgReserved (s : State) (v : Nat) : Bool :=
  bits v 0 1 == s.sh F.SRV_HO_CFG_HO_SRC && bits v 1 1 == s.sh F.SRV_HO_CFG_ATOM_MODE &&
    bits v 2 1 == s.sh F.SRV_HO_CFG_ATOM_ALM_POL && bits v 16 16 == s.sh F.SRV_HO_CFG_ATOM_SETTLE_S

/-- A write of SRV_HO_CFG. -/
def writeHoCfg (fn v : Nat) (s : State) : State :=
  writeAtDoor .srv fn 0x80 (fun s =>
    if !s.secureSt fn || (!s.secure fn && !hoCfgReserved s v) then postTo Ev.SRV_AUTH_REFUSED fn 0 s
    else
      let src := fun x => if x = 3 then 0 else x
      let t := ((s.wr 0 F.SRV_HO_CFG_HO_SRC (bits v 0 1)).wr 0 F.SRV_HO_CFG_ATOM_MODE (bits v 1 1)).wr 0 F.SRV_HO_CFG_ATOM_ALM_POL (bits v 2 1)
      let t := (t.wr 0 F.SRV_HO_CFG_OD_HO_TRACK (bits v 3 1)).wr 0 F.SRV_HO_CFG_TEMP_SRC0 (src (bits v 4 2))
      atomWatch ((t.wr 0 F.SRV_HO_CFG_TEMP_SRC1 (src (bits v 6 2))).wr 0 F.SRV_HO_CFG_ATOM_SETTLE_S (bits v 16 16))) s

/-- HO_SRC_WRITE: the value written to SRV_HO_CFG. The choice takes effect at the next update outside HOLDOVER (R145). -/
def execHoSrcWrite (fn : Fn) (value : BitVec 32) (s : State) : Host.Outcome State Fault Refusal :=
  .next (writeHoCfg fn.val value.toNat s)

end Sys2Proof.Machine
end

