-- ==== Sys2Proof/Machine/Synth.lean ====
section
/-! DEFINITION. Synthesisers, band memo and clock outputs (chapter "Synthesis, Clock Outputs and Pulse Outputs", R162 to R175). Instants are in
ticks of 640 ps from FRC 0, exact. -/

namespace Sys2Proof.Machine

/-! ### Shadows of CG6 to CG13 (R167) -/

/-- Write an SH field under its item's GROUP; a pending shadow leaves its old group. -/
def writeShadow (g : Nat) (f : FieldRef) (v : Nat) (s : State) : State :=
  let t := s.wr 0 f v
  { t with out := { t.out with shadows := tset t.out.shadows (f.key 0) (6 + g) } }

/-- A shadow takes effect. -/
def commitKey (k : Nat) (s : State) : State :=
  { s with
      eff := match tget s.regs k with
        | some v => tset s.eff k v
        | none => tdel s.eff k
      out := { s.out with shadows := tdel s.out.shadows k } }

/-- The value that a field will have when a group commits: its shadow if that is the group's, else the value in effect. -/
def willBe (s : State) (g : Nat) (f : FieldRef) : Nat := if tget s.out.shadows (f.key 0) = some g then s.sh f else s.ef f

/-- Does a group hold a shadow of one of some fields? -/
def touches (s : State) (g : Nat) (fs : List FieldRef) : Bool := fs.any fun f => tget s.out.shadows (f.key 0) == some g

/-! ### DCO phase (R162, R163) -/

def State.syn (s : State) (k : Nat) : SynK := tgetD s.out.syns k {}
def State.setSyn (k : Nat) (y : SynK) (s : State) : State := { s with out := { s.out with syns := tset s.out.syns k y } }

/-- The multiplier in effect, in 2^-40. -/
def synM (s : State) (k : Nat) : Nat :=
  s.ef (F.SYN_S_MULT_INT k) * 2 ^ 40 + s.ef (F.SYN_S_MULT_FRAC_LO k) + s.ef (F.SYN_S_MULT_FRAC_HI k) * 2 ^ 32

/-- DCO cycles per tick: f_OSC × M × (1 + r) × 640 ps. -/
def synSpeed (s : State) (k : Nat) : Rat := (synM s k : Rat) / 2 ^ 40 / 10 * (1 + fracRate (s.syn k).rate)

/-- DCO cycles at an instant. -/
def synCycle (s : State) (k : Nat) (t : Rat) : Rat := (s.syn k).cyc + (t - (s.syn k).cycAt) * synSpeed s k

/-- The instant of a DCO cycle. -/
def synTime (s : State) (k : Nat) (c : Rat) : Rat := (s.syn k).cycAt + (c - (s.syn k).cyc) / synSpeed s k

/-- 8 ns in ticks. -/
def retime : Rat := 25 / 2

/-- A rate word reaches the DCO 8 ns after its commit; the phase does not change (R163). -/
def synRate (k tick : Nat) (r : Int) (s : State) : State :=
  let t : Rat := (tick : Rat) + retime
  s.setSyn k { s.syn k with cyc := synCycle s k t, cycAt := t, rate := r }

/-! ### Synthesiser states (R165) -/

def syOFF : Nat := 0
def sySEARCH : Nat := 1
def syRETUNE : Nat := 2
def syLOCKED : Nat := 3
def syLOST : Nat := 4

def synState (s : State) (k : Nat) : Nat := s.sh (F.SYN_S_STATUS_STATE k)

/-- SYN_STATUS follows the synthesisers. -/
def syncSyn (s : State) : State :=
  let m := fun (p : Nat → Bool) => (List.range 6).foldl (fun a k => if p (synState s k) then a + 2 ^ k else a) 0
  (s.wr 0 F.SYN_STATUS_LOCKED (m (· == syLOCKED))).wr 0 F.SYN_STATUS_BUSY (m fun x => x == sySEARCH || x == syRETUNE)

def setSynState (k st : Nat) (s : State) : State := syncSyn (s.wr 0 (F.SYN_S_STATUS_STATE k) st)

/-- The outputs fed by a synthesiser, by the values they run on or wait for. -/
def fedBy (s : State) (k : Nat) : List Nat := (List.range 20).filter fun n => (s.clk n).cur.src == k || s.ef (F.OUT_CLK_CFG_SRC n) == k

/-- Status of a clock output. -/
def syncClk (n : Nat) (s : State) : State :=
  let c := s.clk n
  (s.wr 0 (F.OUT_CLK_STATUS_STATE n) (if c.wait = 2 ∨ c.wait = 3 then 2 else if c.run then 1 else 0)).wr 0
    (F.OUT_CLK_STATUS_DELAY_MOVING n) (b2n c.moveEnd.isSome)

/-- Stop the outputs of a synthesiser; they wait for lock (R165, R173). -/
def stopFed (k : Nat) (s : State) : State :=
  syncDriving (each (fedBy s k) (fun n t =>
    let c := t.clk n
    let en := t.ef (F.OUT_CLK_CFG_EN n) == 1 && t.ef (F.OUT_CLK_CFG_SRC n) == k
    syncClk n (t.setClk n { c with run := false, moveEnd := none, wait := if en then 3 else c.wait })) s)

/-- The memo entry of a key. -/
def memoFind (y : SynK) (key : Nat) : Option Nat := (List.range 16).find? fun i => (tgetD y.memo i {}).valid && (tgetD y.memo i {}).key == key

/-- Start a retune with the current M: from the memo, or by a full search (Table 6.1). -/
def startRetune (k tick : Nat) (s : State) : State :=
  let t := stopFed k (s.setSyn k { s.syn k with startAt := tick })
  if (memoFind (s.syn k) (synM s k)).isSome then setSynState k syRETUNE t
  else setSynState k sySEARCH (t.wr 0 (F.SYN_S_COUNTS_SEARCHES k) (t.sh (F.SYN_S_COUNTS_SEARCHES k) + 1))

/-- The values of a clock output's fields in effect. -/
def clkEff (s : State) (n : Nat) : ClkVals :=
  { src := s.ef (F.OUT_CLK_CFG_SRC n), en := s.ef (F.OUT_CLK_CFG_EN n) == 1, stop := s.ef (F.OUT_CLK_CFG_STOP_STATE n)
    format := s.ef (F.OUT_CLK_CFG_FORMAT n), shared := s.ef (F.OUT_CLK_CFG_SHARED n) == 1
    d := s.ef (F.OUT_CLK_DIV_LO n) + 2 ^ 32 * s.ef (F.OUT_CLK_DIV_HI n), phase := s.ef (F.OUT_CLK_DELAY_PHASE n)
    fine := s.ef (F.OUT_CLK_DELAY_FINE n) }

/-- The outputs of a synthesiser restart together at its lock (R165, R173). -/
def startFed (k : Nat) (s : State) : State :=
  syncDriving (each ((fedBy s k).filter fun n => s.ef (F.OUT_CLK_CFG_SRC n) == k) (fun n t =>
    let v := clkEff t n
    syncClk n (t.setClk n { (t.clk n) with cur := v, run := v.en, wait := 0, origin := 0, moveEnd := none })) s)

/-- Where a search's result is stored (R166): the entry of the key, an invalid one, the least recently used unpinned one. -/
def memoPlace (y : SynK) (key : Nat) : Option Nat :=
  let e := fun i => tgetD y.memo i {}
  match memoFind y key with
  | some i => some i
  | none => match (List.range 16).find? fun i => !(e i).valid with
    | some i => some i
    | none => ((List.range 16).filter fun i => !(e i).pinned).foldl (fun b i => match b with
        | none => some i
        | some j => if (e i).used < (e j).used then some i else some j) none

/-- Write the result of a search to the memo, or post MEMO_FULL (R166). -/
def memoStore (k key band : Nat) (s : State) : State :=
  let y := s.syn k
  match memoPlace y key with
  | some i =>
    let e := tgetD y.memo i {}
    let e' : MemoEntry := { e with key := key, band := band, valid := true, used := y.uses + 1, pinned := e.pinned && e.valid && e.key == key }
    (s.setSyn k { y with memo := tset y.memo i e', uses := y.uses + 1 }).wr 0 (F.SYN_S_STATUS_MEMO_ENTRY k) i
  | none => post Ev.SYN_MEMO_FULL k s

/-- A retune ends in lock. -/
def synLock (k band : Nat) (s : State) : State :=
  let t := s.setSyn k { s.syn k with cyc := 0, cycAt := s.frc }
  startFed k (post Ev.SYN_LOCKED k (setSynState k syLOCKED (t.wr 0 (F.SYN_S_STATUS_BAND k) band)))

/-- RETUNE_LOCKED: a band locks. In RETUNING it is the stored band or a neighbour, within 4 µs (Table 6.1, R166). -/
def retuneLocked (k band : Nat) (s : State) : State :=
  let y := s.syn k
  let key := synM s k
  if synState s k = syRETUNE then
    match memoFind y key with
    | some i =>
      let e := tgetD y.memo i {}
      if decide (s.frc ≤ y.startAt + 6250) && decide (band ≤ e.band + 1) && decide (e.band ≤ band + 1) then
        let t := s.setSyn k { y with memo := tset y.memo i { e with used := y.uses + 1 }, uses := y.uses + 1 }
        synLock k band ((t.wr 0 (F.SYN_S_STATUS_MEMO_ENTRY k) i).wr 0 (F.SYN_S_STATUS_MEMO_HIT k) 1)
      else s
    | none => s
  else if synState s k = sySEARCH then synLock k band (memoStore k key band (s.wr 0 (F.SYN_S_STATUS_MEMO_HIT k) 0))
  else s

/-- RETUNE_LOCKED of S1 to S5, with the band code that locked. -/
def execRetuneLocked (k : Fin 6) (band : BitVec 10) (s : State) : Host.Outcome State Fault Refusal :=
  .next (if k.val = 0 ∨ !s.doorOpen .syn then s else retuneLocked k.val band.toNat s)

/-- RETUNE_TIMEOUT: 4 µs after the start of a retune from the memo. -/
def retuneTimeout (k : Nat) (s : State) : State :=
  if synState s k = syRETUNE ∧ (s.syn k).startAt + 6250 ≤ s.frc then
    let t := post Ev.SYN_RETUNE_SLOW k (s.setSyn k { s.syn k with startAt := s.frc })
    setSynState k sySEARCH (t.wr 0 (F.SYN_S_COUNTS_SEARCHES k) (t.sh (F.SYN_S_COUNTS_SEARCHES k) + 1))
  else s

def execRetuneTimeout (k : Fin 6) (s : State) : Host.Outcome State Fault Refusal := .next (retuneTimeout k.val s)

/-- SYNTH_LOCK_LOSS: S0's is fault 256 alone; Sk enters LOST and raises 256 + k (R165, Table 21.1). -/
def synthLockLoss (k : Nat) (s : State) : State :=
  if k = 0 then raise 256 0 0 s
  else if synState s k = syLOCKED then
    let t := stopFed k (s.setSyn k { s.syn k with startAt := s.frc })
    let t := setSynState k syLOST (t.wr 0 (F.SYN_S_COUNTS_LOL_COUNT k) (t.sh (F.SYN_S_COUNTS_LOL_COUNT k) + 1))
    raise (256 + k) k 0 (post Ev.SYN_LOL k t)
  else s

def execSynthLockLoss (k : Fin 6) (s : State) : Host.Outcome State Fault Refusal := .next (synthLockLoss k.val s)

/-- LOST_RETRY: 1 µs after LOST was entered, 1,563 ticks. -/
def lostRetry (k : Nat) (s : State) : State :=
  if synState s k = syLOST ∧ (s.syn k).startAt + 1563 ≤ s.frc then startRetune k s.frc s else s

def execLostRetry (k : Fin 6) (s : State) : Host.Outcome State Fault Refusal := .next (lostRetry k.val s)

/-! ### The memo window (Table 6.9) -/

/-- May a function write SYN and OUT registers (R190)? -/
def synMay (s : State) (fn : Nat) : Bool := s.secureSt fn

/-- A write of SYN_MEMO_SEL latches the entry (R166). -/
def writeMemoSel (w : Win) (v : Nat) (s : State) : State :=
  writeAtDoor .syn w.fn 0x300 (fun s =>
    if !synMay s w.fn then postTo Ev.SYN_AUTH_REFUSED w.fn 0 s
    else
      let k := if 1 ≤ bits v 0 3 ∧ bits v 0 3 ≤ 5 then bits v 0 3 else 1
      let i := bits v 4 4
      let e := tgetD (s.syn k).memo i {}
      let t := (s.wr w.c F.SYN_MEMO_SEL_SYNTH k).wr w.c F.SYN_MEMO_SEL_ENTRY i
      let t := (t.wr w.c F.SYN_MEMO_KEY_INT (e.key / 2 ^ 40)).wr w.c F.SYN_MEMO_KEY_LO e.key
      let t := (t.wr w.c F.SYN_MEMO_KEY_HI_KEY_FRAC (e.key / 2 ^ 32)).wr w.c F.SYN_MEMO_KEY_HI_VALID (b2n e.valid)
      (t.wr w.c F.SYN_MEMO_KEY_HI_PINNED (b2n e.pinned)).wr w.c F.SYN_MEMO_BAND e.band) s

def execSynMemoSelWrite (fn : Fn) (value : BitVec 32) (s : State) : Host.Outcome State Fault Refusal :=
  .next (writeMemoSel ⟨fn.val, fn.val + 1⟩ value.toNat s)

/-- A write of SYN_MEMO_CMD on the selected entry. -/
def memoCmd (w : Win) (f : MemoEntry → MemoEntry) (s : State) : State :=
  writeAtDoor .syn w.fn 0x314 (fun s =>
    if !synMay s w.fn then postTo Ev.SYN_AUTH_REFUSED w.fn 0 s
    else
      let k := s.rd w.c F.SYN_MEMO_SEL_SYNTH
      let y := s.syn k
      s.setSyn k { y with memo := tupd y.memo (s.rd w.c F.SYN_MEMO_SEL_ENTRY) {} f }) s

def memoPin (e : MemoEntry) : MemoEntry := { e with pinned := true }
def memoUnpin (e : MemoEntry) : MemoEntry := { e with pinned := false }
def memoInvalidate (_ : MemoEntry) : MemoEntry := {}

def execMemoPin (fn : Fn) (s : State) : Host.Outcome State Fault Refusal := .next (memoCmd ⟨fn.val, fn.val + 1⟩ memoPin s)
def execMemoUnpin (fn : Fn) (s : State) : Host.Outcome State Fault Refusal := .next (memoCmd ⟨fn.val, fn.val + 1⟩ memoUnpin s)
def execMemoInvalidate (fn : Fn) (s : State) : Host.Outcome State Fault Refusal := .next (memoCmd ⟨fn.val, fn.val + 1⟩ memoInvalidate s)

/-! ### Clock output edges (R169 to R174) -/

/-- The instant of a rising edge: divider period m after the restart, with PHASE and FINE (R174). -/
def edgeAt (s : State) (c : ClkOut) (m : Rat) : Rat :=
  synTime s c.cur.src (c.origin + m * c.cur.d + (c.cur.phase : Rat) / 2) + (c.cur.fine : Rat) / 128

/-- The number of the first rising edge at or after an instant. -/
def edgeNo (s : State) (c : ClkOut) (t : Rat) : Int :=
  ⌈(synCycle s c.cur.src (t - (c.cur.fine : Rat) / 128) - c.origin - (c.cur.phase : Rat) / 2) / c.cur.d⌉

/-- The first rising edge of a running output at or after an instant. -/
def risingAfter (s : State) (c : ClkOut) (t : Rat) : Rat := edgeAt s c (edgeNo s c t)

/-- The instant at which a committed change that does not wait for others reaches the output (R169, R171): its first rising edge, or
for a stop LOW its next falling edge; at once where it is stopped. -/
def changeInstant (s : State) (n : Nat) : Rat :=
  let c := s.clk n
  if !c.run then c.since
  else if s.ef (F.OUT_CLK_CFG_EN n) = 0 ∧ s.ef (F.OUT_CLK_CFG_STOP_STATE n) = 0 then
    let m : Rat := edgeNo s c c.since
    let f := edgeAt s c (m - 1 / 2)
    if c.since ≤ f then f else edgeAt s c (m + 1 / 2)
  else risingAfter s c c.since

/-- The delay of an output in ps: PHASE half-cycles of the DCO, and FINE (R174). -/
def delayPs (s : State) (v : ClkVals) : Rat := (v.phase : Rat) / (2 * synSpeed s v.src) * 640 + 5 * v.fine

/-- The instant at which a delay that starts to move at `t` arrives: at most one eighth of a period a period, in whole 5 ps. -/
def moveArrival (s : State) (old new : ClkVals) (t : Rat) : Rat :=
  let period := (new.d : Rat) / synSpeed s new.src
  let step : Rat := 5 * (⌊period * 640 / 8 / 5⌋ : Rat)
  let dist := |delayPs s new - delayPs s old|
  t + period * (⌈dist / step⌉ : Rat)

/-- Put a committed change into an output at an instant: its divider restarts at that DCO cycle unless nothing that moves its edges
has changed. -/
def applyChange (n : Nat) (t : Rat) (restart : Option Rat) (s : State) : State :=
  let c := s.clk n
  let v := clkEff s n
  let same := c.run && c.cur.src == v.src && c.cur.d == v.d && restart.isNone
  let moving := same && v.en && (c.cur.phase != v.phase || c.cur.fine != v.fine)
  let org := restart.getD (if same then c.origin else (⌈synCycle s v.src t⌉ : Rat))
  let c' : ClkOut := { c with
    cur := if moving then { v with phase := c.cur.phase, fine := c.cur.fine } else v
    run := v.en, wait := 0, origin := org, moveEnd := if moving then some (moveArrival s c.cur v t) else none }
  syncDriving (syncClk n (s.setClk n c'))

/-- OUTPUT_CHANGE_APPLY: a change that waits for the output's own edge (R169, R171). -/
def outputChangeApply (n : Nat) (s : State) : State :=
  let c := s.clk n
  if c.wait = 1 then
    let t := changeInstant s n
    if (s.frc : Rat) < t then s else applyChange n t none s
  else s

def execOutputChangeApply (out : Fin 20) (s : State) : Host.Outcome State Fault Refusal := .next (outputChangeApply out.val s)

/-- The members of an aligned restart of a group on a synthesiser. -/
def alignMembers (s : State) (g k : Nat) : List Nat :=
  (List.range 20).filter fun n => (s.clk n).wait == 2 && (s.clk n).group == g && s.ef (F.OUT_CLK_CFG_SRC n) == k

/-- DIVIDER_RESTART: every member has completed its period; they restart at the first DCO edge then (R170). -/
def dividerRestart (g k : Nat) (s : State) : State :=
  let ms := alignMembers s g k
  match ms with
  | [] => s
  | _ =>
    let done := ms.map fun n => if (s.clk n).run then risingAfter s (s.clk n) (s.clk n).since else (s.clk n).since
    let t := done.foldl max 0
    if (s.frc : Rat) < t then s
    else
      let cyc : Rat := ⌈synCycle s k t⌉
      each ms (fun n => applyChange n t (some cyc)) s

/-- DIVIDER_RESTART of commit group CG(6 + group) on S0 to S5. -/
def execDividerRestart (group : Fin 8) (k : Fin 6) (s : State) : Host.Outcome State Fault Refusal :=
  .next (dividerRestart (6 + group.val) k.val s)

/-- DELAY_REACHED (R174). -/
def delayReached (n : Nat) (s : State) : State :=
  let c := s.clk n
  match c.moveEnd with
  | some t =>
    if (s.frc : Rat) < t then s
    else
      let v := clkEff s n
      syncClk n (s.setClk n { c with moveEnd := none, cur := { c.cur with phase := v.phase, fine := v.fine } })
  | none => s

def execDelayReached (out : Fin 20) (s : State) : Host.Outcome State Fault Refusal := .next (delayReached out.val s)

/-! ### Commits of the clock tree (R164, R172) -/

def multFields (k : Nat) : List FieldRef := [F.SYN_S_MULT_INT k, F.SYN_S_MULT_FRAC_LO k, F.SYN_S_MULT_FRAC_HI k]

def clkFields (n : Nat) : List FieldRef :=
  [F.OUT_CLK_CFG_SRC n, F.OUT_CLK_CFG_EN n, F.OUT_CLK_CFG_STOP_STATE n, F.OUT_CLK_CFG_FORMAT n, F.OUT_CLK_CFG_SHARED n,
   F.OUT_CLK_DIV_LO n, F.OUT_CLK_DIV_HI n, F.OUT_CLK_DELAY_PHASE n, F.OUT_CLK_DELAY_FINE n]

/-- Commit or drop the shadows of some fields that a group holds. -/
def commitFields (g : Nat) (fs : List FieldRef) (s : State) : State :=
  each (fs.filter fun f => tget s.out.shadows (f.key 0) == some g) (fun f => commitKey (f.key 0)) s

def dropFields (g : Nat) (fs : List FieldRef) (s : State) : State :=
  each (fs.filter fun f => tget s.out.shadows (f.key 0) == some g) (fun f => dropKey (f.key 0)) s

/-- Is M in 2^-40 within f_OSC × M of 9.6 GHz to 12.8 GHz? -/
def multOk (m : Nat) : Bool := decide (9600000000 * 2 ^ 40 ≤ 156250000 * m) && decide (156250000 * m ≤ 12800000000 * 2 ^ 40)

/-- The commit of one synthesiser's fields: whether it was partial, and the state. -/
def commitSyn (g tick k : Nat) (s : State) : Bool × State :=
  let mt := touches s g (multFields k)
  let m := willBe s g (F.SYN_S_MULT_INT k) * 2 ^ 40 + willBe s g (F.SYN_S_MULT_FRAC_LO k) + willBe s g (F.SYN_S_MULT_FRAC_HI k) * 2 ^ 32
  let old := synM s k
  let enOld := s.ef (F.SYN_S_CFG_ENABLE k)
  let bad := mt && !multOk m
  let t :=
    if bad then post Ev.SYN_MULT_REJECT k ((dropFields g (multFields k) s).wr 0 (F.SYN_S_STATUS_MULT_REJECT k) 1)
    else if mt then (commitFields g (multFields k) s).wr 0 (F.SYN_S_STATUS_MULT_REJECT k) 0
    else s
  let t := commitFields g [F.SYN_S_CFG_ENABLE k] t
  let en := t.ef (F.SYN_S_CFG_ENABLE k)
  let t :=
    if en = 0 then (if enOld = 1 then setSynState k syOFF (stopFed k t) else t)
    else if enOld = 0 ∨ synM t k ≠ old then startRetune k tick t else t
  (bad, t)

/-- The commit of one clock output's fields (R169, R172, R173). -/
def commitClk (g tick : Nat) (align : Bool) (n : Nat) (s : State) : Bool × State :=
  if !touches s g (clkFields n) then (false, s)
  else
    let src := willBe s g (F.OUT_CLK_CFG_SRC n)
    let d := willBe s g (F.OUT_CLK_DIV_LO n) + 2 ^ 32 * willBe s g (F.OUT_CLK_DIV_HI n)
    if 1500000000 * 2 ^ 40 * d < 156250000 * synM s src then
      (true, post Ev.OUT_DIV_REJECT n ((dropFields g (clkFields n) s).wr 0 (F.OUT_CLK_STATUS_DIV_REJECT n) 1))
    else
      let t := (commitFields g (clkFields n) s).wr 0 (F.OUT_CLK_STATUS_DIV_REJECT n) 0
      let c := t.clk n
      let v := clkEff t n
      let since : Rat := (tick : Rat) + retime
      let stopped := !v.en && !c.run
      if v = c.cur ∧ c.wait = 0 then (false, t)
      else if stopped then (false, syncDriving (syncClk n (t.setClk n { c with cur := v, wait := 0 })))
      else if v.en ∧ synState t src ≠ syLOCKED then (false, syncClk n (t.setClk n { c with wait := 3, since := since }))
      else (false, syncClk n (t.setClk n { c with wait := if align && v.en then 2 else 1, group := g, since := since }))

end Sys2Proof.Machine
end

