-- ==== Sys2Proof/Machine/Outputs.lean ====
section
/-! DEFINITION. Pulse outputs, time-of-day frames, and the commit groups CG6 to CG13 (chapter "Synthesis, Clock Outputs and Pulse Outputs",
R167, R168, R176 to R190). -/

namespace Sys2Proof.Machine

/-! ### Placement (R53, R176, R177) -/

/-- The clock's time at a tick, less the steps since the last realignment (R179). -/
def poTime (s : State) (p : PulseOut) (tick : Nat) : Int :=
  vcTime s p.cur.vc (32 * tick) -
    (match p.offPrev with
      | some (c, o) => if tick < c then o else p.offs
      | none => p.offs)

/-- T - CABLE of a target under some values. -/
def poThreshold (v : PoVals) (target : Int) : Int := target - (v.cable : Int) * 2 ^ 48 / 1000

/-- Is a tick the first at which the followed time reaches a target (R177, step 1)? -/
def poAt (s : State) (p : PulseOut) (v : PoVals) (target : Int) (tick : Nat) : Bool :=
  decide (poThreshold v target ≤ poTime s p tick) && (tick == 0 || decide (poTime s p (tick - 1) < poThreshold v target))

/-- The leading edge in units of 5 ps: interpolated in the tick's interval, rounded, plus FINE (R177, steps 2 and 3). -/
def poEdge (s : State) (p : PulseOut) (v : PoVals) (target : Int) (tick : Nat) : Nat :=
  let a := poTime s p (tick - 1)
  let b := poTime s p tick
  let x : Rat := if a = b then 128 else ((poThreshold v target - a : Int) : Rat) / ((b - a : Int) : Rat) * 128
  ((128 * (tick : Int) - 128 + roundR x).toNat) + v.fine

/-- The least target of the series that is at least `x`. -/
def poTarget (v : PoVals) (x : Int) : Int :=
  let p : Int := v.p * 2 ^ 48
  let e : Int := if v.kind = 2 then v.epoch * secU else 0
  e + -((e - x) / p) * p

/-- The values of a pulse output's fields in effect. -/
def poEff (s : State) (n : Nat) : PoVals :=
  { kind := s.ef (F.OUT_PO_CFG_TYPE n), pol := s.ef (F.OUT_PO_CFG_POL n), shared := s.ef (F.OUT_PO_CFG_SHARED n) == 1
    squelch := s.ef (F.OUT_PO_CFG_SQUELCH n), en := s.ef (F.OUT_PO_CFG_EN n) == 1, vc := s.ef (F.OUT_PO_CFG_VC n)
    fine := s.ef (F.OUT_PO_CFG_FINE n), period := s.ef (F.OUT_PO_PERIOD n), width := s.ef (F.OUT_PO_WIDTH n)
    epoch := s.ef (F.OUT_PO_EPOCH_LO n) + 2 ^ 32 * s.ef (F.OUT_PO_EPOCH_HI n), cable := s.ef (F.OUT_PO_CABLE n) }

def poFields (n : Nat) : List FieldRef :=
  [F.OUT_PO_CFG_TYPE n, F.OUT_PO_CFG_POL n, F.OUT_PO_CFG_SHARED n, F.OUT_PO_CFG_SQUELCH n, F.OUT_PO_CFG_EN n, F.OUT_PO_CFG_REALIGN n,
   F.OUT_PO_CFG_VC n, F.OUT_PO_CFG_FINE n, F.OUT_PO_PERIOD n, F.OUT_PO_WIDTH n, F.OUT_PO_EPOCH_LO n, F.OUT_PO_EPOCH_HI n, F.OUT_PO_CABLE n]

/-- Hold a value to a range. -/
def clampN (lo hi v : Nat) : Nat := max lo (min hi v)

/-- PERIOD and WIDTH are held to their ranges at the commit (R176). -/
def poStoreLimits (n : Nat) (s : State) : State :=
  let v := poEff s n
  let per := clampN 1000 4000000000 v.period
  let p := ({ v with period := per } : PoVals).p
  (s.wrBoth (F.OUT_PO_PERIOD n) per).wrBoth (F.OUT_PO_WIDTH n) (clampN 8 (p - 8) v.width)

/-- Realignment at a commit (R180): the first target whose placement lies at least 64 ticks later, and at least P/2 after the last
leading edge. -/
def poRealign (n tick : Nat) (v : PoVals) (s : State) : State :=
  let p : PulseOut := { s.po n with cur := v, new := none, offs := 0, offPrev := none }
  let cab : Int := (v.cable : Int) * 2 ^ 48 / 1000
  let x1 := poTime s p (tick + 63) + cab + 1
  let half : Int := v.p * 2 ^ 47
  let x2 := match p.lastEdge with
    | some e => poTime s p (ceilDiv e 128) + cab + half
    | none => x1
  let t := s.setPo n { p with next := some (poTarget v (max x1 x2)) }
  let t := if t.sh (F.OUT_PO_STATUS_STATE n) = 0 then t.wr 0 (F.OUT_PO_STATUS_STATE n) 1 else t
  syncMisalign n t

/-- The commit of one pulse output's fields (R176, R180). -/
def commitPo (g tick n : Nat) (s : State) : State :=
  if !touches s g (poFields n) then s
  else
    let old := poEff s n
    let t := poStoreLimits n (commitFields g (poFields n) s)
    let re := t.ef (F.OUT_PO_CFG_REALIGN n) == 1
    let t := t.wrBoth (F.OUT_PO_CFG_REALIGN n) 0
    let v := poEff t n
    let p := t.po n
    let t :=
      if !v.en then
        syncMisalign n ((t.setPo n { p with cur := v, new := none, next := none, offs := 0, offPrev := none }).wr 0 (F.OUT_PO_STATUS_STATE n) 0)
      else if re || !old.en || old.kind != v.kind || old.period != v.period || old.epoch != v.epoch || old.vc != v.vc then poRealign n tick v t
      else t.setPo n { p with
        new := some (v, tick), cur := { p.cur with shared := v.shared, squelch := v.squelch } }
    syncDriving t

/-! ### Emission (R177, R181) -/

/-- Is the pulse of a tick emitted (R181)? -/
def poEmits (s : State) (n : Nat) (v : PoVals) (tick : Nat) : Bool :=
  let rat := (s.vc v.vc).state == .ratified
  if v.squelch = 0 then true
  else if v.squelch = 1 then rat
  else rat && decide (bound s v.vc tick 23 qTick ≤ s.sh (F.OUT_PO_SQ_BOUND n))

/-- START_US in ticks, rounded up. -/
def startTicks (us : Nat) : Nat := ceilDiv (us * 3125) 2

/-- The TODOUT pins of a source take their frame's time at the pulse, with the configuration then in force (R182). -/
def todSchedule (src tick : Nat) (target : Int) (leap : Bool) (s : State) : State :=
  each ((List.range 4).filter fun j => s.sh (F.OUT_TOD_CFG_EN j) == 1 && s.sh (F.OUT_TOD_CFG_SRC j) == src) (fun j t =>
    let d : TodDue := ⟨tick + startTicks (t.sh (F.OUT_TOD_CFG_START_US j)), src, t.sh (F.OUT_TOD_CFG_FORMAT j), t.sh (F.OUT_TOD_CFG_ZDA_REF j),
      t.sh (F.OUT_TOD_CFG_BAUD j), target, leap, tick⟩
    let o := tgetD t.out.tods j {}
    { t with out := { t.out with tods := tset t.out.tods j { o with due := o.due ++ [d] } } }) s

/-- The target as the clock reads it: the steps that do not misalign the series are in it. -/
def poLabel (p : PulseOut) (target : Int) : Int := target + p.offs - misalignOf p.cur p.offs * 2 ^ 32

/-- PULSE_EMIT: a pulse output's clock reaches its next target at a tick (R177, R179, R181). New values without realignment apply from
the first pulse that they place at least 64 ticks after their commit (R180). -/
def pulseEmit (n tick : Nat) (s : State) : State :=
  let p := s.po n
  match (if s.doorOpen .out then p.next else none) with
  | none => s
  | some target =>
    let useNew := match p.new with
      | some (v, c) => poAt s p v target tick && decide (128 * (c + 64) ≤ poEdge s p v target tick)
      | none => false
    let v := match p.new with
      | some (v, _) => if useNew then v else p.cur
      | none => p.cur
    if s.frc < tick || !poAt s p v target tick then s
    else
      let emit := poEmits s n v tick
      let e := poEdge s p v target tick
      let p' := { p with
        cur := v, new := if useNew then none else p.new, next := some (target + v.p * 2 ^ 48)
        lastEdge := if emit then some e else p.lastEdge, lastWidth := if emit then v.width else p.lastWidth }
      let was := s.sh (F.OUT_PO_STATUS_STATE n)
      let t := (s.setPo n p').wr 0 (F.OUT_PO_STATUS_STATE n) (if emit then 1 else 2)
      let t := if emit then
          (t.wr64 0 (F.OUT_PO_LAST_LO n) (F.OUT_PO_LAST_HI n) (ceilDiv e 128)).wr 0 (F.OUT_PO_STATUS_PULSES n) (t.sh (F.OUT_PO_STATUS_PULSES n) + 1)
        else onlyIf (was != 2) (post Ev.OUT_PO_SQUELCH n) t
      todSchedule n tick (poLabel p target) (s.vc v.vc).leapUntil.isSome t

def execPulseEmit (po : Fin 8) (tick : BitVec 64) (s : State) : Host.Outcome State Fault Refusal :=
  .next (pulseEmit po.val tick.toNat s)

/-! ### Time-of-day frames (R182 to R186) -/

/-- Bit rates of Table 6.4. -/
def baudRate : Nat → Nat
  | 0 => 9600 | 1 => 19200 | 2 => 38400 | 3 => 57600 | 4 => 115200 | 5 => 230400 | 6 => 460800 | _ => 921600

/-- What a frame's source says at composition: its clock, TYPE, P in 2^-48 ns, next target, whether it is squelched and misaligned, and
the quantisation error in ps. None: the source has no next pulse. -/
structure TodSource where
  vc : Nat
  kind : Nat
  p : Int
  next : Int
  left : Int
  squelched : Bool
  misaligned : Bool
  qErr : Int
  deriving DecidableEq, Repr

/-- A pulse output as a frame's source at a tick. -/
def poSource (s : State) (n tick : Nat) : Option TodSource :=
  let p := s.po n
  p.next.map fun x => ⟨p.cur.vc, p.cur.kind, p.cur.p * 2 ^ 48, poLabel p x, poThreshold p.cur x - poTime s p tick,
    s.sh (F.OUT_PO_STATUS_STATE n) == 2, s.sh (F.OUT_PO_STATUS_MISALIGNED n) == 1, 0⟩

/-- A PENDING LEAP segment of a clock: the time of its step, and whether it is a deletion. -/
def pendingLeap (s : State) (n : Nat) : Option (Int × Bool) :=
  ((s.vc n).slots.find? fun e => e.2.state == 1 && e.2.kind == 2).map fun e =>
    ((vcTime s n (32 * (e.2.tick - 1)) / secU + 1) * secU, e.2.a != 0)

/-- The binary frame (Table 6.5). -/
def todFrame (s : State) (src tick seq : Nat) (t : TodSource) : Octets :=
  let b := bound s t.vc tick 23 qTick
  let lp := pendingLeap s t.vc
  let ns := t.next / 2 ^ 48
  let body := oct [0x4C, 0x54, 1, 0x20, src + 16 * t.kind + 64 * b2n ((lp.map (·.2)).getD false),
      boundFlags s t.vc b + 32 * b2n t.misaligned + 64 * b2n lp.isSome + 128 * b2n t.squelched] ++
    beBytes 2 t.vc ++ beBytes 6 (uns 48 (ns / 1000000000)) ++ beBytes 4 (ns % 1000000000).toNat ++ beBytes 2 (s.sh F.OUT_TOD_UTC_OFFSET) ++
    beBytes 5 b ++ oct [refSlotOctet s] ++ beBytes 2 (uns 16 t.qErr) ++ oct [seq, 0]
  body ++ beBytes 2 (crcMsb 16 0x1021 0xFFFF body)

/-- Decimal digits as ASCII. -/
def digits (n v : Nat) : Octets := ((List.range n).map fun i => BitVec.ofNat 8 (48 + v / 10 ^ (n - 1 - i) % 10))

/-- Year, month and day of a day counted from 1970-01-01. -/
def civil (day : Int) : Int × Nat × Nat :=
  let z := day + 719468
  let era := z / 146097
  let doe := (z % 146097).toNat
  let yoe := (doe - doe / 1460 + doe / 36524 - doe / 146096) / 365
  let doy := doe - (365 * yoe + yoe / 4 - yoe / 100)
  let mp := (5 * doy + 2) / 153
  let m := if mp < 10 then mp + 3 else mp - 9
  ((yoe : Int) + era * 400 + (if m ≤ 2 then 1 else 0), m, doy - (153 * mp + 2) / 5 + 1)

/-- One uppercase hexadecimal digit. -/
def hexDigit (v : Nat) : Byte := BitVec.ofNat 8 (if v < 10 then 48 + v else 55 + v)

/-- A ZDA sentence for a second; `rep` names the repeated second of a leap insertion (R186). -/
def zda (sec : Int) (rep : Bool) : Octets :=
  let day := (if rep then sec - 1 else sec) / 86400
  let tod := ((if rep then sec - 1 else sec) % 86400).toNat
  let c := civil day
  let hms := if rep then digits 6 235960 else digits 2 (tod / 3600) ++ digits 2 (tod / 60 % 60) ++ digits 2 (tod % 60)
  let comma : Octets := oct [0x2C]
  let body := oct [0x47, 0x4E, 0x5A, 0x44, 0x41] ++ comma ++ hms ++ oct [0x2E, 0x30, 0x30] ++ comma ++ digits 2 c.2.2 ++ comma ++ digits 2 c.2.1 ++
    comma ++ digits 4 c.1.toNat ++ comma ++ digits 2 0 ++ comma ++ digits 2 0
  let cs := body.foldl (fun a b => a ^^^ b.toNat) 0
  oct [0x24] ++ body ++ oct [0x2A] ++ [hexDigit (cs / 16), hexDigit (cs % 16)] ++ oct [0x0D, 0x0A]

/-- The sentence of a due frame: the described second, which a PENDING LEAP moves for the next pulse (R186). -/
def zdaFor (s : State) (d : TodDue) (t : TodSource) : Option Octets :=
  let x := if d.zdaRef = 1 then d.target else t.next
  if x % secU ≠ 0 then none
  else if d.zdaRef = 1 then some (zda (x / secU) d.leap)
  else match pendingLeap s t.vc with
    | some (at_, del) =>
      if x = at_ then some (if del then zda (x / secU + 1) false else zda (x / secU) true) else some (zda (x / secU) false)
    | none => some (zda (x / secU) false)

/-- Count a frame that is not sent. -/
def todSkip (j : Nat) (s : State) : State :=
  post Ev.OUT_TOD_SKIP j (s.wr 0 (F.OUT_TOD_STATUS_SKIPPED j) (s.sh (F.OUT_TOD_STATUS_SKIPPED j) + 1))

/-- TOD_FRAME_SEND: the oldest frame due on a pin is composed, START_US after its pulse, or skipped (R182, R183, R186). -/
def todSend (source : State → Nat → Nat → Option TodSource) (frame : State → Nat → Nat → Nat → TodSource → Octets) (j : Nat) (s : State) : State :=
  let o := tgetD s.out.tods j {}
  match o.due with
  | [] => s
  | d :: rest =>
    if s.frc < d.at_ then s
    else
      let put := fun (x : TodOut) (t : State) => ({ t with out := { t.out with tods := tset t.out.tods j x } } : State)
      let s := put { o with due := rest } s
      match (if s.safe then none else source s d.src d.at_) with
      | none => todSkip j s
      | some t =>
        let chars := if d.format = 1 then (zdaFor s d t).map (·.length) else some 32
        match chars with
        | none => s
        | some n =>
          let stop : Rat := (n * 10 : Nat) * 1000000000 / (baudRate d.baud : Rat) + 1000000
          if ((t.left : Rat) / 2 ^ 48) < stop then todSkip j s
          else if d.format = 1 then put { o with due := rest, sent := (zdaFor s d t).getD [] } s
          else
            let seq := (s.sh (F.OUT_TOD_STATUS_SEQ j) + 1) % 256
            put { o with due := rest, sent := frame s d.src d.at_ seq t } (s.wr 0 (F.OUT_TOD_STATUS_SEQ j) seq)

/-! ### Arms and commits of CG6 to CG13 (R167, R168) -/

/-- Is the output named by BOUNDARY_OUT running (R168)? -/
def boundaryRuns (s : State) (o : Nat) : Bool := if o < 20 then (s.clk o).run else (s.po (o - 20)).next.isSome

/-- Is a tick the boundary of R168 for an arm: the cycle of the first edge of the named output at or after a tick? -/
def isBoundary (s : State) (o from_ tick : Nat) : Bool :=
  if o < 20 then (s.clk o).run && decide ((tick : Int) = ⌈risingAfter s (s.clk o) from_⌉)
  else
    let p := s.po (o - 20)
    (match p.lastEdge with
      | some e => ceilDiv e 128 == tick
      | none => false) ||
    (match p.next with
      | some t => poAt s p p.cur t tick
      | none => false)

/-- A write of SYN_CG_CTRL[g] (R28, R167, R168). -/
def writeCgCtrl (fn g v : Nat) (s : State) : State :=
  writeAtDoor .syn fn (0x100 + 0x10 * (g - 6)) (fun s =>
    if !synMay s fn then postTo Ev.SYN_AUTH_REFUSED fn g s
    else
      let bo := if 28 ≤ bits v 16 5 then 0 else bits v 16 5
      if (bitOf v 5 || bitOf v 4) && s.rsHoldsGroup g then post Ev.SYN_CG_REFUSED g (s.wr 0 (F.SYN_CG_STATUS_LAST_REFUSED g) 1)
      else if bitOf v 5 then
        let s := (s.wr 0 (F.SYN_CG_CTRL_KIND g) (bits v 0 2)).wr 0 (F.SYN_CG_CTRL_ALIGN g) (bits v 6 1)
        cgDrop g (s.wr 0 (F.SYN_CG_CTRL_BOUNDARY_OUT g) bo)
      else if bitOf v 4 then
        let arm := if bits v 0 2 = 3 ∧ boundaryRuns s bo = false then none
          else armOf s (bits v 0 2) (s.rd64 0 (F.SYN_CG_TIME_LO g) (F.SYN_CG_TIME_HI g)) (s.frc + 64)
        match arm with
        | none => post Ev.SYN_CG_REFUSED g (s.wr 0 (F.SYN_CG_STATUS_LAST_REFUSED g) 1)
        | some a =>
          let s := (s.wr 0 (F.SYN_CG_CTRL_KIND g) (bits v 0 2)).wr 0 (F.SYN_CG_CTRL_ALIGN g) (bits v 6 1)
          let s := (s.wr 0 (F.SYN_CG_CTRL_BOUNDARY_OUT g) bo).wr 0 (F.SYN_CG_STATUS_LAST_REFUSED g) 0
          ((setArm g a s).wr 0 (F.SYN_CG_CTRL_ARM g) 1).wr 0 (F.SYN_CG_CTRL_ARMED g) 1
      else
        let s := (s.wr 0 (F.SYN_CG_CTRL_KIND g) (bits v 0 2)).wr 0 (F.SYN_CG_CTRL_ALIGN g) (bits v 6 1)
        s.wr 0 (F.SYN_CG_CTRL_BOUNDARY_OUT g) bo) s

/-- SYN_CG_ARM: a value with ARM 1 written to SYN_CG_CTRL of CG(6 + group). -/
def execSynCgArm (fn : Fn) (group : Fin 8) (value : BitVec 32) (s : State) : Host.Outcome State Fault Refusal :=
  .next (writeCgCtrl fn.val (6 + group.val) (value.toNat ||| 0x10) s)

/-- SYN_CG_ABORT: a value with ABORT 1 (R28). -/
def execSynCgAbort (fn : Fn) (group : Fin 8) (value : BitVec 32) (s : State) : Host.Outcome State Fault Refusal :=
  .next (writeCgCtrl fn.val (6 + group.val) (value.toNat ||| 0x20) s)

/-- The commit of CG6 to CG13 at a tick: synthesisers, clock outputs, pulse outputs, and the commit event (R27, R29, R30). Members of the OUT
block are discarded while its door is not OPEN. -/
def synCommit (g tick : Nat) (s : State) : State :=
  let align := s.ef (F.SYN_CG_CTRL_ALIGN g) == 1 || s.sh (F.SYN_CG_CTRL_ALIGN g) == 1
  let outs := (List.range 20).map clkFields ++ (List.range 8).map poFields
  let absent := s.fenced .out && outs.any fun f => touches s g f
  let s := if !s.fenced .out then s else each outs (dropFields g) s
  let (p1, s) := (List.range 6).foldl (fun (a : Bool × State) k => let r := commitSyn g tick k a.2; (a.1 || r.1, r.2)) (absent, s)
  let (p2, s) := (List.range 20).foldl (fun (a : Bool × State) n => let r := commitClk g tick align n a.2; (a.1 || r.1, r.2)) (p1, s)
  let s := each (List.range 8) (commitPo g tick) s
  let s := (dropArm g s).wr 0 (F.SYN_CG_CTRL_ARM g) 0
  let s := (s.wr 0 (F.SYN_CG_CTRL_ARMED g) 0).wr 0 (F.SYN_CG_STATUS_LAST_PARTIAL g) (b2n p2)
  let s := s.wr 0 (F.SYN_CG_STATUS_COMMITS g) (s.sh (F.SYN_CG_STATUS_COMMITS g) + 1)
  onlyIf p2 (postAt Ev.SYN_CG_PARTIAL tick g (oct [g, 1])) (postAt Ev.SYN_CG_COMMIT tick g (oct [g, b2n p2]) s)

end Sys2Proof.Machine
end

