-- ==== Sys2Proof/Machine/Tdc.lean ====
section
/-! DEFINITION. Time-interval measurement: interpolators, channels, gates and the calibration engine (chapter "Time-Interval Measurement",
R191 to R214). Stamps are in units of 20 ps. -/

namespace Sys2Proof.Machine

/-! ### Interpolators (R191 to R197) -/

def State.half (s : State) (p h : Nat) : Half := tgetD s.tdc.halves (2 * p + h) {}
def State.setHalf (p h : Nat) (x : Half) (s : State) : State := { s with tdc := { s.tdc with halves := tset s.tdc.halves (2 * p + h) x } }
/-- The stamp of a raw code taken in the cycle of FRC f, and whether the code was clamped (R192). -/
def convert (point f x c1 c2 : Nat) : Nat × Bool :=
  let cl := max c1 (min c2 x)
  let d : Rat := 640 + ((cl : Rat) - c1) * 640 / ((c2 : Rat) - c1)
  let q := 1280 - d - Config.dIn point
  ((⌊((f : Rat) * 640 + q + 10) / 20⌋).toNat, cl != x)

/-- Is a half READY at an instant (R196)? -/
def halfReady (s : State) (p h at_ : Nat) : Bool := !(s.half p h).failed && (s.half p h).pair.isSome && decide ((s.half p h).ready ≤ at_)

/-- The half that takes an edge at an instant in ps; none where the edge is lost (R196, R197). -/
def halfFor (s : State) (p at_ : Nat) : Option Nat :=
  let sp := tgetD s.tdc.points p {}
  let dead := match sp.at_ with
    | some t => decide (at_ < t + 8000)
    | none => false
  if dead then none
  else if halfReady s p (1 - sp.half) at_ then some (1 - sp.half)
  else if halfReady s p sp.half at_ then some sp.half
  else none

/-- An edge at a stamp point: its stamp, half and CLAMP mark, and the half busy for 40 ns; none where it is lost. -/
def takeEdge (p f sub x : Nat) (s : State) : Option (Nat × Nat × Bool) × State :=
  let at_ := f * 640 + sub
  match halfFor s p at_ with
  | none => (none, s)
  | some h =>
    let hf := s.half p h
    let pr := hf.pair.getD (0, 0)
    let c := convert p f x pr.1 pr.2
    let t := s.setHalf p h { hf with ready := at_ + 40000 }
    (some (c.1, h, c.2), { t with tdc := { t.tdc with points := tset t.tdc.points p ⟨h, some at_⟩ } })

/-- The INTERP source and info field of a stamp point (Table 21.1). -/
def interpSource (p : Nat) : Nat × Nat :=
  if p < 16 then (384, p) else if p < 20 then (384, p) else if p < 52 then (128, p - 20)
  else if p < 68 then (512, p - 51) else if p < 73 then (960, p - 68) else if p < 74 then (1472, 0)
  else if p < 76 then (448, p - 74) else if p < 77 then (1088, 0) else (320, p - 77)

/-- HALF_A_FAILED and HALF_B_FAILED of a channel. -/
def syncHalves (p : Nat) (s : State) : State :=
  if p < 16 then
    (s.wr 0 (F.TDC_CH_STATUS_HALF_A_FAILED p) (b2n (s.half p 0).failed)).wr 0 (F.TDC_CH_STATUS_HALF_B_FAILED p) (b2n (s.half p 1).failed)
  else s

/-- CAL_PAIR: a half completes a calibration pair (R194, R195). -/
def calPair (p h c1 c2 : Nat) (s : State) : State :=
  let x := s.half p h
  if c1 + 768 ≤ c2 ∧ c2 ≤ c1 + 1280 then
    let acc := x.acc + 1
    let back := x.failed && decide (64 ≤ acc)
    let t := syncHalves p (s.setHalf p h { x with pair := some (c1, c2), rej := 0, acc := acc, failed := x.failed && !back })
    onlyIf back (post Ev.TDC_HALF_RESTORED p) t
  else
    let rej := x.rej + 1
    let fail := !x.failed && decide (4 ≤ rej)
    let t := syncHalves p (s.setHalf p h { x with rej := rej, acc := 0, failed := x.failed || fail })
    if fail then raise (interpSource p).1 (interpSource p).2 0 (post Ev.TDC_HALF_FAILED p t) else t

def execCalPair (point : Fin 105) (half : Fin 2) (c1 c2 : BitVec 12) (s : State) : Host.Outcome State Fault Refusal :=
  .next (calPair point.val half.val c1.toNat c2.toNat s)

/-! ### Channels (R198 to R203, R206) -/

/-- Put a record into a channel's FIFO in stamp order, or drop it (R201). -/
def fifoPut (n : Nat) (r : TdcRec) (s : State) : State :=
  let c := s.chan n
  if 64 ≤ c.fifo.length then chDropped n 1 (s.setChan n { c with lost := c.lost + 1 })
  else
    let (early, late) := c.fifo.span fun x => decide (x.stamp ≤ r.stamp)
    s.setChan n { c with fifo := early ++ { r with lost := c.lost } :: late, lost := 0 }

/-- Does a stamp fall into the window that a channel's gate gives it (R206)? -/
def inGate (s : State) (n st : Nat) : Bool :=
  if s.sh (F.TDC_CH_CFG_GATE_EN n) = 0 then true
  else
    let g := s.gate (s.sh (F.TDC_CH_CFG_GATE_SEL n))
    (match g.open_ with
      | some o => decide (o ≤ st)
      | none => false) ||
    (match g.last with
      | some (o, c) => decide (o ≤ st) && decide (st < c)
      | none => false)

/-- Does EDGE select an edge (R198)? -/
def edgeSelected (s : State) (n : Nat) (falling : Bool) : Bool :=
  match s.sh (F.TDC_CH_CFG_EDGE n) with
  | 0 => !falling
  | 1 => falling
  | _ => true

/-- TDC_EDGE: an edge of a channel's source in the cycle of a tick, `sub` ps into it, with its raw code. -/
def tdcEdge (n f sub x : Nat) (falling : Bool) (s : State) : State :=
  let c := s.chan n
  let live := chState s n != 0 && decide (c.from_ ≤ f) && (match c.until_ with
    | some u => decide (f < u)
    | none => true)
  if !live || !edgeSelected s n falling || !s.doorOpen .tdc then s
  else
    let (r, t) := takeEdge n f sub x s
    match r with
    | none =>
      (t.setChan n { t.chan n with lost := (t.chan n).lost + 1 }).wr 0 (F.TDC_CH_COUNTS_LOST n) (t.sh (F.TDC_CH_COUNTS_LOST n) + 1)
    | some (st, h, cl) =>
      let pr := (s.half n h).pair.getD (0, 0)
      let t := (t.wr 0 (F.TDC_CH_CAL_C1 n) pr.1).wr 0 (F.TDC_CH_CAL_C2 n) pr.2
      if inGate t n st then fifoPut n { stamp := st, falling := falling, half := h, clamp := cl } t else t

/-- TDC_EDGE on channels 0 to 15. -/
def execTdcEdge (ch : Fin 16) (tick : BitVec 64) (sub : Fin 640) (code : BitVec 12) (falling : Bool) (s : State) :
    Host.Outcome State Fault Refusal :=
  .next (tdcEdge ch.val tick.toNat sub.val code.toNat falling s)

/-- The 16 octets of a record (Table 7.2). -/
def tdcOctets (n : Nat) (r : TdcRec) (lost seq : Nat) : Octets :=
  let l := satU 16 lost
  leBytes 8 (r.stamp / 32) ++ oct [r.stamp % 32 + 32 * b2n r.falling + 64 * r.half + 128 * b2n r.clamp,
    (if r.kind = 0 then n else r.gate) + 16 * r.kind + 64 * b2n (l != 0)] ++ leBytes 2 l ++ leBytes 4 seq

/-- TDC_RECORD_WRITE: the chip-wide writer takes the oldest record of a channel's FIFO (R200 to R202). -/
def tdcRecordWrite (n : Nat) (s : State) : State :=
  let c := s.chan n
  match (if s.doorOpen .tdc then c.fifo else []) with
  | [] => s
  | r :: rest =>
    if ringFull s n && s.sh (F.TDC_CH_CFG_OVF_MODE n) == 0 then
      syncFull n (chDropped n 1 (s.setChan n { c with fifo := rest, carry := c.carry + r.lost + 1 }))
    else
      let w := s.sh (F.TDC_CH_WR_IDX n)
      let used := wsub 32 w (s.sh (F.TDC_CH_RD_IDX n))
      let wm := s.sh (F.TDC_CH_WM n)
      let t := s.shmWrite (s.sh (F.TDC_CH_RING_BASE n) + 16 * (w % ringSize s n)) (tdcOctets n r (c.carry + r.lost) c.seq)
      let t := (t.setChan n { c with fifo := rest, carry := 0, seq := (c.seq + 1) % 2 ^ 32 }).wr 0 (F.TDC_CH_WR_IDX n) (w + 1)
      syncFull n (onlyIf (wm != 0 && used + 1 == wm) (post Ev.TDC_RING_WM n) t)

def execTdcRecordWrite (ch : Fin 16) (s : State) : Host.Outcome State Fault Refusal := .next (tdcRecordWrite ch.val s)

/-- Does a ring lie where the owner may have it (R203): aligned to its size, in SHM that the table grants the tenant? -/
def ringOk (s : State) (n : Nat) : Bool :=
  let b := s.sh (F.TDC_CH_RING_BASE n)
  let len := 16 * ringSize s n
  b % len == 0 && tenantOwns s (s.sh (F.TDC_CH_CFG_OWNER n)) b len

/-- EN changes (R203). -/
def chEnable (n : Nat) (en : Bool) (s : State) : State :=
  let was := s.sh (F.TDC_CH_CFG_EN n) == 1
  if en == was then s
  else if en then
    if !ringOk s n then post Ev.TDC_RING_REFUSED n s
    else
      let t := s.setChan n { (s.chan n) with from_ := s.frc + 64, until_ := none, lost := 0, carry := 0, seq := 0 }
      let t := (t.wr 0 (F.TDC_CH_WR_IDX n) 0).wr 0 (F.TDC_CH_RD_IDX n) 0
      syncFull n (setChState n 1 (t.wr 0 (F.TDC_CH_CFG_EN n) 1))
  else setChState n 2 ((s.setChan n { (s.chan n) with until_ := some (s.frc + 64) }).wr 0 (F.TDC_CH_CFG_EN n) 0)

/-- May a function write a channel's registers (R214)? -/
def tdcMay (s : State) (n fn : Nat) : Bool := s.secureSt fn || tenantOf fn == s.sh (F.TDC_CH_CFG_OWNER n)

/-- The fields of TDC_CH_CFG that are writable only while STATE is OFF, as a value holds them. -/
def chLocked (v : Nat) : Nat := bits v 1 8

/-- A write of TDC_CH_CFG[n] (R203, R214). -/
def writeChCfg (fn n v : Nat) (s : State) : State :=
  writeAtDoor .tdc fn (0x100 + 0x40 * n) (fun s =>
    let own := bits v 16 9
    if !tdcMay s n fn || (!s.secureSt fn && own != s.sh (F.TDC_CH_CFG_OWNER n)) then postTo Ev.TDC_AUTH_REFUSED fn n s
    else
      let cur := s.sh (F.TDC_CH_CFG_SRC n) + 4 * s.sh (F.TDC_CH_CFG_EDGE n) + 16 * s.sh (F.TDC_CH_CFG_OVF_MODE n) +
        32 * s.sh (F.TDC_CH_CFG_GATE_EN n) + 64 * s.sh (F.TDC_CH_CFG_GATE_SEL n)
      let t :=
        if chState s n ≠ 0 then onlyIf (chLocked v != cur) (post Ev.TDC_CFG_LOCKED n) s
        else
          let t := (s.wr 0 (F.TDC_CH_CFG_SRC n) (bits v 1 2)).wr 0 (F.TDC_CH_CFG_EDGE n) (min (bits v 3 2) 2)
          ((t.wr 0 (F.TDC_CH_CFG_OVF_MODE n) (bits v 5 1)).wr 0 (F.TDC_CH_CFG_GATE_EN n) (bits v 6 1)).wr 0 (F.TDC_CH_CFG_GATE_SEL n) (bits v 7 2)
      chEnable n (bitOf v 0) (t.wr 0 (F.TDC_CH_CFG_OWNER n) own)) s

/-- TDC_CH_EN: the value written to TDC_CH_CFG[n]. -/
def execTdcChEn (fn : Fn) (ch : Fin 16) (value : BitVec 32) (s : State) : Host.Outcome State Fault Refusal :=
  .next (writeChCfg fn.val ch.val value.toNat s)

/-- TDC_DRAINED: the FIFO of a disabled channel is empty (R203). -/
def tdcDrained (n : Nat) (s : State) : State :=
  let c := s.chan n
  let past := match c.until_ with
    | some u => decide (u ≤ s.frc)
    | none => false
  if chState s n = 2 ∧ c.fifo = [] ∧ past = true then setChState n 0 s else s

def execTdcDrained (ch : Fin 16) (s : State) : Host.Outcome State Fault Refusal := .next (tdcDrained ch.val s)

/-! ### Gates (R204 to R206) -/

/-- The channels that follow a gate. -/
def followers (s : State) (g : Nat) : List Nat :=
  (List.range 16).filter fun n => s.sh (F.TDC_CH_CFG_GATE_EN n) == 1 && s.sh (F.TDC_CH_CFG_GATE_SEL n) == g && chState s n != 0

/-- A gate opens at a stamp: marker records, and the followers see it. -/
def tdcGateOpen (g st : Nat) (s : State) : State :=
  let t := (s.setGate g { s.gate g with open_ := some st }).wr 0 (F.TDC_GATE_CTRL_OPEN g) 1
  let t := each (followers t g) (fun n t => (fifoPut n { stamp := st, kind := 1, gate := g } t).wr 0 (F.TDC_CH_STATUS_GATE_OPEN n) 1) t
  post Ev.TDC_GATE_OPEN g t

/-- A gate closes at a stamp: events of the closing bin and after it are outside the window. -/
def tdcGateClose (g st : Nat) (s : State) : State :=
  let x := s.gate g
  match x.open_ with
  | none => s
  | some o =>
    let t := s.setGate g { x with open_ := none, last := some (o, st), done := x.done + 1 }
    let t := (t.wr 0 (F.TDC_GATE_CTRL_OPEN g) 0).wr 0 (F.TDC_GATE_STATUS g) (t.sh (F.TDC_GATE_STATUS g) + 1)
    let t := each (followers t g) (fun n t =>
      let c := t.chan n
      let t := t.setChan n { c with fifo := c.fifo.filter fun r => r.kind != 0 || decide (r.stamp < st) }
      (fifoPut n { stamp := st, kind := 2, gate := g } t).wr 0 (F.TDC_CH_STATUS_GATE_OPEN n) 0) t
    post Ev.TDC_GATE_CLOSE g t

def gateArmed (s : State) (g : Nat) : Bool := s.sh (F.TDC_GATE_CTRL_ARMED g) == 1
def gateMode (s : State) (g : Nat) : Nat := s.sh (F.TDC_GATE_CFG_MODE g)

/-- Self-disarm after COUNT windows (R204). -/
def gateCount (g : Nat) (s : State) : State :=
  let m := gateMode s g
  let c := s.sh (F.TDC_GATE_CFG_COUNT g)
  if m = 2 ∨ (m = 1 ∧ c ≠ 0 ∧ c ≤ (s.gate g).done) then s.wr 0 (F.TDC_GATE_CTRL_ARMED g) 0 else s

/-- A write of TDC_GATE_CTRL[g]: ARM or DISARM (R204, R205). -/
def writeTdcGate (fn g : Nat) (arm : Bool) (s : State) : State :=
  writeAtDoor .tdc fn (0x604 + 0x20 * g) (fun s =>
    if !s.secureSt fn then postTo Ev.TDC_AUTH_REFUSED fn g s
    else if !arm then (tdcGateClose g (32 * s.frc) s).wr 0 (F.TDC_GATE_CTRL_ARMED g) 0
    else if gateArmed s g then s
    else
      let o := s.rd64 0 (F.TDC_GATE_OPEN_LO g) (F.TDC_GATE_OPEN_HI g)
      let c := s.rd64 0 (F.TDC_GATE_CLOSE_LO g) (F.TDC_GATE_CLOSE_HI g)
      if gateMode s g = 2 ∧ (o < s.frc + 64 ∨ c ≤ o) then post Ev.TDC_GATE_REFUSED g s
      else (s.setGate g { open_ := none, last := none, times := (o, c), done := 0 }).wr 0 (F.TDC_GATE_CTRL_ARMED g) 1) s

def execTdcGateArm (fn : Fn) (gate : Fin 4) (s : State) : Host.Outcome State Fault Refusal := .next (writeTdcGate fn.val gate.val true s)
def execTdcGateDisarm (fn : Fn) (gate : Fin 4) (s : State) : Host.Outcome State Fault Refusal :=
  .next (writeTdcGate fn.val gate.val false s)

/-- TDC_GATE_EDGE: an edge on a gate's pin in LEVEL or EDGE mode (R204). -/
def tdcGateEdge (g f sub x : Nat) (falling : Bool) (s : State) : State :=
  if !gateArmed s g || gateMode s g == 2 || !s.doorOpen .tdc then s
  else
    let (r, t) := takeEdge (16 + g) f sub x s
    match r with
    | none => t
    | some (st, _, _) =>
      let active := falling == (s.sh (F.TDC_GATE_CFG_POL g) == 1)
      let isOpen := (s.gate g).open_.isSome
      if gateMode s g = 0 then
        (if active && !isOpen then tdcGateOpen g st t else if !active && isOpen then tdcGateClose g st t else t)
      else if !active then t
      else if isOpen then gateCount g (tdcGateClose g st t)
      else tdcGateOpen g st t

def execTdcGateEdge (gate : Fin 4) (tick : BitVec 64) (sub : Fin 640) (code : BitVec 12) (falling : Bool) (s : State) :
    Host.Outcome State Fault Refusal :=
  .next (tdcGateEdge gate.val tick.toNat sub.val code.toNat falling s)

/-- TDC_GATE_FRC_WINDOW: FRC reaches OPEN or CLOSE (R204). -/
def tdcGateWindow (g : Nat) (s : State) : State :=
  let x := s.gate g
  if !gateArmed s g || gateMode s g != 2 || !s.doorOpen .tdc then s
  else if x.open_.isSome then (if s.frc < x.times.2 then s else gateCount g (tdcGateClose g (32 * x.times.2) s))
  else if s.frc < x.times.1 then s
  else tdcGateOpen g (32 * x.times.1) s

def execTdcGateFrcWindow (gate : Fin 4) (s : State) : Host.Outcome State Fault Refusal := .next (tdcGateWindow gate.val s)

/-! ### Calibration (R207 to R211) -/

/-- A write of TDC_CAL_CMD with START (R210, R214). -/
def writeCalCmd (fn p : Nat) (s : State) : State :=
  writeAtDoor .tdc fn 0x10 (fun s =>
    if !s.secureSt fn then postTo Ev.TDC_AUTH_REFUSED fn p s
    else if p = 0 ∨ 22 < p then s
    else startCal { s with tdc := { s.tdc with reqCmd := s.tdc.reqCmd ++ [p] } }) s

/-- CAL_CMD. -/
def execCalCmd (fn : Fn) (point : Fin 32) (s : State) : Host.Outcome State Fault Refusal := .next (writeCalCmd fn.val point.val s)

/-- CAL_PERIODIC_DUE: CAL_PERIOD_S after a point's last completed calibration (R210). -/
def calPeriodicDue (p : Nat) (s : State) : State :=
  match tget s.tdc.calAt p with
  | some c =>
    if s.sh F.TDC_CTRL_CAL_EN = 1 ∧ c + s.sh F.TDC_CTRL_CAL_PERIOD_S * ticksPerSec ≤ s.frc ∧ s.tdc.linkUp.contains p = true ∧
        s.tdc.reqPer.contains p = false then
      startCal { s with tdc := { s.tdc with reqPer := s.tdc.reqPer ++ [p] } }
    else s
  | none => s

def execCalPeriodicDue (point : Fin 23) (s : State) : Host.Outcome State Fault Refusal := .next (calPeriodicDue point.val s)

/-- TAP_RES in ps (Table 7.3). -/
def tapRes (s : State) (p : Nat) : Nat :=
  if p ≤ 16 then 10 else if p ≤ 21 then 2 else if s.sh F.MGP_CFG_IFACE = 0 then 10 else 40

/-- Sample k in ps: stamps are in units of 20 ps, and δ_k is taken off (R208). -/
def calSamples (l : List (BitVec 32)) : List Rat := l.zipIdx.map fun e => (e.1.toNat : Rat) * 20 - ((e.2 % 32 : Nat) : Rat) * 5 / 8

/-- The sample variance. -/
def sampleVar (l : List Rat) : Rat :=
  let m := meanR l
  (l.map fun x => (x - m) * (x - m)).sum / ((l.length : Rat) - 1)

/-- U_X of R208: the least whole number of units that is at least (3 s / 16 + TAP_RES) × 256 / 1000, for a variance s². -/
def calUnc (var : Rat) (tap : Nat) : Nat :=
  let ok : Nat → Bool := fun u =>
    let x : Rat := ((u : Rat) * 1000 / 256 - tap) * 16 / 3
    decide (0 ≤ x) && decide (var ≤ x * x)
  let fl := Nat.sqrt (⌊var⌋).toNat
  let u0 := (⌊((3 * fl : Nat) / 16 + (tap : Rat)) * 256 / 1000⌋).toNat
  ((List.range 4).map (· + u0)).find? ok |>.getD (u0 + 4)

/-- TX_DELAY or RX_DELAY in 2^-16 ns of a mean and a package delay in ps. -/
def calDelay (mean pkg : Rat) : Nat := satU 32 (roundR ((mean + pkg) * 65536 / 1000)).toNat

/-- CALIBRATION_COMPLETE of the running calibration, with its 256 samples of each direction in units of 20 ps (R208, R209, R211). -/
def calComplete (tx rx : List (BitVec 32)) (s : State) : State :=
  match s.tdc.running with
  | none => s
  | some (p, _) =>
    if tx.length ≠ 256 ∨ rx.length ≠ 256 ∨ s.doorOpen .tdc = false then s
    else
      let a := calSamples tx
      let b := calSamples rx
      let t := calDelay (meanR a) (Config.pkgTx p)
      let r := calDelay (meanR b) (Config.pkgRx p)
      let ut := min (calUnc (sampleVar a) (tapRes s p)) 0xFFFE
      let ur := min (calUnc (sampleVar b) (tapRes s p)) 0xFFFE
      let lim := s.sh F.TDC_CTRL_CAL_JUMP_PS * 65536
      let far := fun (x y : Nat) => decide (lim < ((x : Int) - y).natAbs * 1000)
      let jump := s.sh (F.TDC_CAL_INFO_VALID p) == 1 && (far t (s.sh (F.TDC_CAL_TX p)) || far r (s.sh (F.TDC_CAL_RX p)))
      let u := { s with tdc := { s.tdc with running := none, calAt := tset s.tdc.calAt p s.frc } }
      let u := (u.wr 0 (F.TDC_CAL_TX p) t).wr 0 (F.TDC_CAL_RX p) r
      let u := (u.wr 0 (F.TDC_CAL_UNC_TX_UNC p) ut).wr 0 (F.TDC_CAL_UNC_RX_UNC p) ur
      let u := (u.wr 0 (F.TDC_CAL_INFO_COUNT p) (u.sh (F.TDC_CAL_INFO_COUNT p) + 1)).wr 0 (F.TDC_CAL_INFO_VALID p) 1
      let u := pathCalibrated p (max ut ur) s.frc (u.wr 0 (F.TDC_CAL_INFO_JUMP p) (b2n jump))
      let u := startCal (onlyIf jump (post Ev.TDC_CAL_JUMP p) (post Ev.TDC_CAL_DONE p u))
      if 17 ≤ p ∧ p ≤ 21 then syncUbw (ubwTryReady (p - 17) u) else u

def execCalibrationComplete (tx rx : List (BitVec 32)) (s : State) : Host.Outcome State Fault Refusal := .next (calComplete tx rx s)

end Sys2Proof.Machine
end

