-- ==== Sys2Proof/Machine/Gnss.lean ====
section
/-! DEFINITION. GNSS sample ports, acquisition, serial search, tracking channels and measurement latching (chapter "GNSS Signals, Acquisition and
Tracking", R217 to R241, R248 to R250). -/

namespace Sys2Proof.Machine

/-- May a function write GN registers and issue GN commands (R250)? -/
def gnMay (s : State) (fn : Nat) : Bool := s.secureSt fn

/-! ### Sample ports (R217 to R220) -/

/-- FS_HZ and IF_HZ within the limits of R218. -/
def portLimits (s : State) (p : Nat) : Bool :=
  let fs := s.sh (F.GN_PORT_FS p)
  let i := (sgn 32 (s.sh (F.GN_PORT_IF p))).natAbs
  if p = 0 then decide (16000000 ≤ fs) && decide (fs ≤ 66000000) && decide (2 * (i + 4092000) ≤ fs)
  else decide (24000000 ≤ fs) && decide (fs ≤ 82000000) && decide (2 * (i + 10230000) ≤ fs)

def setGnPortState (p st : Nat) (s : State) : State :=
  let t := s.wr 0 (F.GN_PORT_STATUS_STATE p) st
  t.wr 0 F.GN_STATUS_PORT_LOST ((if gnPortState t 0 = 2 then 1 else 0) + (if gnPortState t 1 = 2 then 2 else 0))

/-- EN of a port changes: it runs, or is OFF. -/
def setPortEn (p : Nat) (en : Bool) (s : State) : State :=
  setGnPortState p (b2n en) ((s.setGnp p {}).wr 0 (F.GN_PORT_CFG_EN p) (b2n en))

/-- A write of GN_PORT_CFG[p] (R218, R250). -/
def writeGnPortCfg (fn p v : Nat) (s : State) : State :=
  writeAtDoor .gn fn (0x40 + 0x20 * p) (fun s =>
    if !gnMay s fn then postTo Ev.GN_AUTH_REFUSED fn p s
    else
      let on := s.sh (F.GN_PORT_CFG_EN p) == 1
      let cur := s.sh (F.GN_PORT_CFG_BITS p) + 2 * s.sh (F.GN_PORT_CFG_SPEC_INV p)
      let s := if on then onlyIf (bits v 1 2 != cur) (post Ev.GN_CFG_LOCKED p) s
        else (s.wr 0 (F.GN_PORT_CFG_BITS p) (bits v 1 1)).wr 0 (F.GN_PORT_CFG_SPEC_INV p) (bits v 2 1)
      if bitOf v 0 == on then s
      else if on then setPortEn p false s
      else if portLimits s p then setPortEn p true s
      else post Ev.GN_CFG_LOCKED p s) s

/-- GN_PORT_EN: the value written to GN_PORT_CFG[p]. -/
def execGnPortEn (fn : Fn) (port : Fin 2) (value : BitVec 32) (s : State) : Host.Outcome State Fault Refusal :=
  .next (writeGnPortCfg fn.val port.val value.toNat s)

/-- Is a capture of the running acquisition job under way? -/
def capturing (s : State) : Bool :=
  match s.gn.jobs with
  | j :: _ => s.gn.spRun.isNone && j.capEnd != 0 && decide (s.frc < j.capEnd)
  | [] => false

/-- A port becomes LOST (R220, R225, R270). -/
def portLost (p : Nat) (s : State) : State :=
  if gnPortState s p ≠ 1 then s
  else
    let t := post Ev.GN_PORT_LOST p (setGnPortState p 2 (s.setGnp p { s.gnp p with run := 0 }))
    let t := each (t.gn.chans.map (·.1)) (fun c t =>
      let x := t.gnc c
      if sigPort x.sig ≠ p ∨ gnState t c = gnIDLE then t
      else
        let t := t.setGnc c { x with portLost := true }
        if gnState t c = gnPULLIN ∨ gnState t c = gnTRACKING then setGnState c gnCOASTING t else t) t
    let t := match (if capturing t then t.gn.jobs else []) with
      | j :: r => if sigPort j.sig = p then { t with gn := { t.gn with jobs := { j with fail := true } :: r } } else t
      | [] => t
    onlyIf (snapState t == snapCAPTURING && bitOf (t.sh F.GN_SNAP_CFG_SNAP_PORTS) p) (snapFail 0) t

/-- GN_PORT_LOST: no edge has arrived for 1 µs. -/
def execGnPortLost (port : Fin 2) (s : State) : Host.Outcome State Fault Refusal := .next (portLost port.val s)

/-- GN_PORT_STAMP: the 65,536th edge since the last stamp, and how many of the 131,072 I and Q levels were the largest (R219, R220). -/
def portStamp (p x32 largest : Nat) (s : State) : State :=
  if s.sh (F.GN_PORT_CFG_EN p) = 0 ∨ s.doorOpen .gn = false then s
  else if pointDead s (ptGn p) then portLost p s
  else
    let x := s.gnp p
    let t := s.wr 0 (F.GN_PORT_STATUS_MAG_FRAC p) (satU 16 (roundR ((largest : Rat) / 2)).toNat)
    match x.stamps with
    | [] => t.setGnp p { x with stamps := [(x32, 0)] }
    | (a, i) :: _ =>
      let rate : Rat := 65536 * 50000000000 / ((x32 - a : Nat) : Rat)
      let fs : Rat := s.sh (F.GN_PORT_FS p)
      let good := decide (|rate - fs| * 5000 ≤ fs)
      let run := if good then x.run + 1 else 0
      let t := (t.setGnp p { stamps := [(x32, i + 65536), (a, i)], run := run }).wr 0 (F.GN_PORT_FS_MEAS p) (roundR rate).toNat
      if gnPortState t p = 2 then (if 16 ≤ run then setGnPortState p 1 t else t)
      else if good then t else portLost p t

def execGnPortStamp (port : Fin 2) (tick : BitVec 64) (phase : Fin 32) (largest : Fin 131073) (s : State) :
    Host.Outcome State Fault Refusal :=
  .next (portStamp port.val (32 * tick.toNat + phase.val) largest.val s)

/-! ### FFT acquisition (R221 to R227) -/

/-- Code bins of Table 8.2. -/
def codeBins : Nat → Nat
  | 0 => 4096 | 1 => 4096 | 2 => 16384 | 3 => 65536 | _ => 32768

/-- Doppler bins (R222). -/
def dopBins (j : GnJob) : Nat := 2 * ceilDiv (j.span * 2 * j.nCoh * primMs j.sig) 1000 + 1

/-- T of R224 in ticks: 20 µs and half a ns for each cell period. -/
def searchTicks (j : GnJob) : Nat := ceilDiv ((40000 + codeBins j.sig * dopBins j * j.nCoh * j.nNc) * 25) 32

/-- The capture time in ticks (R224). -/
def captureTicks (j : GnJob) : Nat := ceilDiv ((j.nCoh * j.nNc * primMs j.sig * 1000 + 100) * 3125) 2

/-- The engine is free: a waiting monitor pass starts in the gap, else the oldest job (R224, R254). -/
def engineNext (s : State) : State :=
  if s.gn.spRun.isSome then syncAcq s
  else
    let gap := match s.gn.jobs with
      | j :: _ => j.capEnd == 0
      | [] => true
    if s.gn.spWait && gap then
      let cs := (s.gn.chans.map (·.1)).filter fun c => gnState s c == gnTRACKING && gnFlag s c 0
      syncAcq { s with gn := { s.gn with spWait := false, spRun := some (s.frc, cs) } }
    else match s.gn.jobs with
      | j :: r =>
        if j.capEnd = 0 then
          let e := s.frc + captureTicks j
          syncAcq { s with gn := { s.gn with jobs := { j with capEnd := e, ready := e + searchTicks j } :: r } }
        else syncAcq s
      | [] => syncAcq s

/-- PRNs of a mask in ascending order (Table 8.13). -/
def maskPrns (g lo hi : Nat) : List Nat :=
  (((List.range 32).filter (bitOf lo)).map fun i => if g = 1 ∨ g = 5 then 193 + i else i + 1) ++
    (((List.range 31).filter (bitOf hi)).map fun i => 33 + i)

def stAcq : StatRef := ⟨F.GN_ACQ_STATUS_CODE, F.GN_ACQ_STATUS_BUSY, none⟩

/-- SUBMIT (R222, R225). -/
def acqSubmit (w : Win) (s : State) : State :=
  let g := s.rd w.c F.GN_ACQ_ARG0_SIGNAL
  let ps := maskPrns g (s.rd w.c F.GN_ACQ_ARG1) (s.rd w.c F.GN_ACQ_ARG2)
  if 16 ≤ s.gn.jobs.length ∨ gnPortState s (sigPort g) ≠ 1 ∨ ps = [] ∨ ps.any (fun p => !prnOk g p) = true then refuse stAcq w 0 s
  else
    let num := (s.gn.jobNum + 1) % 2 ^ 16
    let j : GnJob :=
      { num := num, sig := g, auto := s.rd w.c F.GN_ACQ_ARG0_AUTO_ASSIGN == 1, nCoh := if g < 2 then s.rd w.c F.GN_ACQ_ARG0_N_COH else 1
        nNc := s.rd w.c F.GN_ACQ_ARG0_N_NC, span := min (s.rd w.c F.GN_ACQ_ARG0_DOP_SPAN) 20000, thresh := s.rd w.c F.GN_ACQ_ARG4, prns := ps }
    let t := engineNext { s with gn := { s.gn with jobs := s.gn.jobs ++ [j], jobNum := num } }
    completeOk stAcq w (t.wr w.c F.GN_ACQ_STATUS_JOB num)

/-- GN_ACQ_CMD (R225, R249, R250). -/
def opGnAcq (w : Win) (op : Nat) (s : State) : State :=
  command .gn stAcq Ev.GN_CMD_OVERRUN w (fun s =>
    if !gnMay s w.fn then refuse stAcq w 0 s
    else match op with
      | 1 => acqSubmit w s
      | 2 => completeOk stAcq w (engineNext { s with gn := { s.gn with jobs := [] } })
      | _ => refuse stAcq w 0 s) s

def execGnAcqSubmit (fn : Fn) (s : State) : Host.Outcome State Fault Refusal := .next (opGnAcq ⟨fn.val, fn.val + 1⟩ 1 s)
def execGnAcqAbortAll (fn : Fn) (s : State) : Host.Outcome State Fault Refusal := .next (opGnAcq ⟨fn.val, fn.val + 1⟩ 2 s)

/-! ### Numerically controlled oscillators (R231) -/

/-- Code rate in 2^-32 chip per tick. -/
def codeRate (s : State) (c : Nat) (x : GnChan) : Rat :=
  let aid : Rat := if s.sh (F.GN_CH_CFG_CARR_AID c) = 1 then (x.freq : Rat) / (carrPerChip x.sig : Rat) else 0
  ((chipRate x.sig : Rat) + ((x.dop : Rat) + aid) / 2 ^ 24) * 2 ^ 32 / 1562500000

/-- The phases run to an instant in ticks. -/
def ncoAt (s : State) (c : Nat) (x : GnChan) (at_ : Rat) : GnChan :=
  { x with at_ := at_, carr := x.carr + (x.freq : Rat) * 2 ^ 8 / 1562500000 * (at_ - x.at_), code := x.code + codeRate s c x * (at_ - x.at_) }

/-- One primary period in 2^-32 chip. -/
def primCode (g : Nat) : Nat := codeLen g * 2 ^ 32

/-- Primary epochs since start. -/
def epochOf (x : GnChan) : Int := ⌊x.code / (primCode x.sig : Rat)⌋

/-! ### Channel commands (R232, R233, R239, R249) -/

/-- START of a channel, or none where R233 refuses it: code phase in 2^-32 chip and Doppler in 2^-8 Hz at a stamp in 1/32 tick. -/
def gnStart (c g prn code : Nat) (dop : Int) (x32 : Nat) (s : State) : Option State :=
  let st := gnState s c
  if (st ≠ gnIDLE ∧ st ≠ gnLOST) ∨ gnPortState s (sigPort g) ≠ 1 ∨ prnOk g prn = false ∨ codeLen g ≤ code / 2 ^ 32 ∨
      32 * s.frc < x32 ∨ x32 + 32 * 6250000000 < 32 * s.frc then none
  else
    let freq := dop * 2 ^ 16
    let ref : Rat := (x32 : Rat) / 32
    let r := codeRate s c { sig := g, freq := freq }
    let due : Rat := (s.frc : Rat) + 64
    let n := ⌈((code : Rat) + r * (due - ref)) / (primCode g : Rat)⌉
    let at_ := ref + ((n : Rat) * (primCode g : Rat) - (code : Rat)) / r
    some (s.setGnc c { s.gnc c with start := some ⟨at_, g, prn, freq⟩ })

def stGnCh : StatRef := ⟨F.GN_CH_CMD_STATUS_CODE, F.GN_CH_CMD_STATUS_BUSY, none⟩

/-- SET_TOW (R239). -/
def setTow (c ms epoch week : Nat) (s : State) : Option State :=
  let x := s.gnc c
  let e := epochOf (ncoAt s c x s.frc)
  let d := uns 32 (e - (epoch : Int))
  if gnState s c ≠ gnTRACKING ∨ ms % primMs x.sig ≠ 0 ∨ 604800000 ≤ ms ∨ (10000 < d ∧ d < 2 ^ 32 - 10000) then none
  else
    -- the epoch as the running count numbers it
    let e0 := e - sgn 32 d
    let back := e - e0
    let total : Int := (ms : Int) + back * primMs x.sig
    let wk := uns 16 ((week : Int) + total / 604800000)
    some (setGnFlag c 5 true (s.setGnc c { x with tow := some (e.toNat, (total % 604800000).toNat, wk) }))

/-- GN_CH_CMD (R233, R239, R249, R250). -/
def opGnCh (w : Win) (op : Nat) (s : State) : State :=
  command .gn stGnCh Ev.GN_CMD_OVERRUN w (fun s =>
    let c := s.rd w.c F.GN_CH_SEL
    let a := fun f => s.rd w.c f
    if !gnMay s w.fn || decide (192 ≤ c) then refuse stGnCh w 0 s
    else
      let r := match op with
        | 1 => gnStart c (bits (a F.GN_CH_ARG0) 0 3) (bits (a F.GN_CH_ARG0) 8 8) (bits (a F.GN_CH_ARG2) 0 16 * 2 ^ 32 + a F.GN_CH_ARG1)
            (sgn 32 (a F.GN_CH_ARG3)) (32 * (a F.GN_CH_ARG4 + 2 ^ 32 * a F.GN_CH_ARG5) + bits (a F.GN_CH_ARG0) 16 5) s
        | 2 => some (gnStop c s)
        | 3 => setTow c (a F.GN_CH_ARG0) (a F.GN_CH_ARG1) (bits (a F.GN_CH_ARG2) 0 16) s
        | _ => none
      match r with
      | some t => completeOk stGnCh w t
      | none => refuse stGnCh w 0 s) s

def execGnChStart (fn : Fn) (s : State) : Host.Outcome State Fault Refusal := .next (opGnCh ⟨fn.val, fn.val + 1⟩ 1 s)
def execGnChStop (fn : Fn) (s : State) : Host.Outcome State Fault Refusal := .next (opGnCh ⟨fn.val, fn.val + 1⟩ 2 s)
def execGnChSetTow (fn : Fn) (s : State) : Host.Outcome State Fault Refusal := .next (opGnCh ⟨fn.val, fn.val + 1⟩ 3 s)

/-- T_INT in ms (Table 8.16). -/
def tIntMs (s : State) (c : Nat) : Nat :=
  match s.sh (F.GN_CH_LOOP_T_INT c) with
  | 0 => 1 | 1 => 2 | 2 => 4 | 3 => 5 | 4 => 10 | _ => 20

/-- The index that R235 set, at an epoch. -/
def symIndex (x : GnChan) (e : Nat) : Nat :=
  match x.sync with
  | some (e0, i, _) => (((i : Int) + e - e0) % (secLen x.sig : Int)).toNat
  | none => 0

/-- Primary periods of the integration that begins at an epoch (R234). -/
def intLen (s : State) (c : Nat) (x : GnChan) (e : Nat) : Nat :=
  if gnFlag s c 3 || gnFlag s c 4 then
    let per := max 1 (min (tIntMs s c) (symMs x.sig) / primMs x.sig)
    let sym := symMs x.sig / primMs x.sig
    min per (sym - symIndex x e % sym)
  else 1

/-- CH_START_EPOCH: a started channel reaches its start epoch (R233). -/
def chStartEpoch (c : Nat) (s : State) : State :=
  match (s.gnc c).start with
  | none => s
  | some st =>
    if (s.frc : Rat) < st.at_ ∨ s.doorOpen .gn = false ∨ (gnState s c ≠ gnIDLE ∧ gnState s c ≠ gnLOST) then s
    else
      let x : GnChan := { sig := st.sig, prn := st.prn, at_ := st.at_, freq := st.freq, owner := s.sh (F.GN_CH_LOOP_OWNER c)
                          portLost := gnPortState s (sigPort st.sig) != 1 }
      let t := ((s.setGnc c x).wr 0 (F.GN_CH_STATE_SIGNAL c) st.sig).wr 0 (F.GN_CH_STATE_PRN c) st.prn
      let t := (t.wr 0 (F.GN_CH_STATE_FLAGS c) 0).wr 0 (F.GN_CH_STATE_T_INT_MS c) (primMs st.sig)
      setGnState c gnPULLIN ((t.wr 0 (F.GN_CH_CN0_CN0 c) 0).wr 0 (F.GN_CH_CN0_LOCK_S c) 0)

def execChStartEpoch (ch : Fin 192) (s : State) : Host.Outcome State Fault Refusal := .next (chStartEpoch ch.val s)

/-! ### Acquisition records (R223, R226, R227) -/

/-- A quotient as u8.8, saturating. -/
def ratio88 (a b : Nat) : Nat := if b = 0 then (if a = 0 then 0 else 0xFFFF) else satU 16 (a * 256 / b)

/-- The lowest channel that AUTO_ASSIGN may start. -/
def autoChannel (s : State) : Option Nat :=
  (List.range 192).find? fun c => gnState s c == gnIDLE && (s.gnc c).start.isNone && s.sh (F.GN_CH_CFG_AUTO_POOL c) == 1

/-- Does a TRACKING channel track a PRN on a signal? -/
def tracked (s : State) (g prn : Nat) : Bool :=
  s.gn.chans.any fun e => gnState s e.1 == gnTRACKING && e.2.sig == g && e.2.prn == prn

/-- ACQ_PRN_DONE: the search of the running job's next PRN ends with its metrics, refined code phase and Doppler. -/
def acqPrnDone (x32 p1 p2 noise code dop : Nat) (s : State) : State :=
  let wr := s.sh F.GN_ACQ_WR_IDX
  match s.gn.jobs with
  | j :: r =>
    match j.prns with
    | prn :: rest =>
      if s.doorOpen .gn = false ∨ s.gn.spRun.isSome ∨ j.capEnd = 0 ∨ (s.frc < j.ready ∧ j.fail = false) ∨
          256 ≤ wsub 32 wr (s.sh F.GN_ACQ_RD_IDX) then s
      else
        let det := !j.fail && decide (j.thresh * noise ≤ p1 * 256)
        let want := det && j.auto && !tracked s j.sig prn
        let young := decide (32 * s.frc ≤ x32 + 32 * 6250000000)
        let ch := if want && young then autoChannel s else none
        let started := ch.bind fun c => (gnStart c j.sig prn code (sgn 32 dop) x32 s).map fun t => (c, t)
        let noCh := want && ch.isNone
        let t := match started with
          | some (_, t) => t
          | none => s
        let flags := j.sig + 8 * b2n det + 16 * b2n started.isSome + 32 * b2n noCh + 64 * b2n j.fail
        let rec_ := leBytes 8 (x32 / 32) ++ oct [x32 % 32, flags, prn, (started.map (·.1)).getD 0xFF] ++ leBytes 2 j.num ++ leBytes 2 s.gn.acqSeq ++
          leBytes 6 code ++ leBytes 2 (ratio88 p1 noise) ++ leBytes 4 dop ++ leBytes 2 (ratio88 p2 noise) ++ zeros 2
        let t := (t.shmWrite (s.sh F.GN_ACQ_RING_BASE + 32 * (wr % 256)) rec_).wr 0 F.GN_ACQ_WR_IDX (wr + 1)
        let j' : GnJob := { j with prns := rest, ready := s.frc + searchTicks j }
        let t : State := { t with gn := { t.gn with acqSeq := (t.gn.acqSeq + 1) % 2 ^ 16, jobs := j' :: r } }
        onlyIf det (post Ev.GN_ACQ_DETECT j.num) t
    | [] => s
  | [] => s

def execAcqPrnDone (tick : BitVec 64) (phase : Fin 32) (p1 p2 noise : BitVec 64) (code : BitVec 48) (doppler : BitVec 32) (s : State) :
    Host.Outcome State Fault Refusal :=
  .next (acqPrnDone (32 * tick.toNat + phase.val) p1.toNat p2.toNat noise.toNat code.toNat doppler.toNat s)

/-- ACQ_JOB_DONE: the running job has searched its last PRN. -/
def acqJobDone (s : State) : State :=
  match s.gn.jobs with
  | j :: r =>
    if j.prns = [] ∧ s.doorOpen .gn = true then engineNext (post Ev.GN_ACQ_DONE j.num { s with gn := { s.gn with jobs := r } }) else s
  | [] => s

def execAcqJobDone (s : State) : Host.Outcome State Fault Refusal := .next (acqJobDone s)

/-! ### Serial search (R228, R229) -/

/-- The search ends with a best cell. -/
def ssFinish (code dop ratio : Nat) (s : State) : State :=
  let t := (s.wr 0 F.GN_SS_RESULT0_CODE code).wr 0 F.GN_SS_RESULT0_DOPPLER dop
  let t := ((t.wr 0 F.GN_SS_RESULT1_RATIO ratio).wr 0 F.GN_SS_RESULT1_DONE 1).wr 0 F.GN_SS_RESULT1_BUSY 0
  post Ev.GN_SS_DONE 0 (t.wr 0 F.GN_SS_RESULT1_DETECTED (b2n (decide (s.sh F.GN_SS_CFG_THRESH ≤ ratio))))

/-- START of the serial search. -/
def ssStart (s : State) : State :=
  let cnt := s.sh F.GN_SS_CODE_CODE_COUNT
  let fr := s.sh F.GN_SS_DOP_DOP_COUNT
  if s.sh F.GN_SS_RESULT1_BUSY = 1 ∨ cnt = 0 ∨ fr = 0 then s.wr 0 F.GN_SS_RESULT1_REFUSED 1
  else
    let us := ceilDiv cnt 1024 * fr * s.sh F.GN_SS_CFG_N_NC * 1000 + 50
    let t := ((s.wr 0 F.GN_SS_RESULT1_REFUSED 0).wr 0 F.GN_SS_RESULT1_BUSY 1).wr 0 F.GN_SS_RESULT1_DONE 0
    { t with gn := { t.gn with ssEnd := t.frc + ceilDiv (us * 3125) 2 } }

/-- A write of GN_SS_CMD; the best cell so far is what an ABORT reports. -/
def writeSsCmd (fn : Nat) (start abort : Bool) (code dop ratio : Nat) (s : State) : State :=
  writeAtDoor .gn fn 0xAC (fun s =>
    if !gnMay s fn then postTo Ev.GN_AUTH_REFUSED fn 0 s
    else
      let t := onlyIf (abort && s.sh F.GN_SS_RESULT1_BUSY == 1) (ssFinish code dop ratio) s
      onlyIf start ssStart t) s

def execSsStart (fn : Fn) (s : State) : Host.Outcome State Fault Refusal := .next (writeSsCmd fn.val true false 0 0 0 s)
def execSsAbort (fn : Fn) (code : BitVec 12) (doppler ratio : BitVec 16) (s : State) : Host.Outcome State Fault Refusal :=
  .next (writeSsCmd fn.val false true code.toNat doppler.toNat ratio.toNat s)

/-- SS_DONE: the search has covered its grid, or a dwell has a detection and STOP_ON_DETECT is 1. -/
def ssDone (code dop ratio : Nat) (s : State) : State :=
  let early := s.sh F.GN_SS_CFG_STOP_ON_DETECT == 1 && decide (s.sh F.GN_SS_CFG_THRESH ≤ ratio)
  if s.sh F.GN_SS_RESULT1_BUSY = 1 ∧ (s.gn.ssEnd ≤ s.frc ∨ early = true) ∧ s.doorOpen .gn = true then ssFinish code dop ratio s else s

def execSsDone (code : BitVec 12) (doppler ratio : BitVec 16) (s : State) : Host.Outcome State Fault Refusal :=
  .next (ssDone code.toNat doppler.toNat ratio.toNat s)

/-! ### Loop updates (R235, R236) -/

/-- May a function write the UPD registers of a channel (R250)? -/
def updMay (s : State) (fn c : Nat) : Bool :=
  let own := if gnState s c = gnIDLE then s.sh (F.GN_CH_LOOP_OWNER c) else (s.gnc c).owner
  gnMay s fn || (own == 1 && tenantOf fn == s.sh (F.GN_CH_LOOP_HOST_TENANT c))

/-- The UPD registers of a channel as an update. -/
def updOf (s : State) (c epoch : Nat) : GnUpd :=
  let f := fun r => s.sh r == 1
  { carr := sgn 48 (s.sh (F.GN_CH_UPD_CARR_LO c) + 2 ^ 32 * s.sh (F.GN_CH_UPD_CARR_HI c))
    code := sgn 48 (s.sh (F.GN_CH_UPD_CODE_LO c) + 2 ^ 32 * s.sh (F.GN_CH_UPD_CODE_HI c))
    cstep := sgn 32 (s.sh (F.GN_CH_UPD_CSTEP c)), kstep := sgn 32 (s.sh (F.GN_CH_UPD_KSTEP c))
    sync := s.sh (F.GN_CH_UPD_SYNC_INDEX c), kind := s.sh (F.GN_CH_UPD_SYNC_KIND c)
    dll := s.sh (F.GN_CH_UPD_DISC_DLL c), pll := s.sh (F.GN_CH_UPD_DISC_PLL c), epoch := epoch
    codeLock := f (F.GN_CH_UPD_CTRL_CODE_LOCK c), freqLock := f (F.GN_CH_UPD_CTRL_FREQ_LOCK c), carrLock := f (F.GN_CH_UPD_CTRL_CARR_LOCK c)
    half := f (F.GN_CH_UPD_CTRL_HALF_CYCLE c), slip := f (F.GN_CH_UPD_CTRL_SLIP c), applyCarr := f (F.GN_CH_UPD_CTRL_APPLY_CARR c)
    applyCode := f (F.GN_CH_UPD_CTRL_APPLY_CODE c), syncValid := f (F.GN_CH_UPD_CTRL_SYNC_VALID c), at_ := s.frc }

/-- UPD_CTRL stored, and with WRITE the update submitted. -/
def submitUpd (c v : Nat) (s : State) : State :=
  let t := (s.wr 0 (F.GN_CH_UPD_CTRL_SEQ c) v).wr 0 (F.GN_CH_UPD_CTRL_CODE_LOCK c) (v / 2 ^ 16)
  let t := (t.wr 0 (F.GN_CH_UPD_CTRL_FREQ_LOCK c) (v / 2 ^ 17)).wr 0 (F.GN_CH_UPD_CTRL_CARR_LOCK c) (v / 2 ^ 18)
  let t := (t.wr 0 (F.GN_CH_UPD_CTRL_HALF_CYCLE c) (v / 2 ^ 19)).wr 0 (F.GN_CH_UPD_CTRL_SLIP c) (v / 2 ^ 20)
  let t := (t.wr 0 (F.GN_CH_UPD_CTRL_APPLY_CARR c) (v / 2 ^ 21)).wr 0 (F.GN_CH_UPD_CTRL_APPLY_CODE c) (v / 2 ^ 22)
  let t := t.wr 0 (F.GN_CH_UPD_CTRL_SYNC_VALID c) (v / 2 ^ 23)
  if !bitOf v 31 then t
  else match (t.gnc c).ended.find? fun e => e.1 % 2 ^ 16 == v % 2 ^ 16 with
    | some e => t.setGnc c { t.gnc c with upd := some (updOf t c e.2) }
    | none => post Ev.GN_UPD_STALE c (t.wr 0 F.GN_COUNTS_UPD_STALE (t.sh F.GN_COUNTS_UPD_STALE + 1))

/-- A write of GN_CH_UPD_CTRL[c]. -/
def writeUpdCtrl (fn c v : Nat) (s : State) : State :=
  writeAtDoor .gn fn (0x1030 + 0x40 * c) (fun s =>
    if !updMay s fn c then postTo Ev.GN_AUTH_REFUSED fn c s else submitUpd c v s) s

/-- LOOP_UPDATE: the value written to GN_CH_UPD_CTRL[c]. -/
def execLoopUpdate (fn : Fn) (ch : Fin 192) (value : BitVec 32) (s : State) : Host.Outcome State Fault Refusal :=
  .next (writeUpdCtrl fn.val ch.val value.toNat s)

/-- The largest n with 10^(n/1000) ≤ a / b, found bit by bit; 0 where a ≤ b. -/
def centiDb (a b : Nat) : Nat :=
  if a ≤ b ∨ b = 0 then 0
  else [13, 12, 11, 10, 9, 8, 7, 6, 5, 4, 3, 2, 1, 0].foldl
    (fun n k => if 10 ^ (n + 2 ^ k) * b ^ 1000 ≤ a ^ 1000 then n + 2 ^ k else n) 0

/-- C/N0 in 0.01 dB-Hz of a power, a noise power and a time in ms (R238, R255). -/
def cn0 (p n ms : Nat) : Nat := if p ≤ n then 0 else centiDb ((p - n) * 1000) (n * ms)

/-- Apply an update at a boundary (R235, Table 8.4). -/
def applyUpd (c : Nat) (u : GnUpd) (s : State) : State :=
  let x := s.gnc c
  let carrOn := u.carrLock && !u.slip
  let was := gnFlag s c 2
  let x' : GnChan := { x with
    freq := if u.applyCarr then u.carr else x.freq, carr := if u.applyCarr then x.carr + u.cstep else x.carr
    dop := if u.applyCode then u.code else x.dop, code := if u.applyCode then x.code + u.kstep else x.code
    sync := if u.syncValid then some (u.epoch, u.sync, u.kind) else x.sync
    slip := x.slip || u.slip, lockAt := if u.slip || (carrOn && !was) then some x.at_ else x.lockAt
    dll := u.dll, pll := u.pll, misses := 0, upd := none }
  let t := setGnFlag c 6 u.half (setGnFlag c 2 carrOn (setGnFlag c 1 u.freqLock (setGnFlag c 0 u.codeLock (s.setGnc c x'))))
  let t := onlyIf u.syncValid (setGnFlag c (if u.kind = 0 then 3 else 4) true) t
  let t := onlyIf u.slip (fun t => t.wr 0 (F.GN_CH_COUNTS_SLIPS c) (t.sh (F.GN_CH_COUNTS_SLIPS c) + 1)) t
  let locked := u.codeLock && (u.freqLock || carrOn)
  let st := gnState t c
  if st = gnPULLIN ∨ st = gnTRACKING then setGnState c (if locked then gnTRACKING else gnPULLIN) t
  else if st = gnCOASTING then
    if ((x.coastAt + ticksOfMs (t.sh F.GN_CTRL_COAST_MS) : Nat) : Rat) ≤ x.at_ then setGnState c gnLOST t
    else if gnPortState t (sigPort x.sig) = 1 then setGnState c (if locked then gnTRACKING else gnPULLIN) t
    else t
  else t

/-- A miss (R236). -/
def missUpd (c : Nat) (s : State) : State :=
  let x := s.gnc c
  let t := (s.setGnc c { x with misses := x.misses + 1 }).wr 0 (F.GN_CH_COUNTS_MISSED c) (s.sh (F.GN_CH_COUNTS_MISSED c) + 1)
  let st := gnState t c
  if (st = gnPULLIN ∨ st = gnTRACKING) ∧ t.sh (F.GN_CH_LOOP_MISS_MAX c) ≤ x.misses + 1 then setGnState c gnCOASTING t else t

/-- The DUMP event: to the functions of HOST_TENANT, at most once per ms (Table 8.11). -/
def dumpEvent (c : Nat) (s : State) : State :=
  let n := s.sh (F.GN_CH_LOOP_HOST_TENANT c)
  let due := match tget s.gn.dumpAt n with
    | some a => decide (a + ticksOfMs 1 ≤ s.frc)
    | none => true
  if due then
    postReach Ev.GN_DUMP (fun fn => tenantOf fn == n) s.frc c [] { s with gn := { s.gn with dumpAt := tset s.gn.dumpAt n s.frc } }
  else s

/-- |I + jQ|² of tap i of a list I, Q, I, Q …. -/
def tapPower (l : List (BitVec 32)) (i : Nat) : Nat :=
  let v : Nat → Int := fun k => ((l[k]?).getD 0).toInt
  (v (2 * i) * v (2 * i) + v (2 * i + 1) * v (2 * i + 1)).toNat

/-- INTEGRATION_BOUNDARY: the integration in progress ends with its tap sums VE, E, P, L, VL, DP, N (R234 to R238). -/
def intBoundary (c : Nat) (taps : List (BitVec 32)) (s : State) : State :=
  let x := s.gnc c
  let end_ : Rat := x.at_ + ((x.next * primCode x.sig : Nat) - x.code) / codeRate s c x
  if gnState s c = gnIDLE ∨ taps.length ≠ 14 ∨ (s.frc : Rat) < end_ ∨ s.doorOpen .gn = false then s
  else
    let y := ncoAt s c x end_
    let ms := (x.next - x.first) * primMs x.sig
    let flags := b2n (gnFlag s c 4 && decide (2 ≤ x.sig)) + 2 * b2n x.portLost + 4 * b2n (gnState s c == gnCOASTING) +
      8 * b2n (gnFlag s c 3 || gnFlag s c 4)
    let dump := leBytes 4 x.k ++ oct [c, flags, ms, 0] ++ (taps.map fun v => leBytes 4 v.toNat).flatten
    let t := s.shmWrite (s.sh F.GN_DUMP_BASE + 1024 * c + 64 * (x.k % 16)) dump
    let pw := (x.pw ++ [(end_, tapPower taps 2, tapPower taps 6)]).filter fun e => decide (end_ - 1562500000 < e.1)
    let t := t.setGnc c { y with
      k := (x.k + 1) % 2 ^ 32, ended := (x.k, x.first) :: x.ended.take 1, pw := pw
      first := x.next, portLost := gnPortState s (sigPort x.sig) != 1 }
    let t := t.wr 0 (F.GN_CH_CN0_CN0 c) (cn0 (pw.map (·.2.1)).sum (pw.map (·.2.2)).sum ms)
    let t := dumpEvent c t
    let t := match (t.gnc c).upd with
      | some u => if ((u.at_ + 64 : Nat) : Rat) ≤ end_ then applyUpd c u t else missUpd c t
      | none => missUpd c t
    let z := t.gnc c
    let n := intLen t c z z.first
    let lockS := match z.lockAt with
      | some a => satU 16 (⌊(end_ - a) / 1562500000⌋).toNat
      | none => 0
    ((t.setGnc c { z with next := z.first + n, owner := t.sh (F.GN_CH_LOOP_OWNER c) }).wr 0 (F.GN_CH_STATE_T_INT_MS c) (n * primMs z.sig)).wr 0
      (F.GN_CH_CN0_LOCK_S c) lockS

def execIntegrationBoundary (ch : Fin 192) (taps : List (BitVec 32)) (s : State) : Host.Outcome State Fault Refusal :=
  .next (intBoundary ch.val taps s)

/-- COAST_EXPIRY: COAST_MS have passed in COASTING. -/
def coastExpiry (c : Nat) (s : State) : State :=
  if gnState s c = gnCOASTING ∧ (s.gnc c).coastAt + ticksOfMs (s.sh F.GN_CTRL_COAST_MS) ≤ s.frc then setGnState c gnLOST s else s

def execCoastExpiry (ch : Fin 192) (s : State) : Host.Outcome State Fault Refusal := .next (coastExpiry ch.val s)

/-! ### Measurement latching (R240, R241) -/

/-- MEAS_PERIOD in ticks. -/
def measPeriod (s : State) : Nat :=
  15625000 * (match s.sh F.GN_CTRL_MEAS_PERIOD with
    | 0 => 1 | 1 => 2 | 2 => 5 | 3 => 10 | 4 => 20 | 5 => 50 | _ => 100)

/-- The sample index of a port at a tick, by the line through its last two stamps, in 2^-32; free where the port has none. -/
def sampleIndex (p tick : Nat) (s : State) : Nat × State :=
  match (s.gnp p).stamps with
  | (b, j) :: (a, i) :: _ =>
    ((⌊(((32 * tick : Nat) : Rat) - a) * ((j - i : Nat) : Rat) / ((b - a : Nat) : Rat) * 2 ^ 32⌋ + (i : Int) * 2 ^ 32).toNat % 2 ^ 96, s)
  | _ => s.free 96

/-- Transmit time and week of an epoch's start. -/
def towAt (x : GnChan) (e : Int) : Nat × Nat :=
  match x.tow with
  | some (e0, ms, wk) =>
    let total : Int := (ms : Int) + (e - e0) * primMs x.sig
    ((total % 604800000).toNat, uns 16 ((wk : Int) + total / 604800000))
  | none => (0, 0)

/-- A channel record at a latch instant (Table 8.6). -/
def chanRecord (s : State) (c latch epoch : Nat) : Octets :=
  let x := ncoAt s c (s.gnc c) latch
  let e := epochOf x
  let tw := towAt x e
  let flags := s.sh (F.GN_CH_STATE_FLAGS c) + 128 * b2n x.slip + 256 * b2n (gnState s c == gnCOASTING) + 512 * b2n x.sp +
    1024 * b2n (gnPortState s (sigPort x.sig) == 2)
  let lockMs := match x.lockAt with
    | some a => satU 32 (⌊((latch : Rat) - a) / 1562500⌋).toNat
    | none => 0
  leBytes 8 latch ++ leBytes 4 epoch ++ oct [1, c, x.sig, x.prn] ++ leBytes 6 (⌊x.code⌋ - e * primCode x.sig).toNat ++
  leBytes 2 (symIndex x e.toNat) ++ leBytes 4 (uns 32 e) ++ leBytes 4 tw.1 ++ leBytes 8 (uns 64 ⌊x.carr⌋) ++ leBytes 4 (uns 32 (x.freq / 2 ^ 16)) ++
  leBytes 2 (s.sh (F.GN_CH_CN0_CN0 c)) ++ leBytes 2 flags ++ leBytes 4 lockMs ++ leBytes 2 (s.sh (F.GN_CH_COUNTS_SLIPS c)) ++ leBytes 2 tw.2 ++
  leBytes 2 x.dll ++ leBytes 2 x.pll ++ zeros 4

/-- The channels that have a record at a latch instant (R240). -/
def recording (s : State) (latch : Nat) : List Nat :=
  (s.gn.chans.filter fun e => gnState s e.1 != gnIDLE && gnState s e.1 != gnLOST && (e.2.k != 0 || decide (e.2.at_ ≤ (latch : Rat)))).map (·.1)

/-- MEAS_LATCH at a latch instant: the whole epoch is written, or none of it. -/
def measLatch (latch : Nat) (s : State) : State :=
  let fresh := match s.gn.lastLatch with
    | some l => decide (l < latch)
    | none => true
  if s.doorOpen .gn = false ∨ s.sh F.GN_CTRL_EN = 0 ∨ latch % measPeriod s ≠ 0 ∨ s.frc < latch ∨ fresh = false then s
  else
    let ep := s.gn.epoch
    let cs := recording s latch
    let wr := s.sh F.GN_MEAS_WR_IDX
    let t := { s with gn := { s.gn with epoch := (ep + 1) % 2 ^ 32, lastLatch := some latch } }
    if 4096 < wsub 32 wr (s.sh F.GN_MEAS_RD_IDX) + 1 + cs.length then
      post Ev.GN_EPOCH_DROPPED 0 (t.wr 0 F.GN_COUNTS_EPOCH_DROPPED (t.sh F.GN_COUNTS_EPOCH_DROPPED + 1))
    else
      let (i0, t) := sampleIndex 0 latch t
      let (i1, t) := sampleIndex 1 latch t
      let head := leBytes 8 latch ++ leBytes 4 ep ++ oct [0, cs.length, 0, 0] ++ leBytes 8 (i0 / 2 ^ 32) ++ leBytes 4 i0 ++ zeros 4 ++
        leBytes 8 (i1 / 2 ^ 32) ++ leBytes 4 i1 ++ zeros 20
      let base := t.sh F.GN_MEAS_BASE
      let put := fun (i : Nat) (o : Octets) (t : State) => t.shmWrite (base + 64 * ((wr + i) % 4096)) o
      let t := put 0 head t
      let t := each cs.zipIdx (fun e t =>
        let u := put (e.2 + 1) (chanRecord t e.1 latch ep) t
        u.setGnc e.1 { u.gnc e.1 with slip := false }) t
      post Ev.GN_EPOCH 0 (t.wr 0 F.GN_MEAS_WR_IDX (wr + 1 + cs.length))

def execMeasLatch (tick : BitVec 64) (s : State) : Host.Outcome State Fault Refusal := .next (measLatch tick.toNat s)

end Sys2Proof.Machine
end

