-- ==== Sys2Proof/Machine/GnInteg.lean ====
section
/-! DEFINITION. The time solution, the integrity state, the second-peak monitor, the frame search, GNSS_PPS_OUT, audit sleep and witness snapshots
(R242 to R247, and chapter "GNSS Integrity, Audit Sleep and Witness Snapshots", R251 to R272). -/

namespace Sys2Proof.Machine

/-! ### The pulse model (R260) -/

/-- One tick of a model's time in 2^-16 ns. -/
def PpsModel.perTick (m : PpsModel) : Rat := (64 : Rat) / 100 * 65536 * (1 + (m.y : Rat) / 2 ^ 60)

/-- Model time at a tick in 2^-16 ns. -/
def PpsModel.at_ (m : PpsModel) (f : Rat) : Rat := (m.g : Rat) + (f - m.f) * m.perTick

/-- The instant in ps at which model time reaches a second. -/
def PpsModel.reaches (m : PpsModel) (sec : Nat) : Rat := ((m.f : Rat) + ((sec * 65536000000000 : Nat) - (m.g : Rat)) / m.perTick) * 640

/-! ### Time solution (R242 to R245) and integrity (R251 to R253) -/

/-- May a pair enter a solution? -/
def pairUsable (s : State) (p : GnPair) : Bool :=
  let a := s.gnc p.l1.val
  let b := s.gnc p.l5.val
  let live := fun c => gnState s c == gnTRACKING && gnFlag s c 0 && gnFlag s c 5
  decide (a.sig < 4) && b.sig == a.sig + 4 && a.prn == b.prn && live p.l1.val && live p.l5.val &&
    bitOf (s.sh F.GN_SOL_CFG_SYS_EN) (sigSys a.sig) && (s.sh F.GN_INT_CFG_SP_POLICY == 0 || (!a.sp && !b.sp))

def pairSys (s : State) (p : GnPair) : Nat := sigSys (s.gnc p.l1.val).sig

/-- The pairs that a solution uses, and the systems among them. -/
def usedPairs (s : State) (l : List GnPair) : List GnPair × List Nat :=
  let l := l.filter (pairUsable s)
  let cnt := fun y => (l.filter fun p => pairSys s p == y).length
  let min_ := if s.sh F.GN_SOL_CFG_ISB_EST = 1 then 2 else 1
  let sys := (List.range 4).filter fun y => decide (if y = s.sh F.GN_SOL_CFG_REF_SYS then 1 ≤ cnt y else min_ ≤ cnt y)
  (l.filter fun p => sys.contains (pairSys s p), sys)

/-- Enough pairs (R242)? -/
def enoughPairs (s : State) (l : List GnPair) (sys : List Nat) : Bool :=
  let further := (sys.filter (· != s.sh F.GN_SOL_CFG_REF_SYS)).length
  let unk := 1 + (if s.sh F.GN_SOL_CFG_ISB_EST = 1 then further else 0) + (if s.sh F.GN_SOL_CFG_MODE = 1 then 3 else 0)
  decide (s.sh F.GN_SOL_CFG_MIN_PAIRS ≤ l.length) && decide (unk + 3 ≤ l.length)

/-- The pair with the largest residual. -/
def worstPair (l : List GnPair) : Option GnPair :=
  l.foldl (fun b p => match b with
    | none => some p
    | some q => if q.residual.toNat < p.residual.toNat then some p else some q) none

/-- What a latch yields: the fit, the pairs and systems used, and whether a pair was excluded; no fit where there is none or it is
discarded (R252). -/
def solveAt (s : State) (pairs : List GnPair) (first second : GnFit) : Option (GnFit × List GnPair × List Nat) × Bool :=
  let (l, sys) := usedPairs s pairs
  if !enoughPairs s l sys then (none, false)
  else
    let lim := s.sh F.GN_INT_CFG_RES_NS * 256
    match worstPair l with
    | none => (none, false)
    | some w =>
      if w.residual.toNat ≤ lim then (some (first, l, sys), false)
      else
        let (l2, sys2) := usedPairs s (pairs.filter (· != w))
        if !enoughPairs s l2 sys2 || decide (lim < second.worst.toNat) then (none, true) else (some (second, l2, sys2), true)

/-- SOL_STATE, with its event. -/
def setSolState (st : Nat) (s : State) : State :=
  if s.sh F.GN_SOL_STATUS_SOL_STATE = st then s else post Ev.GN_SOL_CHANGE 0 (s.wr 0 F.GN_SOL_STATUS_SOL_STATE st)

/-- The bound of a solution (R245). -/
def solBound (s : State) (sigma latch : Nat) : Nat :=
  let u := s.sh F.GN_BIAS_UNC
  let early := s.sh F.GN_SOL_CFG_MODE == 1 && (match s.gn.surveyAt with
    | some a => decide (2 * (latch - a) < s.sh F.GN_SURVEY_S * ticksPerSec)
    | none => true)
  if u = 0xFFFFFFFF ∨ early = true then notBounded else s.sh F.GN_SOL_CFG_SOL_K * sigma + u

/-- Deliver a solution: its registers, WEEK_FLOOR, and the time event of REF24 (R244, R245). -/
def deliver (latch : Nat) (fit : GnFit) (l : List GnPair) (sys : List Nat) (s : State) : State :=
  let sigma := max 256 fit.sigma.toNat
  let s := if s.sh F.GN_SOL_CFG_MODE = 1 ∧ s.gn.surveyAt = none then { s with gn := { s.gn with surveyAt := some latch } } else s
  let b := solBound s sigma latch
  let lin := linOfT96 fit.time.toNat
  let off : Int := (lin : Int) - lin16 (vc0Time s (32 * latch))
  let t := (s.wr 0 F.GN_SOL_STATUS_PAIRS l.length).wr 0 F.GN_SOL_STATUS_SYSTEMS sys.length
  let t := (t.wr64 0 F.GN_SOL_OFFSET_LO F.GN_SOL_OFFSET_HI (uns 64 off)).wr 0 F.GN_SOL_SIGMA sigma
  let t := t.wr64 0 F.GN_SOL_BOUND_LO F.GN_SOL_BOUND_HI b
  let t := if t.sh F.GN_WEEK_FLOOR + 52 < fit.week.toNat then t.wr 0 F.GN_WEEK_FLOOR (fit.week.toNat - 52) else t
  let t := syncSlotBound 24 (t.wr64 0 (F.REF_BOUND_BASE_LO 24) (F.REF_BOUND_BASE_HI 24) b)
  let t := refEdgeStamp 24 (32 * latch) 1 (some lin) t
  setSolState (if t.sh F.GN_SOL_CFG_MODE = 1 then 2 else 3) { t with gn := { t.gn with lastSol := some latch } }

/-- Does a solved time differ from the model's prediction by more than JUMP_NS? Before the first COMMIT there is no prediction. -/
def modelJump (s : State) (latch lin : Nat) : Bool :=
  s.gn.model != {} && decide (((s.sh F.GN_INT_CFG_JUMP_NS * 65536 : Nat) : Rat) < |(lin : Rat) - s.gn.model.at_ latch|)

/-- The integrity decision at a latch (R251). -/
def decideIntegrity (latch : Nat) (sol : Option (GnFit × List GnPair × List Nat)) (excluded : Bool) (s : State) : State :=
  let miss := match s.gn.lastSol with
    | some a => decide (a + s.sh F.GN_INT_CFG_INT_MISS_S * ticksPerSec ≤ latch)
    | none => true
  let bnd := s.sh F.GN_SOL_BOUND_LO + 2 ^ 32 * s.sh F.GN_SOL_BOUND_HI
  let f := s.sh F.GN_INT_CFG_INT_FORCE
  let none_ := s.sh F.GN_SOL_STATUS_SOL_STATE ≤ 1 || bnd == notBounded || miss || audState s == audSLEEP || f == 1
  let deg := excluded || f == 2 || (match sol with
    | some (fit, l, _) => (l.any fun p => (s.gnc p.l1.val).sp || (s.gnc p.l5.val).sp) || decide (l.length < s.sh F.GN_SOL_CFG_MIN_PAIRS + 2) ||
        modelJump s latch (linOfT96 fit.time.toNat)
    | none => false)
  let run := if !none_ && !deg && sol.isSome then s.gn.okRun + 1 else if none_ || deg then 0 else s.gn.okRun
  let t : State := { s with gn := { s.gn with okRun := run } }
  if none_ then setIntegrity 0 t
  else if deg then setIntegrity 1 t
  else if s.sh F.GN_INT_CFG_INT_HOLD_S ≤ run then setIntegrity 2 t
  else t

/-- TIME_SOLUTION at a whole-second latch: the pairs with an ephemeris above the mask, and the results of the first and of the second solving. -/
def timeSolution (latch : Nat) (pairs : List GnPair) (first second : GnFit) (s : State) : State :=
  let fresh := match s.gn.lastSolve with
    | some l => decide (l < latch)
    | none => true
  if s.doorOpen .gn = false ∨ stewardRuns s = false ∨ s.sh F.GN_CTRL_EN = 0 ∨ latch % ticksPerSec ≠ 0 ∨ s.frc < latch ∨ fresh = false then s
  else
    let t : State := { s with gn := { s.gn with lastSolve := some latch } }
    if t.sh F.GN_CTRL_SOLVE = 0 then decideIntegrity latch none false (setSolState 0 t)
    else
      let (sol, excl) := solveAt t pairs first second
      let t := onlyIf excl (fun t => post Ev.GN_INT_PAIR_EXCLUDED 0 (t.wr 0 F.GN_INT_COUNTS_PAIR_EXCLUDED (t.sh F.GN_INT_COUNTS_PAIR_EXCLUDED + 1))) t
      let t := match sol with
        | some (fit, l, sys) => deliver latch fit l sys t
        | none => setSolState 1 t
      let t := decideIntegrity latch sol excl t
      match sol with
      | some _ =>
        let off := sgn 64 (t.sh F.GN_SOL_OFFSET_LO + 2 ^ 32 * t.sh F.GN_SOL_OFFSET_HI)
        let b := t.sh F.GN_SOL_BOUND_LO + 2 ^ 32 * t.sh F.GN_SOL_BOUND_HI
        { t with gn := { t.gn with sols := t.gn.sols ++ [⟨latch, off, b, t.sh F.GN_INT_STATUS_STATE⟩] } }
      | none => t

def execTimeSolution (tick : BitVec 64) (pairs : List GnPair) (first second : GnFit) (s : State) : Host.Outcome State Fault Refusal :=
  .next (timeSolution tick.toNat pairs first second s)

/-- SURVEY_DONE with the mean position (R242). -/
def surveyDone (x y z : Nat) (s : State) : State :=
  match s.gn.surveyAt with
  | some a =>
    if s.sh F.GN_SOL_CFG_MODE = 1 ∧ a + s.sh F.GN_SURVEY_S * ticksPerSec ≤ s.frc ∧ stewardRuns s = true ∧ s.doorOpen .gn = true then
      let t := (s.wr64 0 F.GN_POS_X_LO F.GN_POS_X_HI x).wr64 0 F.GN_POS_Y_LO F.GN_POS_Y_HI y
      let t := (t.wr64 0 F.GN_POS_Z_LO F.GN_POS_Z_HI z).wr 0 F.GN_SOL_CFG_MODE 0
      post Ev.GN_SURVEY_DONE 0 { t with gn := { t.gn with surveyAt := none } }
    else s
  | none => s

def execSurveyDone (x y z : BitVec 64) (s : State) : Host.Outcome State Fault Refusal := .next (surveyDone x.toNat y.toNat z.toNat s)

/-! ### Second-peak monitor (R254 to R257) -/

/-- SP_PASS_DUE: a pass falls due. -/
def spPassDue (s : State) : State :=
  if s.sh F.GN_SP_CFG_SP_EN = 0 ∨ s.sh F.GN_CTRL_EN = 0 ∨ s.frc < s.gn.spDue ∨ s.doorOpen .gn = false then s
  else
    let t : State := { s with gn := { s.gn with spDue := s.gn.spDue + s.sh F.GN_SP_CFG_SP_PERIOD_S * ticksPerSec } }
    if t.gn.spWait then t.wr 0 F.GN_INT_COUNTS_SP_SKIPPED (t.sh F.GN_INT_COUNTS_SP_SKIPPED + 1)
    else engineNext { t with gn := { t.gn with spWait := true } }

def execSpPassDue (s : State) : Host.Outcome State Fault Refusal := .next (spPassDue s)

/-- One channel's result of a pass (R255 to R257). -/
def spResult (tick : Nat) (r : SpResult) (s : State) : State :=
  let c := r.ch.val
  let x := s.gnc c
  if gnState s c ≠ gnTRACKING then s
  else
    let hit := decide (s.sh F.GN_SP_CFG_SP_THRESH * r.noise.toNat ≤ r.p2.toNat) && decide (r.p1.toNat * s.sh F.GN_SP_CFG_SP_RATIO ≤ r.p2.toNat * 64)
    let l : Int := codeLen x.sig * 256
    let m := r.sep.toInt % l
    let info : SpInfo :=
      { frc := tick, cn1 := cn0 r.p1.toNat r.noise.toNat (primMs x.sig), cn2 := cn0 r.p2.toNat r.noise.toNat (primMs x.sig)
        sep := if l ≤ 2 * m then m - l else m, dop := r.dop.toInt, ratio := ratio88 r.p2.toNat r.p1.toNat }
    let x := { x with info := info, hits := if hit then x.hits + 1 else 0, quiet := if hit then 0 else x.quiet + 1 }
    let t := s.setGnc c x
    if hit && x.sp then spRecord 2 c t
    else if hit && decide (s.sh F.GN_SP_CFG_SP_CONFIRM ≤ x.hits) then
      post Ev.GN_INT_SECOND_PEAK c (syncGn (spRecord 1 c (t.setGnc c { x with sp := true })))
    else if x.sp && decide (3 ≤ x.quiet) then spClear c t
    else t

/-- SP_PASS_COMPLETE with the capture start and each channel's metrics. -/
def spPassComplete (tick : Nat) (l : List SpResult) (s : State) : State :=
  match s.gn.spRun with
  | none => s
  | some (_, cs) =>
    if s.doorOpen .gn = false then s
    else
      let t := each (l.filter fun r => cs.contains r.ch.val) (spResult tick) s
      engineNext { t with gn := { t.gn with spRun := none } }

def execSpPassComplete (tick : BitVec 64) (results : List SpResult) (s : State) : Host.Outcome State Fault Refusal :=
  .next (spPassComplete tick.toNat results s)

/-! ### The GNSS store (R268) -/

/-- The battery clock's time in ticks. -/
def batNow (s : State) : Nat := s.rst.batBase + s.frc

/-- Rewrite the store. -/
def storeWrite (s : State) : State :=
  let g : GnStore := { s.rst.gnStore with
    valid := true, run := s.sh F.RST_FRC_RUN, frc := s.frc, bat := batNow s, model := s.gn.model
    pos := [s.rd64 0 F.GN_POS_X_LO F.GN_POS_X_HI, s.rd64 0 F.GN_POS_Y_LO F.GN_POS_Y_HI, s.rd64 0 F.GN_POS_Z_LO F.GN_POS_Z_HI]
    floor := s.sh F.GN_WEEK_FLOOR, isb := [s.sh (F.GN_ISB 0), s.sh (F.GN_ISB 1), s.sh (F.GN_ISB 2)] }
  { s with rst := { s.rst with gnStore := g } }

/-- The time uncertainty u in ps: from FRC where the run number still matches, else from the battery clock's counts of 1/32768 s. -/
def storeU (s : State) : Rat :=
  let g := s.rst.gnStore
  if g.run = s.sh F.RST_FRC_RUN then 1000000 + ((s.frc - g.frc : Nat) : Rat) * 640 * 50 / 1000000000
  else
    let cnt := batNow s * 32768 / ticksPerSec - g.bat * 32768 / ticksPerSec
    1000000000 + (cnt : Rat) * 1000000000000 / 32768 * 50 / 1000000

/-- The start at an instant: 2 hot, 1 warm, 0 cold. -/
def startKind (s : State) : Nat :=
  let g := s.rst.gnStore
  let u := storeU s
  let young := (g.ephs.filter fun e => decide (batNow s ≤ e.2 + 14400 * ticksPerSec)).length
  if !g.valid then 0
  else if 4 ≤ young ∧ u ≤ 10000000000 then 2
  else if u ≤ 2000000000000 ∧ g.almanac = true then 1
  else 0

/-- The steward starts the receiver (R268). -/
def gnStartUp (s : State) : State :=
  let k := startKind s
  let t := s.wr 0 F.GN_AUD_STATUS_START k
  if k ≠ 0 ∧ t.sh F.GN_WEEK_FLOOR < t.rst.gnStore.floor then t.wr 0 F.GN_WEEK_FLOOR t.rst.gnStore.floor else t

/-! ### Navigation frame search (R258, R259) -/

/-- The steward resolves the half cycle of a channel of signal 0 or 1 (R259). -/
def halfCycle (c : Nat) (complement : Bool) (s : State) : State :=
  let x := s.gnc c
  match x.ended with
  | [] => s
  | (k, _) :: _ =>
    let f := uns 48 x.freq
    let t := ((s.wr 0 (F.GN_CH_UPD_CARR_LO c) f).wr 0 (F.GN_CH_UPD_CARR_HI c) (f / 2 ^ 32)).wr 0 (F.GN_CH_UPD_CSTEP c) (if complement then 0x80000000 else 0)
    let locks := (s.sh (F.GN_CH_STATE_FLAGS c) % 8) * 2 ^ 16
    submitUpd c (k % 2 ^ 16 + locks + 2 ^ 19 + (if complement then 2 ^ 21 else 0) + 2 ^ 31) t

/-- The frame locks: events, half cycle, and the time of week of the epoch that begins it. -/
def frameLock (c pos : Nat) (complement : Bool) (tow epoch week : Nat) (s : State) : State :=
  let x := s.gnc c
  let later := gnFlag s c 5
  let t := post Ev.GN_INT_FRAME_LOCK c (syncGn (s.setGnc c { x with lock := some (pos, complement), fails := 0, cands := [] }))
  let t := if x.sig < 2 then halfCycle c complement t else t
  if later ∧ towAt x epoch ≠ (tow, week) then gnStop c (post Ev.GN_INT_TOW_CONFLICT c t)
  else (setTow c tow epoch week t).getD t

/-- NAV_FRAME: one frame's symbols of a channel have been searched: the positions at which the pattern appears, the decoded time of the epoch
that begins the frame, and whether the frame completes an ephemeris or an almanac. -/
def navFrame (c : Nat) (l : List NavCand) (tow epoch week : Nat) (eph alm : Bool) (s : State) : State :=
  let x := s.gnc c
  if stewardRuns s = false ∨ s.doorOpen .gn = false ∨ gnState s c ≠ gnTRACKING ∨ (gnFlag s c 3 = false ∧ gnFlag s c 4 = false) ∨
      (x.sig = 3 ∧ gnFlag s c 4 = false) then s
  else
    let ok := (l.filter fun k => k.check && (decide (x.sig < 2) || !k.complement)).map fun k => (k.pos.toNat, k.complement)
    let t := match x.lock with
      | some p =>
        if ok.contains p then s.setGnc c { x with fails := 0 }
        else if 3 ≤ x.fails + 1 then post Ev.GN_INT_FRAME_LOST c (syncGn (s.setGnc c { x with lock := none, fails := 0, cands := ok }))
        else s.setGnc c { x with fails := x.fails + 1 }
      | none =>
        match ok.filter fun p => x.cands.contains p with
        | [p] => frameLock c p.1 p.2 tow epoch week s
        | _ => s.setGnc c { x with cands := ok }
    let y := t.gnc c
    if y.lock.isNone || !(eph || alm) then t
    else
      let g := t.rst.gnStore
      let ephs := if eph then tset g.ephs (x.sig % 4 * 256 + x.prn) (batNow t) else g.ephs
      storeWrite { t with rst := { t.rst with gnStore := { g with almanac := g.almanac || alm, ephs := ephs.take 64 } } }

def execNavFrame (ch : Fin 192) (cands : List NavCand) (tow epoch : BitVec 32) (week : BitVec 16) (eph alm : Bool) (s : State) :
    Host.Outcome State Fault Refusal :=
  .next (navFrame ch.val cands tow.toNat epoch.toNat week.toNat eph alm s)

/-! ### GNSS_PPS_OUT (R260 to R264) -/

/-- A write of COMMIT to GN_PPS_M_CTRL: the four values take effect 64 ticks later. -/
def writePpsCommit (fn : Nat) (s : State) : State :=
  writeAtDoor .gn fn 0x1F4 (fun s =>
    if !gnMay s fn then postTo Ev.GN_AUTH_REFUSED fn 0 s
    else
      let t96v := s.sh F.GN_PPS_M_TIME0 + 2 ^ 32 * s.sh F.GN_PPS_M_TIME1 + 2 ^ 64 * s.sh F.GN_PPS_M_TIME2
      let m : PpsModel :=
        { f := s.rd64 0 F.GN_PPS_M_FRC_LO F.GN_PPS_M_FRC_HI, g := linOfT96 t96v
          y := sgn 48 (s.rd64 0 F.GN_PPS_M_RATE_LO F.GN_PPS_M_RATE_HI), b := s.rd64 0 F.GN_PPS_M_BOUND_LO F.GN_PPS_M_BOUND_HI }
      { s with gn := { s.gn with modelNew := some (s.frc + 64, m) } }) s

def execPpsModelCommit (fn : Fn) (s : State) : Host.Outcome State Fault Refusal := .next (writePpsCommit fn.val s)

/-- PPS_MODEL_APPLY. -/
def ppsModelApply (s : State) : State :=
  match s.gn.modelNew with
  | some (at_, m) => if at_ ≤ s.frc then { s with gn := { s.gn with model := m, modelNew := none } } else s
  | none => s

def execPpsModelApply (s : State) : Host.Outcome State Fault Refusal := .next (ppsModelApply s)

/-- QERR or FINE (R261). -/
def ppsQerr (s : State) : Bool :=
  match s.sh F.GN_PPS_CFG_PPS_MODE with
  | 1 => true
  | 2 => false
  | _ => (List.range 4).any fun j => s.sh (F.OUT_TOD_CFG_EN j) == 1 && s.sh (F.OUT_TOD_CFG_FORMAT j) == 0 && s.sh (F.OUT_TOD_CFG_SRC j) == 8

/-- The ideal instant of a second in ps (R261). -/
def ppsIdeal (s : State) (sec : Nat) : Rat := s.gn.model.reaches sec - (s.sh F.GN_PPS_CABLE : Rat)

/-- Fix the pulse of a second (R261 to R263). -/
def ppsFix (s : State) (sec : Nat) : PpsPulse :=
  let i := ppsIdeal s sec
  let q := ppsQerr s
  let grid := ⌈i / 640⌉ * 640
  let age : Rat := ((sec * 65536000000000 : Nat) : Rat) - s.gn.model.g
  let ageNs := age / 65536
  let sq := decide (s.sh F.GN_INT_STATUS_STATE < s.sh F.GN_PPS_CFG_PPS_SQ_MIN) ||
    decide (((s.sh F.GN_PPS_CFG_PPS_COAST_S * 1000000000 : Nat) : Rat) < ageNs)
  { sec := sec, ideal := ⌊i⌋, edge := if q then grid else roundR (i / 5) * 5, qErr := if q then roundR (i - grid) else 0, qMode := q
    squelched := sq, age := ⌊ageNs * 1000⌋, b := s.gn.model.b }

/-- The first whole second whose ideal instant lies at or after an instant in ps. -/
def ppsFirst (s : State) (at_ : Rat) : Nat :=
  ((⌈(s.gn.model.at_ ((at_ + s.sh F.GN_PPS_CABLE) / 640)) / 65536000000000⌉ : Int)).toNat

/-- A write of GN_PPS_CFG (R262). -/
def writePpsCfg (fn v : Nat) (s : State) : State :=
  writeAtDoor .gn fn 0x1C0 (fun s =>
    if !gnMay s fn then postTo Ev.GN_AUTH_REFUSED fn 0 s
    else
      let was := s.sh F.GN_PPS_CFG_EN == 1
      let m := bits v 1 2
      let t := ((s.wr 0 F.GN_PPS_CFG_EN v).wr 0 F.GN_PPS_CFG_PPS_MODE (if m = 3 then 0 else m)).wr 0 F.GN_PPS_CFG_PPS_POL (v / 8)
      let t := ((t.wr 0 F.GN_PPS_CFG_PPS_SQ_MIN (min 2 (bits v 4 2))).wr 0 F.GN_PPS_CFG_PPS_COAST_S (max 1 (bits v 8 8))).wr 0
        F.GN_PPS_CFG_PPS_GROWTH (v / 2 ^ 16)
      if !bitOf v 0 then { t with gn := { t.gn with pulse := none } }
      else if was then t
      else { t with gn := { t.gn with pulse := some (ppsFix t (ppsFirst t ((t.frc : Rat) * 640 + 500000000000))) } }) s

/-- GNSS_PPS_EN: the value written to GN_PPS_CFG. -/
def execGnssPpsEn (fn : Fn) (value : BitVec 32) (s : State) : Host.Outcome State Fault Refusal := .next (writePpsCfg fn.val value.toNat s)

/-- GNSS_PPS_PULSE: the fixed pulse leaves or is suppressed, and the next is fixed (R262, R263). -/
def gnssPpsPulse (s : State) : State :=
  match s.gn.pulse with
  | none => s
  | some p =>
    if (s.frc : Int) * 640 < p.edge then s
    else
      let tick := (p.edge / 640).toNat
      let t := (s.wr 0 F.GN_PPS_STATUS_MODE_QERR (b2n p.qMode)).wr 0 F.GN_PPS_STATUS_SQUELCHED (b2n p.squelched)
      let t := if p.squelched then post Ev.GN_INT_PPS_SQUELCH 0 t else t.wr 0 F.GN_PPS_STATUS_PULSES (t.sh F.GN_PPS_STATUS_PULSES + 1)
      let next := max (p.sec + 1) (ppsFirst t ((p.edge : Rat) + 1))
      let t : State := { t with gn := { t.gn with pulse := some (ppsFix t next), lastPulse := if p.squelched then t.gn.lastPulse else some p } }
      todSchedule 8 tick ((p.sec : Int) * secU) false t

def execGnssPpsPulse (s : State) : Host.Outcome State Fault Refusal := .next (gnssPpsPulse s)

/-- The source of a time-of-day frame: a pulse output, or GNSS_PPS_OUT as source 8. -/
def frameSource (s : State) (src tick : Nat) : Option TodSource :=
  if src = 8 then
    s.gn.pulse.map fun p => ⟨0xFFFF, 0, secU, (p.sec : Int) * secU, (p.edge - (tick : Int) * 640) * 2 ^ 48 / 1000, p.squelched, false, p.qErr⟩
  else poSource s src tick

/-- The bound of a GNSS frame (R264). -/
def ppsFrameBound (s : State) (tick : Nat) (p : PpsPulse) : Nat :=
  match pathTerm s 23 tick with
  | none => notBounded
  | some path =>
    let b := p.b + (⌈(p.age : Rat) * (s.sh F.GN_PPS_CFG_PPS_GROWTH : Rat) / 1000000000000⌉).toNat + path
    if p.b = notBounded ∨ notBounded ≤ b then notBounded else b

/-- A frame whose source is GNSS_PPS_OUT (R264, Table 6.5). -/
def gnssFrame (s : State) (tick seq : Nat) (t : TodSource) : Octets :=
  match s.gn.pulse with
  | none => []
  | some p =>
    let b := ppsFrameBound s tick p
    let st := s.sh F.GN_INT_STATUS_STATE
    let flags := b2n (st != 0) + 2 * b2n (decide (2500000000000 < p.age)) + 4 * b2n (st == 1) + 16 * b2n (b == notBounded) + 128 * b2n p.squelched
    let body := oct [0x4C, 0x54, 1, 0x20, 8, flags] ++ beBytes 2 0xFFFF ++ beBytes 6 p.sec ++ beBytes 4 0 ++ beBytes 2 (s.sh F.OUT_TOD_UTC_OFFSET) ++
      beBytes 5 b ++ oct [refSlotOctet s] ++ beBytes 2 (uns 16 t.qErr) ++ oct [seq, 0]
    body ++ beBytes 2 (crcMsb 16 0x1021 0xFFFF body)

/-- TOD_FRAME_SEND. -/
def execTodFrameSend (pin : Fin 4) (s : State) : Host.Outcome State Fault Refusal :=
  .next (todSend frameSource (fun s src tick seq t => if src = 8 then gnssFrame s tick seq t else todFrame s src tick seq t) pin.val s)

/-! ### Audit mode (R265 to R267) -/

/-- A write of GN_AUD_CFG (R265, R272). -/
def writeAudCfg (fn v : Nat) (s : State) : State :=
  writeAtDoor .gn fn 0x200 (fun s =>
    if !gnMay s fn then postTo Ev.GN_AUTH_REFUSED fn 0 s
    else
      let t := (s.wr 0 F.GN_AUD_CFG_AUDIT_EN v).wr 0 F.GN_AUD_CFG_FE_WARM_MS (max 1 (bits v 8 8))
      let t := (t.wr 0 F.GN_AUD_CFG_AUDIT_AVG_S (max 1 (bits v 16 8))).wr 0 F.GN_AUD_CFG_AUDIT_ON_MIN (max 1 (bits v 24 8))
      if bitOf v 0 then (if audState t = audOFF then audAwake t else t)
      else if audState t = audSLEEP then audAwake t
      else t.wr 0 F.GN_AUD_STATUS_STATE audOFF) s

/-- AUDIT_EN_WRITE: the value written to GN_AUD_CFG. -/
def execAuditEnWrite (fn : Fn) (value : BitVec 32) (s : State) : Host.Outcome State Fault Refusal := .next (writeAudCfg fn.val value.toNat s)

/-- The audit result (R267). Without a solution its offset and bound are free values. -/
def auditResult (s : State) : State :=
  let w := s.sh F.GN_AUD_CFG_AUDIT_AVG_S * ticksPerSec
  let l := s.gn.sols.filter fun x => decide (s.frc ≤ x.at_ + w) && x.integ != 0
  let t := (s.wr 0 F.GN_AUD_STATUS_AUDIT_OK (b2n (!l.isEmpty))).wr 0 F.GN_AUD_STATUS_AUDITS (s.sh F.GN_AUD_STATUS_AUDITS + 1)
  let t := if l.isEmpty then
      let (a, t) := t.free 64
      let (b, t) := t.free 32
      (t.wr64 0 F.GN_AUD_OFFSET_LO F.GN_AUD_OFFSET_HI a).wr 0 F.GN_AUD_BOUND b
    else (t.wr64 0 F.GN_AUD_OFFSET_LO F.GN_AUD_OFFSET_HI (uns 64 (roundR (meanR (l.map fun x => (x.off : Rat)))))).wr 0 F.GN_AUD_BOUND
      (satU 32 (l.foldl (fun m x => max m x.bound) 0))
  post Ev.GN_INT_AUDIT_DONE 0 t

/-- AUDIT_SLEEP: the AWAKE window ends (R266, R267). A snapshot in capture completes first. -/
def auditSleep (s : State) : State :=
  if audState s ≠ audAWAKE ∨ s.frc < s.gn.awakeAt + s.sh F.GN_AUD_CFG_AUDIT_ON_MIN * 60 * ticksPerSec ∨ snapState s = snapCAPTURING ∨
      s.doorOpen .gn = false then s
  else
    let t := storeWrite (auditResult s)
    let t := each (t.gn.chans.map (·.1)) gnStop t
    let t := syncAcq { t with gn := { t.gn with jobs := [], spRun := none, spWait := false } }
    let t := onlyIf (snapState t == snapARMED) (snapFail 1) t
    let saved := t.sh (F.GN_PORT_CFG_EN 0) + 2 * t.sh (F.GN_PORT_CFG_EN 1)
    let t := setPortEn 1 false (setPortEn 0 false { t with gn := { t.gn with savedEn := saved, warmAt := none } })
    (t.wr 0 F.GN_AUD_STATUS_STATE audSLEEP).wr64 0 F.GN_AUD_WAKE_LO F.GN_AUD_WAKE_HI (t.frc + t.sh F.GN_AUD_SLEEP_S * ticksPerSec)

def execAuditSleep (s : State) : Host.Outcome State Fault Refusal := .next (auditSleep s)

/-- AUDIT_WAKE: FRC reaches WAKE; in P3 and P4 the wake waits for the return to P0 to P2 (R265). -/
def auditWake (s : State) : State :=
  if audState s = audSLEEP ∧ s.rd64 0 F.GN_AUD_WAKE_LO F.GN_AUD_WAKE_HI ≤ s.frc ∧ s.sh F.PWR_STATUS_STATE ≤ 2 ∧ s.doorOpen .gn = true then audAwake s
  else s

def execAuditWake (s : State) : Host.Outcome State Fault Refusal := .next (auditWake s)

/-- FE_WARM_DONE: the front end is warm; the ports' EN values are restored and the steward starts (R266, R268). -/
def feWarmDone (s : State) : State :=
  match s.gn.warmAt with
  | some at_ =>
    if s.frc < at_ ∨ s.doorOpen .gn = false then s
    else
      let t := if bitOf s.gn.savedEn 0 && s.sh (F.GN_PORT_CFG_EN 0) == 0 then setPortEn 0 true s else s
      let t := if bitOf t.gn.savedEn 1 && t.sh (F.GN_PORT_CFG_EN 1) == 0 then setPortEn 1 true t else t
      gnStartUp { t with gn := { t.gn with savedEn := 0, warmAt := none } }
  | none => s

def execFeWarmDone (s : State) : Host.Outcome State Fault Refusal := .next (feWarmDone s)

/-- The level of GN_FE_PWR (R266, Table of pins through reset). -/
inductive FePower where
  | low | high | highZ
  deriving DecidableEq, Repr

def fePower (s : State) : FePower :=
  if s.sh F.RST_STATUS_PROOF_DONE = 0 ∨ 3 ≤ s.sh F.PWR_STATUS_STATE then .highZ
  else if audState s = audSLEEP then .low
  else .high

/-! ### Witness snapshots (R269 to R271) -/

/-- Does a range lie in a region of the SRAM plan? -/
def inRegion (s : State) (id a n : Nat) : Bool :=
  match tget s.stw.regions id with
  | some (b, len) => decide (b ≤ a) && decide (a + n ≤ b + len)
  | none => false

/-- Is an arm of a snapshot refused (R269)? -/
def snapRefused (s : State) : Bool :=
  let st := snapState s
  st == snapARMED || st == snapCAPTURING || st == snapHELD || audState s == audSLEEP ||
    ([0, 1].any fun p => bitOf (s.sh F.GN_SNAP_CFG_SNAP_PORTS) p && gnPortState s p != 1) ||
    !inRegion s 3 (s.sh F.GN_SNAP_BASE) 0x500000 || s.sh F.GN_SNAP_BASE % 64 != 0 ||
    (s.sh F.GN_SNAP_CFG_TRIGGER == 1 && decide (s.rd64 0 F.GN_SNAP_TIME_LO F.GN_SNAP_TIME_HI < s.frc + 64))

/-- A write of GN_SNAP_CTRL: RELEASE frees a HELD snapshot; ARM arms one, or is refused and changes nothing. -/
def writeSnapCtrl (fn : Nat) (arm release : Bool) (s : State) : State :=
  writeAtDoor .gn fn 0x290 (fun s =>
    if !gnMay s fn then postTo Ev.GN_AUTH_REFUSED fn 0 s
    else
      let t := if release && snapState s == snapHELD then s.wr 0 F.GN_SNAP_STATUS_STATE snapIDLE else s
      if !arm || snapRefused t then t
      else
        let tick := if t.sh F.GN_SNAP_CFG_TRIGGER = 1 then t.rd64 0 F.GN_SNAP_TIME_LO F.GN_SNAP_TIME_HI else t.frc + 64
        let t := (t.wr 0 F.GN_SNAP_STATUS_STATE snapARMED).wr 0 F.GN_SNAP_STATUS_CAUSE 0
        { t with gn := { t.gn with snap := some { tick := tick } } }) s

def execSnapArm (fn : Fn) (s : State) : Host.Outcome State Fault Refusal := .next (writeSnapCtrl fn.val true false s)
def execSnapRelease (fn : Fn) (s : State) : Host.Outcome State Fault Refusal := .next (writeSnapCtrl fn.val false true s)

/-- Bytes 0 to 63 of the file, noted at T (Table 9.4). -/
def snapHeader (s : State) (tick : Nat) : Octets :=
  let t := t96 (vc0Time s (32 * tick))
  oct [0x4C, 0x56, 0x47, 0x57, 1, s.sh F.GN_SNAP_CFG_SNAP_PORTS] ++ leBytes 2 (s.sh F.GN_SNAP_CFG_LEN_MS) ++ leBytes 8 tick ++
  leBytes 6 (t / 2 ^ 48) ++ leBytes 4 (t / 2 ^ 16) ++ leBytes 2 t ++ leBytes 5 (bound s 0 tick 0 qTick) ++ oct [s.sh F.GN_INT_STATUS_STATE] ++
  leBytes 2 (s.sh F.GN_WEEK_FLOOR) ++ leBytes 8 (s.rd64 0 F.GN_POS_X_LO F.GN_POS_X_HI) ++ leBytes 8 (s.rd64 0 F.GN_POS_Y_LO F.GN_POS_Y_HI) ++
  leBytes 8 (s.rd64 0 F.GN_POS_Z_LO F.GN_POS_Z_HI) ++ leBytes 4 (s.gn.snapSeq + 1)

/-- SNAP_TRIGGER: the trigger tick arrives (R270). -/
def snapTrigger (s : State) : State :=
  match s.gn.snap with
  | some x =>
    if snapState s ≠ snapARMED ∨ s.frc < x.tick ∨ s.doorOpen .gn = false then s
    else
      let t := s.wr 0 F.GN_SNAP_STATUS_STATE snapCAPTURING
      let t : State := { t with gn := { t.gn with snap := some { x with header := snapHeader s x.tick } } }
      onlyIf ([0, 1].any fun p => bitOf (s.sh F.GN_SNAP_CFG_SNAP_PORTS) p && gnPortState s p != 1) (snapFail 0) t
  | none => s

def execSnapTrigger (s : State) : Host.Outcome State Fault Refusal := .next (snapTrigger s)

/-- Samples of two pins for each of I and Q, one nibble per sample, low nibble first. -/
def packNibbles : Octets → Octets
  | [] => []
  | [a] => [BitVec.ofNat 8 (a.toNat % 4 + 4 * (a.toNat / 16 % 4))]
  | a :: b :: t => BitVec.ofNat 8 (a.toNat % 4 + 4 * (a.toNat / 16 % 4) + 16 * (b.toNat % 4 + 4 * (b.toNat / 16 % 4))) :: packNibbles t

/-- A port's data in the file: pin values [3:0] I and [7:4] Q (BITS 1), or nibbles (BITS 0). -/
def snapData (s : State) (p : Nat) (o : Octets) : Octets := if s.sh (F.GN_PORT_CFG_BITS p) = 1 then o else packNibbles o

/-- A port's descriptor; that of a port that is not named is 0. -/
def snapDesc (s : State) (p n samples off len : Nat) : Octets :=
  if bitOf (s.sh F.GN_SNAP_CFG_SNAP_PORTS) p then
    leBytes 4 (s.sh (F.GN_PORT_FS p)) ++ leBytes 4 (s.sh (F.GN_PORT_IF p)) ++ leBytes 4 (s.sh (F.GN_PORT_DELAY p)) ++
    oct [s.sh (F.GN_PORT_CFG_BITS p) + 2 * s.sh (F.GN_PORT_CFG_SPEC_INV p), n, 0, 0] ++ leBytes 4 samples ++ leBytes 4 off ++ leBytes 4 len ++ zeros 4
  else zeros 32

def snapStamps (l : List SnapStamp) : Octets :=
  padTo 768 (l.map fun x => leBytes 8 x.frc.toNat ++ oct [x.phase.val, 0, 0, 0] ++ leBytes 4 x.idx.toNat).flatten

/-- SNAP_CAPTURE_DONE: the samples of the named ports, as pin values, and their stamps; the sealed file is in the buffer (R271). -/
def snapCaptureDone (d0 : Octets) (st0 : List SnapStamp) (d1 : Octets) (st1 : List SnapStamp) (s : State) : State :=
  match s.gn.snap with
  | some x =>
    if snapState s ≠ snapCAPTURING ∨ s.frc < x.tick + s.sh F.GN_SNAP_CFG_LEN_MS * 1562500 ∨ s.doorOpen .gn = false then s
    else
      let on := fun p => bitOf (s.sh F.GN_SNAP_CFG_SNAP_PORTS) p
      let a := if on 0 then snapData s 0 d0 else []
      let b := if on 1 then snapData s 1 d1 else []
      let off1 := ceilDiv (2048 + a.length) 64 * 64
      let body := x.header ++ snapDesc s 0 st0.length d0.length 2048 a.length ++ snapDesc s 1 st1.length d1.length off1 b.length ++
        (if on 0 then snapStamps st0 else zeros 768) ++ (if on 1 then snapStamps st1 else zeros 768) ++ zeros 384 ++ a ++
        (if b.isEmpty then [] else zeros (off1 - (2048 + a.length)) ++ b)
      let file := body ++ beBytes 48 (Config.sha384 body).toNat
      let t := s.shmWrite (s.sh F.GN_SNAP_BASE) file
      let t := (t.wr 0 F.GN_SNAP_STATUS_STATE snapHELD).wr 0 F.GN_SNAP_STATUS_LENGTH file.length
      post Ev.GN_INT_SNAP_DONE 0 { t with gn := { t.gn with snap := none, snapSeq := (t.gn.snapSeq + 1) % 2 ^ 32 } }
  | none => s

def execSnapCaptureDone (samples0 : List Byte) (stamps0 : List SnapStamp) (samples1 : List Byte) (stamps1 : List SnapStamp) (s : State) :
    Host.Outcome State Fault Refusal :=
  .next (snapCaptureDone samples0 stamps0 samples1 stamps1 s)

end Sys2Proof.Machine
end

