-- ==== Sys2Proof/Machine/ShmCmds.lean ====
section
/-! DEFINITION. The shared SRAM: accesses, arbitration, ECC, atomics, contracts, the sweep and the Crumb walker (R464 to R485). -/

namespace Sys2Proof.Machine

def stCt : StatRef := ⟨F.SHM_CT_STATUS_CODE, F.SHM_CT_STATUS_BUSY, some F.SHM_CT_STATUS_CAUSE⟩
def stAtom : StatRef := ⟨F.SHM_ATOM_STATUS_CODE, F.SHM_ATOM_STATUS_BUSY, none⟩

/-! ### Contracts (R471, R475, R476) -/

/-- The window of a tick: 1,024 CCLK cycles, 1,280 ticks. -/
def shmWindow (tick : Nat) : Nat := tick / 1280

/-- C(m, g) as last set. -/
def ctSet (s : State) (m g : Nat) : Nat := ((tget s.shmx.ct (m * 17 + g)).map (·.1)).getD 0

/-- C(m, g) in force in a window. -/
def ctAt (s : State) (m g win : Nat) : Nat :=
  match tget s.shmx.ct (m * 17 + g) with
  | some (v, old, k) => if k ≤ win then v else old
  | none => 0

/-- The masters whose contracts on a group share a sum with master m: on group 16, those of its port. -/
def ctPeers (m g : Nat) : List Nat :=
  if g < 16 then List.range 21 else if m < 4 then [0, 1, 2, 3] else [17, 18, 19, 20]

def ctSum (s : State) (m g : Nat) : Nat := ((ctPeers m g).map fun i => ctSet s i g).sum

/-- Can a master reach a group (R465)? -/
def canReach (m g : Nat) : Bool := decide (m < 21) && (decide (g < 16) || (g == 16 && (m == 2 || m == 3 || m == 18 || m == 19)))

def ctLimit : Nat := 13107

/-- Set C(m, g) from the next window on. A group with a contract is ON (R477). -/
def setContract (m g v : Nat) (s : State) : State :=
  let k := shmWindow s.frc
  let t := { s with shmx := { s.shmx with ct := tset s.shmx.ct (m * 17 + g) (v, ctAt s m g k, k + 1) } }
  onlyIf (ctSum t m g != 0) (fun t => t.wr 0 (F.SHM_GRP_STATUS_RETENTION g) 0) t

/-- WRITE and READ through the SHM_CT window. -/
def opCt (w : Win) (write : Bool) (s : State) : State :=
  command .shm stCt Ev.SHM_CMD_OVERRUN w (fun s =>
    if !s.secureSt w.fn then refuse stCt w 3 s
    else
      let m := s.rd w.c F.SHM_CT_SEL_MASTER
      let g := s.rd w.c F.SHM_CT_SEL_GROUP
      let v := s.rd w.c F.SHM_CT_DATA_WORDS
      let old := ctSet s m g
      let sum (t : State) : State := t.wr w.c F.SHM_CT_DATA_SUM (ctSum t m g)
      if !write then completeOk stCt w (sum (s.wr w.c F.SHM_CT_DATA_WORDS old))
      else if !canReach m g then post Ev.SHM_CONTRACT_REFUSED m (refuse stCt w 2 (sum s))
      else if old < v ∧ ctLimit < ctSum s m g - old + v then post Ev.SHM_CONTRACT_REFUSED m (refuse stCt w 1 (sum s))
      else completeOk stCt w (sum (setContract m g v s))) s

def execShmCtWrite (fn : Fn) (s : State) : Host.Outcome State Fault Refusal := .next (opCt ⟨fn.val, fn.val + 1⟩ true s)
def execShmCtRead (fn : Fn) (s : State) : Host.Outcome State Fault Refusal := .next (opCt ⟨fn.val, fn.val + 1⟩ false s)

/-- The words a master has received in a group in a window. -/
def recvIn (s : State) (m g win : Nat) : Nat := if s.shmx.win = win then tgetD s.shmx.recv (m * 17 + g) 0 else 0

/-- CONTRACT_WINDOW_END: the window that ends at a tick, with the masters whose requests to groups were still waiting (R474). -/
def contractWindow (tick : Nat) (waiting : List (Fin 21 × Fin 17)) (s : State) : State :=
  let k := tick / 1280 - 1
  if tick % 1280 ≠ 0 ∨ tick = 0 ∨ s.frc < tick ∨ k < s.shmx.win ∨ s.doorOpen .shm = false then s
  else
    let missed := (List.range 21).filter fun m => waiting.any fun e => e.1.val == m && decide (recvIn s m e.2.val k < ctAt s m e.2.val k)
    let t := each missed (fun m t => t.wr 0 (F.SHM_MST_MISS m) (t.sh (F.SHM_MST_MISS m) + 1)) s
    let t := each missed (fun m t =>
      if (t.shmx.missAt.map fun a => decide (t.frc < a + ticksOfMs 1)).getD false then t
      else post Ev.SHM_CONTRACT_MISS m { t with shmx := { t.shmx with missAt := some t.frc } }) t
    { t with shmx := { t.shmx with recv := [], win := k + 1 } }

def execContractWindowEnd (tick : BitVec 64) (waiting : List (Fin 21 × Fin 17)) (s : State) : Host.Outcome State Fault Refusal :=
  .next (contractWindow tick.toNat waiting s)

/-! ### Arbitration (R465, R470, R472) -/

/-- The class of a master: 0 TS, 1 SERVING, 2 HOST, 3 WALKER. -/
def mClass (m : Nat) : Nat := if m < 4 then 0 else if m < 17 then 1 else if m < 21 then 2 else 3

/-- The port of a bank that a master uses. -/
def reqPort (r : ShmReq) (bank : Nat) : Nat :=
  if bank < 256 then 0 else if r.master.val = 21 then b2n r.portB else if r.master.val = 18 ∨ r.master.val = 19 then 1 else 0

/-- Is an address one of SHM, and may the master reach it? -/
def reqReaches (r : ShmReq) : Bool :=
  decide (r.addr.toNat < shmEnd) && (decide (r.addr.toNat < dualBase) || r.master.val == 21 || canReach r.master.val 16)

/-- The step of R472 at which a request stands. -/
def reqStep (s : State) (g : Nat) (r : ShmReq) : Nat :=
  let m := r.master.val
  let k := shmWindow s.frc
  if m = 21 then 7
  else if recvIn s m g k < ctAt s m g k then mClass m + 1 else mClass m + 4

def grantKey (bank port m : Nat) : Nat := (2 * bank + port) * 32 + m

/-- The request that a bank port grants: the lowest step, and in it the master granted least recently. -/
def winner (s : State) (bank port : Nat) (l : List ShmReq) : Option ShmReq :=
  let g := bank / 16
  let key (r : ShmReq) : Nat × Nat := (reqStep s g r, tgetD s.shmx.grants (grantKey bank port r.master.val) 0)
  l.foldl (fun b r => match b with
    | none => some r
    | some q => if (key r).1 < (key q).1 ∨ ((key r).1 = (key q).1 ∧ (key r).2 < (key q).2) then some r else some q) none

/-! ### Performing an access (R467 to R469, R479) -/

/-- Record how an access ended. -/
def shmDone (m a code : Nat) (data : Octets) (s : State) : State :=
  { s with shmx := { s.shmx with last := s.shmx.last ++ [⟨m, a, code, data⟩] } }

/-- A word of 32 octets becomes poisoned. -/
def poisonWord (a : Nat) (s : State) : State :=
  if s.shmx.poison.contains (a / 32) then s
  else { s with shmx := { s.shmx with poison := s.shmx.poison.filter (· < a / 32) ++ [a / 32] ++ s.shmx.poison.filter (a / 32 < ·) } }

/-- Record an error in SHM_ERR_ADDR and SHM_ERR_INFO. -/
def shmErr (m a : Nat) (ue : Bool) (lanes : Nat) (s : State) : State :=
  let t := (s.wr 0 F.SHM_ERR_ADDR (a / 32 * 32)).wr 0 F.SHM_ERR_INFO_MASTER m
  ((t.wr 0 F.SHM_ERR_INFO_UE (b2n ue)).wr 0 F.SHM_ERR_INFO_LANES lanes).wr 0 F.SHM_ERR_INFO_VALID 1

/-- ECC_UE: an uncorrectable error poisons the word (R467). -/
def eccUe (m a lanes : Nat) (s : State) : State :=
  let t := shmErr m a true lanes (poisonWord a s)
  let b := shmBank a
  raise 896 b (a / 32 * 32) (post Ev.SHM_UE b (t.wr 0 F.SHM_ECC_UE (t.sh F.SHM_ECC_UE + 1)))

/-- Does an access read its word: a read, an atomic, or a write that covers part of a lane? -/
def actReads (a : Nat) : ShmAct → Bool
  | .write d _ => a % 8 != 0 || d.length % 8 != 0
  | _ => true

/-- The octets that an access covers. -/
def actLen : ShmAct → Nat
  | .read n => n.val
  | .write d _ => d.length
  | .add w _ => if w then 8 else 4
  | .swap w _ => if w then 8 else 4

/-- ADD and SWAP: the old value, and the memory after it. -/
def atomic (add wide : Bool) (a x : Nat) (s : State) : Nat × State :=
  let n := if wide then 8 else 4
  let old := ofLe (s.shmRead a n)
  (old, State.shmWrite a (leBytes n (if add then old + x else x)) s)

/-- A write into SHM: one marked as poisoned poisons its word. -/
def writeWord (a : Nat) (d : Octets) (poison : Bool) (s : State) : State :=
  let t := State.shmWrite a d s
  if poison then poisonWord a t else t

/-- A granted access takes its effect. -/
def perform (r : ShmReq) (ce ue : Nat) (s : State) : State :=
  let m := r.master.val
  let a := r.addr.toNat
  let host := m == 18
  let s := if actReads a r.act then
      (if ue ≠ 0 ∧ s.shmx.poison.contains (a / 32) = false then eccUe m a ue s
      else if ce ≠ 0 then { s with shmx := { s.shmx with ce := s.shmx.ce ++ [⟨shmBank a, a, m, ce⟩] } } else s)
    else s
  let bad := s.shmx.poison.contains (a / 32)
  match r.act with
  | .write d p => shmDone m a Code.ok [] (writeWord a d p s)
  | .read n =>
    if bad then shmDone m a Code.poisoned [] (if host || m == 21 then s else poisonUse m a s) else shmDone m a Code.ok (s.shmRead a n.val) s
  | .add w x => if bad then shmDone m a Code.poisoned [] s else let q := atomic true w a x.toNat s; shmDone m a Code.ok (leBytes (actLen r.act) q.1) q.2
  | .swap w x => if bad then shmDone m a Code.poisoned [] s else let q := atomic false w a x.toNat s; shmDone m a Code.ok (leBytes (actLen r.act) q.1) q.2

/-- An atomic is aligned and in the single-port region; every access lies in one word. -/
def reqShapeOk (r : ShmReq) : Bool :=
  let a := r.addr.toNat
  match r.act with
  | .add _ _ | .swap _ _ => decide (a < dualBase) && a % actLen r.act == 0
  | _ => decide (a % 32 + actLen r.act ≤ 32)

/-- A request that arbitration does not see: REFUSED, or at an unswept group UNINIT for the host's reads and atomics, and held for its writes (R464, R465,
R469, R479). An internal master's stalls: it stays a request. -/
def rejected (r : ShmReq) (s : State) : Option (State → State) :=
  let m := r.master.val
  let a := r.addr.toNat
  if !s.doorOpen .shm then some (shmDone m a Code.blockAbsent [])
  else if !reqReaches r || !reqShapeOk r then some (shmDone m a Code.refused [])
  else if shmSwept s a 1 then none
  else if m = 18 then some (match r.act with
    | .write d p => fun s => { s with shmx := { s.shmx with held := s.shmx.held ++ [⟨a, d, p⟩] } }
    | _ => shmDone m a Code.uninit [])
  else some id

/-- One port of a bank in one cycle. -/
def bankPort (bank port ce ue : Nat) (l : List ShmReq) (s : State) : State :=
  match winner s bank port l with
  | none => s
  | some r =>
    let m := r.master.val
    let g := bank / 16
    let k := shmWindow s.frc
    let t := each (l.filter fun q => q != r) (fun q t =>
      count Ct.SHM_BANK_CONFLICT bank 1 (t.wr 0 (F.SHM_MST_CONFLICT q.master.val) (t.sh (F.SHM_MST_CONFLICT q.master.val) + 1))) s
    let recv := if t.shmx.win = k then t.shmx.recv else []
    let t := { t with shmx := { t.shmx with
      recv := tset recv (m * 17 + g) (tgetD recv (m * 17 + g) 0 + 1), win := k
      granted := t.shmx.granted + 1, grants := tset t.shmx.grants (grantKey bank port m) (t.shmx.granted + 1)
      usedAt := tset t.shmx.usedAt g t.frc } }
    perform r ce ue (count Ct.SHM_BANK_ACCESS bank 1 (t.wr 0 (F.SHM_GRP_STATUS_RETENTION g) 0))

/-- A granted write. -/
def isWrite (r : ShmReq) : Bool := match r.act with
  | .write _ _ => true
  | _ => false

/-- SHM_ACCESS: the requests at one bank in one cycle, and the lanes of the accessed word in which the code finds a correctable or an uncorrectable error.
On a dual-port bank port B's access comes first, so that reads return the value before the other port's write and port A's write stands (R466). -/
def shmCycle (bank : Nat) (l : List ShmReq) (ce ue : Nat) (s : State) : State :=
  let s := { s with shmx := { s.shmx with last := [] } }
  let l := l.filter fun r => !reqReaches r || shmBank r.addr.toNat == bank
  let s := each l (fun r t => match rejected r t with
    | some f => f t
    | none => t) s
  let live := l.filter fun r => (rejected r s).isNone
  let a := live.filter fun r => reqPort r bank == 0
  let b := live.filter fun r => reqPort r bank == 1
  match winner s bank 0 a, winner s bank 1 b with
  | some x, some y =>
    let same := x.addr.toNat / 32 == y.addr.toNat / 32
    if same && isWrite x && isWrite y then post Ev.SHM_DP_COLLIDE bank (bankPort bank 0 ce ue a (bankPort bank 1 0 0 b s))
    else if same && isWrite y then bankPort bank 1 0 0 b (bankPort bank 0 ce ue a s)
    else bankPort bank 0 ce ue a (bankPort bank 1 0 0 b s)
  | _, _ => bankPort bank 1 ce ue b (bankPort bank 0 ce ue a s)

def execShmAccess (bank : Fin 272) (requests : List ShmReq) (ce ue : Fin 16) (s : State) : Host.Outcome State Fault Refusal :=
  .next (shmCycle bank.val requests ce.val ue.val s)

/-- CE_WRITEBACK: the bank's oldest corrected word is written back and counted; CE is posted at most once per ms (R467). `ue`: a further error makes the
word uncorrectable. -/
def ceWriteback (bank ue : Nat) (s : State) : State :=
  match s.shmx.ce.find? fun e => e.bank == bank with
  | none => s
  | some e =>
    let t := { s with shmx := { s.shmx with ce := s.shmx.ce.erase e } }
    if ue ≠ 0 then eccUe e.master e.addr ue t
    else
      let t := shmErr e.master e.addr false e.lanes (t.wr 0 F.SHM_ECC_CE (t.sh F.SHM_ECC_CE + 1))
      if (t.shmx.ceAt.map fun a => decide (t.frc < a + ticksOfMs 1)).getD false then t
      else post Ev.SHM_CE bank { t with shmx := { t.shmx with ceAt := some t.frc } }

def execCeWriteback (bank : Fin 272) (ue : Fin 16) (s : State) : Host.Outcome State Fault Refusal := .next (ceWriteback bank.val ue.val s)

/-! ### The atomic window (R469, R485) -/

/-- A write of SHM_ATOM_CMD. The function needs the protection table's permission for atomics. -/
def opAtom (w : Win) (add wide : Bool) (s : State) : State :=
  command .shm stAtom Ev.SHM_CMD_OVERRUN w (fun s =>
    let a := s.rd w.c F.SHM_ATOM_ADDR
    let n := if wide then 8 else 4
    if dualBase ≤ a ∨ a % n ≠ 0 ∨ shmPermitted s w.fn a n permATOMIC = false then refuse stAtom w 0 s
    else if shmReadCode s a n ≠ Code.ok then complete stAtom w (shmReadCode s a n) 0 s
    else
      let x := s.rd64 w.c F.SHM_ATOM_ARG_LO F.SHM_ATOM_ARG_HI
      let q := atomic add wide a (if wide then x else x % 2 ^ 32) s
      completeOk stAtom w (q.2.wr64 w.c F.SHM_ATOM_OLD_LO F.SHM_ATOM_OLD_HI q.1)) s

def execShmAtomAdd (fn : Fn) (wide : Bool) (s : State) : Host.Outcome State Fault Refusal := .next (opAtom ⟨fn.val, fn.val + 1⟩ true wide s)
def execShmAtomSwap (fn : Fn) (wide : Bool) (s : State) : Host.Outcome State Fault Refusal := .next (opAtom ⟨fn.val, fn.val + 1⟩ false wide s)

/-! ### The sweep (R478, R479) -/

/-- Groups in the order of the sweep: 16, then 0 to 15. -/
def sweepPlace (g : Nat) : Nat := if g = 16 then 0 else g + 1

/-- SWEEP_GROUP_DONE: the groups follow in order, at 3.2768 µs and then 13.1072 µs each; held writes of the group are then performed. -/
def sweepGroup (g : Nat) (s : State) : State :=
  match s.shmx.sweepAt with
  | none => s
  | some t0 =>
    let before := (List.range 17).all fun h => !(decide (sweepPlace h < sweepPlace g)) || s.sh (F.SHM_GRP_STATUS_SWEPT h) == 1
    if !before || s.sh (F.SHM_GRP_STATUS_SWEPT g) == 1 || decide (s.frc < t0 + 5120 + 20480 * (sweepPlace g)) then s
    else
      let t := s.wr 0 (F.SHM_GRP_STATUS_SWEPT g) 1
      let mine := t.shmx.held.filter fun h => shmGroup h.addr == g
      let t := { t with shmx := { t.shmx with held := t.shmx.held.filter fun h => shmGroup h.addr != g } }
      let t := each mine (fun h t => writeWord h.addr h.data h.poison t) t
      if g = 15 then post Ev.SHM_SWEEP_DONE 0 ({ t with shmx := { t.shmx with sweepAt := none } }.wr 0 F.SHM_STATUS_SWEEP_DONE 1) else t

def execSweepGroupDone (group : Fin 17) (s : State) : Host.Outcome State Fault Refusal := .next (sweepGroup group.val s)

/-! ### The Crumb walker (R481 to R484) -/

def bankRows (b : Nat) : Nat := if b < 256 then 256 else 64

def degraded (s : State) (b : Nat) : Bool := bitOf (s.sh (F.SHM_GRP_STATUS_DEGRADED (b / 16))) (b % 16)

/-- The first bank from one on that is not DEGRADED, and whether the walk passed bank 271. -/
def nextBank (s : State) (b : Nat) : Nat × Bool :=
  match ((List.range 272).map fun i => b + i).find? fun x => !degraded s (x % 272) with
  | some x => (x % 272, decide (272 ≤ x))
  | none => (b % 272, false)

/-- WALK_POS and WALKING. -/
def walkPos (step : Nat) (s : State) : State :=
  let w := s.shmx.walk
  (((s.wr 0 F.SHM_WALK_POS_BANK w.bank).wr 0 F.SHM_WALK_POS_ROW w.row).wr 0 F.SHM_WALK_POS_STEP step).wr 0 F.SHM_STATUS_WALKING (b2n (step != 0))

/-- The walker moves to its next row. -/
def walkNext (s : State) : State :=
  let w := s.shmx.walk
  let more := decide (w.row + 1 < bankRows w.bank) && !degraded s w.bank
  let (b, wrapped) := if more then (w.bank, false) else nextBank s (w.bank + 1)
  let t := { s with shmx := { s.shmx with walk := { w with bank := b, row := if more then w.row + 1 else 0, at_ := none, done := s.frc, starved := false } } }
  walkPos 0 (onlyIf wrapped (fun t => t.wr 0 F.SHM_WALK_COUNTS_PASSES (t.sh F.SHM_WALK_COUNTS_PASSES + 1)) t)

/-- WALK_ROW_START: ROW_GAP_US after the previous row. -/
def walkStart (s : State) : State :=
  let w := s.shmx.walk
  if s.sh F.SHM_CTRL_WALK_EN = 0 ∨ s.sh F.SHM_STATUS_SWEEP_DONE = 0 ∨ w.at_.isSome ∨ s.doorOpen .shm = false ∨ degraded s w.bank = true ∨
      s.frc < w.done + ticksOfNs (s.sh F.SHM_CTRL_ROW_GAP_US * 1000) then s
  else walkPos 1 { s with shmx := { s.shmx with walk := { w with at_ := some s.frc, starved := false } } }

def execWalkRowStart (s : State) : Host.Outcome State Fault Refusal := .next (walkStart s)

/-- WALK_ROW_DONE: the row is released, to a spare where the test found a mismatch (R483). -/
def walkDone (faulty : Bool) (s : State) : State :=
  let w := s.shmx.walk
  if w.at_.isNone then s
  else if !faulty then walkNext s
  else
    let b := w.bank
    let used := tgetD w.spares b 0
    if used < 4 then
      let t := { s with shmx := { s.shmx with walk := { w with spares := tset w.spares b (used + 1), remap := tset w.remap (b * 256 + w.row) used } } }
      walkNext (post Ev.SHM_REPAIRED b (t.wr 0 F.SHM_WALK_COUNTS_REPAIRS (t.sh F.SHM_WALK_COUNTS_REPAIRS + 1)))
    else
      let t := s.wr 0 (F.SHM_GRP_STATUS_DEGRADED (b / 16)) (setBitN (s.sh (F.SHM_GRP_STATUS_DEGRADED (b / 16))) (b % 16))
      let t := t.wr 0 F.SHM_STATUS_DEGRADED_BANKS ((List.range 272).filter (degraded t)).length
      raise 897 b 0 (walkNext (post Ev.SHM_REPAIR_FAIL b t))

def execWalkRowDone (faulty : Bool) (s : State) : Host.Outcome State Fault Refusal := .next (walkDone faulty s)

/-- WALK_STARVED: the row has been in steps 1 to 3 for longer than WALK_STALL_US (R482). -/
def walkStarved (s : State) : State :=
  let w := s.shmx.walk
  match w.at_ with
  | some t =>
    if w.starved || decide (s.frc ≤ t + ticksOfNs (s.sh F.SHM_CTRL_WALK_STALL_US * 10000)) then s
    else post Ev.SHM_WALK_STARVED w.bank { s with shmx := { s.shmx with walk := { w with starved := true } } }
  | none => s

def execWalkStarved (s : State) : Host.Outcome State Fault Refusal := .next (walkStarved s)

end Sys2Proof.Machine
end

