-- ==== Sys2Proof/Machine/SecCore.lean ====
section
/-! DEFINITION. What the security engines compute: authentication TLVs, their verification and transmit counters, nonces, cookies and seals
(R335, R336, R340 to R344, R348, R349, R354). -/

namespace Sys2Proof.Machine

/-! ### Operations (R335, R336) -/

/-- Count GMAC/HMAC operations over n covered octets. Requests are served one at a time, by engine 0. -/
def ghOps (n : Nat) (s : State) : State := count Ct.SEC_GH_OPS 0 (ceilDiv n 256) s

/-- Count AES-SIV operations. -/
def sivOps (k : Nat) (s : State) : State := count Ct.SEC_SIV_OPS 0 k s

/-! ### SAs -/

/-- The half that transmits (false A, true B). -/
def SaEnt.half (x : SaEnt) (b : Bool) : Option SaHalf := if b then x.b else x.a
def SaEnt.setHalf (x : SaEnt) (b : Bool) (h : Option SaHalf) : SaEnt := if b then { x with b := h } else { x with a := h }

/-- A half holds a key. -/
def halfLoaded (h : Option SaHalf) : Bool := (h.map fun x => !x.lost).getD false

/-- Octets of an SA's ICV (R343). -/
def icvLen (x : SaEnt) : Nat := if x.alg = 2 ∧ x.icv32 = true then 32 else 16

/-- The VALID SA of a tenant and SPP (R344). -/
def findSa (s : State) (tenant spp : Nat) : Option Nat :=
  (s.sec.sas.find? fun e => e.2.valid && e.2.tenant == tenant && e.2.spp == spp).map (·.1)

/-- The ICV over covered octets (R341, R343): `clockId` and `seqNo` form the GMAC IV. -/
def icvOf (x : SaEnt) (h : SaHalf) (clockId : Octets) (seqNo : Nat) (covered : Octets) : Octets :=
  if x.alg = 2 then (beBytes 32 (Config.hmac h.key covered).toNat).take (icvLen x)
  else beBytes 16 (Config.gmac (algLen x.alg) h.key (clockId ++ beBytes 4 seqNo) covered).toNat

/-- The octets an ICV covers: correctionField taken as 0 with CF_ZERO (R343). -/
def icvCovered (cfZero : Bool) (msg : Octets) : Octets := if cfZero then splice msg 8 (zeros 8) else msg

/-- How a transmit counter answers (R340): the sequenceNo, or the reason a message is dropped. -/
inductive SeqTake where
  | seq (n : Nat) (h : SaHalf)
  | exhausted
  | keyLost
  | absent
  deriving DecidableEq, Repr

/-- Allocate a sequenceNo of an SA's transmitting half; SEQ_LOW when the counter reaches 0xF000_0000. -/
def takeSeq (sa : Nat) (s : State) : SeqTake × State :=
  let x := s.sa sa
  if sa = 0 ∨ 4095 < sa ∨ !x.valid then (.absent, s)
  else match x.half x.tx with
    | none => (.absent, s)
    | some h =>
      if h.lost then (.keyLost, s)
      else if 0xFFFFFFFF ≤ h.ctr then
        (.exhausted, post Ev.SEC_SEQ_EXHAUSTED sa (s.wr 0 F.SEC_COUNTS0_SEQ_EXHAUSTED (s.sh F.SEC_COUNTS0_SEQ_EXHAUSTED + 1)))
      else
        let t := s.setSa sa (x.setHalf x.tx (some { h with ctr := h.ctr + 1 }))
        (.seq h.ctr h, onlyIf (h.ctr + 1 == 0xF0000000) (post Ev.SEC_SEQ_LOW sa) t)

/-- A request fails authentication: the counter and event of AUTH_FAIL, and the cause's event counter by tenant. -/
def authFail (cause tenant sa : Nat) (s : State) : State :=
  count cause tenant 1 (post Ev.SEC_AUTH_FAIL sa (s.wr 0 F.SEC_COUNTS0_AUTH_FAIL (s.sh F.SEC_COUNTS0_AUTH_FAIL + 1)))

/-! ### Received authentication TLVs (R342, R344) -/

/-- What a PTP message's TLVs say of authentication. -/
inductive AuthTlv where
  | none_
  | bad
  | tlv (off spp keyId : Nat) (seqNo : Option Nat) (icv : Octets)
  deriving DecidableEq, Repr

/-- Walk the TLVs of a message from an offset; `fuel` bounds the walk. -/
def findAuth (msg : Octets) (off : Nat) : Nat → AuthTlv
  | 0 => .none_
  | fuel + 1 =>
    if msg.length < off + 4 then .none_
    else
      let ty := ofBe (slice msg off 2)
      let len := ofBe (slice msg (off + 2) 2)
      if ty = 0x8009 then
        let ind := byteAt msg (off + 5)
        let hasSeq := bitOf ind 1
        let h := if hasSeq then 10 else 6
        if off + 4 + len ≠ msg.length ∨ bitOf ind 0 ∨ bitOf ind 2 ∨ len < h then .bad
        else .tlv off (byteAt msg (off + 4)) (ofBe (slice msg (off + 6) 4)) (if hasSeq then some (ofBe (slice msg (off + 10) 4)) else none)
          (msg.drop (off + 4 + h))
      else findAuth msg (off + 4 + len) fuel

/-- The outcome of a request's verification: unauthenticated, verified under an SA, or dropped for a cause under an SA. -/
inductive AuthResult where
  | plain
  | ok (sa : Nat)
  | drop (cause sa : Nat)
  | absent
  deriving DecidableEq, Repr

/-- Verify a PTP request (R342, R344). `body` is the offset of its TLVs, `ctxSa` the SA that its context names. -/
def verifyPtp (s : State) (tenant : Nat) (msg : Octets) (body : Nat) (ctxSa : Option Nat) : AuthResult :=
  match findAuth msg body msg.length with
  | .none_ => .plain
  | .bad => .drop Ct.SEC_BAD_FORMAT 0
  | .tlv off spp keyId seqNo icv =>
    if !s.doorOpen .sec then .absent
    else match findSa s tenant spp with
      | none => .drop Ct.SEC_NO_SA 0
      | some n =>
        let x := s.sa n
        if icv.length ≠ icvLen x ∨ (x.alg ≠ 2 ∧ seqNo.isNone) then .drop Ct.SEC_BAD_FORMAT n
        else
          let named : Option SaHalf → Bool := fun h => (h.map fun y => y.keyId == keyId).getD false
          match (if named x.a then x.a else if named x.b then x.b else none) with
          | none => .drop Ct.SEC_UNKNOWN_KEYID n
          | some h =>
            if h.lost then .drop Ct.SEC_KEY_LOST_DROP n
            else
              let covered := icvCovered x.cfZero (msg.take (off + 4 + (if seqNo.isSome then 10 else 6)))
              if icvOf x h (slice msg 20 8) (seqNo.getD 0) covered ≠ icv then .drop Ct.SEC_ICV_MISMATCH n
              else match ctxSa with
                | some c => if c ≠ 0 ∧ c ≠ n then .drop Ct.SEC_SA_MISMATCH n else .ok n
                | none => .ok n

/-! ### Sent authentication TLVs -/

/-- An authentication TLV with its ICV (Table 12.2). -/
def authTlv (x : SaEnt) (h : SaHalf) (seqNo : Nat) (icv : Octets) : Octets :=
  beBytes 2 0x8009 ++ beBytes 2 (10 + icvLen x) ++ oct [x.spp, 2] ++ beBytes 4 h.keyId ++ beBytes 4 seqNo ++ icv

/-- A PTP message with messageLength set. -/
def setPtpLen (msg : Octets) (n : Nat) : Octets := splice msg 2 (beBytes 2 n)

/-- A message with its authentication TLV, all its octets known (R345). -/
def sealPtp (x : SaEnt) (h : SaHalf) (seqNo : Nat) (msg : Octets) : Octets :=
  let m := setPtpLen msg (msg.length + 14 + icvLen x)
  let covered := icvCovered x.cfZero (m ++ (authTlv x h seqNo []))
  m ++ authTlv x h seqNo (icvOf x h (slice m 20 8) seqNo covered)

/-! ### NTS (R348, R349, R354) -/

/-- K_N of R354, derived from the root (Table 16.4). -/
def nonceKey (s : State) : Nat :=
  (Config.kdf 128 (s.ks.root.getD 0) (padTo 16 (oct [0x4E, 0x54, 0x53, 0x2D, 0x4E, 0x4F, 0x4E, 0x43, 0x45]))).toNat

/-- A fresh nonce of 16 octets: engine 0, run number, counter. Without K_N, which Proofing derives, it is free. -/
def takeNonce (s : State) : Octets × State :=
  let t := { s with sec := { s.sec with nonces := (s.sec.nonces + 1) % 2 ^ 64 } }
  if s.sh F.SEC_STATUS_NONCE_KEY = 0 then ((beBytes 16 (t.free 128).1), (t.free 128).2)
  else (beBytes 16 (Config.aesBlock (nonceKey s) (s.sh F.RST_FRC_RUN * 2 ^ 64 + s.sec.nonces)).toNat, t)

/-- Seal a plaintext: synthetic IV and ciphertext of the plaintext's length. -/
def sivSealOct (key : Nat) (ad nonce pt : Octets) : Octets :=
  let r := Config.sivSeal key ad nonce pt
  beBytes 16 r.1.toNat ++ padTo pt.length r.2

/-- Open a sealed string. -/
def sivOpenOct (key : Nat) (ad nonce ct : Octets) : Option Octets :=
  (Config.sivOpen key ad nonce (BitVec.ofNat 128 (ofBe (ct.take 16))) (ct.drop 16)).map (padTo (ct.length - 16))

/-- A cookie of 104 octets (Table 12.4). -/
def cookie (e : NtsEnt) (nonce c2s s2c : Octets) : Octets :=
  let pt := beBytes 2 15 ++ beBytes 2 e.owner ++ c2s ++ s2c
  beBytes 4 e.keyId ++ nonce ++ sivSealOct e.key (beBytes 4 e.keyId) nonce pt

/-- What a cookie gives: C2S and S2C, or nothing (R350). -/
def openCookie (s : State) (tenant : Nat) (o : Octets) : Option (Octets × Octets) :=
  match s.sec.nts.find? fun e => e.2.keyId == ofBe (o.take 4) && e.2.owner == tenant && !e.2.lost with
  | none => none
  | some e =>
    match sivOpenOct e.2.key (o.take 4) (slice o 4 16) (o.drop 20) with
    | none => none
    | some p => if ofBe (p.take 2) = 15 ∧ ofBe (slice p 2 2) = tenant then some (slice p 4 32, slice p 36 32) else none

/-- The tenant's CURRENT master key. -/
def currentNts (s : State) (tenant : Nat) : Option NtsEnt :=
  (s.sec.nts.find? fun e => e.2.state == 2 && e.2.owner == tenant).map (·.2)

end Sys2Proof.Machine
end

