-- ==== Sys2Proof/Machine/SveCore.lean ====
section
/-! DEFINITION. Received frames, classifier entries, client contexts, grants, profiles and the PTP messages that the serving engines build
(R296, R300 to R313, R316, R317, R321, R322). -/

namespace Sys2Proof.Machine

/-! ### Received frames (R299, R301) -/

/-- What the classifier reads of a frame: VLAN ID, offset of what follows the EtherType, encapsulation (0 Ethernet, 1 UDP/IPv4, 2 UDP/IPv6),
UDP destination port, offset of the payload, and the destination and source address as DST holds them. -/
structure Parsed where
  vlan : Option Nat
  l3 : Nat
  enc : Nat
  udp : Option Nat
  dport : Nat
  pay : Nat
  dst : Octets
  src : Octets
  ptp : Bool
  ntp : Bool
  deriving DecidableEq, Repr

def tpid (n : Nat) : Bool := n == 0x8100 || n == 0x88A8

/-- Parse a frame, from its destination address on. -/
def parse (f : Octets) : Parsed :=
  let tagged := tpid (ofBe (slice f 12 2))
  let l3 := if tagged then 18 else 14
  let et := ofBe (slice f (l3 - 2) 2)
  let vlan := if tagged then some (ofBe (slice f 14 2) % 4096) else none
  let mac (i : Nat) : Octets := padTo 16 (slice f i 6)
  let plain : Parsed := ⟨vlan, l3, 0, none, 0, l3, mac 0, mac 6, et == 0x88F7, false⟩
  let udpAt (enc u : Nat) (dst src : Octets) : Parsed :=
    let d := ofBe (slice f (u + 2) 2)
    ⟨vlan, l3, enc, some u, d, u + 8, dst, src, d == 319 || d == 320, d == 123⟩
  if et = 0x0800 then
    let ihl := 4 * (byteAt f l3 % 16)
    if byteAt f l3 / 16 = 4 ∧ byteAt f (l3 + 9) = 17 ∧ ofBe (slice f (l3 + 6) 2) % 16384 = 0 then
      udpAt 1 (l3 + ihl) (zeros 12 ++ slice f (l3 + 16) 4) (zeros 12 ++ slice f (l3 + 12) 4)
    else plain
  else if et = 0x86DD then
    if byteAt f (l3 + 6) = 17 then udpAt 2 (l3 + 40) (slice f (l3 + 24) 16) (slice f (l3 + 8) 16) else plain
  else plain

/-- Is the destination MAC a group address? -/
def isGroup (f : Octets) : Bool := bitOf (byteAt f 0) 0

/-- The UDP payload by its length field, or what follows the EtherType. -/
def payload (f : Octets) (p : Parsed) : Octets :=
  match p.udp with
  | some u => slice f p.pay (ofBe (slice f (u + 4) 2) - 8)
  | none => f.drop p.pay

/-- The PTP message of a frame, by its messageLength. -/
def ptpMessage (f : Octets) (p : Parsed) : Octets := let o := payload f p; o.take (ofBe (slice o 2 2))

def ptpType (m : Octets) : Nat := byteAt m 0 % 16

/-! ### Classifier entries (Table 11.2) -/

def entFlags (d : Octets) : Nat := ofLe (slice d 0 2)
def entValid (d : Octets) : Bool := bitOf (entFlags d) 0
def entAction (d : Octets) : Nat := bits (entFlags d) 1 3
def entTransport (d : Octets) : Nat := bits (entFlags d) 11 2
def entUnicastOnly (d : Octets) : Bool := bitOf (entFlags d) 13
def entPorts (d : Octets) : Nat := ofLe (slice d 2 2)
def entVlan (d : Octets) : Nat := ofLe (slice d 4 2) % 4096
def entTenant (d : Octets) : Nat := ofLe (slice d 6 2) % 512
def entDst (d : Octets) : Octets := slice d 8 16
def entDomain (d : Octets) : Nat := byteAt d 24
def entProfile (d : Octets) : Nat := byteAt d 25 % 16
def entClock (d : Octets) : Nat := ofLe (slice d 26 2) % 1024
def entHostQ (d : Octets) : Nat := ofLe (slice d 28 2)
def entPolicer (d : Octets) : Nat := ofLe (slice d 30 2) % 8192

def State.cls (s : State) (n : Nat) : ClsEntry := tgetD s.sve.cls n { data := zeros 32 }
def State.setCls (n : Nat) (e : ClsEntry) (s : State) : State := { s with sve := { s.sve with cls := tset s.sve.cls n e } }

/-- The snapshot of an entry as it stands. -/
def State.snap (s : State) (n : Nat) : EntrySnap := ⟨n, (s.cls n).data, (s.cls n).gen⟩

/-- Does an entry match a frame on a port (R299)? -/
def entMatches (d f : Octets) (p : Parsed) (port : Nat) : Bool :=
  let act := entAction d
  let t := entTransport d
  entValid d && bitOf (entPorts d) port && (t == 3 || t == p.enc) &&
    (!bitOf (entFlags d) 8 || p.vlan == some (entVlan d)) && (!bitOf (entFlags d) 9 || p.dst == entDst d) &&
    (act ≤ 1 || (if act = 3 then p.ntp else p.ptp)) &&
    (!(bitOf (entFlags d) 10 && p.ptp) || byteAt (payload f p) 4 == entDomain d)

/-- The first entry that matches. -/
def classify (s : State) (f : Octets) (p : Parsed) (port : Nat) : Option Nat :=
  (s.sve.cls.find? fun e => entMatches e.2.data f p port).map (·.1)

/-- A frame completes: it credits the counter of its snapshot's generation (R304). -/
def credit (x : EntrySnap) (s : State) : State :=
  let e := s.cls x.idx
  let age := (e.gen + 16 - x.gen) % 16
  s.setCls x.idx (if age = 0 then { e with cur := (e.cur + 1) % 2 ^ 32 }
    else if age = 1 then { e with prev := (e.prev + 1) % 2 ^ 32 }
    else { e with stale := (e.stale + 1) % 2 ^ 32 })

/-- Messages of an entry that are in the SVE. -/
def entMessages (s : State) (n : Nat) : List SveMsg :=
  ((s.sve.granted.map (·.2)).flatten ++ (s.sve.metered.map (·.2)).flatten ++ s.sve.sig).filter fun m => m.snap.idx == n

/-! ### Tenants -/

def State.ten (s : State) (t : Nat) : SveTen := tgetD s.sve.tens t {}
def State.setTen (t : Nat) (x : SveTen) (s : State) : State := { s with sve := { s.sve with tens := tset s.sve.tens t x } }

/-! ### Profiles -/

/-- A profile field as it is in force for a message built now: a write takes effect 64 ticks later (Table 11.15). -/
def profRd (s : State) (f : FieldRef) : Nat :=
  match s.sve.profOld.find? fun e => e.1 == f.key 0 && decide (s.frc < e.2.2 + 64) with
  | some e => e.2.1
  | none => s.sh f

/-- May a profile's KIND serve an entry (R310, Table 11.6)? -/
def kindAllows (s : State) (d : Octets) : Bool :=
  match profRd s (F.SVE_PROF_CFG_KIND (entProfile d)) with
  | 1 => entTransport d == 0 && !entUnicastOnly d
  | 2 => (entTransport d == 1 || entTransport d == 2) && entUnicastOnly d
  | _ => true

/-! ### Client contexts (R306 to R308) -/

def ctxBytes : Nat := 64

/-- SHM address of a context, and how many the region holds. -/
def ctxAddr (s : State) (n : Nat) : Option Nat := (regionBase s 0).map fun b => b + 64 * n
def ctxCount (s : State) : Nat := ((tget s.stw.regions 0).map fun r => r.2 / 64).getD 0

/-- The 64 octets of a context. -/
def ctxRead (s : State) (n : Nat) : Octets :=
  match ctxAddr s n with
  | some a => s.shmRead a 64
  | none => zeros 64

/-- The one write of a context (R297). -/
def ctxWrite (n : Nat) (o : Octets) (s : State) : State :=
  match ctxAddr s n with
  | some a => s.shmWrite a o
  | none => s

/-- Does a context lie in a poisoned word? -/
def ctxPoisoned (s : State) (n : Nat) : Bool :=
  match ctxAddr s n with
  | some a => s.shmPoisoned a 64
  | none => false

namespace Ctx
def flag (o : Octets) (i : Nat) : Bool := bitOf (ofLe (slice o 0 2)) i
def active (o : Octets) : Bool := flag o 0
def persist (o : Octets) : Bool := flag o 1
def mcast (o : Octets) : Bool := flag o 2
def v6 (o : Octets) : Bool := flag o 3
def l2 (o : Octets) : Bool := flag o 4
def twoStep (o : Octets) : Bool := flag o 5
def auth (o : Octets) : Bool := flag o 6
def btlv (o : Octets) : Bool := flag o 7
def entry (o : Octets) : Nat := ofLe (slice o 2 2) % 4096
def addr (o : Octets) : Octets := slice o 4 16
def clockId (o : Octets) : Octets := slice o 20 8
def portNum (o : Octets) : Nat := ofLe (slice o 28 2)
def nextHop (o : Octets) : Octets := slice o 30 6
def sa (o : Octets) : Nat := ofLe (slice o 36 2)
/-- Grant word: 0 Sync, 1 Announce, 2 Delay_Resp. -/
def grant (o : Octets) (g : Nat) : Nat := ofLe (slice o (38 + 4 * g) 4)
def setGrant (g w : Nat) (o : Octets) : Octets := splice o (38 + 4 * g) (leBytes 4 w)
def seq (o : Octets) (g : Nat) : Nat := ofLe (slice o (50 + 2 * g) 2)
def setSeq (g v : Nat) (o : Octets) : Octets := splice o (50 + 2 * g) (leBytes 2 v)
def reqCount (o : Octets) : Nat := ofLe (slice o 56 4)
def txCount (o : Octets) : Nat := ofLe (slice o 60 4)
def sent (o : Octets) : Octets := splice o 60 (leBytes 4 (txCount o + 1))
def requested (o : Octets) : Octets := splice o 56 (leBytes 4 (reqCount o + 1))
def setFlag (i : Nat) (b : Bool) (o : Octets) : Octets :=
  splice o 0 (leBytes 2 (if b then setBitN (ofLe (slice o 0 2)) i else clrBitN (ofLe (slice o 0 2)) i))
/-- The key of R306: entry, address, clockIdentity and portNumber; of a multicast context the entry alone. -/
def key (o : Octets) : Octets := if mcast o then slice o 2 2 else slice o 2 28
end Ctx

/-- The context of a key, unicast or multicast. -/
def findCtx (s : State) (mcast : Bool) (key : Octets) : Option Nat :=
  s.sve.dir.find? fun n => let o := ctxRead s n; Ctx.mcast o == mcast && Ctx.key o == key

/-- The key of a client by its request. -/
def clientKey (entry : Nat) (p : Parsed) (m : Octets) : Octets :=
  leBytes 2 entry ++ p.src ++ slice m 20 8 ++ leBytes 2 (ofBe (slice m 28 2))

/-- CTX_USED counts the contexts in use. -/
def syncCtxUsed (s : State) : State := s.wr 0 F.SVE_STATUS s.sve.dir.length

/-- Insert an index in a rising list. -/
def insertNat (n : Nat) : List Nat → List Nat
  | [] => [n]
  | k :: t => if n < k then n :: k :: t else if n = k then k :: t else k :: insertNat n t

def dirInsert (n : Nat) (s : State) : State := syncCtxUsed { s with sve := { s.sve with dir := insertNat n s.sve.dir } }
def dirRemove (n : Nat) (s : State) : State := syncCtxUsed { s with sve := { s.sve with dir := s.sve.dir.filter (· != n) } }

/-- The pipeline with the most remaining PIPE_RESV, the lowest-numbered on a tie (R321). -/
def bestPipe (s : State) : Nat :=
  let left : Nat → Int := fun p => (s.sh (F.SVE_PIPE_RESV p) : Int) - s.sh (F.SVE_PIPE_LOAD p)
  (List.range 8).foldl (fun b p => if left b < left p then p else b) 0

/-- A free context of a pipeline: the lowest index whose 64 octets are 0. -/
def freeCtx (s : State) (p : Nat) : Option Nat :=
  ((List.range (ctxCount s / 8)).map fun i => 8 * i + p).find? fun n => !s.sve.dir.contains n && !ctxPoisoned s n && ctxRead s n == zeros 64

/-! ### Grants (R315 to R318) -/

/-- messageType of a grant. -/
def grantType (g : Nat) : Nat := if g = 0 then 0x0 else if g = 1 then 0xB else 0x9
def grantOfType (t : Nat) : Option Nat := if t = 0x0 then some 0 else if t = 0xB then some 1 else if t = 0x9 then some 2 else none

def gwLog (w : Nat) : Int := sgn 4 (bits w 24 4)
def gwGranted (w : Nat) : Bool := bitOf w 28
def gwExpiry (w : Nat) : Nat := w % 2 ^ 24
def grantWord (expiry : Nat) (log : Int) : Nat := expiry % 2 ^ 24 + 2 ^ 24 * uns 4 log + 2 ^ 28

/-- Is a grant in force (R316)? A multicast grant lasts until its context is released. -/
def inForce (s : State) (o : Octets) (g : Nat) : Bool :=
  let w := Ctx.grant o g
  let d := wsub 24 (gwExpiry w) (s.frc / 2 ^ 26)
  gwGranted w && (Ctx.mcast o || (decide (1 ≤ d) && decide (d < 2 ^ 23)))

/-- EXPIRY of a grant of D seconds (R316). -/
def expiryOf (s : State) (d : Nat) : Nat := ((s.frc + d * ticksPerSec) / 2 ^ 26 + 1) % 2 ^ 24

/-- cost × 2^(−LOG) (R317). -/
def loadOf (cost : Nat) (log : Int) : Nat := if log ≤ 0 then cost * 2 ^ log.natAbs else cost / 2 ^ log.natAbs

/-- Pipeline and security cost (Table 11.8). -/
def pipeCost (g : Nat) (twoStep : Bool) : Nat := if g = 0 ∧ twoStep = true then 32 else 16
def secCost (g : Nat) (twoStep : Bool) : Nat := if (g = 0 ∧ twoStep = true) ∨ g = 2 then 32 else 16

/-- The load that a grant word of a context stands for; 0 where it is not GRANTED. -/
def grantLoad (o : Octets) (g : Nat) : Nat :=
  let w := Ctx.grant o g
  if gwGranted w then loadOf (pipeCost g (Ctx.twoStep o)) (gwLog w) else 0
def grantSecLoad (o : Octets) (g : Nat) : Nat :=
  let w := Ctx.grant o g
  if gwGranted w ∧ Ctx.auth o = true then loadOf (secCost g (Ctx.twoStep o)) (gwLog w) else 0

/-- Add and remove loads of a context's pipeline, its tenant and the security engines. -/
def moveLoad (pipe tenant add sub addSec subSec : Nat) (s : State) : State :=
  let t := s.wr 0 (F.SVE_PIPE_LOAD pipe) (s.sh (F.SVE_PIPE_LOAD pipe) + add - sub)
  let t := t.wr 0 F.SVE_SEC_LOAD (t.sh F.SVE_SEC_LOAD + addSec - subSec)
  let x := t.ten tenant
  t.setTen tenant { x with load := x.load + add - sub }

/-- The admission test of R317: the sums with the request's load and without that of the grant it replaces; a renewal whose load does not
rise is always admitted. -/
def admits (s : State) (renewal : Bool) (pipe tenant add sub addSec subSec : Nat) : Bool :=
  ((renewal && decide (add ≤ sub)) || (decide (s.sh (F.SVE_PIPE_LOAD pipe) + add - sub ≤ s.sh (F.SVE_PIPE_RESV pipe)) &&
      decide ((s.ten tenant).load + add - sub ≤ (s.ten tenant).max))) &&
    ((renewal && decide (addSec ≤ subSec)) || addSec == 0 || decide (s.sh F.SVE_SEC_LOAD + addSec - subSec ≤ s.sh F.SVE_SEC_RESV))

/-- The word of a cadence bitmap that holds a context's bits (R322). -/
def wheelAddr (s : State) (log : Int) (ctx : Nat) : Option Nat :=
  (regionBase s 1).map fun b => b + 2 ^ 20 + (log + 7).toNat * 2 ^ 18 + 4 * (ctx / 16)

/-- Set or clear the cadence bit of a Sync (0) or Announce (1) grant of a context. -/
def wheelBit (on : Bool) (log : Int) (g ctx : Nat) (s : State) : State :=
  if 1 < g ∨ log < -7 ∨ 4 < log then s
  else match wheelAddr s log ctx with
    | none => s
    | some a =>
      let w := ofLe (s.shmRead a 4)
      let i := 16 * g + ctx % 16
      s.shmWrite a (leBytes 4 (if on then setBitN w i else clrBitN w i))

/-- End a grant of a context's record (R319): its load and its bit go, and messages of it that are selected are revoked. -/
def endGrant (ctx tenant g : Nat) (o : Octets) (s : State) : Octets × State :=
  let w := Ctx.grant o g
  if !gwGranted w then (o, s)
  else
    let t := moveLoad (ctx % 8) tenant 0 (grantLoad o g) 0 (grantSecLoad o g) (wheelBit false (gwLog w) g ctx s)
    (Ctx.setGrant g 0 o, revoke (fun f => match f.msg with
      | some m => m.ctx == ctx && m.grant == g
      | none => false) t)

/-- End every grant of a context. -/
def endGrants (ctx tenant : Nat) (gs : List Nat) (o : Octets) (s : State) : Octets × State :=
  gs.foldl (fun r g => endGrant ctx tenant g r.1 r.2) (o, s)

/-- Free a context (R308). -/
def freeContext (ctx : Nat) (s : State) : State := ctxWrite ctx (zeros 64) (dirRemove ctx s)

/-! ### PTP messages (R311 to R313) -/

/-- Is a LEAP of one sense PENDING less than 86,400 s ahead (R313)? -/
def leapSoon (s : State) (n sense : Nat) : Bool :=
  (s.vc n).slots.any fun e => e.2.state == 1 && e.2.kind == 2 && e.2.a == sense && decide (e.2.tick < s.frc + 135000000000000)

def leap61 (s : State) (n : Nat) : Bool := leapSoon s n 0 || (s.vc n).leapUntil.isSome
def leap59 (s : State) (n : Nat) : Bool := leapSoon s n 1

/-- The profile's CLOCK_ID, first octet first. -/
def profClockId (s : State) (k : Nat) : Octets :=
  beBytes 4 (profRd s (F.SVE_PROF_CLKID_HI k)) ++ beBytes 4 (profRd s (F.SVE_PROF_CLKID_LO k))

/-- The two octets of flagField. -/
def ptpFlags (s : State) (k : Nat) (twoStep unicast : Bool) : Octets :=
  let u := profRd s (F.SVE_PROF_UTC_UTC_VC k)
  oct [2 * b2n twoStep + 4 * b2n unicast,
    b2n (leap61 s u) + 2 * b2n (leap59 s u) + 4 * profRd s (F.SVE_PROF_CFG_UTC_VALID k) + 8 * profRd s (F.SVE_PROF_CFG_PTP_TIMESCALE k) +
      16 * profRd s (F.SVE_PROF_CFG_TIME_TRACEABLE k) + 32 * profRd s (F.SVE_PROF_CFG_FREQ_TRACEABLE k)]

/-- controlField of a messageType. -/
def ptpControl (type : Nat) : Nat := if type = 0 then 0 else if type = 8 then 2 else if type = 9 then 3 else 5

/-- A PTP message: header and body, with messageLength set (Table 11.7). -/
def ptpMsg (s : State) (k type domain port : Nat) (twoStep unicast : Bool) (corr seqId : Nat) (log : Int) (body : Octets) : Octets :=
  oct [16 * profRd s (F.SVE_PROF_CFG_MAJOR_SDO k) + type, 0x12] ++ beBytes 2 (34 + body.length) ++
    oct [domain, profRd s (F.SVE_PROF_CFG_MINOR_SDO k)] ++ ptpFlags s k twoStep unicast ++ beBytes 8 corr ++ zeros 4 ++
    profClockId s k ++ beBytes 2 (port + 1) ++ beBytes 2 seqId ++ oct [ptpControl type, uns 8 log] ++ body

/-- Seconds (u48) and whole ns of a time, as ten octets. -/
def ptpTime (t : Int) : Octets :=
  let x := t96 t
  beBytes 6 (x / 2 ^ 48) ++ beBytes 4 (bits x 16 32)

/-- The 16-bit fraction of a time. -/
def ptpFrac (t : Int) : Nat := t96 t % 65536

/-- clockClass (R312). -/
def clockClass (s : State) (k : Nat) : Nat :=
  if profRd s (F.SVE_PROF_CFG_AUTO_CLASS k) = 0 then profRd s (F.SVE_PROF_DS0_CLASS_LOCKED k)
  else if s.sh F.SRV_STATUS_SYS_STATE = 2 then profRd s (F.SVE_PROF_DS0_CLASS_LOCKED k)
  else if s.sh F.SRV_STATUS_SYS_STATE = 3 ∧ bound s 0 s.frc 0 qTick ≤ 65536 * profRd s (F.SVE_PROF_DS2_HO_BOUND k) then
    profRd s (F.SVE_PROF_DS0_CLASS_HO k)
  else profRd s (F.SVE_PROF_DS1_CLASS_FREE k)

/-- The largest error that value 0x17 + i of the clockAccuracy enumeration of IEEE 1588-2019 stands for, in tenths of a ps: 1 ps, 2.5 ps, 10 ps
and so on to 1 s (i 24) and 10 s (i 25). -/
def accuracyStep (i : Nat) : Nat := if i = 25 then 10 ^ 14 else if i % 2 = 0 then 10 ^ (i / 2 + 1) else 25 * 10 ^ (i / 2)

/-- clockAccuracy (R312). -/
def clockAccuracy (s : State) (k clock : Nat) : Nat :=
  if profRd s (F.SVE_PROF_CFG_AUTO_ACC k) = 0 then profRd s (F.SVE_PROF_DS1_ACCURACY k)
  else
    let b := bound s clock s.frc 0 qTick
    if b = notBounded then 0xFE
    else match (List.range 26).find? fun i => decide (b * 10000 ≤ 256 * accuracyStep i) with
      | some i => 0x17 + i
      | none => 0x31

/-- Body of an Announce (Table 11.7). -/
def announceBody (s : State) (k clock : Nat) : Octets :=
  let u := profRd s (F.SVE_PROF_UTC_UTC_VC k)
  let off : Int := sgn 16 (profRd s (F.SVE_PROF_UTC_UTC_BASE k)) + (s.vc u).leapNet
  ptpTime (vcTime s clock (32 * s.frc)) ++ beBytes 2 (uns 16 off) ++ oct [0, profRd s (F.SVE_PROF_DS0_PRIORITY1 k), clockClass s k, clockAccuracy s k clock] ++
    beBytes 2 (profRd s (F.SVE_PROF_DS1_VARIANCE k)) ++ oct [profRd s (F.SVE_PROF_DS0_PRIORITY2 k)] ++ profClockId s k ++ zeros 2 ++
    oct [profRd s (F.SVE_PROF_DS2_TIME_SOURCE k)]

/-- BND_TLV_CTRL's bit of a messageType. -/
def tlvCtrl (s : State) (type : Nat) : Bool :=
  s.sh (if type = 0 then F.BND_TLV_CTRL_SYNC else if type = 8 then F.BND_TLV_CTRL_FOLLOW_UP else if type = 9 then F.BND_TLV_CTRL_DELAY_RESP
    else F.BND_TLV_CTRL_ANNOUNCE) == 1

/-- Does a message of a type carry the bound TLV (R92)? -/
def carriesTlv (s : State) (o : Octets) (type : Nat) : Bool := s.sh F.BND_TLV_OUI != 0 && tlvCtrl s type && Ctx.btlv o

/-- A PTP message of a context with its bound TLV at a tick, or without it: NO_OUI where there is no OUI (R92). -/
def withTlv (o : Octets) (type clock f p : Nat) (m : Octets) (s : State) : Octets × State :=
  if carriesTlv s o type then
    let x := m ++ boundTlv s clock f p qPort
    (setPtpLen x x.length, s)
  else (m, onlyIf (s.sh F.BND_TLV_OUI == 0) (post Ev.BND_NO_OUI 0) s)

/-! ### Encapsulation -/

/-- The Internet checksum over octets. -/
def onesSum : Octets → Nat
  | [] => 0
  | [a] => a.toNat * 256
  | a :: b :: t => a.toNat * 256 + b.toNat + onesSum t

def onesFold (n : Nat) : Nat := if n = 0 then 0 else (n - 1) % 65535 + 1
def inetSum (o : Octets) : Nat := 65535 - onesFold (onesSum o)

/-- A UDP datagram's checksum as it is sent. -/
def udpSum (pseudo dgram : Octets) : Nat := let c := inetSum (pseudo ++ dgram); if c = 0 then 0xFFFF else c

/-- A UDP datagram from octets of the addresses. -/
def udpDgram (pseudo : Octets) (sport dport : Nat) (pl : Octets) : Octets :=
  let n := 8 + pl.length
  let h := beBytes 2 sport ++ beBytes 2 dport ++ beBytes 2 n
  let c := udpSum (pseudo ++ beBytes 2 n) (h ++ zeros 2 ++ pl)
  h ++ beBytes 2 c ++ pl

/-- An IPv4 packet with a UDP datagram. -/
def ip4Packet (src dst : Octets) (sport dport : Nat) (pl : Octets) : Octets :=
  let d := udpDgram (src ++ dst ++ oct [0, 17]) sport dport pl
  let c := beBytes 6 Config.ip4Fields.toNat
  let h (sum : Nat) : Octets :=
    oct [0x45] ++ c.take 1 ++ beBytes 2 (20 + d.length) ++ slice c 1 4 ++ c.drop 5 ++ oct [17] ++ beBytes 2 sum ++ src ++ dst
  h (inetSum (h 0)) ++ d

/-- An IPv6 packet with a UDP datagram. -/
def ip6Packet (src dst : Octets) (sport dport : Nat) (pl : Octets) : Octets :=
  let d := udpDgram (src ++ dst ++ zeros 2 ++ oct [0, 17]) sport dport pl
  let c := Config.ip6Fields.toNat
  beBytes 4 (6 * 2 ^ 28 + c / 256 % 2 ^ 28) ++ beBytes 2 d.length ++ oct [17, c % 256] ++ src ++ dst ++ d

/-- Where a message goes: destination MAC, source MAC, VLAN tag octets, encapsulation, addresses as DST holds them, UDP ports. -/
structure Route where
  dmac : Octets
  smac : Octets
  tag : Octets
  enc : Nat
  src : Octets
  dst : Octets
  sport : Nat
  dport : Nat
  deriving DecidableEq, Repr

/-- The frame of a payload, without FCS, and the offset of its payload. -/
def wrapFrame (r : Route) (pl : Octets) : Octets × Nat :=
  let l2 := r.dmac ++ r.smac ++ r.tag
  match r.enc with
  | 1 => (l2 ++ beBytes 2 0x0800 ++ ip4Packet (r.src.drop 12) (r.dst.drop 12) r.sport r.dport pl, l2.length + 30)
  | 2 => (l2 ++ beBytes 2 0x86DD ++ ip6Packet r.src r.dst r.sport r.dport pl, l2.length + 50)
  | _ => (l2 ++ beBytes 2 0x88F7 ++ pl, l2.length + 2)

/-- The device's own address on a port, as DST holds it. -/
def ownAddr (n enc : Nat) : Octets :=
  match enc with
  | 1 => zeros 12 ++ beBytes 4 (Config.portIp4 n).toNat
  | 2 => beBytes 16 (Config.portIp6 n).toNat
  | _ => padTo 16 (beBytes 6 (Config.portMac n).toNat)

def ownMac (n : Nat) : Octets := beBytes 6 (Config.portMac n).toNat

/-- The route of an answer to a frame received on a port: to its sender, or to the group it was sent to (R324, R326). -/
def replyRoute (n : Nat) (f : Octets) (p : Parsed) (toGroup : Bool) (sport dport : Nat) : Route :=
  let grp := isGroup f
  { dmac := if toGroup && grp then slice f 0 6 else slice f 6 6
    smac := if grp then ownMac n else slice f 0 6
    tag := if p.l3 = 18 then slice f 12 4 else []
    enc := p.enc
    src := if grp then ownAddr n p.enc else p.dst
    dst := if toGroup && grp then p.dst else p.src
    sport := sport, dport := dport }

/-- The group MAC of an IP group. -/
def groupMac (enc : Nat) (a : Octets) : Octets :=
  if enc = 1 then oct [0x01, 0x00, 0x5E, byteAt a 13 % 128] ++ a.drop 14
  else oct [0x33, 0x33] ++ a.drop 12

/-- The route of a message of a context by its record and its entry (R323): NEXT_HOP and ADDR, or the group in ADDR. -/
def ctxRoute (n : Nat) (o d : Octets) (udp : Nat) : Route :=
  let enc := if Ctx.l2 o then 0 else if Ctx.v6 o then 2 else 1
  let a := Ctx.addr o
  { dmac := if Ctx.mcast o then (if enc = 0 then a.take 6 else groupMac enc a) else Ctx.nextHop o
    smac := ownMac n
    tag := if bitOf (entFlags d) 8 then beBytes 2 0x8100 ++ beBytes 2 (entVlan d) else []
    enc := enc, src := ownAddr n enc, dst := a, sport := udp, dport := udp }

/-- The egress port of a message that no frame asked for: the entry's port. Where PORTS names several, the manual does not say which: a free
choice among them. -/
def ctxPort (d : Octets) (s : State) : Nat × State :=
  let ps := (List.range 16).filter fun n => bitOf (entPorts d) n
  match ps with
  | [n] => (n, s)
  | _ =>
    let r := s.free 16
    ((ps[r.1 % ps.length]?).getD 0, r.2)

/-! ### Hand-over to the scheduler (R360, R361) -/

/-- The queue of a tenant's message on a port: c is 0 for GRANTED, 1 for METERED. -/
def sveQueue (s : State) (tenant port c : Nat) : Nat := tgetD s.sch.qbase tenant 0 + 2 * port + c

/-- Hand a frame to the scheduler: whether it was taken. -/
def sveSend (tenant port c : Nat) (f : TxFrame) (s : State) : Bool × State :=
  if !s.doorOpen .sch then (false, s)
  else
    let r := enqueue port (sveQueue s tenant port c) f s
    (r.1.isNone, r.2)

/-- The actions that complete a message at egress: UDP_CSUM where anything is written into a UDP datagram. -/
def csumOps (r : Route) (pay : Nat) (ops : List (Nat × Nat)) : List (Nat × Nat) :=
  if ops.isEmpty || r.enc == 0 then ops else ops ++ [(6, pay - 2)]

/-! ### Pipelines (R295, R296) -/

/-- Put a message in the GRANTED FIFO of a pipeline. -/
def pushGranted (p : Nat) (m : SveMsg) (s : State) : State :=
  syncPipe p { s with sve := { s.sve with granted := tset s.sve.granted p (tgetD s.sve.granted p [] ++ [m]) } }

def pushMetered (p : Nat) (m : SveMsg) (s : State) : State :=
  syncPipe p { s with sve := { s.sve with metered := tset s.sve.metered p (tgetD s.sve.metered p [] ++ [m]) } }

def meteredDepth (s : State) (p : Nat) : Nat := (tgetD s.sve.metered p []).length

/-- The pipeline with the shortest METERED FIFO, the lowest-numbered on a tie (R296). -/
def shortestPipe (s : State) : Nat :=
  (List.range 8).foldl (fun b p => if meteredDepth s p < meteredDepth s b then p else b) 0

/-- The next message of a pipeline, and whether it is of the GRANTED class (R295). -/
def nextMsg (s : State) (p : Nat) : Option (SveMsg × Bool) :=
  match tgetD s.sve.granted p [] with
  | m :: _ => some (m, true)
  | [] => (tgetD s.sve.metered p []).head?.map fun m => (m, false)

/-- Take the next message out of its FIFO. -/
def popMsg (p : Nat) (granted : Bool) (s : State) : State :=
  syncPipe p { s with sve :=
    if granted then { s.sve with granted := tset s.sve.granted p ((tgetD s.sve.granted p []).drop 1) }
    else { s.sve with metered := tset s.sve.metered p ((tgetD s.sve.metered p []).drop 1) } }

/-- Count an answer of a class. -/
def served (granted : Bool) (tenant : Nat) (s : State) : State :=
  count (if granted then Ct.SVE_SERVED_GRANTED else Ct.SVE_SERVED_METERED) tenant 1 s

end Sys2Proof.Machine
end

