-- ==== Sys2Proof/Machine/Egress.lean ====
section
/-! DEFINITION. A frame enters the MAC: its action block, the egress pass, its records and its line time (R278, R279, R283 to R290, R346, R353, R370,
R377). -/

namespace Sys2Proof.Machine

/-! ### The action block (R289) -/

/-- Octets that an operation writes. -/
def opLen (op : Nat) : Nat := match op with
  | 1 => 10
  | 2 => 8
  | 3 => 8
  | 4 => 5
  | 5 => 4
  | 6 => 2
  | _ => 0

def rangesMeet (a b : Nat × Nat) : Bool := decide (a.2 < b.2 + opLen b.1) && decide (b.2 < a.2 + opLen a.1)

/-- Do two written ranges of a list overlap? -/
def anyMeet : List (Nat × Nat) → Bool
  | [] => false
  | a :: t => t.any (rangesMeet a) || anyMeet t

/-- Is an action block invalid for a frame (R289)? -/
def actionBad (f : TxFrame) : Bool :=
  let ops := (actOps f.act).filter fun o => o.1 != 0
  let p := parse f.octets
  anyMeet ops || ops.any fun o => o.1 == 7 || decide (f.len - 4 < o.2 + opLen o.1) || (o.1 == 6 && p.enc == 0)

/-! ### The egress pass (R287, R288) -/

/-- The NTP timestamp format of a time. -/
def ntpTime (t : Int) : Octets :=
  let x := t96 t
  beBytes 4 ((x / 2 ^ 48 + 2208988800) % 2 ^ 32) ++ beBytes 4 ((bits x 16 32 * 65536 + x % 65536) * 2 ^ 32 / (1000000000 * 65536))

/-- What an operation writes at its offset. -/
def opValue (o : Octets) (op off : Nat) (time : Int) (b : Nat) : Octets :=
  match op with
  | 1 => ptpTime time
  | 2 => beBytes 8 (ofBe (slice o off 8) + ptpFrac time)
  | 3 => ntpTime time
  | 4 => beBytes 5 b
  | 5 => beBytes 4 (rootDispersion b)
  | _ => []

/-- Operations 1 to 5 in action order. -/
def applyOps (o : Octets) (time : Int) (b : Nat) : List (Nat × Nat) → Octets
  | [] => o
  | (op, off) :: t => applyOps (if op = 0 ∨ 6 ≤ op then o else splice o off (opValue o op off time b)) time b t

/-- The ICV of a one-step message over its final octets, which is what the completion of R346 gives. -/
def completeIcv (x : IcvFix) (o : Octets) : Octets :=
  splice o x.icv (beBytes 16 (Config.gmac x.klen x.key x.nonce (icvCovered x.cfZero ((o.take x.icv).drop x.hdr))).toNat)

/-- The sum of the changes between two frames of one length in 16-bit words aligned with an offset, as a number and modulo 65,535. -/
def csumDelta (off : Nat) : Octets → Octets → Nat → Int
  | a :: t, b :: u, i => ((b.toNat : Int) - a.toNat) * (if i % 2 = off % 2 then 256 else 1) + csumDelta off t u (i + 1)
  | _, _, _ => 0

/-- UDP_CSUM (R287): the checksum at the offset, updated for every octet that changed. -/
def fixCsum (old new : Octets) (off : Nat) : Octets :=
  let c := ofBe (slice old off 2)
  let v4 := (parse old).enc == 1
  if c == 0 && v4 then new
  else
    let x := (((65535 - c : Nat) : Int) + csumDelta off old new 0) % 65535
    let r := 65535 - (if x = 0 then 65535 else x.toNat)
    splice new off (beBytes 2 (if r = 0 then 0xFFFF else r))

/-- The octets of a frame, padded to 60, after its egress pass and without FCS. -/
def egressPass (f : TxFrame) (time : Int) (b : Nat) : Octets :=
  let ops := actOps f.act
  let base := padTo (max 60 f.octets.length) f.octets
  let o := applyOps base time b ops
  let o := match f.icv with
    | some x => completeIcv x o
    | none => o
  match ops.find? fun p => p.1 == 6 with
  | some p => fixCsum base o p.2
  | none => o

/-- The FCS: CRC-32, least significant octet first. -/
def withFcs (o : Octets) : Octets := o ++ leBytes 4 (crc32 o)

/-! ### PRT_FRAME_TX -/

/-- Is b a position of the first bit after the SFD in a boundary unit of a mode (Table 10.3)? -/
def bitPosOk (s : State) (n b : Nat) : Bool :=
  let m := portMode s n
  let f := s.sh (F.PRT_PORT_CFG_FEC n)
  if m ≤ 1 then b == 0
  else if m = 2 ∨ (m = 3 ∧ f = 0) then b == 2 || b == 34
  else if m = 3 ∨ m = 5 then decide (b < 5280)
  else decide (b < 5440)

/-- Count a discarded frame in TX_DISCARD. -/
def txDiscard (n cause : Nat) (f : TxFrame) (s : State) : State :=
  portDiscard n cause f (s.wr 0 (F.PRT_PORT_COUNTS_TX_DISCARD n) (s.sh (F.PRT_PORT_COUNTS_TX_DISCARD n) + 1))

/-- What follows the egress stamp of a two-step Sync: its Follow_Up enters its pipeline in the GRANTED class (R311). -/
def syncReturned (n : Nat) (f : TxFrame) (x32 : Nat) (time : Int) (s : State) : State :=
  match f.msg with
  | some m => match m.sync with
    | some (snap, seqId) =>
      if s.doorOpen .sve then
        pushGranted (m.ctx % 8) { kind := .followUp, port := n, snap := snap, ctx := some m.ctx, time := time, x32 := x32, seqId := seqId } s
      else s
    | none => s
  | none => s

/-- A frame is sent: `x32` and `b` are its boundary stamp and its position, `free` the instant at which the line is free again. -/
def sendFrame (n : Nat) (f : TxFrame) (x32 b : Nat) (free : Rat) (s : State) : State :=
  let v := actClock f.act
  let c := stampTx s n b
  let cA := c + (if actNoAsym f.act then 0 else stampA s n)
  let time := stampTime s v x32 cA
  let frc := stampFrc x32 cA
  let bnd := bound s v (frcTick frc) (n + 1) qPort
  let o := withFcs (egressPass f time bnd)
  let frcC := stampFrc x32 c
  let s := s.setPrtPort n { s.prtPort n with freeAt := free, sent := o }
  let s := count Ct.PRT_TX_BYTES n (f.len + 20) s
  let s := onlyIf (actTsReq f.act) (tsrWrite (prtTsr n 1) (fun seq =>
    tsrOctets frcC 1 (uncal s (n + 1)) false n 0 (s.sh (F.PRT_PORT_STATUS_LINK_GEN n) % 256) seq (actTag f.act) (stampTime s v x32 c) v f.len)) s
  let s := onlyIf f.revoked (fun s =>
    post Ev.SCH_SENT_REVOKE n (s.wr 0 (F.SCH_PORT_REVOKE_SENT_REVOKE n) (s.sh (F.SCH_PORT_REVOKE_SENT_REVOKE n) + 1))) s
  let s := writeSample n f s
  let s := match f.host with
    | some h => txComplete h Code.ok 0 (frcTick frcC) s
    | none => s
  syncReturned n f frc time s

/-- Offer a frame to the MAC: a remote fault and an invalid action block discard it (R278, R289). -/
def offerFrame (n : Nat) (f : TxFrame) (x32 b : Nat) (free : Rat) (s : State) : State :=
  if s.sh (F.PRT_PORT_STATUS_REMOTE_FAULT n) = 1 then txDiscard n TxCause.notSent f s
  else if actionBad f then post Ev.PRT_ACTION_ERR n (txDiscard n TxCause.actionErr f s)
  else sendFrame n f x32 b free s

/-- The first selected reservation that can still enter the MAC 25.6 ns before its start (R353). -/
def dueLaunch (s : State) (n : Nat) : Option Launch :=
  (s.schPort n).launches.find? fun l => l.selected && decide ((s.frc : Rat) + 40 ≤ l.start)

/-- The head of the pipeline enters the MAC if the line is free and it fits; if it no longer fits it is held, which counts once (R377). -/
def headTx (n : Nat) (f : TxFrame) (rest : List TxFrame) (x32 b : Nat) (s : State) : State :=
  let p := s.schPort n
  let now : Rat := s.frc
  if frameFits s n f now then
    if bitPosOk s n b then offerFrame n f x32 b (now + lineTicks s n f.len) (s.setSchPort n { p with pipe := rest }) else s
  else if f.held then s
  else
    (s.setSchPort n { p with pipe := { f with held := true } :: rest }).wr 0 (F.SCH_PORT_COUNTS_GATE_HOLD n) (s.sh (F.SCH_PORT_COUNTS_GATE_HOLD n) + 1)

/-- A reserved launch enters the MAC with the stamp that its reservation fixed. -/
def launchTx (n : Nat) (l : Launch) (s : State) : State :=
  let p := s.schPort n
  offerFrame n l.frame l.x32 l.b l.end_ (s.setSchPort n { p with launches := p.launches.erase l })

/-- PRT_FRAME_TX: the port takes the next frame of its egress pipeline into the MAC. -/
def frameTx (n x32 b : Nat) (s : State) : State :=
  if s.safe || !s.doorOpen .prt || !portUp s n || decide ((s.frc : Rat) < (s.prtPort n).freeAt) then s
  else match (s.schPort n).pipe with
    | f :: rest =>
      match dueLaunch s n with
      | some l => if (s.frc : Rat) + lineTicks s n f.len ≤ l.start then headTx n f rest x32 b s else launchTx n l s
      | none => headTx n f rest x32 b s
    | [] => match dueLaunch s n with
      | some l => launchTx n l s
      | none => s

/-- PRT_FRAME_TX: the stamp of the frame's boundary and the position b. -/
def execPrtFrameTx (port : Fin 16) (tick : BitVec 64) (phase : Fin 32) (b : BitVec 13) (s : State) : Host.Outcome State Fault Refusal :=
  .next (frameTx port.val (32 * tick.toNat + phase.val) b.toNat s)

/-- LAUNCH_MISS: a sealed response that has not entered the MAC 25.6 ns before its reserved start is discarded (R353). -/
def launchMissed (n : Nat) (s : State) : State :=
  let p := s.schPort n
  match p.launches.find? fun l => decide (l.start < (s.frc : Rat) + 40) with
  | some l => launchMiss (s.setSchPort n { p with launches := p.launches.erase l })
  | none => s

def execLaunchMiss (port : Fin 16) (s : State) : Host.Outcome State Fault Refusal := .next (launchMissed port.val s)

end Sys2Proof.Machine
end

