-- ==== Sys2Proof/Machine/Mate.lean ====
section
/-! DEFINITION. The mate pair: health and claim, Toffee, the heartbeat, the state machine, and tracking (R419 to R434). -/

namespace Sys2Proof.Machine

/-- The pair is set up, and Proofing has entered the mate state (R420, R425). -/
def mateRuns (s : State) : Bool := s.sh F.MATE_CTRL_MATE_EN == 1 && s.sh F.RST_STATUS_PROOF_DONE == 1

/-! ### Tracking (R430, R432) -/

/-- |x| in a unit of 1/k ns within TRACK_10PS × 10 ps. -/
def trackNear (s : State) (x : Int) (k : Nat) : Bool := decide (x.natAbs * 100 ≤ s.sh F.MATE_TIMERS_TRACK_10PS * k)

/-- The conditions of R432. -/
def trackOk (s : State) : Bool :=
  selState s 0 == selSELECTED && selected s 0 == some 27 && trackNear s (sgn 64 (s.rd64 0 (F.UBW_PORT_OFFSET_LO 4) (F.UBW_PORT_OFFSET_HI 4))) 65536 &&
    s.mate.obs.all fun n => trackNear s (sgn 32 (s.sh (F.MATE_OBS n))) 256

/-- TRACK_OK follows its conditions; each change to 0 posts TRACK_LOST. -/
def syncTrack (s : State) : State :=
  let ok := trackOk s
  onlyIf (!ok && s.sh F.MATE_STATUS_TRACK_OK == 1) (post Ev.MATE_TRACK_LOST 0) (s.wr 0 F.MATE_STATUS_TRACK_OK (b2n ok))

/-! ### Health and claim (R421, R422) -/

/-- A synthesiser that feeds an enabled shared output is not LOCKED. -/
def sharedUnlocked (s : State) : Bool :=
  (List.range 20).any fun n => s.ef (F.OUT_CLK_CFG_EN n) == 1 && s.ef (F.OUT_CLK_CFG_SHARED n) == 1 && synState s (s.ef (F.OUT_CLK_CFG_SRC n)) != syLOCKED

/-- The conditions of Table 15.1, with their weights. -/
def healthConds (s : State) : List (Bool × Nat) :=
  let d := s.sh F.SRV_STATUS_SYS_STATE
  let susp := match selected s 0 with
    | some n => slotState s n == stSUSPECT
    | none => false
  [(d == dpHOLD, s.sh F.MATE_HEALTH_W0_W_HOLDOVER),
   (d == dpFREE || d == dpMANUAL || !vc0Rat s, s.sh F.MATE_HEALTH_W0_W_FREE),
   (decide (s.sh F.MATE_HEALTH_BOUND_LIM_NS * 256 < bound s 0 s.frc 0 qTick), s.sh F.MATE_HEALTH_W0_W_BOUND),
   (sharedUnlocked s, s.sh F.MATE_HEALTH_W0_W_SYNTH),
   (susp, s.sh F.MATE_HEALTH_W1_W_SUSPECT),
   (mateState s != mtACTIVE && s.sh F.MATE_STATUS_TRACK_OK == 0, s.sh F.MATE_HEALTH_W1_W_TRACK),
   ((List.range 24).any fun b => s.sh (F.FLT_BLK_STATUS_DOOR b) != 0, s.sh F.MATE_HEALTH_W1_W_FAULT),
   (s.sh F.MATE_HEALTH_W1_SW_PENALTY != 0, s.sh F.MATE_HEALTH_W1_SW_PENALTY)]

/-- The claim for the HEALTH register's value. -/
def claimOf (s : State) : Nat :=
  if s.sh F.MATE_CTRL_BASE = 0 ∨ s.sh F.MATE_CTRL_FORCE_OUT = 1 ∨ s.sh F.MATE_STATUS_SIDE_CONFLICT = 1 ∨ s.safe = true ∨ s.pwr.deep ≠ 0 ∨
      s.sh F.RST_STATUS_PROOF_DONE = 0 then 0
  else s.sh F.MATE_CTRL_BASE * 256 + s.sh F.MATE_HEALTH_HEALTH * 2 + s.sh F.MATE_STATUS_SIDE

def syncClaim (s : State) : State := s.wr 0 F.MATE_STATUS_CLAIM (claimOf s)

/-- HEALTH, CONDITIONS and CLAIM at the departure of a marker on M (R422). -/
def evalHealth (s : State) : State :=
  let cs := healthConds s
  let conds := (cs.zipIdx.filter (·.1.1)).foldl (fun a e => a + 2 ^ e.2) 0
  let sum := ((cs.filter (·.1)).map (·.2)).sum
  syncClaim ((s.wr 0 F.MATE_HEALTH_HEALTH (127 - sum)).wr 0 F.MATE_HEALTH_CONDITIONS conds)

/-! ### The state machine (Table 15.3) -/

/-- What has just happened, of the triggers of Table 15.3 that are events. -/
inductive MateEv where
  | silent | solo | toffee | marker | contention | other
  deriving DecidableEq, Repr

def peerClaim (s : State) : Nat := s.sh F.MATE_PEER0_PEER_CLAIM
def peerState (s : State) : Nat := s.sh F.MATE_PEER0_PEER_STATE % 4
def peerTrack (s : State) : Bool := bitOf (s.sh F.MATE_PEER0_PEER_STATE) 5
def hbFault (s : State) : Bool := s.sh F.MATE_STATUS_HB_FAULT == 1
def toffeeFresh (s : State) : Bool := s.sh F.MATE_STATUS_TOFFEE_FRESH == 1

/-- The HOLD conditions. -/
def holdOk (s : State) : Bool :=
  peerState s == mtACTIVE && s.sh F.MATE_CTRL_REVERTIVE == 1 && s.sh F.MATE_STATUS_TRACK_OK == 1 &&
    decide (peerClaim s + s.sh F.MATE_TIMERS_HYST ≤ s.sh F.MATE_STATUS_CLAIM)

/-- The triggers by which a unit that is not ACTIVE takes the nets. -/
def takesNets (ev : MateEv) (s : State) : Bool :=
  let silent := s.sh F.MATE_STATUS_HB_SEEN == 0
  let standby := mateState s == mtSTANDBY
  if hbFault s then ev == .toffee && (peerClaim s == 0 || peerState s == mtOUT)
  else ev == .silent ||
    (standby && silent && toffeeFresh s && (decide (peerClaim s < s.sh F.MATE_STATUS_CLAIM) || peerClaim s == 0)) ||
    (standby && silent && ev == .solo && s.mate.toffee.isNone &&
      decide (max s.mate.from_ s.mate.silentAt + ticksOfMs (s.sh F.MATE_TIMERS_SOLO_MS) ≤ s.frc))

/-- One evaluation of the triggers; OUT comes first. -/
def mateStep (ev : MateEv) (s : State) : State :=
  if !mateRuns s then s
  else if s.sh F.MATE_STATUS_CLAIM = 0 then mateEnter mtOUT s
  else
    let s := if mateState s = mtOUT then mateEnter mtSTANDBY s else s
    let st := mateState s
    if st = mtACTIVE then
      (if (ev = .contention ∧ s.sh F.MATE_STATUS_SIDE = 1) ∨ (ev = .marker ∧ s.mate.leaving = true) then mateEnter mtSTANDBY s else s)
    else if takesNets ev s then mateEnter mtACTIVE s
    else if st = mtSTANDBY then (if holdOk s && toffeeFresh s then mateEnter mtHOLD s else s)
    else if holdOk s then s else mateEnter mtSTANDBY s

/-- HEALTH is 0 and Toffee reports the mate with a claim and TRACK_OK: the unit withdraws at its next marker (Table 15.3). -/
def noteCollapse (s : State) : State :=
  if mateState s = mtACTIVE ∧ toffeeFresh s = true ∧ s.sh F.MATE_HEALTH_HEALTH = 0 ∧ peerClaim s ≠ 0 ∧ peerTrack s = true then
    { s with mate := { s.mate with leaving := true } }
  else s

/-- HEALTH_EVAL: an own marker departs from M. -/
def mateMarker (s : State) : State :=
  if !mateRuns s then s else noteCollapse (mateStep .marker (evalHealth (syncTrack s)))

/-! ### Toffee (R423, R428) -/

/-- The seconds of hold-off still to run. -/
def holdSeconds (s : State) : Nat :=
  match s.mate.holdEnd with
  | some t => if mateState s = mtHOLD then min 0xFFFF (ceilDiv (t - s.frc) ticksPerSec) else 0
  | none => 0

/-- Octets 44 to 59 of a timing message on M (Table 15.2). -/
def toffeeData (s : State) : Octets :=
  let st := mateState s + 4 * s.sh F.MATE_STATUS_DRIVING + 8 * s.sh F.MATE_STATUS_TAKE + 16 * s.sh F.MATE_STATUS_HB_SEEN +
    32 * s.sh F.MATE_STATUS_TRACK_OK + 64 * s.sh F.MATE_STATUS_SIDE + 128 * s.sh F.MATE_CTRL_REVERTIVE
  beBytes 2 (s.sh F.MATE_STATUS_CLAIM) ++ oct [st, s.sh F.MATE_HEALTH_CONDITIONS] ++ beBytes 4 (s.sh F.MATE_COUNTS_SWITCHES) ++
    beBytes 2 (holdSeconds s) ++ zeros 6

/-- BOTH_PATHS_DOWN is set while HB_FAULT is 1 and Toffee is not fresh. -/
def syncPaths (s : State) : State :=
  let down := hbFault s && !toffeeFresh s
  let was := s.sh F.MATE_STATUS_BOTH_PATHS_DOWN == 1
  let t := s.wr 0 F.MATE_STATUS_BOTH_PATHS_DOWN (b2n down)
  if down && !was then raise 1025 0 0 (post Ev.MATE_BOTH_PATHS_DOWN 0 t) else t

/-- Ticks of a superframe. -/
def sfTicks : Nat := 163840

/-- The mate's DRIVING bit against the own heartbeat over the preceding superframe (R428). -/
def pathCheck (s : State) : State :=
  let drives := bitOf (s.sh F.MATE_PEER0_PEER_STATE) 2
  let seen := s.sh F.MATE_STATUS_HB_SEEN == 1
  let wrong := if drives then !seen && decide (s.mate.silentAt + sfTicks ≤ s.frc) else seen && decide (s.mate.seenAt + sfTicks ≤ s.frc)
  let t := { s with mate := { s.mate with wrong := if wrong then s.mate.wrong + 1 else 0, right := if wrong then 0 else s.mate.right + 1 } }
  let t :=
    if 3 ≤ t.mate.wrong ∧ hbFault t = false then raise 1024 0 0 (post Ev.MATE_HB_FAULT 0 (t.wr 0 F.MATE_STATUS_HB_FAULT 1))
    else if 3 ≤ t.mate.right ∧ hbFault t = true then t.wr 0 F.MATE_STATUS_HB_FAULT 0 else t
  syncPaths t

/-- Both units of a pair have the same SIDE. -/
def sideConflict (s : State) : State :=
  if s.sh F.MATE_STATUS_SIDE_CONFLICT = 1 then s
  else raise 1026 0 0 (post Ev.MATE_SIDE_CONFLICT 0 (syncClaim (s.wr 0 F.MATE_STATUS_SIDE_CONFLICT 1)))

/-- TOFFEE_MESSAGE: a timing message on M with a good CRC and role MATE; `d` is its octets 44 to 59. -/
def toffeeMessage (d : Octets) (s : State) : State :=
  if !mateRuns s then s
  else
    let t := (s.wr 0 F.MATE_PEER0_PEER_CLAIM (ofBe (slice d 0 2))).wr 0 F.MATE_PEER0_PEER_STATE (byteAt d 2)
    let t := (t.wr 0 F.MATE_PEER0_PEER_CONDITIONS (byteAt d 3)).wr 0 F.MATE_PEER1 (ofBe (slice d 8 2))
    let t := { (t.wr 0 F.MATE_STATUS_TOFFEE_FRESH 1) with mate := { t.mate with toffee := some t.frc } }
    let t := if bitOf (byteAt d 2) 6 == (t.sh F.MATE_STATUS_SIDE == 1) then sideConflict t else t
    let t := pathCheck t
    let yields := mateState t == mtACTIVE && peerState t == mtHOLD && bitOf (byteAt d 2) 3
    let t := if yields then { t with mate := { t.mate with leaving := true } } else noteCollapse t
    mateStep .toffee t

/-- TOFFEE_STALE: three superframes without a Toffee message (R423). -/
def toffeeStale (s : State) : State :=
  match s.mate.toffee with
  | some t => if mateRuns s && toffeeFresh s && decide (t + 3 * sfTicks ≤ s.frc) then mateStep .other (syncPaths (s.wr 0 F.MATE_STATUS_TOFFEE_FRESH 0)) else s
  | none => s

def execToffeeStale (s : State) : Host.Outcome State Fault Refusal := .next (toffeeStale s)

/-! ### The heartbeat and the timers (R424 to R427) -/

/-- HEARTBEAT_SILENT: no transition for 24 cycles. -/
def heartbeatSilent (s : State) : State :=
  if mateRuns s && s.sh F.MATE_STATUS_HB_SEEN == 1 then
    mateStep .silent { (s.wr 0 F.MATE_STATUS_HB_SEEN 0) with mate := { s.mate with silentAt := s.frc } }
  else s

def execHeartbeatSilent (s : State) : Host.Outcome State Fault Refusal := .next (heartbeatSilent s)

/-- Transitions appear: HB_SEEN is 1. -/
def noteHeartbeat (s : State) : State :=
  if mateRuns s && s.sh F.MATE_STATUS_HB_SEEN == 0 then
    { (s.wr 0 F.MATE_STATUS_HB_SEEN 1) with mate := { s.mate with seenAt := s.frc } }
  else s

/-- HEARTBEAT_SEEN. -/
def execHeartbeatSeen (s : State) : Host.Outcome State Fault Refusal := .next (mateStep .other (noteHeartbeat s))

/-- HEARTBEAT_CONTENTION: an ACTIVE unit of SIDE 1 sees two transitions within 16 cycles. -/
def heartbeatContention (s : State) : State :=
  if mateRuns s && mateState s == mtACTIVE && s.sh F.MATE_STATUS_SIDE == 1 then
    let t := noteHeartbeat s
    let t := post Ev.MATE_CONTENTION 0 (t.wr 0 F.MATE_COUNTS_CONTENTIONS (t.sh F.MATE_COUNTS_CONTENTIONS + 1))
    raise 1027 0 0 (mateStep .contention t)
  else s

def execHeartbeatContention (s : State) : Host.Outcome State Fault Refusal := .next (heartbeatContention s)

/-- MATE_HOLDOFF_EXPIRY: TAKE is set until the unit leaves HOLD. -/
def mateHoldoff (s : State) : State :=
  match s.mate.holdEnd with
  | some t => if mateRuns s && mateState s == mtHOLD && decide (t ≤ s.frc) then s.wr 0 F.MATE_STATUS_TAKE 1 else s
  | none => s

def execMateHoldoffExpiry (s : State) : Host.Outcome State Fault Refusal := .next (mateHoldoff s)

/-- MATE_SOLO_TIMEOUT. -/
def execMateSoloTimeout (s : State) : Host.Outcome State Fault Refusal := .next (mateStep .solo s)

/-! ### Observers (R430) -/

/-- Does an output have an observer: SHARED and EN are 1? -/
def observed (s : State) (n : Nat) : Bool :=
  if n < 20 then s.ef (F.OUT_CLK_CFG_EN n) == 1 && s.ef (F.OUT_CLK_CFG_SHARED n) == 1
  else (s.po (n - 20)).cur.en && (s.po (n - 20)).cur.shared

/-- The period of an output in ns. -/
def outPeriod (s : State) (n : Nat) : Rat :=
  if n < 20 then ((s.clk n).cur.d : Rat) / synSpeed s (s.clk n).cur.src * 64 / 100 else ((s.po (n - 20)).cur.p : Rat)

/-- A value reduced into [-P/2, P/2). -/
def reduceHalf (p x : Rat) : Rat := if p = 0 then x else x - p * ⌊x / p + 1 / 2⌋

/-- OBS of a window: the mean of the net's edge less the own edge in 2^-8 ns. -/
def obsValue (s : State) (n : Nat) (es : List (BitVec 64 × BitVec 64)) : Nat :=
  if es.isEmpty then 0x80000000
  else
    let m : Rat := meanR (es.map fun e => ((e.1.toNat : Rat) - e.2.toNat) / 50)
    uns 32 (satS 32 (roundR (reduceHalf (outPeriod s n) m * 256)))

/-- One observer's window. -/
def obsWindow (seen : List ObsPairs) (n : Nat) (s : State) : State :=
  if observed s n then
    let es := if s.sh F.MATE_STATUS_DRIVING = 1 then [] else (seen.filter fun o => o.n.val == n).flatMap (·.edges)
    let v := obsValue s n es
    let t := s.wr 0 (F.MATE_OBS n) v
    { t with mate := { t.mate with obs := if v = 0x80000000 then t.mate.obs else t.mate.obs ++ [n] } }
  else s

/-- OBS_WINDOW: the window that ends at a tick. -/
def obsWindows (tick : Nat) (seen : List ObsPairs) (s : State) : State :=
  if !mateRuns s || tick % 1562500 != 0 || decide (s.frc < tick) || decide (tick ≤ s.mate.obsAt) || !s.doorOpen .out then s
  else
    let t := { s with mate := { s.mate with obs := [], obsAt := tick } }
    mateStep .other (syncTrack (each (List.range 28) (obsWindow seen) t))

def execObsWindow (tick : BitVec 64) (seen : List ObsPairs) (s : State) : Host.Outcome State Fault Refusal := .next (obsWindows tick.toNat seen s)

end Sys2Proof.Machine
end

