-- ==== Sys2Proof/Machine/Ports.lean ====
section
/-! DEFINITION. Port configuration, links, and commit groups CG14 and CG15 (R273 to R278, R285, R291, R293, R416). -/

namespace Sys2Proof.Machine

/-- May a function write PRT registers (R293)? -/
def prtMay (s : State) (fn : Nat) : Bool := s.secureSt fn

/-! ### CG14 and CG15 -/

/-- The registers of one of the two groups, its fields, and its events. -/
structure CgRef where
  g : Nat
  blk : Blk
  off : Nat
  kind : FieldRef
  arm : FieldRef
  armed : FieldRef
  lo : FieldRef
  hi : FieldRef
  fields : List FieldRef
  evRefused : EvRef
  evAuth : EvRef
  deriving DecidableEq, Repr

def cg14 : CgRef :=
  { g := 14, blk := .prt, off := 0x10, kind := F.PRT_CG14_CTRL_KIND, arm := F.PRT_CG14_CTRL_ARM, armed := F.PRT_CG14_CTRL_ARMED
    lo := F.PRT_CG14_TIME_LO, hi := F.PRT_CG14_TIME_HI, fields := cg14Fields, evRefused := Ev.PRT_CG_REFUSED, evAuth := Ev.PRT_AUTH_REFUSED }

def cg15 : CgRef :=
  { g := 15, blk := .ubw, off := 0x10, kind := F.UBW_CG15_CTRL_KIND, arm := F.UBW_CG15_CTRL_ARM, armed := F.UBW_CG15_CTRL_ARMED
    lo := F.UBW_CG15_TIME_LO, hi := F.UBW_CG15_TIME_HI, fields := cg15Fields, evRefused := Ev.UBW_CG_REFUSED, evAuth := Ev.UBW_AUTH_REFUSED }

/-- A write of PRT_CG14_CTRL or UBW_CG15_CTRL: KIND, ARM, ABORT (R26, R28, R285, R416). -/
def writePortCg (r : CgRef) (fn kind : Nat) (arm abort : Bool) (s : State) : State :=
  writeAtDoor r.blk fn r.off (fun s =>
    if !s.secureSt fn then onlyIf (arm || abort || kind % 4 != s.sh r.kind) (postTo r.evAuth fn 0) s
    else
      let s := s.wr 0 r.kind kind
      if (arm || abort) && s.rsHoldsGroup r.g then post r.evRefused r.g s
      else if abort then ((dropArm r.g (dropShadows r.fields s)).wr 0 r.arm 0).wr 0 r.armed 0
      else if arm then
        match armOf s (kind % 4) (s.rd64 0 r.lo r.hi) (cg0Boundary s) with
        | some a => ((setArm r.g a s).wr 0 r.arm 1).wr 0 r.armed 1
        | none => post r.evRefused r.g s
      else s) s

/-- CG14_ARM: ARM written as 1 in PRT_CG14_CTRL with a trigger kind. -/
def execCg14Arm (fn : Fn) (kind : Fin 4) (s : State) : Host.Outcome State Fault Refusal := .next (writePortCg cg14 fn.val kind.val true false s)

/-- CG14_ABORT: ABORT written as 1; an ARM in the same write has no effect (R28). -/
def execCg14Abort (fn : Fn) (kind : Fin 4) (arm : Bool) (s : State) : Host.Outcome State Fault Refusal :=
  .next (writePortCg cg14 fn.val kind.val arm true s)

/-- CG15_ARM: ARM written as 1 in UBW_CG15_CTRL with a trigger kind. -/
def execCg15Arm (fn : Fn) (kind : Fin 4) (s : State) : Host.Outcome State Fault Refusal := .next (writePortCg cg15 fn.val kind.val true false s)

/-- CG15_ABORT: ABORT written as 1. -/
def execCg15Abort (fn : Fn) (kind : Fin 4) (arm : Bool) (s : State) : Host.Outcome State Fault Refusal :=
  .next (writePortCg cg15 fn.val kind.val arm true s)

/-! ### Ports (R273) -/

/-- FEC values allowed in a mode (Table 10.1). -/
def fecAllowed (mode fec : Nat) : Bool :=
  match mode with
  | 0 | 1 | 2 => fec == 0
  | 3 => fec ≤ 1
  | 5 => fec == 1
  | 4 | 6 | 7 | 8 | 9 | 10 | 11 => fec == 2
  | _ => false

/-- The lanes of an enabled port other than n. -/
def laneTaken (s : State) (n l : Nat) : Bool :=
  (List.range 16).any fun m => m != n && s.sh (F.PRT_PORT_CFG_EN m) == 1 && (portLanes s m).contains l

/-- May port n be enabled with a mode and an FEC value (R273)? -/
def portOk (s : State) (n mode fec : Nat) : Bool :=
  let w := modeLanes mode
  mode ≤ 11 && fecAllowed mode fec && n % w == 0 && !((List.range w).any fun i => laneTaken s n (n + i))

/-- MEMBER and PORT of the lanes of port n. -/
def setMembers (n : Nat) (m : Bool) (s : State) : State :=
  each (portLanes s n) (fun l t => (t.wr 0 (F.PRT_LANE_STATUS_MEMBER l) (b2n m)).wr 0 (F.PRT_LANE_STATUS_PORT l) (if m then n else 0)) s

/-- A write of PRT_PORT_CFG[n]: enabling, or disabling; MODE, FEC and AN_EN only while EN is 0 (R273, R277, R293). -/
def writePortCfg (fn n v : Nat) (s : State) : State :=
  writeAtDoor .prt fn (0x100 + 0x40 * n) (fun s =>
    if !prtMay s fn then postTo Ev.PRT_AUTH_REFUSED fn n s
    else
      let mode := bits v 1 4
      let fec := bits v 5 2
      let an := bits v 7 1
      let s := s.wr 0 (F.PRT_PORT_CFG_ERR_DELIVER n) (bits v 8 1)
      if s.sh (F.PRT_PORT_CFG_EN n) = 1 then
        let changes := mode != portMode s n || fec != s.sh (F.PRT_PORT_CFG_FEC n) || an != s.sh (F.PRT_PORT_CFG_AN_EN n)
        let s := onlyIf changes (post Ev.PRT_CFG_LOCKED n) s
        if bitOf v 0 then s else setMembers n false (portDown n (s.wr 0 (F.PRT_PORT_CFG_EN n) 0))
      else
        let s := ((s.wr 0 (F.PRT_PORT_CFG_MODE n) mode).wr 0 (F.PRT_PORT_CFG_FEC n) fec).wr 0 (F.PRT_PORT_CFG_AN_EN n) an
        if !bitOf v 0 then s
        else if !portOk s n mode fec then post Ev.PRT_CFG_LOCKED n s
        else setMembers n true (portDown n (s.wr 0 (F.PRT_PORT_CFG_EN n) 1))) s

/-- PRT_PORT_EN: the value written to PRT_PORT_CFG[n]. -/
def execPrtPortEn (fn : Fn) (port : Fin 16) (value : BitVec 32) (s : State) : Host.Outcome State Fault Refusal :=
  .next (writePortCfg fn.val port.val value.toNat s)

/-! ### Links (R276 to R278) -/

/-- The condition of R277 that fails. -/
def linkField (n : Nat) : LinkCause → FieldRef
  | .localFault => F.PRT_PORT_STATUS_LOCAL_FAULT n
  | .hiBer => F.PRT_PORT_STATUS_HI_BER n
  | .deskew => F.PRT_PORT_STATUS_DESKEW_FAIL n
  | .speed => F.PRT_PORT_STATUS_SPEED_MISMATCH n
  | .signal l => F.PRT_LANE_STATUS_SIG_DET l.val
  | .cdr l => F.PRT_LANE_STATUS_CDR_LOCK l.val
  | .autoneg => F.PRT_PORT_STATUS_AN_DONE n

/-- A status bit that shows a failed condition: the fault bits are set, the lanes' and AN_DONE cleared; FAULT is posted when HI_BER, DESKEW_FAIL or
SPEED_MISMATCH becomes set (Table 10.8). -/
def linkFails (n : Nat) (c : LinkCause) (s : State) : State :=
  let f := linkField n c
  match c with
  | .localFault => s.wr 0 f 1
  | .hiBer | .deskew | .speed => onlyIf (s.sh f == 0) (post Ev.PRT_FAULT n) (s.wr 0 f 1)
  | .signal _ | .cdr _ | .autoneg => s.wr 0 f 0

/-- Does a condition concern a port: a lane's only where the lane is the port's, auto-negotiation's only in MODE 0 with AN_EN, the speed's only in
MODE 1? -/
def linkConcerns (s : State) (n : Nat) : LinkCause → Bool
  | .signal l | .cdr l => (portLanes s n).contains l.val
  | .autoneg => portMode s n == 0 && s.sh (F.PRT_PORT_CFG_AN_EN n) == 1
  | .speed => portMode s n == 1
  | _ => true

/-- PORT_LINK_DOWN: a condition of R277 fails on an enabled port. -/
def portLinkFails (n : Nat) (c : LinkCause) (s : State) : State :=
  if s.sh (F.PRT_PORT_CFG_EN n) = 0 ∨ linkConcerns s n c = false ∨ s.doorOpen .prt = false then s
  else portDown n (linkFails n c s)

def execPortLinkDown (port : Fin 16) (cause : LinkCause) (s : State) : Host.Outcome State Fault Refusal :=
  .next (portLinkFails port.val cause s)

/-- PORT_LINK_UP: every condition has held for LINKUP_MS (R277). -/
def portLinkHeld (n : Nat) (s : State) : State :=
  if s.sh (F.PRT_PORT_STATUS_STATE n) ≠ 1 ∨ s.doorOpen .prt = false ∨
      s.frc < (s.prtPort n).downAt + ticksOfMs (s.sh (F.PRT_PORT_FRAME_LINKUP_MS n)) then s
  else
    let t := ((s.wr 0 (F.PRT_PORT_STATUS_LOCAL_FAULT n) 0).wr 0 (F.PRT_PORT_STATUS_HI_BER n) 0).wr 0 (F.PRT_PORT_STATUS_DESKEW_FAIL n) 0
    let t := (t.wr 0 (F.PRT_PORT_STATUS_SPEED_MISMATCH n) 0).wr 0 (F.PRT_PORT_STATUS_AN_DONE n)
      (b2n (portMode t n == 0 && t.sh (F.PRT_PORT_CFG_AN_EN n) == 1))
    portLinkUp n t

def execPortLinkUp (port : Fin 16) (s : State) : Host.Outcome State Fault Refusal := .next (portLinkHeld port.val s)

/-- REMOTE_FAULT: a received remote fault begins or ends on an UP port (R278). -/
def remoteFault (n : Nat) (present : Bool) (s : State) : State :=
  if !portUp s n then s
  else
    let f := F.PRT_PORT_STATUS_REMOTE_FAULT n
    onlyIf (present && s.sh f == 0) (post Ev.PRT_FAULT n) (s.wr 0 f (b2n present))

def execRemoteFault (port : Fin 16) (present : Bool) (s : State) : Host.Outcome State Fault Refusal := .next (remoteFault port.val present s)

/-- LANE_LOCK_LOSS: a lane loses block or codeword lock; its slot hears of it, and its port becomes DOWN (R276, R277). -/
def laneLockLoss (l : Nat) (s : State) : State :=
  if s.sh (F.PRT_LANE_STATUS_BLOCK_LOCK l) = 0 then s
  else
    let t := (s.wr 0 (F.PRT_LANE_STATUS_BLOCK_LOCK l) 0).wr 0 (F.PRT_LANE_STATUS_LOCK_LOSS l) (s.sh (F.PRT_LANE_STATUS_LOCK_LOSS l) + 1)
    let t := linkLost (8 + l) t
    if t.sh (F.PRT_LANE_STATUS_MEMBER l) = 1 then portDown (t.sh (F.PRT_LANE_STATUS_PORT l)) t else t

def execLaneLockLoss (lane : Fin 16) (s : State) : Host.Outcome State Fault Refusal := .next (laneLockLoss lane.val s)

/-- ESMC_PDU: a received ESMC PDU, from its subtype octet on, for the slots of every lane of its port (R107, R276). -/
def execEsmcPdu (port : Fin 16) (pdu : List Byte) (s : State) : Host.Outcome State Fault Refusal :=
  .next (if portUp s port.val then esmcPdu (portLanes s port.val) pdu s else s)

/-! ### Timestamp rings (R291, R293) -/

/-- A write of a ring's CFG register at a block's door: the OWNER tenant's functions may change only WM. -/
def writeTsr (b : Blk) (off : Nat) (r : TsrRef) (auth : EvRef) (fn v : Nat) (s : State) : State :=
  writeAtDoor b fn off (fun s =>
    let cur := s.sh r.en + 2 * s.sh r.log + 32 * s.sh r.owner
    let owns := tenantOf fn == s.sh r.owner && bits v 0 14 == cur
    if s.secureSt fn || owns then writeTsrCfg r v s else postTo auth fn r.obj s) s

/-- TSR_EN: the value written to PRT_TSR_CFG[n][d]. -/
def execTsrEn (fn : Fn) (port : Fin 16) (dir : Fin 2) (value : BitVec 32) (s : State) : Host.Outcome State Fault Refusal :=
  .next (writeTsr .prt (0x120 + 0x40 * port.val + 0x10 * dir.val) (prtTsr port.val dir.val) Ev.PRT_AUTH_REFUSED fn.val value.toNat s)

end Sys2Proof.Machine
end

