-- ==== Sys2Proof/Machine/Ubwick.lean ====
section
/-! DEFINITION. The Ubwick chain link: markers, timing messages, the two-way exchange and chain frames (R391 to R418). -/

namespace Sys2Proof.Machine

/-! ### Stamps at the connector (R284 with F = 0 and A = 0, R398) -/

def ubwTxC (s : State) (p : Nat) : Int := sgn 32 (s.sh (F.TDC_CAL_TX (ptUbw p))) + roundR ((s.ef (F.UBW_PORT_BOARD_BOARD_TX_PS p) : Rat) * 65536 / 1000)
def ubwRxC (s : State) (p : Nat) : Int := -sgn 32 (s.sh (F.TDC_CAL_RX (ptUbw p))) - roundR ((s.ef (F.UBW_PORT_BOARD_BOARD_RX_PS p) : Rat) * 65536 / 1000)

/-- The record of a marker at a plane stamp, with the constant C. -/
def ubwStamp (s : State) (sf x32 : Nat) (c : Int) : UbwStamp := ⟨sf, stampFrc x32 c, lin16 (stampTime s 0 x32 c)⟩

/-! ### Configuration (R392, R396) -/

/-- A port is disabled: its waiting frames are not sent. -/
def ubwOff (p : Nat) (s : State) : State :=
  let t := ubwEnter p ubDISABLED (s.wr 0 (F.UBW_PORT_CFG_EN p) 0)
  let u := t.ubwPort p
  syncUbw (each u.local_ (fun f => ubwTxDone f Code.discarded TxCause.notSent 0) (t.setUbwPort p { u with local_ := [], fwd := [] }))

/-- A write of UBW_PORT_CFG[p]. -/
def writeUbwCfg (fn p v : Nat) (s : State) : State :=
  writeAtDoor .ubw fn (0x100 + 0x40 * p) (fun s =>
    if !s.secureSt fn then postTo Ev.UBW_AUTH_REFUSED fn p s
    else
      let role := if p = 4 then 2 else if bits v 1 2 = 3 then 0 else bits v 1 2
      let en := bitOf v 0
      let second := en && p != 4 && role == 1 && (List.range 4).any fun q => q != p && ubwEn s q && ubwRole s q == 1
      if ubwEn s p then
        let changes := role != ubwRole s p || bits v 3 1 != s.sh (F.UBW_PORT_CFG_TX_INV p) || bits v 4 1 != s.sh (F.UBW_PORT_CFG_RX_INV p) ||
          bits v 5 4 != s.sh (F.UBW_PORT_CFG_TX_EQ p)
        let t := onlyIf changes (post Ev.UBW_CFG_LOCKED p) (s.wr 0 (F.UBW_PORT_CFG_FWD_EN p) (bits v 9 1))
        if en then t else ubwOff p t
      else if second then post Ev.UBW_CFG_LOCKED p s
      else
        let t := (s.wr 0 (F.UBW_PORT_CFG_FWD_EN p) (bits v 9 1)).wr 0 (F.UBW_PORT_CFG_ROLE p) role
        let t := ((t.wr 0 (F.UBW_PORT_CFG_TX_INV p) (bits v 3 1)).wr 0 (F.UBW_PORT_CFG_RX_INV p) (bits v 4 1)).wr 0 (F.UBW_PORT_CFG_TX_EQ p) (bits v 5 4)
        if en then ubwEnter p ubHUNT (t.wr 0 (F.UBW_PORT_CFG_EN p) 1) else syncUbw t) s

/-- UBW_PORT_EN: the value written to UBW_PORT_CFG[p]. -/
def execUbwPortEn (fn : Fn) (port : Fin 5) (value : BitVec 32) (s : State) : Host.Outcome State Fault Refusal :=
  .next (writeUbwCfg fn.val port.val value.toNat s)

/-! ### Alignment (R396, R397) -/

/-- UBW_BLOCK_LOCK: Clause 49 block lock is gained or lost. -/
def ubwBlockLock (p : Nat) (locked : Bool) (s : State) : State :=
  if s.doorOpen .ubw = false ∨ ubwEn s p = false then s
  else if locked then (if ubwState s p = ubHUNT then ubwEnter p ubSEARCH s else s)
  else if ubwState s p = ubHUNT then s else ubwEnter p ubHUNT s

def execUbwBlockLock (port : Fin 5) (locked : Bool) (s : State) : Host.Outcome State Fault Refusal := .next (ubwBlockLock port.val locked s)

/-- The CRC-16 of R184. -/
def crc16 (o : Octets) : Nat := crcMsb 16 0x1021 0xFFFF o

/-- A valid marker (R397), its 8 octets after the sync header. -/
def markerValid (m : Octets) : Bool :=
  m.length == 8 && byteAt m 0 == 0xC3 && byteAt m 1 % 16 == 1 && crc16 (m.take 6) == ofBe (slice m 6 2)

def badMarker (p : Nat) (s : State) : State := s.wr 0 (F.UBW_PORT_COUNTS_BAD_MARKER p) (s.sh (F.UBW_PORT_COUNTS_BAD_MARKER p) + 1)

/-- An expected position holds no valid marker: a candidate track ends, or a linked port counts a miss. -/
def markerMissing (p block : Nat) (s : State) : State :=
  let u := s.ubwPort p
  if s.doorOpen .ubw = false then s
  else if ubwState s p = ubSEARCH then s.setUbwPort p { u with tracks := u.tracks.filter fun t => t.1 + 16384 != block }
  else if ubwLinked (ubwState s p) && block == u.next then
    let t := badMarker p (s.setUbwPort p { u with next := u.next + 16384, miss := u.miss + 1 })
    if 3 ≤ u.miss + 1 then ubwEnter p ubSEARCH t else t
  else s

/-- MARKER_MISSING: the block number counts received blocks since block lock. -/
def execMarkerMissing (port : Fin 5) (block : BitVec 64) (s : State) : Host.Outcome State Fault Refusal :=
  .next (markerMissing port.val block.toNat s)

/-- Keep a partner marker's arrival. -/
def noteArrival (p sf x32 : Nat) (s : State) : State :=
  let u := s.ubwPort p
  s.setUbwPort p { u with arrs := (ubwStamp s sf x32 (ubwRxC s p) :: u.arrs).take 64 }

/-- A valid marker in SEARCH: its track advances, or a track starts where fewer than 8 are live; a track of 4 aligns the port. -/
def markerSearch (p block sf x32 : Nat) (s : State) : State :=
  let u := s.ubwPort p
  let live := u.tracks.filter fun t => decide (block ≤ t.1 + 16384)
  match live.find? fun t => t.1 + 16384 == block with
  | some t =>
    if 3 ≤ t.2 then
      let r := ubwEnter p ubALIGNED (noteArrival p sf x32 s)
      r.setUbwPort p { r.ubwPort p with next := block + 16384 }
    else s.setUbwPort p { u with tracks := live.map fun x => if x.1 = t.1 then (block, t.2 + 1) else x }
  | none =>
    let held := live.any fun t => t.1 % 16384 == block % 16384
    s.setUbwPort p { u with tracks := if held || decide (8 ≤ live.length) then live else live ++ [(block, 1)] }

/-- UBW_MARKER_RX: a marker at a block, stamped at the plane. -/
def markerRx (p block x32 : Nat) (m : Octets) (s : State) : State :=
  if !markerValid m then markerMissing p block s
  else if s.doorOpen .ubw = false then s
  else if ubwState s p = ubSEARCH then markerSearch p block (ofBe (slice m 2 2)) x32 s
  else if ubwLinked (ubwState s p) && block == (s.ubwPort p).next then
    let t := noteArrival p (ofBe (slice m 2 2)) x32 s
    t.setUbwPort p { t.ubwPort p with next := block + 16384, miss := 0 }
  else s

def execUbwMarkerRx (port : Fin 5) (block tick : BitVec 64) (phase : Fin 32) (marker : List Byte) (s : State) : Host.Outcome State Fault Refusal :=
  .next (markerRx port.val block.toNat (32 * tick.toNat + phase.val) marker s)

/-! ### Superframes (R394, R398, R405) -/

/-- The QR that a port sends (R405). -/
def ubwTxQr (s : State) : Nat :=
  let d := s.sh F.SRV_STATUS_SYS_STATE
  if d = dpACQ ∨ d = dpLOCKED then (match selected s 0 with
    | some n => s.sh (F.REF_STATE_QR n)
    | none => 15)
  else if d = dpHOLD then s.sh F.UBW_CTRL_QR_HO else 15

/-- The timing message of superframe k (Table 14.4). `tx` is the departure of marker k - 1. -/
def timingMsg (s : State) (p k : Nat) (tx tick : Nat) (rx : Nat × Nat) (mate : Octets) : Octets :=
  let b := bound s 0 tick (ptUbw p) qPort
  let body := oct [1, boundFlags s 0 b + 32 * s.sh F.UBW_NODE_DEPTH_VALID, ubwRole s p + 4 * p, s.sh F.UBW_NODE_DEPTH] ++
    beBytes 2 (k + 65535) ++ beBytes 12 tx ++ beBytes 2 rx.1 ++ beBytes 6 rx.2 ++ beBytes 5 b ++ oct [ubwTxQr s] ++
    beBytes 4 (s.sh F.UBW_ROOT_ID_HI) ++ beBytes 4 (s.sh F.UBW_ROOT_ID_LO) ++ beBytes 4 (s.sh F.UBW_TX_INFO) ++ padTo 16 mate ++ zeros 2
  body ++ beBytes 2 (crc16 body)

/-- Send the message of superframe k. The departure of a marker that was never sent, and the arrival of none, are free. -/
def sendTiming (p k : Nat) (s : State) : State :=
  let u := s.ubwPort p
  let (tx, tick, s) := match u.deps.find? fun e => e.sf == (k + 65535) % 65536 with
    | some e => (t96OfLin e.time, frcTick e.x32, s)
    | none => let r := s.free 96; (r.1, s.frc, r.2)
  let (rx, s) := match u.arrs.head? with
    | some e => ((e.sf, uns 48 e.time), s)
    | none => let r := s.free 48; ((0xFFFF, r.1), r.2)
  s.setUbwPort p { s.ubwPort p with sent := timingMsg s p k tx tick rx (if p = 4 then toffeeData s else []) }

/-- Octets of a chain frame with its CRC. -/
def chainOctets (o : Octets) : Octets := o ++ leBytes 4 (crc32 o)

/-- Blocks of the packet channel that a chain frame takes (R408). -/
def chainBlocks (o : Octets) : Nat := ceilDiv (o.length + 4) 8 + 2

/-- Send a local chain frame at a block of the superframe whose marker has a stamp. -/
def sendLocal (p x32 block : Nat) (f : UbwTx) (s : State) : State :=
  let x := x32 + 320 * block
  let c := ubwTxC s p
  let fx := stampFrc x c
  let t := count Ct.UBW_TX_BYTES p (f.octets.length + 4) (s.setUbwPort p { s.ubwPort p with frame := chainOctets f.octets, frameErr := false })
  let t := onlyIf f.tsReq (tsrWrite (ubwTsr 1) (fun seq =>
    tsrOctets fx 1 (uncal s (ptUbw p)) false (16 + p) 0 (s.sh (F.UBW_PORT_STATUS_LINK_GEN p) % 256) seq f.tag (stampTime s 0 x c) 0 (f.octets.length + 4))) t
  ubwTxDone f Code.ok 0 (frcTick fx) t

/-- Send frames one after another from a block on. -/
def sendLocals (p x32 : Nat) : Nat → List UbwTx → State → State
  | _, [], s => s
  | b, f :: t, s => sendLocals p x32 (b + chainBlocks f.octets) t (sendLocal p x32 b f s)

/-- The local frames of a READY port, PTP before MGMT (R411), in the packet channel from block 9 on. -/
def drainLocal (p x32 : Nat) (s : State) : State :=
  if ubwState s p ≠ ubREADY ∨ s.safe = true then s
  else
    let u := s.ubwPort p
    sendLocals p x32 9 (u.local_.filter (·.cls == 2) ++ u.local_.filter (·.cls != 2)) (s.setUbwPort p { u with local_ := [] })

/-- SUPERFRAME_TX: a superframe begins; its marker's stamp at the plane. -/
def superframeTx (p x32 : Nat) (s : State) : State :=
  if s.doorOpen .ubw = false ∨ ubwEn s p = false then s
  else
    let u := s.ubwPort p
    let s := if ubwState s p = ubSEARCH ∧ u.tracks = [] then badMarker p s else s
    let s := s.setUbwPort p { u with sf := (u.sf + 1) % 65536 }
    let s := if p = 4 then mateMarker s else s
    let s := sendTiming p u.sf (syncNode s)
    let v := s.ubwPort p
    drainLocal p x32 (s.setUbwPort p { v with deps := (ubwStamp s u.sf x32 (ubwTxC s p) :: v.deps).take 64 })

def execSuperframeTx (port : Fin 5) (tick : BitVec 64) (phase : Fin 32) (s : State) : Host.Outcome State Fault Refusal :=
  .next (superframeTx port.val (32 * tick.toNat + phase.val) s)

/-! ### Timing messages and the exchange (R399 to R402) -/

/-- Roles are complementary: DOWNSTREAM faces UPSTREAM, MATE faces MATE. -/
def complementary (own peer : Nat) : Bool := (own == 0 && peer == 1) || (own == 1 && peer == 0) || (own == 2 && peer == 2)

/-- ASYM of R401. -/
def ubwAsym (s : State) (p : Nat) : Int := roundR ((sgn 32 (s.ef (F.UBW_PORT_ASYM p)) : Rat) * 65536 / 1000)

/-- One delay sample enters the filter; with DELAY_N of them an offset results (R401, R402). -/
def exchangeSample (p : Nat) (a : UbwStamp) (t1 d : Int) (s : State) : State :=
  let u := s.ubwPort p
  let n := s.sh F.UBW_FILTER
  let held := u.delays.take n
  let jump := held.length == n && decide (s.sh F.UBW_CTRL_DELAY_JUMP_PS * 65536 < (d - roundDiv held.sum n).natAbs * 1000)
  let ds := if jump then [d] else (d :: held).take n
  let t := onlyIf jump (post Ev.UBW_DELAY_JUMP p) s
  if ds.length < n then t.setUbwPort p { u with delays := ds }
  else
    let m := roundDiv ds.sum n
    let th := a.time - t1 - (m + roundDiv (ubwAsym s p) 2)
    (t.setUbwPort p { u with delays := ds, thetas := (th, a) :: u.thetas }).wr 0 (F.UBW_PORT_DELAY p) (satU 32 m.toNat)

/-- The pair that a message completes: t1 and t4 from the message, t2 and t3 from what this node stamped. -/
def exchange (p : Nat) (m : Octets) (s : State) : State :=
  let u := s.ubwPort p
  match u.arrs.find? (fun e => e.sf == ofBe (slice m 4 2)), u.deps.find? (fun e => e.sf == ofBe (slice m 18 2)) with
  | some a, some b =>
    let t1 : Int := linOfT96 (ofBe (slice m 6 12))
    let t4 := t1 + sgn 48 (uns 48 ((ofBe (slice m 20 6) : Int) - t1))
    exchangeSample p a t1 (roundDiv ((a.time - t1) + (t4 - b.time)) 2) s
  | _, _ => s.wr 0 (F.UBW_PORT_SIGMA_PAIR_MISS p) (s.sh (F.UBW_PORT_SIGMA_PAIR_MISS p) + 1)

/-- A message with a bad CRC. -/
def badMsg (p : Nat) (s : State) : State :=
  let u := s.ubwPort p
  let t := (s.setUbwPort p { u with bad := u.bad + 1 }).wr 0 (F.UBW_PORT_COUNTS_BAD_MSG p) (s.sh (F.UBW_PORT_COUNTS_BAD_MSG p) + 1)
  if 64 ≤ u.bad + 1 ∧ ubwState s p = ubREADY then ubwEnter p ubALIGNED t else t

/-- What a message with a good CRC says of the partner. -/
def notePeer (p : Nat) (m : Octets) (s : State) : State :=
  let u := s.ubwPort p
  let t := s.setUbwPort p { u with bad := 0, bound := ofBe (slice m 26 5), root := ofBe (slice m 32 8) }
  let t := (t.wr 0 (F.UBW_PORT_PEER_PEER_DEPTH p) (byteAt m 3)).wr 0 (F.UBW_PORT_PEER_PEER_ROLE p) (byteAt m 2)
  (t.wr 0 (F.UBW_PORT_PEER_PEER_FLAGS p) (byteAt m 1)).wr 0 (F.UBW_PORT_PEER_PEER_QR p) (byteAt m 31)

/-- UBW_TIMING_MSG: the 64 octets of a received message. -/
def timingRx (p : Nat) (m : Octets) (s : State) : State :=
  if s.doorOpen .ubw = false ∨ ubwLinked (ubwState s p) = false ∨ m.length ≠ 64 then s
  else if crc16 (m.take 62) ≠ ofBe (slice m 62 2) then badMsg p s
  else
    let t := notePeer p m s
    if !complementary (ubwRole t p) (byteAt m 2 % 4) then
      let t := onlyIf (!ubwMismatch t p) (post Ev.UBW_MISMATCH p) (t.wr 0 (F.UBW_PORT_STATUS_MISMATCH p) 1)
      syncUbw (if ubwState t p = ubREADY then ubwEnter p ubALIGNED t else t)
    else
      let t := (t.wr 0 (F.UBW_PORT_STATUS_MISMATCH p) 0).setUbwPort p { t.ubwPort p with good := true }
      let t := onlyIf (ubwRole t p == 1) (fun t => t.wr 0 F.UBW_RX_INFO (ofBe (slice m 40 4))) t
      let t := ubwTryReady p t
      let t := if (ubwRole t p = 1 ∧ ubwRoot t = false) ∨ p = 4 then exchange p m t else t
      let t := if p = 4 then toffeeMessage (slice m 44 16) t else t
      syncUbw t

def execUbwTimingMsg (port : Fin 5) (message : List Byte) (s : State) : Host.Outcome State Fault Refusal := .next (timingRx port.val message s)

/-- EXCHANGE_WINDOW_END: the window of 1 ms that ends at a tick (R403, R404). -/
def exchangeWindow (p tick : Nat) (s : State) : State :=
  let u := s.ubwPort p
  if s.doorOpen .ubw = false ∨ tick % 1562500 ≠ 0 ∨ s.frc < tick ∨ tick ≤ u.win then s
  else match ubwSlot s p, u.thetas with
    | some n, (_, a) :: _ =>
      let m := roundDiv (u.thetas.map (·.1)).sum u.thetas.length
      let v : UbwPort := { u with thetas := [], win := tick, means := ((tick / 1562500, m) :: u.means).take 1000 }
      let t := (s.setUbwPort p v).wr64 0 (F.UBW_PORT_OFFSET_LO p) (F.UBW_PORT_OFFSET_HI p) (uns 64 m)
      let t := match sigmaSq v with
        | some q => t.wr 0 (F.UBW_PORT_SIGMA_SIGMA p) (satU 16 (ceilSqrt q))
        | none => t
      let t := syncUbw t
      let t := if ubwDelivers t p && (p == 4 || !ubwRoot t) then refEdgeStamp n a.x32 1 (some (a.time - m).toNat) t else t
      if p = 4 ∧ mateRuns t = true then mateStep .other (syncTrack t) else t
    | _, _ => s.setUbwPort p { u with win := tick }

def execExchangeWindowEnd (port : Fin 5) (tick : BitVec 64) (s : State) : Host.Outcome State Fault Refusal :=
  .next (exchangeWindow port.val tick.toNat s)

/-! ### Chain frames (R408 to R414) -/

/-- The Ubwick header of Table 14.5. -/
structure ChainHdr where
  kind : Nat
  up : Bool
  bcast : Bool
  hops : Nat
  ptr : Nat
  hlen : Nat
  len : Nat
  deriving DecidableEq, Repr

def chainHdr (o : Octets) : ChainHdr :=
  ⟨byteAt o 0 % 16, bitOf (byteAt o 0) 4, bitOf (byteAt o 0) 5, byteAt o 1, byteAt o 2, byteAt o 3, ofBe (slice o 4 2)⟩

/-- Does a header follow R408, in a frame whose octets before the CRC number n? -/
def chainHdrOk (o : Octets) (n : Nat) : Bool :=
  let h := chainHdr o
  let entries := if h.up then h.ptr else h.hops
  (h.kind == 1 || h.kind == 2) && decide (byteAt o 0 < 64) && !(h.up && h.bcast) && h.hlen == 4 * ceilDiv (8 + ceilDiv entries 4) 4 &&
    h.hlen + h.len == n && decide (14 ≤ h.len) && decide (n + 4 ≤ 768) && (!h.up || decide (1 ≤ h.hops)) && (h.up || decide (h.ptr ≤ h.hops))

/-- Route entry i. -/
def routeEntry (o : Octets) (i : Nat) : Nat := bits (byteAt o (8 + i / 4)) (6 - 2 * (i % 4)) 2

/-- Write a route entry. -/
def setEntry (o : Octets) (i q : Nat) : Octets :=
  let b := byteAt o (8 + i / 4)
  let sh := 2 ^ (6 - 2 * (i % 4))
  splice o (8 + i / 4) (oct [b - routeEntry o i * sh + q * sh])

/-- May a port take a frame downward: a READY DOWNSTREAM port with FWD_EN? -/
def downTo (s : State) (q : Nat) : Bool :=
  decide (q < 4) && ubwState s q == ubREADY && ubwRole s q == 0 && s.sh (F.UBW_PORT_CFG_FWD_EN q) == 1 && !ubwMismatch s q

def routeErr (p : Nat) (s : State) : State :=
  post Ev.UBW_ROUTE_ERR p (s.wr 0 F.UBW_FWD_COUNTS_ROUTE_ERR (s.sh F.UBW_FWD_COUNTS_ROUTE_ERR + 1))

def frameErr (s : State) : State := s.wr 0 F.UBW_FRAME_ERR_FRAME_ERR (s.sh F.UBW_FRAME_ERR_FRAME_ERR + 1)

/-- Add a residence time to the correctionField of an event message, and update its checksum (R412): the Ethernet frame, and whether a PTP header was
found. -/
def addResidence (e : Octets) (r : Int) : Octets × Bool :=
  let p := parse e
  if !p.ptp || decide (e.length < p.pay + 34) then (e, false)
  else if 3 < byteAt e p.pay % 16 then (e, true)
  else
    let o := splice e (p.pay + 8) (beBytes 8 (uns 64 ((ofBe (slice e (p.pay + 8) 8) : Int) + r)))
    (match p.udp with
      | some u => fixCsum e o (u + 6)
      | none => o, true)

/-- The plane stamp of a frame's egress: the operand's, or a free one within 1,100 ns of the ingress where it names none (R413). -/
def egressStamp (q x32 : Nat) (eg : List UbwEgress) (s : State) : Nat × State :=
  match eg.find? fun e => e.port.val == q with
  | some e => (32 * e.tick.toNat + e.phase.val, s)
  | none => let r := s.free 16; (x32 + r.1 % 55000, r.2)

/-- Forward a frame on a port: `o` is its header, rewritten, and Ethernet frame; `p` and `x32` its ingress; `bad` that it ends in error. -/
def forward (p x32 q : Nat) (bad : Bool) (eg : List UbwEgress) (o : Octets) (s : State) : State :=
  if s.safe then s
  else
    let h := chainHdr o
    let cls := if h.kind = 2 then 0 else 1
    let u := s.ubwPort q
    let live := u.fwd.filter fun e => decide (32 * s.frc < e.2)
    if 16 ≤ (live.filter fun e => e.1 == cls).length then
      post Ev.UBW_FWD_DROP q (s.wr 0 F.UBW_FWD_COUNTS_FWD_DROP (s.sh F.UBW_FWD_COUNTS_FWD_DROP + 1))
    else
      let (x, s) := egressStamp q x32 eg s
      let r := lin16 (stampTime s 0 x (ubwTxC s q)) - lin16 (stampTime s 0 x32 (ubwRxC s p))
      let (e, found) := if h.kind = 2 then addResidence (o.drop h.hlen) r else (o.drop h.hlen, true)
      let s := onlyIf (!found) (fun s => s.wr 0 F.UBW_FRAME_ERR_TUNNEL_UNPARSED (s.sh F.UBW_FRAME_ERR_TUNNEL_UNPARSED + 1)) s
      let out := o.take h.hlen ++ e
      let s := s.setUbwPort q { u with fwd := live ++ [(cls, x)], frame := chainOctets out, frameErr := bad }
      count Ct.UBW_FORWARDED q 1 (count Ct.UBW_TX_BYTES q (out.length + 4) s)

/-- Deliver a frame to HOST_Q with its record (R414). -/
def chainDeliver (p x32 : Nat) (bad : Bool) (o : Octets) (s : State) : State :=
  let q := s.sh F.UBW_CTRL_HOST_Q
  if bad then frameErr s
  else if q = 0xFFFF then routeErr p s
  else
    let r := rxBuffer s q
    let idx := (r.map fun t => t.idx % 65536).getD 0xFFFF
    let seq := tsrSeq s (ubwTsr 0)
    let c := ubwRxC s p
    let fx := stampFrc x32 c
    let t := tsrWrite (ubwTsr 0) (fun seq =>
      tsrOctets fx 0 (uncal s (ptUbw p)) false (16 + p) 0 (s.sh (F.UBW_PORT_STATUS_LINK_GEN p) % 256) seq (q + 65536 * idx) (stampTime s 0 x32 c) 0
        (o.length + 4)) s
    let t := count Ct.UBW_DELIVERED p 1 t
    match r with
    | some tag => { t with hif := { t.hif with rxq := t.hif.rxq ++ [⟨tag, 16 + p, o, 0, seq, frcTick fx⟩] } }
    | none => count Ct.HIF_RX_DROP (q / 16) 1 t

/-- A down frame on the UPSTREAM port (R409). -/
def chainDown (p x32 : Nat) (bad : Bool) (eg : List UbwEgress) (o : Octets) (s : State) : State :=
  let h := chainHdr o
  if h.bcast then each ((List.range 4).filter (downTo s)) (fun q t => forward p x32 q bad eg o t) (chainDeliver p x32 bad o s)
  else if h.ptr = h.hops then chainDeliver p x32 bad o s
  else
    let q := routeEntry o h.ptr
    if downTo s q then forward p x32 q bad eg (splice o 2 (oct [h.ptr + 1])) s else routeErr p s

/-- An up frame on a DOWNSTREAM port (R410). -/
def chainUp (p x32 : Nat) (bad : Bool) (eg : List UbwEgress) (o : Octets) (s : State) : State :=
  let h := chainHdr o
  let o := match nodeDepth s with
    | some d => if d < h.ptr then setEntry o d p else o
    | none => o
  let o := splice o 1 (oct [h.hops - 1])
  if h.hops = 1 then chainDeliver p x32 bad o s
  else if ubwRoot s then routeErr p s
  else match (upPort s).filter fun q => ubwState s q == ubREADY && !ubwMismatch s q with
    | some q => forward p x32 q bad eg o s
    | none => routeErr p s

/-- UBW_CHAIN_FRAME: a received chain frame with its CRC, the ingress stamp of its first header bit, whether it ended in error, and the egress stamps of
the ports that forward it. -/
def chainRx (p x32 : Nat) (f : Octets) (err : Bool) (eg : List UbwEgress) (s : State) : State :=
  if s.doorOpen .ubw = false ∨ p = 4 ∨ ubwLinked (ubwState s p) = false ∨ ubwMismatch s p = true then s
  else
    let s := count Ct.UBW_RX_BYTES p f.length s
    let o := f.take (f.length - 4)
    let bad := err || leBytes 4 (crc32 o) != f.drop (f.length - 4)
    if !chainHdrOk o o.length then frameErr s
    else if (chainHdr o).up then (if ubwRole s p = 0 then chainUp p x32 bad eg o s else routeErr p s)
    else if ubwRole s p = 1 then chainDown p x32 bad eg o s else routeErr p s

def execUbwChainFrame (port : Fin 5) (tick : BitVec 64) (phase : Fin 32) (frame : List Byte) (error : Bool) (egress : List UbwEgress) (s : State) :
    Host.Outcome State Fault Refusal :=
  .next (chainRx port.val (32 * tick.toNat + phase.val) frame error egress s)

/-! ### Local frames (R411, R414) -/

/-- Put a local frame into its class of a port; its class holds 16. -/
def localPut (q : Nat) (f : UbwTx) (s : State) : State :=
  let u := s.ubwPort q
  if 16 ≤ (u.local_.filter fun e => e.cls == f.cls).length then
    ubwTxDone f Code.discarded TxCause.notSent 0
      (post Ev.UBW_FWD_DROP q (s.wr 0 F.UBW_FWD_COUNTS_FWD_DROP (s.sh F.UBW_FWD_COUNTS_FWD_DROP + 1)))
  else s.setUbwPort q { u with local_ := u.local_ ++ [f] }

/-- A host's chain frame: routed as R409 and R410 have it, from this node on. -/
def localSend (o : Octets) (h : HostTag) (tsReq : Bool) (tag : Nat) (s : State) : State :=
  let f : UbwTx := ⟨o, if (chainHdr o).kind = 2 then 2 else 3, some h, tsReq, tag⟩
  let c := chainHdr o
  let lost (s : State) : State := ubwTxDone f Code.discarded TxCause.notSent 0 (routeErr 0 s)
  if c.up then (match (upPort s).filter fun q => ubwState s q == ubREADY with
    | some q => localPut q f s
    | none => lost s)
  else if c.bcast then (match (List.range 4).filter (downTo s) with
    | [] => lost s
    | q :: t => each t (fun q s => localPut q { f with host := none, tsReq := false } s) (localPut q f s))
  else if c.ptr < c.hops ∧ downTo s (routeEntry o c.ptr) = true then localPut (routeEntry o c.ptr) { f with octets := splice o 2 (oct [c.ptr + 1]) } s
  else lost s

/-- A transmit descriptor for UBW: its frame is checked against R408, its action block against R414. -/
def ubwSubmit (o act : Octets) (h : HostTag) (s : State) : State :=
  if s.doorOpen .ubw = false then txComplete h Code.blockAbsent 0 0 s
  else if ((actOps act).any fun e => e.1 != 0) || !chainHdrOk o o.length then txComplete h Code.discarded TxCause.format 0 s
  else localSend o h (actTsReq act) (actTag act) s

end Sys2Proof.Machine
end

