-- ==== Sys2Proof/Machine/HifCmds.lean ====
section
/-! DEFINITION. The host interface: window operations, the protection table, packet rings, interrupts, the SHM aperture, function resets and the
PCIe link (R486 to R519). -/

namespace Sys2Proof.Machine

/-! ### Rings (R496, R497) -/

/-- Octets of a submission record, by KIND (Table 18.3). -/
def sqOctets (kind : Nat) : Nat := if kind = 0 then 128 else if kind = 1 then 32 else 16

def ringEntries (s : State) (fn r : Nat) : Nat := 2 ^ s.rd (fn + 1) (F.HIF_RING_CFG_LOG2_SIZE r)
def ringKind (s : State) (fn r : Nat) : Nat := s.rd (fn + 1) (F.HIF_RING_CFG_KIND r)
def sqBase (s : State) (fn r : Nat) : Nat := s.rd64 (fn + 1) (F.HIF_SQ_BASE_LO r) (F.HIF_SQ_BASE_HI r)
def cqBase (s : State) (fn r : Nat) : Nat := s.rd64 (fn + 1) (F.HIF_CQ_BASE_LO r) (F.HIF_CQ_BASE_HI r)

/-- Is a ring's memory aligned to its size, and owned where it lies in SHM? -/
def ringMemOk (s : State) (fn a len : Nat) : Bool := a % len == 0 && ownsBuf s fn a len

def pairOk (s : State) (fn r : Nat) : Bool :=
  let n := ringEntries s fn r
  ringMemOk s fn (sqBase s fn r) (n * sqOctets (ringKind s fn r)) && ringMemOk s fn (cqBase s fn r) (n * cqOctets (ringKind s fn r))

/-- Ring pairs of a function (R496). The steward has none. -/
def pairsOf (fn : Nat) : Nat := if fn ≤ 1 then 16 else if fn ≤ 512 then 4 else 0

/-- EN of a ring pair becomes 0. -/
def ringOff (fn r : Nat) (s : State) : State :=
  (s.wr (fn + 1) (F.HIF_RING_CFG_EN r) 0).wr (fn + 1) (F.HIF_RING_STATUS_INFLIGHT r) 0

/-- EN of a ring pair becomes 1: every index is 0 (Table 18.14). -/
def ringOn (fn r : Nat) (s : State) : State :=
  let c := fn + 1
  let t := each [F.HIF_SQ_TAIL r, F.HIF_SQ_HEAD r, F.HIF_CQ_HEAD r, F.HIF_CQ_WR r, F.HIF_RING_STATUS_INFLIGHT r] (fun f t => t.wr c f 0) s
  { t.wr c (F.HIF_RING_CFG_EN r) 1 with hif := { s.hif with ringEn := tset s.hif.ringEn (fn * 16 + r) (tgetD s.hif.ringEn (fn * 16 + r) 0 + 1) } }

/-- A write of HIF_RING_CFG (R496). -/
def writeRingCfg (fn r v : Nat) (s : State) : State :=
  if pairsOf fn ≤ r then s
  else
    let c := fn + 1
    let kind := if bits v 1 2 = 3 then 0 else bits v 1 2
    let log := max 4 (min (bits v 8 4) 12)
    let changes := kind != ringKind s fn r || log != s.rd c (F.HIF_RING_CFG_LOG2_SIZE r)
    let t := (s.wr c (F.HIF_RING_CFG_IRQ_ALL r) (bits v 3 1)).wr c (F.HIF_RING_CFG_ITR_US r) (bits v 16 16)
    if s.rd c (F.HIF_RING_CFG_EN r) = 1 then
      onlyIf (!bitOf v 0) (ringOff fn r) (onlyIf changes (postTo Ev.HIF_CFG_LOCKED fn r) t)
    else
      let t := (t.wr c (F.HIF_RING_CFG_KIND r) kind).wr c (F.HIF_RING_CFG_LOG2_SIZE r) log
      if !bitOf v 0 then t else if pairOk t fn r then ringOn fn r t else postTo Ev.HIF_RING_ERR fn r t

/-- A write of PARAM or of a base address: only while EN is 0 (R496). INFLIGHT_MAX 0 stores 1. -/
def writeRingField (fn r : Nat) (f : FieldRef) (v : Nat) (s : State) : State :=
  if pairsOf fn ≤ r then s
  else if s.rd (fn + 1) (F.HIF_RING_CFG_EN r) = 1 then postTo Ev.HIF_CFG_LOCKED fn r s
  else s.wr (fn + 1) f (if f.off = 0x404 + 0x40 * r && v % 2 ^ 13 == 0 && ringKind s fn r == 0 then v + 1 else v)

/-- A write of SQ_TAIL (R497). -/
def opDoorbell (fn r v : Nat) (s : State) : State :=
  if pairsOf fn ≤ r then s
  else if ringEntries s fn r < wsub 32 v (s.rd (fn + 1) (F.HIF_SQ_HEAD r)) then postTo Ev.HIF_RING_ERR fn r s
  else s.wr (fn + 1) (F.HIF_SQ_TAIL r) v

/-- SQ_DOORBELL. -/
def execSqDoorbell (fn : Fn) (ring : Fin 16) (value : BitVec 32) (s : State) : Host.Outcome State Fault Refusal :=
  .next (writeAtDoor .hif fn.val (0x410 + 0x40 * ring.val) (opDoorbell fn.val ring.val value.toNat) s)

/-- A write of HIF_ER_CFG (Table 18.14). DEDUCED: its memory follows R496. -/
def writeErCfg (fn v : Nat) (s : State) : State :=
  let c := fn + 1
  let t := (s.wr c F.HIF_ER_CFG_LOG2_SIZE (max 4 (min (bits v 1 4) 12))).wr c F.HIF_ER_CFG_ITR_US (bits v 16 16)
  if !bitOf v 0 then t.wr c F.HIF_ER_CFG_EN 0
  else if s.rd c F.HIF_ER_CFG_EN = 1 then t
  else if ringMemOk t fn (t.rd64 c F.HIF_ER_BASE_LO F.HIF_ER_BASE_HI) (32 * 2 ^ t.rd c F.HIF_ER_CFG_LOG2_SIZE) then
    { ((t.wr c F.HIF_ER_CFG_EN 1).wr c F.HIF_ER_WR 0).wr c F.HIF_ER_RD 0 with erLost := tdel t.erLost c }
  else postTo Ev.HIF_RING_ERR fn 16 t

/-! ### The protection table (R493 to R495) -/

/-- Enabled rings in SHM that their owner no longer owns are disabled, and their blocks and the HIF say so (R495, R593). -/
def revokeRings (s : State) : State :=
  let gone (b : Blk) (s : State) : State := post Ev.HIF_RING_REVOKED b.code s
  let t := each (List.range 16) (fun n t =>
    if t.sh (F.TDC_CH_CFG_EN n) = 1 ∧ ringOk t n = false then gone .tdc (post Ev.TDC_RING_REFUSED n (chEnable n false t)) else t) s
  let t := each allTsr (fun r t =>
    if t.sh r.en = 1 ∧ tsrOk t r = false then gone r.en.blk (post r.evRefused r.obj (tsrOff r t)) else t) t
  let t := each (List.range 514) (fun fn t => each (List.range (pairsOf fn)) (fun r t =>
    if t.rd (fn + 1) (F.HIF_RING_CFG_EN r) = 1 ∧ pairOk t fn r = false then
      gone .hif (postTo Ev.HIF_RING_ERR fn r (ringOff fn r t)) else t) t) t
  let t := each (erCopies t) (fun c t =>
    if ownsBuf t (c - 1) (t.rd64 c F.HIF_ER_BASE_LO F.HIF_ER_BASE_HI) (32 * 2 ^ t.rd c F.HIF_ER_CFG_LOG2_SIZE) then t
    else gone .hif (postTo Ev.HIF_RING_ERR (c - 1) 16 (t.wr c F.HIF_ER_CFG_EN 0))) t
  each [0, 1] (fun d t =>
    let fn := t.sh (F.MGP_RING_CFG_OWNER d)
    let n := 2 ^ t.sh (F.MGP_RING_CFG_LOG2_SIZE d)
    let ok := ownsBuf t fn (t.rd64 0 (F.MGP_SQ_BASE_LO d) (F.MGP_SQ_BASE_HI d)) (n * (if d = 0 then 16 else 32)) &&
      ownsBuf t fn (t.rd64 0 (F.MGP_CQ_BASE_LO d) (F.MGP_CQ_BASE_HI d)) (n * (if d = 0 then 32 else 16))
    if t.sh (F.MGP_RING_CFG_EN d) = 1 ∧ ok = false then gone .mgp (post Ev.MGP_RING_ERR d (t.wr 0 (F.MGP_RING_CFG_EN d) 0)) else t) t

/-- The whole shadow becomes the active table, under the next epoch (R493). -/
def ptCommit (s : State) : State :=
  let t := { s.wr 0 F.HIF_EPOCH (s.sh F.HIF_EPOCH + 1) with hif := { s.hif with ptActive := s.hif.ptShadow } }
  revokeRings (post Ev.HIF_EPOCH 0 t)

/-- A DRAIN commit waits (R494). -/
def drainWaits (s : State) : Bool := s.reqs.any fun r => r.blk == .hif && r.op == hifOpCommit

/-- A restructure holds the shadow table (R533). -/
def rsHoldsTable (s : State) : Bool := s.sh F.STW_STATUS_RS_STATE == 1 || s.sh F.STW_STATUS_RS_STATE == 2

/-- The blocks whose waiting commands hold a buffer. -/
def holdsBuffer (r : Req) : Bool := r.blk == .bnd || r.blk == .sec || r.blk == .stw || r.blk == .pmc

def hifCommand (w : Win) (auth : State → Bool) (body : State → State) (s : State) : State :=
  command .hif stHif Ev.HIF_CMD_OVERRUN w (fun s => if auth s then body s else refuse stHif w 0 s) s

def secWin (w : Win) (s : State) : Bool := s.secureSt w.fn

/-- NOP. -/
def opHifNop (w : Win) (s : State) : State := hifCommand w (fun _ => true) (completeOk stHif w) s

def execHifNop (fn : Fn) (s : State) : Host.Outcome State Fault Refusal := .next (opHifNop ⟨fn.val, fn.val + 1⟩ s)

/-- An entry of the shadow table; an entry of zeros is not listed. -/
def ptPut (e : Nat) (o : Octets) (s : State) : State :=
  { s with hif := { s.hif with ptShadow := if o.all (· == 0) then tdel s.hif.ptShadow e else tset s.hif.ptShadow e o } }

/-- PT_WRITE. -/
def opPtWrite (w : Win) (s : State) : State :=
  hifCommand w (secWin w) (fun s =>
    let e := s.rd w.c F.HIF_W_SEL
    if 4096 ≤ e ∨ drainWaits s = true ∨ rsHoldsTable s = true then refuse stHif w 0 s
    else completeOk stHif w (ptPut e ((List.range 8).map fun i => leBytes 4 (s.rd w.c (F.HIF_W_DATA i))).flatten s)) s

def execPtWrite (fn : Fn) (s : State) : Host.Outcome State Fault Refusal := .next (opPtWrite ⟨fn.val, fn.val + 1⟩ s)

/-- PT_READ. -/
def opPtRead (w : Win) (s : State) : State :=
  hifCommand w (secWin w) (fun s =>
    let e := s.rd w.c F.HIF_W_SEL
    if 4096 ≤ e then refuse stHif w 0 s
    else
      let o := tgetD (if bitOf (s.rd w.c (F.HIF_W_ARG 0)) 0 then s.hif.ptActive else s.hif.ptShadow) e (zeros 32)
      completeOk stHif w (each (List.range 8) (fun i t => t.wr w.c (F.HIF_W_DATA i) (ofLe (slice o (4 * i) 4))) s)) s

def execPtRead (fn : Fn) (s : State) : Host.Outcome State Fault Refusal := .next (opPtRead ⟨fn.val, fn.val + 1⟩ s)

/-- PT_COMMIT. With DRAIN it completes once nothing of an older epoch remains. -/
def opPtCommit (w : Win) (s : State) : State :=
  hifCommand w (secWin w) (fun s =>
    if drainWaits s then refuse stHif w 0 s
    else
      let t := ptCommit s
      let t := t.wr w.c F.HIF_W_RES0 (t.sh F.HIF_EPOCH)
      if bitOf (s.rd w.c (F.HIF_W_ARG 0)) 0 then accept .hif stHif w hifOpCommit 0 t else completeOk stHif w t) s

def execPtCommit (fn : Fn) (s : State) : Host.Outcome State Fault Refusal := .next (opPtCommit ⟨fn.val, fn.val + 1⟩ s)

/-- PT_COMMIT_DRAINED: due once no command that holds a buffer was accepted under an older epoch (R494). -/
def ptDrained (s : State) : State :=
  let due : Req → Bool := fun d => !(s.reqs.any fun r => holdsBuffer r && r.ep != d.ep)
  if s.reqs.any fun d => d.blk == .hif && d.op == hifOpCommit && due d then finish .hif hifOpCommit 0 Code.ok 0 s else s

def execPtCommitDrained (s : State) : Host.Outcome State Fault Refusal := .next (ptDrained s)

/-- PT_ABORT. -/
def opPtAbort (w : Win) (s : State) : State :=
  hifCommand w (secWin w) (fun s =>
    if drainWaits s ∨ rsHoldsTable s then refuse stHif w 0 s
    else completeOk stHif w { s with hif := { s.hif with ptShadow := s.hif.ptActive } }) s

def execPtAbort (fn : Fn) (s : State) : Host.Outcome State Fault Refusal := .next (opPtAbort ⟨fn.val, fn.val + 1⟩ s)

/-! ### COPY (R506) -/

/-- How many octets a COPY moves before it meets an unswept word, or as a source a poisoned one, and the code it ends with. -/
def copyReach (s : State) (a n : Nat) (src : Bool) : Nat × Nat :=
  let ws := (List.range ((a + n - 1) / 32 - a / 32 + 1)).map (· + a / 32)
  let unswept : Nat → Bool := fun w => s.sh (F.SHM_GRP_STATUS_SWEPT (shmGroup (32 * w))) == 0
  match ws.find? fun w => unswept w || (src && s.shmx.poison.contains w) with
  | some w => (32 * w - a, if unswept w then Code.uninit else Code.poisoned)
  | none => (n, Code.ok)

/-- COPY: one address names SHM, the other the issuing function's host memory. -/
def opHifCopy (w : Win) (s : State) : State :=
  hifCommand w (fun _ => true) (fun s =>
    let arg (i : Nat) : Nat := s.rd w.c (F.HIF_W_ARG i)
    let src := arg 0 + 2 ^ 32 * arg 1
    let dst := arg 2 + 2 ^ 32 * arg 3
    let n := arg 4
    let fromShm := addrIsShm src
    let sa := if fromShm then src else dst
    if n = 0 ∨ 1048576 < n ∨ fromShm = addrIsShm dst ∨ addrWellFormed sa = false ∨
        shmPermitted s w.fn (sa % 2 ^ 32) n (if fromShm then permR else permW) = false then refuse stHif w 0 s
    else
      let (m, code) := copyReach s (sa % 2 ^ 32) n fromShm
      let o := s.memRead w.fn src m
      let t := onlyIf (!fromShm && m != 0) (count Ct.HIF_RX_BYTES w.fn m) s
      let t := onlyIf (m != 0) (dmaWrite w.fn dst o) t
      complete stHif w code 0 (t.wr w.c F.HIF_W_RES0 m)) s

def execHifCopy (fn : Fn) (s : State) : Host.Outcome State Fault Refusal := .next (opHifCopy ⟨fn.val, fn.val + 1⟩ s)

/-! ### Secure use and power requests (R513, R514) -/

/-- SU_HOLD. A gated block first returns to ON. -/
def opSuHold (w : Win) (s : State) : State :=
  hifCommand w (secWin w) (fun s =>
    let b := s.rd w.c F.HIF_W_SEL
    if 24 ≤ b ∨ s.sh (F.HIF_SU_COUNT b) = 0xFFFF then refuse stHif w 0 s
    else if s.gated b then ungate b (accept .hif stHif w hifOpHold b s)
    else suHeld w b s) s

def execSuHold (fn : Fn) (s : State) : Host.Outcome State Fault Refusal := .next (opSuHold ⟨fn.val, fn.val + 1⟩ s)

/-- The requests that waited for a block's count to reach 0 are applied, whole, and their functions are told (R513). -/
def applyDeferred (b : Nat) (s : State) : State :=
  let ws := (fnCopies s (F.HIF_PWR_REQ_DEFERRED b)).filter fun e => e.2 == 1
  let t := each ws (fun e t => postTo Ev.HIF_PWR_APPLIED e.1 b (t.wr (e.1 + 1) (F.HIF_PWR_REQ_DEFERRED b) 0)) s
  match Blk.ofCode b with
  | some k => onlyIf (!ws.isEmpty) (tryGate k) t
  | none => t

/-- SU_RELEASE. -/
def opSuRelease (w : Win) (s : State) : State :=
  hifCommand w (secWin w) (fun s =>
    let b := s.rd w.c F.HIF_W_SEL
    let n := s.sh (F.HIF_SU_COUNT b)
    if 24 ≤ b ∨ n = 0 then refuse stHif w 0 s
    else
      let t := (s.wr 0 (F.HIF_SU_COUNT b) (n - 1)).wr w.c F.HIF_W_RES0 (n - 1)
      completeOk stHif w (onlyIf (n == 1) (applyDeferred b) t)) s

def execSuRelease (fn : Fn) (s : State) : Host.Outcome State Fault Refusal := .next (opSuRelease ⟨fn.val, fn.val + 1⟩ s)

/-- A function's request for a block: 0 RELEASE, 1 FORCE_ON, 2 GATE (R513, R555). -/
def setPwrReq (fn b req : Nat) (deferred : Bool) (s : State) : State :=
  checkUngate b ((s.wr (fn + 1) (F.HIF_PWR_REQ_REQ b) req).wr (fn + 1) (F.HIF_PWR_REQ_DEFERRED b) (b2n deferred))

/-- PWR_REQ. -/
def opPwrReq (w : Win) (s : State) : State :=
  hifCommand w (fun _ => tenant0 w.fn) (fun s =>
    let b := s.rd w.c F.HIF_W_SEL
    let req := s.rd w.c (F.HIF_W_ARG 0) % 4
    if (gateable.any fun k => k.code == b) = false ∨ req = 3 then refuse stHif w 0 s
    else
      let late := req == 2 && s.sh (F.HIF_SU_COUNT b) != 0
      complete stHif w (if late then Code.deferred else Code.ok) 0 (setPwrReq w.fn b req late s)) s

def execPwrReq (fn : Fn) (s : State) : Host.Outcome State Fault Refusal := .next (opPwrReq ⟨fn.val, fn.val + 1⟩ s)

/-! ### Packet rings (R507, R508) -/

/-- A transmit descriptor is offered to its queue or to UBW, or fails (R507). -/
def offerDescriptor (h : HostTag) (d : Octets) (s : State) : State :=
  let p := s.rd (h.fn + 1) (F.HIF_RING_PARAM h.r)
  let target := bits p 16 5
  let a := ofLe (slice d 0 8)
  let n := ofLe (slice d 8 2)
  let act := slice d 16 16
  let longest := if target < 16 then s.sh (F.PRT_PORT_FRAME_MAX_FRAME target) - 4 else 764
  if 16 < target then txComplete h Code.discarded TxCause.mapErr 0 s
  else if n < 14 ∨ longest < n then txComplete h Code.discarded TxCause.format 0 s
  else if ownsBuf s h.fn a n = false then txComplete h Code.discarded TxCause.protection 0 s
  else if bufCode s a n ≠ Code.ok then txComplete h (bufCode s a n) 0 0 s
  else
    let o := s.memRead h.fn a n
    let t := onlyIf (!addrIsShm a) (count Ct.HIF_RX_BYTES h.fn n) s
    if target = 16 then ubwSubmit o act h t
    else if t.doorOpen .sch = false then txComplete h Code.blockAbsent 0 0 t
    else
      match enqueue target (p % 2 ^ 16) { octets := o, act := act, queue := p % 2 ^ 16, level := 0, host := some h, tenant := tenantOf h.fn } t with
      | (some cause, t) => txComplete h Code.discarded cause 0 t
      | (none, t) => t

/-- TX_DESCRIPTOR: the oldest fetched descriptor. -/
def txDescriptor (s : State) : State :=
  match s.hif.txq with
  | [] => s
  | (h, d) :: rest =>
    let t := { s with hif := { s.hif with txq := rest } }
    if ringLive s h.fn h.r h.en then offerDescriptor h d t else t

def execTxDescriptor (s : State) : Host.Outcome State Fault Refusal := .next (txDescriptor s)

/-- TX_COMPLETION: the oldest transmit completion is written. -/
def txCompletion (s : State) : State :=
  match s.hif.txDone with
  | [] => s
  | (h, code, cause, frc) :: rest =>
    let t := { s with hif := { s.hif with txDone := rest } }
    if ringLive s h.fn h.r h.en then cqWrite h.fn h.r false (oct [0, code, cause, 0] ++ leBytes 4 h.idx ++ leBytes 8 frc) t else t

def execTxCompletion (s : State) : Host.Outcome State Fault Refusal := .next (txCompletion s)

/-- RX_DELIVERY: the oldest received frame is written to its buffer, with its completion. -/
def rxDelivery (s : State) : State :=
  match s.hif.rxq with
  | [] => s
  | x :: rest =>
    let h := x.tag
    let t := { s with hif := { s.hif with rxq := rest } }
    if !ringLive s h.fn h.r h.en then count Ct.HIF_RX_DROP h.fn 1 t
    else
      let d := s.memRead h.fn (sqBase s h.fn h.r + 16 * (h.idx % ringEntries s h.fn h.r)) 16
      let a := ofLe (slice d 0 8)
      let n := x.octets.length
      let bad := if ofLe (slice d 8 2) < n then TxCause.tooLong else if ownsBuf s h.fn a n = false then TxCause.protection else 0
      let t := t.wr (h.fn + 1) (F.HIF_SQ_HEAD h.r) (h.idx + 1)
      let t := onlyIf (bad == 0) (dmaWrite h.fn a x.octets) t
      cqWrite h.fn h.r false (oct [0, if bad = 0 then Code.ok else Code.discarded, bad, x.src] ++ leBytes 4 h.idx ++ leBytes 2 n ++
        oct [x.errs, 0] ++ leBytes 4 x.seq ++ leBytes 8 x.frc) t

def execRxDelivery (s : State) : Host.Outcome State Fault Refusal := .next (rxDelivery s)

/-! ### Interrupts (R511) -/

/-- ITR_US of the ring that a vector serves. -/
def itrOf (s : State) (fn v : Nat) : Nat :=
  if v < pairsOf fn then s.rd (fn + 1) (F.HIF_RING_CFG_ITR_US v) else if v = erVector fn then s.rd (fn + 1) F.HIF_ER_CFG_ITR_US else 0

/-- IRQ_INTERVAL_END: a condition that arose inside the interval is sent at its end. -/
def irqIntervalEnd (fn v : Nat) (s : State) : State :=
  match tget s.vecs (fn * 32 + v) with
  | some w => if w.waiting && decide (w.until_ ≤ s.frc) then sendVec fn v (itrOf s fn v) s else s
  | none => s

def execIrqIntervalEnd (fn : Fn) (vector : Fin 32) (s : State) : Host.Outcome State Fault Refusal := .next (irqIntervalEnd fn.val vector.val s)

/-- A write of a word of the MSI-X table (R601): a vector that is unmasked while it is pending sends its message. -/
def writeMsix (fn off v : Nat) (s : State) : State :=
  let e := off / 16
  let j := off % 16 / 4
  if vectorsOf fn ≤ e then s
  else
    let k := (fn * 32 + e) * 4 + j
    let t := { s with hif := { s.hif with msix := tset s.hif.msix k (if j = 3 then v % 2 else v) } }
    onlyIf (j == 3 && !bitOf v 0 && (tgetD s.vecs (fn * 32 + e) {}).pend) (sendVec fn e (itrOf s fn e)) t

/-! ### MMIO accesses that the HIF answers by itself (R492, R602) -/

/-- The code and the address of a failed access, and PROT_FAULT, at most once per ms (R492). -/
def protFault (fn code addr : Nat) (s : State) : State :=
  let t := accFail fn code addr s
  let recent := match tget s.hif.protAt fn with
    | some p => decide (s.frc < p + 1562500)
    | none => false
  if recent then t else postTo Ev.HIF_PROT_FAULT fn 0 { t with hif := { t.hif with protAt := tset t.hif.protAt fn t.frc } }

def mmioDone (fn : Nat) (d : Octets) (ep : Bool) (s : State) : State := { s with hif := { s.hif with mmio := some ⟨fn, d, ep⟩ } }

def ones (n : Nat) : Octets := List.replicate n 0xFF

/-- MMIO_SHM_ACCESS through the aperture of PF0 or PF1. -/
def mmioShm (fn a : Nat) (act : MmioAct) (s : State) : State :=
  if 1 < fn then s
  else
    match act with
    | .read n =>
      let n := n.toNat
      let s := count Ct.HIF_TX_BYTES fn n s
      if shmPermitted s fn a n permR = false then protFault fn Code.refused a (mmioDone fn (ones n) false s)
      else if shmSwept s a n = false then protFault fn Code.uninit a (mmioDone fn (ones n) false s)
      else if s.shmPoisoned a n then protFault fn Code.poisoned a (mmioDone fn (s.shmRead a n) true s)
      else mmioDone fn (s.shmRead a n) false s
    | .write d poison =>
      let s := mmioDone fn [] false (count Ct.HIF_RX_BYTES fn d.length s)
      if shmPermitted s fn a d.length permW = false then protFault fn Code.refused a s
      else if shmSwept s a d.length = false then protFault fn Code.uninit a s
      else
        let t := s.shmWrite a d
        if poison then each (List.range ((a % 32 + d.length + 31) / 32)) (fun i => poisonWord (a / 32 * 32 + 32 * i)) t else t

def execMmioShmAccess (fn : Fn) (addr : BitVec 28) (act : MmioAct) (s : State) : Host.Outcome State Fault Refusal :=
  .next (mmioShm fn.val addr.toNat act s)

/-- MMIO_MALFORMED (R602). The steward has no BAR. -/
def mmioMalformed (fn a : Nat) (write : Bool) (s : State) : State :=
  if fn = stewardFn then s else protFault fn Code.refused a (mmioDone fn (if write then [] else ones 4) false s)

def execMmioMalformed (fn : Fn) (addr : BitVec 19) (write : Bool) (s : State) : Host.Outcome State Fault Refusal :=
  .next (mmioMalformed fn.val addr.toNat write s)

/-! ### Latency tolerance, function resets and the link (R512, R515 to R517) -/

/-- A write of HIF_LAT_TOL. -/
def opLatTol (fn v : Nat) (s : State) : State := syncTol (s.wr (fn + 1) F.HIF_LAT_TOL v)

def execHifLatTolWrite (fn : Fn) (value : BitVec 32) (s : State) : Host.Outcome State Fault Refusal :=
  .next (writeAtDoor .hif fn.val 0x10 (opLatTol fn.val value.toNat) s)

/-- HIF_LTR as one word. -/
def ltrWord (s : State) : Nat := s.sh F.HIF_LTR_SNOOP + 2 ^ 16 * s.sh F.HIF_LTR_NO_SNOOP

/-- An LTR message goes upstream, where the host has enabled LTR and the link is up. -/
def sendLtr (s : State) : State :=
  if s.hif.ltrEn && s.sh F.HIF_STATUS_LINK_UP == 1 then { s with hif := { s.hif with ltrSent := s.hif.ltrSent + 1, ltrLast := ltrWord s } } else s

/-- A write of HIF_LTR (R512, R519): a change is sent upstream. -/
def writeLtr (fn v : Nat) (s : State) : State :=
  if !s.secureSt fn then postTo Ev.HIF_AUTH_REFUSED fn 0 s
  else
    let t := (s.wr 0 F.HIF_LTR_SNOOP v).wr 0 F.HIF_LTR_NO_SNOOP (v / 2 ^ 16)
    onlyIf (ltrWord t != ltrWord s) sendLtr t

/-- Commands in flight. -/
def syncInflight (s : State) : State := s.wr 0 F.HIF_STATUS_INFLIGHT s.hif.cmds.length

/-- Every per-function register of some functions returns to its reset value: no entry of their copies is left, and none of their flags is
set (R515). -/
def resetCopies (p : Nat → Bool) (s : State) : State :=
  let hit : Nat → Bool := fun c => decide (0 < c) && decide (c ≤ 514) && p (c - 1)
  let own := tfilter (fun k _ => !hit (k % 1024)) s.evtOwn
  let cs := ((List.range 515).filter hit)
  let own := s.evtAll.foldl (fun o e => cs.foldl (fun o c => tset o (e.1 * 1024 + c) 0) o) own
  { s with regs := tfilter (fun k _ => !hit (k / 2 ^ 24)) s.regs, evtOwn := own, erLost := tfilter (fun c _ => !hit c) s.erLost }

/-- A reset of functions (R515): rings disabled, work in progress dropped or its record not written, register copies at reset, requests withdrawn. -/
def functionsReset (p : Nat → Bool) (s : State) : State :=
  let x := s.hif
  let t := { s with
    hif := { x with
      cmds := (x.cmds.filter fun c => c.started || !p c.tag.fn).map fun c => if p c.tag.fn then { c with dead := true } else c
      txq := x.txq.filter fun e => !p e.1.fn
      rxq := x.rxq.filter fun e => !p e.tag.fn
      txDone := x.txDone.filter fun e => !p e.1.fn
      protAt := tfilter (fun k _ => !p k) x.protAt
      msix := tfilter (fun k _ => !p (k / 128)) x.msix }
    vecs := tfilter (fun k _ => !p (k / 32)) s.vecs }
  each gateable (fun b => checkUngate b.code) (syncTol (syncInflight (resetCopies p t)))

/-- FUNCTION_LEVEL_RESET. -/
def execFunctionLevelReset (f : Fin 513) (s : State) : Host.Outcome State Fault Refusal := .next (functionsReset (· == f.val) s)

/-- A link-down: every PCIe function is reset, and DMA to the host is discarded from now on (R516). -/
def linkDown (s : State) : State :=
  let t := { s with hif := { s.hif with ltrEn := false } }
  let t := each [F.HIF_STATUS_LINK_UP, F.HIF_STATUS_SPEED, F.HIF_STATUS_WIDTH, F.HIF_STATUS_NUM_VFS] (fun f t => t.wr 0 f 0) t
  functionsReset (fun fn => decide (fn ≤ 512)) t

/-- PCIE_LINK_DOWN. -/
def execPcieLinkDown (s : State) : Host.Outcome State Fault Refusal := .next (linkDown s)

/-- PCIE_LINK_UP (R517): the link trains once Proofing has enabled the HIF, never above GEN_MAX or wider than WIDTH_MAX (R547). -/
def linkUp (speed width vfs : Nat) (ltr : Bool) (s : State) : State :=
  if s.sh F.RST_STATUS_PROOF_DONE = 0 ∨ s.sh F.HIF_STATUS_LINK_UP = 1 ∨ s.pwr.deep ≠ 0 then s
  else
    let t := (s.wr 0 F.HIF_STATUS_LINK_UP 1).wr 0 F.HIF_STATUS_SPEED (min (speed + 1) (s.sh F.RST_OPT_GEN_MAX))
    let t := (t.wr 0 F.HIF_STATUS_WIDTH (2 ^ min width (s.sh F.RST_OPT_WIDTH_MAX))).wr 0 F.HIF_STATUS_NUM_VFS vfs
    sendLtr (syncTol { t with hif := { t.hif with ltrEn := ltr } })

def execPcieLinkUp (speed : Fin 5) (width : Fin 4) (vfs : Fin 512) (ltr : Bool) (s : State) : Host.Outcome State Fault Refusal :=
  .next (linkUp speed.val width.val vfs.val ltr s)

end Sys2Proof.Machine
end

