-- ==== Sys2Proof/Machine/Mgp.lean ====
section
/-! DEFINITION. The management port: link, MDIO, MAC, rings, stamps and wake patterns (R587 to R600). -/

namespace Sys2Proof.Machine

/-! ### Configuration and link -/

/-- A write of MGP_CFG (R587): fields other than EN only while EN is 0; no 1,000 Mb/s half duplex. -/
def writeMgpCfg (fn v : Nat) (s : State) : State :=
  writeAtDoor .mgp fn 0xC (fun s =>
    if !s.secureSt fn then postTo Ev.MGP_AUTH_REFUSED fn 0 s
    else
      let speed := if bits v 2 2 = 3 then 2 else bits v 2 2
      let fs : List (FieldRef × Nat) := [(F.MGP_CFG_IFACE, bits v 1 1), (F.MGP_CFG_SPEED, speed), (F.MGP_CFG_DUPLEX, bits v 4 1),
        (F.MGP_CFG_AN_EN, bits v 5 1), (F.MGP_CFG_ERR_DELIVER, bits v 6 1)]
      if s.sh F.MGP_CFG_EN = 1 then
        let t := onlyIf (fs.any fun e => s.sh e.1 != e.2) (post Ev.MGP_CFG_LOCKED 0) s
        t.wr 0 F.MGP_CFG_EN (bits v 0 1)
      else
        let t := each fs (fun e t => t.wr 0 e.1 e.2) s
        if bitOf v 0 ∧ t.sh F.MGP_CFG_DUPLEX = 0 ∧ speed = 2 then post Ev.MGP_CFG_LOCKED 0 t else t.wr 0 F.MGP_CFG_EN (bits v 0 1)) s

/-- MGP_EN: the value written to MGP_CFG. -/
def execMgpEn (fn : Fn) (value : BitVec 32) (s : State) : Host.Outcome State Fault Refusal := .next (writeMgpCfg fn.val value.toNat s)

/-- MGP_LINK_CHANGE: what the receive clock and, with AN_EN, the partner word or in-band status report (R588). -/
def mgpLink (up : Bool) (speed : Nat) (full : Bool) (s : State) : State :=
  if s.doorOpen .mgp = false then s
  else
    let an := s.sh F.MGP_CFG_AN_EN == 1
    let sp := if an then speed else s.sh F.MGP_CFG_SPEED
    let fu := if an then full else s.sh F.MGP_CFG_DUPLEX == 1
    if !up || (an && sp == 2 && !fu) then mgpDown s
    else
      let t := (s.wr 0 F.MGP_STATUS_SPEED_ACT sp).wr 0 F.MGP_STATUS_FULL_ACT (b2n fu)
      if s.sh F.MGP_STATUS_LINK_UP = 1 then t
      else calLinkUp 22 (post Ev.MGP_LINK_UP 0 ((t.wr 0 F.MGP_STATUS_LINK_UP 1).wr 0 F.MGP_STATUS_LINK_GEN (t.sh F.MGP_STATUS_LINK_GEN + 1)))

def execMgpLinkChange (up : Bool) (speed : Fin 3) (full : Bool) (s : State) : Host.Outcome State Fault Refusal :=
  .next (mgpLink up speed.val full s)

/-- A write of MGP_MDIO (R589): START runs one frame, unless one is in progress. -/
def writeMdio (fn v : Nat) (s : State) : State :=
  writeAtDoor .mgp fn 0x1C (fun s =>
    if !s.secureSt fn then postTo Ev.MGP_AUTH_REFUSED fn 0 s
    else
      let t := ((s.wr 0 F.MGP_MDIO_REG v).wr 0 F.MGP_MDIO_PHYAD (bits v 5 5)).wr 0 F.MGP_MDIO_WRITE (bits v 10 1)
      let t := t.wr 0 F.MGP_MDIO_DATA (bits v 16 16)
      if bitOf v 11 ∧ s.sh F.MGP_MDIO_BUSY = 0 then { t.wr 0 F.MGP_MDIO_BUSY 1 with mgp := { t.mgp with mdio := some v } } else t) s

def execMdioStart (fn : Fn) (value : BitVec 32) (s : State) : Host.Outcome State Fault Refusal := .next (writeMdio fn.val value.toNat s)

/-- MDIO_DONE: a read frame leaves its result in DATA. -/
def mdioDone (d : Nat) (s : State) : State :=
  match s.mgp.mdio with
  | none => s
  | some v =>
    let t := { s.wr 0 F.MGP_MDIO_BUSY 0 with mgp := { s.mgp with mdio := none } }
    if bitOf v 10 then t else t.wr 0 F.MGP_MDIO_DATA d

def execMdioDone (data : BitVec 16) (s : State) : Host.Outcome State Fault Refusal := .next (mdioDone data.toNat s)

/-! ### Rings (R593) -/

def mgpOwner (s : State) (d : Nat) : Nat := s.sh (F.MGP_RING_CFG_OWNER d)
def mgpEntries (s : State) (d : Nat) : Nat := 2 ^ s.sh (F.MGP_RING_CFG_LOG2_SIZE d)
def mgpSq (s : State) (d : Nat) : Nat := s.rd64 0 (F.MGP_SQ_BASE_LO d) (F.MGP_SQ_BASE_HI d)
def mgpCq (s : State) (d : Nat) : Nat := s.rd64 0 (F.MGP_CQ_BASE_LO d) (F.MGP_CQ_BASE_HI d)

/-- Octets of the records of ring d: RECEIVE for 0, TRANSMIT for 1. -/
def mgpKind (d : Nat) : Nat := if d = 0 then 2 else 1

/-- A write of MGP_RING_CFG. -/
def writeMgpRing (fn d v : Nat) (s : State) : State :=
  writeAtDoor .mgp fn (0x40 + 0x40 * d) (fun s =>
    if !s.secureSt fn then postTo Ev.MGP_AUTH_REFUSED fn d s
    else
      let log := max 4 (min (bits v 8 4) 12)
      let fs : List (FieldRef × Nat) := [(F.MGP_RING_CFG_LOG2_SIZE d, log), (F.MGP_RING_CFG_OWNER d, bits v 16 10), (F.MGP_RING_CFG_VEC d, bits v 26 5)]
      if s.sh (F.MGP_RING_CFG_EN d) = 1 then
        if !bitOf v 0 then s.wr 0 (F.MGP_RING_CFG_EN d) 0
        else onlyIf (log != s.sh (F.MGP_RING_CFG_LOG2_SIZE d)) (post Ev.MGP_CFG_LOCKED d)
          ((s.wr 0 (F.MGP_RING_CFG_OWNER d) (bits v 16 10)).wr 0 (F.MGP_RING_CFG_VEC d) (bits v 26 5))
      else
        let t := each fs (fun e t => t.wr 0 e.1 e.2) s
        let n := mgpEntries t d
        let ok := ringMemOk t (mgpOwner t d) (mgpSq t d) (n * sqOctets (mgpKind d)) && ringMemOk t (mgpOwner t d) (mgpCq t d) (n * cqOctets (mgpKind d))
        if !bitOf v 0 then t
        else if !ok then post Ev.MGP_RING_ERR d t
        else
          let t := each [F.MGP_SQ_TAIL d, F.MGP_SQ_HEAD d, F.MGP_CQ_HEAD d, F.MGP_CQ_WR d] (fun f t => t.wr 0 f 0) t
          { t.wr 0 (F.MGP_RING_CFG_EN d) 1 with mgp := { t.mgp with ringEn := tset t.mgp.ringEn d (tgetD t.mgp.ringEn d 0 + 1) } }) s

/-- A write of SQ_TAIL, which the owner may also make (R497, R599). -/
def writeMgpTail (fn d v : Nat) (s : State) : State :=
  writeAtDoor .mgp fn (0x4C + 0x40 * d) (fun s =>
    if !s.secureSt fn && fn != mgpOwner s d then postTo Ev.MGP_AUTH_REFUSED fn d s
    else if mgpEntries s d < wsub 32 v (s.sh (F.MGP_SQ_HEAD d)) then post Ev.MGP_RING_ERR d s
    else s.wr 0 (F.MGP_SQ_TAIL d) v) s

/-- Is a record posted in ring d, and a completion slot free? -/
def mgpReady (s : State) (d : Nat) : Bool :=
  s.sh (F.MGP_RING_CFG_EN d) == 1 && s.sh (F.MGP_SQ_TAIL d) != s.sh (F.MGP_SQ_HEAD d) &&
    decide (wsub 32 (s.sh (F.MGP_CQ_WR d)) (s.sh (F.MGP_CQ_HEAD d)) < mgpEntries s d)

/-- The posted record of ring d, and HEAD advanced past it. -/
def mgpFetch (d : Nat) (s : State) : Octets × State :=
  let n := sqOctets (mgpKind d)
  let h := s.sh (F.MGP_SQ_HEAD d)
  (s.memRead (mgpOwner s d) (mgpSq s d + n * (h % mgpEntries s d)) n, s.wr 0 (F.MGP_SQ_HEAD d) (h + 1))

/-- Write a completion of ring d, its octet 0 without PHASE, and raise VEC. -/
def mgpComplete (d : Nat) (o : Octets) (s : State) : State :=
  let fn := mgpOwner s d
  let n := cqOctets (mgpKind d)
  let wr := s.sh (F.MGP_CQ_WR d)
  let rec_ := oct [byteAt o 0 + phaseOf wr (mgpEntries s d)] ++ o.drop 1
  let t := (dmaWrite fn (mgpCq s d + n * (wr % mgpEntries s d)) (padTo n rec_) s).wr 0 (F.MGP_CQ_WR d) (wr + 1)
  raiseVec fn (s.sh (F.MGP_RING_CFG_VEC d)) (itrOf s fn (s.sh (F.MGP_RING_CFG_VEC d))) t

/-! ### Stamps (R594) -/

def psTicks (ps : Nat) : Int := roundR ((ps : Rat) * 65536 / 1000)
def mgpTxC (s : State) : Int := sgn 32 (s.sh (F.TDC_CAL_TX 22)) + psTicks (s.sh F.MGP_BOARD_BOARD_TX_PS)
def mgpRxC (s : State) : Int := -(sgn 32 (s.sh (F.TDC_CAL_RX 22)) + psTicks (s.sh F.MGP_BOARD_BOARD_RX_PS))

/-- A record of a timestamp ring of the port (R595). -/
def mgpRecord (d : Nat) (notSent : Bool) (errs tag len x32 : Nat) (c : Int) (s : State) : State :=
  let v := s.sh F.MGP_VC
  tsrWrite (mgpTsr d) (fun seq =>
    tsrOctets (if notSent then 0 else stampFrc x32 c) d (uncal s 22) notSent 21 errs (s.sh F.MGP_STATUS_LINK_GEN % 256) seq tag
      (if notSent then 0 else stampTime s v x32 c) v len) s

/-! ### Reception (R592, R593) -/

/-- The flags of Table 10.2 for a frame with its FCS. -/
def mgpFlags (s : State) (o : Octets) (code : Bool) : Nat :=
  let body := o.take (o.length - 4)
  b2n (leBytes 4 (crc32 body) != o.drop (o.length - 4)) + 2 * b2n code + 8 * b2n (decide (o.length < 64)) +
    16 * b2n (decide (s.sh F.MGP_FRAME < o.length))

/-- Deliver a frame to the receive ring with its record, or drop it for want of a buffer. -/
def mgpDeliver (o : Octets) (len errs x32 : Nat) (s : State) : State :=
  if !mgpReady s 0 then post Ev.MGP_RX_DROP 0 s
  else
    let idx := s.sh (F.MGP_SQ_HEAD 0)
    let fn := mgpOwner s 0
    let (d, t) := mgpFetch 0 s
    let a := ofLe (slice d 0 8)
    let bad := if ofLe (slice d 8 2) < o.length then TxCause.tooLong else if ownsBuf s fn a o.length = false then TxCause.protection else 0
    let seq := tsrSeq t (mgpTsr 0)
    let c := mgpRxC s
    let t := mgpRecord 0 false errs (65536 * (idx % 65536)) len x32 c t
    let t := onlyIf (bad == 0) (dmaWrite fn a o) t
    mgpComplete 0 (oct [0, if bad = 0 then Code.ok else Code.discarded, bad, 21] ++ leBytes 4 idx ++ leBytes 2 o.length ++ oct [errs, 0] ++
      leBytes 4 seq ++ leBytes 8 (frcTick (stampFrc x32 c))) t

/-- MGP_FRAME_RX: the stamp, the frame with its FCS, and what the line code says of it. -/
def mgpFrameRx (x32 : Nat) (o : Octets) (code : Bool) (s : State) : State :=
  if s.doorOpen .mgp = false ∨ s.sh F.MGP_CFG_EN = 0 ∨ s.sh F.MGP_STATUS_LINK_UP = 0 then s
  else
    let s := count Ct.MGP_RX_FRAMES 0 1 (count Ct.MGP_RX_BYTES 0 (o.length + 20) s)
    if o.length < 14 then count Ct.MGP_RUNT 0 1 s
    else
      let f := mgpFlags s o code
      let maxf := s.sh F.MGP_FRAME
      let s := [(0, Ct.MGP_FCS_ERR), (1, Ct.MGP_CODE_ERR), (3, Ct.MGP_RUNT), (4, Ct.MGP_OVERSIZE)].foldl
        (fun t e => onlyIf (bitOf f e.1) (count e.2 0 1) t) s
      if f ≠ 0 ∧ s.sh F.MGP_CFG_ERR_DELIVER = 0 then s
      else mgpDeliver (if maxf < o.length then o.take maxf else o.take (o.length - 4)) o.length f x32 s

def execMgpFrameRx (tick : BitVec 64) (phase : Fin 32) (frame : List Byte) (codeErr : Bool) (s : State) : Host.Outcome State Fault Refusal :=
  .next (mgpFrameRx (32 * tick.toNat + phase.val) frame codeErr s)

/-! ### Transmission (R590, R593) -/

def causeExcess : Nat := 13
def causeLate : Nat := 14

/-- A transmit completion; one with DISCARDED is an event too. -/
def mgpTxDone (code cause idx frc : Nat) (s : State) : State :=
  mgpComplete 1 (oct [0, code, cause, 0] ++ leBytes 4 idx ++ leBytes 8 frc) (onlyIf (code == Code.discarded) (post Ev.MGP_TX_DISCARD 0) s)

/-- A frame of n octets without FCS, and what becomes of it on the line. -/
def mgpSend (act : Octets) (len idx x32 coll : Nat) (late : Bool) (s : State) : State :=
  let s := onlyIf (coll != 0) (count Ct.MGP_COLLISIONS 0 coll) s
  let lost := late || decide (16 ≤ coll)
  if lost then
    let s := count (if late then Ct.MGP_LATE_COLLISION else Ct.MGP_EXCESS_COLLISIONS) 0 1 s
    let s := onlyIf (actTsReq act) (mgpRecord 1 true 0 (actTag act) len 0 0) s
    mgpTxDone Code.discarded (if late then causeLate else causeExcess) idx 0 s
  else
    let s := count Ct.MGP_TX_FRAMES 0 1 (count Ct.MGP_TX_BYTES 0 (len + 20) s)
    let c := mgpTxC s
    let s := onlyIf (actTsReq act) (mgpRecord 1 false 0 (actTag act) len x32 c) s
    mgpTxDone Code.ok 0 idx (frcTick (stampFrc x32 c)) s

/-- MGP_FRAME_TX: the next posted descriptor's frame, with the stamp of its last attempt and the collisions it met. -/
def mgpFrameTx (x32 coll : Nat) (late deferred : Bool) (s : State) : State :=
  if s.doorOpen .mgp = false ∨ s.safe = true ∨ s.sh F.MGP_CFG_EN = 0 ∨ s.sh F.MGP_STATUS_LINK_UP = 0 ∨ mgpReady s 1 = false then s
  else
    let idx := s.sh (F.MGP_SQ_HEAD 1)
    let fn := mgpOwner s 1
    let (d, t) := mgpFetch 1 s
    let a := ofLe (slice d 0 8)
    let n := ofLe (slice d 8 2)
    let act := slice d 16 16
    if (actOps act).any fun e => e.1 != 0 then mgpTxDone Code.discarded TxCause.actionErr idx 0 t
    else if n < 14 ∨ t.sh F.MGP_FRAME < n + 4 then mgpTxDone Code.discarded TxCause.format idx 0 t
    else if ownsBuf t fn a n = false then mgpTxDone Code.discarded TxCause.protection idx 0 t
    else if bufCode t a n = Code.poisoned then mgpTxDone Code.poisoned 0 idx 0 (poisonUse mMgp (a % 2 ^ 32) t)
    else
      let half := t.sh F.MGP_STATUS_FULL_ACT == 0
      let t := onlyIf (half && deferred) (count Ct.MGP_DEFERRALS 0 1) t
      mgpSend act (max 64 (n + 4)) idx x32 (if half then coll else 0) (half && late) t

def execMgpFrameTx (tick : BitVec 64) (phase : Fin 32) (collisions : Fin 17) (late deferred : Bool) (s : State) : Host.Outcome State Fault Refusal :=
  .next (mgpFrameTx (32 * tick.toNat + phase.val) collisions.val late deferred s)

/-! ### Wake patterns (R596) -/

/-- The 128-bit mask of a pattern. -/
def wakeMask (s : State) (p : Nat) : Nat := (List.range 4).foldl (fun m w => m + s.sh (F.MGP_WAKE_MASK p w) * 2 ^ (32 * w)) 0

/-- Does a frame match a pattern? -/
def wakeMatches (s : State) (p : Nat) (o : Octets) : Bool :=
  let sel := (List.range 128).filter fun i => bitOf (wakeMask s p) i
  bitOf (s.sh F.MGP_WAKE_CFG) p && !sel.isEmpty && (sel.all fun i => decide (i < o.length)) &&
    crc16 (oct (sel.map fun i => byteAt o i)) == s.sh (F.MGP_WAKE_CRC p)

/-- The patterns that a frame with its FCS matches, where it is good. -/
def wakeHits (s : State) (o : Octets) : List Nat :=
  if o.length < 64 ∨ s.sh F.MGP_FRAME < o.length ∨ leBytes 4 (crc32 (o.take (o.length - 4))) ≠ o.drop (o.length - 4) then []
  else (List.range 16).filter fun p => wakeMatches s p (o.take (o.length - 4))

/-- A match is counted and posted. -/
def wakeNote (p : Nat) (s : State) : State :=
  post Ev.MGP_WAKE p ((s.wr 0 F.MGP_WAKE_STATUS_LAST p).wr 0 F.MGP_WAKE_STATUS_MATCHES (s.sh F.MGP_WAKE_STATUS_MATCHES + 1))

end Sys2Proof.Machine
end

