-- ==== Sys2Proof/Machine/ResetPower.lean ====
section
/-! DEFINITION. Resets by pin, supply and command, the option bytes, and the power states with their governor and wake sources (R538 to R558,
R596, R597). -/

namespace Sys2Proof.Machine

/-! ### Pins and supplies (R538, R542, R543) -/

/-- Add to a saturating field. -/
def satAdd (f : FieldRef) (n : Nat) (s : State) : State := s.wr 0 f (satU f.w (s.sh f + n))

/-- Battery registers that stand for fuses, which VBAT does not hold. -/
def fuseFields : List FieldRef := [F.KS_LIFECYCLE_STATE, F.KS_LIFECYCLE_ROOT_GEN, F.STW_STATUS_SVN_MIN]

/-- Does a register field depend on VBAT? -/
def onBattery (k : Nat) : Bool :=
  match Blk.ofCode (k / 2 ^ 19 % 32) with
  | none => false
  | some b => ((fldAt b (k / 32 % 0x4000) (k % 32)).map (·.bat)).getD false && !fuseFields.any fun f => f.key 0 == k

/-- VBAT has failed: what it held is lost, and the keep-valid marker is no longer valid (R460, R549). -/
def batteryLost (s : State) : State :=
  { s with
      regs := tfilter (fun k _ => !onBattery k) s.regs
      ks := {}
      rst := { s.rst with marker := false, gnStore := {}, batBase := 0 } }

/-- POWER_ON_RESET: a monitored supply crosses its threshold; `vbat` says that VBAT held. -/
def execPowerOnReset (vbat : Bool) (s : State) : Host.Outcome State Fault Refusal :=
  .next (chipReset 1 .power (onlyIf (!vbat) batteryLost s))

/-- RESET_N_ASSERT: an accepted assertion, ignored while STUCK_ACTIVE is 1. The device stays in reset (R542). -/
def resetNAssert (s : State) : State :=
  if s.rst.pin || s.sh F.RST_STATUS_STUCK_ACTIVE == 1 then s
  else
    let t := chipReset 2 .cold s
    { t with rst := { t.rst with pin := true } }

def execResetNAssert (s : State) : Host.Outcome State Fault Refusal := .next (resetNAssert s)

/-- RESET_N_RELEASE: deasserted for 4 µs after `heldMs` ms; Proofing may begin. -/
def resetNRelease (heldMs : Nat) (s : State) : State :=
  if !s.rst.pin then s
  else satAdd F.RST_HOLD_MS heldMs { s with rst := { s.rst with pin := false } }

def execResetNRelease (heldMs : BitVec 32) (s : State) : Host.Outcome State Fault Refusal := .next (resetNRelease heldMs.toNat s)

/-- STUCK_RELEASE: RESET_N held beyond 262,144 battery-clock cycles while RSTPIN_STUCK_M is 1 (R543). -/
def stuckRelease (heldMs : Nat) (s : State) : State :=
  if !s.rst.pin || s.sh F.RST_BAT_STATUS_RSTPIN_STUCK_M == 0 then s
  else
    let t := chipReset 3 .cold (satAdd F.RST_HOLD_MS heldMs (s.wr 0 F.RST_BAT_STATUS_STUCK_RESET 1))
    t.wr 0 F.RST_STATUS_STUCK_ACTIVE 1

def execStuckRelease (heldMs : BitVec 32) (s : State) : Host.Outcome State Fault Refusal := .next (stuckRelease heldMs.toNat s)

/-- STUCK_CLEAR_COUNT: the pin was seen deasserted for 3,277 cycles (R543). -/
def execStuckClearCount (s : State) : Host.Outcome State Fault Refusal := .next (s.wr 0 F.RST_STATUS_STUCK_ACTIVE 0)

/-- PERST_N asserts: a WARM chip reset in PERST_MODE 1, else a reset of the host interface (R516, R538). -/
def perstN (s : State) : State :=
  if s.rst.pin || decide (2 < s.pwr.deep) then s
  else if s.sh F.RST_OPT_PERST_MODE == 1 then chipReset 7 .warm s
  else linkDown s

def execPerstN (s : State) : Host.Outcome State Fault Refusal := .next (perstN s)

/-! ### Commands of RST (R538, R543, R548, R558) -/

def stRst : StatRef := ⟨F.RST_CMD_STATUS_CODE, F.RST_CMD_STATUS_BUSY, some F.RST_CMD_STATUS_CAUSE⟩

def rstCommand (w : Win) (body : State → State) (s : State) : State :=
  command .rst stRst Ev.RST_CMD_OVERRUN w (fun s => if s.secureSt w.fn then body s else refuse stRst w 1 s) s

/-- COLD_RESET and WARM_RESET are accepted in the safe state too (R572). -/
def resetCommand (w : Win) (code : Nat) (kind : RstKind) (s : State) : State :=
  if s.safe then (if s.secureSt w.fn then chipReset code kind s else refuse stRst w 1 s) else rstCommand w (chipReset code kind) s

def opColdReset (w : Win) (s : State) : State := resetCommand w 4 .cold s
def execRstColdReset (fn : Fn) (s : State) : Host.Outcome State Fault Refusal := .next (opColdReset ⟨fn.val, fn.val + 1⟩ s)

def opWarmReset (w : Win) (s : State) : State := resetCommand w 5 .warm s
def execRstWarmReset (fn : Fn) (s : State) : Host.Outcome State Fault Refusal := .next (opWarmReset ⟨fn.val, fn.val + 1⟩ s)

/-- CLEAR_STUCK. -/
def opClearStuck (w : Win) (s : State) : State := rstCommand w (fun s => completeOk stRst w (s.wr 0 F.RST_BAT_STATUS_STUCK_RESET 0)) s
def execRstClearStuck (fn : Fn) (s : State) : Host.Outcome State Fault Refusal := .next (opClearStuck ⟨fn.val, fn.val + 1⟩ s)

/-! ### Option bytes and flash (R530, R547, R548) -/

/-- Octets of the flash; an erased octet is 0xFF. -/
def flashRead (s : State) (a n : Nat) : Octets := (cgetN s.rst.flash a n).map (~~~ ·)

/-- Erase a 4 KiB sector and program octets at its start. -/
def flashWrite (a : Nat) (o : Octets) (s : State) : State :=
  let clear := s.rst.flash.filter fun c => !(decide (a ≤ c.1) && decide (c.1 < a + 4096))
  { s with rst := { s.rst with flash := csetAll clear a (o.map (~~~ ·)) } }

/-- Offset of an option-byte copy: 1 copy A, 2 copy B. -/
def optBase (src : Nat) : Nat := if src = 2 then 0x1000 else 0

/-- Is a copy valid (R547, Table 20.4)? -/
def optValid (o : Octets) : Bool :=
  ofLe (o.take 4) == 0x424F564C && byteAt o 4 == 1 && ofLe (slice o 60 4) == crc32 (o.take 60) &&
    (slice o 5 3).all (· == 0) && (slice o 16 44).all (· == 0) &&
    bits (byteAt o 12) 1 3 == 0 && bits (byteAt o 13) 2 6 == 0 && decide (1 ≤ byteAt o 14 % 8) && decide (byteAt o 14 % 8 ≤ 5) &&
    bits (byteAt o 14) 5 3 == 0 && bits (byteAt o 15) 1 7 == 0

/-- The copy in force: its number and its octets; 0 for the defaults. -/
def optInForce (s : State) : Nat × Octets :=
  let a := flashRead s (optBase 1) 64
  let b := flashRead s (optBase 2) 64
  let seq (o : Octets) : Nat := ofLe (slice o 8 4)
  if optValid a && (!optValid b || decide (seq b ≤ seq a)) then (1, a)
  else if optValid b then (2, b)
  else (0, zeros 14 ++ oct [0x1D, 1] ++ zeros 48)

/-- The 64 octets of a new copy from RST_OPT_NEW. -/
def optCopy (s : State) (seq : Nat) : Octets :=
  let f (r : FieldRef) (k : Nat) : Nat := s.sh r * k
  let o := oct [0x4C, 0x56, 0x4F, 0x42, 1, 0, 0, 0] ++ leBytes 4 seq ++
    oct [f F.RST_OPT_NEW_MATE_EN 1 + f F.RST_OPT_NEW_MATE_BASE 16, f F.RST_OPT_NEW_RSTPIN_STUCK 1 + f F.RST_OPT_NEW_PERST_MODE 2,
      f F.RST_OPT_NEW_GEN_MAX 1 + f F.RST_OPT_NEW_WIDTH_MAX 8, f F.RST_OPT_NEW_GOV_EN 1] ++ zeros 44
  o ++ leBytes 4 (crc32 o)

/-- OPT_WRITE: the copy that is not in force takes RST_OPT_NEW. Where the read-back does not match (`verified` false), what the copy holds is open. -/
def opOptWrite (w : Win) (verified : Bool) (s : State) : State :=
  rstCommand w (fun s =>
    let a := optBase (if s.sh F.RST_STATUS_OPT_SRC = 1 then 2 else 1)
    let o := optCopy s (s.sh F.RST_OPT_SEQ + 1)
    if verified then post Ev.RST_OPT_WRITTEN 0 (completeOk stRst w (flashWrite a o s))
    else
      let (v, s) := s.free 512
      refuse stRst w 2 (flashWrite a (leBytes 64 v) s)) s

def execRstOptWrite (fn : Fn) (verified : Bool) (s : State) : Host.Outcome State Fault Refusal :=
  .next (opOptWrite ⟨fn.val, fn.val + 1⟩ verified s)

/-! ### The governor (R552 to R555) -/

/-- Engines of a kind that are clock-gated. -/
def gatedEng (s : State) (k : EngKind) : Nat := ((s.pwr.gated.find? fun e => e.1 == k).map (·.2)).getD 0

/-- The engines that are clock-gated now, with the registers that show them. -/
def setGated (l : List (EngKind × Nat)) (s : State) : State :=
  let t := { s with pwr := { s.pwr with gated := l.filter fun e => e.2 != 0 } }
  let any (ks : List EngKind) : Nat := b2n (ks.any fun k => gatedEng t k != 0)
  let t := t.wr 0 F.PWR_STATUS_GATED ((t.pwr.gated.map (·.2)).sum)
  let t := (t.wr 0 (F.PWR_BLK_CLK_GATED Blk.sec.code) (any [.gh, .siv])).wr 0 (F.PWR_BLK_CLK_GATED Blk.gn.code) (any [.fft, .corr])
  (t.wr 0 (F.PWR_BLK_CLK_GATED Blk.shm.code) (any [.walker])).wr 0 (F.PWR_BLK_CLK_GATED Blk.mgp.code) (any [.mgpTx, .mgpRx])

/-- The engines that the governor stops in P1 (Table 20.7): with a serving port UP it keeps 2 GMAC/HMAC engines and 1 AES-SIV engine clocked. -/
def stoppedEng (s : State) (e : IdleEngines) : List (EngKind × Nat) :=
  let up := s.sh F.PRT_STATUS != 0
  let idleCh := ((List.range 192).filter fun c => s.sh (F.GN_CH_STATE_STATE c) == 0).length
  [(.gh, if up then min e.gh.val 14 else e.gh.val), (.siv, if up then min e.siv.val 5 else e.siv.val), (.fft, b2n e.fft),
   (.corr, idleCh), (.walker, b2n e.walker), (.mgpTx, b2n e.mgpTx), (.mgpRx, b2n e.mgpRx)]

/-- PWR_STATUS.STATE changes. -/
def setPwrState (st : Nat) (s : State) : State :=
  if s.sh F.PWR_STATUS_STATE = st then s else post Ev.PWR_STATE_CHANGE 0 (s.wr 0 F.PWR_STATUS_STATE st)

/-- May a group go to RETENTION (R477)? -/
def mayRetain (s : State) (g : Nat) : Bool :=
  (List.range 32).all (fun m => (tgetD s.shmx.ct (m * 17 + g) (0, 0, 0)).1 == 0) &&
    !(s.shmx.walk.at_.isSome && s.shmx.walk.bank / 16 == g) &&
    (match tget s.shmx.usedAt g with
     | some t => decide (t + 156250 ≤ s.frc)
     | none => true)

/-- GOVERNOR_DECISION. Between P0 and P1, and of the groups that may go to RETENTION, the choice is open wherever the rules allow it. -/
def governor (e : IdleEngines) (s : State) : State :=
  if s.sh F.RST_STATUS_PROOF_DONE = 0 ∨ s.pwr.deep ≠ 0 then s
  else
    let l := leastTol s
    let forced := forcedP0 s
    let (pick, s) := s.free 17
    let s := s.wr 0 F.PWR_STATUS_FORCED (b2n forced)
    let p1 := !forced && decide (26 ≤ l) && bitOf pick 16
    let s := setPwrState (b2n p1) (setGated (if p1 then stoppedEng s e else []) s)
    let s := each (List.range 16) (fun g s =>
      let keep := s.sh (F.SHM_GRP_STATUS_RETENTION g) == 1
      s.wr 0 (F.SHM_GRP_STATUS_RETENTION g)
        (b2n (!forced && decide (2000 ≤ l) && mayRetain s g && (keep || bitOf pick g)))) s
    each gateable tryGate s

def execGovernorDecision (idle : IdleEngines) (s : State) : Host.Outcome State Fault Refusal := .next (governor idle s)

/-- ENGINE_WAKE: a request to a stopped engine restarts its clock (R554). -/
def engineWake (k : EngKind) (s : State) : State :=
  if gatedEng s k = 0 then s else setGated (s.pwr.gated.map fun e => if e.1 == k then (e.1, e.2 - 1) else e) s

def execEngineWake (engine : EngKind) (s : State) : Host.Outcome State Fault Refusal := .next (engineWake engine s)

/-! ### Deep states (R556, R557) -/

def stPwr : StatRef := ⟨F.PWR_CMD_STATUS_CODE, F.PWR_CMD_STATUS_BUSY, some F.PWR_CMD_STATUS_CAUSE⟩

/-- The ports whose EN is 1: 0 to 15 serving, 16 to 20 Ubwick. -/
def enabledPorts (s : State) : List Nat :=
  ((List.range 16).filter fun n => s.sh (F.PRT_PORT_CFG_EN n) == 1) ++ ((List.range 5).filter fun p => s.sh (F.UBW_PORT_CFG_EN p) == 1).map (· + 16)

/-- A port goes DOWN as it is disabled. -/
def portOff (n : Nat) (s : State) : State :=
  if n < 16 then setMembers n false (portDown n (s.wr 0 (F.PRT_PORT_CFG_EN n) 0)) else ubwOff (n - 16) s

/-- A port's EN is restored. -/
def portOn (n : Nat) (s : State) : State :=
  if n < 16 then setMembers n true (portDown n (s.wr 0 (F.PRT_PORT_CFG_EN n) 1)) else ubwEnter (n - 16) ubHUNT (s.wr 0 (F.UBW_PORT_CFG_EN (n - 16)) 1)

/-- Why ENTER is refused: LATENCY 2, SECURE_USE 3, BUSY 4, STATE 5 (R556). A target that is none of the three is refused for STATE. -/
def enterCause (s : State) (target : Nat) : Option Nat :=
  let held (b : Nat) : Bool := s.sh (F.HIF_SU_COUNT b) != 0
  if target < 2 ∨ 4 < target then some 5
  else if leastTol s < (if target = 2 then 6000000 else 300000000) then some 2
  else if (if target = 2 then [Blk.prt, .ubw, .hif].any fun b => held b.code else (List.range 24).any held) then some 3
  else if s.sh F.STW_STATUS_RS_STATE ≠ 0 then some 4
  else if s.sh F.PWR_WAKE_CFG = 0 then some 5
  else none

/-- The device goes to P2, P3 or P4. -/
def enterDeep (target : Nat) (s : State) : State :=
  let ports := enabledPorts s
  let t := each ports portOff (claimZero s)
  let t := linkDown { t with pwr := { t.pwr with deep := target, ports := ports } }
  let t := setGated [] t
  if target = 2 then setPwrState 2 t
  else
    let t := storeWrite t
    syncDriving ((t.wr 0 F.RST_STATUS_PROOF_DONE 0).wr 0 F.TB_STATUS_FRC_RUN 0)

/-- ENTER. -/
def opPwrEnter (w : Win) (s : State) : State :=
  command .pwr stPwr Ev.PWR_CMD_OVERRUN w (fun s =>
    if !s.secureSt w.fn then refuse stPwr w 1 s
    else
      let target := s.rd w.c F.PWR_ARG
      match enterCause s target with
      | some c => refuse stPwr w c s
      | none => enterDeep target (completeOk stPwr w s)) s

def execPwrEnter (fn : Fn) (s : State) : Host.Outcome State Fault Refusal := .next (opPwrEnter ⟨fn.val, fn.val + 1⟩ s)

/-- A wake source (Table 20.8) ends the deep state: P2 without a reset, P3 and P4 as WAKE3 and WAKE4. -/
def wakeUp (code : Nat) (s : State) : State :=
  let from_ := s.pwr.deep
  let due := code != 5 || (from_ == 2 && decide (s.rd64 0 F.PWR_WAKE_FRC_LO F.PWR_WAKE_FRC_HI ≤ s.frc))
  if from_ = 0 ∨ bitOf (s.sh F.PWR_WAKE_CFG) (code - 1) = false ∨ due = false then s
  else
    let t := (s.wr 0 F.PWR_WAKE_CAUSE_CAUSE code).wr 0 F.PWR_WAKE_CAUSE_FROM from_
    if from_ = 3 then chipReset 8 .wake3 t
    else if from_ = 4 then chipReset 9 .power t
    else
      let ports := t.pwr.ports
      let t := { t with pwr := { t.pwr with deep := 0, ports := [] } }
      let t := mateStep .other (syncClaim (each ports portOn t))
      let t := onlyIf (t.sh F.MATE_CTRL_MATE_EN == 0 && !t.safe) (setSharedDrive true) t
      post Ev.PWR_WOKE code (setPwrState 0 t)

/-- WAKE_EVENT of a source of Table 20.8, numbered from 0. -/
def execWakeEvent (source : Fin 5) (s : State) : Host.Outcome State Fault Refusal := .next (wakeUp (source.val + 1) s)

/-- MGP_WAKE_MATCH: the detector checks a frame that the PHY passes, in every power state; the lowest matching pattern is noted (R596, R597). -/
def mgpWakeMatch (o : Octets) (s : State) : State :=
  match wakeHits s o with
  | [] => s
  | p :: _ => wakeUp 2 (wakeNote p s)

def execMgpWakeMatch (frame : List Byte) (s : State) : Host.Outcome State Fault Refusal := .next (mgpWakeMatch frame s)

end Sys2Proof.Machine
end

