-- ==== Sys2Proof/Machine/Security.lean ====
section
/-! DEFINITION. The commands of the serving security block (R337 to R340, R348 to R350, R356, R358). -/

namespace Sys2Proof.Machine

def stSa : StatRef := ⟨F.SEC_SA_STATUS_CODE, F.SEC_SA_STATUS_BUSY, none⟩
def stNts : StatRef := ⟨F.SEC_NTS_STATUS_CODE, F.SEC_NTS_STATUS_BUSY, none⟩

/-- A write to SEC_SA_CMD: the body gets the selected SA. Every command but READ is the secure world's and the steward's (R358). -/
def saCommand (w : Win) (read : Bool) (body : Nat → State → State) (s : State) : State :=
  command .sec stSa Ev.SEC_CMD_OVERRUN w (fun s =>
    let n := s.rd w.c F.SEC_SA_SEL
    if s.secureSt w.fn || (read && tenantOf w.fn == (s.sa n).tenant) then body n s else refuse stSa w 0 s) s

/-- A write to SEC_NTS_CMD. -/
def ntsCommand (w : Win) (open_ : State → Nat → Bool) (body : Nat → State → State) (s : State) : State :=
  command .sec stNts Ev.SEC_CMD_OVERRUN w (fun s =>
    let n := s.rd w.c F.SEC_NTS_SEL
    if s.secureSt w.fn || open_ s n then body n s else refuse stNts w 0 s) s

/-! ### Security associations -/

/-- DATA0 of Table 12.1. -/
def SaEnt.data0 (x : SaEnt) : Nat :=
  b2n x.valid + 2 * x.alg + 8 * b2n x.icv32 + 16 * b2n x.cfZero + 32 * b2n x.tx + 64 * b2n (halfLoaded x.a) + 128 * b2n (halfLoaded x.b) +
    256 * x.spp + 2 ^ 16 * x.tenant + 2 ^ 25 * b2n x.rot.isSome + 2 ^ 26 * b2n x.lost

def halfKeyId (h : Option SaHalf) : Nat := (h.map (·.keyId)).getD 0
def halfSlot (h : Option SaHalf) : Nat := (h.map (·.slot)).getD 0
def halfCtr (h : Option SaHalf) : Nat := (h.map (·.ctr)).getD 0

/-- Is there another VALID SA with a tenant and an SPP? -/
def saTaken (s : State) (n tenant spp : Nat) : Bool :=
  s.sec.sas.any fun e => e.1 != n && e.2.valid && e.2.tenant == tenant && e.2.spp == spp

/-- WRITE (R337). -/
def opSaWrite (w : Win) (s : State) : State :=
  saCommand w false (fun n s =>
    let d := s.rd w.c (F.SEC_SA_DATA 0)
    let x := s.sa n
    let y : SaEnt := { x with valid := bitOf d 0, alg := bits d 1 2, icv32 := bitOf d 3, cfZero := bitOf d 4, spp := bits d 8 8, tenant := bits d 16 9 }
    let moved := y.alg != x.alg || y.icv32 != x.icv32 || y.tenant != x.tenant
    if y.alg == 3 || (y.icv32 && y.alg != 2) || (y.valid && saTaken s n y.tenant y.spp) ||
        (moved && (halfLoaded x.a || halfLoaded x.b)) then refuse stSa w 0 s
    else completeOk stSa w (s.setSa n y)) s

/-- SA_WRITE. -/
def execSaWrite (fn : Fn) (s : State) : Host.Outcome State Fault Refusal := .next (opSaWrite ⟨fn.val, fn.val + 1⟩ s)

/-- READ fills the window and latches the counters. -/
def opSaRead (w : Win) (s : State) : State :=
  saCommand w true (fun n s =>
    let x := s.sa n
    let t := (s.wr w.c (F.SEC_SA_DATA 0) x.data0).wr w.c (F.SEC_SA_DATA 1) (halfKeyId x.a)
    let t := (t.wr w.c (F.SEC_SA_DATA 2) (halfKeyId x.b)).wr w.c (F.SEC_SA_DATA 3) (halfSlot x.a + 2 ^ 16 * halfSlot x.b)
    completeOk stSa w ((t.wr w.c F.SEC_SA_SEQ_A (halfCtr x.a)).wr w.c F.SEC_SA_SEQ_B (halfCtr x.b))) s

/-- SA_READ. -/
def execSaRead (fn : Fn) (s : State) : Host.Outcome State Fault Refusal := .next (opSaRead ⟨fn.val, fn.val + 1⟩ s)

/-- LOAD_KEY (R338). -/
def opSaLoadKey (w : Win) (s : State) : State :=
  saCommand w false (fun n s =>
    let x := s.sa n
    let half := s.rd w.c F.SEC_SA_ARG0 % 2 == 1
    let slot := bits (s.rd w.c F.SEC_SA_ARG0) 16 10
    let id := s.rd w.c F.SEC_SA_ARG1
    let other := x.half (!half)
    match ksDeliver s slot masterGh (algUsage x.alg) x.tenant with
    | none => refuse stSa w 0 s
    | some key =>
      if half == x.tx || (halfLoaded other && halfKeyId other == id) || attrLen (s.ksSlot slot).attr != algLen x.alg then refuse stSa w 0 s
      else
        let y := x.setHalf half (some { keyId := id, slot := slot, key := key })
        completeOk stSa w (s.setSa n { y with lost := (other.map (·.lost)).getD false })) s

/-- SA_LOAD_KEY. -/
def execSaLoadKey (fn : Fn) (s : State) : Host.Outcome State Fault Refusal := .next (opSaLoadKey ⟨fn.val, fn.val + 1⟩ s)

/-- UNLOAD_KEY (R338). -/
def opSaUnloadKey (w : Win) (s : State) : State :=
  saCommand w false (fun n s =>
    let x := s.sa n
    let half := s.rd w.c F.SEC_SA_ARG0 % 2 == 1
    if half == x.tx || x.rot.isSome then refuse stSa w 0 s
    else completeOk stSa w (s.setSa n { x.setHalf half none with lost := ((x.half (!half)).map (·.lost)).getD false })) s

/-- SA_UNLOAD_KEY. -/
def execSaUnloadKey (fn : Fn) (s : State) : Host.Outcome State Fault Refusal := .next (opSaUnloadKey ⟨fn.val, fn.val + 1⟩ s)

/-- ROTATE, with the trigger rules of R81 (R339). -/
def opSaRotate (w : Win) (frcTime : Bool) (s : State) : State :=
  saCommand w false (fun n s =>
    let x := s.sa n
    let tick := s.rd64 w.c F.SEC_SA_ARG0 F.SEC_SA_ARG1
    if !halfLoaded (x.half (!x.tx)) || (frcTime && decide (tick < s.frc + 64)) then refuse stSa w 0 s
    else completeOk stSa w (s.setSa n { x with rot := some (if frcTime then tick else s.frc + 64) })) s

/-- SA_ROTATE. -/
def execSaRotate (fn : Fn) (frcTime : Bool) (s : State) : Host.Outcome State Fault Refusal :=
  .next (opSaRotate ⟨fn.val, fn.val + 1⟩ frcTime s)

/-- ROTATE_TICK: the other half transmits from the tick on (R339). -/
def rotateTick (n : Nat) (s : State) : State :=
  let x := s.sa n
  match x.rot with
  | none => s
  | some c => if s.frc < c then s else postAt Ev.SEC_ROTATED c n [] (s.setSa n { x with tx := !x.tx, rot := none })

def execRotateTick (sa : Fin 4096) (s : State) : Host.Outcome State Fault Refusal := .next (rotateTick sa.val s)

/-- INVALIDATE: refused while a half is loaded (Table 12.8). -/
def opSaInvalidate (w : Win) (s : State) : State :=
  saCommand w false (fun n s =>
    let x := s.sa n
    if halfLoaded x.a || halfLoaded x.b then refuse stSa w 0 s
    else completeOk stSa w { s with sec := { s.sec with sas := tdel s.sec.sas n } }) s

/-- SA_INVALIDATE. -/
def execSaInvalidate (fn : Fn) (s : State) : Host.Outcome State Fault Refusal := .next (opSaInvalidate ⟨fn.val, fn.val + 1⟩ s)

/-! ### Master keys -/

def State.nts (s : State) (n : Nat) : Option NtsEnt := tget s.sec.nts n

/-- LOAD: an EMPTY entry becomes ACCEPT (R350). -/
def opNtsLoad (w : Win) (s : State) : State :=
  ntsCommand w (fun _ _ => false) (fun n s =>
    let slot := s.rd w.c F.SEC_NTS_CFG_SLOT
    let owner := s.rd w.c F.SEC_NTS_CFG_OWNER
    let id := s.rd w.c F.SEC_NTS_KEYID
    match ksDeliver s slot masterSiv usageNts owner with
    | none => refuse stNts w 0 s
    | some key =>
      if (s.nts n).isSome || (s.sec.nts.any fun e => e.2.keyId == id) || attrLen (s.ksSlot slot).attr != 32 then refuse stNts w 0 s
      else completeOk stNts w (s.setNts n { state := 1, owner := owner, slot := slot, keyId := id, key := key })) s

/-- NTS_LOAD. -/
def execNtsLoad (fn : Fn) (s : State) : Host.Outcome State Fault Refusal := .next (opNtsLoad ⟨fn.val, fn.val + 1⟩ s)

/-- MAKE_CURRENT: the owner's previous CURRENT entry becomes ACCEPT in the same step (R350). -/
def opNtsMakeCurrent (w : Win) (s : State) : State :=
  ntsCommand w (fun _ _ => false) (fun n s =>
    match s.nts n with
    | none => refuse stNts w 0 s
    | some e =>
      if e.state ≠ 1 then refuse stNts w 0 s
      else
        let m := tmap (fun k x => if k = n then { x with state := 2 } else if x.owner = e.owner ∧ x.state = 2 then { x with state := 1 } else x) s.sec.nts
        completeOk stNts w { s with sec := { s.sec with nts := m } }) s

/-- NTS_MAKE_CURRENT. -/
def execNtsMakeCurrent (fn : Fn) (s : State) : Host.Outcome State Fault Refusal := .next (opNtsMakeCurrent ⟨fn.val, fn.val + 1⟩ s)

/-- UNLOAD: empties an ACCEPT entry (R350). -/
def opNtsUnload (w : Win) (s : State) : State :=
  ntsCommand w (fun _ _ => false) (fun n s =>
    match s.nts n with
    | some e => if e.state = 1 then completeOk stNts w { s with sec := { s.sec with nts := tdel s.sec.nts n } } else refuse stNts w 0 s
    | none => refuse stNts w 0 s) s

/-- NTS_UNLOAD. -/
def execNtsUnload (fn : Fn) (s : State) : Host.Outcome State Fault Refusal := .next (opNtsUnload ⟨fn.val, fn.val + 1⟩ s)

/-- `n` cookies one after the other. -/
def mintCookies (e : NtsEnt) (c2s s2c : Octets) : Nat → State → Octets × State
  | 0, s => ([], s)
  | n + 1, s =>
    let r := takeNonce s
    let q := mintCookies e c2s s2c n r.2
    (cookie e r.1 c2s s2c ++ q.1, q.2)

/-- MINT (R348). -/
def opNtsMint (w : Win) (count : Nat) (s : State) : State :=
  ntsCommand w (fun _ _ => true) (fun _ s =>
    let a := s.rd64 w.c F.SEC_NTS_ADDR_LO F.SEC_NTS_ADDR_HI
    match currentNts s (tenantOf w.fn) with
    | none => refuse stNts w 0 s
    | some e =>
      if count < 1 ∨ 8 < count ∨ a % 64 ≠ 0 ∨ !ownsBuf s w.fn a (64 + 104 * count) ∨ e.lost then refuse stNts w 0 s
      else if bufCode s a 64 ≠ Code.ok then
        complete stNts w (bufCode s a 64) 0 (onlyIf (bufCode s a 64 == Code.poisoned) (poisonUse (mOfFn w.fn) (a % 2 ^ 32)) s)
      else
        let o := s.memRead w.fn a 64
        let r := mintCookies e (o.take 32) (o.drop 32) count s
        completeOk stNts w (sivOps count (dmaWrite w.fn (a + 64) r.1 r.2))) s

/-- NTS_MINT. -/
def execNtsMint (fn : Fn) (count : Fin 16) (s : State) : Host.Outcome State Fault Refusal := .next (opNtsMint ⟨fn.val, fn.val + 1⟩ count.val s)

/-- READ fills the window with an entry: to a tenant's functions, those its tenant owns (R358). -/
def opNtsRead (w : Win) (s : State) : State :=
  ntsCommand w (fun s n => ((s.nts n).map fun e => e.owner == tenantOf w.fn).getD false) (fun n s =>
    let e : NtsEnt := (s.nts n).getD { state := 0, owner := 0, slot := 0, keyId := 0, key := 0 }
    let t := (s.wr w.c F.SEC_NTS_CFG_STATE e.state).wr w.c F.SEC_NTS_CFG_KEY_LOST (b2n e.lost)
    completeOk stNts w (((t.wr w.c F.SEC_NTS_CFG_OWNER e.owner).wr w.c F.SEC_NTS_CFG_SLOT e.slot).wr w.c F.SEC_NTS_KEYID e.keyId)) s

/-- NTS_READ. -/
def execNtsRead (fn : Fn) (s : State) : Host.Outcome State Fault Refusal := .next (opNtsRead ⟨fn.val, fn.val + 1⟩ s)

end Sys2Proof.Machine
end

