-- ==== Sys2Proof/Machine/Ingress.lean ====
section
/-! DEFINITION. A received frame: its checks, its stamp, its class and where it goes (R275, R280 to R284, R290, R295, R296, R299 to R302, R314,
R325, R328, R330, R379, R382, R508). -/

namespace Sys2Proof.Machine

/-! ### Delivery to the host -/

/-- Deliver a frame to a host queue with its timestamp-ring record (R290, R302, R508): whether a buffer took it. -/
def hostDeliver (n q errs x32 : Nat) (time : Int) (f : Octets) (s : State) : Bool × State :=
  let r := rxBuffer s q
  let idx := (r.map fun t => t.idx % 65536).getD 0xFFFF
  let seq := tsrSeq s (prtTsr n 0)
  let t := tsrWrite (prtTsr n 0) (fun seq =>
    tsrOctets x32 0 (uncal s (n + 1)) false n errs (s.sh (F.PRT_PORT_STATUS_LINK_GEN n) % 256) seq (q + 65536 * idx) time (s.ef (F.PRT_PORT_VC n))
      (f.length + 4)) s
  match r with
  | some tag => (true, { t with hif := { t.hif with rxq := t.hif.rxq ++ [⟨tag, n, f, errs, seq, frcTick x32⟩] } })
  | none => (false, count Ct.HIF_RX_DROP (q / 16) 1 t)

/-- A received frame on its way through the classifier: port, octets without FCS, what was parsed of them, and the boundary's stamp with C without A. -/
structure RxCtx where
  n : Nat
  f : Octets
  p : Parsed
  x32 : Nat
  c : Int
  deriving DecidableEq, Repr

/-- L of a received frame. -/
def RxCtx.len (r : RxCtx) : Nat := r.f.length + 4

/-- Deliver to a host queue, or drop and count where it is 0xFFFF. -/
def toHost (r : RxCtx) (q errs : Nat) (drop : State → State) (tenant : Option Nat) (s : State) : State :=
  if q = 0xFFFF then drop s
  else
    let d := hostDeliver r.n q errs (stampFrc r.x32 r.c) (stampTime s (s.ef (F.PRT_PORT_VC r.n)) r.x32 r.c) r.f s
    match tenant with
    | some t => if d.1 then count Ct.SVE_HOST_DELIVERED t 1 d.2 else d.2
    | none => d.2

/-! ### Classes -/

/-- Drop a matched frame of a tenant and count it. -/
def clsDrop (tenant : Nat) (s : State) : State := count Ct.SVE_CLS_DROP tenant 1 s

/-- A red frame (R328, R382). -/
def redFrame (tenant : Nat) (s : State) : State :=
  let x := s.ten tenant
  count Ct.SVE_RED_DROP tenant 1 (s.setTen tenant { x with red := (x.red + 1) % 2 ^ 32 })

/-- A METERED FIFO drops a message: it is full, or yellow at or above HWM. -/
def fifoDrop (full : Bool) (p tenant : Nat) (s : State) : State :=
  let x := s.ten tenant
  let t := s.setTen tenant { x with full := (x.full + 1) % 2 ^ 32 }
  if full then post Ev.SVE_FIFO_FULL p t else count Ct.SVE_HWM_DROP tenant 1 t

/-- A message for a METERED FIFO (Table 11.11). `kod`: at or above HWM a yellow message becomes a kiss-o'-death instead of a drop. -/
def offerMetered (p colour : Nat) (kod : Bool) (m : SveMsg) (s : State) : State :=
  let d := meteredDepth s p
  let tenant := entTenant m.snap.data
  if 256 ≤ d then credit m.snap (fifoDrop true p tenant s)
  else if colour = 1 ∧ s.sh F.SVE_CTRL_HWM ≤ d then
    if kod then pushMetered p { m with kod := true } s else credit m.snap (fifoDrop false p tenant s)
  else pushMetered p m s

/-- The message of a frame for the pipelines: its time on the entry's clock and its FRC form, both with A (R284). -/
def rxMsg (r : RxCtx) (x : EntrySnap) (k : SveKind) (ctx : Option Nat) (s : State) : SveMsg :=
  let c := r.c + stampA s r.n
  { kind := k, port := r.n, snap := x, ctx := ctx, frame := r.f, time := stampTime s (entClock x.data) r.x32 c, x32 := stampFrc r.x32 c }

/-- A Delay_Req under PTP_SERVE (R295, R296, R324). -/
def rxDelayReq (r : RxCtx) (x : EntrySnap) (colour : Nat) (s : State) : State :=
  let m := ptpMessage r.f r.p
  match findCtx s false (clientKey x.idx r.p m) with
  | some c =>
    let msg := rxMsg r x .delayReq (some c) s
    if inForce s (ctxRead s c) 2 then pushGranted (c % 8) msg s else offerMetered (c % 8) colour false msg s
  | none =>
    match (if entUnicastOnly x.data then none else findCtx s true (leBytes 2 x.idx)) with
    | some c => offerMetered (c % 8) colour false (rxMsg r x .delayReq (some c) s) s
    | none => offerMetered (shortestPipe s) colour false (rxMsg r x .delayReq none s) s

/-- Does a Signaling message carry a unicast negotiation TLV? The TLVs start at an offset; `fuel` bounds the walk. -/
def hasNegotiation (m : Octets) : Nat → Nat → Bool
  | 0, _ => false
  | fuel + 1, off =>
    if m.length < off + 4 then false
    else
      let ty := ofBe (slice m off 2)
      (decide (4 ≤ ty) && decide (ty ≤ 7)) || hasNegotiation m fuel (off + 4 + ofBe (slice m (off + 2) 2))

/-- A Signaling message for the grant engine's queue of 65,536 (R314). -/
def rxSignaling (r : RxCtx) (x : EntrySnap) (s : State) : State :=
  if 65536 ≤ s.sve.sig.length then
    credit x (post Ev.SVE_SIG_DROPPED x.idx (s.wr 0 F.SVE_COUNTS_SIG_DROPPED (s.sh F.SVE_COUNTS_SIG_DROPPED + 1)))
  else { s with sve := { s.sve with sig := s.sve.sig ++ [rxMsg r x .signaling none s] } }

/-- Is an NTP datagram one that is answered (R325)? -/
def ntpGood (pl : Octets) : Bool :=
  let v := bits (byteAt pl 0) 3 3
  decide (48 ≤ pl.length) && (v == 3 || v == 4) && byteAt pl 0 % 8 == 3

/-- Does a request hold an NTS extension field: Unique Identifier, Cookie, Placeholder or Authenticator? `fuel` bounds the walk. -/
def hasNts (pl : Octets) : Nat → Nat → Bool
  | 0, _ => false
  | fuel + 1, off =>
    if pl.length < off + 4 then false
    else
      let ty := ofBe (slice pl off 2)
      let len := ofBe (slice pl (off + 2) 2)
      ty == 0x0104 || ty == 0x0204 || ty == 0x0304 || ty == 0x0404 || (decide (4 ≤ len) && hasNts pl fuel (off + len))

/-- Does the client session take a message (R330)? -/
def cliTakes (s : State) (x : EntrySnap) (m : Octets) : Bool :=
  let t := ptpType m
  s.sh F.SVE_CLI_CFG_CLI_EN == 1 && s.sh F.SVE_CLI_CFG_CLI_ENTRY == x.idx && (t == 0 || t == 8 || t == 9 || t == 0xB) &&
    slice m 20 8 == beBytes 4 (s.sh F.SVE_CLI_MASTER_HI) ++ beBytes 4 (s.sh F.SVE_CLI_MASTER_LO)

/-- The entry's action on a good frame (Table 11.3, R301, R382). -/
def act (r : RxCtx) (x : EntrySnap) (colour : Nat) (s : State) : State :=
  let d := x.data
  let tenant := entTenant d
  let host (s : State) : State := credit x (toHost r (entHostQ d) 0 (clsDrop tenant) (some tenant) s)
  if colour = 2 then credit x (redFrame tenant s)
  else match entAction d with
    | 0 => credit x (clsDrop tenant s)
    | 1 => host s
    | 2 =>
      let m := ptpMessage r.f r.p
      if ptpType m = 1 then rxDelayReq r x colour s else host s
    | 3 =>
      let pl := payload r.f r.p
      if ntpGood pl then
        let nts := profRd s (F.SVE_PROF_CFG_NTS_MODE (entProfile d)) != 0 && hasNts pl pl.length 48
        offerMetered (shortestPipe s) colour true (rxMsg r x (if nts then .nts else .ntp) none s) s
      else credit x (toHost r (entHostQ d) 0 (count Ct.SVE_NTP_BAD tenant 1) (some tenant) s)
    | _ =>
      let m := ptpMessage r.f r.p
      if cliTakes s x m then
        let e := (m, stampFrc r.x32 r.c, stampTime s (s.ef (F.PRT_PORT_VC r.n)) r.x32 r.c)
        credit x { s with sve := { s.sve with cli := { s.sve.cli with inbox := s.sve.cli.inbox ++ [e] } } }
      else host s

/-- CLASSIFY and POL_METER: the first entry that matches, its policer, its action (R299, R379). -/
def classifyFrame (r : RxCtx) (s : State) : State :=
  if !s.doorOpen .sve then s
  else
    let dflt (s : State) : State :=
      if s.sh (F.SVE_PORT_CFG_DEFAULT_ACTION r.n) = 1 then toHost r (s.sh (F.SVE_PORT_CFG_EXC_QUEUE r.n)) 0 id none s else s
    if s.sh F.SVE_CTRL_EN = 0 then dflt s
    else match classify s r.f r.p r.n with
      | none => dflt s
      | some i =>
        let x := s.snap i
        let a := entAction x.data
        let m := ptpMessage r.f r.p
        if a = 2 ∧ ptpType m = 0xC ∧ hasNegotiation m m.length 44 = true then rxSignaling r x s
        else if (a = 1 ∨ a = 2 ∨ a = 3) ∧ !(a = 2 ∧ ptpType m = 0xC) then
          let c := polMeter (entPolicer x.data) r.len s
          act r x c.1 c.2
        else act r x 0 s

/-! ### PRT_FRAME_RX -/

/-- The flags of Table 10.2 for the frame as received, with its FCS. -/
def rxFlags (s : State) (n : Nat) (o : Octets) (code fec cut : Bool) : Nat :=
  let body := o.take (o.length - 4)
  b2n (leBytes 4 (crc32 body) != o.drop (o.length - 4)) + 2 * b2n code + 4 * b2n fec +
    8 * b2n (decide (o.length < 64)) + 16 * b2n (decide (s.sh (F.PRT_PORT_FRAME_MAX_FRAME n) < o.length)) + 32 * b2n cut

/-- Count an errored frame that is discarded, by flag (R281). -/
def countFlags (n flags : Nat) (s : State) : State :=
  [(1, Ct.PRT_CODE_ERR), (2, Ct.PRT_FEC_UNCORR), (3, Ct.PRT_RUNT), (4, Ct.PRT_OVERSIZE), (5, Ct.PRT_LINK_CUT)].foldl
    (fun t e => onlyIf (bitOf flags e.1) (count e.2 n 1) t) s

/-- An errored frame: discarded and counted, or delivered to EXC_QUEUE with its flags (R281, R299). -/
def rxErrored (r : RxCtx) (flags : Nat) (s : State) : State :=
  let s := onlyIf (bitOf flags 0) (fun s => s.wr 0 (F.PRT_PORT_COUNTS_FCS_ERR r.n) (s.sh (F.PRT_PORT_COUNTS_FCS_ERR r.n) + 1)) s
  if s.sh (F.PRT_PORT_CFG_ERR_DELIVER r.n) = 0 then countFlags r.n flags s
  else
    let q := s.sh (F.SVE_PORT_CFG_EXC_QUEUE r.n)
    if q = 0xFFFF ∨ s.doorOpen .sve = false then countFlags r.n flags s
    else toHost r q flags id none (count Ct.PRT_ERR_DELIVERED r.n 1 s)

/-- The octets of the port's receive share that are held: frames that wait for the host and messages that the SVE holds. -/
def rxShareHeld (s : State) (n : Nat) : Nat :=
  let held (l : List SveMsg) : Nat := ((l.filter fun m => m.port == n).map fun m => m.frame.length).sum
  rxHeld s n + held (s.sve.granted.map (·.2)).flatten + held (s.sve.metered.map (·.2)).flatten + held s.sve.sig

/-- A frame received on an UP port (R280). `o` has its FCS. -/
def frameRx (n x32 b : Nat) (o : Octets) (code fec cut : Bool) (s : State) : State :=
  if !portUp s n || !s.doorOpen .prt then s
  else
    let s := count Ct.PRT_RX_BYTES n (o.length + 20) s
    if o.length < 14 then count Ct.PRT_RUNT n 1 s
    else
      let s := onlyIf fec (fun s => s.wr 0 (F.PRT_PORT_FEC_FEC_UNCORR n) (s.sh (F.PRT_PORT_FEC_FEC_UNCORR n) + 1)) s
      let flags := rxFlags s n o code fec cut
      let maxf := s.sh (F.PRT_PORT_FRAME_MAX_FRAME n)
      let kept := if maxf < o.length then o.take maxf else o.take (o.length - 4)
      let share := (((tget s.stw.shares n).map (·.1)).getD 0) * 1024
      let r : RxCtx := ⟨n, kept, parse kept, x32, stampRx s n b⟩
      if share < rxShareHeld s n + kept.length then count Ct.PRT_RX_BUF_FULL n 1 s
      else if flags ≠ 0 then rxErrored r flags s
      else if ofBe (slice kept 12 2) = 0x8808 then count Ct.PRT_MAC_CONTROL n 1 s
      else
        let s := if ofBe (slice kept 12 2) = 0x8809 ∧ byteAt kept 14 = 0x0A then esmcPdu (portLanes s n) (kept.drop 14) s else s
        classifyFrame r s

/-- PRT_FRAME_RX: the stamp of the frame's boundary, b, the frame with its FCS, and what the line code says of it. -/
def execPrtFrameRx (port : Fin 16) (tick : BitVec 64) (phase : Fin 32) (b : BitVec 13) (frame : List Byte) (codeErr fecUncorr linkCut : Bool) (s : State) :
    Host.Outcome State Fault Refusal :=
  .next (frameRx port.val (32 * tick.toNat + phase.val) b.toNat frame codeErr fecUncorr linkCut s)

end Sys2Proof.Machine
end

