-- ==== Sys2Proof/Machine/Serving.lean ====
section
/-! DEFINITION. The pipelines, the grant engine and the cadence wheel: Delay_Req, Signaling, Sync, Follow_Up, Announce, NTP and NTS (R295 to R297,
R308, R311 to R327, R336, R340 to R347, R351 to R355, R378). -/

namespace Sys2Proof.Machine

/-! ### Sending -/

/-- Does a context's SA value make each message that reaches it be dropped (R337)? -/
def saBad (s : State) (o : Octets) : Bool := Ctx.sa o != 0 && (decide (4095 < Ctx.sa o) || !(s.sa (Ctx.sa o)).valid)

/-- Does a context's SA use HMAC-SHA-256 (R347)? -/
def saHmac (s : State) (o : Octets) : Bool := Ctx.auth o && (s.sa (Ctx.sa o)).alg == 2

/-- What completes an ICV at egress: key length, key, nonce, CF_ZERO. -/
structure Fix where
  klen : Nat
  key : Nat
  nonce : Octets
  cfZero : Bool
  deriving DecidableEq, Repr

/-- The authentication TLV of a message of a context (R340, R345, R346): the message with it, and what completes it at egress; none where the
message is dropped. -/
def authSeal (o m : Octets) (tenant : Nat) (oneStep : Bool) (s : State) : Option (Octets × Option Fix) × State :=
  if saBad s o then (none, count Ct.SEC_NO_SA tenant 1 s)
  else if !Ctx.auth o then (some (m, none), s)
  else if !s.doorOpen .sec then (none, count Ct.SVE_SEC_ABSENT tenant 1 s)
  else
    let x := s.sa (Ctx.sa o)
    let r := takeSeq (Ctx.sa o) s
    match r.1 with
    | .absent => (none, count Ct.SEC_NO_SA tenant 1 r.2)
    | .exhausted => (none, r.2)
    | .keyLost => (none, count Ct.SEC_KEY_LOST_DROP tenant 1 r.2)
    | .seq n h =>
      let t := ghOps (m.length + 14) r.2
      if oneStep && x.alg != 2 then
        let z := setPtpLen m (m.length + 30)
        (some (z ++ authTlv x h n (zeros 16), some ⟨algLen x.alg, h.key, slice m 20 8 ++ beBytes 4 n, x.cfZero⟩), t)
      else (some (sealPtp x h n m, none), t)

/-- Send a PTP message of a context on a port: its actions at offsets in the message, and what it is. Answers whether the scheduler took it. -/
def emitPtp (n c tenant clock : Nat) (o : Octets) (r : Route) (m : Octets) (ops : List (Nat × Nat)) (ref : Option MsgRef) (s : State) : Bool × State :=
  let a := authSeal o m tenant (!ops.isEmpty) s
  match a.1 with
  | none => (false, a.2)
  | some (m', fix) =>
    let w := wrapFrame r m'
    let blk := actBlock clock false false 0 (csumOps r w.2 (ops.map fun p => (p.1, p.2 + w.2)))
    let icv : Option IcvFix := fix.map fun x =>
      { klen := x.klen, key := x.key, nonce := x.nonce, hdr := w.2, icv := w.2 + m'.length - 16, cfZero := x.cfZero }
    sveSend tenant n c { octets := w.1, act := blk, queue := 0, level := 0, tenant := tenant, msg := ref, icv := icv } a.2

/-- Read a context for a message: its record, or nothing with what its drop counts (R308, R468). -/
def ctxFor (ctx m tenant : Nat) (s : State) : Option Octets × State :=
  let o := ctxRead s ctx
  if ctxPoisoned s ctx then (none, poisonUse m ((ctxAddr s ctx).getD 0) s)
  else if Ctx.active o then (some o, s)
  else if o = zeros 64 then (none, count Ct.SVE_NO_CONTEXT tenant 1 s)
  else (none, post Ev.SVE_CTX_INVALID ctx s)

/-! ### Delay_Req (R301, R311, R344) -/

/-- Verify a request (R344): whether it goes on, with the SA it is verified under. -/
def verifyFor (m : Octets) (body tenant : Nat) (ctxSa : Option Nat) (must : Bool) (s : State) : Option (Option Nat) × State :=
  let t := ghOps m.length s
  match verifyPtp s tenant m body ctxSa with
  | .plain => if must || bitOf (s.sh (F.SEC_REQ_AUTH (tenant / 32))) (tenant % 32) then (none, authFail Ct.SEC_NO_TLV tenant 0 s) else (some none, s)
  | .ok sa => (some (some sa), t)
  | .drop cause sa => (none, authFail cause tenant sa t)
  | .absent => (none, count Ct.SVE_SEC_ABSENT tenant 1 s)

/-- The Delay_Resp to a request of a context: sent, and the context written back, or dropped with no write-back (R297). -/
def delayResp (m : SveMsg) (ctx : Nat) (granted : Bool) (o : Octets) (s : State) : State :=
  let d := m.snap.data
  let k := entProfile d
  let tenant := entTenant d
  let clock := entClock d
  let p := parse m.frame
  let req := ptpMessage m.frame p
  let log : Int := if Ctx.mcast o then sgn 4 (profRd s (F.SVE_PROF_DUR_MC_DRESP k)) else gwLog (Ctx.grant o 2)
  let corr := uns 64 ((ofBe (slice req 8 8) : Int) - ptpFrac m.time)
  let body := ptpTime m.time ++ slice req 20 10
  let toGroup := Ctx.mcast o && isGroup m.frame
  let msg := ptpMsg s k 9 (entDomain d) m.port false (!toGroup) corr (ofBe (slice req 30 2)) log body
  let w := withTlv o 9 clock (frcTick m.x32) (m.port + 1) msg s
  let r := emitPtp m.port (if granted then 0 else 1) tenant clock o (replyRoute m.port m.frame p (Ctx.mcast o) 320 320) w.1 []
    (some ⟨ctx, 2, none⟩) w.2
  if r.1 then served granted tenant (ctxWrite ctx (Ctx.sent (Ctx.requested o)) r.2) else r.2

/-- A Delay_Req leaves its FIFO. -/
def serveDelayReq (p : Nat) (m : SveMsg) (granted : Bool) (s : State) : State :=
  let tenant := entTenant m.snap.data
  match m.ctx with
  | none => count Ct.SVE_NO_CONTEXT tenant 1 s
  | some ctx =>
    let c := ctxFor ctx (mSve p) tenant s
    match c.1 with
    | none => c.2
    | some o =>
      if !Ctx.mcast o && !inForce s o 2 then count Ct.SVE_NO_GRANT tenant 1 s
      else if saBad s o then authFail Ct.SEC_NO_SA tenant (Ctx.sa o) s
      else
        let v := verifyFor (ptpMessage m.frame (parse m.frame)) 44 tenant (some (Ctx.sa o)) (Ctx.auth o) s
        match v.1 with
        | none => v.2
        | some _ => delayResp m ctx granted o v.2

/-- A pipeline takes its next message, if it is of a kind, and the SVE is working: its frame completes. -/
def pipeStep (p : Nat) (k : SveKind) (body : SveMsg → Bool → State → State) (s : State) : State :=
  if !s.doorOpen .sve then s
  else match nextMsg s p with
    | some (m, granted) =>
      if m.kind = k then
        let t := body m granted (popMsg p granted s)
        if k = .followUp then t else credit m.snap t
      else s
    | none => s

/-- DELAY_REQ: the next message of a pipeline is a Delay_Req. -/
def execDelayReq (pipe : Fin 8) (s : State) : Host.Outcome State Fault Refusal :=
  .next (pipeStep pipe.val .delayReq (serveDelayReq pipe.val) s)

/-! ### Sync, Announce and Follow_Up (R311, R322, R323) -/

/-- Is a context's Sync two-step? -/
def syncTwoStep (s : State) (o : Octets) : Bool := Ctx.twoStep o || saHmac s o

/-- logMessageInterval of a context's Sync or Announce. -/
def cadenceLog (s : State) (k : Nat) (o : Octets) (g : Nat) : Int :=
  if Ctx.mcast o then sgn 4 (profRd s (if g = 0 then F.SVE_PROF_LOG_MC_SYNC k else F.SVE_PROF_LOG_MC_ANN k)) else gwLog (Ctx.grant o g)

/-- Build and send a Sync (g 0) or Announce (g 1) of a context. -/
def buildCadence (g ctx : Nat) (o : Octets) (s : State) : State :=
  let x := s.snap (Ctx.entry o)
  let d := x.data
  let k := entProfile d
  let tenant := entTenant d
  let clock := entClock d
  let two := g == 0 && syncTwoStep s o
  let seqId := Ctx.seq o g
  let (n, s) := ctxPort d s
  let body := if g = 0 then zeros 10 else announceBody s k clock
  let type := if g = 0 then 0 else 0xB
  let msg := ptpMsg s k type (entDomain d) n two (!Ctx.mcast o) 0 seqId (cadenceLog s k o g) body
  let tlv := carriesTlv s o type
  let w := withTlv o type clock s.frc (n + 1) msg s
  let ops := if g = 0 ∧ two = false then [(1, 34), (2, 8)] ++ (if tlv then [(4, 56)] else []) else []
  let r := emitPtp n 0 tenant clock o (ctxRoute n o d (if g = 0 then 319 else 320)) w.1 ops
    (some ⟨ctx, g, if two then some (x, seqId) else none⟩) w.2
  if r.1 then served true tenant (ctxWrite ctx (Ctx.sent (Ctx.setSeq g ((seqId + 1) % 2 ^ 16) o)) r.2) else r.2

/-- One due bit of a cadence word: a message if the grant is in force, or else the bit is cleared (R323). -/
def dueBit (log : Int) (g ctx : Nat) (s : State) : State :=
  let c := ctxFor ctx (mSve (ctx % 8)) (entTenant (s.cls (Ctx.entry (ctxRead s ctx))).data) s
  match c.1 with
  | none => if ctxPoisoned s ctx then c.2 else wheelBit false log g ctx c.2
  | some o => if inForce s o g then buildCadence g ctx o s else wheelBit false log g ctx s

/-- The number of the word of a bitmap that VC0 has reached, counted from VC0 time 0 (R322). -/
def wheelNow (s : State) (log : Int) : Int :=
  let period : Rat := 1000000000 * (2 : Rat) ^ (log - 16)
  ⌊(vc0Time s (32 * s.frc) : Rat) / 2 ^ 48 / period⌋

/-- CADENCE_DUE: the word of a bitmap that VC0 has just reached falls due: its Sync bits, then its Announce bits. -/
def cadenceDue (l word : Nat) (s : State) : State :=
  let log : Int := (l : Int) - 7
  let now := wheelNow s log
  if !s.doorOpen .sve || s.sh F.SVE_CTRL_EN == 0 || (now % 65536).toNat != word || tget s.sve.wheel l == some now then s
  else
    let t := { s with sve := { s.sve with wheel := tset s.sve.wheel l now } }
    match wheelAddr t log (16 * word) with
    | none => t
    | some a =>
      if t.shmPoisoned a 4 then poisonUse mGrant a t
      else
        let w := ofLe (t.shmRead a 4)
        each (List.range 32) (fun i t => onlyIf (bitOf w i) (dueBit log (i / 16) (16 * word + i % 16)) t) t

/-- CADENCE_DUE: the bitmap of LOG − 7 and its word. -/
def execCadenceDue (bitmap : Fin 12) (word : BitVec 16) (s : State) : Host.Outcome State Fault Refusal :=
  .next (cadenceDue bitmap.val word.toNat s)

/-- A Follow_Up leaves its FIFO: it carries its Sync's egress time (R311). -/
def serveFollowUp (p : Nat) (m : SveMsg) (s : State) : State :=
  let d := m.snap.data
  let tenant := entTenant d
  let k := entProfile d
  let clock := entClock d
  match m.ctx with
  | none => s
  | some ctx =>
    let c := ctxFor ctx (mSve p) tenant s
    match c.1 with
    | none => c.2
    | some o =>
      if !inForce s o 0 then s
      else
        let msg := ptpMsg s k 8 (entDomain d) m.port false (!Ctx.mcast o) (ptpFrac m.time) m.seqId (cadenceLog s k o 0) (ptpTime m.time)
        let w := withTlv o 8 clock (frcTick m.x32) (m.port + 1) msg s
        let r := emitPtp m.port 0 tenant clock o (ctxRoute m.port o d 320) w.1 [] (some ⟨ctx, 0, none⟩) w.2
        if r.1 then served true tenant (ctxWrite ctx (Ctx.sent o) r.2) else r.2

/-- FOLLOW_UP: the next message of a pipeline is a Follow_Up. -/
def execFollowUp (pipe : Fin 8) (s : State) : Host.Outcome State Fault Refusal :=
  .next (pipeStep pipe.val .followUp (fun m _ => serveFollowUp pipe.val m) s)

/-! ### Signaling (R314 to R321) -/

/-- A Signaling request in hand: the message, its PTP octets, the SA it verified under, the directory refuses its key, and its context so far. -/
structure SigReq where
  m : SveMsg
  msg : Octets
  sa : Option Nat
  dirBad : Bool
  ctx : Option Nat
  deriving DecidableEq, Repr

/-- Is a period within the limits of the profile and of Table 11.6 (R310, R315)? -/
def logAllowed (s : State) (k domain g : Nat) (log : Int) : Bool :=
  let lo := if g = 0 then F.SVE_PROF_LOG_SYNC_MIN k else if g = 1 then F.SVE_PROF_LOG_ANN_MIN k else F.SVE_PROF_LOG_DRESP_MIN k
  let hi := if g = 0 then F.SVE_PROF_LOG_SYNC_MAX k else if g = 1 then F.SVE_PROF_LOG_ANN_MAX k else F.SVE_PROF_LOG_DRESP_MAX k
  let inProf := decide (sgn 4 (profRd s lo) ≤ log) && decide (log ≤ sgn 4 (profRd s hi))
  match profRd s (F.SVE_PROF_CFG_KIND k) with
  | 1 => false
  | 2 => inProf && decide (44 ≤ domain) && decide (domain ≤ 63) && decide (log ≤ 0) && decide ((if g = 1 then (-3 : Int) else -7) ≤ log)
  | _ => inProf

/-- The record of a new context of a client (R321). BTLV_EN comes from the profile, which has no such field: a free bit. -/
def newContext (q : SigReq) (s : State) : Octets × State :=
  let p := parse q.m.frame
  let (b, s) := s.free 1
  let fl := 1 + 8 * b2n (p.enc == 2) + 16 * b2n (p.enc == 0) + 64 * b2n q.sa.isSome + 128 * b
  (leBytes 2 fl ++ leBytes 2 q.m.snap.idx ++ p.src ++ slice q.msg 20 8 ++ leBytes 2 (ofBe (slice q.msg 28 2)) ++ slice q.m.frame 6 6 ++
    leBytes 2 (q.sa.getD 0) ++ zeros 26, s)

/-- Put a grant into a context's record, with its load and its bit. -/
def putGrant (ctx tenant g expiry : Nat) (log : Int) (two : Bool) (o : Octets) (s : State) : Octets × State :=
  let old := Ctx.grant o g
  let o1 := if g = 0 then Ctx.setFlag 5 two o else o
  let o2 := Ctx.setGrant g (grantWord expiry log) o1
  let s := onlyIf (gwGranted old) (wheelBit false (gwLog old) g ctx) s
  (o2, wheelBit true log g ctx (moveLoad (ctx % 8) tenant (grantLoad o2 g) (grantLoad o g) (grantSecLoad o2 g) (grantSecLoad o g) s))

/-- A REQUEST of a type and period for a duration (R315 to R318): whether it is granted, and its context after it. -/
def requestGrant (q : SigReq) (type : Nat) (log : Int) (dur : Nat) (s : State) : Bool × Option Nat × State :=
  let d := q.m.snap.data
  let k := entProfile d
  let tenant := entTenant d
  match grantOfType type with
  | none => (false, q.ctx, s)
  | some g =>
    if q.dirBad || dur == 0 || !logAllowed s k (byteAt q.msg 4) g log then (false, q.ctx, s)
    else
      let r : Option Nat × Octets × State := match q.ctx with
        | some c => (some c, ctxRead s c, s)
        | none => let x := newContext q s; (freeCtx s (bestPipe s), x.1, x.2)
      match r.1 with
      | none => (false, none, r.2.2)
      | some c =>
        let o := r.2.1
        let s := r.2.2
        let two := if g = 0 then profRd s (F.SVE_PROF_CFG_TWO_STEP k) == 1 || saHmac s o else Ctx.twoStep o
        let add := loadOf (pipeCost g two) log
        let addSec := if Ctx.auth o then loadOf (secCost g two) log else 0
        if !admits s (q.ctx.isSome && inForce s o g) (c % 8) tenant add (grantLoad o g) addSec (grantSecLoad o g) then (false, q.ctx, s)
        else
          let e := expiryOf s (min dur (profRd s (F.SVE_PROF_DUR_DUR_MAX k)))
          let w := putGrant c tenant g e log two o s
          (true, some c, ctxWrite c w.1 (if q.ctx.isSome then w.2 else dirInsert c w.2))

/-- The GRANT TLV. -/
def grantTlv (type log dur : Nat) (ok : Bool) : Octets :=
  beBytes 2 5 ++ beBytes 2 8 ++ oct [16 * type, log] ++ beBytes 4 dur ++ oct [0, b2n ok]

/-- The ACKNOWLEDGE_CANCEL TLV. -/
def ackTlv (type : Nat) : Octets := beBytes 2 7 ++ beBytes 2 2 ++ oct [16 * type, 0]

/-- The CANCEL TLV. -/
def cancelTlv (type : Nat) : Octets := beBytes 2 6 ++ beBytes 2 2 ++ oct [16 * type, 0]

/-- Answer the TLVs of a request in their order; `fuel` bounds the walk. Gives the answers and the context. -/
def answerTlvs : Nat → Nat → SigReq → State → Octets × SigReq × State
  | 0, _, q, s => ([], q, s)
  | fuel + 1, off, q, s =>
    if q.msg.length < off + 4 then ([], q, s)
    else
      let ty := ofBe (slice q.msg off 2)
      let len := ofBe (slice q.msg (off + 2) 2)
      let type := byteAt q.msg (off + 4) / 16
      let next := off + 4 + len
      if ty = 4 ∧ 6 ≤ len then
        let log := byteAt q.msg (off + 5)
        let dur := ofBe (slice q.msg (off + 6) 4)
        let r := requestGrant q type (sgn 8 log) dur s
        let tenant := entTenant q.m.snap.data
        let dmax := profRd s (F.SVE_PROF_DUR_DUR_MAX (entProfile q.m.snap.data))
        let s := if r.1 then r.2.2
          else
            let t := post Ev.SVE_GRANT_REFUSED q.m.snap.idx r.2.2
            let x := t.ten tenant
            t.setTen tenant { x with refused := (x.refused + 1) % 2 ^ 32 }
        let a := answerTlvs fuel next { q with ctx := r.2.1 } s
        (grantTlv type log (if r.1 then min dur dmax else 0) r.1 ++ a.1, a.2)
      else if ty = 6 ∧ 1 ≤ len then
        let s := match q.ctx, grantOfType type with
          | some c, some g =>
            let e := endGrant c (entTenant q.m.snap.data) g (ctxRead s c) s
            ctxWrite c e.1 e.2
          | _, _ => s
        let a := answerTlvs fuel next q s
        (ackTlv type ++ a.1, a.2)
      else answerTlvs fuel next q s

/-- The grant engine answers the first message of its queue. -/
def signalingRequest (s : State) : State :=
  match s.sve.sig with
  | [] => s
  | m :: rest =>
    if !s.doorOpen .sve then s
    else
      let s := { s with sve := { s.sve with sig := rest } }
      let d := m.snap.data
      let tenant := entTenant d
      let p := parse m.frame
      let msg := ptpMessage m.frame p
      let key := clientKey m.snap.idx p msg
      let ctx := findCtx s false key
      if (ctx.map fun c => ctxPoisoned s c).getD false then
        credit m.snap (poisonUse mGrant ((ctx.bind fun c => ctxAddr s c).getD 0) s)
      else
        let v := verifyFor msg 44 tenant (ctx.map fun c => Ctx.sa (ctxRead s c)) false s
        match v.1 with
        | none => credit m.snap v.2
        | some sa =>
          let dirBad := ctx.isNone && Config.dirFull v.2.sve.dir key
          let t := onlyIf dirBad (fun t => post Ev.SVE_DIR_FULL m.snap.idx (t.wr 0 F.SVE_COUNTS_DIR_FULL (t.sh F.SVE_COUNTS_DIR_FULL + 1))) v.2
          let a := answerTlvs msg.length 44 ⟨m, msg, sa, dirBad, ctx⟩ t
          let t := credit m.snap a.2.2
          if a.1.isEmpty then t
          else
            let o := match a.2.1.ctx with
              | some c => ctxRead t c
              | none => zeros 64
            let out := ptpMsg t (entProfile d) 0xC (entDomain d) m.port false true 0 (ofBe (slice msg 30 2)) 0x7F (slice msg 20 10 ++ a.1)
            (emitPtp m.port 1 tenant (entClock d) o (replyRoute m.port m.frame p false 320 320) out [] none t).2

/-- SIGNALING_REQUEST. -/
def execSignalingRequest (s : State) : Host.Outcome State Fault Refusal := .next (signalingRequest s)

/-- CANCEL_UNICAST_TRANSMISSION for the grants in force of a unicast context (R309, R319). No request gives the sequenceId: a free value. -/
def sendCancel (o : Octets) (gs : List Nat) (s : State) : State :=
  let gs := gs.filter fun g => inForce s o g
  if Ctx.mcast o || gs.isEmpty then s
  else
    let d := (s.cls (Ctx.entry o)).data
    let (n, s) := ctxPort d s
    let (q, s) := s.free 16
    let body := Ctx.clockId o ++ beBytes 2 (Ctx.portNum o) ++ (gs.map fun g => cancelTlv (grantType g)).flatten
    let out := ptpMsg s (entProfile d) 0xC (entDomain d) n false true 0 q 0x7F body
    (emitPtp n 1 (entTenant d) (entClock d) o (ctxRoute n o d 320) out [] none s).2

/-- One context of the sweep (R320). -/
def sweepContext (ctx : Nat) (s : State) : State :=
  if ctxPoisoned s ctx then poisonUse mGrant ((ctxAddr s ctx).getD 0) s
  else
    let o := ctxRead s ctx
    let tenant := entTenant (s.cls (Ctx.entry o)).data
    let r := endGrants ctx tenant ([0, 1, 2].filter fun g => !inForce s o g) o s
    let any := [0, 1, 2].any fun g => inForce s o g
    if !Ctx.persist o && !any then freeContext ctx r.2
    else if r.1 = o then r.2 else ctxWrite ctx r.1 r.2

/-- GRANT_SWEEP: once every 10 s (R320). -/
def grantSweep (s : State) : State :=
  if !s.doorOpen .sve || decide (s.frc < s.sve.sweepAt + 10 * ticksPerSec) then s
  else each s.sve.dir sweepContext { s with sve := { s.sve with sweepAt := s.frc } }

def execGrantSweep (s : State) : Host.Outcome State Fault Refusal := .next (grantSweep s)

/-! ### NTP (R325 to R327) -/

/-- The route of an NTP answer: addresses and UDP ports swapped. -/
def ntpRoute (m : SveMsg) : Route :=
  let p := parse m.frame
  let u := p.udp.getD 0
  replyRoute m.port m.frame p false p.dport (ofBe (slice m.frame u 2))

/-- LI of a clock (Table 11.10). -/
def ntpLi (s : State) (clock port : Nat) : Nat :=
  if (s.vc clock).state ≠ .ratified ∨ bound s clock s.frc (port + 1) qPort = notBounded then 3
  else if leap61 s clock then 1 else if leap59 s clock then 2 else 0

/-- The NTP header of an answer, its Root Dispersion and Transmit Timestamp as given. -/
def ntpHeader (s : State) (m : SveMsg) (pl : Octets) (rdisp : Nat) (xmit : Octets) : Octets :=
  let d := m.snap.data
  let k := entProfile d
  let clock := entClock d
  let li := ntpLi s clock m.port
  oct [64 * li + 8 * bits (byteAt pl 0) 3 3 + 4, if li = 3 then 16 else profRd s (F.SVE_PROF_NTP_STRATUM k), byteAt pl 2, profRd s (F.SVE_PROF_NTP_PRECISION k)] ++
    beBytes 4 (profRd s (F.SVE_PROF_NTP_RDELAY k)) ++ beBytes 4 rdisp ++ beBytes 4 (profRd s (F.SVE_PROF_NTP_REFID k)) ++
    ntpTime (vcTime s clock (32 * (bndAt s s.frc).fAge)) ++ slice pl 40 8 ++ ntpTime m.time ++ xmit

/-- The header of a kiss-o'-death (R327, R355). The manual states no Precision, Root Delay and Root Dispersion of it: free values. -/
def kodHeader (pl : Octets) (refid : Nat) (s : State) : Octets × State :=
  let (x, s) := s.free 72
  (oct [0xC0 + 8 * bits (byteAt pl 0) 3 3 + 4, 0, min 17 (byteAt pl 2 + 1)] ++ beBytes 9 x ++ beBytes 4 refid ++ zeros 8 ++ slice pl 40 8 ++ zeros 16, s)

/-- Send an NTP payload. -/
def sendNtp (m : SveMsg) (pl : Octets) (ops : List (Nat × Nat)) (s : State) : Bool × State :=
  let d := m.snap.data
  let r := ntpRoute m
  let w := wrapFrame r pl
  let blk := actBlock (entClock d) false false 0 (csumOps r w.2 (ops.map fun p => (p.1, p.2 + w.2)))
  sveSend (entTenant d) m.port 1 { octets := w.1, act := blk, queue := 0, level := 0, tenant := entTenant d } s

/-- A kiss-o'-death is sent: KOD_SENT, and the tenant's count. -/
def kodSent (m : SveMsg) (s : State) : State :=
  let tenant := entTenant m.snap.data
  let x := s.ten tenant
  post Ev.SVE_KOD_SENT m.snap.idx (s.setTen tenant { x with kod := (x.kod + 1) % 2 ^ 32 })

/-- An NTP request leaves its FIFO. -/
def serveNtp (m : SveMsg) (s : State) : State :=
  let d := m.snap.data
  let tenant := entTenant d
  let pl := payload m.frame (parse m.frame)
  if profRd s (F.SVE_PROF_CFG_NTS_MODE (entProfile d)) = 2 then
    post Ev.SEC_AUTH_FAIL 0 (s.wr 0 F.SEC_COUNTS0_AUTH_FAIL (s.sh F.SEC_COUNTS0_AUTH_FAIL + 1))
  else if m.kod then
    let h := kodHeader pl 0x52415445 s
    let r := sendNtp m h.1 [] h.2
    if r.1 then kodSent m (served false tenant r.2) else r.2
  else
    let r := sendNtp m (ntpHeader s m pl 0 (zeros 8)) [(3, 40), (5, 8)] s
    if r.1 then served false tenant r.2 else r.2

/-- NTP_REQUEST: the next message of a pipeline is an NTP request. -/
def execNtpRequest (pipe : Fin 8) (s : State) : Host.Outcome State Fault Refusal :=
  .next (pipeStep pipe.val .ntp (fun m _ => serveNtp m) s)

/-! ### NTS (R351 to R355) -/

/-- The extension fields of a request: type, offset and length of each, if they fill the payload; `fuel` bounds the walk. -/
def extFields (pl : Octets) : Nat → Nat → Option (List (Nat × Nat × Nat))
  | 0, _ => none
  | fuel + 1, off =>
    if off = pl.length then some []
    else
      let len := ofBe (slice pl (off + 2) 2)
      if pl.length < off + 4 ∨ len < 4 ∨ len % 4 ≠ 0 ∨ pl.length < off + len then none
      else (extFields pl fuel (off + len)).map fun l => (ofBe (slice pl off 2), off, len) :: l

/-- The parts of a well-formed NTS request: Unique Identifier field, cookie, offset of the authenticator, placeholders (R351, R352). -/
structure NtsParts where
  uid : Octets
  cookie : Octets
  auth : Nat
  holders : Nat
  deriving DecidableEq, Repr

def ntsParts (pl : Octets) : Option NtsParts :=
  match extFields pl pl.length 48 with
  | none => none
  | some l =>
    let of (t : Nat) : List (Nat × Nat × Nat) := l.filter fun e => e.1 == t
    match of 0x0104, of 0x0204, of 0x0404, l.getLast? with
    | [u], [c], [a], some z =>
      if z = a ∧ 36 ≤ u.2.2 ∧ u.2.2 ≤ 260 ∧ c.2.2 = 108 then
        some ⟨slice pl u.2.1 u.2.2, slice pl (c.2.1 + 4) 104, a.2.1, min 7 ((of 0x0304).filter fun e => e.2.2 == 108).length⟩
      else none
    | _, _, _, _ => none

/-- Octets with their padding to a multiple of 4. -/
def pad4 (n : Nat) : Nat := (n + 3) / 4 * 4

/-- Nonce and ciphertext of an authenticator field at an offset. -/
def authParts (pl : Octets) (off : Nat) : Octets × Octets :=
  let nl := ofBe (slice pl (off + 4) 2)
  (slice pl (off + 8) nl, slice pl (off + 8 + pad4 nl) (ofBe (slice pl (off + 6) 2)))

/-- An authenticator field. -/
def authField (nonce ct : Octets) : Octets :=
  let body := beBytes 2 nonce.length ++ beBytes 2 ct.length ++ padTo (pad4 nonce.length) nonce ++ padTo (pad4 ct.length) ct
  beBytes 2 0x0404 ++ beBytes 2 (4 + body.length) ++ body

/-- `k` NTS Cookie fields under a master key. -/
def cookieFields (e : NtsEnt) (c2s s2c : Octets) : Nat → State → Octets × State
  | 0, s => ([], s)
  | k + 1, s =>
    let n := takeNonce s
    let r := cookieFields e c2s s2c k n.2
    (beBytes 2 0x0204 ++ beBytes 2 108 ++ cookie e n.1 c2s s2c ++ r.1, r.2)

/-- Length of a response with k cookies. -/
def ntsLen (uid : Octets) (k : Nat) : Nat := 48 + uid.length + 8 + 16 + 16 + 108 * k

/-- The number of cookies returned: reduced until the response is no longer than the request (R352). -/
def cookieCount (uid : Octets) (reqLen : Nat) : Nat → Nat
  | 0 => 0
  | k + 1 => if ntsLen uid (k + 1) ≤ reqLen then k + 1 else cookieCount uid reqLen k

/-- An answer with its Unique Identifier field and authenticator (R352). -/
def ntsSealed (hdr uid s2c pt : Octets) (s : State) : Octets × State :=
  let n := takeNonce s
  let ad := hdr ++ uid
  (ad ++ authField n.1 (sivSealOct (ofBe s2c) ad n.1 pt), n.2)

/-- The NTS NAK (R355). -/
def ntsNak (m : SveMsg) (pl uid : Octets) (s : State) : State :=
  let h := kodHeader pl 0x4E54534E s
  let r := sendNtp m (h.1 ++ uid) [] h.2
  if r.1 then
    kodSent m (served false (entTenant m.snap.data)
      (post Ev.SEC_NTSN_SENT 0 (r.2.wr 0 F.SEC_COUNTS1_NTSN_SENT (r.2.sh F.SEC_COUNTS1_NTSN_SENT + 1))))
  else r.2

/-- The predicted end of every frame selected or reserved on a port, in ticks. -/
def busyUntil (s : State) (n : Nat) : Rat := ((s.schPort n).launches.map (·.end_)).foldl max (predictedStart s n)

/-- May a reservation of a duration in ticks take a start (R353, R378)? -/
def launchOk (s : State) (n : Nat) (start d : Rat) : Bool :=
  decide ((s.frc : Rat) + ticksOfNs (s.sh F.SEC_CTRL) ≤ start) && decide (busyUntil s n ≤ start) && gateOpen s n 1 (vc0Ns s start) (guardNs s n d)

/-- The sealed response of a verified request, reserved at a start with the stamp and position given (R352, R353); none where the port could not
reserve that start. -/
def ntsRespond (m : SveMsg) (pl : Octets) (q : NtsParts) (c2s s2c : Octets) (start : Rat) (x32 b : Nat) (s : State) : Option State :=
  let d := m.snap.data
  let n := m.port
  let tenant := entTenant d
  let clock := entClock d
  let cur := currentNts s tenant
  let k := if cur.isSome then cookieCount q.uid pl.length (1 + q.holders) else 0
  let len := max 64 ((wrapFrame (ntpRoute m) (zeros (ntsLen q.uid k))).1.length + 4)
  if (cur.map (·.lost)).getD false then some (count Ct.SEC_KEY_LOST_DROP tenant 1 s)
  else if !s.doorOpen .sch || !portUp s n || decide (32 ≤ (s.schPort n).launches.length) then some (launchMiss s)
  else if !bitPosOk s n b || !launchOk s n start (lineTicks s n len) then none
  else
    let c := stampTx s n b + stampA s n
    let time := stampTime s clock x32 c
    let rd := rootDispersion (bound s clock (frcTick (stampFrc x32 c)) (n + 1) qPort)
    let pt := match cur with
      | some e => cookieFields e c2s s2c k s
      | none => ([], s)
    let o := ntsSealed (ntpHeader s m pl rd (ntpTime time)) q.uid s2c pt.1 pt.2
    let w := wrapFrame (ntpRoute m) o.1
    let f : TxFrame := { octets := w.1, act := actBlock clock false false 0 [], queue := sveQueue s tenant n 1, level := 1, tenant := tenant, enq := s.frc }
    let p := o.2.schPort n
    let l : Launch := ⟨f, start, start + lineTicks s n f.len, x32, b, false⟩
    some (served false tenant (sivOps (3 + k) (o.2.setSchPort n { p with launches := p.launches ++ [l] })))

/-- An NTS request leaves its FIFO (R351). -/
def serveNts (m : SveMsg) (start : Rat) (x32 b : Nat) (s : State) : Option State :=
  let tenant := entTenant m.snap.data
  let pl := payload m.frame (parse m.frame)
  if !s.doorOpen .sec then some (count Ct.SVE_SEC_ABSENT tenant 1 s)
  else match ntsParts pl with
    | none => some (authFail Ct.SEC_BAD_FORMAT tenant 0 s)
    | some q =>
      let lost := s.sec.nts.any fun e => e.2.keyId == ofBe (q.cookie.take 4) && e.2.owner == tenant && e.2.lost
      if lost then some (count Ct.SEC_KEY_LOST_DROP tenant 1 s)
      else match openCookie s tenant q.cookie with
        | none => some (ntsNak m pl q.uid s)
        | some (c2s, s2c) =>
          let a := authParts pl q.auth
          match sivOpenOct (ofBe c2s) (pl.take q.auth) a.1 a.2 with
          | none => some (authFail Ct.SEC_ICV_MISMATCH tenant 0 s)
          | some _ =>
            if m.kod then
              let h := kodHeader pl 0x52415445 s
              let o := ntsSealed h.1 q.uid s2c [] h.2
              let r := sendNtp m o.1 [] (sivOps 3 o.2)
              some (if r.1 then kodSent m (served false tenant r.2) else r.2)
            else ntsRespond m pl q c2s s2c start x32 b s

/-- NTS_REQUEST: the next message of a pipeline is an NTS request. `start` is the reserved start, and the stamp and b are those of its boundary; a
start that the port could not reserve is none that the row can have. -/
def ntsRequest (p : Nat) (start : Rat) (x32 b : Nat) (s : State) : State :=
  if !s.doorOpen .sve then s
  else match nextMsg s p with
    | some (m, granted) =>
      if m.kind ≠ .nts then s
      else match serveNts m start x32 b (popMsg p granted s) with
        | some t => credit m.snap t
        | none => s
    | none => s

def execNtsRequest (pipe : Fin 8) (start tick : BitVec 64) (phase : Fin 32) (b : BitVec 13) (s : State) : Host.Outcome State Fault Refusal :=
  .next (ntsRequest pipe.val start.toNat (32 * tick.toNat + phase.val) b.toNat s)

end Sys2Proof.Machine
end

