-- ==== Sys2Proof/Machine/SveCmds.lean ====
section
/-! DEFINITION. Classifier and context commands, and the PTP client session (R303 to R305, R309, R310, R319, R324, R330, R331, R333, R334). -/

namespace Sys2Proof.Machine

/-! ### Classifier commands (R303 to R305) -/

def stCls : StatRef := ⟨F.SVE_CLS_STATUS_CODE, F.SVE_CLS_STATUS_BUSY, none⟩

def clsCommand (w : Win) (body : Nat → State → State) (s : State) : State :=
  command .sve stCls Ev.SVE_CMD_OVERRUN w (fun s => body (s.rd w.c F.SVE_CLS_SEL) s) s

/-- The contents that a window holds, without GEN. -/
def clsWindow (s : State) (w : Win) : Octets :=
  let o := ((List.range 8).map fun i => leBytes 4 (s.rd w.c (F.SVE_CLS_DATA i))).flatten
  splice o 0 (oct [byteAt o 0 % 16])

/-- An entry takes new contents: GEN and the counters move (R303, R304). -/
def clsReplace (n : Nat) (d : Octets) (s : State) : State :=
  let e := s.cls n
  s.setCls n { data := d, gen := (e.gen + 1) % 16, cur := 0, prev := e.cur, stale := (e.stale + e.prev) % 2 ^ 32 }

/-- A WRITE completes. -/
def clsDone (w : Win) (n : Nat) (s : State) : State :=
  post Ev.SVE_CLS_WRITTEN n (completeOk stCls w (s.wr w.c F.SVE_CLS_STATUS_GEN (s.cls n).gen))

/-- WRITE and INVALIDATE with contents (R303, R305): a WRITE whose new GEN still names a frame has its effect only once none does, and one with
DRAIN waits for the frames of older snapshots. -/
def clsWriteWith (w : Win) (drain : Bool) (expect : Nat) (data : Nat → State → Octets) (s : State) : State :=
  clsCommand w (fun n s =>
    let d := data n s
    let e := s.cls n
    let t := s.wr w.c F.SVE_CLS_STATUS_GEN e.gen
    let clash := (entMessages s n).any fun m => m.snap.gen == (e.gen + 1) % 16
    if !s.secureSt w.fn then refuse stCls w 0 t
    else if expect ≠ e.gen then complete stCls w Code.staleGen 0 t
    else if 5 ≤ entAction d ∨ !kindAllows s d ∨ s.sve.waits.any (fun x => x.entry == n) then refuse stCls w 0 t
    else if clash then
      accept .sve stCls w 1 n { s with sve := { s.sve with waits := s.sve.waits ++ [⟨w, n, d, none⟩] } }
    else if drain && !(entMessages s n).isEmpty then
      accept .sve stCls w 1 n (clsReplace n d { s with sve := { s.sve with waits := s.sve.waits ++ [⟨w, n, d, some e⟩] } })
    else clsDone w n (clsReplace n d s)) s

/-- WRITE. -/
def opClsWrite (w : Win) (drain : Bool) (expect : Nat) (s : State) : State := clsWriteWith w drain expect (fun _ s => clsWindow s w) s

/-- CLS_WRITE. -/
def execClsWrite (fn : Fn) (drain : Bool) (expectGen : Fin 16) (s : State) : Host.Outcome State Fault Refusal :=
  .next (opClsWrite ⟨fn.val, fn.val + 1⟩ drain expectGen.val s)

/-- INVALIDATE: a WRITE of the entry with VALID 0. -/
def opClsInvalidate (w : Win) (drain : Bool) (expect : Nat) (s : State) : State :=
  clsWriteWith w drain expect (fun n s => let d := padTo 32 (s.cls n).data; splice d 0 (oct [byteAt d 0 / 2 * 2])) s

/-- CLS_INVALIDATE. -/
def execClsInvalidate (fn : Fn) (drain : Bool) (expectGen : Fin 16) (s : State) : Host.Outcome State Fault Refusal :=
  .next (opClsInvalidate ⟨fn.val, fn.val + 1⟩ drain expectGen.val s)

/-- CLS_WRITE_COMPLETE: no frame of an older snapshot of the entry, or none of the new GEN, is left in the SVE (R305). -/
def clsWriteComplete (n : Nat) (s : State) : State :=
  match s.sve.waits.find? fun x => x.entry == n with
  | none => s
  | some x =>
    let e := s.cls n
    let left := match x.old with
      | some _ => (entMessages s n).any fun m => m.snap.gen != e.gen
      | none => (entMessages s n).any fun m => m.snap.gen == (e.gen + 1) % 16
    if left then s
    else
      let t := { s with sve := { s.sve with waits := s.sve.waits.filter fun y => y.entry != n } }
      let t := if x.old.isNone then clsReplace n x.data t else t
      post Ev.SVE_CLS_WRITTEN n (finish .sve 1 n Code.ok 0 (t.wr x.win.c F.SVE_CLS_STATUS_GEN (t.cls n).gen))

def execClsWriteComplete (entry : Fin 4096) (s : State) : Host.Outcome State Fault Refusal := .next (clsWriteComplete entry.val s)

/-- READ: the entry with its GEN, and its counters (R303, R304, R333). -/
def opClsRead (w : Win) (s : State) : State :=
  clsCommand w (fun n s =>
    let e := s.cls n
    let d := padTo 32 e.data
    let o := splice d 0 (oct [byteAt d 0 + 16 * e.gen])
    if !s.secureSt w.fn && tenantOf w.fn != entTenant d then refuse stCls w 0 s
    else
      let t := each (List.range 8) (fun i t => t.wr w.c (F.SVE_CLS_DATA i) (ofLe (slice o (4 * i) 4))) s
      let t := ((t.wr w.c F.SVE_CLS_CNT0 e.cur).wr w.c F.SVE_CLS_CNT1 e.prev).wr w.c F.SVE_CLS_CNT2 e.stale
      completeOk stCls w (t.wr w.c F.SVE_CLS_STATUS_GEN e.gen)) s

/-- CLS_READ. -/
def execClsRead (fn : Fn) (s : State) : Host.Outcome State Fault Refusal := .next (opClsRead ⟨fn.val, fn.val + 1⟩ s)

/-! ### Context commands (R309) -/

def stCtx : StatRef := ⟨F.SVE_CTX_STATUS_CODE, F.SVE_CTX_STATUS_BUSY, none⟩

def ctxTenant (s : State) (o : Octets) : Nat := entTenant (s.cls (Ctx.entry o)).data

/-- A command on the selected context: the secure world, the steward, and the tenant that its entry serves (R333). -/
def ctxCommand (w : Win) (body : Nat → Octets → State → State) (s : State) : State :=
  command .sve stCtx Ev.SVE_CMD_OVERRUN w (fun s =>
    let n := s.rd w.c F.SVE_CTX_SEL
    let o := ctxRead s n
    if ctxCount s ≤ n ∨ (!s.secureSt w.fn && tenantOf w.fn != ctxTenant s o) then refuse stCtx w 0 s
    else if ctxPoisoned s n then complete stCtx w Code.poisoned 0 (poisonUse (mSve (n % 8)) ((ctxAddr s n).getD 0) s)
    else body n o s) s

/-- READ. -/
def opCtxRead (w : Win) (s : State) : State :=
  ctxCommand w (fun _ o s => completeOk stCtx w (each (List.range 16) (fun i t => t.wr w.c (F.SVE_CTX_DATA i) (ofLe (slice o (4 * i) 4))) s)) s

/-- CTX_READ. -/
def execCtxRead (fn : Fn) (s : State) : Host.Outcome State Fault Refusal := .next (opCtxRead ⟨fn.val, fn.val + 1⟩ s)

/-- The record that INSTALL writes: of a multicast context the grant words take the profile's multicast logs (R324), and a Sync grant under
an HMAC SA is two-step (R347). -/
def installRecord (s : State) (w : Win) : Octets :=
  let o := ((List.range 16).map fun i => leBytes 4 (s.rd w.c (F.SVE_CTX_DATA i))).flatten
  let k := entProfile (s.cls (Ctx.entry o)).data
  let o := if gwGranted (Ctx.grant o 0) && saHmac s o then Ctx.setFlag 5 true o else o
  let log (g : Nat) : Nat :=
    if g = 0 then profRd s (F.SVE_PROF_LOG_MC_SYNC k) else if g = 1 then profRd s (F.SVE_PROF_LOG_MC_ANN k) else profRd s (F.SVE_PROF_DUR_MC_DRESP k)
  if Ctx.mcast o then
    [0, 1, 2].foldl (fun o g => if gwGranted (Ctx.grant o g) then Ctx.setGrant g (grantWord (gwExpiry (Ctx.grant o g)) (sgn 4 (log g))) o else o) o
  else o

/-- INSTALL (R309, R317, R321, R324). -/
def opCtxInstall (w : Win) (s : State) : State :=
  command .sve stCtx Ev.SVE_CMD_OVERRUN w (fun s =>
    let o := installRecord s w
    let d := (s.cls (Ctx.entry o)).data
    let tenant := entTenant d
    let key := Ctx.key o
    let add := ([0, 1, 2].map fun g => grantLoad o g).sum
    let addSec := ([0, 1, 2].map fun g => grantSecLoad o g).sum
    let p := bestPipe s
    if !s.secureSt w.fn || !Ctx.active o || (Ctx.mcast o && (entUnicastOnly d || entAction d != 2)) ||
        (findCtx s (Ctx.mcast o) key).isSome || !admits s false p tenant add 0 addSec 0 then refuse stCtx w 0 s
    else if Config.dirFull s.sve.dir key then
      refuse stCtx w 0 (post Ev.SVE_DIR_FULL (Ctx.entry o) (s.wr 0 F.SVE_COUNTS_DIR_FULL (s.sh F.SVE_COUNTS_DIR_FULL + 1)))
    else match freeCtx s p with
      | none => refuse stCtx w 0 s
      | some n =>
        let t := dirInsert n (ctxWrite n o (moveLoad (n % 8) tenant add 0 addSec 0 s))
        let t := each ([0, 1].filter fun g => gwGranted (Ctx.grant o g)) (fun g t => wheelBit true (gwLog (Ctx.grant o g)) g n t) t
        completeOk stCtx w (t.wr w.c F.SVE_CTX_SEL n)) s

/-- CTX_INSTALL. -/
def execCtxInstall (fn : Fn) (s : State) : Host.Outcome State Fault Refusal := .next (opCtxInstall ⟨fn.val, fn.val + 1⟩ s)

/-- RELEASE (R309, R319). -/
def opCtxRelease (w : Win) (s : State) : State :=
  ctxCommand w (fun n o s =>
    let r := endGrants n (ctxTenant s o) [0, 1, 2] o (sendCancel o [0, 1, 2] s)
    completeOk stCtx w (freeContext n r.2)) s

/-- CTX_RELEASE. -/
def execCtxRelease (fn : Fn) (s : State) : Host.Outcome State Fault Refusal := .next (opCtxRelease ⟨fn.val, fn.val + 1⟩ s)

/-- CANCEL_GRANT of the message types in TYPES (R309, R319). -/
def opCtxCancelGrant (w : Win) (types : Nat) (s : State) : State :=
  ctxCommand w (fun n o s =>
    let gs := [0, 1, 2].filter fun g => bitOf types g
    if gs.isEmpty then refuse stCtx w 0 s
    else
      let r := endGrants n (ctxTenant s o) gs o (sendCancel o gs s)
      completeOk stCtx w (ctxWrite n r.1 r.2)) s

/-- CTX_CANCEL_GRANT. -/
def execCtxCancelGrant (fn : Fn) (types : Fin 8) (s : State) : Host.Outcome State Fault Refusal :=
  .next (opCtxCancelGrant ⟨fn.val, fn.val + 1⟩ types.val s)

/-! ### The PTP client session (R330, R331, R104, R108) -/

def setCli (c : CliSess) (s : State) : State := { s with sve := { s.sve with cli := c } }

/-- A time of a PTP message in ns: ten octets. -/
def ptpNs (o : Octets) : Rat := (ofBe (o.take 6) : Rat) * 1000000000 + ofBe (slice o 6 4)

/-- A correctionField in ns. -/
def ptpCorr (m : Octets) : Rat := (sgn 64 (ofBe (slice m 8 8)) : Rat) / 65536

/-- A Sync of the session: loss of Sync ends, and an exchange begins. -/
def cliSync (m : Octets) (x32 : Nat) (time : Int) (s : State) : State :=
  let two := bitOf (byteAt m 6) 1
  let e : CliExch := ⟨ofBe (slice m 30 2), x32, (time : Rat) / 2 ^ 48, if two then none else some (ptpNs (slice m 34 10) + ptpCorr m)⟩
  let t := setCli { s.sve.cli with sync := some (s.frc, sgn 8 (byteAt m 33)), exch := some e } s
  linkRestored 25 (t.wr 0 F.SVE_CLI_STATUS_SYNC_LOST 0)

/-- An Announce of the session gives REF25's rank. -/
def cliAnnounce (m : Octets) (s : State) : State :=
  let cls := byteAt m 48
  let t := setCli { s.sve.cli with ann := some (s.frc, sgn 8 (byteAt m 33)) } s
  let t := ((t.wr 0 F.SVE_CLI_STATUS_ANN_TIMEOUT 0).wr 0 (F.REF_QL_RX_CLOCK_CLASS 25) cls).wr 0 (F.REF_QL_RX_CLOCK_ACCURACY 25) (byteAt m 49)
  updateQr 25 ((t.setSlot 25 { t.slot 25 with qrRx := clockClassQr cls, qlTick := some t.frc }).wr 0 (F.REF_QL_AGE_AGE 25) 0)

/-- A Delay_Resp completes the exchange: with t3, the egress time of the Delay_Req in 2^-16 ns, the steward estimates the master time at the
Sync's ingress stamp and delivers it to REF25 (R330). -/
def cliDelayResp (m : Octets) (t3 : Option Nat) (s : State) : State :=
  match s.sve.cli.exch, t3 with
  | some e, some t =>
    match e.t1 with
    | some t1 =>
      let t4 := ptpNs (slice m 34 10) - ptpCorr m
      let delay := ((e.t2 - (linOfT96 t : Rat) / 65536) + (t4 - t1)) / 2
      refEdgeStamp 25 e.x32 1 (some ⌊(t1 + delay) * 65536⌋.toNat) (setCli { s.sve.cli with exch := none } s)
    | none => s
  | _, _ => s

/-- PTP_CLIENT_MESSAGE: the oldest message accepted for the session is delivered to the steward. -/
def ptpClientMessage (t3 : Option Nat) (s : State) : State :=
  match s.sve.cli.inbox with
  | [] => s
  | (m, x32, time) :: rest =>
    let t := (setCli { s.sve.cli with inbox := rest } s).wr 0 F.SVE_CLI_STATUS_MESSAGES (s.sh F.SVE_CLI_STATUS_MESSAGES + 1)
    match ptpType m with
    | 0 => cliSync m x32 time t
    | 8 => match t.sve.cli.exch with
      | some e => if e.seq = ofBe (slice m 30 2) then
          setCli { t.sve.cli with exch := some { e with t1 := some (ptpNs (slice m 34 10) + ptpCorr m) } } t else t
      | none => t
    | 9 => cliDelayResp m t3 t
    | _ => cliAnnounce m t

/-- PTP_CLIENT_MESSAGE: for a Delay_Resp, the egress time of the steward's Delay_Req as a T96. -/
def execPtpClientMessage (t3 : Option (BitVec 96)) (s : State) : Host.Outcome State Fault Refusal :=
  .next (ptpClientMessage (t3.map (·.toNat)) s)

/-- Ticks of n × 2^log seconds. -/
def logTicks (n : Nat) (log : Int) : Rat := (n : Rat) * (2 : Rat) ^ log * ticksPerSec

/-- CLI_ANN_TIMEOUT (R331, R108). -/
def cliAnnTimeout (s : State) : State :=
  match s.sve.cli.ann with
  | none => s
  | some (t, log) =>
    if (s.frc : Rat) < t + logTicks (s.sh F.SVE_CLI_CFG_CLI_ANN_TO) log ∨ s.sh F.SVE_CLI_CFG_CLI_EN = 0 then s
    else
      let x := setCli { s.sve.cli with ann := none } s
      updateQr 25 ((post Ev.SVE_CLI_LOST 0 (x.wr 0 F.SVE_CLI_STATUS_ANN_TIMEOUT 1)).setSlot 25 { x.slot 25 with qlTick := none })

def execCliAnnTimeout (s : State) : Host.Outcome State Fault Refusal := .next (cliAnnTimeout s)

/-- CLI_SYNC_TIMEOUT: the session reports loss of Sync (R104, R331). -/
def cliSyncTimeout (s : State) : State :=
  match s.sve.cli.sync with
  | none => s
  | some (t, log) =>
    if (s.frc : Rat) < t + logTicks (s.sh F.SVE_CLI_CFG_CLI_SYNC_TO) log ∨ s.sh F.SVE_CLI_CFG_CLI_EN = 0 then s
    else linkLost 25 (post Ev.SVE_CLI_LOST 0 ((setCli { s.sve.cli with sync := none } s).wr 0 F.SVE_CLI_STATUS_SYNC_LOST 1))

def execCliSyncTimeout (s : State) : Host.Outcome State Fault Refusal := .next (cliSyncTimeout s)

end Sys2Proof.Machine
end

