-- ==== Sys2Proof/Machine/BusCore.lean ====
section
/-! DEFINITION. How a register takes a write, by the access type of each field, and how it is read (R5 to R11, R602 to R608). -/

namespace Sys2Proof.Machine

/-- What a field stores of a value written to it. -/
def Fld.stores (f : Fld) (v : Nat) : Nat :=
  match f.clamp with
  | none => v
  | some k => if v < k.lo then k.below else if k.hi < v then k.above else v

/-- A field of the register at an offset of a block. -/
def Fld.at (f : Fld) (b : Blk) (off : Nat) : FieldRef := ⟨b, off, f.lo, f.w, f.rst⟩

/-- One field takes a write of its register (Table 0.1). -/
def writeFld (b : Blk) (off c v : Nat) (f : Fld) (s : State) : State :=
  let x := bits v f.lo f.w
  let r := f.at b off
  match f.acc with
  | .rw | .sh | .rws | .lk => s.wr c r (f.stores x)
  | .w1c => s.wr c r (s.rd c r &&& (2 ^ f.w - 1 - x))
  | .w1s => s.wr c r (s.rd c r ||| x)
  | .ro | .wo => s

/-- The register at an offset takes a write; an offset that the map does not list ignores it (R603). -/
def writeReg (b : Blk) (off c v : Nat) (s : State) : State :=
  match regAt b off with
  | some r => each r.flds (writeFld b off c v) s
  | none => s

/-- Which register of an array an offset names, where it is one of the `n` at `base` with a stride, and the offset within it. -/
def arrayAt (off base stride n : Nat) : Option (Nat × Nat) :=
  if base ≤ off ∧ off < base + stride * n then some ((off - base) / stride, (off - base) % stride) else none

/-- The object that an AUTH_REFUSED record names: the slot, channel or port that the register belongs to (R576). -/
def objOf (b : Blk) (off : Nat) : Nat :=
  let at_ (base stride n : Nat) := ((arrayAt off base stride n).map (·.1)).getD 0
  match b with
  | .refs => at_ 0x400 0x40 32
  | .tdc => at_ 0x100 0x40 16
  | .gn => at_ 0x1000 0x40 192
  | .prt => at_ 0x100 0x40 16
  | .sch => at_ 0x200 0x40 16
  | .ubw => at_ 0x100 0x40 5
  | .out => if off < 0x400 then at_ 0x100 0x10 20 else at_ 0x400 0x40 8
  | _ => 0

/-- A refused write (the authority rule of each block). -/
def refuseWrite (b : Blk) (fn off : Nat) (s : State) : State := postTo (Ev.authOf b) fn (objOf b off) s

/-- A write under a block's authority rule, at its door. -/
def guarded (b : Blk) (w : Win) (off : Nat) (may : State → Bool) (body : State → State) (s : State) : State :=
  writeAtDoor b w.fn off (fun s => if may s then body s else refuseWrite b w.fn off s) s

/-- The secure world and the steward; the secure world alone. -/
def maySec (w : Win) (s : State) : Bool := s.secureSt w.fn
def maySecure (w : Win) (s : State) : Bool := s.secure w.fn
def mayAll (_ : State) : Bool := true

/-- A register without effects of its own: a per-function register takes a write of its own function, a shared one under `may`. -/
def plain (b : Blk) (w : Win) (off v : Nat) (may : State → Bool) (s : State) : State :=
  match regAt b off with
  | none => s
  | some r => guarded b w off (if r.perFn then mayAll else may) (writeReg b off (if r.perFn then w.c else 0) v) s

/-- A shared register with something to do after the write. -/
def plainThen (b : Blk) (w : Win) (off v : Nat) (may : State → Bool) (after : State → State) (s : State) : State :=
  guarded b w off may (fun s => after (writeReg b off 0 v s)) s

/-- A register that is writable only while a condition holds; else the write has no effect, and an event says so. -/
def lockedReg (b : Blk) (w : Win) (off v : Nat) (may open_ : State → Bool) (refused : State → State) (s : State) : State :=
  guarded b w off may (fun s => if open_ s then writeReg b off 0 v s else refused s) s

/-- Fields of a register as one value. -/
def regValue (s : State) (b : Blk) (off c : Nat) : Nat :=
  match regAt b off with
  | some r => (r.flds.map fun f => if f.acc == .wo then 0 else s.rd c (f.at b off) * 2 ^ f.lo).sum
  | none => 0

/-- Would a write change the value of some bits of a shared register? -/
def wouldChange (s : State) (b : Blk) (off v mask : Nat) : Bool := (regValue s b off 0 &&& mask) != (v &&& mask)

/-- A write of an EVT_STATUS register clears the writer's own flags (R5, R605). -/
def writeEvt (b : Blk) (reg : Nat) (w : Win) (off v : Nat) (s : State) : State :=
  writeAtDoor b w.fn off (fun s => { s with evtOwn := tset s.evtOwn (reg * 1024 + w.c) (s.evStatus w.c reg &&& (2 ^ 32 - 1 - v)) }) s

/-- An operation whose outcome beyond the device is open: a bit that nothing constrains. -/
def freeBool (f : Bool → State → State) (s : State) : State :=
  let (x, s) := s.free 1
  f (x == 1) s

end Sys2Proof.Machine
end

