-- ==== Sys2Proof/Machine/BusServe.lean ====
section
/-! DEFINITION. Register writes to PRT, SVE, SEC, SCH, POL, UBW, MATE, KS and SHM (R5 to R11, R293, R333, R358, R389, R418, R434, R463, R485). -/

namespace Sys2Proof.Machine

/-- A register of a timestamp ring other than its CFG (R291, R293): BASE only while EN is 0; the functions of OWNER may write RD_IDX. -/
def writeTsrReg (b : Blk) (r : TsrRef) (w : Win) (off i v : Nat) (s : State) : State :=
  if i = 4 then lockedReg b w off v (maySec w) (fun s => s.sh r.en == 0) (post r.evLocked r.obj) s
  else if i = 0xC then plain b w off v (fun s => s.secureSt w.fn || tenantOf w.fn == s.sh r.owner) s
  else plain b w off v (maySec w) s

/-! ### PRT -/

/-- A register of port n (R273, R291, R293). -/
def writePrtPort (w : Win) (n i off v : Nat) (s : State) : State :=
  if i = 0 then writePortCfg w.fn n v s
  else if i = 4 then lockedReg .prt w off v (maySec w) (fun s => s.sh (F.PRT_PORT_CFG_EN n) == 0) (post Ev.PRT_CFG_LOCKED n) s
  else match arrayAt i 0x20 0x10 2 with
    | some (d, 0) => writeTsr .prt off (prtTsr n d) Ev.PRT_AUTH_REFUSED w.fn v s
    | some (d, j) => writeTsrReg .prt (prtTsr n d) w off j v s
    | none => plain .prt w off v (maySec w) s

def writePRT (w : Win) (off v : Nat) (s : State) : State :=
  match arrayAt off 0x100 0x40 16, arrayAt off 0x600 4 16 with
  | some (n, i), _ => writePrtPort w n i off v s
  | none, some (l, _) =>
    lockedReg .prt w off v (maySec w) (fun s => s.sh (F.PRT_LANE_STATUS_MEMBER l) == 0)
      (fun s => post Ev.PRT_CFG_LOCKED (s.sh (F.PRT_LANE_STATUS_PORT l)) s) s
  | none, none =>
    if off = 0x4 then writeEvt .prt 8 w off v s
    else if off = 0x10 then writePortCg cg14 w.fn (v % 4) (bitOf v 4) (bitOf v 5) s
    else plain .prt w off v (maySec w) s

/-! ### SVE -/

/-- SVE_CLS_CMD (Table 11.14). -/
def clsCmd (w : Win) (v : Nat) (s : State) : State :=
  match v % 4 with
  | 1 => opClsWrite w (bitOf v 2) (bits v 4 4) s
  | 2 => opClsRead w s
  | 3 => opClsInvalidate w (bitOf v 2) (bits v 4 4) s
  | _ => clsCommand w (fun _ => refuse stCls w 0) s

/-- SVE_CTX_CMD (Table 11.5). -/
def ctxCmd (w : Win) (v : Nat) (s : State) : State :=
  match v % 8 with
  | 1 => opCtxRead w s
  | 2 => opCtxInstall w s
  | 3 => opCtxRelease w s
  | 4 => opCtxCancelGrant w (bits v 3 3) s
  | _ => command .sve stCtx Ev.SVE_CMD_OVERRUN w (refuse stCtx w 0) s

/-- A profile register: each field keeps its old value in force for 64 ticks (Table 11.15). -/
def writeProfile (w : Win) (off v : Nat) (s : State) : State :=
  guarded .sve w off (maySec w) (fun s =>
    let old := match regAt .sve off with
      | some r => r.flds.map fun f => ((f.at .sve off).key 0, s.sh (f.at .sve off), s.frc)
      | none => []
    writeReg .sve off 0 v { s with sve := { s.sve with profOld := (s.sve.profOld.filter fun e => s.frc < e.2.2 + 64) ++ old } }) s

/-- TEN_MAX of the selected tenant. -/
def writeTenMax (w : Win) (v : Nat) (s : State) : State :=
  guarded .sve w 0x1A4 (maySec w) (fun s => let t := s.rd w.c F.SVE_TEN_SEL; s.setTen t { s.ten t with max := v }) s

def writeSVE (w : Win) (off v : Nat) (s : State) : State :=
  match off with
  | 0x4 => writeEvt .sve 9 w off v s
  | 0x20 => plainThen .sve w off v (maySec w) (onlyIf (!bitOf v 0) (setCli {})) s
  | 0x124 => clsCmd w v s
  | 0x184 => ctxCmd w v s
  | 0x1A4 => writeTenMax w v s
  | _ => if 0x400 ≤ off then writeProfile w off v s else plain .sve w off v (maySec w) s

/-! ### SEC -/

def saCmd (w : Win) (v : Nat) (s : State) : State :=
  match v % 8 with
  | 1 => opSaWrite w s
  | 2 => opSaRead w s
  | 3 => opSaLoadKey w s
  | 4 => opSaRotate w (bitOf v 8) s
  | 5 => opSaUnloadKey w s
  | 6 => opSaInvalidate w s
  | _ => command .sec stSa Ev.SEC_CMD_OVERRUN w (refuse stSa w 0) s

def ntsCmd (w : Win) (v : Nat) (s : State) : State :=
  match v % 8 with
  | 1 => opNtsLoad w s
  | 2 => opNtsMakeCurrent w s
  | 3 => opNtsUnload w s
  | 4 => opNtsMint w (bits v 8 4) s
  | 5 => opNtsRead w s
  | _ => command .sec stNts Ev.SEC_CMD_OVERRUN w (refuse stNts w 0) s

def writeSEC (w : Win) (off v : Nat) (s : State) : State :=
  match off with
  | 0x4 => writeEvt .sec 10 w off v s
  | 0x11C => saCmd w v s
  | 0x214 => ntsCmd w v s
  | _ => plain .sec w off v (maySec w) s

/-! ### SCH and POL -/

/-- SCH_SMP_CFG: LOG2_RECORDS only while EN is 0; EN set clears the ring (R385). -/
def writeSmpCfg (w : Win) (v : Nat) (s : State) : State :=
  guarded .sch w 0x10 (maySec w) (fun s =>
    let on := s.sh F.SCH_SMP_CFG_EN == 1
    let log := s.sh F.SCH_SMP_CFG_LOG2_RECORDS
    let t := writeReg .sch 0x10 0 v s
    if on then t.wr 0 F.SCH_SMP_CFG_LOG2_RECORDS log
    else onlyIf (bitOf v 0) (fun t =>
      { ((t.wr 0 F.SCH_SMP_WR_IDX 0).wr 0 F.SCH_SMP_RD_IDX 0) with sch := { t.sch with smpSeq := 0 } }) t) s

/-- TEN_QBASE of the selected tenant: its selected frames are revoked (R360, R370). -/
def writeQbase (w : Win) (v : Nat) (s : State) : State :=
  guarded .sch w 0x44 (maySec w) (fun s =>
    let t := s.rd w.c F.SCH_TEN_SEL
    revoke (fun f => f.tenant == t) { s with sch := { s.sch with qbase := tset s.sch.qbase t (v % 2 ^ 16 / 32 * 32) } }) s

def qCmd (w : Win) (v : Nat) (s : State) : State :=
  match v % 4 with
  | 1 => opQWrite w s
  | 2 => opQRead w (bitOf v 2) s
  | 3 => opQFlush w s
  | _ => qCommand w (fun _ => refuse stQ w 0) s

/-- GATE_DATA of the selected entry: only of an idle bank that is not armed (R374). -/
def writeGateData (w : Win) (v : Nat) (s : State) : State :=
  guarded .sch w 0xC4 (maySec w) (fun s =>
    let n := s.rd w.c F.SCH_GATE_SEL_PORT
    let b := s.rd w.c F.SCH_GATE_SEL_BANK
    let p := s.schPort n
    if b = s.sh (F.SCH_GATE_CTRL_ACTIVE_BANK n) ∨ p.arm.isSome = true then post Ev.SCH_CFG_LOCKED n s
    else s.setSchPort n { p with gates := tset p.gates (b * 256 + s.rd w.c F.SCH_GATE_SEL_ENTRY) (v % 16, max 1 (bits v 8 24)) }) s

def writeSCH (w : Win) (off v : Nat) (s : State) : State :=
  match arrayAt off 0x200 0x40 16 with
  | some (n, 0) => plainThen .sch w off v (maySec w) (fun s => gateRefresh n s.frc s) s
  | some (n, 0x10) => writeGateCtrl w.fn n v s
  | some (_, _) => plain .sch w off v (maySec w) s
  | none =>
    match off with
    | 0x4 => writeEvt .sch 11 w off v s
    | 0x10 => writeSmpCfg w v s
    | 0x14 => lockedReg .sch w off v (maySec w) (fun s => s.sh F.SCH_SMP_CFG_EN == 0) id s
    | 0x44 => writeQbase w v s
    | 0x98 => qCmd w v s
    | 0xC4 => writeGateData w v s
    | _ => plain .sch w off v (maySec w) s

def polCmd (w : Win) (v : Nat) (s : State) : State :=
  match v % 8 with
  | 1 => opPolWrite w s
  | 2 => opPolRead w s
  | 3 => opPolRefill w s
  | 4 => opPolClearCounts w s
  | _ => command .pol stPol Ev.POL_CMD_OVERRUN w (refuse stPol w 0) s

def writePOL (w : Win) (off v : Nat) (s : State) : State :=
  match off with
  | 0x4 => writeEvt .pol 12 w off v s
  | 0x58 => polCmd w v s
  | _ => plain .pol w off v (maySec w) s

/-! ### UBW and MATE -/

def writeUBW (w : Win) (off v : Nat) (s : State) : State :=
  match arrayAt off 0x100 0x40 5, arrayAt off 0x80 0x10 2 with
  | some (p, 0), _ => writeUbwCfg w.fn p v s
  | some (_, _), _ => plain .ubw w off v (maySec w) s
  | none, some (d, 0) => writeTsr .ubw off (ubwTsr d) Ev.UBW_AUTH_REFUSED w.fn v s
  | none, some (d, i) => writeTsrReg .ubw (ubwTsr d) w off i v s
  | none, none =>
    match off with
    | 0x4 => writeEvt .ubw 15 w off v s
    | 0xC | 0x24 | 0x28 | 0x2C => plainThen .ubw w off v (maySec w) syncUbw s
    | 0x10 => writePortCg cg15 w.fn (v % 4) (bitOf v 4) (bitOf v 5) s
    | _ => plain .ubw w off v (maySec w) s

def writeMATE (w : Win) (off v : Nat) (s : State) : State :=
  match off with
  | 0x4 => writeEvt .mate 16 w off v s
  | _ => plain .mate w off v (maySec w) s

/-! ### KS and SHM -/

/-- KS_CMD (Table 16.9). -/
def ksCmd (w : Win) (v : Nat) (s : State) : State :=
  match v % 16 with
  | 1 => opKsReadAttr w s
  | 2 => freeBool (opKsGenerate w) s
  | 3 => freeBool (opKsDerive w) s
  | 4 => freeBool (opKsRestrict w) s
  | 5 => freeBool (opKsWipe w) s
  | 6 => freeBool (opKsEnvApply w) s
  | 7 => opKsIdStatement w s
  | 8 => opKsEkCert w s
  | 9 => freeBool (opKsAuthSet w) s
  | 0xA => opKsLockAuth w s
  | 0xB => opKsProvision w s
  | 0xC => opKsDeploy w s
  | 0xD => opKsReturn w s
  | _ => command .ks stKs Ev.KS_CMD_OVERRUN w (ksRefuse w KsCause.format) s

/-- KS_TAMPER_CFG: bits 2 and 3 are never cleared, the others only in DEVELOP (Table 16.12). -/
def writeTamperCfg (w : Win) (v : Nat) (s : State) : State :=
  guarded .ks w 0x10 (maySecure w) (fun s =>
    let old := s.sh F.KS_TAMPER_CFG
    s.wr 0 F.KS_TAMPER_CFG (v % 64 ||| (if s.develop then old &&& 0xC else old))) s

def writeKS (w : Win) (off v : Nat) (s : State) : State :=
  match off with
  | 0x4 => writeEvt .ks 13 w off v s
  | 0x10 => writeTamperCfg w v s
  | 0x14 => plain .ks w off v (maySecure w) s
  | 0x218 => ksCmd w v s
  | _ => plain .ks w off v (maySec w) s

def writeSHM (w : Win) (off v : Nat) (s : State) : State :=
  match off with
  | 0x4 => writeEvt .shm 14 w off v s
  | 0x40 | 0x44 => guarded .shm w off (maySec w) (writeReg .shm off w.c v) s
  | 0x48 => (match v % 4 with
    | 1 => opCt w true s
    | 2 => opCt w false s
    | _ => command .shm stCt Ev.SHM_CMD_OVERRUN w (refuse stCt w (if s.secureSt w.fn then 0 else 3)) s)
  | 0x6C => (match v % 4 with
    | 1 => opAtom w true (bitOf v 2) s
    | 2 => opAtom w false (bitOf v 2) s
    | _ => command .shm stAtom Ev.SHM_CMD_OVERRUN w (refuse stAtom w 0) s)
  | _ => plain .shm w off v (maySec w) s

end Sys2Proof.Machine
end

