-- ==== Sys2Proof/Machine/BusHost.lean ====
section
/-! DEFINITION. Register writes to HIF, STW, RST, PWR, FLT, PMC and MGP (R5 to R11, R519, R537, R558, R574, R586, R599). -/

namespace Sys2Proof.Machine

/-! ### HIF -/

/-- HIF_W_CMD (Table 18.13). -/
def hifCmd (w : Win) (v : Nat) (s : State) : State :=
  match v % 16 with
  | 1 => opHifNop w s
  | 2 => opHifCopy w s
  | 3 => opPtWrite w s
  | 4 => opPtRead w s
  | 5 => opPtCommit w s
  | 6 => opPtAbort w s
  | 7 => opSuHold w s
  | 8 => opSuRelease w s
  | 9 => opPwrReq w s
  | _ => hifCommand w (fun _ => true) (refuse stHif w 0) s

/-- A register of ring r of the writer (R496, R497). -/
def writeRing (w : Win) (r i v : Nat) (s : State) : State :=
  match i with
  | 0x0 => writeRingCfg w.fn r v s
  | 0x4 => writeRingField w.fn r (F.HIF_RING_PARAM r) (max 1 (v % 2 ^ 21)) s
  | 0x8 => writeRingField w.fn r (F.HIF_SQ_BASE_LO r) v s
  | 0xC => writeRingField w.fn r (F.HIF_SQ_BASE_HI r) v s
  | 0x10 => opDoorbell w.fn r v s
  | 0x18 => writeRingField w.fn r (F.HIF_CQ_BASE_LO r) v s
  | 0x1C => writeRingField w.fn r (F.HIF_CQ_BASE_HI r) v s
  | 0x20 => if r < pairsOf w.fn then s.wr w.c (F.HIF_CQ_HEAD r) v else s
  | _ => s

def writeHIF (w : Win) (off v : Nat) (s : State) : State :=
  match arrayAt off 0x400 0x40 16 with
  | some (r, i) => writeAtDoor .hif w.fn off (writeRing w r i v) s
  | none =>
    match off with
    | 0x4 => writeEvt .hif 17 w off v s
    | 0x10 => writeAtDoor .hif w.fn off (opLatTol w.fn v) s
    | 0x14 => writeAtDoor .hif w.fn off (writeLtr w.fn v) s
    | 0x80 => hifCmd w v s
    | 0x200 => writeAtDoor .hif w.fn off (writeErCfg w.fn v) s
    | _ => plain .hif w off v (maySec w) s

/-! ### STW, but for STW_CMD -/

def writeSTW (w : Win) (off v : Nat) (s : State) : State :=
  match off with
  | 0x4 => writeEvt .stw 18 w off v s
  | _ => plain .stw w off v (maySec w) s

/-! ### RST and PWR -/

/-- RST_CMD (Table 20.7). -/
def rstCmd (w : Win) (v : Nat) (s : State) : State :=
  match v % 16 with
  | 1 => opColdReset w s
  | 2 => opWarmReset w s
  | 3 => freeBool (fun b s => opOptWrite w b s) s
  | 4 => opClearStuck w s
  | _ => rstCommand w (refuse stRst w 0) s

def writeRST (w : Win) (off v : Nat) (s : State) : State :=
  match off with
  | 0x4 => writeEvt .rst 19 w off v s
  | 0x14 => rstCmd w v s
  | _ => plain .rst w off v (maySec w) s

def pwrCmd (w : Win) (v : Nat) (s : State) : State :=
  match v % 4 with
  | 1 => opPwrEnter w s
  | _ => command .pwr stPwr Ev.PWR_CMD_OVERRUN w (fun s => refuse stPwr w (if s.secureSt w.fn then 0 else 1) s) s

def writePWR (w : Win) (off v : Nat) (s : State) : State :=
  match off with
  | 0x4 => writeEvt .pwr 20 w off v s
  | 0xC => plainThen .pwr w off v (maySec w) (fun s => s.wr 0 F.PWR_STATUS_FORCED (b2n (forcedP0 s))) s
  | 0x18 => pwrCmd w v s
  | _ => plain .pwr w off v (maySec w) s

/-! ### FLT -/

/-- FLT_CMD (Table 21.8). -/
def fltCmd (w : Win) (v : Nat) (s : State) : State :=
  match v % 8 with
  | 1 => opSrcWrite w s
  | 2 => opSrcRead w s
  | 3 => opBlockReset w s
  | 4 => opInject w [] s
  | 5 => opFltLock w s
  | _ => fltCommand w (maySec w) (refuse stFlt w 0) s

/-- FLT_LOG_CFG: LOG2_RECORDS only while EN is 0; EN set clears the indices. -/
def writeLogCfg (w : Win) (v : Nat) (s : State) : State :=
  guarded .flt w 0x10 (maySec w) (fun s =>
    let on := s.sh F.FLT_LOG_CFG_EN == 1
    let log := s.sh F.FLT_LOG_CFG_LOG2_RECORDS
    let t := writeReg .flt 0x10 0 v s
    if on then t.wr 0 F.FLT_LOG_CFG_LOG2_RECORDS log
    else onlyIf (bitOf v 0) (fun t => (t.wr 0 F.FLT_LOG_WR_IDX 0).wr 0 F.FLT_LOG_RD_IDX 0) t) s

def writeFLT (w : Win) (off v : Nat) (s : State) : State :=
  match off with
  | 0x4 => writeEvt .flt 21 w off v s
  | 0xC => plainThen .flt w off v (maySec w) pinFaultN s
  | 0x10 => writeLogCfg w v s
  | 0x14 => lockedReg .flt w off v (maySec w) (fun s => s.sh F.FLT_LOG_CFG_EN == 0) id s
  | 0x4C => fltCmd w v s
  | _ => plain .flt w off v (maySec w) s

/-! ### PMC -/

def pmcCmd (w : Win) (v : Nat) (s : State) : State :=
  match v % 4 with
  | 1 => opSnapshot w (bitOf v 2) s
  | _ => command .pmc stPmc Ev.PMC_CMD_OVERRUN w (refuse stPmc w 0) s

def writePMC (w : Win) (off v : Nat) (s : State) : State :=
  match arrayAt off 0x100 0x20 128 with
  | some (n, i) => if i = 0 ∨ i = 4 ∨ i = 8 then writeWin w.fn n (i / 4) v s else s
  | none =>
    match off with
    | 0x4 => writeEvt .pmc 22 w off v s
    | 0x30 => pmcCmd w v s
    | _ => plain .pmc w off v (maySec w) s

/-! ### MGP -/

/-- A register of a ring of the management port (R593, R599). -/
def writeMgpReg (w : Win) (d i off v : Nat) (s : State) : State :=
  match i with
  | 0x0 => writeMgpRing w.fn d v s
  | 0xC => writeMgpTail w.fn d v s
  | 0x1C => plain .mgp w off v (fun s => s.secureSt w.fn || w.fn == mgpOwner s d) s
  | _ => lockedReg .mgp w off v (maySec w) (fun s => s.sh (F.MGP_RING_CFG_EN d) == 0) (post Ev.MGP_CFG_LOCKED d) s

def writeMGP (w : Win) (off v : Nat) (s : State) : State :=
  match arrayAt off 0x40 0x40 2, arrayAt off 0xC0 0x10 2 with
  | some (d, i), _ => writeMgpReg w d i off v s
  | none, some (d, 0) => writeTsr .mgp off (mgpTsr d) Ev.MGP_AUTH_REFUSED w.fn v s
  | none, some (d, i) => writeTsrReg .mgp (mgpTsr d) w off i v s
  | none, none =>
    match off with
    | 0x4 => writeEvt .mgp 23 w off v s
    | 0xC => writeMgpCfg w.fn v s
    | 0x1C => writeMdio w.fn v s
    | _ => plain .mgp w off v (maySec w) s

end Sys2Proof.Machine
end

