-- ==== Sys2Proof/Machine/BusTime.lean ====
section
/-! DEFINITION. Register writes to TB, BND, REF, SRV, SYN, OUT, TDC and GN (R5 to R11, R80, R88, R124, R160, R190, R214, R250, R639). -/

namespace Sys2Proof.Machine

/-! ### TB -/

/-- A shared register of TB: the writer may write none of its fields, and the write is refused where it would change one (R80). -/
def tbShared (w : Win) (off v : Nat) (s : State) : State :=
  writeAtDoor .tb w.fn off (fun s =>
    if s.secureSt w.fn then writeReg .tb off 0 v s
    else onlyIf (wouldChange s .tb off v (2 ^ 32 - 1)) (refuseWrite .tb w.fn off) s) s

/-- VC_CFG.PARENT of a clock as it reads: a written change that still awaits its tick is the register's value. -/
def parentCfg (v : Vc) : Bool := (v.pendParent.map (·.2)).getD v.par.parentVc0

/-- A write of VC_CFG, which names the clock that the window selects (R61, R66, R80). -/
def writeVcCfg (w : Win) (x : Nat) (s : State) : State :=
  writeAtDoor .tb w.fn 0x108 (fun s =>
    let n := s.rd w.c F.VC_SEL
    let v := s.vc n
    let parent := if n = 0 then false else bitOf x 0
    let auto := if n = 0 then bitOf x 1 else v.stepAuto
    let slew := max 1 (min (bits x 15 17) 100000)
    let parentCh := parent != parentCfg v && n != 0
    let keys := parentCh || auto != v.stepAuto || bits x 4 9 != v.owner
    if !s.secureSt w.fn then
      let own := tenantOf w.fn == v.owner
      let t := onlyIf own (fun s => s.setVc n { v with slewMax := slew }) s
      onlyIf (keys || (!own && slew != v.slewMax)) (refuseWrite .tb w.fn 0x108) t
    else
      let v := { v with slewMax := slew }
      if v.state = .ratified then onlyIf keys (postTo Ev.TB_LOCKED_WRITE w.fn n) (s.setVc n v)
      else
        let pend := if parentCh then some (s.frc + 64, parent) else v.pendParent
        s.setVc n { v with owner := bits x 4 9, stepAuto := auto, pendParent := pend }) s

/-- A write of VC_ADJ_LIMIT of the selected clock. -/
def writeVcLimit (w : Win) (x : Nat) (s : State) : State :=
  writeAtDoor .tb w.fn 0x10C (fun s =>
    let n := s.rd w.c F.VC_SEL
    if s.secureSt w.fn then s.setVc n { s.vc n with adjLimit := x }
    else onlyIf (x != (s.vc n).adjLimit) (refuseWrite .tb w.fn 0x10C) s) s

/-- VC_CMD (Table 2.6). -/
def vcCmd (w : Win) (v : Nat) (s : State) : State :=
  let trig := bitOf v 8
  match v % 16 with
  | 1 => opVcSet w (bitOf v 9) trig s
  | 2 => opVcAbort w s
  | 3 => opVcRate w trig s
  | 4 => opVcAdjust w trig s
  | 5 => opSchedAdd w (bits v 10 2) s
  | 6 => opSchedCancel w (bits v 4 3) s
  | 7 => opSchedClear w s
  | 8 => opVcRetire w trig s
  | 9 => opVcResetClock w s
  | _ => vcCommand w (fun _ => vcRefuse w) s

def writeTB (w : Win) (off v : Nat) (s : State) : State :=
  match off with
  | 0x4 => writeEvt .tb 0 w off v s
  | 0x20 | 0x24 | 0x30 | 0x34 | 0x38 => tbShared w off v s
  | 0x28 => writeCg0Ctrl w.fn (v % 4) (bitOf v 4) (bitOf v 5) s
  | 0x40 => if bitOf v 31 then opCapture w (v % 1024) s else s
  | 0x100 => writeVcSel w (v % 1024) s
  | 0x108 => writeVcCfg w v s
  | 0x10C => writeVcLimit w v s
  | 0x178 => vcCmd w v s
  | _ => plain .tb w off v (maySec w) s

/-! ### BND -/

/-- May a function write the CG0 terms (R88)? -/
def bndTermMay (w : Win) (s : State) : Bool := if s.sh F.BND_CTRL = 0 then w.fn == stewardFn else s.secure w.fn

def writeBND (w : Win) (off v : Nat) (s : State) : State :=
  match off with
  | 0x4 => writeEvt .bnd 1 w off v s
  | 0x10 | 0x14 | 0x18 | 0x1C | 0x20 | 0x24 | 0x28 | 0x2C | 0x30 => plain .bnd w off v (bndTermMay w) s
  | 0x34 => plain .bnd w off (max (v % 2 ^ 16) 0x100) (bndTermMay w) s
  | 0xC | 0x38 | 0x40 | 0x44 => plainThen .bnd w off v (maySecure w) syncBound s
  | 0x9C => if bitOf v 31 then opTokStart w s else s
  | _ =>
    if 0x1000 ≤ off then plainThen .bnd w off v (fun s => s.secureSt w.fn || tenantOf w.fn == (s.vc ((off - 0x1000) / 4)).owner) syncBound s
    else if off = 0x104 ∨ off = 0x108 then guarded .bnd w off (maySec w) id s
    else plain .bnd w off v (maySec w) s

/-! ### REF -/

/-- A write of a register of REF, after which QRs, bounds and selections follow (R123). -/
def refThen (w : Win) (off v : Nat) (s : State) : State :=
  plainThen .refs w off v (maySec w) (fun s =>
    evalSels (syncRefStatus (each (List.range 29) (fun n s => syncSlotBound n (updateQr n s)) s))) s

def writeREF (w : Win) (off v : Nat) (s : State) : State :=
  match arrayAt off 0x400 0x40 32 with
  | some (n, 0) => writeRefCfg w.fn n v s
  | some (n, _) => if n < 29 then refThen w off v s else guarded .refs w off (maySec w) id s
  | none =>
    if off = 0x4 then writeEvt .refs 2 w off v s
    else if off = 0xC ∨ (0x200 ≤ off ∧ off < 0x2C0) then refThen w off v s
    else plain .refs w off v (maySec w) s

/-! ### SRV -/

/-- SRV_CMD (R161). -/
def srvCmd (w : Win) (v : Nat) (s : State) : State :=
  match v % 16 with
  | 1 => opPhaseStep w s
  | 2 => opAcceptOffset w s
  | 3 => opNougatReset w s
  | 4 => freeBool (opAtomTuneNow w) s
  | _ => command .srv stSrv Ev.SRV_CMD_OVERRUN w (refuse stSrv w 0) s

def writeSRV (w : Win) (off v : Nat) (s : State) : State :=
  match off with
  | 0x4 => writeEvt .srv 3 w off v s
  | 0xC => writeSrvCtrl w.fn v s
  | 0x68 => srvCmd w v s
  | 0x80 => writeHoCfg w.fn v s
  | 0x218 | 0x21C | 0x238 | 0x23C | 0x258 | 0x25C | 0x278 | 0x27C | 0x298 | 0x29C =>
    lockedReg .srv w off v (maySec w) (fun s => s.sh (F.SRV_OD_CFG_MODE ((off - 0x200) / 0x20 + 1)) == 0) id s
  | 0xEC | 0xF0 | 0xF4 | 0xFC | 0x100 | 0x104 | 0x108 | 0x10C => plain .srv w off v (maySecure w) s
  | _ => plain .srv w off v (maySec w) s

/-! ### SYN and OUT -/

/-- Fields of one register under a commit group: an SH field as a shadow, the others at once (R167). -/
def writeGrouped (b : Blk) (off v g : Nat) (s : State) : State :=
  match regAt b off with
  | some r => each r.flds (fun f s =>
      if f.acc == .sh then writeShadow g (f.at b off) (f.stores (bits v f.lo f.w)) s else writeFld b off 0 v f s) s
  | none => s

def grouped (b : Blk) (w : Win) (off v g : Nat) (s : State) : State := guarded b w off (maySec w) (writeGrouped b off v g) s

def memoOp (w : Win) (v : Nat) (s : State) : State :=
  match v % 4 with
  | 1 => memoCmd w memoPin s
  | 2 => memoCmd w memoUnpin s
  | 3 => memoCmd w memoInvalidate s
  | _ => s

/-- The commit group, less 6, of the shadows of a SYN register that a write of a value leaves; none for a register without SH fields. -/
def synGroup (off v : Nat) (s : State) : Option Nat :=
  match arrayAt off 0x200 0x20 6 with
  | some (_, 0) => some (bits v 4 3)
  | some (k, _) => some (s.sh (F.SYN_S_CFG_GROUP k))
  | none => none

def writeSYN (w : Win) (off v : Nat) (s : State) : State :=
  match arrayAt off 0x100 0x10 8, synGroup off v s with
  | some (g, 0), _ => writeCgCtrl w.fn (6 + g) v s
  | none, some g => grouped .syn w off v g s
  | _, _ =>
    if off = 0x4 then writeEvt .syn 4 w off v s
    else if off = 0x300 then writeMemoSel w v s
    else if off = 0x314 then memoOp w v s
    else plain .syn w off v (maySec w) s

/-- D below 7 stores 7 (R172): the pair as it stands after a write of one half. -/
def clampDiv (n : Nat) (s : State) : State :=
  if s.sh (F.OUT_CLK_DIV_HI n) = 0 ∧ s.sh (F.OUT_CLK_DIV_LO n) < 7 then
    writeShadow (s.sh (F.OUT_CLK_CFG_GROUP n)) (F.OUT_CLK_DIV_LO n) 7 s
  else s

/-- As `synGroup`, for OUT. -/
def outGroup (off v : Nat) (s : State) : Option Nat :=
  match arrayAt off 0x100 0x10 20, arrayAt off 0x400 0x40 8 with
  | some (_, 0), _ => some (bits v 9 3)
  | some (n, _), _ => some (s.sh (F.OUT_CLK_CFG_GROUP n))
  | none, some (_, 0) => some (bits v 18 3)
  | none, some (n, _) => some (s.sh (F.OUT_PO_CFG_GROUP n))
  | none, none => none

def writeOUT (w : Win) (off v : Nat) (s : State) : State :=
  match outGroup off v s with
  | some g => (match arrayAt off 0x100 0x10 20 with
    | some (n, i) => guarded .out w off (maySec w) (fun s => onlyIf (i == 4 || i == 8) (clampDiv n) (writeGrouped .out off v g s)) s
    | none => grouped .out w off v g s)
  | none => if off = 0x4 then writeEvt .out 5 w off v s else plain .out w off v (maySec w) s

/-! ### TDC -/

/-- A register of a channel other than CFG (R203, R214). -/
def writeChReg (w : Win) (n off v : Nat) (s : State) : State :=
  let may := fun s => tdcMay s n w.fn
  match off - 0x100 - 0x40 * n with
  | 0x4 | 0x8 => lockedReg .tdc w off v may (fun s => chState s n == 0) (post Ev.TDC_CFG_LOCKED n) s
  | 0x10 => plainThen .tdc w off v may (syncFull n) s
  | _ => plain .tdc w off v may s

def gateCtrl (w : Win) (g v : Nat) (s : State) : State :=
  if bitOf v 1 then writeTdcGate w.fn g false s else if bitOf v 0 then writeTdcGate w.fn g true s else guarded .tdc w (0x604 + 0x20 * g) (maySec w) id s

def writeTDC (w : Win) (off v : Nat) (s : State) : State :=
  match arrayAt off 0x100 0x40 16, arrayAt off 0x600 0x20 4 with
  | some (n, 0), _ => writeChCfg w.fn n v s
  | some (n, _), _ => writeChReg w n off v s
  | none, some (g, 4) => gateCtrl w g v s
  | _, _ =>
    if off = 0x4 then writeEvt .tdc 6 w off v s
    else if off = 0x10 then (if bitOf v 31 then writeCalCmd w.fn (v % 32) s else guarded .tdc w off (maySec w) id s)
    else plain .tdc w off v (maySec w) s

/-! ### GN -/

/-- A write of GN_CTRL: with EN the monitor's first pass falls due a period later; with SOLVE 0 the solution is off (R242, R256). -/
def writeGnCtrl (w : Win) (v : Nat) (s : State) : State :=
  guarded .gn w 0xC (maySec w) (fun s =>
    let t := writeReg .gn 0xC 0 v s
    let due := bitOf v 0 && s.sh F.GN_CTRL_EN == 0
    let t := onlyIf due (fun t => { t with gn := { t.gn with spDue := t.frc + t.sh F.GN_SP_CFG_SP_PERIOD_S * ticksPerSec } }) t
    onlyIf (!bitOf v 5) (setSolState 0) t) s

/-- A write of GN_SP_CFG. -/
def writeSpCfg (w : Win) (v : Nat) (s : State) : State :=
  guarded .gn w 0x190 (maySec w) (fun s =>
    let t := writeReg .gn 0x190 0 v s
    onlyIf (bitOf v 0 && s.sh F.GN_SP_CFG_SP_EN == 0)
      (fun t => { t with gn := { t.gn with spDue := t.frc + t.sh F.GN_SP_CFG_SP_PERIOD_S * ticksPerSec } }) t) s

/-- A write of GN_SOL_CFG: a survey begins with MODE 1. -/
def writeSolCfg (w : Win) (v : Nat) (s : State) : State :=
  guarded .gn w 0x100 (maySec w) (fun s =>
    let was := s.sh F.GN_SOL_CFG_MODE
    let t := writeReg .gn 0x100 0 v s
    onlyIf (bitOf v 0 && was == 0) (fun t => { t with gn := { t.gn with surveyAt := none } }) t) s

/-- A ring or dump base: only while EN is 0, and only in the steward data region (Table 8.9). -/
def writeGnBase (w : Win) (off v size : Nat) (s : State) : State :=
  guarded .gn w off (maySec w) (fun s =>
    if s.sh F.GN_CTRL_EN = 0 ∧ inRegion s 6 v size = true then writeReg .gn off 0 v s else s) s

/-- GN_ACQ_ARG0: signals 2 to 7 are searched with N_COH 1 (Table 8.10). -/
def acqArg0 (v : Nat) : Nat := if 2 ≤ v % 8 then v - bits v 4 4 * 16 + 16 else v

/-- A register of a tracking channel (R250, Table 8.12). -/
def writeGnChan (w : Win) (c off v : Nat) (s : State) : State :=
  let i := off - 0x1000 - 0x40 * c
  if i = 0 then
    lockedReg .gn w off v (maySec w) (fun s => gnState s c == gnIDLE || gnState s c == gnLOST) (post Ev.GN_CFG_LOCKED c) s
  else if i = 0x30 then writeUpdCtrl w.fn c v s
  else if 0x10 ≤ i ∧ i ≤ 0x2C then plain .gn w off v (fun s => updMay s w.fn c) s
  else plain .gn w off v (maySec w) s

def writeGN (w : Win) (off v : Nat) (s : State) : State :=
  match off with
  | 0x4 => writeEvt .gn 7 w off v s
  | 0x188 => writeEvt .gn 24 w off v s
  | 0xC => writeGnCtrl w v s
  | 0x10 => writeGnBase w off v 0x30000 s
  | 0x14 => writeGnBase w off v 0x40000 s
  | 0x20 => writeGnBase w off v 0x2000 s
  | 0x40 => writeGnPortCfg w.fn 0 v s
  | 0x60 => writeGnPortCfg w.fn 1 v s
  | 0x44 | 0x48 => lockedReg .gn w off v (maySec w) (fun s => s.sh (F.GN_PORT_CFG_EN 0) == 0) (post Ev.GN_CFG_LOCKED 0) s
  | 0x64 | 0x68 => lockedReg .gn w off v (maySec w) (fun s => s.sh (F.GN_PORT_CFG_EN 1) == 0) (post Ev.GN_CFG_LOCKED 1) s
  | 0x80 => plain .gn w off (acqArg0 v) (maySec w) s
  | 0x94 => opGnAcq w (v % 4) s
  | 0xAC =>
    let (x, s) := s.free 44
    writeSsCmd w.fn (bitOf v 0) (bitOf v 1) (x % 2 ^ 12) (bits x 12 16) (bits x 28 16) s
  | 0xDC => opGnCh w (v % 16) s
  | 0x100 => writeSolCfg w v s
  | 0x190 => writeSpCfg w v s
  | 0x1C0 => writePpsCfg w.fn v s
  | 0x1F4 => if bitOf v 0 then writePpsCommit w.fn s else guarded .gn w off (maySec w) id s
  | 0x200 => writeAudCfg w.fn v s
  | 0x290 => writeSnapCtrl w.fn (bitOf v 0) (bitOf v 1) s
  | _ => match arrayAt off 0x1000 0x40 192 with
    | some (c, _) => writeGnChan w c off v s
    | none => plain .gn w off v (maySec w) s

end Sys2Proof.Machine
end

