-- ==== Sys2Proof/Machine/Bus.lean ====
section
/-! DEFINITION. The register bus as a whole: writes by block and offset, what a read returns, and who may read (R46, R82, R601 to R608). -/

namespace Sys2Proof.Machine

/-- A write to a register of a block, but for STW_CMD; an offset that the block's map does not list ignores it (R603). -/
def regWrite (w : Win) (b : Blk) (off v : Nat) (s : State) : State :=
  if (regAt b off).isNone then s
  else match b with
    | .tb => writeTB w off v s
    | .bnd => writeBND w off v s
    | .refs => writeREF w off v s
    | .srv => writeSRV w off v s
    | .syn => writeSYN w off v s
    | .out => writeOUT w off v s
    | .tdc => writeTDC w off v s
    | .gn => writeGN w off v s
    | .prt => writePRT w off v s
    | .sve => writeSVE w off v s
    | .sec => writeSEC w off v s
    | .sch => writeSCH w off v s
    | .pol => writePOL w off v s
    | .ks => writeKS w off v s
    | .shm => writeSHM w off v s
    | .ubw => writeUBW w off v s
    | .mate => writeMATE w off v s
    | .hif => writeHIF w off v s
    | .stw => writeSTW w off v s
    | .rst => writeRST w off v s
    | .pwr => writePWR w off v s
    | .flt => writeFLT w off v s
    | .pmc => writePMC w off v s
    | .mgp => writeMGP w off v s

/-! ### What a read returns -/

/-- VC_STATE of a clock (Table 2.15). -/
def vcStateWord (v : Vc) : Nat :=
  vcCode v.state + 4 * b2n (v.par.pAdj != 0) + 8 * b2n (v.par.pRamp != 0) + 16 * b2n v.leapUntil.isSome +
    32 * b2n v.par.rateSat + 256 * uns 8 v.leapNet +
    2 ^ 16 * (v.slots.filter fun e => e.2.state == 1).length

/-- VC_CFG of a clock. -/
def vcCfgWord (n : Nat) (v : Vc) : Nat :=
  (if n = 0 then 2 * b2n v.stepAuto else b2n (parentCfg v)) + 16 * v.owner + 2 ^ 15 * v.slewMax

/-- HIF_FN_INFO of a function (R488, R489). -/
def fnInfo (s : State) (fn : Nat) : Nat :=
  fn + 2 ^ 16 * tenantOf fn + 2 ^ 25 * b2n (s.secureSt fn) + 2 ^ 26 * b2n (decide (2 ≤ fn) && decide (fn ≤ 512))

/-- Word i of an octet string whose octet 4i is in bits [31:24]. -/
def beWord (o : Octets) (i : Nat) : Nat := ofBe (slice o (4 * i) 4)

/-- A tenant's counters and limit as its window shows them (R333). -/
def tenWord (x : SveTen) (off : Nat) : Nat :=
  match off with
  | 0x1A4 => x.max
  | 0x1A8 => x.load
  | 0x1AC => x.red
  | 0x1B0 => x.full
  | 0x1B4 => x.kod
  | _ => x.refused

/-- The value of a register as a window's function reads it: the flags of its own EVT_STATUS, the registers that a select register
chooses, constants of the device, and otherwise the stored fields. -/
def readValue (w : Win) (b : Blk) (off : Nat) (s : State) : Nat :=
  let clock := s.rd w.c F.VC_SEL
  let mayVc := vcReadable s clock w.fn
  let ten := s.rd w.c F.SVE_TEN_SEL
  let map := s.rd w.c F.SCH_TEN_SEL
  let plainRead := match regAt b off with
    | some r => regValue s b off (if r.perFn then w.c else 0)
    | none => 0
  if off = 4 then s.evStatus w.c b.code
  else match b with
    | .tb =>
      if off = 0x104 then (if mayVc then vcStateWord (s.vc clock) else 0)
      else if off = 0x108 then (if mayVc then vcCfgWord clock (s.vc clock) else 0)
      else if off = 0x10C then (if mayVc then (s.vc clock).adjLimit else 0)
      else plainRead
    | .bnd => match arrayAt off 0x100 0x10 24 with
      | some (p, 0xC) => calAgeMs s p s.frc
      | _ => plainRead
    | .gn => if off = 0x188 then s.evStatus w.c 24 else plainRead
    | .sve =>
      if 0x1A4 ≤ off ∧ off ≤ 0x1B8 then (if s.secureSt w.fn || tenantOf w.fn == ten then tenWord (s.ten ten) off else 0) else plainRead
    | .sch =>
      if off = 0x44 then (if s.secureSt w.fn || tenantOf w.fn == map then tgetD s.sch.qbase map 0 else 0)
      else if off = 0xC4 then
        (if tenant0 w.fn then
          let e := gateEntry s (s.rd w.c F.SCH_GATE_SEL_PORT) (s.rd w.c F.SCH_GATE_SEL_BANK) (s.rd w.c F.SCH_GATE_SEL_ENTRY)
          e.1 + 256 * e.2
        else 0)
      else plainRead
    | .ks => if off = 0x28 then Config.serial.toNat % 2 ^ 32 else if off = 0x2C then Config.serial.toNat / 2 ^ 32 else plainRead
    | .hif => if off = 0xC then fnInfo s w.fn else plainRead
    | .stw =>
      if off = 0xC then Config.romId.toNat
      else if 0x80 ≤ off ∧ off < 0xB0 then beWord (beBytes 48 Config.romDigest.toNat) ((off - 0x80) / 4)
      else plainRead
    | _ => plainRead

/-- What a read does to the state: the latches of R47, R82, R580 and R582. -/
def readEffect (w : Win) (b : Blk) (off : Nat) (s : State) : State :=
  match b, off with
  | .tb, 0x10 => readFrcLo w.c s
  | .tb, 0x110 => readVcBase0 w s
  | .pmc, 0x14 => readCntLo w.c s
  | .pmc, _ => (match arrayAt off 0x100 0x20 128 with
    | some (n, 0xC) => readWinLo w.fn n s
    | _ => s)
  | _, _ => s

/-- A read of a register. -/
def busRead (w : Win) (b : Blk) (off : Nat) (s : State) : Nat × State :=
  let t := readEffect w b off s
  (readValue w b off t, t)

/-! ### Who may read (R605, R606) -/

/-- Reach of a VF of tenant t in a block (Table 24.4). -/
def vfMayRead (s : State) (fn : Nat) (b : Blk) (off : Nat) : Bool :=
  let t := tenantOf fn
  match b with
  | .tb | .bnd | .refs | .srv | .syn | .out | .gn | .ubw | .mate | .pmc => true
  | .tdc => off == 0 || off == 0xC || decide (0x800 ≤ off) || (match arrayAt off 0x100 0x40 16 with
    | some (n, _) => s.sh (F.TDC_CH_CFG_OWNER n) == t
    | none => false)
  | .prt => off == 0 || (match arrayAt off 0x100 0x40 16 with
    | some (n, i) => i == 8 || (match arrayAt i 0x20 0x10 2 with
      | some (d, _) => s.sh (F.PRT_TSR_CFG_OWNER n d) == t
      | none => false)
    | none => decide (0x640 ≤ off))
  | .mgp => off == 0 || (match arrayAt off 0x40 0x40 2, arrayAt off 0xC0 0x10 2 with
    | some (d, _), _ => s.sh (F.MGP_RING_CFG_OWNER d) == fn
    | none, some (d, _) => s.sh (F.MGP_TSR_CFG_OWNER d) == t
    | none, none => false)
  | .hif => off == 0 || off == 0x18
  | .stw => off == 0 || off == 0xC || (decide (0x10 ≤ off) && decide (off ≤ 0x1C)) || (decide (0x40 ≤ off) && decide (off < 0xB0))
  | .sve | .sec | .sch | .pol | .ks | .shm | .rst | .pwr | .flt => false

/-- May a function read a register? Its own copies always; the PFs and the steward every register; an offset that no map lists reads as 0. -/
def mayRead (s : State) (fn : Nat) (b : Blk) (off : Nat) : Bool :=
  match regAt b off with
  | none => true
  | some r => r.perFn || tenant0 fn || vfMayRead s fn b off

/-- MMIO_READ_REFUSED: a read of a register outside the function's reach returns 0, has no side effect and is reported (R607). -/
def mmioReadRefused (fn a : Nat) (s : State) : State :=
  if a % 4 ≠ 0 ∨ fn = stewardFn then s
  else match Blk.ofCode (a / 0x4000) with
    | none => s
    | some b => if mayRead s fn b (a % 0x4000) then s else protFault fn Code.refused a (mmioDone fn (zeros 4) false s)

def execMmioReadRefused (fn : Fn) (addr : BitVec 19) (s : State) : Host.Outcome State Fault Refusal :=
  .next (mmioReadRefused fn.val addr.toNat s)

end Sys2Proof.Machine
end

