-- ==== Sys2Proof/Machine/Commit.lean ====
section
/-! DEFINITION. The commit of a group at its instant (R25 to R30, R63, R87, R125, R163, R167, R285, R416). -/

namespace Sys2Proof.Machine

/-- CG0: the ledger terms and r0 take effect, and VC0 is rebased; members of BND are discarded while its door is not OPEN. -/
def commitCg0 (tick : Nat) (s : State) : State :=
  let part := s.fenced .bnd
  let t := if part then dropShadows (cg0Fields.filter fun f => f.blk == .bnd) s else s
  let t := { t with bnd := { t.bnd with prev := some (tick, bndNow t) } }
  let t := ((dropArm 0 (commitShadows cg0Fields t)).wr 0 F.TB_CG0_CTRL_ARM 0).wr 0 F.TB_CG0_CTRL_ARMED 0
  let v := rebase s 0 tick
  let t := postRateSat 0 tick ((childLeaps 0 tick t).setVc 0 { v with par := { v.par with r := r0Now t } })
  let t := each [1, 2, 3, 4, 5] (fun k t =>
    onlyIf (t.sh (F.SRV_OD_CFG_ENABLE k) == 1 && t.sh (F.SRV_OD_CFG_MODE k) == 1) (synRate k tick (odRateNow t k)) t) (srvCg0Commit tick t)
  syncBound (postAt Ev.TB_CG0_COMMIT tick 0 (oct [0, b2n part]) t)

/-- CGk, k = 1 to 5: the rate word of Sk. -/
def commitOd (k tick : Nat) (s : State) : State :=
  let t := srvOdCommit k tick (dropArm k (commitShadows [F.SRV_OD_RATE_LO k, F.SRV_OD_RATE_HI k] s))
  synRate k tick (odRateNow t k) t

/-- CG14 or CG15. -/
def commitPorts (r : CgRef) (ev : EvRef) (tick : Nat) (s : State) : State :=
  postAt ev tick r.g (oct [r.g, 0]) (((dropArm r.g (commitShadows r.fields s)).wr 0 r.arm 0).wr 0 r.armed 0)

/-- The commit of a group at a tick. -/
def commitGroup (g tick : Nat) (s : State) : State :=
  if g = 0 then commitCg0 tick s
  else if g < 6 then commitOd g tick s
  else if g < 14 then synCommit g tick s
  else if g = 14 then commitPorts cg14 Ev.PRT_CG_COMMIT tick s
  else commitPorts cg15 Ev.UBW_CG_COMMIT tick s

/-- Is a tick the BLOCK_BOUNDARY of a group's arm (R63, R168, R285, R416)? For CG0, CG14 and CG15 the arm holds it. -/
def boundaryOf (s : State) (g from_ tick : Nat) : Bool :=
  if 6 ≤ g ∧ g < 14 then isBoundary s (s.sh (F.SYN_CG_CTRL_BOUNDARY_OUT g)) from_ tick else tick == from_

/-- GROUP_COMMIT: due at the commit instant of an armed group's trigger. -/
def groupCommit (g tick : Nat) (s : State) : State :=
  match tget s.cgs g with
  | none => s
  | some a => if tick ≤ s.frc ∧ isCommitTick s a tick (boundaryOf s g a.tick) = true ∧ g < 16 then commitGroup g tick s else s

def execGroupCommit (group : Fin 64) (tick : BitVec 64) (s : State) : Host.Outcome State Fault Refusal :=
  .next (groupCommit group.val tick.toNat s)

end Sys2Proof.Machine
end

