-- ==== Sys2Proof/Machine/Record.lean ====
section
/-! DEFINITION. Command records: the layout of Table 18.4, its checks, and how one is run on a register instance (R499 to R501, Table 18.8). -/

namespace Sys2Proof.Machine

def stStw : StatRef := ⟨F.STW_CMD_STATUS_CODE, F.STW_CMD_STATUS_BUSY, some F.STW_CMD_STATUS_CAUSE⟩

/-- The command registers of Table 18.8 with the rows that the chapters on STW, FLT and PMC add, and their status; TB_CAP_CTRL has none. -/
def cmdReg (b : Blk) (off : Nat) : Option (Option StatRef) :=
  match b, off with
  | .tb, 0x40 => some none
  | .tb, 0x178 => some (some stVc)
  | .bnd, 0x9C => some (some stTok)
  | .srv, 0x68 => some (some stSrv)
  | .gn, 0x94 => some (some stAcq)
  | .gn, 0xDC => some (some stGnCh)
  | .sve, 0x124 => some (some stCls)
  | .sve, 0x184 => some (some stCtx)
  | .sec, 0x11C => some (some stSa)
  | .sec, 0x214 => some (some stNts)
  | .sch, 0x98 => some (some stQ)
  | .pol, 0x58 => some (some stPol)
  | .ks, 0x218 => some (some stKs)
  | .shm, 0x48 => some (some stCt)
  | .shm, 0x6C => some (some stAtom)
  | .hif, 0x80 => some (some stHif)
  | .stw, 0x110 => some (some stStw)
  | .flt, 0x4C => some (some stFlt)
  | .pmc, 0x30 => some (some stPmc)
  | _, _ => none

/-! ### Fields of a command record -/

def recTag (o : Octets) : Nat := ofLe (slice o 0 2)
def recBlk (o : Octets) : Option Blk := Blk.ofCode (byteAt o 2)
def recOrdered (o : Octets) : Bool := bitOf (byteAt o 3) 0
def recIrq (o : Octets) : Bool := bitOf (byteAt o 3) 1
def recSel (o : Octets) : Nat := ofLe (slice o 4 2)
def recCmd (o : Octets) : Nat := ofLe (slice o 6 2)
def recResult (o : Octets) : List Nat := (List.range (byteAt o 24)).map fun i => ofLe (slice o 22 2) + 4 * i

/-- Offsets and values of ranges A and B, in order. -/
def recWrites (o : Octets) : List (Nat × Nat) :=
  let a := byteAt o 18
  let word (i : Nat) := ofLe (slice o (32 + 4 * i) 4)
  ((List.range a).map fun i => (ofLe (slice o 16 2) + 4 * i, word i)) ++
    (List.range (byteAt o 19)).map fun i => (ofLe (slice o 20 2) + 4 * i, word (a + i))

/-- Is an offset an event register of a block? -/
def isEvtReg (b : Blk) (off : Nat) : Bool := off == 4 || off == 8 || (b == .gn && (off == 0x188 || off == 0x18C))

/-- May a range of a record name an offset (R500)? -/
def rangeOk (b : Blk) (cmd off : Nat) : Bool :=
  ((regAt b off).map (·.perFn)).getD false && !isEvtReg b off && off != cmd

/-- The checks of R500. -/
def recOk (o : Octets) : Bool :=
  match recBlk o with
  | none => false
  | some b =>
    (cmdReg b (recCmd o)).isSome && byteAt o 18 + byteAt o 19 ≤ 24 && byteAt o 24 ≤ 28 && (slice o 25 7).all (· == 0) &&
      (recSel o == 0xFFFF || rangeOk b (recCmd o) (recSel o)) &&
      (recWrites o).all (fun x => rangeOk b (recCmd o) x.1) && (recResult o).all (rangeOk b (recCmd o))

/-- Every field of a register instance at its reset value. -/
def clearCopy (c : Nat) (s : State) : State := { s with regs := tfilter (fun k _ => k / 2 ^ 24 != c) s.regs }

/-- A write into an instance: the HIF's own registers, but for its command register, are private to the instance (R501). -/
def instWrite (wr : Win → Blk → Nat → Nat → State → State) (w : Win) (b : Blk) (off v : Nat) (s : State) : State :=
  if b = .hif ∧ off ≠ 0x80 then writeReg .hif off w.c v s else wr w b off v s

/-- Run a record on an instance: the select register, ranges A and B, and the command register (R501). -/
def runRecord (wr : Win → Blk → Nat → Nat → State → State) (w : Win) (b : Blk) (o : Octets) (s : State) : State :=
  let s := if recSel o = 0xFFFF then s else instWrite wr w b (recSel o) (ofLe (slice o 8 4)) s
  let s := each (recWrites o) (fun x s => instWrite wr w b x.1 x.2 s) s
  instWrite wr w b (recCmd o) (ofLe (slice o 12 4)) s

/-- How the command of a command register, written through a window, has completed, code and cause; none while it is in progress. A refused capture
completes with REFUSED (R80). -/
def outcomeAt (w : Win) (b : Blk) (off : Nat) (s : State) : Option (Nat × Nat) :=
  match cmdReg b off with
  | some (some st) =>
    if s.rd w.c st.busy == 1 then none
    else
      let code := s.rd w.c st.code
      some (code, if code = Code.refused then (match st.cause with
        | some f => s.rd w.c f
        | none => 0) else 0)
  | _ => some (if s.rd w.c F.TB_CAP_STATUS_REFUSED = 1 then Code.refused else Code.ok, 0)

/-- How a record's command has completed. -/
def recOutcome (w : Win) (b : Blk) (o : Octets) (s : State) : Option (Nat × Nat) := outcomeAt w b (recCmd o) s

end Sys2Proof.Machine
end

