-- ==== Sys2Proof/Machine/Image.lean ====
section
/-! DEFINITION. Santitil images: their layout, their records, and what a record does when the steward applies it (R523 to R527). -/

namespace Sys2Proof.Machine

/-! ### Layout (Tables 19.2 and 19.3) -/

/-- One section: its type, and its records as far as they can be told apart; `whole` if they fill the section. -/
structure Sect where
  typ : Nat
  off : Nat
  len : Nat
  count : Nat
  recs : List Octets
  whole : Bool
  deriving DecidableEq, Repr

/-- A failed check: the cause of Table 19.5, and the section and record for STW_FAIL. -/
structure ImgFail where
  cause : Nat
  sect : Nat := 0
  idx : Nat := 0
  deriving DecidableEq, Repr

/-! The causes of STW_CMD_STATUS. -/
namespace StwCause
def format : Nat := 1
def key : Nat := 2
def signature : Nat := 3
def svn : Nat := 4
def rom : Nat := 5
def record : Nat := 6
def region : Nat := 7
def contract : Nat := 8
def vcLocked : Nat := 9
def saLoaded : Nat := 10
def busy : Nat := 11
def flash : Nat := 12
def late : Nat := 13
def authority : Nat := 14
end StwCause

def imgMax : Nat := 7340032
def imgTotal (o : Octets) : Nat := ofLe (slice o 8 4)
def imgBody (o : Octets) : Nat := ofLe (slice o 12 4)
def imgId (o : Octets) : Nat := ofLe (slice o 16 8)
def imgSeq (o : Octets) : Nat := ofLe (slice o 24 4)
def imgSvn (o : Octets) : Nat := ofLe (slice o 28 2)
def imgSects (o : Octets) : Nat := ofLe (slice o 30 2)
def imgRom (o : Octets) : Nat := ofLe (slice o 32 4)
def imgKeys (o : Octets) : Octets := slice o 64 2049
def bodyOf (o : Octets) : Octets := o.take (imgBody o)
def keyDigestOf (o : Octets) : Octets := beBytes 48 (Config.sha384 (imgKeys o)).toNat
def imgDigestOf (o : Octets) : Octets := beBytes 48 (Config.sha384 (bodyOf o)).toNat

def zeroAt (o : Octets) (a n : Nat) : Bool := (slice o a n).all (· == 0)

/-- Is the header's magic right and are its lengths sane (R530)? -/
def imgSane (o : Octets) : Bool :=
  o.take 4 == oct [0x4C, 0x56, 0x53, 0x54] && imgTotal o == imgBody o + 3409 && decide (imgTotal o ≤ imgMax) && imgBody o % 4 == 0

/-- The records of a section, each cut off by its length. -/
def splitRecs : Nat → Octets → List Octets × Bool
  | 0, o => ([], o.isEmpty)
  | n + 1, o =>
    if o.isEmpty then ([], true)
    else
      let len := ofLe (slice o 2 2)
      if len < 4 ∨ len % 4 ≠ 0 ∨ o.length < len then ([], false)
      else
        let r := splitRecs n (o.drop len)
        (o.take len :: r.1, r.2)

/-- The sections of the directory. -/
def sectsOf (o : Octets) : List Sect :=
  (List.range (imgSects o)).map fun i =>
    let e := slice o (2176 + 16 * i) 16
    let off := ofLe (slice e 4 4)
    let len := ofLe (slice e 8 4)
    let r := splitRecs (len / 4) (slice o off len)
    { typ := ofLe (slice e 0 2), off := off, len := len, count := ofLe (slice e 12 4), recs := r.1, whole := r.2 }

/-- The section of a type. -/
def sectOf (o : Octets) (typ : Nat) : Option Sect := (sectsOf o).find? fun x => x.typ == typ

/-- Header, directory and signature lengths (R523). -/
def frameOk (o : Octets) : Bool :=
  let n := imgSects o
  let ss := sectsOf o
  imgSane o && o.length == imgTotal o && byteAt o 4 == 1 && zeroAt o 5 3 && decide (imgSvn o ≤ 64) && decide (n ≤ 9) && zeroAt o 36 28 &&
    zeroAt o 2113 63 && decide (2176 + 16 * n ≤ imgBody o) &&
    ((List.range n).all fun i => zeroAt o (2176 + 16 * i + 2) 2) &&
    (ss.all fun x => decide (1 ≤ x.typ) && decide (x.typ ≤ 9) && x.off % 4 == 0 && decide (x.off + x.len ≤ imgBody o)) &&
    ((ss.zip ss.tail).all fun e => decide (e.1.typ < e.2.typ)) &&
    (ss.all fun x => ss.all fun y => x.typ == y.typ || decide (x.off + x.len ≤ y.off) || decide (y.off + y.len ≤ x.off)) &&
    ofLe (slice o (imgBody o) 2) == 96 && ofLe (slice o (imgBody o + 98) 2) == 3309

def recKind (r : Octets) : Nat := byteAt r 0

/-- Length and reserved zeros of a record (Table 19.3). -/
def recShape (r : Octets) : Bool :=
  byteAt r 1 == 0 && (match recKind r with
    | 1 => r.length == 16 && zeroAt r 5 1
    | 2 => r.length == 132
    | 3 => r.length == 16 && zeroAt r 5 3
    | 4 => r.length == 12 && zeroAt r 5 1 && zeroAt r 10 2
    | 5 => r.length == 8
    | 6 => r.length == 40 && zeroAt r 6 2
    | 7 =>
      let n := ofLe (slice r 6 2)
      decide (4 ≤ n) && decide (n ≤ 4096) && r.length == 4 * ceilDiv (8 + n) 4
    | _ => true)

/-- The first record of a list that fails a test, by index. -/
def firstBad (p : Octets → Bool) (l : List Octets) : Option Nat := l.findIdx? fun r => !p r

/-- Check 1. -/
def checkFormat (o : Octets) : Option ImgFail :=
  if frameOk o then
    (sectsOf o).findSome? fun x =>
      match firstBad recShape x.recs with
      | some i => some ⟨StwCause.format, x.typ, i⟩
      | none => if x.whole && x.recs.length == x.count then none else some ⟨StwCause.format, x.typ, x.recs.length⟩
  else some { cause := StwCause.format }

/-- Check 2. -/
def keyOk (o : Octets) (s : State) : Bool :=
  let d := keyDigestOf o
  let l := s.sh F.KS_LIFECYCLE_STATE
  ((List.range 4).any fun i => authEntry s i != zeros 48 && authEntry s i == d) ||
    (d == beBytes 48 Config.imageKey.toNat && (s.sh F.KS_LIFECYCLE_AUTH_LOCKED == 0 || l == 0 || l == 3))

/-- Check 3. -/
def signedOk (o : Octets) : Bool :=
  let n := imgBody o
  Config.ecdsaOk ((imgKeys o).take 97) (bodyOf o) (slice o (n + 2) 96) &&
    Config.mldsaOk ((imgKeys o).drop 97) ("LVK7260-SANTITIL".toList.map fun c => BitVec.ofNat 8 c.toNat) (bodyOf o) (slice o (n + 100) 3309)

/-- Check 5. -/
def romOk (o : Octets) : Bool := imgRom o == Config.romId.toNat || (imgRom o == 0 && (sectOf o 9).isNone)

/-! ### Records (R524) -/

/-- Kinds and blocks of a section type (Table 19.4). -/
def sectKinds (typ : Nat) : List Nat :=
  match typ with
  | 1 => [3, 4, 5]
  | 2 => [6]
  | 7 | 8 => [1, 2]
  | 9 => [7]
  | _ => [1]

def sectBlocks (typ : Nat) : List Blk :=
  match typ with
  | 1 => [.shm]
  | 2 => [.hif]
  | 3 => [.tb, .bnd]
  | 4 => [.prt, .ubw]
  | 5 => [.refs]
  | 6 => [.syn, .out, .srv]
  | 7 => [.sve, .sec]
  | 8 => [.sch, .pol]
  | _ => [.stw]

def regBlk (r : Octets) : Option Blk := Blk.ofCode (byteAt r 4)
def regOff (r : Octets) : Nat := ofLe (slice r 6 2)
def regVal (r : Octets) : Nat := ofLe (slice r 8 4)
def regMask (r : Octets) : Nat := ofLe (slice r 12 4)
def cmdRec (r : Octets) : Octets := r.drop 4

/-- Does an image leave a control register to the ROM (R524: the arms of CG6 to CG15)? -/
def armReg (b : Blk) (off : Nat) : Bool :=
  match b with
  | .syn => decide (0x100 ≤ off) && decide (off < 0x180) && off % 16 == 0
  | .prt | .ubw => off == 0x10
  | _ => false

/-- May a REG record of a section name a register? -/
def regNamed (typ : Nat) (b : Blk) (off : Nat) : Bool :=
  (sectBlocks typ).contains b && off != 4 && !armReg b off && (b != .srv || (decide (0x200 ≤ off) && decide (off < 0x2A0))) &&
    ((regAt b off).map fun d => d.flds.any fun f => f.acc == .rw || f.acc == .sh || f.acc == .lk || f.acc == .w1s || f.acc == .wo).getD false

/-- What of check 6 depends on the record alone. -/
def recNamed (typ : Nat) (r : Octets) : Bool :=
  (sectKinds typ).contains (recKind r) && (match recKind r with
    | 1 => (match regBlk r with
      | some b => regNamed typ b (regOff r)
      | none => false)
    | 2 =>
      let o := cmdRec r
      recOk o && byteAt o 24 == 0 && ((recBlk o).map fun b => (sectBlocks typ).contains b).getD false
    | 6 => decide (ofLe (slice r 4 2) < 4096)
    | 7 => decide (ofLe (slice r 4 2) < 1024)
    | _ => true)

def patchEntry (r : Octets) : Nat := ofLe (slice r 4 2)
def patchLen (r : Octets) : Nat := ofLe (slice r 6 2)

/-- The first PATCH record that repeats an entry, is the seventeenth, or exceeds 64 KiB in all. -/
def patchBad (l : List Octets) : Option Nat :=
  (List.range l.length).find? fun i =>
    let before := l.take i
    let r := (l[i]?).getD []
    decide (16 ≤ i) || (before.any fun x => patchEntry x == patchEntry r) || decide (65536 < ((l.take (i + 1)).map patchLen).sum)

/-- The part of check 6 that does not depend on the state. -/
def checkNames (o : Octets) : Option ImgFail :=
  (sectsOf o).findSome? fun x =>
    match firstBad (recNamed x.typ) x.recs with
    | some i => some ⟨StwCause.record, x.typ, i⟩
    | none => if x.typ = 9 then (patchBad x.recs).map fun i => ⟨StwCause.record, 9, i⟩ else none

/-! ### SRAM plan (R525, R475) -/

def regionId (r : Octets) : Nat := byteAt r 4
def regionPos (r : Octets) : Nat × Nat := (ofLe (slice r 8 4), ofLe (slice r 12 4))
def recsOfKind (k : Nat) (l : List Octets) : List Octets := l.filter fun r => recKind r == k

/-- The regions and shares that an SRAM plan names. -/
def planRegions (l : List Octets) : Tbl (Nat × Nat) := (recsOfKind 3 l).foldl (fun t r => tset t (regionId r) (regionPos r)) []
def planShares (l : List Octets) : Tbl (Nat × Nat) :=
  (recsOfKind 4 l).foldl (fun t r => tset t (byteAt r 4) (ofLe (slice r 6 2), ofLe (slice r 8 2))) []
def planContracts (l : List Octets) : Tbl Nat :=
  (recsOfKind 5 l).foldl (fun t r => tset t (byteAt r 4 * 17 + byteAt r 5) (ofLe (slice r 6 2))) []

def kib64 : Nat := 0x10000
def mib : Nat := 0x100000

/-- Does a region keep R525 beside those named before it? -/
def regionOk (before : List Octets) (r : Octets) : Bool :=
  let id := regionId r
  let (b, n) := regionPos r
  decide (id < 8) && b % kib64 == 0 && n % kib64 == 0 && decide (b + n ≤ 0x08000000) &&
    (id != 0 || decide (n ≤ 64 * mib)) && (id != 1 || decide (4 * mib ≤ n)) && (id != 4 || decide (8 * mib ≤ n)) && (id != 6 || decide (2 * mib ≤ n)) &&
    (before.all fun x => regionId x != id && (decide (b + n ≤ (regionPos x).1) || decide ((regionPos x).1 + (regionPos x).2 ≤ b)))

/-- Check 7. -/
def checkRegions (o : Octets) : Option ImgFail :=
  match sectOf o 1 with
  | none => none
  | some x =>
    let bad := (List.range x.recs.length).find? fun i =>
      let r := (x.recs[i]?).getD []
      match recKind r with
      | 3 => !regionOk (recsOfKind 3 (x.recs.take i)) r
      | 4 => decide (16 < byteAt r 4) || ((recsOfKind 4 (x.recs.take i)).any fun y => byteAt y 4 == byteAt r 4)
      | _ => false
    let shares := ((planShares x.recs).map fun e => e.2.1 + e.2.2).sum
    match bad with
    | some i => some ⟨StwCause.region, 1, i⟩
    | none =>
      if (planRegions x.recs).length ≠ 8 ∨ (tgetD (planRegions x.recs) 2 (0, 0)).2 < 1024 * shares then some ⟨StwCause.region, 1, x.recs.length⟩ else none

/-- Check 8. -/
def checkContracts (o : Octets) : Option ImgFail :=
  match sectOf o 1 with
  | none => none
  | some x =>
    let c := planContracts x.recs
    ((x.recs.findIdx? fun r => recKind r == 5 && (!canReach (byteAt r 4) (byteAt r 5) ||
        decide (ctLimit < ((ctPeers (byteAt r 4) (byteAt r 5)).map fun m => tgetD c (m * 17 + byteAt r 5) 0).sum))).map
      fun i => ⟨StwCause.contract, 1, i⟩)

/-- The SRAM plan takes effect: decreased contracts before increased ones (R527). -/
def applyPlan (l : List Octets) (s : State) : State :=
  let c := planContracts l
  let pairs := (List.range 357).filter fun k => canReach (k / 17) (k % 17)
  let down := pairs.filter fun k => decide (tgetD c k 0 < ctSet s (k / 17) (k % 17))
  let up := pairs.filter fun k => decide (ctSet s (k / 17) (k % 17) < tgetD c k 0)
  each (down ++ up) (fun k t => setContract (k / 17) (k % 17) (tgetD c k 0) t)
    { s with stw := { s.stw with regions := planRegions l, shares := planShares l } }

/-! ### Applying REG and CMD records (R524) -/

/-- The steward's window. -/
def stwWin : Win := ⟨stewardFn, stewardFn + 1⟩
/-- The instance that a CMD record runs on. -/
def cmdWin (i : Nat) : Win := ⟨stewardFn, 5120 + i⟩

/-- The value that a REG record leaves to be written to a register. -/
def regNew (r : Octets) (b : Blk) (s : State) : Nat :=
  let m := regMask r
  (readValue stwWin b (regOff r) s &&& (2 ^ 32 - 1 - m)) ||| (regVal r &&& m)

/-- One REG or CMD record, as the steward applies it. -/
def applyRec (i : Nat) (r : Octets) (s : State) : State :=
  if recKind r = 1 then
    match regBlk r with
    | some b => regWrite stwWin b (regOff r) (regNew r b s) s
    | none => s
  else
    match recBlk (cmdRec r) with
    | some b => runRecord regWrite (cmdWin i) b (cmdRec r) (clearCopy (5120 + i) s)
    | none => s

/-- The events that say that a write was refused or had no effect. -/
def refusals : List EvRef :=
  [Ev.TB_AUTH_REFUSED, Ev.TB_CG0_REFUSED, Ev.BND_AUTH_REFUSED, Ev.REF_AUTH_REFUSED, Ev.SRV_AUTH_REFUSED, Ev.SYN_AUTH_REFUSED,
   Ev.OUT_AUTH_REFUSED, Ev.PRT_AUTH_REFUSED, Ev.PRT_CFG_LOCKED, Ev.PRT_RING_REFUSED, Ev.UBW_AUTH_REFUSED, Ev.UBW_CFG_LOCKED,
   Ev.SVE_AUTH_REFUSED, Ev.SEC_AUTH_REFUSED, Ev.SCH_AUTH_REFUSED, Ev.SCH_CFG_LOCKED, Ev.SCH_GATE_REFUSED, Ev.POL_AUTH_REFUSED]

def refusalCount (s : State) : Nat := (refusals.map fun e => tgetD s.pmc.cnt e.ctr 0).sum

/-- Does the command register of a block, written through a window, show another completion than OK or DEFERRED? -/
def codeBad (w : Win) (b : Blk) (off : Nat) (s : State) : Bool :=
  match outcomeAt w b off s with
  | some (code, _) => code != Code.ok && code != Code.deferred
  | none => false

/-- Would an SA WRITE on an instance change the identity of an SA with a loaded half (R532)? -/
def saLocked (i : Nat) (r : Octets) (before after : State) : Bool :=
  let o := cmdRec r
  let c := 5120 + i
  let x := before.sa (after.rd c F.SEC_SA_SEL)
  let d := after.rd c (F.SEC_SA_DATA 0)
  recBlk o == some Blk.sec && recCmd o == 0x11C && ofLe (slice o 12 4) % 8 == 1 && (halfLoaded x.a || halfLoaded x.b) &&
    (bits d 1 2 != x.alg || bitOf d 3 != x.icv32 || bitOf d 4 != x.cfZero || bits d 8 8 != x.spp || bits d 16 9 != x.tenant)

/-- How a record failed as it was applied: a cause of Table 19.5, or none. -/
def recFailed (i : Nat) (r : Octets) (before after : State) : Option Nat :=
  if recKind r = 1 then
    match regBlk r with
    | none => none
    | some b =>
      if tgetD after.pmc.cnt Ev.TB_LOCKED_WRITE.ctr 0 ≠ tgetD before.pmc.cnt Ev.TB_LOCKED_WRITE.ctr 0 then some StwCause.vcLocked
      else if refusalCount after ≠ refusalCount before then some StwCause.record
      else if (cmdReg b (regOff r)).isSome && codeBad stwWin b (regOff r) after then some StwCause.record
      else none
  else if saLocked i r before after then some StwCause.saLoaded
  else match recBlk (cmdRec r) with
    | none => none
    | some b => if codeBad (cmdWin i) b (recCmd (cmdRec r)) after then some StwCause.record else none

/-- A run of records: the state, and the failures so far. -/
structure ImgRun where
  st : State
  fails : List ImgFail := []
  deriving DecidableEq, Repr

/-- Apply the REG and CMD records of a section, in order, noting those that fail. -/
def runSect (x : Sect) (s : ImgRun) : ImgRun :=
  (x.recs.zipIdx).foldl (fun y e =>
    if recKind e.1 = 1 ∨ recKind e.1 = 2 then
      let t := applyRec e.2 e.1 y.st
      { st := t, fails := match recFailed e.2 e.1 y.st t with
          | some c => y.fails ++ [⟨c, x.typ, e.2⟩]
          | none => y.fails }
    else y) s

/-- What the records of an image would do to a state, up to the first thing that refuses. -/
def dryRun (o : Octets) (s : State) : List ImgFail :=
  let t := s.wr 0 F.RST_STATUS_PROOF_DONE 1
  let t := match sectOf o 1 with
    | some x => applyPlan x.recs t
    | none => t
  ((sectsOf o).foldl (fun y x => runSect x y) { st := t : ImgRun }).fails

/-- Checks 1 to 8, and for a restructure the causes of check 9 that a record shows; `groups` are the groups that the records write. -/
def checkImage (live : Bool) (o : Octets) (s : State) : Option ImgFail :=
  match checkFormat o with
  | some f => some f
  | none =>
    if !keyOk o s then some { cause := StwCause.key }
    else if !signedOk o then some { cause := StwCause.signature }
    else if imgSvn o < s.sh F.STW_STATUS_SVN_MIN then some { cause := StwCause.svn }
    else if !romOk o then some { cause := StwCause.rom }
    else
      let fails := dryRun o s
      let first9 := fails.find? fun f => live && f.cause != StwCause.record
      match checkNames o, fails.find? fun f => !live || f.cause == StwCause.record with
      | some f, _ => some f
      | none, some f => some { f with cause := StwCause.record }
      | none, none => (checkRegions o).orElse fun _ => (checkContracts o).orElse fun _ => first9

end Sys2Proof.Machine
end

