-- ==== Sys2Proof/Machine/Steward.lean ====
section
/-! DEFINITION. The steward: applying an image, the measurement, boot from flash, live restructure and the STW commands (R527 to R537). -/

namespace Sys2Proof.Machine

/-! ### Applying an image (R527, R531, R541) -/

/-- The patches of a PATCH section, in patch RAM and STW_PATCH. -/
def applyPatches (l : List Octets) (s : State) : State :=
  let t := { s with stw := { s.stw with patches := (l.zipIdx).map fun e => (e.2, slice e.1 8 (patchLen e.1)) } }
  let t := each (List.range 16) (fun n t =>
    let r := l[n]?
    (t.wr 0 (F.STW_PATCH_ENTRY n) ((r.map patchEntry).getD 0)).wr 0 (F.STW_PATCH_VALID n) (b2n r.isSome)) t
  t.wr 0 F.STW_STATUS_PATCHED (b2n (!l.isEmpty))

/-- The protection table's shadow takes the entries of a section. -/
def putEntries (l : List Octets) (s : State) : State := each l (fun r t => ptPut (ofLe (slice r 4 2)) (slice r 8 32) t) s

/-- A range of SHM is zeroed. -/
def zeroRange (a n : Nat) (s : State) : State :=
  { s with
      shm := s.shm.filter fun c => !(decide (a ≤ c.1) && decide (c.1 < a + n))
      shmx := { s.shmx with poison := s.shmx.poison.filter fun w => !(decide (a ≤ 32 * w) && decide (32 * w < a + n)) } }

/-- Regions 0 and 1 are zeroed: every context is free and no queue holds a frame (R308, R536). -/
def zeroContexts (s : State) : State :=
  let t := each (s.stw.regions.filter fun e => decide (e.1 < 2)) (fun e t => zeroRange e.2.1 e.2.2 t) s
  let t := each t.sch.queues (fun e t => each e.2.frames (fun f => frameDropped f Code.discarded TxCause.flushed) (t.setQ e.1 { e.2 with frames := [] })) t
  let t := { t with sve := { t.sve with dir := [], tens := tmap (fun _ x => { x with load := 0 }) t.sve.tens } }
  syncCtxUsed (each (List.range 8) (fun p t => t.wr 0 (F.SVE_PIPE_LOAD p) 0) (t.wr 0 F.SVE_SEC_LOAD 0))

/-- One section of an image that is applied at boot. -/
def applySect (x : Sect) (y : ImgRun) : ImgRun :=
  match x.typ with
  | 1 => { y with st := onlyIf y.st.rst.keepShm zeroContexts (applyPlan x.recs y.st) }
  | 2 => { y with st := ptCommit (putEntries x.recs y.st) }
  | 9 => { y with st := applyPatches x.recs y.st }
  | _ => runSect x y

/-- Commit groups with written shadows are armed IMMEDIATE. -/
def armGroups (s : State) : State :=
  let t := each [6, 7, 8, 9, 10, 11, 12, 13] (fun g t =>
    let v := regValue t .syn (0x100 + 0x10 * (g - 6)) 0
    onlyIf (!(groupKeys t g).isEmpty) (writeCgCtrl stewardFn g (v / 64 * 64 + 16)) t) s
  let pending (t : State) (fs : List FieldRef) : Bool := fs.any fun f => t.sh f != t.ef f
  let t := onlyIf (pending t cg14Fields) (writePortCg cg14 stewardFn 0 true false) t
  onlyIf (pending t cg15Fields) (writePortCg cg15 stewardFn 0 true false) t

/-- An accepted image is applied, while the doors may still be closed to everyone else. -/
def applyImage (o : Octets) (s : State) : ImgRun :=
  let d := s.sh F.RST_STATUS_PROOF_DONE
  let y := (sectsOf o).foldl (fun y x => applySect x y) { st := s.wr 0 F.RST_STATUS_PROOF_DONE 1 : ImgRun }
  { y with st := (armGroups y.st).wr 0 F.RST_STATUS_PROOF_DONE d }

/-! ### The measurement (R528) -/

def digestStep (m d : Octets) : Octets := beBytes 48 (Config.sha384 (m ++ d)).toNat

/-- M of the digests in force. -/
def measure (s : State) : State :=
  let m := digestStep (digestStep (digestStep (zeros 48) (beBytes 48 Config.romDigest.toNat)) s.stw.keyDigest) s.stw.imgDigest
  each (List.range 12) (fun w t => t.wr 0 (F.STW_MEAS w) (beWord m w)) s

/-- The octets of a section. -/
def sectOctets (o : Octets) (typ : Nat) : Option Octets := (sectOf o typ).map fun x => slice o x.off x.len

/-- An image is the running image: 1 slot A, 2 slot B, 3 a host buffer. -/
def setRunning (src : Nat) (o : Octets) (s : State) : State :=
  let t := (s.wr 0 F.STW_STATUS_IMAGE src).wr64 0 F.STW_IMG_ID_LO F.STW_IMG_ID_HI (imgId o)
  let t := (t.wr 0 F.STW_IMG_INFO (imgSvn o)).wr 0 F.STW_IMG_SEQ (imgSeq o)
  { t with stw := { t.stw with
      keyDigest := keyDigestOf o, imgDigest := imgDigestOf o, serving := (sectOctets o 7).getD t.stw.serving } }

/-! ### Boot from flash (R530, R531) -/

/-- The flash address of a slot: 1 slot A, 2 slot B. -/
def slotBase (k : Nat) : Nat := if k = 2 then 0x800000 else 0x100000

/-- Octets of an image to read, by its first 16: all, or the 16 alone where its length is none that an image may have. -/
def imgReach (o : Octets) : Nat := if imgTotal o ≤ imgMax then max 16 (imgTotal o) else 16

def slotImage (s : State) (k : Nat) : Octets := flashRead s (slotBase k) (imgReach (flashRead s (slotBase k) 16))

def causeOf (k : Nat) : FieldRef := if k = 2 then F.STW_BOOT_CAUSE_B else F.STW_BOOT_CAUSE_A

/-- The slots to try, in order. -/
def bootOrder (s : State) (readA readB : Bool) : List Nat :=
  let sane (k : Nat) (ok : Bool) : Bool := ok && imgSane (slotImage s k)
  let l := (if sane 1 readA then [1] else []) ++ (if sane 2 readB then [2] else [])
  let l := if l = [1, 2] ∧ imgSeq (slotImage s 1) < imgSeq (slotImage s 2) then [2, 1] else l
  let f := s.sh F.STW_BOOT_FAILED_SLOT
  (l.filter fun k => k != f) ++ l.filter fun k => k == f

/-- One boot slot: its image is rejected, or it is applied and the search ends. -/
def bootOne (k : Nat) (s : State) : State × Bool :=
  let o := slotImage s k
  match checkImage false o s with
  | some f => (post Ev.STW_IMG_REJECTED 0 (s.wr 0 (causeOf k) f.cause), false)
  | none =>
    let y := applyImage o s
    if y.fails.isEmpty then (post Ev.STW_IMG_LOADED 0 (setRunning k o y.st), true)
    else (raise srcAPPLY 0 0 (y.st.wr 0 F.STW_BOOT_FAILED_SLOT k), true)

/-- Try slots in order: the first that passes is applied. -/
def bootTry : List Nat → State → State
  | [], s => s
  | k :: rest, s =>
    let r := bootOne k s
    if r.2 then r.1 else bootTry rest r.1

/-- Proofing step 6. A slot whose reading fails has cause FLASH. -/
def bootImage (readA readB : Bool) (s : State) : State :=
  let bad (k : Nat) (ok : Bool) (s : State) : State :=
    if ok then s else post Ev.STW_IMG_REJECTED 0 (s.wr 0 (causeOf k) StwCause.flash)
  bootTry (bootOrder s readA readB) (bad 2 readB (bad 1 readA s))

/-! ### The command window (R537) -/

def mayStw (w : Win) (s : State) : Bool := s.secure w.fn

def stwCommand (w : Win) (auth : State → Bool) (body : State → State) (s : State) : State :=
  command .stw stStw Ev.STW_CMD_OVERRUN w (fun s =>
    if auth s then body s else postTo Ev.STW_AUTH_REFUSED w.fn 0 (refuse stStw w StwCause.authority s)) s

/-- A command fails a check: the cause, and STW_FAIL. -/
def stwFail (w : Win) (f : ImgFail) (s : State) : State :=
  refuse stStw w f.cause ((s.wr w.c F.STW_FAIL_RECORD f.idx).wr w.c F.STW_FAIL_SECTION f.sect)

/-- The image in a buffer of the issuing function (R491), or the code that the command completes with. -/
def bufImage (fn a : Nat) (s : State) : Option Octets × Nat :=
  let n := imgReach (s.memRead fn a 16)
  if !ownsBuf s fn a n then (none, Code.refused)
  else if bufCode s a n ≠ Code.ok then (none, bufCode s a n)
  else (some (s.memRead fn a n), Code.ok)

/-- The image that SRC names; a flash read may fail. -/
def srcImage (w : Win) (src : Nat) (readOk : Bool) (s : State) : Option Octets × Nat × Nat :=
  if src = 0 then
    let x := bufImage w.fn (s.rd64 w.c (F.STW_ARG 0) (F.STW_ARG 1)) s
    (x.1, x.2, 0)
  else if readOk then (some (slotImage s src), Code.ok, 0)
  else (none, Code.refused, StwCause.flash)

/-- LOAD. -/
def opStwLoad (w : Win) (s : State) : State :=
  stwCommand w (mayStw w) (fun s =>
    if s.sh F.STW_STATUS_IMAGE ≠ 0 then refuse stStw w StwCause.busy s
    else
      match bufImage w.fn (s.rd64 w.c (F.STW_ARG 0) (F.STW_ARG 1)) s with
      | (none, code) => complete stStw w code 0 s
      | (some o, _) =>
        match checkImage false o s with
        | some f => post Ev.STW_IMG_REJECTED 0 (stwFail w f s)
        | none =>
          let y := applyImage o s
          let t := completeOk stStw w (post Ev.STW_IMG_LOADED 0 (measure (setRunning 3 o y.st)))
          if y.fails.isEmpty then t else raise srcAPPLY 0 0 t) s

def execStwLoad (fn : Fn) (s : State) : Host.Outcome State Fault Refusal := .next (opStwLoad ⟨fn.val, fn.val + 1⟩ s)

/-- SVN_COMMIT (R529). -/
def opSvnCommit (w : Win) (s : State) : State :=
  stwCommand w (mayStw w) (fun s =>
    if s.sh F.STW_STATUS_IMAGE = 0 then refuse stStw w StwCause.busy s
    else
      let v := s.sh F.STW_IMG_INFO
      completeOk stStw w (onlyIf (decide (s.sh F.STW_STATUS_SVN_MIN < v)) (fun t => post Ev.STW_SVN_RAISED 0 (t.wr 0 F.STW_STATUS_SVN_MIN v)) s)) s

def execStwSvnCommit (fn : Fn) (s : State) : Host.Outcome State Fault Refusal := .next (opSvnCommit ⟨fn.val, fn.val + 1⟩ s)

/-! ### Live restructure (R532 to R536) -/

/-- The state in which held writes will be made: serving ports DOWN, SVE EN 0 (R534). -/
def rsBase (s : State) : State := (each ((enabledPorts s).filter fun n => decide (n < 16)) portOff s).wr 0 F.SVE_CTRL_EN 0

/-- VERIFY: checks 1 to 8. -/
def opVerify (w : Win) (src : Nat) (readOk : Bool) (s : State) : State :=
  stwCommand w (fun s => s.secure w.fn || tenant0 w.fn) (fun s =>
    if src = 3 then refuse stStw w 0 s
    else
      match srcImage w src readOk s with
      | (none, code, cause) => complete stStw w code cause s
      | (some o, _) =>
        match checkImage true o (rsBase s) with
        | some f => if f.cause ≤ StwCause.contract then stwFail w f s else completeOk stStw w s
        | none => completeOk stStw w s) s

def execStwVerify (fn : Fn) (src : Fin 4) (readOk : Bool) (s : State) : Host.Outcome State Fault Refusal :=
  .next (opVerify ⟨fn.val, fn.val + 1⟩ src.val readOk s)

/-- The commit group that a REG record with SH fields writes. -/
def shGroup (b : Blk) (off v : Nat) (s : State) : Option Nat :=
  match b with
  | .tb | .bnd => some 0
  | .srv => some ((off - 0x200) / 0x20 + 1)
  | .syn => (synGroup off v s).map (6 + ·)
  | .out => (outGroup off v s).map (6 + ·)
  | .prt => some 14
  | .ubw => some 15
  | _ => none

def hasSh (b : Blk) (off : Nat) : Bool := ((regAt b off).map fun r => r.flds.any fun f => f.acc == .sh).getD false

/-- The SH fields of a REG record, as shadows of their group. -/
def stageSh (b : Blk) (off v g : Nat) (s : State) : State :=
  match regAt b off with
  | none => s
  | some r =>
    let t := each (r.flds.filter fun f => f.acc == .sh) (fun f t =>
      let x := f.stores (bits v f.lo f.w)
      if 6 ≤ g ∧ g < 14 then writeShadow (g - 6) (f.at b off) x t else t.wr 0 (f.at b off) x) s
    match b, arrayAt off 0x100 0x10 20 with
    | .out, some (n, i) => onlyIf (i == 4 || i == 8) (clampDiv n) t
    | _, _ => t

/-- Stage one record (R533): what it leaves, and the groups written so far. -/
def stageRec (r : Octets) (y : State × List Nat) : State × List Nat :=
  match (if recKind r = 1 then regBlk r else none) with
  | none => y
  | some b =>
    let off := regOff r
    let locked := b == .srv && y.1.sh (F.SRV_OD_CFG_MODE ((off - 0x200) / 0x20 + 1)) == 1
    if hasSh b off = false ∨ locked = true then y
    else
      let v := regNew r b y.1
      let v := if b = .bnd ∧ off = 0x34 then max (v % 2 ^ 16) 0x100 else v
      match shGroup b off v y.1 with
      | some g => (stageSh b off v g y.1, insertNat g y.2)
      | none => y

/-- The REG and CMD records of an image, in order. -/
def imgRecs (o : Octets) : List Octets := ((sectsOf o).map fun x => if x.typ = 1 ∨ x.typ = 2 ∨ x.typ = 9 then [] else x.recs).flatten

def stageAll (o : Octets) (s : State) : State × List Nat := (imgRecs o).foldl (fun y r => stageRec r y) (s, [])

/-- The blocks that an image writes, by code (Table 19.4). -/
def imgBlks (o : Octets) : List Nat :=
  (((sectsOf o).map fun x =>
    if x.typ = 1 ∨ x.typ = 2 ∨ x.typ = 9 then (sectBlocks x.typ).map Blk.code
    else x.recs.filterMap fun r => (if recKind r = 1 then regBlk r else recBlk (cmdRec r)).map Blk.code).flatten).dedup

/-- RESTRUCTURE: accepted, it is VALIDATING. -/
def opRestructure (w : Win) (src : Nat) (readOk : Bool) (s : State) : State :=
  stwCommand w (mayStw w) (fun s =>
    let tick := s.rd64 w.c (F.STW_ARG 2) (F.STW_ARG 3)
    if src = 3 ∨ tick < s.frc + 312500000 ∨ s.frc + 93750000000 < tick then refuse stStw w 0 s
    else if s.sh F.STW_STATUS_RS_STATE ≠ 0 then refuse stStw w StwCause.busy s
    else
      match srcImage w src readOk s with
      | (none, code, cause) => complete stStw w code cause s
      | (some o, _) =>
        let groups := (stageAll o s).2
        match checkImage true o (rsBase s) with
        | some f => stwFail w f s
        | none =>
          if groups.any s.armed then stwFail w { cause := StwCause.busy } s
          else
            let rs : Restructure := { image := o, src := src, tick := tick, win := w, groups := groups, pt := (sectOf o 2).isSome, blks := imgBlks o }
            let t := (accept .stw stStw w stwOpRs 0 s).wr64 0 F.STW_RS_TIME_LO F.STW_RS_TIME_HI tick
            { t.wr 0 F.STW_STATUS_RS_STATE 1 with stw := { t.stw with rs := some rs } }) s

def execStwRestructure (fn : Fn) (src : Fin 4) (readOk : Bool) (s : State) : Host.Outcome State Fault Refusal :=
  .next (opRestructure ⟨fn.val, fn.val + 1⟩ src.val readOk s)

/-- RS_STAGED: validation and staging end by T − 20 ms. -/
def rsStaged (s : State) : State :=
  match s.stw.rs with
  | none => s
  | some r =>
    if s.sh F.STW_STATUS_RS_STATE ≠ 1 ∨ r.tick < s.frc + 31250000 then s
    else
      let t := (stageAll r.image s).1
      let t := match sectOf r.image 2 with
        | some x => putEntries x.recs t
        | none => t
      post Ev.STW_RS_STAGED 0 (finish .stw stwOpRs 0 Code.ok 0 (t.wr 0 F.STW_STATUS_RS_STATE 2))

def execRsStaged (s : State) : Host.Outcome State Fault Refusal := .next (rsStaged s)

/-- RS_LATE: it is past T − 20 ms and staging has not ended. -/
def rsLate (s : State) : State :=
  match s.stw.rs with
  | none => s
  | some r =>
    if s.sh F.STW_STATUS_RS_STATE ≠ 1 ∨ s.frc + 31250000 ≤ r.tick then s else post Ev.STW_RS_FAILED 0 (rsDiscard StwCause.late s)

def execRsLate (s : State) : Host.Outcome State Fault Refusal := .next (rsLate s)

/-- ABORT. -/
def opStwAbort (w : Win) (s : State) : State :=
  stwCommand w (mayStw w) (fun s =>
    let open_ := rsHoldsTable s && (s.stw.rs.map fun r => decide (s.frc < r.tick)).getD false
    if open_ then completeOk stStw w (post Ev.STW_RS_FAILED 0 (rsDiscard 0 s)) else refuse stStw w 0 s) s

def execStwAbort (fn : Fn) (s : State) : Host.Outcome State Fault Refusal := .next (opStwAbort ⟨fn.val, fn.val + 1⟩ s)

/-- Volatile slots with MEAS_BIND are wiped. -/
def wipeBound (s : State) : State :=
  each (s.ks.slots.filter fun e => decide (256 ≤ e.1) && attrType e.2.attr != 0 && attrMeasBind e.2.attr)
    (fun e t => putSlot e.1 (emptyAttr (nextVersion t e.1)) 0 t) s

/-- Do contexts and queue state survive a restructure (R536)? -/
def rsKeeps (o : Octets) (s : State) : Bool :=
  let same := match sectOf o 1 with
    | none => true
    | some x => [0, 1].all fun id => tget (planRegions x.recs) id == tget s.stw.regions id
  same && (match sectOctets o 7 with
    | none => true
    | some v => v == s.stw.serving)

/-- RS_APPLY: everything of the one TBCLK cycle at T. -/
def rsApply (s : State) : State :=
  match s.stw.rs with
  | none => s
  | some r =>
    if s.sh F.STW_STATUS_RS_STATE ≠ 2 ∨ s.frc < r.tick then s
    else
      let keeps := rsKeeps r.image s
      let ports := (enabledPorts s).filter fun n => decide (n < 16)
      let sve := s.sh F.SVE_CTRL_EN == 1
      let t := each r.groups (fun g t => commitGroup g r.tick t) (rsBase s)
      let t := onlyIf r.pt ptCommit t
      let t := match sectOf r.image 9 with
        | some x => applyPatches x.recs t
        | none => t
      let t := post Ev.STW_MEAS_CHANGE 0 (measure (setRunning (if r.src = 0 then 3 else r.src) r.image t))
      let t := wipeBound t
      let t := match sectOf r.image 1 with
        | some x => { t with stw := { t.stw with regions := planRegions x.recs } }
        | none => t
      let t := onlyIf (!keeps) zeroContexts t
      let rs := { r with portsEn := ports, sveEn := sve }
      { t.wr 0 F.STW_STATUS_RS_STATE 3 with stw := { t.stw with rs := some rs, busy := r.blks } }

def execRsApply (s : State) : Host.Outcome State Fault Refusal := .next (rsApply s)

/-- EN of a port or of the SVE, which the steward restores last: bit 0 of its register. -/
def enReg (b : Blk) (off : Nat) : Bool :=
  match b with
  | .prt => (match arrayAt off 0x100 0x40 16 with
    | some (_, 0) => true
    | _ => false)
  | .sve => off == 0xC
  | _ => false

/-- One held record. -/
def heldRec (i : Nat) (r : Octets) (s : State) : State :=
  match (if recKind r = 1 then regBlk r else none) with
  | none => applyRec i r s
  | some b =>
    let off := regOff r
    let v := regNew r b s
    if hasSh b off then
      match regAt b off with
      | some d => each (d.flds.filter fun f => f.acc != .sh) (writeFld b off 0 v) s
      | none => s
    else regWrite stwWin b off (if enReg b off then v / 2 * 2 else v) s

/-- The EN that an image leaves in a register, or what was in force. -/
def imgEn (o : Octets) (b : Blk) (off : Nat) (was : Bool) : Bool :=
  (imgRecs o).foldl (fun e r =>
    if recKind r = 1 ∧ regBlk r = some b ∧ regOff r = off ∧ bitOf (regMask r) 0 = true then bitOf (regVal r) 0 else e) was

/-- RS_DONE: the held writes are made, then EN of each port and of the SVE is restored. A held write waits for its door (R535). -/
def rsDone (s : State) : State :=
  match s.stw.rs with
  | none => s
  | some r =>
    let open_ := r.blks.all fun c => ((Blk.ofCode c).map fun b => s.doorOpen b).getD true
    if s.sh F.STW_STATUS_RS_STATE ≠ 3 ∨ s.safe = true ∨ open_ = false then s
    else
      let t := (sectsOf r.image).foldl (fun t x =>
        match x.typ with
        | 1 => applyPlan x.recs t
        | 2 | 9 => t
        | _ => (x.recs.zipIdx).foldl (fun t e => heldRec e.2 e.1 t) t) s
      let t := each (List.range 16) (fun n t =>
        onlyIf (imgEn r.image .prt (0x100 + 0x40 * n) (r.portsEn.contains n))
          (fun t => writePortCfg stewardFn n (regValue t .prt (0x100 + 0x40 * n) 0 ||| 1) t) t) t
      let t := t.wr 0 F.SVE_CTRL_EN (b2n (imgEn r.image .sve 0xC r.sveEn))
      post Ev.STW_RS_DONE 0 { t.wr 0 F.STW_STATUS_RS_STATE 0 with stw := { t.stw with rs := none, busy := [] } }

def execRsDone (s : State) : Host.Outcome State Fault Refusal := .next (rsDone s)

/-! ### STW_CMD as a register -/

/-- STW_CMD (Table 19.7). Any other operation is refused for AUTHORITY (R537). -/
def stwCmd (w : Win) (v : Nat) (s : State) : State :=
  match v % 8 with
  | 1 => opStwLoad w s
  | 2 => freeBool (opRestructure w (bits v 3 2)) s
  | 3 => opStwAbort w s
  | 4 => freeBool (opVerify w (bits v 3 2)) s
  | 5 => opSvnCommit w s
  | _ => stwCommand w (fun _ => false) id s

/-- A write to a register of a block. -/
def busWrite (w : Win) (b : Blk) (off v : Nat) (s : State) : State := if b = .stw ∧ off = 0x110 then stwCmd w v s else regWrite w b off v s

end Sys2Proof.Machine
end

