-- ==== Sys2Proof/Machine/Proofing.lean ====
section
/-! DEFINITION. Proofing: the steps between a reset and the opening of the doors (R544 to R549, Table 20.3). -/

namespace Sys2Proof.Machine

/-- No step of Proofing runs while RESET_N holds the device in reset, after step 7, or in P3 and P4. -/
def proofing (s : State) : Bool := !s.rst.pin && s.sh F.RST_STATUS_PROOF_DONE == 0 && decide (s.pwr.deep ≤ 2)

def proofStep (s : State) : Nat := s.sh F.RST_STATUS_PROOF_STEP

def nextStep (s : State) : State := s.wr 0 F.RST_STATUS_PROOF_STEP (proofStep s + 1)

/-! ### Step 0 -/

/-- The reset counter block's fields (R549). -/
def counterBlock : List FieldRef :=
  ((List.range 9).map fun i => F.RST_CNT (i + 1)) ++
    [F.RST_CNT_PROOF_RESET_DURING_PROOFING, F.RST_CNT_PROOF_PROOF_FAIL, F.RST_HOLD_MS, F.RST_FRC_RUN, F.RST_BAT_STATUS_STUCK_RESET,
     F.RST_BAT_STATUS_RSTPIN_STUCK_M]

/-- The marker or its CRC is invalid: every field becomes 0, and the marker is rewritten. -/
def checkMarker (s : State) : State :=
  if s.rst.marker then s.wr 0 F.RST_BAT_STATUS_MARKER_LOST 0
  else
    let t := each counterBlock (fun f t => t.wr 0 f 0) s
    raise 1217 0 0 (post Ev.RST_MARKER_LOST 0 ({ t with rst := { t.rst with marker := true } }.wr 0 F.RST_BAT_STATUS_MARKER_LOST 1))

/-- The source is counted once in a Proofing, and the run number rises where FRC was cleared (R539). -/
def countSource (s : State) : State :=
  if s.rst.step0 then s
  else
    let t := satAdd (F.RST_CNT (s.sh F.RST_STATUS_LAST_SOURCE)) 1 s
    let t := onlyIf s.rst.frcCleared (fun t => t.wr 0 F.RST_FRC_RUN (t.sh F.RST_FRC_RUN + 1)) t
    { t with rst := { t.rst with step0 := true, frcCleared := false } }

def proof0 (side : Bool) (s : State) : State := countSource (checkMarker (s.wr 0 F.MATE_STATUS_SIDE (b2n side)))

/-! ### Steps 2 to 4 -/

/-- S0 is LOCKED and FRC counts. -/
def proof2 (s : State) : State :=
  let t := (s.wr 0 (F.SYN_S_STATUS_STATE 0) syLOCKED).wr 0 F.SYN_STATUS_LOCKED (setBitN (s.sh F.SYN_STATUS_LOCKED) 0)
  t.wr 0 F.TB_STATUS_FRC_RUN 1

/-- Option bytes take effect: from copy 1 (A) or 2 (B), or the defaults (0). -/
def useOptions (src : Nat) (o : Octets) (s : State) : State :=
  let m := byteAt o 12
  let r := byteAt o 13
  let p := byteAt o 14
  let g := byteAt o 15 % 2
  let both (a b : FieldRef) (v : Nat) (t : State) : State := (t.wr 0 a v).wr 0 b v
  let t := both F.RST_OPT_MATE_EN F.RST_OPT_NEW_MATE_EN m (both F.RST_OPT_MATE_BASE F.RST_OPT_NEW_MATE_BASE (m / 16) s)
  let t := both F.RST_OPT_RSTPIN_STUCK F.RST_OPT_NEW_RSTPIN_STUCK r (both F.RST_OPT_PERST_MODE F.RST_OPT_NEW_PERST_MODE (r / 2) t)
  let t := both F.RST_OPT_GEN_MAX F.RST_OPT_NEW_GEN_MAX p (both F.RST_OPT_WIDTH_MAX F.RST_OPT_NEW_WIDTH_MAX (p / 8) t)
  let t := both F.RST_OPT_GOV_EN F.RST_OPT_NEW_GOV_EN g t
  let t := (t.wr 0 F.RST_STATUS_OPT_SRC src).wr 0 F.RST_OPT_SEQ (if src = 0 then 0 else ofLe (slice o 8 4))
  let t := (t.wr 0 F.RST_BAT_STATUS_RSTPIN_STUCK_M r).wr 0 F.PWR_CTRL_GOV_EN g
  (t.wr 0 F.MATE_CTRL_MATE_EN m).wr 0 F.MATE_CTRL_BASE (m / 16)

/-- Step 4 begins: the sweep starts, or after WAKE3 every group is SWEPT (R478, R541). -/
def startSweep (s : State) : State :=
  if s.rst.keepShm then (each (List.range 17) (fun g t => t.wr 0 (F.SHM_GRP_STATUS_SWEPT g) 1) s).wr 0 F.SHM_STATUS_SWEEP_DONE 1
  else { s with shmx := { s.shmx with sweepAt := some s.frc } }

def proof3 (s : State) : State :=
  let x := optInForce s
  startSweep (useOptions x.1 x.2 s)

/-! ### Step 5 (R437, R450) -/

/-- No valid root in DEVELOP or DEPLOYED: a new root, unless ROOT_GEN has reached 64 or the entropy source fails. -/
def proofRoot (s : State) : State :=
  let l := s.sh F.KS_LIFECYCLE_STATE
  if (l = 1 ∨ l = 2) ∧ s.ks.root = none ∧ s.sh F.KS_LIFECYCLE_ROOT_GEN < 64 ∧ s.sh F.KS_STATUS_ENTROPY_OK = 1 then
    let t := clearAuth ((s.wr64 0 F.KS_WRITES_LO F.KS_WRITES_HI 0).wr64 0 F.KS_ENV_COUNT_LO F.KS_ENV_COUNT_HI 0)
    let t := (t.wr64 0 F.BND_TOK_COUNT_LO F.BND_TOK_COUNT_HI 0).wr 0 F.KS_LIFECYCLE_AUTH_LOCKED 0
    post Ev.KS_ROOT_NEW 0 (newRoot { t with ks := { t.ks with slots := [], authCopy := [] } })
  else s

/-- The root, and the derivations of Table 16.4: the identity keys and K_N (R354, R450). -/
def proof5 (entropyOk rootOk : Bool) (s : State) : State :=
  let t := s.wr 0 F.KS_STATUS_ENTROPY_OK (b2n entropyOk)
  let t := { t with ks := { t.ks with root := if rootOk then t.ks.root else none } }
  let t := syncKs (proofRoot t)
  (t.wr 0 F.KS_STATUS_ID_READY (b2n t.ks.root.isSome)).wr 0 F.SEC_STATUS_NONCE_KEY (b2n t.ks.root.isSome)

/-! ### Step 7 -/

/-- M is final, the doors open, the mate state is entered, the HIF is enabled and FAULT_N is driven. -/
def proof7 (s : State) : State :=
  let t := (measure s).wr 0 F.STW_STATUS_MEAS_VALID 1
  let t := pinFaultN (t.wr 0 F.RST_STATUS_PROOF_DONE 1)
  let t := { t with mate := { t.mate with from_ := t.frc }, srv := { t.srv with cg0At := t.frc }, rst := { t.rst with keepShm := false } }
  let t := mateStep .other (syncClaim t)
  let t := onlyIf (t.sh F.MATE_CTRL_MATE_EN == 0) (setSharedDrive true) t
  let src := t.sh F.RST_STATUS_LAST_SOURCE
  let t := onlyIf (src == 3) (post Ev.RST_STUCK_RELEASE 0) t
  onlyIf (src == 8 || src == 9) (post Ev.PWR_WOKE (t.sh F.PWR_WAKE_CAUSE_CAUSE)) t

/-! ### The rows (R544, R545) -/

/-- The step under way completes, and its gap elapses. -/
def proofDone (p : ProofData) (s : State) : State :=
  if !proofing s then s
  else
    match proofStep s with
    | 0 => nextStep (proof0 p.side s)
    | 1 => nextStep s
    | 2 => nextStep (proof2 s)
    | 3 => nextStep (proof3 s)
    | 4 => if s.sh F.SHM_STATUS_SWEEP_DONE = 1 then nextStep s else s
    | 5 => nextStep (proof5 p.entropyOk p.rootOk s)
    | 6 =>
      let t := bootImage p.readA p.readB s
      if proofStep t = 6 then nextStep t else t
    | _ => proof7 s

def execProofingStepDone (proof : ProofData) (s : State) : Host.Outcome State Fault Refusal := .next (proofDone proof s)

/-- A step times out: step 3 goes on with the default options; after steps 1 and 5 Proofing begins again under the same source. -/
def proofTimeout (s : State) : State :=
  if !proofing s then s
  else
    match proofStep s with
    | 3 => raise 1216 0 0 (nextStep (startSweep (useOptions 0 (zeros 14 ++ oct [0x1D, 1] ++ zeros 48) s)))
    | 1 | 5 => (satAdd F.RST_CNT_PROOF_PROOF_FAIL 1 s).wr 0 F.RST_STATUS_PROOF_STEP 0
    | _ => s

def execProofingTimeout (s : State) : Host.Outcome State Fault Refusal := .next (proofTimeout s)

end Sys2Proof.Machine
end

