-- ==== Sys2Proof/Machine/Rings.lean ====
section
/-! DEFINITION. Writes to the register space, and the rings of the host interface: fetching, commands and completions (R496 to R504, R601 to R608). -/

namespace Sys2Proof.Machine

/-! ### Register space (Table 24.1) -/

/-- A write of 32 bits to BAR0, or by the steward to the same addresses: registers below 0x60000, then the MSI-X table; the rest ignores it. -/
def registerWrite (fn a v : Nat) (s : State) : State :=
  if a % 4 ≠ 0 then mmioMalformed fn a true s
  else if a < 0x60000 then
    match Blk.ofCode (a / 0x4000) with
    | some b => busWrite ⟨fn, fn + 1⟩ b (a % 0x4000) v s
    | none => s
  else if 0x70000 ≤ a then writeMsix fn (a - 0x70000) v s
  else s

/-- REGISTER_WRITE. -/
def execRegisterWrite (fn : Fn) (addr : BitVec 19) (value : BitVec 32) (s : State) : Host.Outcome State Fault Refusal :=
  .next (registerWrite fn.val addr.toNat value.toNat s)

/-! ### Fetching (R497, R498) -/

/-- The enabled rings: function * 16 + ring. -/
def enabledRings (s : State) : List Nat :=
  ((List.range 16).map fun r => ((fnCopies s (F.HIF_RING_CFG_EN r)).filter fun e => e.2 == 1).map fun e => e.1 * 16 + r).flatten

/-- Does a ring hold a record that may be fetched? The records of a RECEIVE ring are fetched as frames take them. -/
def fetchable (s : State) (k : Nat) : Bool :=
  let fn := k / 16
  let r := k % 16
  let c := fn + 1
  let inflight := s.rd c (F.HIF_RING_STATUS_INFLIGHT r)
  let used := wsub 32 (s.rd c (F.HIF_CQ_WR r)) (s.rd c (F.HIF_CQ_HEAD r))
  let kind := ringKind s fn r
  kind != 2 && s.rd c (F.HIF_SQ_TAIL r) != s.rd c (F.HIF_SQ_HEAD r) && decide (used + inflight < ringEntries s fn r) &&
    (kind != 0 || (decide (inflight < s.rd c (F.HIF_RING_PARAM r) % 2 ^ 13) && decide (s.hif.cmds.length < 4096)))

/-- The ring whose turn it is: the next one after the ring served last. -/
def nextRing (s : State) : Option Nat :=
  let dist (k : Nat) : Nat := (k + 16384 - (s.hif.served + 1)) % 16384
  ((enabledRings s).filter (fetchable s)).foldl (fun b k =>
    match b with
    | none => some k
    | some j => if dist k < dist j then some k else b) none

/-- The lowest free command instance. -/
def freeSlot (s : State) : Nat := ((List.range 4096).find? fun n => !s.hif.cmds.any fun c => c.slot == n).getD 0

/-- Is a tag that of a command of the same ring still in flight (R503)? -/
def tagInFlight (s : State) (h : HostTag) (tag : Nat) : Bool :=
  s.hif.cmds.any fun c => c.tag.fn == h.fn && c.tag.r == h.r && c.tag.en == h.en && recTag c.octets == tag

/-- A fetched record joins the commands in flight, on an instance with every field at its reset value, or the transmit descriptors. -/
def fetched (h : HostTag) (kind : Nat) (o : Octets) (s : State) : State :=
  if kind = 0 then
    let n := freeSlot s
    let t := clearCopy (1024 + n) s
    syncInflight { t with hif := { t.hif with
      doneAt := tdel t.hif.doneAt (1024 + n)
      cmds := t.hif.cmds ++ [{ slot := n, tag := h, octets := o, dup := tagInFlight s h (recTag o) }] } }
  else { s with hif := { s.hif with txq := s.hif.txq ++ [(h, o)] } }

/-- RING_FETCH: one record, with a completion slot reserved. A record in poisoned SHM is abandoned (R468). -/
def ringFetch (s : State) : State :=
  match nextRing s with
  | none => s
  | some k =>
    let fn := k / 16
    let r := k % 16
    let c := fn + 1
    let head := s.rd c (F.HIF_SQ_HEAD r)
    let kind := ringKind s fn r
    let n := sqOctets kind
    let a := sqBase s fn r + n * (head % ringEntries s fn r)
    let t := { s.wr c (F.HIF_SQ_HEAD r) (head + 1) with hif := { s.hif with served := k } }
    if addrIsShm a && t.shmPoisoned (a % 2 ^ 32) n then poisonUse mHif (a % 2 ^ 32) t
    else
      let t := onlyIf (!addrIsShm a) (count Ct.HIF_RX_BYTES fn n) t
      let t := t.wr c (F.HIF_RING_STATUS_INFLIGHT r) (t.rd c (F.HIF_RING_STATUS_INFLIGHT r) + 1)
      fetched ⟨fn, r, head, tgetD s.hif.ringEn k 0⟩ kind (s.memRead fn a n) t

def execRingFetch (s : State) : Host.Outcome State Fault Refusal := .next (ringFetch s)

/-! ### Commands (R500 to R503) -/

/-- The window of a command's instance. -/
def instWin (c : RingCmd) : Win := ⟨c.tag.fn, 1024 + c.slot⟩

/-- How a command has completed: code, cause and tick; none while it is in progress. -/
def cmdOutcome (s : State) (c : RingCmd) : Option (Nat × Nat × Nat) :=
  match c.done, recBlk c.octets with
  | some (code, tick), _ => some (code, 0, tick)
  | none, some b =>
    if c.started then (recOutcome (instWin c) b c.octets s).map fun x => (x.1, x.2, tgetD s.hif.doneAt (1024 + c.slot) s.frc) else none
  | none, none => none

/-- Change one command in flight. -/
def setCmd (n : Nat) (f : RingCmd → RingCmd) (s : State) : State :=
  { s with hif := { s.hif with cmds := s.hif.cmds.map fun c => if c.slot == n then f c else c } }

/-- A command that the HIF itself completes. -/
def hifDone (c : RingCmd) (code : Nat) (s : State) : State := setCmd c.slot (fun x => { x with started := true, done := some (code, s.frc) }) s

/-- Present a command to its block. -/
def present (c : RingCmd) (s : State) : State :=
  if c.dup then
    hifDone c Code.refused (s.wr (c.tag.fn + 1) (F.HIF_RING_STATUS_DUP_TAGS c.tag.r) (s.rd (c.tag.fn + 1) (F.HIF_RING_STATUS_DUP_TAGS c.tag.r) + 1))
  else
    match recBlk c.octets with
    | none => hifDone c Code.refused s
    | some b =>
      if !recOk c.octets || s.safe || s.rsHolds b c.tag.fn then hifDone c Code.refused s
      else if !s.doorOpen b then hifDone c Code.blockAbsent s
      else
        let w := instWin c
        let t := runRecord busWrite w b c.octets (setCmd c.slot (fun x => { x with started := true }) s)
        onlyIf (cmdReg b (recCmd c.octets) == some none) (noteDone w.c) t

/-- RING_COMMAND: the next command of a ring, in ring order; ORDERED commands wait, and are waited for (R502). -/
def ringCommand (fn r : Nat) (s : State) : State :=
  let mine := s.hif.cmds.filter fun c => c.tag.fn == fn && c.tag.r == r
  let before := mine.takeWhile fun c => c.started
  match mine.find? fun c => !c.started with
  | none => s
  | some c =>
    let ended (x : RingCmd) : Bool := (cmdOutcome s x).isSome
    if (recOrdered c.octets && !before.all ended) || (before.any fun x => recOrdered x.octets && !ended x) then s else present c s

def execRingCommand (fn : Fn) (ring : Fin 16) (s : State) : Host.Outcome State Fault Refusal := .next (ringCommand fn.val ring.val s)

/-! ### Completions (R504) -/

/-- The words of the result range. -/
def resultWords (w : Win) (b : Blk) : List Nat → State → Octets × State
  | [], s => ([], s)
  | off :: rest, s =>
    let x := busRead w b off s
    let y := resultWords w b rest x.2
    (leBytes 4 x.1 ++ y.1, y.2)

/-- The completion record of a command, octet 0 without PHASE. -/
def completionRecord (c : RingCmd) (code cause tick : Nat) (result : Octets) : Octets :=
  oct [2 * b2n c.dup, byteAt c.octets 2] ++ leBytes 2 (recTag c.octets) ++ oct [code, cause, 0, 0] ++ leBytes 8 tick ++ padTo 112 result

/-- RING_COMPLETION of the command on an instance: its record is written, unless its ring was disabled or its function reset (R515). -/
def ringCompletion (n : Nat) (s : State) : State :=
  match s.hif.cmds.find? fun c => c.slot == n with
  | none => s
  | some c =>
    match cmdOutcome s c with
    | none => s
    | some (code, cause, tick) =>
      let x := match c.done, recBlk c.octets with
        | none, some b => resultWords (instWin c) b (recResult c.octets) s
        | _, _ => ([], s)
      let t := clearCopy (1024 + n) x.2
      let t := syncInflight { t with hif := { t.hif with cmds := t.hif.cmds.filter fun y => y.slot != n, doneAt := tdel t.hif.doneAt (1024 + n) } }
      if ringLive s c.tag.fn c.tag.r c.tag.en && !c.dead then
        cqWrite c.tag.fn c.tag.r (recIrq c.octets) (completionRecord c code cause tick x.1) t
      else t

def execRingCompletion (slot : Fin 4096) (s : State) : Host.Outcome State Fault Refusal := .next (ringCompletion slot.val s)

end Sys2Proof.Machine
end

