-- ==== Sys2Proof/Machine/Dispatch.lean ====
section
/-! DEFINITION. One arm per command: what each row of the opcode table does to everything but the queue. -/

namespace Sys2Proof.Machine

/-- The effect of one command (R5 and the rule of its row). -/
def exec (i : Instr) (s : State) : Host.Outcome State Fault Refusal :=
  match i with
  | .registerWrite fn addr value => Sys2Proof.Machine.execRegisterWrite fn addr value s
  | .cg0Arm fn kind => Sys2Proof.Machine.execCg0Arm fn kind s
  | .cg0Abort fn kind arm => Sys2Proof.Machine.execCg0Abort fn kind arm s
  | .synCgArm fn group value => Sys2Proof.Machine.execSynCgArm fn group value s
  | .synCgAbort fn group value => Sys2Proof.Machine.execSynCgAbort fn group value s
  | .cg14Arm fn kind => Sys2Proof.Machine.execCg14Arm fn kind s
  | .cg14Abort fn kind arm => Sys2Proof.Machine.execCg14Abort fn kind arm s
  | .cg15Arm fn kind => Sys2Proof.Machine.execCg15Arm fn kind s
  | .cg15Abort fn kind arm => Sys2Proof.Machine.execCg15Abort fn kind arm s
  | .groupCommit group tick => Sys2Proof.Machine.execGroupCommit group tick s
  | .blockResetOrder block => Sys2Proof.Machine.execBlockResetOrder block s
  | .doorAbsent block => Sys2Proof.Machine.execDoorAbsent block s
  | .blockReady block => Sys2Proof.Machine.execBlockReady block s
  | .doorReply block gen => Sys2Proof.Machine.execDoorReply block gen s
  | .tbFrcLoRead fn => Sys2Proof.Machine.execTbFrcLoRead fn s
  | .tbCapture fn vc => Sys2Proof.Machine.execTbCapture fn vc s
  | .vcSelWrite fn vc => Sys2Proof.Machine.execVcSelWrite fn vc s
  | .vcBase0Read fn => Sys2Proof.Machine.execVcBase0Read fn s
  | .vcSet fn offset frcTime => Sys2Proof.Machine.execVcSet fn offset frcTime s
  | .vcAbort fn => Sys2Proof.Machine.execVcAbort fn s
  | .vcRate fn frcTime => Sys2Proof.Machine.execVcRate fn frcTime s
  | .vcAdjust fn frcTime => Sys2Proof.Machine.execVcAdjust fn frcTime s
  | .vcSchedAdd fn kind => Sys2Proof.Machine.execVcSchedAdd fn kind s
  | .vcSchedCancel fn slot => Sys2Proof.Machine.execVcSchedCancel fn slot s
  | .vcSchedClear fn => Sys2Proof.Machine.execVcSchedClear fn s
  | .vcRetire fn frcTime => Sys2Proof.Machine.execVcRetire fn frcTime s
  | .vcResetClock fn => Sys2Proof.Machine.execVcResetClock fn s
  | .vcSetTick vc => Sys2Proof.Machine.execVcSetTick vc s
  | .vcRateTick vc => Sys2Proof.Machine.execVcRateTick vc s
  | .vcAdjustTick vc => Sys2Proof.Machine.execVcAdjustTick vc s
  | .slewDone vc tick => Sys2Proof.Machine.execSlewDone vc tick s
  | .vcRetireTick vc => Sys2Proof.Machine.execVcRetireTick vc s
  | .vcParentChange vc => Sys2Proof.Machine.execVcParentChange vc s
  | .segmentActivation vc slot tick => Sys2Proof.Machine.execSegmentActivation vc slot tick s
  | .rampDone vc tick => Sys2Proof.Machine.execRampDone vc tick s
  | .leapSecondEnd vc => Sys2Proof.Machine.execLeapSecondEnd vc s
  | .ptmRequest tick phase => Sys2Proof.Machine.execPtmRequest tick phase s
  | .bndTokStart fn => Sys2Proof.Machine.execBndTokStart fn s
  | .tokenDone index => Sys2Proof.Machine.execTokenDone index s
  | .pathStale point => Sys2Proof.Machine.execPathStale point s
  | .ageExpired => Sys2Proof.Machine.execAgeExpired s
  | .refCfgWrite fn slot value => Sys2Proof.Machine.execRefCfgWrite fn slot value s
  | .refEdgeStamp slot tick phase edges label => Sys2Proof.Machine.execRefEdgeStamp slot tick phase edges label s
  | .refStampMissing slot => Sys2Proof.Machine.execRefStampMissing slot s
  | .refLinkLoss slot => Sys2Proof.Machine.execRefLinkLoss slot s
  | .monitorTick tick => Sys2Proof.Machine.execMonitorTick tick s
  | .holdoffExpiry sel => Sys2Proof.Machine.execHoldoffExpiry sel s
  | .esmcPdu port pdu => Sys2Proof.Machine.execEsmcPdu port pdu s
  | .esmcTimeout lane => Sys2Proof.Machine.execEsmcTimeout lane s
  | .todinFrame pin frame whole => Sys2Proof.Machine.execTodinFrame pin frame whole s
  | .servoUpdate => Sys2Proof.Machine.execServoUpdate s
  | .servoStall => Sys2Proof.Machine.execServoStall s
  | .phaseStep fn => Sys2Proof.Machine.execPhaseStep fn s
  | .acceptOffset fn => Sys2Proof.Machine.execAcceptOffset fn s
  | .nougatReset fn => Sys2Proof.Machine.execNougatReset fn s
  | .atomTuneNow fn ack => Sys2Proof.Machine.execAtomTuneNow fn ack s
  | .rateOwnerWrite fn value => Sys2Proof.Machine.execRateOwnerWrite fn value s
  | .hoSrcWrite fn value => Sys2Proof.Machine.execHoSrcWrite fn value s
  | .atomAlm level => Sys2Proof.Machine.execAtomAlm level s
  | .nougatSample model => Sys2Proof.Machine.execNougatSample model s
  | .atomTune ack => Sys2Proof.Machine.execAtomTune ack s
  | .retuneLocked k band => Sys2Proof.Machine.execRetuneLocked k band s
  | .retuneTimeout k => Sys2Proof.Machine.execRetuneTimeout k s
  | .synthLockLoss k => Sys2Proof.Machine.execSynthLockLoss k s
  | .lostRetry k => Sys2Proof.Machine.execLostRetry k s
  | .synMemoSelWrite fn value => Sys2Proof.Machine.execSynMemoSelWrite fn value s
  | .memoPin fn => Sys2Proof.Machine.execMemoPin fn s
  | .memoUnpin fn => Sys2Proof.Machine.execMemoUnpin fn s
  | .memoInvalidate fn => Sys2Proof.Machine.execMemoInvalidate fn s
  | .outputChangeApply out => Sys2Proof.Machine.execOutputChangeApply out s
  | .dividerRestart group k => Sys2Proof.Machine.execDividerRestart group k s
  | .delayReached out => Sys2Proof.Machine.execDelayReached out s
  | .pulseEmit po tick => Sys2Proof.Machine.execPulseEmit po tick s
  | .todFrameSend pin => Sys2Proof.Machine.execTodFrameSend pin s
  | .tdcEdge ch tick sub code falling => Sys2Proof.Machine.execTdcEdge ch tick sub code falling s
  | .calPair point half c1 c2 => Sys2Proof.Machine.execCalPair point half c1 c2 s
  | .tdcRecordWrite ch => Sys2Proof.Machine.execTdcRecordWrite ch s
  | .tdcChEn fn ch value => Sys2Proof.Machine.execTdcChEn fn ch value s
  | .tdcDrained ch => Sys2Proof.Machine.execTdcDrained ch s
  | .tdcGateArm fn gate => Sys2Proof.Machine.execTdcGateArm fn gate s
  | .tdcGateDisarm fn gate => Sys2Proof.Machine.execTdcGateDisarm fn gate s
  | .tdcGateEdge gate tick sub code falling => Sys2Proof.Machine.execTdcGateEdge gate tick sub code falling s
  | .tdcGateFrcWindow gate => Sys2Proof.Machine.execTdcGateFrcWindow gate s
  | .calCmd fn point => Sys2Proof.Machine.execCalCmd fn point s
  | .calPeriodicDue point => Sys2Proof.Machine.execCalPeriodicDue point s
  | .calibrationComplete tx rx => Sys2Proof.Machine.execCalibrationComplete tx rx s
  | .gnPortEn fn port value => Sys2Proof.Machine.execGnPortEn fn port value s
  | .gnPortStamp port tick phase largest => Sys2Proof.Machine.execGnPortStamp port tick phase largest s
  | .gnPortLost port => Sys2Proof.Machine.execGnPortLost port s
  | .gnAcqSubmit fn => Sys2Proof.Machine.execGnAcqSubmit fn s
  | .gnAcqAbortAll fn => Sys2Proof.Machine.execGnAcqAbortAll fn s
  | .acqPrnDone tick phase p1 p2 noise code doppler => Sys2Proof.Machine.execAcqPrnDone tick phase p1 p2 noise code doppler s
  | .acqJobDone => Sys2Proof.Machine.execAcqJobDone s
  | .ssStart fn => Sys2Proof.Machine.execSsStart fn s
  | .ssAbort fn code doppler ratio => Sys2Proof.Machine.execSsAbort fn code doppler ratio s
  | .ssDone code doppler ratio => Sys2Proof.Machine.execSsDone code doppler ratio s
  | .gnChStart fn => Sys2Proof.Machine.execGnChStart fn s
  | .gnChStop fn => Sys2Proof.Machine.execGnChStop fn s
  | .gnChSetTow fn => Sys2Proof.Machine.execGnChSetTow fn s
  | .chStartEpoch ch => Sys2Proof.Machine.execChStartEpoch ch s
  | .integrationBoundary ch taps => Sys2Proof.Machine.execIntegrationBoundary ch taps s
  | .loopUpdate fn ch value => Sys2Proof.Machine.execLoopUpdate fn ch value s
  | .coastExpiry ch => Sys2Proof.Machine.execCoastExpiry ch s
  | .measLatch tick => Sys2Proof.Machine.execMeasLatch tick s
  | .timeSolution tick pairs first second => Sys2Proof.Machine.execTimeSolution tick pairs first second s
  | .surveyDone x y z => Sys2Proof.Machine.execSurveyDone x y z s
  | .spPassDue => Sys2Proof.Machine.execSpPassDue s
  | .spPassComplete tick results => Sys2Proof.Machine.execSpPassComplete tick results s
  | .navFrame ch cands tow epoch week eph alm => Sys2Proof.Machine.execNavFrame ch cands tow epoch week eph alm s
  | .ppsModelCommit fn => Sys2Proof.Machine.execPpsModelCommit fn s
  | .ppsModelApply => Sys2Proof.Machine.execPpsModelApply s
  | .gnssPpsEn fn value => Sys2Proof.Machine.execGnssPpsEn fn value s
  | .gnssPpsPulse => Sys2Proof.Machine.execGnssPpsPulse s
  | .auditEnWrite fn value => Sys2Proof.Machine.execAuditEnWrite fn value s
  | .auditSleep => Sys2Proof.Machine.execAuditSleep s
  | .auditWake => Sys2Proof.Machine.execAuditWake s
  | .feWarmDone => Sys2Proof.Machine.execFeWarmDone s
  | .snapArm fn => Sys2Proof.Machine.execSnapArm fn s
  | .snapTrigger => Sys2Proof.Machine.execSnapTrigger s
  | .snapCaptureDone samples0 stamps0 samples1 stamps1 => Sys2Proof.Machine.execSnapCaptureDone samples0 stamps0 samples1 stamps1 s
  | .snapRelease fn => Sys2Proof.Machine.execSnapRelease fn s
  | .prtPortEn fn port value => Sys2Proof.Machine.execPrtPortEn fn port value s
  | .laneLockLoss lane => Sys2Proof.Machine.execLaneLockLoss lane s
  | .portLinkUp port => Sys2Proof.Machine.execPortLinkUp port s
  | .portLinkDown port cause => Sys2Proof.Machine.execPortLinkDown port cause s
  | .remoteFault port present => Sys2Proof.Machine.execRemoteFault port present s
  | .prtFrameRx port tick phase b frame codeErr fecUncorr linkCut => Sys2Proof.Machine.execPrtFrameRx port tick phase b frame codeErr fecUncorr linkCut s
  | .prtFrameTx port tick phase b => Sys2Proof.Machine.execPrtFrameTx port tick phase b s
  | .tsrEn fn port dir value => Sys2Proof.Machine.execTsrEn fn port dir value s
  | .delayReq pipe => Sys2Proof.Machine.execDelayReq pipe s
  | .signalingRequest => Sys2Proof.Machine.execSignalingRequest s
  | .ntpRequest pipe => Sys2Proof.Machine.execNtpRequest pipe s
  | .ntsRequest pipe start tick phase b => Sys2Proof.Machine.execNtsRequest pipe start tick phase b s
  | .launchMiss port => Sys2Proof.Machine.execLaunchMiss port s
  | .cadenceDue bitmap word => Sys2Proof.Machine.execCadenceDue bitmap word s
  | .followUp pipe => Sys2Proof.Machine.execFollowUp pipe s
  | .ptpClientMessage t3 => Sys2Proof.Machine.execPtpClientMessage t3 s
  | .cliAnnTimeout => Sys2Proof.Machine.execCliAnnTimeout s
  | .cliSyncTimeout => Sys2Proof.Machine.execCliSyncTimeout s
  | .clsWrite fn drain expectGen => Sys2Proof.Machine.execClsWrite fn drain expectGen s
  | .clsWriteComplete entry => Sys2Proof.Machine.execClsWriteComplete entry s
  | .clsRead fn => Sys2Proof.Machine.execClsRead fn s
  | .clsInvalidate fn drain expectGen => Sys2Proof.Machine.execClsInvalidate fn drain expectGen s
  | .ctxRead fn => Sys2Proof.Machine.execCtxRead fn s
  | .ctxInstall fn => Sys2Proof.Machine.execCtxInstall fn s
  | .ctxRelease fn => Sys2Proof.Machine.execCtxRelease fn s
  | .ctxCancelGrant fn types => Sys2Proof.Machine.execCtxCancelGrant fn types s
  | .grantSweep => Sys2Proof.Machine.execGrantSweep s
  | .saWrite fn => Sys2Proof.Machine.execSaWrite fn s
  | .saRead fn => Sys2Proof.Machine.execSaRead fn s
  | .saLoadKey fn => Sys2Proof.Machine.execSaLoadKey fn s
  | .saUnloadKey fn => Sys2Proof.Machine.execSaUnloadKey fn s
  | .saRotate fn frcTime => Sys2Proof.Machine.execSaRotate fn frcTime s
  | .rotateTick sa => Sys2Proof.Machine.execRotateTick sa s
  | .saInvalidate fn => Sys2Proof.Machine.execSaInvalidate fn s
  | .ntsLoad fn => Sys2Proof.Machine.execNtsLoad fn s
  | .ntsMakeCurrent fn => Sys2Proof.Machine.execNtsMakeCurrent fn s
  | .ntsUnload fn => Sys2Proof.Machine.execNtsUnload fn s
  | .ntsMint fn count => Sys2Proof.Machine.execNtsMint fn count s
  | .ntsRead fn => Sys2Proof.Machine.execNtsRead fn s
  | .schSelect port => Sys2Proof.Machine.execSchSelect port s
  | .qWrite fn => Sys2Proof.Machine.execQWrite fn s
  | .qRead fn clearMax => Sys2Proof.Machine.execQRead fn clearMax s
  | .qFlush fn => Sys2Proof.Machine.execQFlush fn s
  | .gateListArm fn port value => Sys2Proof.Machine.execGateListArm fn port value s
  | .gateListAbort fn port value => Sys2Proof.Machine.execGateListAbort fn port value s
  | .gateTakeover port tick => Sys2Proof.Machine.execGateTakeover port tick s
  | .gateEntryStart port tick => Sys2Proof.Machine.execGateEntryStart port tick s
  | .polWrite fn => Sys2Proof.Machine.execPolWrite fn s
  | .polRead fn => Sys2Proof.Machine.execPolRead fn s
  | .polRefill fn => Sys2Proof.Machine.execPolRefill fn s
  | .polClearCounts fn => Sys2Proof.Machine.execPolClearCounts fn s
  | .ubwPortEn fn port value => Sys2Proof.Machine.execUbwPortEn fn port value s
  | .ubwBlockLock port locked => Sys2Proof.Machine.execUbwBlockLock port locked s
  | .ubwMarkerRx port block tick phase marker => Sys2Proof.Machine.execUbwMarkerRx port block tick phase marker s
  | .markerMissing port block => Sys2Proof.Machine.execMarkerMissing port block s
  | .superframeTx port tick phase => Sys2Proof.Machine.execSuperframeTx port tick phase s
  | .ubwTimingMsg port message => Sys2Proof.Machine.execUbwTimingMsg port message s
  | .exchangeWindowEnd port tick => Sys2Proof.Machine.execExchangeWindowEnd port tick s
  | .ubwChainFrame port tick phase frame error egress => Sys2Proof.Machine.execUbwChainFrame port tick phase frame error egress s
  | .heartbeatSilent => Sys2Proof.Machine.execHeartbeatSilent s
  | .heartbeatContention => Sys2Proof.Machine.execHeartbeatContention s
  | .mateHoldoffExpiry => Sys2Proof.Machine.execMateHoldoffExpiry s
  | .mateSoloTimeout => Sys2Proof.Machine.execMateSoloTimeout s
  | .toffeeStale => Sys2Proof.Machine.execToffeeStale s
  | .obsWindow tick seen => Sys2Proof.Machine.execObsWindow tick seen s
  | .ksReadAttr fn => Sys2Proof.Machine.execKsReadAttr fn s
  | .ksGenerate fn stored => Sys2Proof.Machine.execKsGenerate fn stored s
  | .ksDerive fn stored => Sys2Proof.Machine.execKsDerive fn stored s
  | .ksRestrict fn stored => Sys2Proof.Machine.execKsRestrict fn stored s
  | .ksWipe fn stored => Sys2Proof.Machine.execKsWipe fn stored s
  | .ksEnvApply fn stored => Sys2Proof.Machine.execKsEnvApply fn stored s
  | .ksIdStatement fn => Sys2Proof.Machine.execKsIdStatement fn s
  | .ksEkCert fn => Sys2Proof.Machine.execKsEkCert fn s
  | .ksAuthSet fn stored => Sys2Proof.Machine.execKsAuthSet fn stored s
  | .ksLockAuth fn => Sys2Proof.Machine.execKsLockAuth fn s
  | .ksProvision fn => Sys2Proof.Machine.execKsProvision fn s
  | .ksDeploy fn => Sys2Proof.Machine.execKsDeploy fn s
  | .ksReturn fn => Sys2Proof.Machine.execKsReturn fn s
  | .tamperTrip source => Sys2Proof.Machine.execTamperTrip source s
  | .keyDelivery master slot usage tenant => Sys2Proof.Machine.execKeyDelivery master slot usage tenant s
  | .slotExpiryCheck tick => Sys2Proof.Machine.execSlotExpiryCheck tick s
  | .shmAccess bank requests ce ue => Sys2Proof.Machine.execShmAccess bank requests ce ue s
  | .ceWriteback bank ue => Sys2Proof.Machine.execCeWriteback bank ue s
  | .shmAtomAdd fn wide => Sys2Proof.Machine.execShmAtomAdd fn wide s
  | .shmAtomSwap fn wide => Sys2Proof.Machine.execShmAtomSwap fn wide s
  | .shmCtWrite fn => Sys2Proof.Machine.execShmCtWrite fn s
  | .shmCtRead fn => Sys2Proof.Machine.execShmCtRead fn s
  | .contractWindowEnd tick waiting => Sys2Proof.Machine.execContractWindowEnd tick waiting s
  | .sweepGroupDone group => Sys2Proof.Machine.execSweepGroupDone group s
  | .walkRowStart => Sys2Proof.Machine.execWalkRowStart s
  | .walkRowDone faulty => Sys2Proof.Machine.execWalkRowDone faulty s
  | .walkStarved => Sys2Proof.Machine.execWalkStarved s
  | .sqDoorbell fn ring value => Sys2Proof.Machine.execSqDoorbell fn ring value s
  | .ringFetch => Sys2Proof.Machine.execRingFetch s
  | .ringCommand fn ring => Sys2Proof.Machine.execRingCommand fn ring s
  | .ringCompletion slot => Sys2Proof.Machine.execRingCompletion slot s
  | .hifNop fn => Sys2Proof.Machine.execHifNop fn s
  | .hifCopy fn => Sys2Proof.Machine.execHifCopy fn s
  | .ptWrite fn => Sys2Proof.Machine.execPtWrite fn s
  | .ptRead fn => Sys2Proof.Machine.execPtRead fn s
  | .ptCommit fn => Sys2Proof.Machine.execPtCommit fn s
  | .ptCommitDrained => Sys2Proof.Machine.execPtCommitDrained s
  | .ptAbort fn => Sys2Proof.Machine.execPtAbort fn s
  | .suHold fn => Sys2Proof.Machine.execSuHold fn s
  | .suRelease fn => Sys2Proof.Machine.execSuRelease fn s
  | .pwrReq fn => Sys2Proof.Machine.execPwrReq fn s
  | .txDescriptor => Sys2Proof.Machine.execTxDescriptor s
  | .txCompletion => Sys2Proof.Machine.execTxCompletion s
  | .rxDelivery => Sys2Proof.Machine.execRxDelivery s
  | .irqIntervalEnd fn vector => Sys2Proof.Machine.execIrqIntervalEnd fn vector s
  | .mmioShmAccess fn addr act => Sys2Proof.Machine.execMmioShmAccess fn addr act s
  | .mmioMalformed fn addr write => Sys2Proof.Machine.execMmioMalformed fn addr write s
  | .mmioReadRefused fn addr => Sys2Proof.Machine.execMmioReadRefused fn addr s
  | .hifLatTolWrite fn value => Sys2Proof.Machine.execHifLatTolWrite fn value s
  | .functionLevelReset f => Sys2Proof.Machine.execFunctionLevelReset f s
  | .pcieLinkDown => Sys2Proof.Machine.execPcieLinkDown s
  | .pcieLinkUp speed width vfs ltr => Sys2Proof.Machine.execPcieLinkUp speed width vfs ltr s
  | .stwLoad fn => Sys2Proof.Machine.execStwLoad fn s
  | .stwRestructure fn src readOk => Sys2Proof.Machine.execStwRestructure fn src readOk s
  | .rsStaged => Sys2Proof.Machine.execRsStaged s
  | .rsLate => Sys2Proof.Machine.execRsLate s
  | .rsApply => Sys2Proof.Machine.execRsApply s
  | .rsDone => Sys2Proof.Machine.execRsDone s
  | .stwAbort fn => Sys2Proof.Machine.execStwAbort fn s
  | .stwVerify fn src readOk => Sys2Proof.Machine.execStwVerify fn src readOk s
  | .stwSvnCommit fn => Sys2Proof.Machine.execStwSvnCommit fn s
  | .powerOnReset vbat => Sys2Proof.Machine.execPowerOnReset vbat s
  | .resetNAssert => Sys2Proof.Machine.execResetNAssert s
  | .resetNRelease heldMs => Sys2Proof.Machine.execResetNRelease heldMs s
  | .stuckRelease heldMs => Sys2Proof.Machine.execStuckRelease heldMs s
  | .stuckClearCount => Sys2Proof.Machine.execStuckClearCount s
  | .perstN => Sys2Proof.Machine.execPerstN s
  | .rstColdReset fn => Sys2Proof.Machine.execRstColdReset fn s
  | .rstWarmReset fn => Sys2Proof.Machine.execRstWarmReset fn s
  | .rstOptWrite fn verified => Sys2Proof.Machine.execRstOptWrite fn verified s
  | .rstClearStuck fn => Sys2Proof.Machine.execRstClearStuck fn s
  | .proofingStepDone proof => Sys2Proof.Machine.execProofingStepDone proof s
  | .proofingTimeout => Sys2Proof.Machine.execProofingTimeout s
  | .governorDecision idle => Sys2Proof.Machine.execGovernorDecision idle s
  | .engineWake engine => Sys2Proof.Machine.execEngineWake engine s
  | .pwrEnter fn => Sys2Proof.Machine.execPwrEnter fn s
  | .wakeEvent source => Sys2Proof.Machine.execWakeEvent source s
  | .faultHit sources => Sys2Proof.Machine.execFaultHit sources s
  | .tmrCompare mismatch => Sys2Proof.Machine.execTmrCompare mismatch s
  | .readyTimeout block => Sys2Proof.Machine.execReadyTimeout block s
  | .sclkStop => Sys2Proof.Machine.execSclkStop s
  | .fltLogWrite => Sys2Proof.Machine.execFltLogWrite s
  | .fltSrcWrite fn => Sys2Proof.Machine.execFltSrcWrite fn s
  | .fltSrcRead fn => Sys2Proof.Machine.execFltSrcRead fn s
  | .fltBlockReset fn => Sys2Proof.Machine.execFltBlockReset fn s
  | .fltInject fn real => Sys2Proof.Machine.execFltInject fn real s
  | .fltLock fn => Sys2Proof.Machine.execFltLock fn s
  | .pmcCntLoRead fn => Sys2Proof.Machine.execPmcCntLoRead fn s
  | .pmcWinCfgWrite fn n reg value => Sys2Proof.Machine.execPmcWinCfgWrite fn n reg value s
  | .pmcWinValLoRead fn n => Sys2Proof.Machine.execPmcWinValLoRead fn n s
  | .pmcWindowEnd => Sys2Proof.Machine.execPmcWindowEnd s
  | .pmcSnapshot fn frcTime => Sys2Proof.Machine.execPmcSnapshot fn frcTime s
  | .pmcSnapshotTick => Sys2Proof.Machine.execPmcSnapshotTick s
  | .pmcSnapshotDone => Sys2Proof.Machine.execPmcSnapshotDone s
  | .mgpEn fn value => Sys2Proof.Machine.execMgpEn fn value s
  | .mgpLinkChange up speed full => Sys2Proof.Machine.execMgpLinkChange up speed full s
  | .mdioStart fn value => Sys2Proof.Machine.execMdioStart fn value s
  | .mdioDone data => Sys2Proof.Machine.execMdioDone data s
  | .mgpFrameRx tick phase frame codeErr => Sys2Proof.Machine.execMgpFrameRx tick phase frame codeErr s
  | .mgpFrameTx tick phase collisions late deferred => Sys2Proof.Machine.execMgpFrameTx tick phase collisions late deferred s
  | .mgpWakeMatch frame => Sys2Proof.Machine.execMgpWakeMatch frame s
  | .heartbeatSeen => Sys2Proof.Machine.execHeartbeatSeen s
  | .sclkReturn => Sys2Proof.Machine.execSclkReturn s

end Sys2Proof.Machine
end

