-- ==== Sys2Proof/Machine/Step.lean ====
section
/-! DEFINITION. One step: the command at the front of the queue, or a tick of FRC when the queue is empty. -/

namespace Sys2Proof.Machine

/-- A tick with no command waiting: FRC counts while it runs (R45). DESIGN CHOICE: time passes only here. -/
def State.tickFrc (s : State) : State :=
  if s.sh F.TB_STATUS_FRC_RUN = 1 then { s with frc := (s.frc + 1) % 2 ^ 64 } else s

/-- One step. -/
def step (s : State) : Host.Outcome State Fault Refusal :=
  match s.pending with
  | [] => .next s.tickFrc
  | c :: rest => exec c { s with pending := rest }

/-- The state with the command that a word spells in front of its queue; unchanged where the word spells none. -/
def State.withFetchWord (s : State) (nbits w : Nat) : State :=
  match decodeTableWord nbits w with
  | some c => { s with pending := c :: s.pending }
  | none => s

end Sys2Proof.Machine
end

