-- ==== Sys2Proof/Safety.lean ====
section
/-! DEFINITION. What claims speak of: well-formed states, runs, and what a command leaves alone. -/

namespace Sys2Proof.Machine

/-- A well-formed state: the three byte memories are in canonical form, and the register file lists every field once, in order. -/
def State.wf (s : State) : Bool :=
  Memory.wf s.shm && Memory.wf s.hostMem && Memory.wf s.rst.flash && twf s.regs && twf s.eff

/-- The state after n steps, if no step stops. -/
def runs : Nat → State → Option State
  | 0, s => some s
  | n + 1, s =>
    match step s with
    | .next t => runs n t
    | _ => none

/-- A run of n steps stops nowhere. -/
def safeRun (n : Nat) (s : State) : Bool := (runs n s).isSome

/-- Only fields of register copy c differ: every other register, all memory and all other state are as before. -/
def onlyCopy (c : Nat) (s t : State) : Prop := t = { s with regs := t.regs } ∧ ∀ k, k / 2 ^ 24 ≠ c → tget t.regs k = tget s.regs k

/-- Only registers differ. -/
def onlyRegs (s t : State) : Prop := t = { s with regs := t.regs }

/-- Every byte of the three memories reads as before. -/
def sameMem (s t : State) : Prop := t.shm = s.shm ∧ t.hostMem = s.hostMem ∧ t.rst.flash = s.rst.flash

/-- A command register of a block takes a function's command now: BUSY is 0, the device is not in the safe state, no restructure holds the
block and its door is OPEN (R34, R534, R572). -/
def State.takes (s : State) (b : Blk) (st : StatRef) (fn : Nat) : Bool :=
  s.rd (fn + 1) st.busy != 1 && !s.safe && !s.rsHolds b fn && s.doorOpen b

/-- An ordinary write of a function to a register of a block reaches it now: no safe state, an OPEN door, no restructure (R34, R534, R572). -/
def State.takesWrite (s : State) (b : Blk) (fn : Nat) : Bool := !s.safe && s.doorOpen b && !s.rsHolds b fn

/-- A function's own register window. -/
abbrev ownWin (fn : Fn) : Win := ⟨fn.val, fn.val + 1⟩

/-- WR or LOST of an event ring: the registers that posting an event may change. -/
def erKey (k : Nat) : Bool := k % 2 ^ 24 == F.HIF_ER_WR.key 0 || k % 2 ^ 24 == F.HIF_ER_LOST.key 0

/-- Only what posting events may change differs: event flags, counts, interrupt vectors, the event rings' WR and LOST and the octets
of their records (R509, R510, R511, R578). -/
def onlyEvents (s t : State) : Prop :=
  t = { s with
    regs := t.regs, evtAll := t.evtAll, evtOwn := t.evtOwn, vecs := t.vecs, erLost := t.erLost, shm := t.shm, hostMem := t.hostMem, pmc := t.pmc
    shmx := { s.shmx with poison := t.shmx.poison } } ∧
  ∀ k, erKey k = false → tget t.regs k = tget s.regs k

/-- No event ring is enabled. -/
def noRings (s : State) : Bool := (erCopies s).isEmpty

end Sys2Proof.Machine
end

