-- ==== Sys2Proof/Certificates/Slice0/Obligations.lean ====
section
/-! DEFINITION. The statements about the model, one definition each: what every command answers, how a step and a reset behave, and what every step
keeps. -/

set_option Elab.async false

open Sys2Proof Sys2Proof.Machine

/-- For every command c and every state, a step with c at the front of the queue is c's execution on the state with the queue's rest. -/
def Obligations.StepRunsFrontCommand : Prop :=
  (∀ (c : Instr) (rest : List Instr) (s : State),
      step { s with pending := c :: rest } = exec c { s with pending := rest })

/-- With an empty queue the model's step moves FRC by one tick, modulo 2^64, while FRC runs, and changes nothing otherwise. That time passes only there
is the model's own choice (assumption 2). -/
def Obligations.IdleStepIsOneTick : Prop :=
  (∀ (s : State),
      s.pending = [] → s.sh F.TB_STATUS_FRC_RUN = 1 →
      step s = .next { s with frc := (s.frc + 1) % 2 ^ 64 }) ∧
  (∀ (s : State),
      s.pending = [] → s.sh F.TB_STATUS_FRC_RUN ≠ 1 →
      step s = .next s)

/-- Every command, with any operands and in any state, answers a next state: none ends in a fault or a refusal. -/
def Obligations.EveryCommandCompletes : Prop :=
  (∀ (c : Instr) (s : State),
      ∃ t, exec c s = .next t)

/-- After reset no command is pending, no memory is written, FRC is 0, every door has generation 1 and is closed because Proofing stands at its step 0,
and the device is not in the safe state; that state is well-formed. An empty queue and the well-formed representation are the model's. -/
def Obligations.ResetState : Prop :=
  (State.reset.pending = [] ∧ State.reset.shm = [] ∧ State.reset.hostMem = [] ∧ State.reset.frc = 0 ∧ (∀ b : Blk, State.reset.gen b = 1 ∧ State.reset.doorOpen b = false) ∧
      State.reset.sh F.RST_STATUS_PROOF_STEP = 0 ∧ State.reset.safe = false ∧ State.reset.wf = true)

/-- From every state whose three byte memories are in canonical form and whose register file lists each field once and in order, every step that answers
a next state answers one with the same property. -/
def Obligations.EveryStepKeepsTheStateWellFormed : Prop :=
  (∀ (t : State) (s : State),
      s.wf = true → step s = .next t →
      t.wf = true)

/-- For CG0 and CG6 to CG15, a write of ARM with a trigger kind that gives an arm sets that arm in place of any other and shows ARM and ARMED, and a
write of ABORT discards the group's arm and shadows; both by the secure world or the steward, at an open door, while no restructure holds the group.
The next state is given whole. -/
def Obligations.CommitGroupArms : Prop :=
  (∀ (fn : Fn) (kind : Fin 4) (a : CgArm) (s : State),
      s.takesWrite .tb fn.val = true → s.secureSt fn.val = true → s.rsHoldsGroup 0 = false → armOf (s.wr 0 F.TB_CG0_CTRL_KIND kind.val) kind.val
      (s.rd64 0 F.TB_CG0_TIME_LO F.TB_CG0_TIME_HI) (cg0Boundary s) = some a →
      exec (.cg0Arm fn kind) s = .next (((setArm 0 a (s.wr 0 F.TB_CG0_CTRL_KIND kind.val)).wr 0 F.TB_CG0_CTRL_ARM 1).wr 0 F.TB_CG0_CTRL_ARMED 1)) ∧
  (∀ (fn : Fn) (kind : Fin 4) (arm : Bool) (s : State),
      s.takesWrite .tb fn.val = true → s.secureSt fn.val = true → s.rsHoldsGroup 0 = false →
      exec (.cg0Abort fn kind arm) s =
        .next (((dropArm 0 (dropShadows cg0Fields (s.wr 0 F.TB_CG0_CTRL_KIND kind.val))).wr 0 F.TB_CG0_CTRL_ARM 0).wr 0 F.TB_CG0_CTRL_ARMED 0)) ∧
  (∀ (fn : Fn) (kind : Fin 4) (a : CgArm) (s : State),
      s.takesWrite .prt fn.val = true → s.secureSt fn.val = true → s.rsHoldsGroup 14 = false → armOf (s.wr 0 F.PRT_CG14_CTRL_KIND kind.val) kind.val
      (s.rd64 0 F.PRT_CG14_TIME_LO F.PRT_CG14_TIME_HI) (cg0Boundary s) = some a →
      exec (.cg14Arm fn kind) s = .next (((setArm 14 a (s.wr 0 F.PRT_CG14_CTRL_KIND kind.val)).wr 0 F.PRT_CG14_CTRL_ARM 1).wr 0 F.PRT_CG14_CTRL_ARMED 1)) ∧
  (∀ (fn : Fn) (kind : Fin 4) (arm : Bool) (s : State),
      s.takesWrite .prt fn.val = true → s.secureSt fn.val = true → s.rsHoldsGroup 14 = false →
      exec (.cg14Abort fn kind arm) s =
        .next (((dropArm 14 (dropShadows cg14Fields (s.wr 0 F.PRT_CG14_CTRL_KIND kind.val))).wr 0 F.PRT_CG14_CTRL_ARM 0).wr 0 F.PRT_CG14_CTRL_ARMED 0)) ∧
  (∀ (fn : Fn) (kind : Fin 4) (a : CgArm) (s : State),
      s.takesWrite .ubw fn.val = true → s.secureSt fn.val = true → s.rsHoldsGroup 15 = false → armOf (s.wr 0 F.UBW_CG15_CTRL_KIND kind.val) kind.val
      (s.rd64 0 F.UBW_CG15_TIME_LO F.UBW_CG15_TIME_HI) (cg0Boundary s) = some a →
      exec (.cg15Arm fn kind) s = .next (((setArm 15 a (s.wr 0 F.UBW_CG15_CTRL_KIND kind.val)).wr 0 F.UBW_CG15_CTRL_ARM 1).wr 0 F.UBW_CG15_CTRL_ARMED 1)) ∧
  (∀ (fn : Fn) (kind : Fin 4) (arm : Bool) (s : State),
      s.takesWrite .ubw fn.val = true → s.secureSt fn.val = true → s.rsHoldsGroup 15 = false →
      exec (.cg15Abort fn kind arm) s =
        .next (((dropArm 15 (dropShadows cg15Fields (s.wr 0 F.UBW_CG15_CTRL_KIND kind.val))).wr 0 F.UBW_CG15_CTRL_ARM 0).wr 0 F.UBW_CG15_CTRL_ARMED 0)) ∧
  (∀ (fn : Fn) (group : Fin 8) (value : BitVec 32) (a : CgArm) (s : State),
      s.takesWrite .syn fn.val = true → synMay s fn.val = true → s.rsHoldsGroup (6 + group.val) = false → bitOf (value.toNat ||| 0x10) 5 = false →
      bits (value.toNat ||| 0x10) 0 2 ≠ 3 → armOf s (bits (value.toNat ||| 0x10) 0 2) (s.rd64 0 (F.SYN_CG_TIME_LO (6 + group.val)) (F.SYN_CG_TIME_HI
      (6 + group.val))) (s.frc + 64) = some a →
      ∃ t, exec (.synCgArm fn group value) s = .next t ∧ tget t.cgs (6 + group.val) = some a ∧ t.sh (F.SYN_CG_CTRL_ARMED (6 + group.val)) = 1 ∧
        t.sh (F.SYN_CG_CTRL_ALIGN (6 + group.val)) = bits (value.toNat ||| 0x10) 6 1 % 2 ∧ t.sh (F.SYN_CG_STATUS_LAST_REFUSED (6 + group.val)) = 0 ∧
        (∀ g, g ≠ 6 + group.val → tget t.cgs g = tget s.cgs g) ∧ sameMem s t) ∧
  (∀ (fn : Fn) (group : Fin 8) (value : BitVec 32) (s : State),
      s.takesWrite .syn fn.val = true → synMay s fn.val = true → s.rsHoldsGroup (6 + group.val) = false →
      ∃ t, exec (.synCgAbort fn group value) s = .next t ∧ t.sh (F.SYN_CG_CTRL_ARM (6 + group.val)) = 0 ∧ t.sh (F.SYN_CG_CTRL_ARMED (6 + group.val)) = 0 ∧
        sameMem s t)

/-- GROUP_COMMIT at the commit instant of an armed group: CG14 and CG15 make all their shadows the values in effect, drop the arm and post the commit
event; CG1 to CG5 put the rate word of their disciplined oscillator in effect. An unarmed group commits nothing. -/
def Obligations.GroupCommits : Prop :=
  (∀ (tick : BitVec 64) (a : CgArm) (s : State),
      tget s.cgs 14 = some a → a.kind < 2 → a.tick = tick.toNat → tick.toNat ≤ s.frc →
      exec (.groupCommit 14 tick) s = .next (postAt Ev.PRT_CG_COMMIT tick.toNat 14 (oct [14, 0])
        (((dropArm 14 (commitShadows cg14Fields s)).wr 0 F.PRT_CG14_CTRL_ARM 0).wr 0 F.PRT_CG14_CTRL_ARMED 0))) ∧
  (∀ (tick : BitVec 64) (a : CgArm) (s : State),
      tget s.cgs 15 = some a → a.kind < 2 → a.tick = tick.toNat → tick.toNat ≤ s.frc →
      exec (.groupCommit 15 tick) s = .next (postAt Ev.UBW_CG_COMMIT tick.toNat 15 (oct [15, 0])
        (((dropArm 15 (commitShadows cg15Fields s)).wr 0 F.UBW_CG15_CTRL_ARM 0).wr 0 F.UBW_CG15_CTRL_ARMED 0))) ∧
  (∀ (group : Fin 64) (tick : BitVec 64) (s : State),
      tget s.cgs group.val = none →
      exec (.groupCommit group tick) s = .next s)

/-- For every block, a 1 written to a bit of its EVT_STATUS register clears that flag in the copy of the writing function, and the write changes nothing
else: no other function's flags, no other register, no memory. -/
def Obligations.EventFlagsCleared : Prop :=
  (∀ (fn : Fn) (b : Blk) (v : BitVec 32) (s : State),
      s.takesWrite b fn.val = true →
      exec (.registerWrite fn (BitVec.ofNat 19 (b.code * 0x4000 + 4)) v) s =
        .next { s with evtOwn := tset s.evtOwn (b.code * 1024 + (fn.val + 1)) (s.evStatus (fn.val + 1) b.code &&& (2 ^ 32 - 1 - v.toNat)) })

/-- A read of TB_FRC_LO latches FRC; a write of VC_SEL selects a clock and empties the latch; a read of VC_BASE0 latches the base, the base tick and the
rate of the selected clock for a function that may read it; START captures FRC, the state and the bound of a clock and counts SEQ up; a PTM Request
is answered with the time of the named clock. -/
def Obligations.TimebaseReads : Prop :=
  (∀ (fn : Fn) (s : State),
      exec (.tbFrcLoRead fn) s = .next ((s.wr (fn.val + 1) F.TB_FRC_LO s.frc).wr (fn.val + 1) F.TB_FRC_HI (s.frc / 2 ^ 32))) ∧
  (∀ (fn : Fn) (vc : Fin 1024) (s : State),
      s.takesWrite .tb fn.val = true →
      exec (.vcSelWrite fn vc) s = .next (each latchFields (fun f t => t.wr (fn.val + 1) f 0) (s.wr (fn.val + 1) F.VC_SEL vc.val))) ∧
  (∀ (fn : Fn) (s : State),
      vcReadable s (s.rd (fn.val + 1) F.VC_SEL) fn.val = true →
      ∃ t, exec (.vcBase0Read fn) s = .next t ∧
        t.rd (fn.val + 1) F.VC_BASE0 = t96 (s.vc (s.rd (fn.val + 1) F.VC_SEL)).par.b % 2 ^ 32 ∧
        t.rd64 (fn.val + 1) F.VC_FRCBASE_LO F.VC_FRCBASE_HI = (s.vc (s.rd (fn.val + 1) F.VC_SEL)).par.f % 2 ^ 64 ∧
        t.rd64 (fn.val + 1) F.VC_RATE_LO F.VC_RATE_HI = uns 48 (s.vc (s.rd (fn.val + 1) F.VC_SEL)).par.r ∧ onlyCopy (fn.val + 1) s t) ∧
  (∀ (fn : Fn) (vc : Fin 1024) (s : State),
      s.takesWrite .tb fn.val = true → vcReadable s vc.val fn.val = true →
      ∃ t, exec (.tbCapture fn vc) s = .next t ∧ t.rd64 (fn.val + 1) F.TB_CAP_FRC_LO F.TB_CAP_FRC_HI = s.frc % 2 ^ 64 ∧
        t.rd (fn.val + 1) F.TB_CAP_SEQ = (s.rd (fn.val + 1) F.TB_CAP_SEQ + 1) % 2 ^ F.TB_CAP_SEQ.w ∧
        t.rd (fn.val + 1) F.TB_CAP_STATUS_REFUSED = 0 ∧ t.rd (fn.val + 1) F.TB_CAP_STATUS_VC = vc.val ∧
        t.rd64 (fn.val + 1) F.TB_CAP_BOUND_LO F.TB_CAP_BOUND_HI = bound s vc.val s.frc 0 qTick % 2 ^ 40 ∧ onlyCopy (fn.val + 1) s t) ∧
  (∀ (tick : BitVec 64) (phase : Fin 32) (s : State),
      s.sh F.HIF_STATUS_LINK_UP ≠ 0 → s.sh F.TB_PTM_CTRL_EN = 1 → (s.vc (s.sh F.TB_PTM_CTRL_VC)).state = .ratified →
      exec (.ptmRequest tick phase) s = .next { s with hif := { s.hif with ptm := some (32 * tick.toNat + phase.val, some (uns 64 (vcTime s (s.sh F.TB_PTM_CTRL_VC) (32 * tick.toNat + phase.val) / 2 ^ 48))) } })

/-- Each command of VC_CMD that is allowed and well-formed is accepted with OK and leaves what it asks for pending on the selected clock: a SET with its
tick and value in state SET_PENDING, a RATE, an ADJUST within the limit, a RETIRE, a segment in the lowest EMPTY slot; ABORT withdraws the pending
changes whose tick has not been reached; SCHED_CANCEL and SCHED_CLEAR empty PENDING slots; RESET_CLOCK of a VC0 that is not RATIFIED completes
without effect. The next state is given whole. -/
def Obligations.ClockCommands : Prop :=
  (∀ (fn : Fn) (offset frcTime : Bool) (c : Nat) (s : State),
      s.takes .tb stVc fn.val = true → vcMay s (s.rd (fn.val + 1) F.VC_SEL) fn.val = true → ((s.rd (fn.val + 1) F.VC_SEL) ≠ 0 ∨ fn.val ≠ stewardFn) →
      (s.vc (s.rd (fn.val + 1) F.VC_SEL)).state ≠ .ratified → (s.vc (s.rd (fn.val + 1) F.VC_SEL)).par.parentVc0 = false → t96Valid (vcArg2 s (ownWin
      fn) 0 + 2 ^ 64 * vcArg s (ownWin fn) 2) = true → vcTrigger s (ownWin fn) frcTime = some c →
      exec (.vcSet fn offset frcTime) s = .next (completeOk stVc (ownWin fn) (syncTb (s.setVc (s.rd (fn.val + 1) F.VC_SEL) { (s.vc (s.rd (fn.val + 1) F.VC_SEL)) with state := .setPending, pendSet := some ⟨c, offset, if offset then sgn 64 (vcArg2 s (ownWin fn) 0) else (linOfT96 (vcArg2 s (ownWin fn) 0 + 2 ^ 64 * vcArg s (ownWin fn) 2) : Int), fn.val⟩ })))) ∧
  (∀ (fn : Fn) (s : State),
      s.takes .tb stVc fn.val = true → vcMay s (s.rd (fn.val + 1) F.VC_SEL) fn.val = true → (s.vc (s.rd (fn.val + 1) F.VC_SEL)).state ≠ .setPending →
      exec (.vcAbort fn) s = .next (completeOk stVc (ownWin fn) (s.setVc (s.rd (fn.val + 1) F.VC_SEL) { (s.vc (s.rd (fn.val + 1) F.VC_SEL)) with pendSet := keepDue s.frc (·.tick) (s.vc (s.rd (fn.val + 1) F.VC_SEL)).pendSet, pendRate := keepDue s.frc (·.1) (s.vc (s.rd (fn.val + 1) F.VC_SEL)).pendRate, pendAdj := keepDue s.frc (·.1) (s.vc (s.rd (fn.val + 1) F.VC_SEL)).pendAdj, pendRetire := keepDue s.frc id (s.vc (s.rd (fn.val + 1) F.VC_SEL)).pendRetire }))) ∧
  (∀ (fn : Fn) (frcTime : Bool) (c : Nat) (s : State),
      s.takes .tb stVc fn.val = true → (s.rd (fn.val + 1) F.VC_SEL) ≠ 0 → vcMay s (s.rd (fn.val + 1) F.VC_SEL) fn.val = true → vcTrigger s (ownWin fn)
      frcTime = some c →
      exec (.vcRate fn frcTime) s =
        .next (completeOk stVc (ownWin fn) (s.setVc (s.rd (fn.val + 1) F.VC_SEL) { (s.vc (s.rd (fn.val + 1) F.VC_SEL)) with pendRate := some (c, sgn 48 (vcArg2 s (ownWin fn) 0)) }))) ∧
  (∀ (fn : Fn) (frcTime : Bool) (c : Nat) (s : State),
      s.takes .tb stVc fn.val = true → vcMay s (s.rd (fn.val + 1) F.VC_SEL) fn.val = true → (s.vc (s.rd (fn.val + 1) F.VC_SEL)).state = .ratified →
      (sgn 64 (vcArg2 s (ownWin fn) 0)).natAbs ≤ (s.vc (s.rd (fn.val + 1) F.VC_SEL)).adjLimit * 65536 → vcTrigger s (ownWin fn) frcTime = some c →
      (s.rd (fn.val + 1) F.VC_SEL) ≠ 0 →
      exec (.vcAdjust fn frcTime) s =
        .next (completeOk stVc (ownWin fn) (s.setVc (s.rd (fn.val + 1) F.VC_SEL) { (s.vc (s.rd (fn.val + 1) F.VC_SEL)) with pendAdj := some (c, sgn 64 (vcArg2 s (ownWin fn) 0)) }))) ∧
  (∀ (fn : Fn) (frcTime : Bool) (c : Nat) (s : State),
      s.takes .tb stVc fn.val = true → s.secureSt fn.val = true → (s.rd (fn.val + 1) F.VC_SEL) = 0 → (s.vc 0).state = .ratified → fn.val = stewardFn →
      (sgn 64 (vcArg2 s (ownWin fn) 0)).natAbs ≤ (s.vc 0).adjLimit * 65536 → vcTrigger s (ownWin fn) frcTime = some c →
      exec (.vcAdjust fn frcTime) s =
        .next (completeOk stVc (ownWin fn) (s.setVc 0 { s.vc 0 with pendAdj := some (c, sgn 64 (vcArg2 s (ownWin fn) 0)) }))) ∧
  (∀ (fn : Fn) (kind : Fin 4) (i : Fin 8) (s : State),
      s.takes .tb stVc fn.val = true → (s.rd (fn.val + 1) F.VC_SEL) ≠ 0 → vcMay s (s.rd (fn.val + 1) F.VC_SEL) fn.val = true → (s.vc (s.rd (fn.val +
      1) F.VC_SEL)).state = .ratified → kind.val = 0 → (List.range 8).find? (fun j => ((s.vc (s.rd (fn.val + 1) F.VC_SEL)).slot j).state == 0) = some
      i.val → s.frc + 64 ≤ vcArg2 s (ownWin fn) 4 → ((List.range 8).any fun j => ((s.vc (s.rd (fn.val + 1) F.VC_SEL)).slot j).state == 1 && ((s.vc
      (s.rd (fn.val + 1) F.VC_SEL)).slot j).tick == vcArg2 s (ownWin fn) 4) = false →
      exec (.vcSchedAdd fn kind) s = .next (completeOk stVc (ownWin fn) ((s.setVc (s.rd (fn.val + 1) F.VC_SEL) { (s.vc (s.rd (fn.val + 1) F.VC_SEL)) with slots := tset (s.vc (s.rd (fn.val + 1) F.VC_SEL)).slots i.val ⟨1, 0, vcArg2 s (ownWin fn) 4, sgn 48 (vcArg2 s (ownWin fn) 0), 0, none⟩ }).wr (fn.val + 1) F.VC_CMD_STATUS_SLOT i.val))) ∧
  (∀ (fn : Fn) (slot : Fin 8) (s : State),
      s.takes .tb stVc fn.val = true → (s.rd (fn.val + 1) F.VC_SEL) ≠ 0 → vcMay s (s.rd (fn.val + 1) F.VC_SEL) fn.val = true → slotBefore s ((s.vc
      (s.rd (fn.val + 1) F.VC_SEL)).slot slot.val) = true →
      exec (.vcSchedCancel fn slot) s =
        .next (completeOk stVc (ownWin fn) (s.setVc (s.rd (fn.val + 1) F.VC_SEL) { (s.vc (s.rd (fn.val + 1) F.VC_SEL)) with slots := tset (s.vc (s.rd (fn.val + 1) F.VC_SEL)).slots slot.val { (s.vc (s.rd (fn.val + 1) F.VC_SEL)).slot slot.val with state := 0 } }))) ∧
  (∀ (fn : Fn) (s : State),
      s.takes .tb stVc fn.val = true → (s.rd (fn.val + 1) F.VC_SEL) ≠ 0 → vcMay s (s.rd (fn.val + 1) F.VC_SEL) fn.val = true →
      exec (.vcSchedClear fn) s = .next (completeOk stVc (ownWin fn) (s.setVc (s.rd (fn.val + 1) F.VC_SEL) { (s.vc (s.rd (fn.val + 1) F.VC_SEL)) with slots := tmap (fun _ x => if x.state = 1 then { x with state := 0 } else x) (s.vc (s.rd (fn.val + 1) F.VC_SEL)).slots }))) ∧
  (∀ (fn : Fn) (frcTime : Bool) (c : Nat) (s : State),
      s.takes .tb stVc fn.val = true → (s.rd (fn.val + 1) F.VC_SEL) ≠ 0 → s.secureSt fn.val = true → (s.vc (s.rd (fn.val + 1) F.VC_SEL)).state =
      .ratified → vcTrigger s (ownWin fn) frcTime = some c →
      exec (.vcRetire fn frcTime) s = .next (completeOk stVc (ownWin fn) (s.setVc (s.rd (fn.val + 1) F.VC_SEL) { (s.vc (s.rd (fn.val + 1) F.VC_SEL)) with pendRetire := some c }))) ∧
  (∀ (fn : Fn) (s : State),
      s.takes .tb stVc fn.val = true → (s.rd (fn.val + 1) F.VC_SEL) = 0 → s.secureSt fn.val = true → s.develop = true → (s.vc 0).state = .ratified →
      (s.tb.vcs.filter fun e => e.1 != 0 && e.2.state == .ratified && e.2.par.parentVc0) = [] →
      exec (.vcResetClock fn) s = .next (completeOk stVc (ownWin fn) (enterUnset 0 (s.frc + 64) s))) ∧
  (∀ (fn : Fn) (s : State),
      s.takes .tb stVc fn.val = true → (s.rd (fn.val + 1) F.VC_SEL) = 0 → s.secureSt fn.val = true → s.develop = true → (s.vc 0).state ≠ .ratified →
      exec (.vcResetClock fn) s = .next (completeOk stVc (ownWin fn) s))

/-- When FRC has reached the tick of a pending change of a clock, the change takes effect there: a SET ratifies the clock with the set value as its
base, a RATE replaces r, an ADJUST adds to the slewed step, a RETIRE returns the clock to UNSET, a PARENT change rebases on the new parent; each but
the SET rebases the clock at that tick. A slewed step or a ramp that is wholly delivered ends, a pending rate segment replaces s, and a leap second
ends when the time again reaches the value it had. -/
def Obligations.ClockTicks : Prop :=
  (∀ (vc : Fin 1024) (p : VcPendSet) (s : State),
      vc.val ≠ 0 → (s.vc vc.val).pendSet = some p → p.tick ≤ s.frc → (s.vc vc.val).par.parentVc0 = false → p.offset = false → (s.vc
      vc.val).par.parentVc0 = false →
      ∃ t, exec (.vcSetTick vc) s = .next t ∧ (t.vc vc.val).state = .ratified ∧ (t.vc vc.val).pendSet = none ∧ (t.vc vc.val).par.f = p.tick ∧
        (t.vc vc.val).par.b = p.value * 2 ^ 32 ∧ (t.vc vc.val).par.pAdj = 0) ∧
  (∀ (vc : Fin 1024) (c : Nat) (r : Int) (s : State),
      (s.vc vc.val).pendRate = some (c, r) → c ≤ s.frc → satS 48 (r + (s.vc vc.val).par.s) = r + (s.vc vc.val).par.s →
      exec (.vcRateTick vc) s = .next (s.setVc vc.val { rebase s vc.val c with pendRate := none, par := { (rebase s vc.val c).par with r := r } })) ∧
  (∀ (vc : Fin 1024) (c : Nat) (d : Int) (s : State),
      vc.val ≠ 0 → (s.vc vc.val).pendAdj = some (c, d) → c ≤ s.frc → (rebase s vc.val c).par.pAdj + d * 2 ^ 32 ≠ 0 →
      exec (.vcAdjustTick vc) s = .next (s.setVc vc.val { rebase s vc.val c with pendAdj := none, par := { (rebase s vc.val c).par with pAdj := (rebase s vc.val c).par.pAdj + d * 2 ^ 32 } })) ∧
  (∀ (vc : Fin 1024) (tick : BitVec 64) (s : State),
      (s.vc vc.val).par.pAdj ≠ 0 → firstDelivered s (s.vc vc.val).par (s.vc vc.val).par.pAdj (s.vc vc.val).par.sAdj tick.toNat = true →
      exec (.slewDone vc tick) s = .next (postReach Ev.TB_SLEW_DONE (vcReadable s vc.val) tick.toNat vc.val []
        ((childLeaps vc.val tick.toNat s).setVc vc.val { rebase s vc.val tick.toNat with par := { (rebase s vc.val tick.toNat).par with pAdj := 0 } }))) ∧
  (∀ (vc : Fin 1024) (c : Nat) (s : State),
      vc.val ≠ 0 → (s.vc vc.val).pendRetire = some c → c ≤ s.frc →
      ∃ t, exec (.vcRetireTick vc) s = .next t ∧ (t.vc vc.val).state = .unset ∧ (t.vc vc.val).par.b = 0 ∧ (t.vc vc.val).par.r = 0 ∧
        (t.vc vc.val).par.f = c ∧ (t.vc vc.val).pendRetire = none) ∧
  (∀ (vc : Fin 1024) (c : Nat) (p : Bool) (s : State),
      (s.vc vc.val).pendParent = some (c, p) → c ≤ s.frc →
      exec (.vcParentChange vc) s = .next (s.setVc vc.val { rebase s vc.val c with pendParent := none, par := { (rebase s vc.val c).par with parentVc0 := p, a := if p then vc0Time s (32 * c) else 0 } })) ∧
  (∀ (vc : Fin 1024) (slot : Fin 8) (tick : BitVec 64) (s : State),
      ((s.vc vc.val).slot slot.val).state = 1 → ((s.vc vc.val).slot slot.val).kind = 1 → ((s.vc vc.val).slot slot.val).tick = tick.toNat → tick.toNat
      ≤ s.frc →
      exec (.segmentActivation vc slot tick) s = .next (postReach Ev.TB_SCHED_ACT (vcReadable s vc.val) tick.toNat vc.val (leBytes 2 vc.val ++ oct [slot.val, 1])
        (s.setVc vc.val (segmentEffect s vc.val slot.val tick.toNat ((s.vc vc.val).slot slot.val)))) ∧
      (segmentEffect s vc.val slot.val tick.toNat ((s.vc vc.val).slot slot.val)).par.pRamp =
        (rebase s vc.val tick.toNat).par.pRamp + ((s.vc vc.val).slot slot.val).a * 2 ^ 32 ∧
      (segmentEffect s vc.val slot.val tick.toNat ((s.vc vc.val).slot slot.val)).par.sRamp = ((s.vc vc.val).slot slot.val).b) ∧
  (∀ (vc : Fin 1024) (tick : BitVec 64) (s : State),
      ((s.vc vc.val).slots.any fun e => e.2.state == 2) = true → firstDelivered s (s.vc vc.val).par (s.vc vc.val).par.pRamp (s.vc vc.val).par.sRamp
      tick.toNat = true →
      exec (.rampDone vc tick) s = .next (s.setVc vc.val { rebase s vc.val tick.toNat with par := { (rebase s vc.val tick.toNat).par with pRamp := 0 }, slots := tmap (fun _ x => if x.state = 2 then { x with state := 0 } else x) (rebase s vc.val tick.toNat).slots })) ∧
  (∀ (vc : Fin 1024) (u : Int) (s : State),
      (s.vc vc.val).leapUntil = some u → u ≤ vcTime s vc.val (32 * s.frc) →
      exec (.leapSecondEnd vc) s = .next (s.setVc vc.val { s.vc vc.val with leapUntil := none }))

/-- START of a token in a writable, aligned and owned buffer captures the clock, its bound, the nonce and the counter, counts the token counter up and
leaves the command accepted and the token pending; TOKEN_DONE writes the buffer, signed, and completes the command; a calibration point older than
25 s becomes stale and says so. -/
def Obligations.TokenAndLedgerCommands : Prop :=
  (∀ (fn : Fn) (s : State),
      s.takes .bnd stTok fn.val = true → vcReadable s (s.rd (fn.val + 1) F.BND_TOK_SEL) fn.val = true → s.sh F.KS_LIFECYCLE_STATE ≠ 0 →
      s.bnd.tokens.length < 8 → s.rd64 (fn.val + 1) F.BND_TOK_ADDR_LO F.BND_TOK_ADDR_HI % 64 = 0 → ownsBuf s fn.val (s.rd64 (fn.val + 1)
      F.BND_TOK_ADDR_LO F.BND_TOK_ADDR_HI) 3584 = true →
      ∃ t, exec (.bndTokStart fn) s = .next t ∧ t.rd (fn.val + 1) F.BND_TOK_STATUS_BUSY = 1 ∧
        t.rd64 0 F.BND_TOK_COUNT_LO F.BND_TOK_COUNT_HI = (s.rd64 0 F.BND_TOK_COUNT_LO F.BND_TOK_COUNT_HI + 1) % 2 ^ 64 ∧
        t.bnd.tokens = s.bnd.tokens ++ [⟨ownWin fn, s.rd64 (fn.val + 1) F.BND_TOK_ADDR_LO F.BND_TOK_ADDR_HI, s.rd64 0 F.BND_TOK_COUNT_LO F.BND_TOK_COUNT_HI,
          tokenBody s (ownWin fn) (s.rd (fn.val + 1) F.BND_TOK_SEL) (s.rd64 0 F.BND_TOK_COUNT_LO F.BND_TOK_COUNT_HI) (tokNonce s (ownWin fn))⟩] ∧ sameMem s t) ∧
  (∀ (index : Fin 8) (k : Token) (s : State),
      s.bnd.tokens[index.val]? = some k →
      exec (.tokenDone index) s = .next (tokenFinish k Code.ok (dmaWrite k.win.fn k.addr (tokenBuffer s k.body) s))) ∧
  (∀ (point : Fin 24) (s : State),
      Sys2Proof.Machine.pathStale s point.val s.frc = true → s.sh (F.BND_PATH_STALE_IS_STALE point.val) ≠ 1 →
      exec (.pathStale point) s = .next (syncBound (post Ev.BND_PATH_STALE point.val (s.wr 0 (F.BND_PATH_STALE_IS_STALE point.val) 1)))) ∧
  (∀ (s : State),
      Sys2Proof.Machine.ageExpired s s.frc = true →
      exec .ageExpired s = .next (syncBound s))

/-- A write of a slot's configuration by the secure world or the steward stores it, enables or disables the slot, and re-evaluates its rank, the status
registers and the selectors; a stamped time event or edge of an enabled slot is taken with its label; a missing stamp counts, clears the run of good
stamps and leaves a gap, and the limit of the profile makes it a lost signal; a lost lane, link or session loses its slot's signal and its rank; at
each new whole second every slot and selector is evaluated; a hold-off ends at its tick; ESMC PDUs reach the slots of every lane of an UP port, and
one missing for 5 s is forgotten; a valid time-of-day frame labels the next pulse of the slots that name its pin, and an invalid one counts as bad. -/
def Obligations.ReferenceEvents : Prop :=
  (∀ (fn : Fn) (slot : Fin 32) (value : BitVec 32) (s : State),
      s.takesWrite .refs fn.val = true → s.secureSt fn.val = true → slot.val < 29 →
      exec (.refCfgWrite fn slot value) s = .next (evalSels (syncRefStatus (updateQr slot.val
        (slotEnable slot.val (bitOf value.toNat 0) (storeRefCfg slot.val value.toNat s)))))) ∧
  (∀ (slot : Fin 32) (tick : BitVec 64) (phase : Fin 32) (edges : BitVec 16) (label : BitVec 96) (s : State),
      slotState s slot.val ≠ stDISABLED → eventSlot slot.val = true →
      exec (.refEdgeStamp slot tick phase edges (some label)) s = .next (syncCap slot.val
        (takeStamp slot.val (32 * tick.toNat + phase.val) edges.toNat (some ((linOfT96 label.toNat : Rat) / 65536)) s))) ∧
  (∀ (slot : Fin 32) (tick : BitVec 64) (phase : Fin 32) (edges : BitVec 16) (label : Option (BitVec 96)) (s : State),
      slotState s slot.val ≠ stDISABLED → 8 ≤ slot.val → slot.val < 24 → s.sh (F.REF_NOMINAL slot.val) ≠ 0 →
      exec (.refEdgeStamp slot tick phase edges label) s = .next (syncCap slot.val
        (takeStamp slot.val (32 * tick.toNat + phase.val) edges.toNat none s))) ∧
  (∀ (slot : Fin 32) (tick : BitVec 64) (phase : Fin 32) (edges : BitVec 16) (label : Option (BitVec 96)) (s : State),
      pinSlot slot.val = true → slotState s slot.val ≠ stDISABLED → pointDead s (ptRef slot.val) = false → s.sh (F.REF_NOMINAL slot.val) ≠ 0 → (s.slot
      slot.val).ready = true →
      exec (.refEdgeStamp slot tick phase edges label) s = .next (if slot.val = 28
        then syncCap 28 (takeStamp 28 (32 * tick.toNat + phase.val) edges.toNat none s)
        else syncCap slot.val (takeStamp slot.val (32 * tick.toNat + phase.val) edges.toNat (pulseLabel slot.val s).1 (pulseLabel slot.val s).2))) ∧
  (∀ (slot : Fin 32) (s : State),
      slotState s slot.val ≠ stDISABLED → slot.val < 29 → (s.slot slot.val).missing + 1 < s.sh (F.REF_PROF_QUAL_LOS_COUNT (s.sh (F.REF_CFG_PROFILE
      slot.val))) →
      exec (.refStampMissing slot) s = .next (s.setSlot slot.val { s.slot slot.val with missing := (s.slot slot.val).missing + 1, good := 0, gap := true })) ∧
  (∀ (slot : Fin 32) (s : State),
      slotState s slot.val ≠ stDISABLED → slot.val < 29 → s.sh (F.REF_PROF_QUAL_LOS_COUNT (s.sh (F.REF_CFG_PROFILE slot.val))) ≤ (s.slot
      slot.val).missing + 1 →
      exec (.refStampMissing slot) s = .next (signalLost slot.val (s.setSlot slot.val { s.slot slot.val with missing := (s.slot slot.val).missing + 1, good := 0, gap := true }))) ∧
  (∀ (slot : Fin 32) (s : State),
      8 ≤ slot.val → slot.val ≤ 27 → slot.val ≠ 24 →
      exec (.refLinkLoss slot) s = .next (updateQr slot.val (signalLost slot.val (s.setSlot slot.val { s.slot slot.val with linkUp := false })))) ∧
  (∀ (tick : BitVec 64) (s : State),
      tick.toNat ≤ s.frc → tick.toNat % 1562500000 = 0 → s.refs.lastTick < tick.toNat → stewardRuns (freeReadings (atomWatch (monitorTick tick.toNat
      s))) = true →
      exec (.monitorTick tick) s = .next (tempCheck 1 (tempCheck 0 (hoMonitor (stampPair (s.slot 28))
        (readTemp 1 (readTemp 0 (freeReadings (atomWatch (monitorTick tick.toNat s))))))))) ∧
  (∀ (sel : Fin 6) (d : Nat) (s : State),
      (s.sel sel.val).holdoff = some d → d ≤ s.frc →
      exec (.holdoffExpiry sel) s = .next (evalSel sel.val (s.setSel sel.val { s.sel sel.val with holdoff := none }))) ∧
  (∀ (port : Fin 16) (pdu : List Byte) (s : State),
      portUp s port.val = true →
      exec (.esmcPdu port pdu) s = .next (esmcPdu (portLanes s port.val) pdu s)) ∧
  (∀ (lane : Fin 16) (q : Nat) (s : State),
      (s.slot (lane.val + 8)).qlTick = some q → q + 7812500000 ≤ s.frc →
      exec (.esmcTimeout lane) s = .next (updateQr (lane.val + 8) (s.setSlot (lane.val + 8) { s.slot (lane.val + 8) with qlTick := none }))) ∧
  (∀ (pin : Fin 4) (frame : List Byte) (s : State),
      todinValid frame = true →
      exec (.todinFrame pin frame true) s = .next
        ((each ((List.range 8).filter fun n => s.sh (F.REF_CFG_TOD_SRC n) == pin.val + 1) (fun n t => t.setSlot n { t.slot n with nextLabel := some ((ofBe (slice frame 8 6) : Rat) * 1000000000 + ofBe (slice frame 14 4)) }) s).wr 0 (F.OUT_TODIN_STATUS_FRAMES_OK pin.val)
         ((each ((List.range 8).filter fun n => s.sh (F.REF_CFG_TOD_SRC n) == pin.val + 1) (fun n t => t.setSlot n { t.slot n with nextLabel := some ((ofBe (slice frame 8 6) : Rat) * 1000000000 + ofBe (slice frame 14 4)) }) s).sh (F.OUT_TODIN_STATUS_FRAMES_OK pin.val) + 1))) ∧
  (∀ (pin : Fin 4) (frame : List Byte) (whole : Bool) (s : State),
      (todinValid frame = false ∨ whole = false) →
      exec (.todinFrame pin frame whole) s = .next (post Ev.OUT_TODIN_BAD pin.val
        (s.wr 0 (F.OUT_TODIN_STATUS_FRAMES_BAD pin.val) (s.sh (F.OUT_TODIN_STATUS_FRAMES_BAD pin.val) + 1))))

/-- At each multiple of the update period the servo takes the stamps not yet read, moves the system DPLL and the five output DPLLs, and marks the stamps
read, where the arm can still be in time; 16 periods without a CG0 commit raise STALL; PHASE_STEP within the limits adds to the target offset at the
next arm and adjusts VC0; ACCEPT_OFFSET by the secure world while OFFSET_REJECT is set completes with OK and leaves the acceptance for the next
update; NOUGAT_RESET returns a model to UNTRAINED; ATOM_TUNE_NOW writes a tune word in STEER mode; SRV_CTRL and SRV_HO_CFG are the secure world's;
ATOM_ALM is followed at once; a Nougat sample is taken every 10 s under the training conditions; a tune word is written every TUNE_S seconds in
STEER mode. -/
def Obligations.ServoCommands : Prop :=
  (∀ (s : State),
      stewardRuns s = true → s.doorOpen .srv = true → ((s.frc / updPeriod s + 1) * updPeriod s) ≠ s.srv.target → s.frc + 64 ≤ ((s.frc / updPeriod s +
      1) * updPeriod s) →
      exec .servoUpdate s = .next (clearUnread (each [1, 2, 3, 4, 5] (odUpdate ((s.frc / updPeriod s + 1) * updPeriod s) (s.srv.wasRat && !vc0Rat s))
        (sysUpdate ((s.frc / updPeriod s + 1) * updPeriod s) { s with srv := { s.srv with target := ((s.frc / updPeriod s + 1) * updPeriod s) } })))) ∧
  (∀ (s : State),
      s.sh F.RST_STATUS_PROOF_DONE = 1 → s.sh F.SRV_STATUS_STALL = 0 → s.srv.cg0At + 16 * updPeriod s ≤ s.frc →
      exec .servoStall s = .next (post Ev.SRV_STALL 0 (s.wr 0 F.SRV_STATUS_STALL 1))) ∧
  (∀ (fn : Fn) (s : State),
      s.takes .srv stSrv fn.val = true → s.secureSt fn.val = true → vc0Rat s = true → s.srv.oPend = none → (sgn 64 (s.rd64 (fn.val + 1) F.SRV_ARG0
      F.SRV_ARG1)).natAbs ≤ (s.vc 0).adjLimit * 65536 → ((sgn 64 (s.rd64 0 F.SRV_SYS_TARGET_LO F.SRV_SYS_TARGET_HI)) + (sgn 64 (s.rd64 (fn.val + 1)
      F.SRV_ARG0 F.SRV_ARG1))).natAbs ≤ 2 ^ 47 * 65536 →
      exec (.phaseStep fn) s = .next (completeOk stSrv (ownWin fn) { stewardAdjust (sgn 64 (s.rd64 (fn.val + 1) F.SRV_ARG0 F.SRV_ARG1)) s with srv := { (stewardAdjust (sgn 64 (s.rd64 (fn.val + 1) F.SRV_ARG0 F.SRV_ARG1)) s).srv with oPend := some (s.frc + 64, (sgn 64 (s.rd64 0 F.SRV_SYS_TARGET_LO F.SRV_SYS_TARGET_HI)) + (sgn 64 (s.rd64 (fn.val + 1) F.SRV_ARG0 F.SRV_ARG1))) } })) ∧
  (∀ (fn : Fn) (s : State),
      s.takes .srv stSrv fn.val = true → s.secure fn.val = true → s.sh F.SRV_STATUS_OFFSET_REJECT ≠ 0 →
      exec (.acceptOffset fn) s = .next (completeOk stSrv (ownWin fn) { s with srv := { s.srv with acceptCmd := true } })) ∧
  (∀ (fn : Fn) (s : State),
      s.takes .srv stSrv fn.val = true → s.secureSt fn.val = true →
      exec (.nougatReset fn) s = .next (completeOk stSrv (ownWin fn) (resetModel (s.rd (fn.val + 1) F.SRV_ARG0 % 2) s))) ∧
  (∀ (fn : Fn) (ack : Bool) (s : State),
      s.takes .srv stSrv fn.val = true → s.secureSt fn.val = true → s.sh F.SRV_HO_CFG_ATOM_MODE = 1 →
      exec (.atomTuneNow fn ack) s = .next (completeOk stSrv (ownWin fn) (tuneWrite ack s))) ∧
  (∀ (fn : Fn) (value : BitVec 32) (s : State),
      s.takesWrite .srv fn.val = true → s.secure fn.val = true →
      ∃ t, exec (.rateOwnerWrite fn value) s = .next t ∧ t.sh F.SRV_CTRL_RATE_OWNER = bits value.toNat 0 1 ∧
        t.sh F.SRV_CTRL_UPD_LOG2 = min (bits value.toNat 1 4) 10 ∧
        t.sh F.SRV_CTRL_OFFSET_N = (if bits value.toNat 8 8 = 0 then 1 else bits value.toNat 8 8) ∧ onlyCopy 0 s t) ∧
  (∀ (fn : Fn) (value : BitVec 32) (s : State),
      s.takesWrite .srv fn.val = true → s.secure fn.val = true →
      ∃ t, exec (.hoSrcWrite fn value) s = .next t ∧ t.sh F.SRV_HO_CFG_HO_SRC = bits value.toNat 0 1 ∧ t.sh F.SRV_HO_CFG_ATOM_MODE = bits value.toNat 1 1 ∧
        t.sh F.SRV_HO_CFG_ATOM_ALM_POL = bits value.toNat 2 1 ∧ t.sh F.SRV_HO_CFG_ATOM_SETTLE_S = bits value.toNat 16 16 ∧ sameMem s t) ∧
  (∀ (level : Bool) (s : State),
      exec (.atomAlm level) s = .next (atomWatch { s with srv := { s.srv with almPin := level } })) ∧
  (∀ (model : Fin 2) (y : Rat) (s : State),
      (s.ng model.val).lastTry + 15625000000 ≤ s.frc → stewardRuns s = true → training s = true → winMean (oscOffset model.val) (s.frc - 156250000000)
      s.frc s.frc s.srv.sys.hist = some y →
      ∃ t, exec (.nougatSample model) s = .next t ∧
        (t.ng model.val).samples = (s.ng model.val).samples ++
          [⟨s.frc, if model.val = 1 ∧ s.sh F.SRV_HO_CFG_ATOM_MODE = 1 then y - tuneFreq s else y, ngTheta s model.val⟩] ∧ (t.ng model.val).lastTry = s.frc) ∧
  (∀ (ack : Bool) (s : State),
      s.sh F.SRV_HO_CFG_ATOM_MODE = 1 → training s = true → stewardRuns s = true → s.srv.tuneAt + s.sh F.SRV_ATOM_CFG_TUNE_S * 1562500000 ≤ s.frc →
      exec (.atomTune ack) s = .next (tuneWrite ack (s.wr 0 F.SRV_ATOM_STATUS_STEERING 1))) ∧
  (∀ (ack : Bool) (s : State),
      s.sh F.SRV_HO_CFG_ATOM_MODE ≠ 1 →
      exec (.atomTune ack) s = .next (s.wr 0 F.SRV_ATOM_STATUS_STEERING 0))

/-- A band that locks ends a search, with its result in the memo, and a retune from the memo within 4 µs and one band of the stored one; a retune that
takes longer becomes a search; loss of lock of S0 raises source 256 and that of Sk stops its outputs, enters LOST and raises 256 + k; LOST ends in a
retune after 1 µs. A write of SYN_MEMO_SEL latches the entry it selects, and the memo commands pin, unpin and invalidate the selected entry and
change nothing else. -/
def Obligations.SynthesiserCommands : Prop :=
  (∀ (k : Fin 6) (band : BitVec 10) (s : State),
      k.val ≠ 0 → s.doorOpen .syn = true → synState s k.val = sySEARCH →
      exec (.retuneLocked k band) s = .next (synLock k.val band.toNat
        (memoStore k.val (synM s k.val) band.toNat (s.wr 0 (F.SYN_S_STATUS_MEMO_HIT k.val) 0)))) ∧
  (∀ (k : Fin 6) (band : BitVec 10) (i : Fin 16) (s : State),
      k.val ≠ 0 → s.doorOpen .syn = true → synState s k.val = syRETUNE → memoFind (s.syn k.val) (synM s k.val) = some i.val → s.frc ≤ (s.syn
      k.val).startAt + 6250 → band.toNat ≤ (tgetD (s.syn k.val).memo i.val {}).band + 1 → (tgetD (s.syn k.val).memo i.val {}).band ≤ band.toNat + 1 →
      exec (.retuneLocked k band) s = .next (synLock k.val band.toNat (((s.setSyn k.val { (s.syn k.val) with memo := tset (s.syn k.val).memo i.val { (tgetD (s.syn k.val).memo i.val {}) with used := (s.syn k.val).uses + 1 }, uses := (s.syn k.val).uses + 1 }).wr 0 (F.SYN_S_STATUS_MEMO_ENTRY k.val) i.val).wr
          0 (F.SYN_S_STATUS_MEMO_HIT k.val) 1))) ∧
  (∀ (k : Fin 6) (s : State),
      synState s k.val = syRETUNE → (s.syn k.val).startAt + 6250 ≤ s.frc →
      ∃ t, exec (.retuneTimeout k) s = .next t ∧ synState t k.val = sySEARCH ∧ (t.syn k.val).startAt = s.frc ∧
        t.sh (F.SYN_S_COUNTS_SEARCHES k.val) = (s.sh (F.SYN_S_COUNTS_SEARCHES k.val) + 1) % 2 ^ (F.SYN_S_COUNTS_SEARCHES k.val).w) ∧
  (∀ (s : State),
      exec (.synthLockLoss 0) s = .next (raise 256 0 0 s)) ∧
  (∀ (k : Fin 6) (s : State),
      k.val ≠ 0 → synState s k.val = syLOCKED →
      exec (.synthLockLoss k) s = .next (let t := stopFed k.val (s.setSyn k.val { (s.syn k.val) with startAt := s.frc });
        raise (256 + k.val) k.val 0 (post Ev.SYN_LOL k.val (setSynState k.val syLOST
          (t.wr 0 (F.SYN_S_COUNTS_LOL_COUNT k.val) (t.sh (F.SYN_S_COUNTS_LOL_COUNT k.val) + 1)))))) ∧
  (∀ (k : Fin 6) (s : State),
      synState s k.val = syLOST → (s.syn k.val).startAt + 1563 ≤ s.frc →
      exec (.lostRetry k) s = .next (startRetune k.val s.frc s)) ∧
  (∀ (fn : Fn) (value : BitVec 32) (s : State),
      s.takesWrite .syn fn.val = true → s.secureSt fn.val = true → 1 ≤ bits value.toNat 0 3 → bits value.toNat 0 3 ≤ 5 →
      ∃ t, exec (.synMemoSelWrite fn value) s = .next t ∧ t.rd (fn.val + 1) F.SYN_MEMO_SEL_SYNTH = bits value.toNat 0 3 ∧
        t.rd (fn.val + 1) F.SYN_MEMO_SEL_ENTRY = bits value.toNat 4 4 ∧
        t.rd (fn.val + 1) F.SYN_MEMO_KEY_LO = (tgetD (s.syn (bits value.toNat 0 3)).memo (bits value.toNat 4 4) {}).key % 2 ^ 32 ∧
        t.rd (fn.val + 1) F.SYN_MEMO_KEY_HI_VALID = b2n (tgetD (s.syn (bits value.toNat 0 3)).memo (bits value.toNat 4 4) {}).valid ∧
        t.rd (fn.val + 1) F.SYN_MEMO_KEY_HI_PINNED = b2n (tgetD (s.syn (bits value.toNat 0 3)).memo (bits value.toNat 4 4) {}).pinned ∧
        t.rd (fn.val + 1) F.SYN_MEMO_BAND = (tgetD (s.syn (bits value.toNat 0 3)).memo (bits value.toNat 4 4) {}).band % 2 ^ F.SYN_MEMO_BAND.w ∧
        onlyCopy (fn.val + 1) s t) ∧
  (∀ (fn : Fn) (s : State),
      s.takesWrite .syn fn.val = true → s.secureSt fn.val = true →
      exec (.memoPin fn) s = .next (s.setSyn (s.rd (fn.val + 1) F.SYN_MEMO_SEL_SYNTH) { s.syn (s.rd (fn.val + 1) F.SYN_MEMO_SEL_SYNTH) with memo := tupd (s.syn (s.rd (fn.val + 1) F.SYN_MEMO_SEL_SYNTH)).memo (s.rd (fn.val + 1) F.SYN_MEMO_SEL_ENTRY) {} fun e => { e with pinned := true } })) ∧
  (∀ (fn : Fn) (s : State),
      s.takesWrite .syn fn.val = true → s.secureSt fn.val = true →
      exec (.memoUnpin fn) s = .next (s.setSyn (s.rd (fn.val + 1) F.SYN_MEMO_SEL_SYNTH) { s.syn (s.rd (fn.val + 1) F.SYN_MEMO_SEL_SYNTH) with memo := tupd (s.syn (s.rd (fn.val + 1) F.SYN_MEMO_SEL_SYNTH)).memo (s.rd (fn.val + 1) F.SYN_MEMO_SEL_ENTRY) {} fun e => { e with pinned := false } })) ∧
  (∀ (fn : Fn) (s : State),
      s.takesWrite .syn fn.val = true → s.secureSt fn.val = true →
      exec (.memoInvalidate fn) s = .next (s.setSyn (s.rd (fn.val + 1) F.SYN_MEMO_SEL_SYNTH) { s.syn (s.rd (fn.val + 1) F.SYN_MEMO_SEL_SYNTH) with memo := tupd (s.syn (s.rd (fn.val + 1) F.SYN_MEMO_SEL_SYNTH)).memo (s.rd (fn.val + 1) F.SYN_MEMO_SEL_ENTRY) {} fun _ => ({} : MemoEntry) }))

/-- A change that waits for an output's own edge is applied at that edge; the members of an aligned restart restart together when every one has
completed its period; a delay that has arrived is the delay in effect; a pulse whose target the followed time reaches is emitted, or squelched by
its rule, and the next target is one period later; a time-of-day frame leaves its pin's queue START_US after its pulse. -/
def Obligations.OutputCommands : Prop :=
  (∀ (out : Fin 20) (s : State),
      (s.clk out.val).wait = 1 → changeInstant s out.val ≤ (s.frc : Rat) →
      exec (.outputChangeApply out) s = .next (applyChange out.val (changeInstant s out.val) none s)) ∧
  (∀ (group : Fin 8) (k : Fin 6) (t : Rat) (s : State),
      (alignMembers s (6 + group.val) k.val) ≠ [] → ((alignMembers s (6 + group.val) k.val).map fun n => if (s.clk n).run then risingAfter s (s.clk n)
      (s.clk n).since else (s.clk n).since).foldl max 0 = t → t ≤ (s.frc : Rat) →
      exec (.dividerRestart group k) s = .next (each (alignMembers s (6 + group.val) k.val) (fun n => applyChange n t (some (⌈synCycle s k.val t⌉ : Rat))) s)) ∧
  (∀ (out : Fin 20) (t : Rat) (s : State),
      (s.clk out.val).moveEnd = some t → t ≤ (s.frc : Rat) →
      exec (.delayReached out) s = .next (syncClk out.val (s.setClk out.val { s.clk out.val with moveEnd := none, cur := { (s.clk out.val).cur with phase := (clkEff s out.val).phase, fine := (clkEff s out.val).fine } }))) ∧
  (∀ (po : Fin 8) (tick : BitVec 64) (target : Int) (s : State),
      s.doorOpen .out = true → (s.po po.val).next = some target → (s.po po.val).new = none → tick.toNat ≤ s.frc → poAt s (s.po po.val) (s.po
      po.val).cur target tick.toNat = true →
      ∃ t, exec (.pulseEmit po tick) s = .next t ∧ (t.po po.val).next = some (target + (s.po po.val).cur.p * 2 ^ 48) ∧
        t.sh (F.OUT_PO_STATUS_STATE po.val) = (if poEmits s po.val (s.po po.val).cur tick.toNat = true then 1 else 2) ∧
        (t.po po.val).lastEdge = (if poEmits s po.val (s.po po.val).cur tick.toNat = true then some (poEdge s (s.po po.val) (s.po po.val).cur target tick.toNat) else (s.po po.val).lastEdge) ∧
        (poEmits s po.val (s.po po.val).cur tick.toNat = true →
          t.sh (F.OUT_PO_STATUS_PULSES po.val) = (s.sh (F.OUT_PO_STATUS_PULSES po.val) + 1) % 2 ^ (F.OUT_PO_STATUS_PULSES po.val).w ∧
          t.rd64 0 (F.OUT_PO_LAST_LO po.val) (F.OUT_PO_LAST_HI po.val) = ceilDiv (poEdge s (s.po po.val) (s.po po.val).cur target tick.toNat) 128 % 2 ^ 64)) ∧
  (∀ (pin : Fin 4) (d : TodDue) (rest : List TodDue) (s : State),
      (tgetD s.out.tods pin.val {}).due = d :: rest → d.at_ ≤ s.frc →
      ∃ t, exec (.todFrameSend pin) s = .next t ∧ (tgetD t.out.tods pin.val {}).due = rest) ∧
  (∀ (pin : Fin 4) (s : State),
      (tgetD s.out.tods pin.val {}).due = [] →
      exec (.todFrameSend pin) s = .next s)

/-- An edge that a live channel selects is taken by a READY half, stamped, and put into the FIFO where it lies in the gate's window; the writer moves
the oldest record into the ring and advances WR_IDX; EN starts a channel 64 ticks later with empty indices, or stops it; a drained channel is OFF;
gates are armed, closed and disarmed by the secure world or the steward, and open and close on their pin or at their ticks; a calibration pair
within 768 to 1,280 codes is kept. -/
def Obligations.TdcCommands : Prop :=
  (∀ (ch : Fin 16) (tick : BitVec 64) (sub : Fin 640) (code : BitVec 12) (falling : Bool) (h c1 c2 : Nat) (s : State),
      s.doorOpen .tdc = true → chState s ch.val ≠ 0 → (s.chan ch.val).from_ ≤ tick.toNat → (s.chan ch.val).until_ = none → edgeSelected s ch.val
      falling = true → halfFor s ch.val (tick.toNat * 640 + sub.val) = some h → (s.half ch.val h).pair = some (c1, c2) →
      exec (.tdcEdge ch tick sub code falling) s = .next (
        let c := convert ch.val tick.toNat code.toNat c1 c2;
        let t := ((takeEdge ch.val tick.toNat sub.val code.toNat s).2.wr 0 (F.TDC_CH_CAL_C1 ch.val) c1).wr 0 (F.TDC_CH_CAL_C2 ch.val) c2;
        if inGate t ch.val c.1 then fifoPut ch.val { stamp := c.1, falling := falling, half := h, clamp := c.2 } t else t)) ∧
  (∀ (ch : Fin 16) (tick : BitVec 64) (sub : Fin 640) (code : BitVec 12) (falling : Bool) (s : State),
      s.doorOpen .tdc = true → chState s ch.val ≠ 0 → (s.chan ch.val).from_ ≤ tick.toNat → (s.chan ch.val).until_ = none → edgeSelected s ch.val
      falling = true → halfFor s ch.val (tick.toNat * 640 + sub.val) = none →
      exec (.tdcEdge ch tick sub code falling) s = .next ((s.setChan ch.val { (s.chan ch.val) with lost := (s.chan ch.val).lost + 1 }).wr 0
        (F.TDC_CH_COUNTS_LOST ch.val) (s.sh (F.TDC_CH_COUNTS_LOST ch.val) + 1))) ∧
  (∀ (point : Fin 105) (half : Fin 2) (c1 c2 : BitVec 12) (s : State),
      c1.toNat + 768 ≤ c2.toNat → c2.toNat ≤ c1.toNat + 1280 → (s.half point.val half.val).failed = false →
      exec (.calPair point half c1 c2) s = .next (syncHalves point.val (s.setHalf point.val half.val { (s.half point.val half.val) with pair := some (c1.toNat, c2.toNat), rej := 0, acc := (s.half point.val half.val).acc + 1 }))) ∧
  (∀ (point : Fin 105) (half : Fin 2) (c1 c2 : BitVec 12) (s : State),
      (¬ (c1.toNat + 768 ≤ c2.toNat ∧ c2.toNat ≤ c1.toNat + 1280)) → (s.half point.val half.val).rej + 1 < 4 →
      exec (.calPair point half c1 c2) s = .next (syncHalves point.val (s.setHalf point.val half.val { (s.half point.val half.val) with rej := (s.half point.val half.val).rej + 1, acc := 0 }))) ∧
  (∀ (ch : Fin 16) (r : TdcRec) (rest : List TdcRec) (s : State),
      s.doorOpen .tdc = true → (s.chan ch.val).fifo = r :: rest → (ringFull s ch.val && s.sh (F.TDC_CH_CFG_OVF_MODE ch.val) == 0) = false →
      exec (.tdcRecordWrite ch) s = .next (syncFull ch.val (onlyIf (s.sh (F.TDC_CH_WM ch.val) != 0 &&
          wsub 32 (s.sh (F.TDC_CH_WR_IDX ch.val)) (s.sh (F.TDC_CH_RD_IDX ch.val)) + 1 == s.sh (F.TDC_CH_WM ch.val)) (post Ev.TDC_RING_WM ch.val)
        (((s.shmWrite (s.sh (F.TDC_CH_RING_BASE ch.val) + 16 * ((s.sh (F.TDC_CH_WR_IDX ch.val)) % ringSize s ch.val)) (tdcOctets ch.val r ((s.chan ch.val).carry + r.lost) (s.chan ch.val).seq)).setChan ch.val
          { (s.chan ch.val) with fifo := rest, carry := 0, seq := ((s.chan ch.val).seq + 1) % 2 ^ 32 }).wr 0 (F.TDC_CH_WR_IDX ch.val) ((s.sh (F.TDC_CH_WR_IDX ch.val)) + 1))))) ∧
  (∀ (fn : Fn) (ch : Fin 16) (value : BitVec 32) (s : State),
      s.takesWrite .tdc fn.val = true → s.secureSt fn.val = true → chState s ch.val = 0 →
      exec (.tdcChEn fn ch value) s = .next (chEnable ch.val (bitOf value.toNat 0)
        ((((((s.wr 0 (F.TDC_CH_CFG_SRC ch.val) (bits value.toNat 1 2)).wr 0 (F.TDC_CH_CFG_EDGE ch.val) (min (bits value.toNat 3 2) 2)).wr
        0 (F.TDC_CH_CFG_OVF_MODE ch.val) (bits value.toNat 5 1)).wr 0 (F.TDC_CH_CFG_GATE_EN ch.val) (bits value.toNat 6 1)).wr
        0 (F.TDC_CH_CFG_GATE_SEL ch.val) (bits value.toNat 7 2)).wr
        0 (F.TDC_CH_CFG_OWNER ch.val) (bits value.toNat 16 9)))) ∧
  (∀ (ch : Fin 16) (u : Nat) (s : State),
      chState s ch.val = 2 → (s.chan ch.val).fifo = [] → (s.chan ch.val).until_ = some u → u ≤ s.frc →
      exec (.tdcDrained ch) s = .next (setChState ch.val 0 s)) ∧
  (∀ (fn : Fn) (gate : Fin 4) (s : State),
      s.takesWrite .tdc fn.val = true → s.secureSt fn.val = true → gateArmed s gate.val = false → (gateMode s gate.val ≠ 2 ∨ (s.frc + 64 ≤ (s.rd64 0
      (F.TDC_GATE_OPEN_LO gate.val) (F.TDC_GATE_OPEN_HI gate.val)) ∧ (s.rd64 0 (F.TDC_GATE_OPEN_LO gate.val) (F.TDC_GATE_OPEN_HI gate.val)) < (s.rd64
      0 (F.TDC_GATE_CLOSE_LO gate.val) (F.TDC_GATE_CLOSE_HI gate.val)))) →
      exec (.tdcGateArm fn gate) s = .next ((s.setGate gate.val { open_ := none, last := none, times := ((s.rd64 0 (F.TDC_GATE_OPEN_LO gate.val) (F.TDC_GATE_OPEN_HI gate.val)), (s.rd64 0 (F.TDC_GATE_CLOSE_LO gate.val) (F.TDC_GATE_CLOSE_HI gate.val))), done := 0 }).wr 0 (F.TDC_GATE_CTRL_ARMED gate.val) 1)) ∧
  (∀ (fn : Fn) (gate : Fin 4) (s : State),
      s.takesWrite .tdc fn.val = true → s.secureSt fn.val = true →
      exec (.tdcGateDisarm fn gate) s = .next ((tdcGateClose gate.val (32 * s.frc) s).wr 0 (F.TDC_GATE_CTRL_ARMED gate.val) 0)) ∧
  (∀ (gate : Fin 4) (tick : BitVec 64) (sub : Fin 640) (code : BitVec 12) (falling : Bool) (s : State),
      s.doorOpen .tdc = true → gateArmed s gate.val = true → gateMode s gate.val = 1 → falling = (s.sh (F.TDC_GATE_CFG_POL gate.val) == 1) → (halfFor
      s (16 + gate.val) (tick.toNat * 640 + sub.val)).isSome = true →
      ∃ st, (takeEdge (16 + gate.val) tick.toNat sub.val code.toNat s).1.map (·.1) = some st ∧ exec (.tdcGateEdge gate tick sub code falling) s = .next (if (s.gate gate.val).open_.isSome
        then gateCount gate.val (tdcGateClose gate.val st (takeEdge (16 + gate.val) tick.toNat sub.val code.toNat s).2) else tdcGateOpen gate.val st (takeEdge (16 + gate.val) tick.toNat sub.val code.toNat s).2)) ∧
  (∀ (gate : Fin 4) (s : State),
      s.doorOpen .tdc = true → gateArmed s gate.val = true → gateMode s gate.val = 2 → (s.gate gate.val).open_ = none → (s.gate gate.val).times.1 ≤
      s.frc →
      exec (.tdcGateFrcWindow gate) s = .next (tdcGateOpen gate.val (32 * (s.gate gate.val).times.1) s)) ∧
  (∀ (gate : Fin 4) (s : State),
      s.doorOpen .tdc = true → gateArmed s gate.val = true → gateMode s gate.val = 2 → (s.gate gate.val).open_ ≠ none → (s.gate gate.val).times.2 ≤
      s.frc →
      exec (.tdcGateFrcWindow gate) s = .next (gateCount gate.val (tdcGateClose gate.val (32 * (s.gate gate.val).times.2) s)))

/-- CAL_CMD of a plane point queues its calibration; a point whose period has passed while its link is up is queued again; a completed calibration
stores the mean delay of each direction with the package's delay, their uncertainties, counts, tells the bound ledger, posts CAL_DONE, and CAL_JUMP
where a delay has moved further than the limit. -/
def Obligations.CalibrationCommands : Prop :=
  (∀ (fn : Fn) (point : Fin 32) (s : State),
      s.takesWrite .tdc fn.val = true → s.secureSt fn.val = true → 1 ≤ point.val → point.val ≤ 22 →
      exec (.calCmd fn point) s = .next (startCal { s with tdc := { s.tdc with reqCmd := s.tdc.reqCmd ++ [point.val] } })) ∧
  (∀ (point : Fin 23) (c : Nat) (s : State),
      tget s.tdc.calAt point.val = some c → s.sh F.TDC_CTRL_CAL_EN = 1 → c + s.sh F.TDC_CTRL_CAL_PERIOD_S * 1562500000 ≤ s.frc → s.tdc.linkUp.contains
      point.val = true → s.tdc.reqPer.contains point.val = false →
      exec (.calPeriodicDue point) s = .next (startCal { s with tdc := { s.tdc with reqPer := s.tdc.reqPer ++ [point.val] } })) ∧
  (∀ (tx rx : List (BitVec 32)) (p k : Nat) (s : State),
      s.tdc.running = some (p, k) → tx.length = 256 → rx.length = 256 → s.doorOpen .tdc = true →
      exec (.calibrationComplete tx rx) s = .next (
        let t := calDelay (meanR (calSamples tx)) (Config.pkgTx p);
        let r := calDelay (meanR (calSamples rx)) (Config.pkgRx p);
        let ut := min (calUnc (sampleVar (calSamples tx)) (tapRes s p)) 0xFFFE;
        let ur := min (calUnc (sampleVar (calSamples rx)) (tapRes s p)) 0xFFFE;
        let far := fun (x y : Nat) => decide (s.sh F.TDC_CTRL_CAL_JUMP_PS * 65536 < ((x : Int) - y).natAbs * 1000);
        let jump := s.sh (F.TDC_CAL_INFO_VALID p) == 1 && (far t (s.sh (F.TDC_CAL_TX p)) || far r (s.sh (F.TDC_CAL_RX p)));
        let a := ({ s with tdc := { s.tdc with running := none, calAt := tset s.tdc.calAt p s.frc } } : State);
        let b := (((a.wr 0 (F.TDC_CAL_TX p) t).wr 0 (F.TDC_CAL_RX p) r).wr 0 (F.TDC_CAL_UNC_TX_UNC p) ut).wr 0 (F.TDC_CAL_UNC_RX_UNC p) ur;
        let c := (b.wr 0 (F.TDC_CAL_INFO_COUNT p) (b.sh (F.TDC_CAL_INFO_COUNT p) + 1)).wr 0 (F.TDC_CAL_INFO_VALID p) 1;
        let d := pathCalibrated p (max ut ur) s.frc (c.wr 0 (F.TDC_CAL_INFO_JUMP p) (b2n jump));
        let e := startCal (onlyIf jump (post Ev.TDC_CAL_JUMP p) (post Ev.TDC_CAL_DONE p d));
        if 17 ≤ p ∧ p ≤ 21 then syncUbw (ubwTryReady (p - 17) e) else e))

/-- EN of a sample port within the limits starts it, and EN 0 stops it; its first stamp is kept with index 0 and a later one within 1 part in 5,000
gives the measured rate; a port without edges is LOST; SUBMIT queues a job under the next number and ABORT_ALL empties the queue; each searched PRN
leaves a record in the ring and is struck off its job, and a job without PRNs is done; START of the serial search with a grid runs it, ABORT and its
end report the best cell. Only the secure world and the steward command. -/
def Obligations.GnssPortsAndSearch : Prop :=
  (∀ (fn : Fn) (port : Fin 2) (value : BitVec 32) (s : State),
      s.takesWrite .gn fn.val = true → s.secureSt fn.val = true → s.sh (F.GN_PORT_CFG_EN port.val) = 0 → bitOf value.toNat 0 = true → portLimits s
      port.val = true →
      ∃ t, exec (.gnPortEn fn port value) s = .next t ∧ t.sh (F.GN_PORT_CFG_EN port.val) = 1 ∧ gnPortState t port.val = 1 ∧
        t.sh (F.GN_PORT_CFG_BITS port.val) = bits value.toNat 1 1 ∧ t.sh (F.GN_PORT_CFG_SPEC_INV port.val) = bits value.toNat 2 1 ∧ t.gnp port.val = {} ∧ sameMem s t) ∧
  (∀ (fn : Fn) (port : Fin 2) (value : BitVec 32) (s : State),
      s.takesWrite .gn fn.val = true → s.secureSt fn.val = true → s.sh (F.GN_PORT_CFG_EN port.val) = 1 → bitOf value.toNat 0 = false →
      ∃ t, exec (.gnPortEn fn port value) s = .next t ∧ t.sh (F.GN_PORT_CFG_EN port.val) = 0 ∧ gnPortState t port.val = 0 ∧ t.gnp port.val = {}) ∧
  (∀ (port : Fin 2) (tick : BitVec 64) (phase : Fin 32) (largest : Fin 131073) (s : State),
      s.sh (F.GN_PORT_CFG_EN port.val) ≠ 0 → s.doorOpen .gn = true → pointDead s (ptGn port.val) = false → (s.gnp port.val).stamps = [] →
      exec (.gnPortStamp port tick phase largest) s = .next ((s.wr 0 (F.GN_PORT_STATUS_MAG_FRAC port.val) (satU 16 (roundR ((largest.val : Rat) / 2)).toNat)).setGnp port.val { (s.gnp port.val) with stamps := [(32 * tick.toNat + phase.val, 0)] })) ∧
  (∀ (port : Fin 2) (tick : BitVec 64) (phase : Fin 32) (largest : Fin 131073) (a i : Nat) (l : List (Nat × Nat)) (r : Rat) (s : State),
      s.sh (F.GN_PORT_CFG_EN port.val) ≠ 0 → s.doorOpen .gn = true → pointDead s (ptGn port.val) = false → (s.gnp port.val).stamps = (a, i) :: l →
      65536 * 50000000000 / ((32 * tick.toNat + phase.val - a : Nat) : Rat) = r → |r - (s.sh (F.GN_PORT_FS port.val) : Rat)| * 5000 ≤ (s.sh
      (F.GN_PORT_FS port.val) : Rat) → gnPortState s port.val = 1 →
      exec (.gnPortStamp port tick phase largest) s = .next (((s.wr 0 (F.GN_PORT_STATUS_MAG_FRAC port.val) (satU 16 (roundR ((largest.val : Rat) / 2)).toNat)).setGnp port.val
        { stamps := [(32 * tick.toNat + phase.val, i + 65536), (a, i)], run := (s.gnp port.val).run + 1 }).wr 0 (F.GN_PORT_FS_MEAS port.val) (roundR r).toNat)) ∧
  (∀ (port : Fin 2) (s : State),
      gnPortState s port.val = 1 →
      ∃ t, exec (.gnPortLost port) s = .next t ∧ gnPortState t port.val = 2) ∧
  (∀ (fn : Fn) (s : State),
      s.takes .gn stAcq fn.val = true → s.secureSt fn.val = true → s.gn.jobs.length < 16 → gnPortState s (sigPort (s.rd (fn.val + 1)
      F.GN_ACQ_ARG0_SIGNAL)) = 1 → (maskPrns (s.rd (fn.val + 1) F.GN_ACQ_ARG0_SIGNAL) (s.rd (fn.val + 1) F.GN_ACQ_ARG1) (s.rd (fn.val + 1)
      F.GN_ACQ_ARG2)) ≠ [] → (maskPrns (s.rd (fn.val + 1) F.GN_ACQ_ARG0_SIGNAL) (s.rd (fn.val + 1) F.GN_ACQ_ARG1) (s.rd (fn.val + 1)
      F.GN_ACQ_ARG2)).any (fun p => !prnOk (s.rd (fn.val + 1) F.GN_ACQ_ARG0_SIGNAL) p) = false →
      ∃ t, exec (.gnAcqSubmit fn) s = .next t ∧ t.rd (fn.val + 1) F.GN_ACQ_STATUS_CODE = Code.ok ∧ t.rd (fn.val + 1) F.GN_ACQ_STATUS_BUSY = 0 ∧
        t.rd (fn.val + 1) F.GN_ACQ_STATUS_JOB = (s.gn.jobNum + 1) % 2 ^ 16 ∧ t.gn.jobNum = (s.gn.jobNum + 1) % 2 ^ 16 ∧
        t.gn.jobs.map (fun j => (j.num, j.prns)) = s.gn.jobs.map (fun j => (j.num, j.prns)) ++ [((s.gn.jobNum + 1) % 2 ^ 16, (maskPrns (s.rd (fn.val + 1) F.GN_ACQ_ARG0_SIGNAL) (s.rd (fn.val + 1) F.GN_ACQ_ARG1) (s.rd (fn.val + 1) F.GN_ACQ_ARG2)))] ∧ sameMem s t) ∧
  (∀ (fn : Fn) (s : State),
      s.takes .gn stAcq fn.val = true → s.secureSt fn.val = true →
      exec (.gnAcqAbortAll fn) s = .next (completeOk stAcq (ownWin fn) (engineNext { s with gn := { s.gn with jobs := [] } }))) ∧
  (∀ (tick : BitVec 64) (phase : Fin 32) (p1 p2 noise : BitVec 64) (code : BitVec 48) (doppler : BitVec 32) (j : GnJob) (r : List GnJob) (prn : Nat) (rest : List Nat) (s : State),
      s.doorOpen .gn = true → s.gn.jobs = j :: r → j.prns = prn :: rest → s.gn.spRun = none → j.capEnd ≠ 0 → (j.ready ≤ s.frc ∨ j.fail = true) → wsub
      32 (s.sh F.GN_ACQ_WR_IDX) (s.sh F.GN_ACQ_RD_IDX) < 256 →
      ∃ t, exec (.acqPrnDone tick phase p1 p2 noise code doppler) s = .next t ∧ t.gn.acqSeq = (s.gn.acqSeq + 1) % 2 ^ 16 ∧
        t.sh F.GN_ACQ_WR_IDX = (s.sh F.GN_ACQ_WR_IDX + 1) % 2 ^ 32 ∧ t.gn.jobs = { j with prns := rest, ready := s.frc + searchTicks j } :: r) ∧
  (∀ (j : GnJob) (r : List GnJob) (s : State),
      s.doorOpen .gn = true → s.gn.jobs = j :: r → j.prns = [] →
      exec .acqJobDone s = .next (engineNext (post Ev.GN_ACQ_DONE j.num { s with gn := { s.gn with jobs := r } }))) ∧
  (∀ (fn : Fn) (s : State),
      s.takesWrite .gn fn.val = true → s.secureSt fn.val = true → s.sh F.GN_SS_RESULT1_BUSY = 0 → s.sh F.GN_SS_CODE_CODE_COUNT ≠ 0 → s.sh
      F.GN_SS_DOP_DOP_COUNT ≠ 0 →
      ∃ t, exec (.ssStart fn) s = .next t ∧ t.sh F.GN_SS_RESULT1_BUSY = 1 ∧ t.sh F.GN_SS_RESULT1_DONE = 0 ∧ t.sh F.GN_SS_RESULT1_REFUSED = 0 ∧
        t.gn.ssEnd = s.frc + ceilDiv ((ceilDiv (s.sh F.GN_SS_CODE_CODE_COUNT) 1024 * s.sh F.GN_SS_DOP_DOP_COUNT * s.sh F.GN_SS_CFG_N_NC * 1000 + 50) * 3125) 2 ∧ sameMem s t) ∧
  (∀ (fn : Fn) (code : BitVec 12) (doppler ratio : BitVec 16) (s : State),
      s.takesWrite .gn fn.val = true → s.secureSt fn.val = true → s.sh F.GN_SS_RESULT1_BUSY = 1 →
      exec (.ssAbort fn code doppler ratio) s = .next (ssFinish code.toNat doppler.toNat ratio.toNat s)) ∧
  (∀ (code : BitVec 12) (doppler ratio : BitVec 16) (s : State),
      s.doorOpen .gn = true → s.sh F.GN_SS_RESULT1_BUSY = 1 → (s.gn.ssEnd ≤ s.frc ∨ (s.sh F.GN_SS_CFG_STOP_ON_DETECT = 1 ∧ s.sh F.GN_SS_CFG_THRESH ≤
      ratio.toNat)) →
      ∃ t, exec (.ssDone code doppler ratio) s = .next t ∧ t.sh F.GN_SS_RESULT0_CODE = code.toNat ∧ t.sh F.GN_SS_RESULT0_DOPPLER = doppler.toNat ∧
        t.sh F.GN_SS_RESULT1_RATIO = ratio.toNat ∧ t.sh F.GN_SS_RESULT1_DONE = 1 ∧ t.sh F.GN_SS_RESULT1_BUSY = 0 ∧
        t.sh F.GN_SS_RESULT1_DETECTED = b2n (decide (s.sh F.GN_SS_CFG_THRESH ≤ ratio.toNat)))

/-- START of an IDLE or LOST channel on a running port, with a PRN and a code phase that its signal has and a stamp at most 4 s old, places its start at
the first primary epoch at least 64 ticks later; STOP returns it to IDLE; SET_TOW stores the time of a recent epoch; a channel starts at its start
epoch in PULL_IN; an integration that has ended counts up and the next begins; an update of the loop is submitted; COASTING ends in LOST; a
measurement latch writes a whole epoch of records or drops it. -/
def Obligations.GnssChannelCommands : Prop :=
  (∀ (fn : Fn) (s : State),
      s.takes .gn stGnCh fn.val = true → s.secureSt fn.val = true → s.rd (fn.val + 1) F.GN_CH_SEL < 192 → (gnState s (s.rd (fn.val + 1) F.GN_CH_SEL) =
      gnIDLE ∨ gnState s (s.rd (fn.val + 1) F.GN_CH_SEL) = gnLOST) → gnPortState s (sigPort (bits (s.rd (fn.val + 1) F.GN_CH_ARG0) 0 3)) = 1 → prnOk
      (bits (s.rd (fn.val + 1) F.GN_CH_ARG0) 0 3) (bits (s.rd (fn.val + 1) F.GN_CH_ARG0) 8 8) = true → (bits (s.rd (fn.val + 1) F.GN_CH_ARG2) 0 16 * 2
      ^ 32 + (s.rd (fn.val + 1) F.GN_CH_ARG1)) / 2 ^ 32 < codeLen (bits (s.rd (fn.val + 1) F.GN_CH_ARG0) 0 3) → (32 * ((s.rd (fn.val + 1)
      F.GN_CH_ARG4) + 2 ^ 32 * (s.rd (fn.val + 1) F.GN_CH_ARG5)) + bits (s.rd (fn.val + 1) F.GN_CH_ARG0) 16 5) ≤ 32 * s.frc → 32 * s.frc ≤ (32 *
      ((s.rd (fn.val + 1) F.GN_CH_ARG4) + 2 ^ 32 * (s.rd (fn.val + 1) F.GN_CH_ARG5)) + bits (s.rd (fn.val + 1) F.GN_CH_ARG0) 16 5) + 32 * 6250000000 →
      exec (.gnChStart fn) s = .next (
        let f := sgn 32 (s.rd (fn.val + 1) F.GN_CH_ARG3) * 2 ^ 16;
        let ref := ((32 * ((s.rd (fn.val + 1) F.GN_CH_ARG4) + 2 ^ 32 * (s.rd (fn.val + 1) F.GN_CH_ARG5)) + bits (s.rd (fn.val + 1) F.GN_CH_ARG0) 16 5) : Rat) / 32;
        let r := codeRate s (s.rd (fn.val + 1) F.GN_CH_SEL) { sig := (bits (s.rd (fn.val + 1) F.GN_CH_ARG0) 0 3), freq := f };
        let n := ⌈(((bits (s.rd (fn.val + 1) F.GN_CH_ARG2) 0 16 * 2 ^ 32 + (s.rd (fn.val + 1) F.GN_CH_ARG1)) : Rat) + r * ((s.frc : Rat) + 64 - ref)) / (primCode (bits (s.rd (fn.val + 1) F.GN_CH_ARG0) 0 3) : Rat)⌉;
        completeOk stGnCh (ownWin fn) (s.setGnc (s.rd (fn.val + 1) F.GN_CH_SEL) { s.gnc (s.rd (fn.val + 1) F.GN_CH_SEL) with start := some ⟨ref + ((n : Rat) * (primCode (bits (s.rd (fn.val + 1) F.GN_CH_ARG0) 0 3) : Rat) - ((bits (s.rd (fn.val + 1) F.GN_CH_ARG2) 0 16 * 2 ^ 32 + (s.rd (fn.val + 1) F.GN_CH_ARG1)) : Rat)) / r, (bits (s.rd (fn.val + 1) F.GN_CH_ARG0) 0 3), bits (s.rd (fn.val + 1) F.GN_CH_ARG0) 8 8, f⟩ }))) ∧
  (∀ (fn : Fn) (s : State),
      s.takes .gn stGnCh fn.val = true → s.secureSt fn.val = true → s.rd (fn.val + 1) F.GN_CH_SEL < 192 →
      exec (.gnChStop fn) s = .next (completeOk stGnCh (ownWin fn) (gnStop (s.rd (fn.val + 1) F.GN_CH_SEL) s))) ∧
  (∀ (fn : Fn) (s : State),
      s.takes .gn stGnCh fn.val = true → s.secureSt fn.val = true → s.rd (fn.val + 1) F.GN_CH_SEL < 192 → gnState s (s.rd (fn.val + 1) F.GN_CH_SEL) =
      gnTRACKING → (s.rd (fn.val + 1) F.GN_CH_ARG0) % primMs (s.gnc (s.rd (fn.val + 1) F.GN_CH_SEL)).sig = 0 → (s.rd (fn.val + 1) F.GN_CH_ARG0) <
      604800000 → ((uns 32 ((epochOf (ncoAt s (s.rd (fn.val + 1) F.GN_CH_SEL) (s.gnc (s.rd (fn.val + 1) F.GN_CH_SEL)) s.frc)) - ((s.rd (fn.val + 1)
      F.GN_CH_ARG1) : Int))) ≤ 10000 ∨ 2 ^ 32 - 10000 ≤ (uns 32 ((epochOf (ncoAt s (s.rd (fn.val + 1) F.GN_CH_SEL) (s.gnc (s.rd (fn.val + 1)
      F.GN_CH_SEL)) s.frc)) - ((s.rd (fn.val + 1) F.GN_CH_ARG1) : Int)))) →
      exec (.gnChSetTow fn) s = .next (
        let back := sgn 32 (uns 32 ((epochOf (ncoAt s (s.rd (fn.val + 1) F.GN_CH_SEL) (s.gnc (s.rd (fn.val + 1) F.GN_CH_SEL)) s.frc)) - ((s.rd (fn.val + 1) F.GN_CH_ARG1) : Int)));
        let total := ((s.rd (fn.val + 1) F.GN_CH_ARG0) : Int) + back * primMs (s.gnc (s.rd (fn.val + 1) F.GN_CH_SEL)).sig;
        completeOk stGnCh (ownWin fn) (setGnFlag (s.rd (fn.val + 1) F.GN_CH_SEL) 5 true (s.setGnc (s.rd (fn.val + 1) F.GN_CH_SEL) { s.gnc (s.rd (fn.val + 1) F.GN_CH_SEL) with tow := some ((epochOf (ncoAt s (s.rd (fn.val + 1) F.GN_CH_SEL) (s.gnc (s.rd (fn.val + 1) F.GN_CH_SEL)) s.frc)).toNat, (total % 604800000).toNat, uns 16 ((bits (s.rd (fn.val + 1) F.GN_CH_ARG2) 0 16 : Nat) + total / 604800000)) })))) ∧
  (∀ (ch : Fin 192) (st : GnStart) (s : State),
      s.doorOpen .gn = true → (s.gnc ch.val).start = some st → st.at_ ≤ (s.frc : Rat) → (gnState s ch.val = gnIDLE ∨ gnState s ch.val = gnLOST) →
      ∃ t, exec (.chStartEpoch ch) s = .next t ∧ gnState t ch.val = gnPULLIN ∧ (t.gnc ch.val).sig = st.sig ∧ (t.gnc ch.val).prn = st.prn ∧
        (t.gnc ch.val).freq = st.freq ∧ (t.gnc ch.val).at_ = st.at_ ∧ (t.gnc ch.val).start = none) ∧
  (∀ (ch : Fin 192) (taps : List (BitVec 32)) (s : State),
      s.doorOpen .gn = true → gnState s ch.val ≠ gnIDLE → taps.length = 14 → (s.gnc ch.val).at_ + (((s.gnc ch.val).next * primCode (s.gnc ch.val).sig
      : Nat) - (s.gnc ch.val).code) / codeRate s ch.val (s.gnc ch.val) ≤ (s.frc : Rat) →
      ∃ t, exec (.integrationBoundary ch taps) s = .next t ∧ (t.gnc ch.val).k = ((s.gnc ch.val).k + 1) % 2 ^ 32 ∧ (t.gnc ch.val).first = (s.gnc ch.val).next ∧
        (t.gnc ch.val).ended = ((s.gnc ch.val).k, (s.gnc ch.val).first) :: (s.gnc ch.val).ended.take 1) ∧
  (∀ (fn : Fn) (ch : Fin 192) (value : BitVec 32) (s : State),
      s.takesWrite .gn fn.val = true → updMay s fn.val ch.val = true →
      exec (.loopUpdate fn ch value) s = .next (submitUpd ch.val value.toNat s)) ∧
  (∀ (ch : Fin 192) (s : State),
      gnState s ch.val = gnCOASTING → (s.gnc ch.val).coastAt + ticksOfMs (s.sh F.GN_CTRL_COAST_MS) ≤ s.frc →
      exec (.coastExpiry ch) s = .next (setGnState ch.val gnLOST s)) ∧
  (∀ (tick : BitVec 64) (s : State),
      s.doorOpen .gn = true → s.sh F.GN_CTRL_EN ≠ 0 → tick.toNat % measPeriod s = 0 → tick.toNat ≤ s.frc → (∀ l ∈ s.gn.lastLatch, l < tick.toNat) →
      wsub 32 (s.sh F.GN_MEAS_WR_IDX) (s.sh F.GN_MEAS_RD_IDX) + 1 + (recording s tick.toNat).length ≤ 4096 →
      ∃ t, exec (.measLatch tick) s = .next t ∧ t.gn.epoch = (s.gn.epoch + 1) % 2 ^ 32 ∧ t.gn.lastLatch = some tick.toNat ∧
        t.sh F.GN_MEAS_WR_IDX = (s.sh F.GN_MEAS_WR_IDX + 1 + (recording s tick.toNat).length) % 2 ^ 32) ∧
  (∀ (tick : BitVec 64) (s : State),
      s.doorOpen .gn = true → s.sh F.GN_CTRL_EN ≠ 0 → tick.toNat % measPeriod s = 0 → tick.toNat ≤ s.frc → (∀ l ∈ s.gn.lastLatch, l < tick.toNat) →
      4096 < wsub 32 (s.sh F.GN_MEAS_WR_IDX) (s.sh F.GN_MEAS_RD_IDX) + 1 + (recording s tick.toNat).length →
      exec (.measLatch tick) s = .next (post Ev.GN_EPOCH_DROPPED 0 (({ s with gn := { s.gn with epoch := (s.gn.epoch + 1) % 2 ^ 32, lastLatch := some tick.toNat } } : State).wr 0 F.GN_COUNTS_EPOCH_DROPPED (s.sh F.GN_COUNTS_EPOCH_DROPPED + 1))))

/-- A solution at a new whole-second latch with SOLVE 1 and enough pairs is delivered and judged, and with SOLVE 0 the state is judged without one; a
survey that has lasted SURVEY_S stores the position and ends; a due pass of the second-peak monitor waits for the engine, and a complete one gives
each channel its result; a frame that passes at the locked position clears the failures, and the one position that passed in two frames running
locks. -/
def Obligations.GnssSolutionCommands : Prop :=
  (∀ (tick : BitVec 64) (pairs : List GnPair) (first second : GnFit) (s : State),
      s.doorOpen .gn = true → stewardRuns s = true → s.sh F.GN_CTRL_EN ≠ 0 → tick.toNat % 1562500000 = 0 → tick.toNat ≤ s.frc → (∀ l ∈ s.gn.lastSolve,
      l < tick.toNat) → s.sh F.GN_CTRL_SOLVE = 0 →
      exec (.timeSolution tick pairs first second) s = .next (decideIntegrity tick.toNat none false (setSolState 0 ({ s with gn := { s.gn with lastSolve := some tick.toNat } } : State)))) ∧
  (∀ (tick : BitVec 64) (pairs : List GnPair) (first second fit : GnFit) (l : List GnPair) (sys : List Nat) (s : State),
      s.doorOpen .gn = true → stewardRuns s = true → s.sh F.GN_CTRL_EN ≠ 0 → tick.toNat % 1562500000 = 0 → tick.toNat ≤ s.frc → (∀ l ∈ s.gn.lastSolve,
      l < tick.toNat) → s.sh F.GN_CTRL_SOLVE ≠ 0 → solveAt ({ s with gn := { s.gn with lastSolve := some tick.toNat } } : State) pairs first second =
      (some (fit, l, sys), false) →
      exec (.timeSolution tick pairs first second) s = .next (
        let t := decideIntegrity tick.toNat (some (fit, l, sys)) false (deliver tick.toNat fit l sys ({ s with gn := { s.gn with lastSolve := some tick.toNat } } : State));
        { t with gn := { t.gn with sols := t.gn.sols ++ [⟨tick.toNat, sgn 64 (t.sh F.GN_SOL_OFFSET_LO + 2 ^ 32 * t.sh F.GN_SOL_OFFSET_HI), t.sh F.GN_SOL_BOUND_LO + 2 ^ 32 * t.sh F.GN_SOL_BOUND_HI, t.sh F.GN_INT_STATUS_STATE⟩] } })) ∧
  (∀ (x y z : BitVec 64) (a : Nat) (s : State),
      s.doorOpen .gn = true → stewardRuns s = true → s.gn.surveyAt = some a → s.sh F.GN_SOL_CFG_MODE = 1 → a + s.sh F.GN_SURVEY_S * 1562500000 ≤ s.frc →
      ∃ t, exec (.surveyDone x y z) s = .next t ∧ t.rd64 0 F.GN_POS_X_LO F.GN_POS_X_HI = x.toNat ∧ t.rd64 0 F.GN_POS_Y_LO F.GN_POS_Y_HI = y.toNat ∧
        t.rd64 0 F.GN_POS_Z_LO F.GN_POS_Z_HI = z.toNat ∧ t.sh F.GN_SOL_CFG_MODE = 0 ∧ t.gn.surveyAt = none) ∧
  (∀ (s : State),
      s.doorOpen .gn = true → s.sh F.GN_SP_CFG_SP_EN ≠ 0 → s.sh F.GN_CTRL_EN ≠ 0 → s.gn.spDue ≤ s.frc → s.gn.spWait = false →
      exec .spPassDue s = .next (engineNext { s with gn := { s.gn with spDue := s.gn.spDue + s.sh F.GN_SP_CFG_SP_PERIOD_S * 1562500000, spWait := true } })) ∧
  (∀ (tick : BitVec 64) (results : List SpResult) (x : Nat) (cs : List Nat) (s : State),
      s.doorOpen .gn = true → s.gn.spRun = some (x, cs) →
      exec (.spPassComplete tick results) s = .next (let t := each (results.filter fun r => cs.contains r.ch.val) (spResult tick.toNat) s;
        engineNext { t with gn := { t.gn with spRun := none } })) ∧
  (∀ (ch : Fin 192) (cands : List NavCand) (tow epoch : BitVec 32) (week : BitVec 16) (p : Nat × Bool) (s : State),
      s.doorOpen .gn = true → stewardRuns s = true → gnState s ch.val = gnTRACKING → (gnFlag s ch.val 4 = true ∨ (gnFlag s ch.val 3 = true ∧ (s.gnc
      ch.val).sig ≠ 3)) → (s.gnc ch.val).lock = some p → ((cands.filter fun k => k.check && (decide ((s.gnc ch.val).sig < 2) || !k.complement)).map
      fun k => (k.pos.toNat, k.complement)).contains p = true →
      exec (.navFrame ch cands tow epoch week false false) s = .next (s.setGnc ch.val { s.gnc ch.val with fails := 0 })) ∧
  (∀ (ch : Fin 192) (cands : List NavCand) (tow epoch : BitVec 32) (week : BitVec 16) (p : Nat × Bool) (s : State),
      s.doorOpen .gn = true → stewardRuns s = true → gnState s ch.val = gnTRACKING → (gnFlag s ch.val 4 = true ∨ (gnFlag s ch.val 3 = true ∧ (s.gnc
      ch.val).sig ≠ 3)) → (s.gnc ch.val).lock = none → (((cands.filter fun k => k.check && (decide ((s.gnc ch.val).sig < 2) || !k.complement)).map fun
      k => (k.pos.toNat, k.complement)).filter fun p => (s.gnc ch.val).cands.contains p) = [p] →
      exec (.navFrame ch cands tow epoch week false false) s = .next (frameLock ch.val p.1 p.2 tow.toNat epoch.toNat week.toNat s))

/-- COMMIT puts the pulse model in effect 64 ticks later; EN of GNSS_PPS_OUT fixes its first pulse, and each pulse leaves or is suppressed and the next
is fixed; AUDIT_EN wakes the receiver from OFF, the awake window ends in SLEEP with the jobs gone, and WAKE and the warm-up end it; a snapshot is
armed, captures at its tick with a header of that tick, is HELD when its data are there, and is released. -/
def Obligations.GnssPulseAndAudit : Prop :=
  (∀ (fn : Fn) (s : State),
      s.takesWrite .gn fn.val = true → s.secureSt fn.val = true →
      exec (.ppsModelCommit fn) s = .next { s with gn := { s.gn with modelNew := some (s.frc + 64, { f := s.rd64 0 F.GN_PPS_M_FRC_LO F.GN_PPS_M_FRC_HI, g := linOfT96 (s.sh F.GN_PPS_M_TIME0 + 2 ^ 32 * s.sh F.GN_PPS_M_TIME1 + 2 ^ 64 * s.sh F.GN_PPS_M_TIME2), y := sgn 48 (s.rd64 0 F.GN_PPS_M_RATE_LO F.GN_PPS_M_RATE_HI), b := s.rd64 0 F.GN_PPS_M_BOUND_LO F.GN_PPS_M_BOUND_HI }) } }) ∧
  (∀ (at_ : Nat) (m : PpsModel) (s : State),
      s.gn.modelNew = some (at_, m) → at_ ≤ s.frc →
      exec .ppsModelApply s = .next { s with gn := { s.gn with model := m, modelNew := none } }) ∧
  (∀ (fn : Fn) (value : BitVec 32) (s : State),
      s.takesWrite .gn fn.val = true → s.secureSt fn.val = true → s.sh F.GN_PPS_CFG_EN = 0 → bitOf value.toNat 0 = true →
      ∃ t, exec (.gnssPpsEn fn value) s = .next t ∧ t.sh F.GN_PPS_CFG_EN = 1 ∧ t.sh F.GN_PPS_CFG_PPS_COAST_S = max 1 (bits value.toNat 8 8) ∧
        t.gn.pulse = some (ppsFix t (ppsFirst t ((t.frc : Rat) * 640 + 500000000000))) ∧ sameMem s t) ∧
  (∀ (fn : Fn) (value : BitVec 32) (s : State),
      s.takesWrite .gn fn.val = true → s.secureSt fn.val = true → bitOf value.toNat 0 = false →
      ∃ t, exec (.gnssPpsEn fn value) s = .next t ∧ t.sh F.GN_PPS_CFG_EN = 0 ∧ t.gn.pulse = none ∧ sameMem s t) ∧
  (∀ (p : PpsPulse) (s : State),
      s.gn.pulse = some p → p.edge ≤ (s.frc : Int) * 640 → p.squelched = false →
      ∃ t, exec .gnssPpsPulse s = .next t ∧ t.gn.lastPulse = some p ∧ t.gn.pulse.isSome = true ∧
        t.sh F.GN_PPS_STATUS_PULSES = (s.sh F.GN_PPS_STATUS_PULSES + 1) % 2 ^ F.GN_PPS_STATUS_PULSES.w ∧ t.sh F.GN_PPS_STATUS_SQUELCHED = 0) ∧
  (∀ (fn : Fn) (value : BitVec 32) (s : State),
      s.takesWrite .gn fn.val = true → s.secureSt fn.val = true → bitOf value.toNat 0 = true → audState s = audOFF →
      ∃ t, exec (.auditEnWrite fn value) s = .next t ∧ audState t = audAWAKE ∧ t.gn.awakeAt = s.frc ∧ t.gn.sols = []) ∧
  (∀ (fn : Fn) (value : BitVec 32) (s : State),
      s.takesWrite .gn fn.val = true → s.secureSt fn.val = true → bitOf value.toNat 0 = false →
      ∃ t, exec (.auditEnWrite fn value) s = .next t ∧ audState t = audOFF ∧ t.sh F.GN_AUD_CFG_AUDIT_EN = 0) ∧
  (∀ (s : State),
      s.doorOpen .gn = true → audState s = audAWAKE → snapState s ≠ snapCAPTURING → s.gn.awakeAt + s.sh F.GN_AUD_CFG_AUDIT_ON_MIN * 60 * 1562500000 ≤
      s.frc →
      ∃ t, exec .auditSleep s = .next t ∧ audState t = audSLEEP ∧ t.gn.jobs = [] ∧ t.sh (F.GN_PORT_CFG_EN 0) = 0 ∧ t.sh (F.GN_PORT_CFG_EN 1) = 0) ∧
  (∀ (s : State),
      s.doorOpen .gn = true → audState s = audSLEEP → s.rd64 0 F.GN_AUD_WAKE_LO F.GN_AUD_WAKE_HI ≤ s.frc → s.sh F.PWR_STATUS_STATE ≤ 2 →
      exec .auditWake s = .next (audAwake s)) ∧
  (∀ (at_ : Nat) (s : State),
      s.doorOpen .gn = true → s.gn.warmAt = some at_ → at_ ≤ s.frc →
      ∃ t, exec .feWarmDone s = .next t ∧ t.gn.warmAt = none ∧ t.gn.savedEn = 0 ∧ t.sh F.GN_AUD_STATUS_START = startKind t) ∧
  (∀ (fn : Fn) (s : State),
      s.takesWrite .gn fn.val = true → s.secureSt fn.val = true → snapRefused s = false →
      ∃ t, exec (.snapArm fn) s = .next t ∧ snapState t = snapARMED ∧ t.sh F.GN_SNAP_STATUS_CAUSE = 0 ∧
        t.gn.snap = some { tick := if s.sh F.GN_SNAP_CFG_TRIGGER = 1 then s.rd64 0 F.GN_SNAP_TIME_LO F.GN_SNAP_TIME_HI else s.frc + 64 } ∧ sameMem s t) ∧
  (∀ (x : GnSnap) (s : State),
      s.doorOpen .gn = true → s.gn.snap = some x → snapState s = snapARMED → x.tick ≤ s.frc → ([0, 1].any fun p => bitOf (s.sh
      F.GN_SNAP_CFG_SNAP_PORTS) p && gnPortState s p != 1) = false →
      ∃ t, exec .snapTrigger s = .next t ∧ snapState t = snapCAPTURING ∧ ∃ y, t.gn.snap = some y ∧ y.tick = x.tick ∧ y.header.length = 64) ∧
  (∀ (samples0 samples1 : List Byte) (stamps0 stamps1 : List SnapStamp) (x : GnSnap) (s : State),
      s.doorOpen .gn = true → s.gn.snap = some x → snapState s = snapCAPTURING → x.tick + s.sh F.GN_SNAP_CFG_LEN_MS * 1562500 ≤ s.frc →
      ∃ t, exec (.snapCaptureDone samples0 stamps0 samples1 stamps1) s = .next t ∧ snapState t = snapHELD ∧ t.gn.snap = none ∧ t.gn.snapSeq = (s.gn.snapSeq + 1) % 2 ^ 32) ∧
  (∀ (fn : Fn) (s : State),
      s.takesWrite .gn fn.val = true → s.secureSt fn.val = true → snapState s = snapHELD →
      exec (.snapRelease fn) s = .next (s.wr 0 F.GN_SNAP_STATUS_STATE snapIDLE))

/-- EN of a port that its mode, FEC and lanes allow makes it DOWN with its lanes as members, and EN 0 makes it OFF; a lane that loses lock tells its
slot and its port; a port is UP when every condition has held for LINKUP_MS, and DOWN when one fails; a remote fault is shown while it is present; a
good frame of an UP port is counted, stamped and classified; the head of the egress pipeline enters the MAC when the line is free and it fits, and
so does a reservation that is due; a response that has missed its start is discarded; a timestamp ring is enabled empty. -/
def Obligations.PortCommands : Prop :=
  (∀ (fn : Fn) (port : Fin 16) (value : BitVec 32) (s : State),
      s.takesWrite .prt fn.val = true → s.secureSt fn.val = true → s.sh (F.PRT_PORT_CFG_EN port.val) = 0 → bitOf value.toNat 0 = true → portOk s
      port.val (bits value.toNat 1 4) (bits value.toNat 5 2) = true →
      exec (.prtPortEn fn port value) s = .next (setMembers port.val true (portDown port.val (((((s.wr 0 (F.PRT_PORT_CFG_ERR_DELIVER port.val) (bits value.toNat 8 1)).wr 0 (F.PRT_PORT_CFG_MODE port.val) (bits value.toNat 1 4)).wr
        0 (F.PRT_PORT_CFG_FEC port.val) (bits value.toNat 5 2)).wr 0 (F.PRT_PORT_CFG_AN_EN port.val) (bits value.toNat 7 1)).wr 0 (F.PRT_PORT_CFG_EN port.val) 1)))) ∧
  (∀ (fn : Fn) (port : Fin 16) (value : BitVec 32) (s : State),
      s.takesWrite .prt fn.val = true → s.secureSt fn.val = true → s.sh (F.PRT_PORT_CFG_EN port.val) = 1 → bitOf value.toNat 0 = false → (bits
      value.toNat 1 4) = portMode s port.val → (bits value.toNat 5 2) = s.sh (F.PRT_PORT_CFG_FEC port.val) → bits value.toNat 7 1 = s.sh
      (F.PRT_PORT_CFG_AN_EN port.val) →
      exec (.prtPortEn fn port value) s = .next (setMembers port.val false (portDown port.val ((s.wr 0 (F.PRT_PORT_CFG_ERR_DELIVER port.val) (bits value.toNat 8 1)).wr 0 (F.PRT_PORT_CFG_EN port.val) 0)))) ∧
  (∀ (lane : Fin 16) (s : State),
      s.sh (F.PRT_LANE_STATUS_BLOCK_LOCK lane.val) ≠ 0 →
      exec (.laneLockLoss lane) s = .next (let t := linkLost (8 + lane.val) ((s.wr 0 (F.PRT_LANE_STATUS_BLOCK_LOCK lane.val) 0).wr 0
          (F.PRT_LANE_STATUS_LOCK_LOSS lane.val) (s.sh (F.PRT_LANE_STATUS_LOCK_LOSS lane.val) + 1));
        if t.sh (F.PRT_LANE_STATUS_MEMBER lane.val) = 1 then portDown (t.sh (F.PRT_LANE_STATUS_PORT lane.val)) t else t)) ∧
  (∀ (port : Fin 16) (s : State),
      s.doorOpen .prt = true → s.sh (F.PRT_PORT_STATUS_STATE port.val) = 1 → (s.prtPort port.val).downAt + ticksOfMs (s.sh (F.PRT_PORT_FRAME_LINKUP_MS
      port.val)) ≤ s.frc →
      exec (.portLinkUp port) s = .next (let t := (((s.wr 0 (F.PRT_PORT_STATUS_LOCAL_FAULT port.val) 0).wr 0 (F.PRT_PORT_STATUS_HI_BER port.val) 0).wr
          0 (F.PRT_PORT_STATUS_DESKEW_FAIL port.val) 0).wr 0 (F.PRT_PORT_STATUS_SPEED_MISMATCH port.val) 0;
        portLinkUp port.val (t.wr 0 (F.PRT_PORT_STATUS_AN_DONE port.val) (b2n (portMode t port.val == 0 && t.sh (F.PRT_PORT_CFG_AN_EN port.val) == 1))))) ∧
  (∀ (port : Fin 16) (cause : LinkCause) (s : State),
      s.doorOpen .prt = true → s.sh (F.PRT_PORT_CFG_EN port.val) ≠ 0 → linkConcerns s port.val cause = true →
      exec (.portLinkDown port cause) s = .next (portDown port.val (linkFails port.val cause s))) ∧
  (∀ (port : Fin 16) (present : Bool) (s : State),
      portUp s port.val = true →
      exec (.remoteFault port present) s = .next (onlyIf (present && s.sh (F.PRT_PORT_STATUS_REMOTE_FAULT port.val) == 0) (post Ev.PRT_FAULT port.val)
        (s.wr 0 (F.PRT_PORT_STATUS_REMOTE_FAULT port.val) (b2n present)))) ∧
  (∀ (port : Fin 16) (tick : BitVec 64) (phase : Fin 32) (b : BitVec 13) (frame : List Byte) (s : State),
      s.doorOpen .prt = true → portUp s port.val = true → 14 ≤ frame.length → rxFlags s port.val frame false false false = 0 → rxShareHeld s port.val
      + (frame.take (frame.length - 4)).length ≤ (((tget s.stw.shares port.val).map (·.1)).getD 0) * 1024 → ofBe (slice (frame.take (frame.length -
      4)) 12 2) ≠ 0x8808 → ofBe (slice (frame.take (frame.length - 4)) 12 2) ≠ 0x8809 →
      exec (.prtFrameRx port tick phase b frame false false false) s = .next (classifyFrame
        ⟨port.val, (frame.take (frame.length - 4)), parse (frame.take (frame.length - 4)), 32 * tick.toNat + phase.val, stampRx s port.val b.toNat⟩ (count Ct.PRT_RX_BYTES port.val (frame.length + 20) s))) ∧
  (∀ (port : Fin 16) (tick : BitVec 64) (phase : Fin 32) (b : BitVec 13) (f : TxFrame) (rest : List TxFrame) (s : State),
      s.doorOpen .prt = true → s.safe = false → portUp s port.val = true → (s.prtPort port.val).freeAt ≤ (s.frc : Rat) → (s.schPort port.val).pipe = f
      :: rest → dueLaunch s port.val = none → frameFits s port.val f (s.frc : Rat) = true → bitPosOk s port.val b.toNat = true →
      exec (.prtFrameTx port tick phase b) s = .next (offerFrame port.val f (32 * tick.toNat + phase.val) b.toNat
        ((s.frc : Rat) + lineTicks s port.val f.len) (s.setSchPort port.val { (s.schPort port.val) with pipe := rest }))) ∧
  (∀ (port : Fin 16) (tick : BitVec 64) (phase : Fin 32) (b : BitVec 13) (l : Launch) (s : State),
      s.doorOpen .prt = true → s.safe = false → portUp s port.val = true → (s.prtPort port.val).freeAt ≤ (s.frc : Rat) → (s.schPort port.val).pipe =
      [] → dueLaunch s port.val = some l →
      exec (.prtFrameTx port tick phase b) s = .next (offerFrame port.val l.frame l.x32 l.b l.end_
        (s.setSchPort port.val { (s.schPort port.val) with launches := (s.schPort port.val).launches.erase l }))) ∧
  (∀ (port : Fin 16) (l : Launch) (s : State),
      (s.schPort port.val).launches.find? (fun l => decide (l.start < (s.frc : Rat) + 40)) = some l →
      exec (.launchMiss port) s = .next (launchMiss (s.setSchPort port.val { (s.schPort port.val) with launches := (s.schPort port.val).launches.erase l }))) ∧
  (∀ (fn : Fn) (port : Fin 16) (dir : Fin 2) (value : BitVec 32) (s : State),
      s.takesWrite .prt fn.val = true → s.secureSt fn.val = true → s.sh (prtTsr port.val dir.val).en = 0 →
      exec (.tsrEn fn port dir value) s = .next (tsrEnable (prtTsr port.val dir.val) (bitOf value.toNat 0) (((s.wr 0 (prtTsr port.val dir.val).log (max 8 (min (bits value.toNat 1 4) 12))).wr
        0 (prtTsr port.val dir.val).owner (bits value.toNat 5 9)).wr 0 (prtTsr port.val dir.val).wm (bits value.toNat 16 16))))

/-- The next message of a pipeline leaves its FIFO, is served by its kind (Delay_Req, Follow_Up, NTP, NTS) and its entry's counter moves; the grant
engine answers the TLVs of the first Signaling message in their order; the word of a cadence bitmap that VC0 has just reached is served bit by bit;
a message of the client session is delivered to the steward by its type; without Announce or Sync for the session's time-outs the session is lost;
the sweep visits every context once in 10 s. -/
def Obligations.ServingMessages : Prop :=
  (∀ (pipe : Fin 8) (m : SveMsg) (granted : Bool) (s : State),
      s.doorOpen .sve = true → nextMsg s pipe.val = some (m, granted) → m.kind = .delayReq →
      exec (.delayReq pipe) s = .next (credit m.snap (serveDelayReq pipe.val m granted (popMsg pipe.val granted s)))) ∧
  (∀ (pipe : Fin 8) (m : SveMsg) (granted : Bool) (s : State),
      s.doorOpen .sve = true → nextMsg s pipe.val = some (m, granted) → m.kind = .ntp →
      exec (.ntpRequest pipe) s = .next (credit m.snap (serveNtp m (popMsg pipe.val granted s)))) ∧
  (∀ (pipe : Fin 8) (m : SveMsg) (granted : Bool) (s : State),
      s.doorOpen .sve = true → nextMsg s pipe.val = some (m, granted) → m.kind = .followUp →
      exec (.followUp pipe) s = .next (serveFollowUp pipe.val m (popMsg pipe.val granted s))) ∧
  (∀ (pipe : Fin 8) (m : SveMsg) (granted : Bool) (start tick : BitVec 64) (phase : Fin 32) (b : BitVec 13) (s : State),
      s.doorOpen .sve = true → nextMsg s pipe.val = some (m, granted) → m.kind = .nts →
      exec (.ntsRequest pipe start tick phase b) s = .next (match serveNts m (start.toNat : Rat) (32 * tick.toNat + phase.val) b.toNat (popMsg pipe.val granted s) with
          | some t => credit m.snap t
          | none => s)) ∧
  (∀ (m : SveMsg) (rest : List SveMsg) (sa : Option Nat) (s : State),
      s.doorOpen .sve = true → s.sve.sig = m :: rest → ((findCtx ({ s with sve := { s.sve with sig := rest } } : State) false (clientKey m.snap.idx
      (parse m.frame) (ptpMessage m.frame (parse m.frame)))).map fun c => ctxPoisoned ({ s with sve := { s.sve with sig := rest } } : State) c).getD
      false = false → (verifyFor (ptpMessage m.frame (parse m.frame)) 44 (entTenant m.snap.data) ((findCtx
      ({ s with sve := { s.sve with sig := rest } } : State) false (clientKey m.snap.idx (parse m.frame) (ptpMessage m.frame (parse m.frame)))).map
      fun c => Ctx.sa (ctxRead ({ s with sve := { s.sve with sig := rest } } : State) c)) false ({ s with sve := { s.sve with sig := rest } } :
      State)).1 = some sa →
      exec .signalingRequest s = .next (
        let v := (verifyFor (ptpMessage m.frame (parse m.frame)) 44 (entTenant m.snap.data) ((findCtx ({ s with sve := { s.sve with sig := rest } } : State) false (clientKey m.snap.idx (parse m.frame) (ptpMessage m.frame (parse m.frame)))).map fun c => Ctx.sa (ctxRead ({ s with sve := { s.sve with sig := rest } } : State) c)) false ({ s with sve := { s.sve with sig := rest } } : State)).2;
        let dirBad := (findCtx ({ s with sve := { s.sve with sig := rest } } : State) false (clientKey m.snap.idx (parse m.frame) (ptpMessage m.frame (parse m.frame)))).isNone && Config.dirFull v.sve.dir (clientKey m.snap.idx (parse m.frame) (ptpMessage m.frame (parse m.frame)));
        let a := answerTlvs (ptpMessage m.frame (parse m.frame)).length 44 ⟨m, (ptpMessage m.frame (parse m.frame)), sa, dirBad, (findCtx ({ s with sve := { s.sve with sig := rest } } : State) false (clientKey m.snap.idx (parse m.frame) (ptpMessage m.frame (parse m.frame))))⟩
          (onlyIf dirBad (fun t => post Ev.SVE_DIR_FULL m.snap.idx (t.wr 0 F.SVE_COUNTS_DIR_FULL (t.sh F.SVE_COUNTS_DIR_FULL + 1))) v);
        let t := credit m.snap a.2.2;
        if a.1.isEmpty then t
        else (emitPtp m.port 1 (entTenant m.snap.data) (entClock m.snap.data) (match a.2.1.ctx with
            | some c => ctxRead t c
            | none => zeros 64) (replyRoute m.port m.frame (parse m.frame) false 320 320)
          (ptpMsg t (entProfile m.snap.data) 0xC (entDomain m.snap.data) m.port false true 0 (ofBe (slice (ptpMessage m.frame (parse m.frame)) 30 2)) 0x7F (slice (ptpMessage m.frame (parse m.frame)) 20 10 ++ a.1)) [] none t).2)) ∧
  (∀ (bitmap : Fin 12) (word : BitVec 16) (a : Nat) (s : State),
      s.doorOpen .sve = true → s.sh F.SVE_CTRL_EN ≠ 0 → ((wheelNow s ((bitmap.val : Int) - 7)) % 65536).toNat = word.toNat → tget s.sve.wheel
      bitmap.val ≠ some (wheelNow s ((bitmap.val : Int) - 7)) → wheelAddr
      ({ s with sve := { s.sve with wheel := tset s.sve.wheel bitmap.val (wheelNow s ((bitmap.val : Int) - 7)) } } : State) ((bitmap.val : Int) - 7)
      (16 * word.toNat) = some a → ({ s with sve := { s.sve with wheel := tset s.sve.wheel bitmap.val (wheelNow s ((bitmap.val : Int) - 7)) } } :
      State).shmPoisoned a 4 = false →
      exec (.cadenceDue bitmap word) s = .next (each (List.range 32) (fun i t =>
        onlyIf (bitOf (ofLe (({ s with sve := { s.sve with wheel := tset s.sve.wheel bitmap.val (wheelNow s ((bitmap.val : Int) - 7)) } } : State).shmRead a 4)) i) (dueBit ((bitmap.val : Int) - 7) (i / 16) (16 * word.toNat + i % 16)) t) ({ s with sve := { s.sve with wheel := tset s.sve.wheel bitmap.val (wheelNow s ((bitmap.val : Int) - 7)) } } : State))) ∧
  (∀ (t3 : Option (BitVec 96)) (m : Octets) (x32 : Nat) (time : Int) (rest : List (Octets × Nat × Int)) (s : State),
      s.sve.cli.inbox = (m, x32, time) :: rest →
      exec (.ptpClientMessage t3) s = .next (
        let t := (setCli { s.sve.cli with inbox := rest } s).wr 0 F.SVE_CLI_STATUS_MESSAGES (s.sh F.SVE_CLI_STATUS_MESSAGES + 1);
        match ptpType m with
          | 0 => cliSync m x32 time t
          | 8 => (match t.sve.cli.exch with
            | some e => if e.seq = ofBe (slice m 30 2) then
                setCli { t.sve.cli with exch := some { e with t1 := some (ptpNs (slice m 34 10) + ptpCorr m) } } t else t
            | none => t)
          | 9 => cliDelayResp m (t3.map (·.toNat)) t
          | _ => cliAnnounce m t)) ∧
  (∀ (t : Nat) (log : Int) (s : State),
      s.sve.cli.ann = some (t, log) → (t : Rat) + logTicks (s.sh F.SVE_CLI_CFG_CLI_ANN_TO) log ≤ (s.frc : Rat) → s.sh F.SVE_CLI_CFG_CLI_EN ≠ 0 →
      exec .cliAnnTimeout s = .next (let x := setCli { s.sve.cli with ann := none } s;
        updateQr 25 ((post Ev.SVE_CLI_LOST 0 (x.wr 0 F.SVE_CLI_STATUS_ANN_TIMEOUT 1)).setSlot 25 { x.slot 25 with qlTick := none }))) ∧
  (∀ (t : Nat) (log : Int) (s : State),
      s.sve.cli.sync = some (t, log) → (t : Rat) + logTicks (s.sh F.SVE_CLI_CFG_CLI_SYNC_TO) log ≤ (s.frc : Rat) → s.sh F.SVE_CLI_CFG_CLI_EN ≠ 0 →
      exec .cliSyncTimeout s = .next (linkLost 25 (post Ev.SVE_CLI_LOST 0 ((setCli { s.sve.cli with sync := none } s).wr 0 F.SVE_CLI_STATUS_SYNC_LOST 1)))) ∧
  (∀ (s : State),
      s.doorOpen .sve = true → s.sve.sweepAt + 15625000000 ≤ s.frc →
      exec .grantSweep s = .next (each s.sve.dir sweepContext { s with sve := { s.sve with sweepAt := s.frc } }))

/-- WRITE and INVALIDATE with the entry's GEN replace the entry when no frame of an older or the next generation is left, and wait for the frames
otherwise; the wait ends when they have left; READ gives the entry, its GEN and its counters; READ, INSTALL, RELEASE and CANCEL_GRANT act on a
context for the secure world, the steward and, but for INSTALL, the tenant that its entry serves. -/
def Obligations.ClassifierAndContextCommands : Prop :=
  (∀ (fn : Fn) (drain : Bool) (expectGen : Fin 16) (s : State),
      s.takes .sve stCls fn.val = true → s.secureSt fn.val = true → expectGen.val = (s.cls (s.rd (fn.val + 1) F.SVE_CLS_SEL)).gen → entAction
      (clsWindow s (ownWin fn)) < 5 → kindAllows s (clsWindow s (ownWin fn)) = true → s.sve.waits.any (fun x => x.entry == (s.rd (fn.val + 1)
      F.SVE_CLS_SEL)) = false → (entMessages s (s.rd (fn.val + 1) F.SVE_CLS_SEL)).any (fun m => m.snap.gen == ((s.cls (s.rd (fn.val + 1)
      F.SVE_CLS_SEL)).gen + 1) % 16) = false → (drain = false ∨ entMessages s (s.rd (fn.val + 1) F.SVE_CLS_SEL) = []) →
      exec (.clsWrite fn drain expectGen) s = .next (clsDone (ownWin fn) (s.rd (fn.val + 1) F.SVE_CLS_SEL) (clsReplace (s.rd (fn.val + 1) F.SVE_CLS_SEL) (clsWindow s (ownWin fn)) s))) ∧
  (∀ (fn : Fn) (drain : Bool) (expectGen : Fin 16) (s : State),
      s.takes .sve stCls fn.val = true → s.secureSt fn.val = true → expectGen.val = (s.cls (s.rd (fn.val + 1) F.SVE_CLS_SEL)).gen → entAction
      (clsWindow s (ownWin fn)) < 5 → kindAllows s (clsWindow s (ownWin fn)) = true → s.sve.waits.any (fun x => x.entry == (s.rd (fn.val + 1)
      F.SVE_CLS_SEL)) = false → (entMessages s (s.rd (fn.val + 1) F.SVE_CLS_SEL)).any (fun m => m.snap.gen == ((s.cls (s.rd (fn.val + 1)
      F.SVE_CLS_SEL)).gen + 1) % 16) = true →
      exec (.clsWrite fn drain expectGen) s = .next (accept .sve stCls (ownWin fn) 1 (s.rd (fn.val + 1) F.SVE_CLS_SEL)
        { s with sve := { s.sve with waits := s.sve.waits ++ [⟨ownWin fn, (s.rd (fn.val + 1) F.SVE_CLS_SEL), (clsWindow s (ownWin fn)), none⟩] } })) ∧
  (∀ (fn : Fn) (drain : Bool) (expectGen : Fin 16) (s : State),
      s.takes .sve stCls fn.val = true → s.secureSt fn.val = true → expectGen.val = (s.cls (s.rd (fn.val + 1) F.SVE_CLS_SEL)).gen → entAction (splice
      (padTo 32 (s.cls (s.rd (fn.val + 1) F.SVE_CLS_SEL)).data) 0 (oct [byteAt (padTo 32 (s.cls (s.rd (fn.val + 1) F.SVE_CLS_SEL)).data) 0 / 2 * 2]))
      < 5 → kindAllows s (splice (padTo 32 (s.cls (s.rd (fn.val + 1) F.SVE_CLS_SEL)).data) 0 (oct [byteAt (padTo 32 (s.cls (s.rd (fn.val + 1)
      F.SVE_CLS_SEL)).data) 0 / 2 * 2])) = true → s.sve.waits.any (fun x => x.entry == (s.rd (fn.val + 1) F.SVE_CLS_SEL)) = false → (entMessages s
      (s.rd (fn.val + 1) F.SVE_CLS_SEL)).any (fun m => m.snap.gen == ((s.cls (s.rd (fn.val + 1) F.SVE_CLS_SEL)).gen + 1) % 16) = false → (drain =
      false ∨ entMessages s (s.rd (fn.val + 1) F.SVE_CLS_SEL) = []) →
      exec (.clsInvalidate fn drain expectGen) s = .next (clsDone (ownWin fn) (s.rd (fn.val + 1) F.SVE_CLS_SEL) (clsReplace (s.rd (fn.val + 1) F.SVE_CLS_SEL) (splice (padTo 32 (s.cls (s.rd (fn.val + 1) F.SVE_CLS_SEL)).data) 0 (oct [byteAt (padTo 32 (s.cls (s.rd (fn.val + 1) F.SVE_CLS_SEL)).data) 0 / 2 * 2])) s))) ∧
  (∀ (entry : Fin 4096) (x : ClsWait) (s : State),
      s.sve.waits.find? (fun x => x.entry == entry.val) = some x → x.old = none → (entMessages s entry.val).any (fun m => m.snap.gen == ((s.cls
      entry.val).gen + 1) % 16) = false →
      exec (.clsWriteComplete entry) s = .next (
        let t := clsReplace entry.val x.data { s with sve := { s.sve with waits := s.sve.waits.filter fun y => y.entry != entry.val } };
        post Ev.SVE_CLS_WRITTEN entry.val (finish .sve 1 entry.val Code.ok 0 (t.wr x.win.c F.SVE_CLS_STATUS_GEN (t.cls entry.val).gen)))) ∧
  (∀ (fn : Fn) (s : State),
      s.takes .sve stCls fn.val = true → (s.secureSt fn.val = true ∨ tenantOf fn.val = entTenant (padTo 32 (s.cls (s.rd (fn.val + 1)
      F.SVE_CLS_SEL)).data)) →
      ∃ t, exec (.clsRead fn) s = .next t ∧ t.rd (fn.val + 1) F.SVE_CLS_STATUS_CODE = Code.ok ∧ t.rd (fn.val + 1) F.SVE_CLS_STATUS_BUSY = 0 ∧
        t.rd (fn.val + 1) F.SVE_CLS_STATUS_GEN = (s.cls (s.rd (fn.val + 1) F.SVE_CLS_SEL)).gen % 2 ^ F.SVE_CLS_STATUS_GEN.w ∧
        t.rd (fn.val + 1) (F.SVE_CLS_DATA 7) = ofLe (slice (padTo 32 (s.cls (s.rd (fn.val + 1) F.SVE_CLS_SEL)).data) 28 4) ∧ t.rd (fn.val + 1) F.SVE_CLS_CNT0 = (s.cls (s.rd (fn.val + 1) F.SVE_CLS_SEL)).cur % 2 ^ F.SVE_CLS_CNT0.w ∧
        t.rd (fn.val + 1) F.SVE_CLS_CNT1 = (s.cls (s.rd (fn.val + 1) F.SVE_CLS_SEL)).prev % 2 ^ F.SVE_CLS_CNT1.w ∧ onlyCopy (fn.val + 1) s t) ∧
  (∀ (fn : Fn) (s : State),
      s.takes .sve stCtx fn.val = true → (s.rd (fn.val + 1) F.SVE_CTX_SEL) < ctxCount s → (s.secureSt fn.val = true ∨ tenantOf fn.val = ctxTenant s
      (ctxRead s (s.rd (fn.val + 1) F.SVE_CTX_SEL))) → ctxPoisoned s (s.rd (fn.val + 1) F.SVE_CTX_SEL) = false →
      exec (.ctxRead fn) s = .next (completeOk stCtx (ownWin fn) (each (List.range 16)
        (fun i t => t.wr (fn.val + 1) (F.SVE_CTX_DATA i) (ofLe (slice (ctxRead s (s.rd (fn.val + 1) F.SVE_CTX_SEL)) (4 * i) 4))) s))) ∧
  (∀ (fn : Fn) (n : Nat) (s : State),
      s.takes .sve stCtx fn.val = true → s.secureSt fn.val = true → Ctx.active (installRecord s (ownWin fn)) = true → (Ctx.mcast (installRecord s
      (ownWin fn)) && (entUnicastOnly (s.cls (Ctx.entry (installRecord s (ownWin fn)))).data || entAction (s.cls (Ctx.entry (installRecord s (ownWin
      fn)))).data != 2)) = false → findCtx s (Ctx.mcast (installRecord s (ownWin fn))) (Ctx.key (installRecord s (ownWin fn))) = none → admits s false
      (bestPipe s) (entTenant (s.cls (Ctx.entry (installRecord s (ownWin fn)))).data) (([0, 1, 2].map fun g => grantLoad (installRecord s (ownWin fn))
      g).sum) 0 (([0, 1, 2].map fun g => grantSecLoad (installRecord s (ownWin fn)) g).sum) 0 = true → freeCtx s (bestPipe s) = some n →
      exec (.ctxInstall fn) s = .next (if Config.dirFull s.sve.dir (Ctx.key (installRecord s (ownWin fn)))
        then refuse stCtx (ownWin fn) 0 (post Ev.SVE_DIR_FULL (Ctx.entry (installRecord s (ownWin fn))) (s.wr 0 F.SVE_COUNTS_DIR_FULL (s.sh F.SVE_COUNTS_DIR_FULL + 1)))
        else completeOk stCtx (ownWin fn) ((each ([0, 1].filter fun g => gwGranted (Ctx.grant (installRecord s (ownWin fn)) g))
          (fun g t => wheelBit true (gwLog (Ctx.grant (installRecord s (ownWin fn)) g)) g n t)
          (dirInsert n (ctxWrite n (installRecord s (ownWin fn)) (moveLoad (n % 8) (entTenant (s.cls (Ctx.entry (installRecord s (ownWin fn)))).data) (([0, 1, 2].map fun g => grantLoad (installRecord s (ownWin fn)) g).sum) 0 (([0, 1, 2].map fun g => grantSecLoad (installRecord s (ownWin fn)) g).sum) 0 s)))).wr (fn.val + 1) F.SVE_CTX_SEL n))) ∧
  (∀ (fn : Fn) (s : State),
      s.takes .sve stCtx fn.val = true → (s.rd (fn.val + 1) F.SVE_CTX_SEL) < ctxCount s → (s.secureSt fn.val = true ∨ tenantOf fn.val = ctxTenant s
      (ctxRead s (s.rd (fn.val + 1) F.SVE_CTX_SEL))) → ctxPoisoned s (s.rd (fn.val + 1) F.SVE_CTX_SEL) = false →
      exec (.ctxRelease fn) s = .next (completeOk stCtx (ownWin fn) (freeContext (s.rd (fn.val + 1) F.SVE_CTX_SEL)
        (endGrants (s.rd (fn.val + 1) F.SVE_CTX_SEL) (ctxTenant (sendCancel (ctxRead s (s.rd (fn.val + 1) F.SVE_CTX_SEL)) [0, 1, 2] s) (ctxRead s (s.rd (fn.val + 1) F.SVE_CTX_SEL))) [0, 1, 2] (ctxRead s (s.rd (fn.val + 1) F.SVE_CTX_SEL)) (sendCancel (ctxRead s (s.rd (fn.val + 1) F.SVE_CTX_SEL)) [0, 1, 2] s)).2))) ∧
  (∀ (fn : Fn) (types : Fin 8) (s : State),
      s.takes .sve stCtx fn.val = true → (s.rd (fn.val + 1) F.SVE_CTX_SEL) < ctxCount s → (s.secureSt fn.val = true ∨ tenantOf fn.val = ctxTenant s
      (ctxRead s (s.rd (fn.val + 1) F.SVE_CTX_SEL))) → ctxPoisoned s (s.rd (fn.val + 1) F.SVE_CTX_SEL) = false → types.val ≠ 0 →
      exec (.ctxCancelGrant fn types) s = .next (
        let gs := [0, 1, 2].filter fun g => bitOf types.val g;
        let r := endGrants (s.rd (fn.val + 1) F.SVE_CTX_SEL) (ctxTenant s (ctxRead s (s.rd (fn.val + 1) F.SVE_CTX_SEL))) gs (ctxRead s (s.rd (fn.val + 1) F.SVE_CTX_SEL)) (sendCancel (ctxRead s (s.rd (fn.val + 1) F.SVE_CTX_SEL)) gs s);
        completeOk stCtx (ownWin fn) (ctxWrite (s.rd (fn.val + 1) F.SVE_CTX_SEL) r.1 r.2)))

/-- WRITE with an algorithm, an ICV and an SPP that the rules allow stores the SA's fields; READ shows the SA and latches its counters; LOAD_KEY puts a
key of the right length that the key store delivers into the half that does not transmit, and UNLOAD_KEY empties that half; ROTATE makes the other
half transmit from its tick on, 64 ticks later or at an FRC tick; INVALIDATE deletes an SA without keys. -/
def Obligations.SecurityAssociationCommands : Prop :=
  (∀ (fn : Fn) (s : State),
      s.takes .sec stSa fn.val = true → s.secureSt fn.val = true → bits (s.rd (fn.val + 1) (F.SEC_SA_DATA 0)) 1 2 ≠ 3 → (bitOf (s.rd (fn.val + 1)
      (F.SEC_SA_DATA 0)) 3 = false ∨ bits (s.rd (fn.val + 1) (F.SEC_SA_DATA 0)) 1 2 = 2) → (bitOf (s.rd (fn.val + 1) (F.SEC_SA_DATA 0)) 0 = false ∨
      saTaken s (s.rd (fn.val + 1) F.SEC_SA_SEL) (bits (s.rd (fn.val + 1) (F.SEC_SA_DATA 0)) 16 9) (bits (s.rd (fn.val + 1) (F.SEC_SA_DATA 0)) 8 8) =
      false) → halfLoaded (s.sa (s.rd (fn.val + 1) F.SEC_SA_SEL)).a = false → halfLoaded (s.sa (s.rd (fn.val + 1) F.SEC_SA_SEL)).b = false →
      exec (.saWrite fn) s = .next (completeOk stSa (ownWin fn) (s.setSa (s.rd (fn.val + 1) F.SEC_SA_SEL) { (s.sa (s.rd (fn.val + 1) F.SEC_SA_SEL)) with valid := bitOf (s.rd (fn.val + 1) (F.SEC_SA_DATA 0)) 0, alg := bits (s.rd (fn.val + 1) (F.SEC_SA_DATA 0)) 1 2, icv32 := bitOf (s.rd (fn.val + 1) (F.SEC_SA_DATA 0)) 3, cfZero := bitOf (s.rd (fn.val + 1) (F.SEC_SA_DATA 0)) 4, spp := bits (s.rd (fn.val + 1) (F.SEC_SA_DATA 0)) 8 8, tenant := bits (s.rd (fn.val + 1) (F.SEC_SA_DATA 0)) 16 9 }))) ∧
  (∀ (fn : Fn) (s : State),
      s.takes .sec stSa fn.val = true → (s.secureSt fn.val = true ∨ tenantOf fn.val = (s.sa (s.rd (fn.val + 1) F.SEC_SA_SEL)).tenant) →
      ∃ t, exec (.saRead fn) s = .next t ∧ t.rd (fn.val + 1) F.SEC_SA_STATUS_CODE = Code.ok ∧ t.rd (fn.val + 1) (F.SEC_SA_DATA 0) = (s.sa (s.rd (fn.val + 1) F.SEC_SA_SEL)).data0 % 2 ^ 32 ∧
        t.rd (fn.val + 1) (F.SEC_SA_DATA 1) = halfKeyId (s.sa (s.rd (fn.val + 1) F.SEC_SA_SEL)).a % 2 ^ 32 ∧ t.rd (fn.val + 1) F.SEC_SA_SEQ_A = halfCtr (s.sa (s.rd (fn.val + 1) F.SEC_SA_SEL)).a % 2 ^ 32 ∧
        t.rd (fn.val + 1) F.SEC_SA_SEQ_B = halfCtr (s.sa (s.rd (fn.val + 1) F.SEC_SA_SEL)).b % 2 ^ 32 ∧ onlyCopy (fn.val + 1) s t) ∧
  (∀ (fn : Fn) (key : Nat) (s : State),
      s.takes .sec stSa fn.val = true → s.secureSt fn.val = true → ksDeliver s (bits (s.rd (fn.val + 1) F.SEC_SA_ARG0) 16 10) masterGh (algUsage (s.sa
      (s.rd (fn.val + 1) F.SEC_SA_SEL)).alg) (s.sa (s.rd (fn.val + 1) F.SEC_SA_SEL)).tenant = some key → (s.rd (fn.val + 1) F.SEC_SA_ARG0 % 2 == 1) ≠
      (s.sa (s.rd (fn.val + 1) F.SEC_SA_SEL)).tx → (halfLoaded ((s.sa (s.rd (fn.val + 1) F.SEC_SA_SEL)).half (!(s.rd (fn.val + 1) F.SEC_SA_ARG0 % 2 ==
      1))) && halfKeyId ((s.sa (s.rd (fn.val + 1) F.SEC_SA_SEL)).half (!(s.rd (fn.val + 1) F.SEC_SA_ARG0 % 2 == 1))) == (s.rd (fn.val + 1)
      F.SEC_SA_ARG1)) = false → attrLen (s.ksSlot (bits (s.rd (fn.val + 1) F.SEC_SA_ARG0) 16 10)).attr = algLen (s.sa (s.rd (fn.val + 1)
      F.SEC_SA_SEL)).alg →
      exec (.saLoadKey fn) s = .next (completeOk stSa (ownWin fn) (s.setSa (s.rd (fn.val + 1) F.SEC_SA_SEL) { (s.sa (s.rd (fn.val + 1) F.SEC_SA_SEL)).setHalf (s.rd (fn.val + 1) F.SEC_SA_ARG0 % 2 == 1) (some { keyId := (s.rd (fn.val + 1) F.SEC_SA_ARG1), slot := (bits (s.rd (fn.val + 1) F.SEC_SA_ARG0) 16 10), key := key }) with lost := (((s.sa (s.rd (fn.val + 1) F.SEC_SA_SEL)).half (!(s.rd (fn.val + 1) F.SEC_SA_ARG0 % 2 == 1))).map (·.lost)).getD false }))) ∧
  (∀ (fn : Fn) (s : State),
      s.takes .sec stSa fn.val = true → s.secureSt fn.val = true → (s.rd (fn.val + 1) F.SEC_SA_ARG0 % 2 == 1) ≠ (s.sa (s.rd (fn.val + 1)
      F.SEC_SA_SEL)).tx → (s.sa (s.rd (fn.val + 1) F.SEC_SA_SEL)).rot = none →
      exec (.saUnloadKey fn) s = .next (completeOk stSa (ownWin fn) (s.setSa (s.rd (fn.val + 1) F.SEC_SA_SEL) { (s.sa (s.rd (fn.val + 1) F.SEC_SA_SEL)).setHalf (s.rd (fn.val + 1) F.SEC_SA_ARG0 % 2 == 1) none with lost := (((s.sa (s.rd (fn.val + 1) F.SEC_SA_SEL)).half (!(s.rd (fn.val + 1) F.SEC_SA_ARG0 % 2 == 1))).map (·.lost)).getD false }))) ∧
  (∀ (fn : Fn) (frcTime : Bool) (s : State),
      s.takes .sec stSa fn.val = true → s.secureSt fn.val = true → halfLoaded ((s.sa (s.rd (fn.val + 1) F.SEC_SA_SEL)).half (!(s.sa (s.rd (fn.val + 1)
      F.SEC_SA_SEL)).tx)) = true → (frcTime = false ∨ s.frc + 64 ≤ (s.rd64 (fn.val + 1) F.SEC_SA_ARG0 F.SEC_SA_ARG1)) →
      exec (.saRotate fn frcTime) s = .next (completeOk stSa (ownWin fn) (s.setSa (s.rd (fn.val + 1) F.SEC_SA_SEL) { (s.sa (s.rd (fn.val + 1) F.SEC_SA_SEL)) with rot := some (if frcTime then (s.rd64 (fn.val + 1) F.SEC_SA_ARG0 F.SEC_SA_ARG1) else s.frc + 64) }))) ∧
  (∀ (sa : Fin 4096) (c : Nat) (s : State),
      (s.sa sa.val).rot = some c → c ≤ s.frc →
      exec (.rotateTick sa) s = .next (postAt Ev.SEC_ROTATED c sa.val [] (s.setSa sa.val { s.sa sa.val with tx := !(s.sa sa.val).tx, rot := none }))) ∧
  (∀ (fn : Fn) (s : State),
      s.takes .sec stSa fn.val = true → s.secureSt fn.val = true → halfLoaded (s.sa (s.rd (fn.val + 1) F.SEC_SA_SEL)).a = false → halfLoaded (s.sa
      (s.rd (fn.val + 1) F.SEC_SA_SEL)).b = false →
      exec (.saInvalidate fn) s = .next (completeOk stSa (ownWin fn) ({ s with sec := { s.sec with sas := tdel s.sec.sas (s.rd (fn.val + 1) F.SEC_SA_SEL) } })))

/-- LOAD makes an EMPTY entry ACCEPT with the key that the key store delivers; MAKE_CURRENT makes an ACCEPT entry CURRENT and the owner's previous one
ACCEPT in the same step; UNLOAD empties an ACCEPT entry; MINT writes 1 to 8 cookies after the keys in the caller's buffer; READ shows an entry to
its owner. -/
def Obligations.NtsKeyCommands : Prop :=
  (∀ (fn : Fn) (key : Nat) (s : State),
      s.takes .sec stNts fn.val = true → s.secureSt fn.val = true → ksDeliver s (s.rd (fn.val + 1) F.SEC_NTS_CFG_SLOT) masterSiv usageNts (s.rd
      (fn.val + 1) F.SEC_NTS_CFG_OWNER) = some key → s.nts (s.rd (fn.val + 1) F.SEC_NTS_SEL) = none → s.sec.nts.any (fun e => e.2.keyId == (s.rd
      (fn.val + 1) F.SEC_NTS_KEYID)) = false → attrLen (s.ksSlot (s.rd (fn.val + 1) F.SEC_NTS_CFG_SLOT)).attr = 32 →
      exec (.ntsLoad fn) s = .next (completeOk stNts (ownWin fn) (s.setNts (s.rd (fn.val + 1) F.SEC_NTS_SEL) { state := 1, owner := (s.rd (fn.val + 1) F.SEC_NTS_CFG_OWNER), slot := (s.rd (fn.val + 1) F.SEC_NTS_CFG_SLOT), keyId := (s.rd (fn.val + 1) F.SEC_NTS_KEYID), key := key }))) ∧
  (∀ (fn : Fn) (e : NtsEnt) (s : State),
      s.takes .sec stNts fn.val = true → s.secureSt fn.val = true → s.nts (s.rd (fn.val + 1) F.SEC_NTS_SEL) = some e → e.state = 1 →
      exec (.ntsMakeCurrent fn) s = .next (completeOk stNts (ownWin fn) ({ s with sec := { s.sec with nts := tmap (fun k x => if k = (s.rd (fn.val + 1) F.SEC_NTS_SEL) then { x with state := 2 } else if x.owner = e.owner ∧ x.state = 2 then { x with state := 1 } else x) s.sec.nts } }))) ∧
  (∀ (fn : Fn) (e : NtsEnt) (s : State),
      s.takes .sec stNts fn.val = true → s.secureSt fn.val = true → s.nts (s.rd (fn.val + 1) F.SEC_NTS_SEL) = some e → e.state = 1 →
      exec (.ntsUnload fn) s = .next (completeOk stNts (ownWin fn) ({ s with sec := { s.sec with nts := tdel s.sec.nts (s.rd (fn.val + 1) F.SEC_NTS_SEL) } }))) ∧
  (∀ (fn : Fn) (count : Fin 16) (e : NtsEnt) (s : State),
      s.takes .sec stNts fn.val = true → currentNts s (tenantOf fn.val) = some e → 1 ≤ count.val → count.val ≤ 8 → (s.rd64 (fn.val + 1)
      F.SEC_NTS_ADDR_LO F.SEC_NTS_ADDR_HI) % 64 = 0 → ownsBuf s fn.val (s.rd64 (fn.val + 1) F.SEC_NTS_ADDR_LO F.SEC_NTS_ADDR_HI) (64 + 104 *
      count.val) = true → e.lost = false → bufCode s (s.rd64 (fn.val + 1) F.SEC_NTS_ADDR_LO F.SEC_NTS_ADDR_HI) 64 = Code.ok →
      exec (.ntsMint fn count) s = .next (completeOk stNts (ownWin fn) (sivOps count.val (dmaWrite fn.val ((s.rd64 (fn.val + 1) F.SEC_NTS_ADDR_LO F.SEC_NTS_ADDR_HI) + 64) (mintCookies e ((s.memRead fn.val (s.rd64 (fn.val + 1) F.SEC_NTS_ADDR_LO F.SEC_NTS_ADDR_HI) 64).take 32) ((s.memRead fn.val (s.rd64 (fn.val + 1) F.SEC_NTS_ADDR_LO F.SEC_NTS_ADDR_HI) 64).drop 32) count.val s).1
          (mintCookies e ((s.memRead fn.val (s.rd64 (fn.val + 1) F.SEC_NTS_ADDR_LO F.SEC_NTS_ADDR_HI) 64).take 32) ((s.memRead fn.val (s.rd64 (fn.val + 1) F.SEC_NTS_ADDR_LO F.SEC_NTS_ADDR_HI) 64).drop 32) count.val s).2)))) ∧
  (∀ (fn : Fn) (e : NtsEnt) (s : State),
      s.takes .sec stNts fn.val = true → s.nts (s.rd (fn.val + 1) F.SEC_NTS_SEL) = some e → (s.secureSt fn.val = true ∨ e.owner = tenantOf fn.val) →
      ∃ t, exec (.ntsRead fn) s = .next t ∧ t.rd (fn.val + 1) F.SEC_NTS_STATUS_CODE = Code.ok ∧
        t.rd (fn.val + 1) F.SEC_NTS_CFG_STATE = e.state % 2 ^ F.SEC_NTS_CFG_STATE.w ∧ t.rd (fn.val + 1) F.SEC_NTS_CFG_OWNER = e.owner % 2 ^ F.SEC_NTS_CFG_OWNER.w ∧
        t.rd (fn.val + 1) F.SEC_NTS_CFG_SLOT = e.slot % 2 ^ F.SEC_NTS_CFG_SLOT.w ∧ t.rd (fn.val + 1) F.SEC_NTS_KEYID = e.keyId % 2 ^ 32 ∧
        t.rd (fn.val + 1) F.SEC_NTS_CFG_KEY_LOST = b2n e.lost ∧ onlyCopy (fn.val + 1) s t)

/-- A port with room takes the first reservation not selected yet, or else the head of the first eligible queue of the highest level; WRITE of a queue
stores its configuration and revokes its selected frames, READ shows it, FLUSH discards its frames and counts them; a gate list with a valid BASE at
least 1 µs ahead and 1 to 256 entries is armed, an abort clears the arm, the armed list becomes the active one when VC0 reaches its BASE, and the
entry in force follows VC0. -/
def Obligations.SchedulerCommands : Prop :=
  (∀ (port : Fin 16) (l : List Launch) (x : Launch) (s : State),
      s.safe = false → s.doorOpen .sch = true → portUp s port.val = true → (s.schPort port.val).pipe.length + ((s.schPort port.val).launches.filter
      (·.selected)).length < s.sh (F.SCH_PORT_CFG_RUN_AHEAD port.val) → selectLaunch (s.schPort port.val).launches = some (l, x) →
      exec (.schSelect port) s = .next (count Ct.SCH_SELECTED x.frame.queue 1 (s.setSchPort port.val { (s.schPort port.val) with launches := l, sels := (s.schPort port.val).sels + 1 }))) ∧
  (∀ (port : Fin 16) (e : Nat × TxQueue) (s : State),
      s.safe = false → s.doorOpen .sch = true → portUp s port.val = true → (s.schPort port.val).pipe.length + ((s.schPort port.val).launches.filter
      (·.selected)).length < s.sh (F.SCH_PORT_CFG_RUN_AHEAD port.val) → selectLaunch (s.schPort port.val).launches = none → (List.range 4).findSome?
      (fun l => bestQueue (purgeNoFit port.val s) port.val l) = some e →
      exec (.schSelect port) s = .next (selectFrom port.val e.1 (purgeNoFit port.val s))) ∧
  (∀ (fn : Fn) (s : State),
      s.takes .sch stQ fn.val = true → s.secureSt fn.val = true → ((s.q (s.rd (fn.val + 1) F.SCH_Q_SEL)).frames = [] ∨ ((windowQ s (ownWin fn) (s.q
      (s.rd (fn.val + 1) F.SCH_Q_SEL))).port = (s.q (s.rd (fn.val + 1) F.SCH_Q_SEL)).port ∧ (windowQ s (ownWin fn) (s.q (s.rd (fn.val + 1)
      F.SCH_Q_SEL))).level = (s.q (s.rd (fn.val + 1) F.SCH_Q_SEL)).level ∧ (windowQ s (ownWin fn) (s.q (s.rd (fn.val + 1) F.SCH_Q_SEL))).host = (s.q
      (s.rd (fn.val + 1) F.SCH_Q_SEL)).host)) →
      exec (.qWrite fn) s = .next (completeOk stQ (ownWin fn) (revoke (fun f => f.queue == (s.rd (fn.val + 1) F.SCH_Q_SEL)) (s.setQ (s.rd (fn.val + 1) F.SCH_Q_SEL) (windowQ s (ownWin fn) (s.q (s.rd (fn.val + 1) F.SCH_Q_SEL))))))) ∧
  (∀ (fn : Fn) (clearMax : Bool) (s : State),
      s.takes .sch stQ fn.val = true → (s.secureSt fn.val = true ∨ tenantOf fn.val = (s.q (s.rd (fn.val + 1) F.SCH_Q_SEL)).owner) →
      ∃ t, exec (.qRead fn clearMax) s = .next t ∧ t.rd (fn.val + 1) F.SCH_Q_STATUS_CODE = Code.ok ∧ t.rd (fn.val + 1) F.SCH_Q_STATUS_BUSY = 0 ∧
        t.rd (fn.val + 1) F.SCH_Q_CFG2 = (s.q (s.rd (fn.val + 1) F.SCH_Q_SEL)).rate % 2 ^ 32 ∧ t.rd (fn.val + 1) F.SCH_Q_DEPTH_DEPTH = satU 16 (s.q (s.rd (fn.val + 1) F.SCH_Q_SEL)).frames.length ∧
        t.rd (fn.val + 1) F.SCH_Q_BYTES = ((s.q (s.rd (fn.val + 1) F.SCH_Q_SEL)).frames.map (·.len)).sum % 2 ^ 32 ∧ t.rd (fn.val + 1) F.SCH_Q_MAX_DELAY = (s.q (s.rd (fn.val + 1) F.SCH_Q_SEL)).maxDelay % 2 ^ 32 ∧
        (t.q (s.rd (fn.val + 1) F.SCH_Q_SEL)).maxDelay = (if clearMax then 0 else (s.q (s.rd (fn.val + 1) F.SCH_Q_SEL)).maxDelay) ∧ (t.q (s.rd (fn.val + 1) F.SCH_Q_SEL)).frames = (s.q (s.rd (fn.val + 1) F.SCH_Q_SEL)).frames) ∧
  (∀ (fn : Fn) (s : State),
      s.takes .sch stQ fn.val = true → (s.secureSt fn.val = true ∨ ((s.q (s.rd (fn.val + 1) F.SCH_Q_SEL)).host = true ∧ tenantOf fn.val = (s.q (s.rd
      (fn.val + 1) F.SCH_Q_SEL)).owner)) →
      exec (.qFlush fn) s = .next (let t := queueDiscard (s.rd (fn.val + 1) F.SCH_Q_SEL) TxCause.flushed Ct.SCH_FLUSHED s;
        completeOk stQ (ownWin fn) (revoke (fun f => f.queue == (s.rd (fn.val + 1) F.SCH_Q_SEL)) (t.setQ (s.rd (fn.val + 1) F.SCH_Q_SEL) { t.q (s.rd (fn.val + 1) F.SCH_Q_SEL) with otherDrop := ((t.q (s.rd (fn.val + 1) F.SCH_Q_SEL)).otherDrop + (s.q (s.rd (fn.val + 1) F.SCH_Q_SEL)).frames.length) % 2 ^ 16 })))) ∧
  (∀ (fn : Fn) (port : Fin 16) (value : BitVec 32) (s : State),
      s.takesWrite .sch fn.val = true → s.secureSt fn.val = true → bitOf value.toNat 9 = true → bitOf value.toNat 10 = false → t96Valid (s.sh
      (F.SCH_GATE_BASE0 port.val) + 2 ^ 32 * s.sh (F.SCH_GATE_BASE1 port.val) + 2 ^ 64 * s.sh (F.SCH_GATE_BASE2 port.val)) = true → 1 ≤ bits
      value.toNat 0 9 → bits value.toNat 0 9 ≤ 256 → vc0Ns s (s.frc : Rat) + 1000 ≤ (linOfT96 (s.sh (F.SCH_GATE_BASE0 port.val) + 2 ^ 32 * s.sh
      (F.SCH_GATE_BASE1 port.val) + 2 ^ 64 * s.sh (F.SCH_GATE_BASE2 port.val)) : Rat) / 65536 →
      ∃ t, exec (.gateListArm fn port value) s = .next t ∧ (t.schPort port.val).arm = some ((linOfT96 (s.sh (F.SCH_GATE_BASE0 port.val) + 2 ^ 32 * s.sh (F.SCH_GATE_BASE1 port.val) + 2 ^ 64 * s.sh (F.SCH_GATE_BASE2 port.val)) : Rat) / 65536, bits value.toNat 0 9) ∧
        t.sh (F.SCH_GATE_CTRL_ARM port.val) = 1 ∧ t.sh (F.SCH_GATE_CTRL_ARMED port.val) = 1 ∧ t.sh (F.SCH_GATE_CTRL_LEN port.val) = bits value.toNat 0 9 ∧ sameMem s t) ∧
  (∀ (fn : Fn) (port : Fin 16) (value : BitVec 32) (s : State),
      s.takesWrite .sch fn.val = true → s.secureSt fn.val = true → bitOf value.toNat 10 = true →
      ∃ t, exec (.gateListAbort fn port value) s = .next t ∧ (t.schPort port.val).arm = none ∧
        t.sh (F.SCH_GATE_CTRL_ARM port.val) = 0 ∧ t.sh (F.SCH_GATE_CTRL_ARMED port.val) = 0 ∧ sameMem s t) ∧
  (∀ (port : Fin 16) (tick : BitVec 64) (base : Rat) (len : Nat) (s : State),
      (s.schPort port.val).arm = some (base, len) → tick.toNat ≤ s.frc → base ≤ vc0Ns s (tick.toNat : Rat) → (tick.toNat = 0 ∨ vc0Ns s ((tick.toNat -
      1 : Nat) : Rat) < base) →
      exec (.gateTakeover port tick) s = .next (
        let t := (((s.setSchPort port.val { (s.schPort port.val) with arm := none, base := base }).wr 0 (F.SCH_GATE_CTRL_ARM port.val) 0).wr
          0 (F.SCH_GATE_CTRL_ARMED port.val) 0).wr 0 (F.SCH_GATE_CTRL_ACTIVE_BANK port.val) (1 - s.sh (F.SCH_GATE_CTRL_ACTIVE_BANK port.val));
        postAt Ev.SCH_GATE_SWAP tick.toNat port.val [] (gateRefresh port.val tick.toNat (t.wr 0 (F.SCH_GATE_STATUS_ACTIVE_LEN port.val) len)))) ∧
  (∀ (port : Fin 16) (tick : BitVec 64) (s : State),
      tick.toNat ≤ s.frc → (¬ ((entryAt s port.val (activeList s port.val) (vc0Ns s (tick.toNat : Rat))).1 = (entryAt s port.val (activeList s
      port.val) (vc0Ns s ((tick.toNat - 1 : Nat) : Rat))).1 ∧ (entryAt s port.val (activeList s port.val) (vc0Ns s (tick.toNat : Rat))).2.1 = (entryAt
      s port.val (activeList s port.val) (vc0Ns s ((tick.toNat - 1 : Nat) : Rat))).2.1)) →
      exec (.gateEntryStart port tick) s = .next (gateRefresh port.val tick.toNat s))

/-- WRITE stores a policer's configuration, holds its buckets to the new sizes and fills them when EN becomes 1; READ shows configuration, tokens and
counters to those who may read; REFILL fills the buckets; CLEAR_COUNTS clears the three counters and changes nothing else. -/
def Obligations.PolicerCommands : Prop :=
  (∀ (fn : Fn) (s : State),
      s.takes .pol stPol fn.val = true → s.secureSt fn.val = true →
      exec (.polWrite fn) s = .next (let y : Policer := { (s.policer (s.rd (fn.val + 1) F.POL_SEL)) with en := (s.rd (fn.val + 1) F.POL_CFG_EN) == 1, mode := (s.rd (fn.val + 1) F.POL_CFG_MODE), unit := (s.rd (fn.val + 1) F.POL_CFG_UNIT), ovh := sgn 8 (s.rd (fn.val + 1) F.POL_CFG_OVH), owner := (s.rd (fn.val + 1) F.POL_CFG_OWNER), cir := (s.rd (fn.val + 1) F.POL_CIR), cbs := (s.rd (fn.val + 1) F.POL_CBS), pir := (s.rd (fn.val + 1) F.POL_PIR), ebs := (s.rd (fn.val + 1) F.POL_EBS_PBS), tc := min (s.policer (s.rd (fn.val + 1) F.POL_SEL)).tc ((s.rd (fn.val + 1) F.POL_CBS) * token), te := min (s.policer (s.rd (fn.val + 1) F.POL_SEL)).te ((s.rd (fn.val + 1) F.POL_EBS_PBS) * token) };
        completeOk stPol (ownWin fn) (s.setPolicer (s.rd (fn.val + 1) F.POL_SEL) (if y.en && !(s.policer (s.rd (fn.val + 1) F.POL_SEL)).en then y.fill s.frc else y)))) ∧
  (∀ (fn : Fn) (s : State),
      s.takes .pol stPol fn.val = true → (s.secureSt fn.val = true ∨ tenantOf fn.val = (s.policer (s.rd (fn.val + 1) F.POL_SEL)).owner) →
      ∃ t, exec (.polRead fn) s = .next t ∧ t.rd (fn.val + 1) F.POL_CMD_STATUS_CODE = Code.ok ∧ t.rd (fn.val + 1) F.POL_CFG_EN = b2n (s.policer (s.rd (fn.val + 1) F.POL_SEL)).en ∧
        t.rd (fn.val + 1) F.POL_CIR = (s.policer (s.rd (fn.val + 1) F.POL_SEL)).cir % 2 ^ 32 ∧ t.rd (fn.val + 1) F.POL_TOKENS0 = (s.policer (s.rd (fn.val + 1) F.POL_SEL)).tc / 2 ^ 24 % 2 ^ 32 ∧
        t.rd (fn.val + 1) F.POL_TOKENS1 = (s.policer (s.rd (fn.val + 1) F.POL_SEL)).te / 2 ^ 24 % 2 ^ 32 ∧ t.rd (fn.val + 1) F.POL_CNT_GREEN = (s.policer (s.rd (fn.val + 1) F.POL_SEL)).green % 2 ^ 32 ∧
        t.rd (fn.val + 1) F.POL_CNT_YELLOW = (s.policer (s.rd (fn.val + 1) F.POL_SEL)).yellow % 2 ^ 32 ∧ t.rd (fn.val + 1) F.POL_CNT_RED = (s.policer (s.rd (fn.val + 1) F.POL_SEL)).red % 2 ^ 32 ∧ onlyCopy (fn.val + 1) s t) ∧
  (∀ (fn : Fn) (s : State),
      s.takes .pol stPol fn.val = true → s.secureSt fn.val = true →
      exec (.polRefill fn) s = .next (completeOk stPol (ownWin fn) (s.setPolicer (s.rd (fn.val + 1) F.POL_SEL) ((s.policer (s.rd (fn.val + 1) F.POL_SEL)).fill s.frc)))) ∧
  (∀ (fn : Fn) (s : State),
      s.takes .pol stPol fn.val = true → s.secureSt fn.val = true →
      exec (.polClearCounts fn) s = .next (completeOk stPol (ownWin fn) (s.setPolicer (s.rd (fn.val + 1) F.POL_SEL) { (s.policer (s.rd (fn.val + 1) F.POL_SEL)) with green := 0, yellow := 0, red := 0 })))

/-- Enabling a disabled port takes its configuration and starts it in HUNT, disabling it stops it; block lock moves HUNT to SEARCH and its loss any
other state to HUNT; four valid markers in a row align a port, three missing in a row send a linked port back to SEARCH; a superframe sends its
marker, keeps its departure and sends the timing message of that superframe and the local frames. -/
def Obligations.ChainLinkCommands : Prop :=
  (∀ (fn : Fn) (port : Fin 5) (value : BitVec 32) (s : State),
      s.takesWrite .ubw fn.val = true → s.secureSt fn.val = true → ubwEn s port.val = false → bitOf value.toNat 0 = true → (((if port.val = 4 then 2
      else if bits value.toNat 1 2 = 3 then 0 else bits value.toNat 1 2) = 1 ∧ port.val ≠ 4) → (List.range 4).all (fun q => q == port.val || !ubwEn s
      q || ubwRole s q != 1) = true) →
      exec (.ubwPortEn fn port value) s = .next (
        let t := (s.wr 0 (F.UBW_PORT_CFG_FWD_EN port.val) (bits value.toNat 9 1)).wr 0 (F.UBW_PORT_CFG_ROLE port.val) (if port.val = 4 then 2 else if bits value.toNat 1 2 = 3 then 0 else bits value.toNat 1 2);
        let t := (t.wr 0 (F.UBW_PORT_CFG_TX_INV port.val) (bits value.toNat 3 1)).wr 0 (F.UBW_PORT_CFG_RX_INV port.val) (bits value.toNat 4 1);
        ubwEnter port.val ubHUNT ((t.wr 0 (F.UBW_PORT_CFG_TX_EQ port.val) (bits value.toNat 5 4)).wr 0 (F.UBW_PORT_CFG_EN port.val) 1))) ∧
  (∀ (fn : Fn) (port : Fin 5) (value : BitVec 32) (s : State),
      s.takesWrite .ubw fn.val = true → s.secureSt fn.val = true → ubwEn s port.val = true → bitOf value.toNat 0 = false → (if port.val = 4 then 2
      else if bits value.toNat 1 2 = 3 then 0 else bits value.toNat 1 2) = ubwRole s port.val → bits value.toNat 3 1 = s.sh (F.UBW_PORT_CFG_TX_INV
      port.val) → bits value.toNat 4 1 = s.sh (F.UBW_PORT_CFG_RX_INV port.val) → bits value.toNat 5 4 = s.sh (F.UBW_PORT_CFG_TX_EQ port.val) →
      exec (.ubwPortEn fn port value) s = .next (ubwOff port.val (s.wr 0 (F.UBW_PORT_CFG_FWD_EN port.val) (bits value.toNat 9 1)))) ∧
  (∀ (port : Fin 5) (s : State),
      s.doorOpen .ubw = true → ubwEn s port.val = true → ubwState s port.val = ubHUNT →
      exec (.ubwBlockLock port true) s = .next (ubwEnter port.val ubSEARCH s)) ∧
  (∀ (port : Fin 5) (s : State),
      s.doorOpen .ubw = true → ubwEn s port.val = true → ubwState s port.val ≠ ubHUNT →
      exec (.ubwBlockLock port false) s = .next (ubwEnter port.val ubHUNT s)) ∧
  (∀ (port : Fin 5) (block tick : BitVec 64) (phase : Fin 32) (marker : List Byte) (s : State),
      s.doorOpen .ubw = true → markerValid marker = true → ubwLinked (ubwState s port.val) = true → block.toNat = (s.ubwPort port.val).next →
      exec (.ubwMarkerRx port block tick phase marker) s = .next (let t := noteArrival port.val (ofBe (slice marker 2 2)) (32 * tick.toNat + phase.val) s;
        t.setUbwPort port.val { t.ubwPort port.val with next := block.toNat + 16384, miss := 0 })) ∧
  (∀ (port : Fin 5) (block tick : BitVec 64) (phase : Fin 32) (marker : List Byte) (t : Nat × Nat) (s : State),
      s.doorOpen .ubw = true → markerValid marker = true → ubwState s port.val = ubSEARCH → ((s.ubwPort port.val).tracks.filter (fun t => block.toNat
      ≤ t.1 + 16384)).find? (fun t => t.1 + 16384 == block.toNat) = some t → 3 ≤ t.2 →
      exec (.ubwMarkerRx port block tick phase marker) s = .next (let r := ubwEnter port.val ubALIGNED (noteArrival port.val (ofBe (slice marker 2 2)) (32 * tick.toNat + phase.val) s);
        r.setUbwPort port.val { r.ubwPort port.val with next := block.toNat + 16384 })) ∧
  (∀ (port : Fin 5) (block tick : BitVec 64) (phase : Fin 32) (marker : List Byte) (t : Nat × Nat) (s : State),
      s.doorOpen .ubw = true → markerValid marker = true → ubwState s port.val = ubSEARCH → ((s.ubwPort port.val).tracks.filter (fun t => block.toNat
      ≤ t.1 + 16384)).find? (fun t => t.1 + 16384 == block.toNat) = some t → t.2 < 3 →
      exec (.ubwMarkerRx port block tick phase marker) s = .next (s.setUbwPort port.val { (s.ubwPort port.val) with tracks := ((s.ubwPort port.val).tracks.filter (fun t => block.toNat ≤ t.1 + 16384)).map fun x => if x.1 = t.1 then (block.toNat, t.2 + 1) else x })) ∧
  (∀ (port : Fin 5) (block : BitVec 64) (s : State),
      s.doorOpen .ubw = true → ubwState s port.val = ubSEARCH →
      exec (.markerMissing port block) s = .next (s.setUbwPort port.val { (s.ubwPort port.val) with tracks := (s.ubwPort port.val).tracks.filter fun t => t.1 + 16384 != block.toNat })) ∧
  (∀ (port : Fin 5) (block : BitVec 64) (s : State),
      s.doorOpen .ubw = true → ubwLinked (ubwState s port.val) = true → block.toNat = (s.ubwPort port.val).next → (s.ubwPort port.val).miss + 1 < 3 →
      exec (.markerMissing port block) s = .next (((s.setUbwPort port.val { (s.ubwPort port.val) with next := (s.ubwPort port.val).next + 16384, miss := (s.ubwPort port.val).miss + 1 }).wr 0 (F.UBW_PORT_COUNTS_BAD_MARKER port.val) (s.sh (F.UBW_PORT_COUNTS_BAD_MARKER port.val) + 1)))) ∧
  (∀ (port : Fin 5) (block : BitVec 64) (s : State),
      s.doorOpen .ubw = true → ubwLinked (ubwState s port.val) = true → block.toNat = (s.ubwPort port.val).next → 3 ≤ (s.ubwPort port.val).miss + 1 →
      exec (.markerMissing port block) s = .next (ubwEnter port.val ubSEARCH ((s.setUbwPort port.val { (s.ubwPort port.val) with next := (s.ubwPort port.val).next + 16384, miss := (s.ubwPort port.val).miss + 1 }).wr 0 (F.UBW_PORT_COUNTS_BAD_MARKER port.val) (s.sh (F.UBW_PORT_COUNTS_BAD_MARKER port.val) + 1)))) ∧
  (∀ (port : Fin 5) (tick : BitVec 64) (phase : Fin 32) (s : State),
      s.doorOpen .ubw = true → ubwEn s port.val = true → port.val ≠ 4 → ubwState s port.val ≠ ubSEARCH →
      exec (.superframeTx port tick phase) s = .next (
        let t := sendTiming port.val (s.ubwPort port.val).sf (syncNode (s.setUbwPort port.val { (s.ubwPort port.val) with sf := ((s.ubwPort port.val).sf + 1) % 65536 }));
        drainLocal port.val (32 * tick.toNat + phase.val) (t.setUbwPort port.val { t.ubwPort port.val with deps := (ubwStamp t (s.ubwPort port.val).sf (32 * tick.toNat + phase.val) (ubwTxC t port.val) :: (t.ubwPort port.val).deps).take 64 })))

/-- A timing message with a bad CRC is counted and changes nothing else unless it is the 64th in a row; a good one from a complementary partner is noted
and, on the UPSTREAM port of a node that is not the root, takes part in the two-way exchange; the end of a 1 ms window makes the mean of its offsets
the port's OFFSET and a stamp of its reference; a chain frame whose header fails, or whose direction does not fit the port's role, is counted and
dropped, and one in the right direction is delivered or forwarded. -/
def Obligations.ChainMessageCommands : Prop :=
  (∀ (port : Fin 5) (message : List Byte) (s : State),
      s.doorOpen .ubw = true → ubwLinked (ubwState s port.val) = true → message.length = 64 → crc16 (message.take 62) ≠ ofBe (slice message 62 2) →
      (s.ubwPort port.val).bad + 1 < 64 →
      exec (.ubwTimingMsg port message) s = .next ((s.setUbwPort port.val { (s.ubwPort port.val) with bad := (s.ubwPort port.val).bad + 1 }).wr 0 (F.UBW_PORT_COUNTS_BAD_MSG port.val) (s.sh (F.UBW_PORT_COUNTS_BAD_MSG port.val) + 1))) ∧
  (∀ (port : Fin 5) (message : List Byte) (s : State),
      s.doorOpen .ubw = true → ubwLinked (ubwState s port.val) = true → port.val ≠ 4 → message.length = 64 → crc16 (message.take 62) = ofBe (slice
      message 62 2) → complementary (ubwRole s port.val) (byteAt message 2 % 4) = true →
      exec (.ubwTimingMsg port message) s = .next (
        let t := (notePeer port.val message s).wr 0 (F.UBW_PORT_STATUS_MISMATCH port.val) 0;
        let t := t.setUbwPort port.val { t.ubwPort port.val with good := true };
        let t := ubwTryReady port.val (if ubwRole s port.val = 1 then t.wr 0 F.UBW_RX_INFO (ofBe (slice message 40 4)) else t);
        syncUbw (if ubwRole t port.val = 1 ∧ ubwRoot t = false then exchange port.val message t else t))) ∧
  (∀ (port : Fin 5) (tick : BitVec 64) (s : State),
      s.doorOpen .ubw = true → tick.toNat % 1562500 = 0 → tick.toNat ≤ s.frc → (s.ubwPort port.val).win < tick.toNat → (s.ubwPort port.val).thetas =
      [] →
      exec (.exchangeWindowEnd port tick) s = .next (s.setUbwPort port.val { (s.ubwPort port.val) with win := tick.toNat })) ∧
  (∀ (port : Fin 5) (tick : BitVec 64) (n : Nat) (th : Int × UbwStamp) (l : List (Int × UbwStamp)) (s : State),
      s.doorOpen .ubw = true → port.val ≠ 4 → tick.toNat % 1562500 = 0 → tick.toNat ≤ s.frc → (s.ubwPort port.val).win < tick.toNat → ubwSlot s
      port.val = some n → (s.ubwPort port.val).thetas = th :: l → (s.ubwPort port.val).means.length < 999 → ubwRoot s = true →
      exec (.exchangeWindowEnd port tick) s = .next (let m : Int := roundDiv ((th :: l).map (·.1)).sum (l.length + 1);
        syncUbw ((s.setUbwPort port.val { (s.ubwPort port.val) with thetas := [], win := tick.toNat, means := (tick.toNat / 1562500, m) :: (s.ubwPort port.val).means }).wr64 0 (F.UBW_PORT_OFFSET_LO port.val) (F.UBW_PORT_OFFSET_HI port.val) (uns 64 m)))) ∧
  (∀ (port : Fin 5) (tick : BitVec 64) (phase : Fin 32) (frame : List Byte) (error : Bool) (egress : List UbwEgress) (s : State),
      s.doorOpen .ubw = true → port.val ≠ 4 → ubwLinked (ubwState s port.val) = true → ubwMismatch s port.val = false → chainHdrOk (frame.take
      (frame.length - 4)) (frame.take (frame.length - 4)).length = false →
      exec (.ubwChainFrame port tick phase frame error egress) s = .next (frameErr (count Ct.UBW_RX_BYTES port.val frame.length s))) ∧
  (∀ (port : Fin 5) (tick : BitVec 64) (phase : Fin 32) (frame : List Byte) (error : Bool) (egress : List UbwEgress) (s : State),
      s.doorOpen .ubw = true → port.val ≠ 4 → ubwLinked (ubwState s port.val) = true → ubwMismatch s port.val = false → chainHdrOk (frame.take
      (frame.length - 4)) (frame.take (frame.length - 4)).length = true → (chainHdr (frame.take (frame.length - 4))).up = true → ubwRole s port.val =
      0 →
      exec (.ubwChainFrame port tick phase frame error egress) s = .next (chainUp port.val (32 * tick.toNat + phase.val) (error || leBytes 4 (crc32 (frame.take (frame.length - 4))) != frame.drop (frame.length - 4)) egress (frame.take (frame.length - 4)) (count Ct.UBW_RX_BYTES port.val frame.length s))) ∧
  (∀ (port : Fin 5) (tick : BitVec 64) (phase : Fin 32) (frame : List Byte) (error : Bool) (egress : List UbwEgress) (s : State),
      s.doorOpen .ubw = true → port.val ≠ 4 → ubwLinked (ubwState s port.val) = true → ubwMismatch s port.val = false → chainHdrOk (frame.take
      (frame.length - 4)) (frame.take (frame.length - 4)).length = true → (chainHdr (frame.take (frame.length - 4))).up = false → ubwRole s port.val =
      1 →
      exec (.ubwChainFrame port tick phase frame error egress) s = .next (chainDown port.val (32 * tick.toNat + phase.val) (error || leBytes 4 (crc32 (frame.take (frame.length - 4))) != frame.drop (frame.length - 4)) egress (frame.take (frame.length - 4)) (count Ct.UBW_RX_BYTES port.val frame.length s))) ∧
  (∀ (port : Fin 5) (tick : BitVec 64) (phase : Fin 32) (frame : List Byte) (error : Bool) (egress : List UbwEgress) (s : State),
      s.doorOpen .ubw = true → port.val ≠ 4 → ubwLinked (ubwState s port.val) = true → ubwMismatch s port.val = false → chainHdrOk (frame.take
      (frame.length - 4)) (frame.take (frame.length - 4)).length = true → (((chainHdr (frame.take (frame.length - 4))).up = true ∧ ubwRole s port.val
      ≠ 0) ∨ ((chainHdr (frame.take (frame.length - 4))).up = false ∧ ubwRole s port.val ≠ 1)) →
      exec (.ubwChainFrame port tick phase frame error egress) s = .next (routeErr port.val (count Ct.UBW_RX_BYTES port.val frame.length s)))

/-- While the pair is set up, a heartbeat that falls silent clears HB_SEEN and one that returns sets it, contention makes an ACTIVE unit of SIDE 1 count
it and give way, the end of the hold-off sets TAKE, three superframes without Toffee clear TOFFEE_FRESH, and each is followed by one evaluation of
the state machine; an observation window writes OBS and re-evaluates tracking. -/
def Obligations.MateCommands : Prop :=
  (∀ (s : State),
      mateRuns s = true → s.sh F.MATE_STATUS_HB_SEEN = 1 →
      exec .heartbeatSilent s = .next (mateStep .silent { (s.wr 0 F.MATE_STATUS_HB_SEEN 0) with mate := { s.mate with silentAt := s.frc } })) ∧
  (∀ (s : State),
      mateRuns s = true → s.sh F.MATE_STATUS_HB_SEEN = 0 →
      exec .heartbeatSeen s = .next (mateStep .other { (s.wr 0 F.MATE_STATUS_HB_SEEN 1) with mate := { s.mate with seenAt := s.frc } })) ∧
  (∀ (s : State),
      mateRuns s = true → mateState s = mtACTIVE → s.sh F.MATE_STATUS_SIDE = 1 → s.sh F.MATE_STATUS_HB_SEEN = 1 →
      exec .heartbeatContention s = .next (raise 1027 0 0 (mateStep .contention
        (post Ev.MATE_CONTENTION 0 (s.wr 0 F.MATE_COUNTS_CONTENTIONS (s.sh F.MATE_COUNTS_CONTENTIONS + 1)))))) ∧
  (∀ (t : Nat) (s : State),
      mateRuns s = true → mateState s = mtHOLD → s.mate.holdEnd = some t → t ≤ s.frc →
      exec .mateHoldoffExpiry s = .next (s.wr 0 F.MATE_STATUS_TAKE 1)) ∧
  (∀ (s : State),
      mateRuns s = true → mateState s = mtSTANDBY → s.sh F.MATE_STATUS_CLAIM ≠ 0 → hbFault s = false → s.sh F.MATE_STATUS_HB_SEEN = 0 → s.mate.toffee
      = none → max s.mate.from_ s.mate.silentAt + ticksOfMs (s.sh F.MATE_TIMERS_SOLO_MS) ≤ s.frc →
      exec .mateSoloTimeout s = .next (mateEnter mtACTIVE s)) ∧
  (∀ (t : Nat) (s : State),
      mateRuns s = true → s.sh F.MATE_STATUS_TOFFEE_FRESH = 1 → s.mate.toffee = some t → t + 3 * 163840 ≤ s.frc →
      exec .toffeeStale s = .next (mateStep .other (syncPaths (s.wr 0 F.MATE_STATUS_TOFFEE_FRESH 0)))) ∧
  (∀ (tick : BitVec 64) (seen : List ObsPairs) (s : State),
      mateRuns s = true → s.doorOpen .out = true → tick.toNat % 1562500 = 0 → tick.toNat ≤ s.frc → s.mate.obsAt < tick.toNat →
      exec (.obsWindow tick seen) s = .next (mateStep .other (syncTrack (each (List.range 28) (obsWindow seen) { s with mate := { s.mate with obs := [], obsAt := tick.toNat } }))))

/-- READ_ATTR shows a slot's record; GENERATE fills an EMPTY slot with a key from the entropy source; DERIVE fills one with a key of the KDF from the
root or a parent slot; RESTRICT writes a record that permits no more over the old one and keeps the key; WIPE leaves the slot EMPTY with its VERSION
incremented; a persistent slot is written only if its staged copy reads back. -/
def Obligations.SlotCommands : Prop :=
  (∀ (fn : Fn) (s : State),
      s.takes .ks stKs fn.val = true → (s.secureSt fn.val = true ∨ ownAttr fn.val (s.ksSlot (s.rd (fn.val + 1) F.KS_SEL)).attr = true) →
      exec (.ksReadAttr fn) s = .next (completeOk stKs (ownWin fn) (each (List.range 8) (fun j t => t.wr (fn.val + 1) (F.KS_ATTR j) (ofLe (slice (s.ksSlot (s.rd (fn.val + 1) F.KS_SEL)).attr (4 * j) 4))) s))) ∧
  (∀ (fn : Fn) (stored : Bool) (s : State),
      s.takes .ks stKs fn.val = true → asBlank s = false → (s.secureSt fn.val = true ∨ (256 ≤ (s.rd (fn.val + 1) F.KS_SEL) ∧ (attrType (s.ksSlot (s.rd
      (fn.val + 1) F.KS_SEL)).attr = 0 ∨ ownAttr fn.val (s.ksSlot (s.rd (fn.val + 1) F.KS_SEL)).attr = true) ∧ ownAttr fn.val (ksAttr s (ownWin fn)) =
      true)) → attrOk (s.rd (fn.val + 1) F.KS_SEL) (ksAttr s (ownWin fn)) = true → (storeOk (s.rd (fn.val + 1) F.KS_SEL) stored = true) → attrType
      (s.ksSlot (s.rd (fn.val + 1) F.KS_SEL)).attr = 0 → s.sh F.KS_STATUS_ENTROPY_OK = 1 →
      exec (.ksGenerate fn stored) s = .next (completeOk stKs (ownWin fn) (putSlot (s.rd (fn.val + 1) F.KS_SEL) (attrSet (ksAttr s (ownWin fn)) 0 0 (nextVersion s (s.rd (fn.val + 1) F.KS_SEL)) 0) (s.free (8 * attrLen (ksAttr s (ownWin fn)))).1 (s.free (8 * attrLen (ksAttr s (ownWin fn)))).2))) ∧
  (∀ (fn : Fn) (stored : Bool) (ki : Nat) (s : State),
      s.takes .ks stKs fn.val = true → asBlank s = false → s.secureSt fn.val = true → attrOk (s.rd (fn.val + 1) F.KS_SEL) (ksAttr s (ownWin fn)) =
      true → (storeOk (s.rd (fn.val + 1) F.KS_SEL) stored = true) → attrType (s.ksSlot (s.rd (fn.val + 1) F.KS_SEL)).attr = 0 → (s.rd (fn.val + 1)
      (F.KS_ARG 4) % 65536) = 0xFFFF → s.ks.root = some ki → (attrMeasBind (ksAttr s (ownWin fn)) = false ∨ 256 ≤ (s.rd (fn.val + 1) F.KS_SEL)) →
      exec (.ksDerive fn stored) s = .next (completeOk stKs (ownWin fn) (putSlot (s.rd (fn.val + 1) F.KS_SEL) (attrSet (ksAttr s (ownWin fn)) 1 0xFFFF (nextVersion s (s.rd (fn.val + 1) F.KS_SEL)) 0) (kdfKey ki (attrLen (ksAttr s (ownWin fn))) (((List.range 4).map fun j => leBytes 4 (s.rd (fn.val + 1) (F.KS_LABEL j))).flatten) ((cleanAttr (ksAttr s (ownWin fn))).take 16 ++ (if attrMeasBind (ksAttr s (ownWin fn)) then measOctets s else zeros 48))) s))) ∧
  (∀ (fn : Fn) (stored : Bool) (s : State),
      s.takes .ks stKs fn.val = true → asBlank s = false → (s.secureSt fn.val = true ∨ (256 ≤ (s.rd (fn.val + 1) F.KS_SEL) ∧ (attrType (s.ksSlot (s.rd
      (fn.val + 1) F.KS_SEL)).attr = 0 ∨ ownAttr fn.val (s.ksSlot (s.rd (fn.val + 1) F.KS_SEL)).attr = true) ∧ ownAttr fn.val (ksAttr s (ownWin fn)) =
      true)) → (s.secureSt fn.val = true ∨ ((s.rd (fn.val + 1) (F.KS_ARG 4) % 65536) < 1024 ∧ ownAttr fn.val (s.ksSlot (s.rd (fn.val + 1) (F.KS_ARG 4)
      % 65536)).attr = true)) → attrOk (s.rd (fn.val + 1) F.KS_SEL) (ksAttr s (ownWin fn)) = true → (storeOk (s.rd (fn.val + 1) F.KS_SEL) stored =
      true) → attrType (s.ksSlot (s.rd (fn.val + 1) F.KS_SEL)).attr = 0 → (s.rd (fn.val + 1) (F.KS_ARG 4) % 65536) < 1024 → parentOk s (ksAttr s
      (ownWin fn)) (s.rd (fn.val + 1) (F.KS_ARG 4) % 65536) (s.ksSlot (s.rd (fn.val + 1) (F.KS_ARG 4) % 65536)).attr = true → (attrMeasBind (ksAttr s
      (ownWin fn)) = false ∨ 256 ≤ (s.rd (fn.val + 1) F.KS_SEL)) →
      exec (.ksDerive fn stored) s = .next (completeOk stKs (ownWin fn) (putSlot (s.rd (fn.val + 1) F.KS_SEL) (attrSet (ksAttr s (ownWin fn)) 1 (s.rd (fn.val + 1) (F.KS_ARG 4) % 65536) (nextVersion s (s.rd (fn.val + 1) F.KS_SEL)) 0) (kdfKey (s.ksSlot (s.rd (fn.val + 1) (F.KS_ARG 4) % 65536)).key (attrLen (ksAttr s (ownWin fn))) (((List.range 4).map fun j => leBytes 4 (s.rd (fn.val + 1) (F.KS_LABEL j))).flatten) ((cleanAttr (ksAttr s (ownWin fn))).take 16 ++ (if attrMeasBind (ksAttr s (ownWin fn)) then measOctets s else zeros 48))) s))) ∧
  (∀ (fn : Fn) (stored : Bool) (s : State),
      s.takes .ks stKs fn.val = true → asBlank s = false → (s.secureSt fn.val = true ∨ (256 ≤ (s.rd (fn.val + 1) F.KS_SEL) ∧ (attrType (s.ksSlot (s.rd
      (fn.val + 1) F.KS_SEL)).attr = 0 ∨ ownAttr fn.val (s.ksSlot (s.rd (fn.val + 1) F.KS_SEL)).attr = true) ∧ ownAttr fn.val (ksAttr s (ownWin fn)) =
      true)) → attrOk (s.rd (fn.val + 1) F.KS_SEL) (ksAttr s (ownWin fn)) = true → (storeOk (s.rd (fn.val + 1) F.KS_SEL) stored = true) → attrType
      (s.ksSlot (s.rd (fn.val + 1) F.KS_SEL)).attr ≠ 0 → restricts (s.ksSlot (s.rd (fn.val + 1) F.KS_SEL)).attr (ksAttr s (ownWin fn)) = true →
      attrExpired (s.ksSlot (s.rd (fn.val + 1) F.KS_SEL)).attr = false →
      exec (.ksRestrict fn stored) s = .next (completeOk stKs (ownWin fn) (putSlot (s.rd (fn.val + 1) F.KS_SEL) (attrSet (ksAttr s (ownWin fn)) (attrOrigin (s.ksSlot (s.rd (fn.val + 1) F.KS_SEL)).attr) (ofLe (slice (s.ksSlot (s.rd (fn.val + 1) F.KS_SEL)).attr 18 2)) (nextVersion s (s.rd (fn.val + 1) F.KS_SEL)) (ofLe (slice (s.ksSlot (s.rd (fn.val + 1) F.KS_SEL)).attr 24 8))) (s.ksSlot (s.rd (fn.val + 1) F.KS_SEL)).key s))) ∧
  (∀ (fn : Fn) (stored : Bool) (s : State),
      s.takes .ks stKs fn.val = true → asBlank s = false → (s.secureSt fn.val = true ∨ (256 ≤ (s.rd (fn.val + 1) F.KS_SEL) ∧ (attrType (s.ksSlot (s.rd
      (fn.val + 1) F.KS_SEL)).attr = 0 ∨ ownAttr fn.val (s.ksSlot (s.rd (fn.val + 1) F.KS_SEL)).attr = true))) → (storeOk (s.rd (fn.val + 1) F.KS_SEL)
      stored = true) →
      exec (.ksWipe fn stored) s = .next (completeOk stKs (ownWin fn) (putSlot (s.rd (fn.val + 1) F.KS_SEL) (emptyAttr (nextVersion s (s.rd (fn.val + 1) F.KS_SEL))) 0 s)))

/-- PROVISION takes a BLANK device to PROVISIONED with a new root from the entropy source; DEPLOY takes PROVISIONED to DEPLOYED and locks the
authorities; RETURN zeroises; AUTH_SET stores an authority's digest, LOCK_AUTH locks them; ID_STATEMENT and EK_CERT write their octets to the
caller's buffer; ENV_APPLY applies an envelope that passes every check, and refuses one that does not with the cause of the first that it fails. -/
def Obligations.RootCommands : Prop :=
  (∀ (fn : Fn) (s : State),
      s.takes .ks stKs fn.val = true → (s.secureSt fn.val = true ∨ fn.val = 0) → s.sh F.KS_LIFECYCLE_STATE = 0 → s.sh F.KS_STATUS_ENTROPY_OK = 1 →
      exec (.ksProvision fn) s = .next (completeOk stKs (ownWin fn) (newRoot (s.wr 0 F.KS_LIFECYCLE_STATE 1)))) ∧
  (∀ (fn : Fn) (s : State),
      s.takes .ks stKs fn.val = true → asBlank s = false → s.secureSt fn.val = true → s.sh F.KS_LIFECYCLE_STATE = 1 →
      exec (.ksDeploy fn) s = .next (completeOk stKs (ownWin fn) (syncKs ((s.wr 0 F.KS_LIFECYCLE_STATE 2).wr 0 F.KS_LIFECYCLE_AUTH_LOCKED 1)))) ∧
  (∀ (fn : Fn) (s : State),
      s.takes .ks stKs fn.val = true → asBlank s = false → s.secureSt fn.val = true → s.sh F.KS_LIFECYCLE_STATE = 1 →
      exec (.ksReturn fn) s = .next (completeOk stKs (ownWin fn) (zeroise (s.wr 0 F.KS_LIFECYCLE_STATE 3)))) ∧
  (∀ (fn : Fn) (s : State),
      s.takes .ks stKs fn.val = true → asBlank s = false → s.secureSt fn.val = true → s.sh F.KS_LIFECYCLE_AUTH_LOCKED = 0 → (s.rd64 (fn.val + 1)
      (F.KS_ARG 0) (F.KS_ARG 1)) % 64 = 0 → ownsBuf s fn.val (s.rd64 (fn.val + 1) (F.KS_ARG 0) (F.KS_ARG 1)) 48 = true → bufCode s (s.rd64 (fn.val +
      1) (F.KS_ARG 0) (F.KS_ARG 1)) 48 = Code.ok →
      exec (.ksAuthSet fn true) s = .next (completeOk stKs (ownWin fn) (putAuth (s.rd (fn.val + 1) (F.KS_ARG 4) % 4) (s.memRead fn.val (s.rd64 (fn.val + 1) (F.KS_ARG 0) (F.KS_ARG 1)) 48) s))) ∧
  (∀ (fn : Fn) (s : State),
      s.takes .ks stKs fn.val = true → asBlank s = false → s.secureSt fn.val = true →
      exec (.ksLockAuth fn) s = .next (completeOk stKs (ownWin fn) (s.wr 0 F.KS_LIFECYCLE_AUTH_LOCKED 1))) ∧
  (∀ (fn : Fn) (s : State),
      s.takes .ks stKs fn.val = true → asBlank s = false → (s.rd64 (fn.val + 1) (F.KS_ARG 0) (F.KS_ARG 1)) % 64 = 0 → ownsBuf s fn.val (s.rd64 (fn.val
      + 1) (F.KS_ARG 0) (F.KS_ARG 1)) 6784 = true →
      exec (.ksIdStatement fn) s = .next (completeOk stKs (ownWin fn) (dmaWrite fn.val (s.rd64 (fn.val + 1) (F.KS_ARG 0) (F.KS_ARG 1)) (idStatement s) s))) ∧
  (∀ (fn : Fn) (s : State),
      s.takes .ks stKs fn.val = true → (s.rd64 (fn.val + 1) (F.KS_ARG 0) (F.KS_ARG 1)) % 64 = 0 → ownsBuf s fn.val (s.rd64 (fn.val + 1) (F.KS_ARG 0)
      (F.KS_ARG 1)) 12288 = true →
      exec (.ksEkCert fn) s = .next (completeOk stKs (ownWin fn) ((dmaWrite fn.val (s.rd64 (fn.val + 1) (F.KS_ARG 0) (F.KS_ARG 1)) (Config.ekChain.take 12288) s).wr (fn.val + 1) (F.KS_ARG 4) (Config.ekChain.take 12288).length))) ∧
  (∀ (fn : Fn) (s : State),
      s.takes .ks stKs fn.val = true → asBlank s = false → s.secureSt fn.val = true → (s.rd64 (fn.val + 1) (F.KS_ARG 0) (F.KS_ARG 1)) % 64 = 0 →
      ownsBuf s fn.val (s.rd64 (fn.val + 1) (F.KS_ARG 0) (F.KS_ARG 1)) 4748 = true → bufCode s (s.rd64 (fn.val + 1) (F.KS_ARG 0) (F.KS_ARG 1)) 4748 =
      Code.ok → (s.rd64 (fn.val + 1) (F.KS_ARG 2) (F.KS_ARG 3)) % 64 = 0 → ownsBuf s fn.val (s.rd64 (fn.val + 1) (F.KS_ARG 2) (F.KS_ARG 3)) 2049 =
      true → bufCode s (s.rd64 (fn.val + 1) (F.KS_ARG 2) (F.KS_ARG 3)) 2049 = Code.ok →
      exec (.ksEnvApply fn true) s = .next (match envRefusal s (s.memRead fn.val (s.rd64 (fn.val + 1) (F.KS_ARG 0) (F.KS_ARG 1)) 4748) (s.memRead fn.val (s.rd64 (fn.val + 1) (F.KS_ARG 2) (F.KS_ARG 3)) 2049) with
        | some c => post Ev.KS_ENV_REFUSED (ofBe (slice (s.memRead fn.val (s.rd64 (fn.val + 1) (F.KS_ARG 0) (F.KS_ARG 1)) 4748) 72 2)) (refuse stKs (ownWin fn) c s)
        | none => completeOk stKs (ownWin fn) (post Ev.KS_ENV_APPLIED (ofBe (slice (s.memRead fn.val (s.rd64 (fn.val + 1) (F.KS_ARG 0) (F.KS_ARG 1)) 4748) 72 2)) (envApply (s.memRead fn.val (s.rd64 (fn.val + 1) (F.KS_ARG 0) (F.KS_ARG 1)) 4748) s))))

/-- A delivery answers the key only where the store's checks pass, and the steward then keeps its copy; at a whole second every slot whose expiry VC0
has surely reached is wiped with EXPIRED set; an enabled tamper source zeroises the store and is logged and counted, a disabled one does nothing. -/
def Obligations.KeyEvents : Prop :=
  (∀ (master : Fin 4) (slot : Fin 1024) (usage : Fin 5) (tenant : Fin 512) (s : State),
      exec (.keyDelivery master slot usage tenant) s = .next (let k := ksDeliver s slot.val master.val usage.val tenant.val;
        { s with ks := { s.ks with last := some (master.val, slot.val, k), held := if k.isSome ∧ master.val = 2 then tset s.ks.held slot.val (k.getD 0) else s.ks.held } })) ∧
  (∀ (tick : BitVec 64) (s : State),
      tick.toNat % 1562500000 = 0 → tick.toNat ≤ s.frc → s.ks.checkedAt < tick.toNat → s.doorOpen .ks = true →
      exec (.slotExpiryCheck tick) s = .next (each ((s.ks.slots.filter fun e => slotExpired s tick.toNat e.2.attr).map (·.1)) expireSlot
        { s with ks := { s.ks with checkedAt := tick.toNat } })) ∧
  (∀ (source : Fin 6) (s : State),
      bitOf (s.sh F.KS_TAMPER_CFG) source.val = true → s.sh F.PWR_STATUS_STATE ≠ 4 →
      exec (.tamperTrip source) s = .next (raise 832 0 0 (post Ev.KS_ZEROISED 0 (zeroise
        ((s.wr 0 F.KS_TAMPER_LOG_CAUSE (setBitN (s.sh F.KS_TAMPER_LOG_CAUSE) source.val)).wr 0 F.KS_TAMPER_LOG_COUNT (min 255 (s.sh F.KS_TAMPER_LOG_COUNT + 1))))))) ∧
  (∀ (source : Fin 6) (s : State),
      bitOf (s.sh F.KS_TAMPER_CFG) source.val = false →
      exec (.tamperTrip source) s = .next s)

/-- One request alone at a bank of a swept group is granted and performed; the atomic window adds or swaps and gives the old value; WRITE of a contract
sets it from the next window on if its group's sum keeps the limit, and refuses it otherwise; READ shows it; a window's end counts the masters that
waited below their contract. -/
def Obligations.SharedMemoryCommands : Prop :=
  (∀ (bank : Fin 272) (r : ShmReq) (s : State),
      s.doorOpen .shm = true → bank.val < 256 → reqReaches r = true → reqShapeOk r = true → shmBank r.addr.toNat = bank.val → shmSwept s r.addr.toNat
      1 = true →
      exec (.shmAccess bank [r] 0 0) s = .next (bankPort bank.val 0 0 0 [r] { s with shmx := { s.shmx with last := [] } })) ∧
  (∀ (bank : Fin 272) (ce ue : Fin 16) (s : State),
      exec (.shmAccess bank [] ce ue) s = .next { s with shmx := { s.shmx with last := [] } }) ∧
  (∀ (fn : Fn) (wide : Bool) (s : State),
      s.takes .shm stAtom fn.val = true → (s.rd (fn.val + 1) F.SHM_ATOM_ADDR) < dualBase → (s.rd (fn.val + 1) F.SHM_ATOM_ADDR) % (if wide then 8 else
      4) = 0 → shmPermitted s fn.val (s.rd (fn.val + 1) F.SHM_ATOM_ADDR) (if wide then 8 else 4) permATOMIC = true → shmReadCode s (s.rd (fn.val + 1)
      F.SHM_ATOM_ADDR) (if wide then 8 else 4) = Code.ok →
      exec (.shmAtomAdd fn wide) s = .next (completeOk stAtom (ownWin fn) ((State.shmWrite (s.rd (fn.val + 1) F.SHM_ATOM_ADDR) (leBytes (if wide then 8 else 4) (ofLe (s.shmRead (s.rd (fn.val + 1) F.SHM_ATOM_ADDR) (if wide then 8 else 4)) + (s.rd64 (fn.val + 1) F.SHM_ATOM_ARG_LO F.SHM_ATOM_ARG_HI))) s).wr64
        (fn.val + 1) F.SHM_ATOM_OLD_LO F.SHM_ATOM_OLD_HI (ofLe (s.shmRead (s.rd (fn.val + 1) F.SHM_ATOM_ADDR) (if wide then 8 else 4)))))) ∧
  (∀ (fn : Fn) (wide : Bool) (s : State),
      s.takes .shm stAtom fn.val = true → (s.rd (fn.val + 1) F.SHM_ATOM_ADDR) < dualBase → (s.rd (fn.val + 1) F.SHM_ATOM_ADDR) % (if wide then 8 else
      4) = 0 → shmPermitted s fn.val (s.rd (fn.val + 1) F.SHM_ATOM_ADDR) (if wide then 8 else 4) permATOMIC = true → shmReadCode s (s.rd (fn.val + 1)
      F.SHM_ATOM_ADDR) (if wide then 8 else 4) = Code.ok →
      exec (.shmAtomSwap fn wide) s = .next (completeOk stAtom (ownWin fn) ((State.shmWrite (s.rd (fn.val + 1) F.SHM_ATOM_ADDR) (leBytes (if wide then 8 else 4) (s.rd64 (fn.val + 1) F.SHM_ATOM_ARG_LO F.SHM_ATOM_ARG_HI)) s).wr64
        (fn.val + 1) F.SHM_ATOM_OLD_LO F.SHM_ATOM_OLD_HI (ofLe (s.shmRead (s.rd (fn.val + 1) F.SHM_ATOM_ADDR) (if wide then 8 else 4)))))) ∧
  (∀ (fn : Fn) (s : State),
      s.takes .shm stCt fn.val = true → s.secureSt fn.val = true → canReach (s.rd (fn.val + 1) F.SHM_CT_SEL_MASTER) (s.rd (fn.val + 1)
      F.SHM_CT_SEL_GROUP) = true → ((s.rd (fn.val + 1) F.SHM_CT_DATA_WORDS) ≤ (ctSet s (s.rd (fn.val + 1) F.SHM_CT_SEL_MASTER) (s.rd (fn.val + 1)
      F.SHM_CT_SEL_GROUP)) ∨ ctSum s (s.rd (fn.val + 1) F.SHM_CT_SEL_MASTER) (s.rd (fn.val + 1) F.SHM_CT_SEL_GROUP) - (ctSet s (s.rd (fn.val + 1)
      F.SHM_CT_SEL_MASTER) (s.rd (fn.val + 1) F.SHM_CT_SEL_GROUP)) + (s.rd (fn.val + 1) F.SHM_CT_DATA_WORDS) ≤ 13107) →
      exec (.shmCtWrite fn) s = .next (let t := setContract (s.rd (fn.val + 1) F.SHM_CT_SEL_MASTER) (s.rd (fn.val + 1) F.SHM_CT_SEL_GROUP) (s.rd (fn.val + 1) F.SHM_CT_DATA_WORDS) s;
        completeOk stCt (ownWin fn) (t.wr (fn.val + 1) F.SHM_CT_DATA_SUM (ctSum t (s.rd (fn.val + 1) F.SHM_CT_SEL_MASTER) (s.rd (fn.val + 1) F.SHM_CT_SEL_GROUP))))) ∧
  (∀ (fn : Fn) (s : State),
      s.takes .shm stCt fn.val = true → s.secureSt fn.val = true → canReach (s.rd (fn.val + 1) F.SHM_CT_SEL_MASTER) (s.rd (fn.val + 1)
      F.SHM_CT_SEL_GROUP) = true → (ctSet s (s.rd (fn.val + 1) F.SHM_CT_SEL_MASTER) (s.rd (fn.val + 1) F.SHM_CT_SEL_GROUP)) < (s.rd (fn.val + 1)
      F.SHM_CT_DATA_WORDS) → 13107 < ctSum s (s.rd (fn.val + 1) F.SHM_CT_SEL_MASTER) (s.rd (fn.val + 1) F.SHM_CT_SEL_GROUP) - (ctSet s (s.rd (fn.val +
      1) F.SHM_CT_SEL_MASTER) (s.rd (fn.val + 1) F.SHM_CT_SEL_GROUP)) + (s.rd (fn.val + 1) F.SHM_CT_DATA_WORDS) →
      exec (.shmCtWrite fn) s = .next (post Ev.SHM_CONTRACT_REFUSED (s.rd (fn.val + 1) F.SHM_CT_SEL_MASTER) (refuse stCt (ownWin fn) 1 (s.wr (fn.val + 1) F.SHM_CT_DATA_SUM (ctSum s (s.rd (fn.val + 1) F.SHM_CT_SEL_MASTER) (s.rd (fn.val + 1) F.SHM_CT_SEL_GROUP)))))) ∧
  (∀ (fn : Fn) (s : State),
      s.takes .shm stCt fn.val = true → s.secureSt fn.val = true →
      exec (.shmCtRead fn) s = .next (completeOk stCt (ownWin fn) ((s.wr (fn.val + 1) F.SHM_CT_DATA_WORDS (ctSet s (s.rd (fn.val + 1) F.SHM_CT_SEL_MASTER) (s.rd (fn.val + 1) F.SHM_CT_SEL_GROUP))).wr (fn.val + 1) F.SHM_CT_DATA_SUM (ctSum s (s.rd (fn.val + 1) F.SHM_CT_SEL_MASTER) (s.rd (fn.val + 1) F.SHM_CT_SEL_GROUP))))) ∧
  (∀ (tick : BitVec 64) (waiting : List (Fin 21 × Fin 17)) (s : State),
      s.doorOpen .shm = true → tick.toNat % 1280 = 0 → 0 < tick.toNat → tick.toNat ≤ s.frc → s.shmx.win = tick.toNat / 1280 - 1 → (List.range 21).all
      (fun m => waiting.all fun e => e.1.val != m || ctAt s m e.2.val s.shmx.win ≤ recvIn s m e.2.val s.shmx.win) = true →
      exec (.contractWindowEnd tick waiting) s = .next { s with shmx := { s.shmx with recv := [], win := tick.toNat / 1280 - 1 + 1 } })

/-- A bank's oldest corrected word is written back and counted; the sweep frees its groups one after another and then performs the writes held for them;
the walker starts a row once its gap has passed, releases it, repairs a faulty row while its bank has a spare and degrades the bank otherwise, and
reports a starved row once. -/
def Obligations.SharedMemoryUpkeep : Prop :=
  (∀ (bank : Fin 272) (e : ShmCe) (s : State),
      s.shmx.ce.find? (fun e => e.bank == bank.val) = some e → s.shmx.ceAt = none →
      exec (.ceWriteback bank 0) s = .next (
        let t := { s with shmx := { s.shmx with ce := s.shmx.ce.erase e } };
        let t := shmErr e.master e.addr false e.lanes (t.wr 0 F.SHM_ECC_CE (s.sh F.SHM_ECC_CE + 1));
        post Ev.SHM_CE bank.val { t with shmx := { t.shmx with ceAt := some s.frc } })) ∧
  (∀ (group : Fin 17) (t0 : Nat) (s : State),
      s.shmx.sweepAt = some t0 → group.val ≠ 15 → s.sh (F.SHM_GRP_STATUS_SWEPT group.val) = 0 → s.shmx.held = [] → (List.range 17).all (fun h =>
      !(decide (sweepPlace h < sweepPlace group.val)) || s.sh (F.SHM_GRP_STATUS_SWEPT h) == 1) = true → t0 + 5120 + 20480 * sweepPlace group.val ≤
      s.frc →
      exec (.sweepGroupDone group) s = .next (s.wr 0 (F.SHM_GRP_STATUS_SWEPT group.val) 1)) ∧
  (∀ (s : State),
      s.doorOpen .shm = true → s.sh F.SHM_CTRL_WALK_EN = 1 → s.sh F.SHM_STATUS_SWEEP_DONE = 1 → s.shmx.walk.at_ = none → degraded s s.shmx.walk.bank =
      false → s.shmx.walk.done + ticksOfNs (s.sh F.SHM_CTRL_ROW_GAP_US * 1000) ≤ s.frc →
      exec .walkRowStart s = .next (walkPos 1 { s with shmx := { s.shmx with walk := { s.shmx.walk with at_ := some s.frc, starved := false } } })) ∧
  (∀ (t : Nat) (s : State),
      s.shmx.walk.at_ = some t →
      exec (.walkRowDone false) s = .next (walkNext s)) ∧
  (∀ (t : Nat) (s : State),
      s.shmx.walk.at_ = some t → tgetD s.shmx.walk.spares s.shmx.walk.bank 0 < 4 →
      exec (.walkRowDone true) s = .next (
        let k := tgetD s.shmx.walk.spares s.shmx.walk.bank 0;
        let t := { s with shmx := { s.shmx with walk := { s.shmx.walk with spares := tset s.shmx.walk.spares s.shmx.walk.bank (k + 1), remap := tset s.shmx.walk.remap (s.shmx.walk.bank * 256 + s.shmx.walk.row) k } } };
        walkNext (post Ev.SHM_REPAIRED s.shmx.walk.bank (t.wr 0 F.SHM_WALK_COUNTS_REPAIRS (s.sh F.SHM_WALK_COUNTS_REPAIRS + 1))))) ∧
  (∀ (t : Nat) (s : State),
      s.shmx.walk.at_ = some t → 4 ≤ tgetD s.shmx.walk.spares s.shmx.walk.bank 0 →
      exec (.walkRowDone true) s = .next (
        let t := s.wr 0 (F.SHM_GRP_STATUS_DEGRADED (s.shmx.walk.bank / 16)) (setBitN (s.sh (F.SHM_GRP_STATUS_DEGRADED (s.shmx.walk.bank / 16))) (s.shmx.walk.bank % 16));
        raise 897 s.shmx.walk.bank 0 (walkNext (post Ev.SHM_REPAIR_FAIL s.shmx.walk.bank (t.wr 0 F.SHM_STATUS_DEGRADED_BANKS ((List.range 272).filter (degraded t)).length))))) ∧
  (∀ (t : Nat) (s : State),
      s.shmx.walk.at_ = some t → s.shmx.walk.starved = false → t + ticksOfNs (s.sh F.SHM_CTRL_WALK_STALL_US * 10000) < s.frc →
      exec .walkStarved s = .next (post Ev.SHM_WALK_STARVED s.shmx.walk.bank { s with shmx := { s.shmx with walk := { s.shmx.walk with starved := true } } }))

/-- A doorbell takes a tail no further ahead than the ring is long and refuses any other with RING_ERR; a fetch takes one record of the ring whose turn
it is, advances its head and reserves a completion slot; a ring's next command, unless it must wait, is presented to its block, refused if it
repeats a tag in flight; a completed command leaves its instance and its record is written to the ring. -/
def Obligations.RingCommands : Prop :=
  (∀ (fn : Fn) (ring : Fin 16) (value : BitVec 32) (s : State),
      s.takesWrite .hif fn.val = true → ring.val < pairsOf fn.val → wsub 32 value.toNat (s.rd (fn.val + 1) (F.HIF_SQ_HEAD ring.val)) ≤ ringEntries s
      fn.val ring.val →
      exec (.sqDoorbell fn ring value) s = .next (s.wr (fn.val + 1) (F.HIF_SQ_TAIL ring.val) value.toNat)) ∧
  (∀ (fn : Fn) (ring : Fin 16) (value : BitVec 32) (s : State),
      s.takesWrite .hif fn.val = true → ring.val < pairsOf fn.val → ringEntries s fn.val ring.val < wsub 32 value.toNat (s.rd (fn.val + 1)
      (F.HIF_SQ_HEAD ring.val)) →
      exec (.sqDoorbell fn ring value) s = .next (postTo Ev.HIF_RING_ERR fn.val ring.val s)) ∧
  (∀ (s : State),
      nextRing s = none →
      exec .ringFetch s = .next s) ∧
  (∀ (k : Nat) (s : State),
      nextRing s = some k → addrIsShm (sqBase s (k / 16) (k % 16) + sqOctets (ringKind s (k / 16) (k % 16)) * (s.rd (k / 16 + 1) (F.HIF_SQ_HEAD (k %
      16)) % ringEntries s (k / 16) (k % 16))) = true → s.shmPoisoned ((sqBase s (k / 16) (k % 16) + sqOctets (ringKind s (k / 16) (k % 16)) * (s.rd
      (k / 16 + 1) (F.HIF_SQ_HEAD (k % 16)) % ringEntries s (k / 16) (k % 16))) % 2 ^ 32) (sqOctets (ringKind s (k / 16) (k % 16))) = false →
      exec .ringFetch s = .next (let h := s.rd (k / 16 + 1) (F.HIF_SQ_HEAD (k % 16)); let kind := ringKind s (k / 16) (k % 16);
        let t := { s.wr (k / 16 + 1) (F.HIF_SQ_HEAD (k % 16)) (h + 1) with hif := { s.hif with served := k } };
        fetched ⟨k / 16, k % 16, h, tgetD s.hif.ringEn k 0⟩ kind (s.memRead (k / 16) (sqBase s (k / 16) (k % 16) + sqOctets (ringKind s (k / 16) (k % 16)) * (s.rd (k / 16 + 1) (F.HIF_SQ_HEAD (k % 16)) % ringEntries s (k / 16) (k % 16))) (sqOctets kind))
          (t.wr (k / 16 + 1) (F.HIF_RING_STATUS_INFLIGHT (k % 16)) (t.rd (k / 16 + 1) (F.HIF_RING_STATUS_INFLIGHT (k % 16)) + 1)))) ∧
  (∀ (fn : Fn) (ring : Fin 16) (c : RingCmd) (s : State),
      (s.hif.cmds.filter fun c => c.tag.fn == fn.val && c.tag.r == ring.val).find? (fun c => !c.started) = some c → recOrdered c.octets = false →
      ((s.hif.cmds.filter fun c => c.tag.fn == fn.val && c.tag.r == ring.val).takeWhile (fun c => c.started)).all (fun x => !recOrdered x.octets ||
      (cmdOutcome s x).isSome) = true →
      exec (.ringCommand fn ring) s = .next (present c s)) ∧
  (∀ (slot : Fin 4096) (c : RingCmd) (code cause tick : Nat) (s : State),
      s.hif.cmds.find? (fun c => c.slot == slot.val) = some c → cmdOutcome s c = some (code, cause, tick) → c.done ≠ none → ringLive s c.tag.fn
      c.tag.r c.tag.en = true → c.dead = false →
      exec (.ringCompletion slot) s = .next (let t := clearCopy (1024 + slot.val) s;
        cqWrite c.tag.fn c.tag.r (recIrq c.octets) (completionRecord c code cause tick [])
          (syncInflight { t with hif := { t.hif with cmds := t.hif.cmds.filter fun y => y.slot != slot.val, doneAt := tdel t.hif.doneAt (1024 + slot.val) } })))

/-- NOP completes; PT_WRITE puts an entry into the shadow table, PT_READ shows one of the shadow or the active table, PT_COMMIT makes the shadow active
under the next epoch, PT_ABORT makes the shadow what the active table is, and a commit that drains completes once no older request holds a buffer. -/
def Obligations.ProtectionTableCommands : Prop :=
  (∀ (fn : Fn) (s : State),
      s.takes .hif stHif fn.val = true →
      exec (.hifNop fn) s = .next (completeOk stHif (ownWin fn) s)) ∧
  (∀ (fn : Fn) (s : State),
      s.takes .hif stHif fn.val = true → s.secureSt fn.val = true → (s.rd (fn.val + 1) F.HIF_W_SEL) < 4096 → drainWaits s = false → rsHoldsTable s =
      false →
      exec (.ptWrite fn) s = .next (completeOk stHif (ownWin fn) (ptPut (s.rd (fn.val + 1) F.HIF_W_SEL) ((List.range 8).map fun i => leBytes 4 (s.rd (fn.val + 1) (F.HIF_W_DATA i))).flatten s))) ∧
  (∀ (fn : Fn) (s : State),
      s.takes .hif stHif fn.val = true → s.secureSt fn.val = true → (s.rd (fn.val + 1) F.HIF_W_SEL) < 4096 →
      exec (.ptRead fn) s = .next (let o := tgetD (if bitOf (s.rd (fn.val + 1) (F.HIF_W_ARG 0)) 0 then s.hif.ptActive else s.hif.ptShadow) (s.rd (fn.val + 1) F.HIF_W_SEL) (zeros 32);
        completeOk stHif (ownWin fn) (each (List.range 8) (fun i t => t.wr (fn.val + 1) (F.HIF_W_DATA i) (ofLe (slice o (4 * i) 4))) s))) ∧
  (∀ (fn : Fn) (s : State),
      s.takes .hif stHif fn.val = true → s.secureSt fn.val = true → drainWaits s = false → bitOf (s.rd (fn.val + 1) (F.HIF_W_ARG 0)) 0 = false →
      exec (.ptCommit fn) s = .next (completeOk stHif (ownWin fn) ((ptCommit s).wr (fn.val + 1) F.HIF_W_RES0 ((ptCommit s).sh F.HIF_EPOCH)))) ∧
  (∀ (fn : Fn) (s : State),
      s.takes .hif stHif fn.val = true → s.secureSt fn.val = true → drainWaits s = false → bitOf (s.rd (fn.val + 1) (F.HIF_W_ARG 0)) 0 = true →
      exec (.ptCommit fn) s = .next (accept .hif stHif (ownWin fn) hifOpCommit 0 ((ptCommit s).wr (fn.val + 1) F.HIF_W_RES0 ((ptCommit s).sh F.HIF_EPOCH)))) ∧
  (∀ (fn : Fn) (s : State),
      s.takes .hif stHif fn.val = true → s.secureSt fn.val = true → drainWaits s = false → rsHoldsTable s = false →
      exec (.ptAbort fn) s = .next (completeOk stHif (ownWin fn) ({ s with hif := { s.hif with ptShadow := s.hif.ptActive } }))) ∧
  (∀ (d : Req) (s : State),
      d ∈ s.reqs → d.blk = .hif → d.op = hifOpCommit → s.reqs.all (fun r => !(holdsBuffer r && r.ep != d.ep)) = true →
      exec .ptCommitDrained s = .next (finish .hif hifOpCommit 0 Code.ok 0 s))

/-- COPY from host memory moves its octets into permitted, swept SHM and says how many; SU_HOLD of a block that is on raises its count, SU_RELEASE
lowers it and at 0 applies the requests that waited; PWR_REQ of a tenant-0 function is kept, and DEFERRED where it asks to gate a block in secure
use. -/
def Obligations.HostMoveCommands : Prop :=
  (∀ (fn : Fn) (s : State),
      s.takes .hif stHif fn.val = true → 1 ≤ (s.rd (fn.val + 1) (F.HIF_W_ARG 4)) → (s.rd (fn.val + 1) (F.HIF_W_ARG 4)) ≤ 1048576 → addrIsShm ((s.rd
      (fn.val + 1) (F.HIF_W_ARG 0)) + 2 ^ 32 * (s.rd (fn.val + 1) (F.HIF_W_ARG 1))) = false → addrIsShm ((s.rd (fn.val + 1) (F.HIF_W_ARG 2)) + 2 ^ 32
      * (s.rd (fn.val + 1) (F.HIF_W_ARG 3))) = true → addrWellFormed ((s.rd (fn.val + 1) (F.HIF_W_ARG 2)) + 2 ^ 32 * (s.rd (fn.val + 1) (F.HIF_W_ARG
      3))) = true → shmPermitted s fn.val (((s.rd (fn.val + 1) (F.HIF_W_ARG 2)) + 2 ^ 32 * (s.rd (fn.val + 1) (F.HIF_W_ARG 3))) % 2 ^ 32) (s.rd
      (fn.val + 1) (F.HIF_W_ARG 4)) permW = true → copyReach s (((s.rd (fn.val + 1) (F.HIF_W_ARG 2)) + 2 ^ 32 * (s.rd (fn.val + 1) (F.HIF_W_ARG 3))) %
      2 ^ 32) (s.rd (fn.val + 1) (F.HIF_W_ARG 4)) false = ((s.rd (fn.val + 1) (F.HIF_W_ARG 4)), Code.ok) →
      exec (.hifCopy fn) s = .next (complete stHif (ownWin fn) Code.ok 0
        ((dmaWrite fn.val ((s.rd (fn.val + 1) (F.HIF_W_ARG 2)) + 2 ^ 32 * (s.rd (fn.val + 1) (F.HIF_W_ARG 3))) (s.memRead fn.val ((s.rd (fn.val + 1) (F.HIF_W_ARG 0)) + 2 ^ 32 * (s.rd (fn.val + 1) (F.HIF_W_ARG 1))) (s.rd (fn.val + 1) (F.HIF_W_ARG 4))) (count Ct.HIF_RX_BYTES fn.val (s.rd (fn.val + 1) (F.HIF_W_ARG 4)) s)).wr (fn.val + 1) F.HIF_W_RES0 (s.rd (fn.val + 1) (F.HIF_W_ARG 4))))) ∧
  (∀ (fn : Fn) (s : State),
      s.takes .hif stHif fn.val = true → s.secureSt fn.val = true → (s.rd (fn.val + 1) F.HIF_W_SEL) < 24 → (s.sh (F.HIF_SU_COUNT (s.rd (fn.val + 1)
      F.HIF_W_SEL))) ≠ 0xFFFF → s.gated (s.rd (fn.val + 1) F.HIF_W_SEL) = false →
      exec (.suHold fn) s = .next (suHeld (ownWin fn) (s.rd (fn.val + 1) F.HIF_W_SEL) s)) ∧
  (∀ (fn : Fn) (s : State),
      s.takes .hif stHif fn.val = true → s.secureSt fn.val = true → (s.rd (fn.val + 1) F.HIF_W_SEL) < 24 → 1 < (s.sh (F.HIF_SU_COUNT (s.rd (fn.val +
      1) F.HIF_W_SEL))) →
      exec (.suRelease fn) s = .next (completeOk stHif (ownWin fn) ((s.wr 0 (F.HIF_SU_COUNT (s.rd (fn.val + 1) F.HIF_W_SEL)) ((s.sh (F.HIF_SU_COUNT (s.rd (fn.val + 1) F.HIF_W_SEL))) - 1)).wr (fn.val + 1) F.HIF_W_RES0 ((s.sh (F.HIF_SU_COUNT (s.rd (fn.val + 1) F.HIF_W_SEL))) - 1)))) ∧
  (∀ (fn : Fn) (s : State),
      s.takes .hif stHif fn.val = true → s.secureSt fn.val = true → (s.rd (fn.val + 1) F.HIF_W_SEL) < 24 → (s.sh (F.HIF_SU_COUNT (s.rd (fn.val + 1)
      F.HIF_W_SEL))) = 1 →
      exec (.suRelease fn) s = .next (completeOk stHif (ownWin fn) (applyDeferred (s.rd (fn.val + 1) F.HIF_W_SEL) ((s.wr 0 (F.HIF_SU_COUNT (s.rd (fn.val + 1) F.HIF_W_SEL)) 0).wr (fn.val + 1) F.HIF_W_RES0 0)))) ∧
  (∀ (fn : Fn) (s : State),
      s.takes .hif stHif fn.val = true → tenant0 fn.val = true → gateable.any (fun k => k.code == (s.rd (fn.val + 1) F.HIF_W_SEL)) = true → (s.rd
      (fn.val + 1) (F.HIF_W_ARG 0)) % 4 ≠ 3 →
      exec (.pwrReq fn) s = .next (let late := (s.rd (fn.val + 1) (F.HIF_W_ARG 0)) % 4 == 2 && (s.sh (F.HIF_SU_COUNT (s.rd (fn.val + 1) F.HIF_W_SEL))) != 0;
        complete stHif (ownWin fn) (if late then Code.deferred else Code.ok) 0 (setPwrReq fn.val (s.rd (fn.val + 1) F.HIF_W_SEL) ((s.rd (fn.val + 1) (F.HIF_W_ARG 0)) % 4) late s)))

/-- The oldest transmit descriptor of a live ring is offered to its target; the oldest transmit completion and the oldest received frame are written to
their live ring; what belongs to a ring that was disabled since is dropped; a condition that waited for its vector's interval is sent when that
ends. -/
def Obligations.PacketRingCommands : Prop :=
  (∀ (h : HostTag) (d : Octets) (l : List (HostTag × Octets)) (s : State),
      s.hif.txq = (h, d) :: l →
      exec .txDescriptor s = .next (if ringLive s h.fn h.r h.en = true then offerDescriptor h d { s with hif := { s.hif with txq := l } }
        else { s with hif := { s.hif with txq := l } })) ∧
  (∀ (h : HostTag) (code cause frc : Nat) (l : List (HostTag × Nat × Nat × Nat)) (s : State),
      s.hif.txDone = (h, code, cause, frc) :: l →
      exec .txCompletion s = .next (if ringLive s h.fn h.r h.en = true then
          cqWrite h.fn h.r false (oct [0, code, cause, 0] ++ leBytes 4 h.idx ++ leBytes 8 frc) { s with hif := { s.hif with txDone := l } }
        else { s with hif := { s.hif with txDone := l } })) ∧
  (∀ (x : RxFrame) (l : List RxFrame) (s : State),
      s.hif.rxq = x :: l → ringLive s x.tag.fn x.tag.r x.tag.en = false →
      exec .rxDelivery s = .next (count Ct.HIF_RX_DROP x.tag.fn 1 { s with hif := { s.hif with rxq := l } })) ∧
  (∀ (x : RxFrame) (l : List RxFrame) (s : State),
      s.hif.rxq = x :: l → ringLive s x.tag.fn x.tag.r x.tag.en = true → x.octets.length ≤ ofLe (slice (s.memRead x.tag.fn (sqBase s x.tag.fn x.tag.r
      + 16 * (x.tag.idx % ringEntries s x.tag.fn x.tag.r)) 16) 8 2) → ownsBuf s x.tag.fn (ofLe (slice (s.memRead x.tag.fn (sqBase s x.tag.fn x.tag.r +
      16 * (x.tag.idx % ringEntries s x.tag.fn x.tag.r)) 16) 0 8)) x.octets.length = true →
      exec .rxDelivery s = .next (let t := { s with hif := { s.hif with rxq := l } };
        cqWrite x.tag.fn x.tag.r false (oct [0, Code.ok, 0, x.src] ++ leBytes 4 x.tag.idx ++ leBytes 2 x.octets.length ++ oct [x.errs, 0] ++ leBytes 4 x.seq ++ leBytes 8 x.frc)
          (dmaWrite x.tag.fn (ofLe (slice (s.memRead x.tag.fn (sqBase s x.tag.fn x.tag.r + 16 * (x.tag.idx % ringEntries s x.tag.fn x.tag.r)) 16) 0 8)) x.octets (t.wr (x.tag.fn + 1) (F.HIF_SQ_HEAD x.tag.r) (x.tag.idx + 1))))) ∧
  (∀ (fn : Fn) (vector : Fin 32) (w : Vec) (s : State),
      tget s.vecs (fn.val * 32 + vector.val) = some w → w.waiting = true → w.until_ ≤ s.frc →
      exec (.irqIntervalEnd fn vector) s = .next (sendVec fn.val vector.val (itrOf s fn.val vector.val) s))

/-- A permitted, swept and unpoisoned access of a physical function to the SHM aperture reads or writes it, an access that is not permitted is answered
with ones and PROT_FAULT; a malformed access likewise, a refused register read with its FAIL_ADDR; LAT_TOL is written; a function reset acts on that
function alone; link-down resets every PCIe function; the link trains to the lesser of what it can and the option bytes allow. -/
def Obligations.MmioAndLink : Prop :=
  (∀ (fn : Fn) (addr : BitVec 28) (n : BitVec 13) (s : State),
      fn.val ≤ 1 → shmPermitted s fn.val addr.toNat n.toNat permR = true → shmSwept s addr.toNat n.toNat = true → s.shmPoisoned addr.toNat n.toNat =
      false →
      exec (.mmioShmAccess fn addr (.read n)) s = .next (mmioDone fn.val (s.shmRead addr.toNat n.toNat) false (count Ct.HIF_TX_BYTES fn.val n.toNat s))) ∧
  (∀ (fn : Fn) (addr : BitVec 28) (d : List Byte) (s : State),
      fn.val ≤ 1 → shmPermitted s fn.val addr.toNat d.length permW = true → shmSwept s addr.toNat d.length = true →
      exec (.mmioShmAccess fn addr (.write d false)) s = .next (State.shmWrite addr.toNat d (mmioDone fn.val [] false (count Ct.HIF_RX_BYTES fn.val d.length s)))) ∧
  (∀ (fn : Fn) (addr : BitVec 28) (n : BitVec 13) (s : State),
      fn.val ≤ 1 → shmPermitted s fn.val addr.toNat n.toNat permR = false →
      exec (.mmioShmAccess fn addr (.read n)) s = .next (protFault fn.val Code.refused addr.toNat (mmioDone fn.val (List.replicate n.toNat 0xFF) false (count Ct.HIF_TX_BYTES fn.val n.toNat s)))) ∧
  (∀ (fn : Fn) (addr : BitVec 19) (write : Bool) (s : State),
      fn.val ≠ 513 →
      exec (.mmioMalformed fn addr write) s = .next (protFault fn.val Code.refused addr.toNat (mmioDone fn.val (if write then [] else List.replicate 4 0xFF) false s))) ∧
  (∀ (fn : Fn) (addr : BitVec 19) (b : Blk) (s : State),
      addr.toNat % 4 = 0 → fn.val ≠ 513 → Blk.ofCode (addr.toNat / 0x4000) = some b → mayRead s fn.val b (addr.toNat % 0x4000) = false →
      exec (.mmioReadRefused fn addr) s = .next (protFault fn.val Code.refused addr.toNat (mmioDone fn.val (zeros 4) false s))) ∧
  (∀ (fn : Fn) (value : BitVec 32) (s : State),
      s.takesWrite .hif fn.val = true →
      exec (.hifLatTolWrite fn value) s = .next (syncTol (s.wr (fn.val + 1) F.HIF_LAT_TOL value.toNat))) ∧
  (∀ (f : Fin 513) (s : State),
      exec (.functionLevelReset f) s = .next (functionsReset (fun n => n == f.val) s)) ∧
  (∀ (s : State),
      exec .pcieLinkDown s = .next (functionsReset (fun n => decide (n ≤ 512))
        (((({ s with hif := { s.hif with ltrEn := false } }.wr 0 F.HIF_STATUS_LINK_UP 0).wr 0 F.HIF_STATUS_SPEED 0).wr 0 F.HIF_STATUS_WIDTH 0).wr 0 F.HIF_STATUS_NUM_VFS 0))) ∧
  (∀ (speed : Fin 5) (width : Fin 4) (vfs : Fin 512) (ltr : Bool) (s : State),
      s.sh F.RST_STATUS_PROOF_DONE = 1 → s.sh F.HIF_STATUS_LINK_UP = 0 → s.pwr.deep = 0 →
      exec (.pcieLinkUp speed width vfs ltr) s = .next (
        let t := (s.wr 0 F.HIF_STATUS_LINK_UP 1).wr 0 F.HIF_STATUS_SPEED (min (speed.val + 1) (s.sh F.RST_OPT_GEN_MAX));
        let t := (t.wr 0 F.HIF_STATUS_WIDTH (2 ^ min width.val (s.sh F.RST_OPT_WIDTH_MAX))).wr 0 F.HIF_STATUS_NUM_VFS vfs.val;
        sendLtr (syncTol { t with hif := { t.hif with ltrEn := ltr } })))

/-- An order for a block that may be reset begins its reset; a FENCED door becomes ABSENT under the next generation; a block that is ready again opens
its door, closes its shadow and posts BLOCK_READY, a gated one comes back to ON; a reply under a stale generation, or at a door that is not open, is
counted and dropped. -/
def Obligations.DoorCommands : Prop :=
  (∀ (block : Fin 24) (b : Blk) (s : State),
      Blk.ofCode block.val = some b → neverReset b = false → s.safe = false → s.sh F.RST_STATUS_PROOF_DONE ≠ 0 →
      exec (.blockResetOrder block) s = .next (orderBlockReset b none s)) ∧
  (∀ (block : Fin 24) (b : Blk) (s : State),
      Blk.ofCode block.val = some b → neverReset b = true →
      exec (.blockResetOrder block) s = .next s) ∧
  (∀ (block : Fin 24) (s : State),
      s.sh (F.FLT_BLK_STATUS_DOOR block.val) = 1 →
      exec (.doorAbsent block) s = .next ((s.wr 0 (F.FLT_BLK_STATUS_DOOR block.val) 2).wr 0 (F.FLT_BLK_STATUS_GEN block.val) (if s.sh (F.FLT_BLK_STATUS_GEN block.val) = 0xFFFF then 1 else s.sh (F.FLT_BLK_STATUS_GEN block.val) + 1))) ∧
  (∀ (block : Fin 24) (s : State),
      s.sh (F.FLT_BLK_STATUS_DOOR block.val) ≠ 1 →
      exec (.doorAbsent block) s = .next s) ∧
  (∀ (block : Fin 24) (b : Blk) (s : State),
      Blk.ofCode block.val = some b → s.sh (F.FLT_BLK_STATUS_DOOR b.code) = 2 → s.gated b.code = false →
      exec (.blockReady block) s = .next (let t := closeShadow b (reopenHook b (s.wr 0 (F.FLT_BLK_STATUS_DOOR b.code) 0));
        finish .flt fltOpReset b.code Code.ok 0 (post Ev.FLT_BLOCK_READY b.code { t with flt := { t.flt with timers := tdel t.flt.timers b.code } }))) ∧
  (∀ (block : Fin 24) (b : Blk) (s : State),
      Blk.ofCode block.val = some b → s.sh (F.FLT_BLK_STATUS_DOOR b.code) = 2 → s.gated b.code = true → s.pwr.waking.contains b.code = true →
      exec (.blockReady block) s = .next (resumeGated b s)) ∧
  (∀ (block : Fin 24) (gen : BitVec 16) (b : Blk) (s : State),
      Blk.ofCode block.val = some b → s.doorOpen b = true → gen.toNat = s.gen b →
      exec (.doorReply block gen) s = .next s) ∧
  (∀ (block : Fin 24) (gen : BitVec 16) (b : Blk) (s : State),
      Blk.ofCode block.val = some b → (s.doorOpen b = false ∨ gen.toNat ≠ s.gen b) →
      exec (.doorReply block gen) s = .next (count (evDiscard b) 0 1 s))

/-- LOAD without a running image applies one that passes every check and reports the first check that one fails; VERIFY checks and changes nothing else;
RESTRUCTURE accepts a checked image for a tick 200 ms to 60 s ahead; staging writes its shadows and table and completes the command, lateness or
ABORT discards it, and at its tick it is applied; SVN_COMMIT raises the least SVN to the running image's. -/
def Obligations.StewardCommands : Prop :=
  (∀ (fn : Fn) (o : Octets) (n : Nat) (f : ImgFail) (s : State),
      s.takes .stw stStw fn.val = true → s.secure fn.val = true → s.sh F.STW_STATUS_IMAGE = 0 → bufImage fn.val (s.rd64 (fn.val + 1) (F.STW_ARG 0)
      (F.STW_ARG 1)) s = (some o, n) → checkImage false o s = some f →
      exec (.stwLoad fn) s = .next (post Ev.STW_IMG_REJECTED 0 (stwFail (ownWin fn) f s))) ∧
  (∀ (fn : Fn) (o : Octets) (n : Nat) (s : State),
      s.takes .stw stStw fn.val = true → s.secure fn.val = true → s.sh F.STW_STATUS_IMAGE = 0 → bufImage fn.val (s.rd64 (fn.val + 1) (F.STW_ARG 0)
      (F.STW_ARG 1)) s = (some o, n) →
      exec (.stwLoad fn) s = .next (match checkImage false o s with
        | some f => post Ev.STW_IMG_REJECTED 0 (stwFail (ownWin fn) f s)
        | none =>
          let y := applyImage o s;
          let t := completeOk stStw (ownWin fn) (post Ev.STW_IMG_LOADED 0 (measure (setRunning 3 o y.st)));
          if y.fails.isEmpty then t else raise srcAPPLY 0 0 t)) ∧
  (∀ (fn : Fn) (src : Fin 4) (readOk : Bool) (o : Octets) (n c : Nat) (s : State),
      s.takes .stw stStw fn.val = true → (s.secure fn.val = true ∨ tenant0 fn.val = true) → src.val ≠ 3 → srcImage (ownWin fn) src.val readOk s =
      (some o, n, c) →
      exec (.stwVerify fn src readOk) s = .next (match checkImage true o (rsBase s) with
        | some f => if f.cause ≤ StwCause.contract then stwFail (ownWin fn) f s else completeOk stStw (ownWin fn) s
        | none => completeOk stStw (ownWin fn) s)) ∧
  (∀ (fn : Fn) (src : Fin 4) (readOk : Bool) (o : Octets) (n c : Nat) (s : State),
      s.takes .stw stStw fn.val = true → s.secure fn.val = true → src.val ≠ 3 → s.frc + 312500000 ≤ (s.rd64 (fn.val + 1) (F.STW_ARG 2) (F.STW_ARG 3))
      → (s.rd64 (fn.val + 1) (F.STW_ARG 2) (F.STW_ARG 3)) ≤ s.frc + 93750000000 → s.sh F.STW_STATUS_RS_STATE = 0 → srcImage (ownWin fn) src.val readOk
      s = (some o, n, c) →
      exec (.stwRestructure fn src readOk) s = .next (match checkImage true o (rsBase s) with
        | some f => stwFail (ownWin fn) f s
        | none =>
          if (stageAll o s).2.any s.armed then stwFail (ownWin fn) { cause := StwCause.busy } s
          else
            let rs : Restructure := { image := o, src := src.val, tick := (s.rd64 (fn.val + 1) (F.STW_ARG 2) (F.STW_ARG 3)), win := (ownWin fn), groups := (stageAll o s).2, pt := (sectOf o 2).isSome, blks := imgBlks o };
            let t := (accept .stw stStw (ownWin fn) stwOpRs 0 s).wr64 0 F.STW_RS_TIME_LO F.STW_RS_TIME_HI (s.rd64 (fn.val + 1) (F.STW_ARG 2) (F.STW_ARG 3));
            { t.wr 0 F.STW_STATUS_RS_STATE 1 with stw := { t.stw with rs := some rs } })) ∧
  (∀ (fn : Fn) (src : Fin 4) (readOk : Bool) (s : State),
      s.takes .stw stStw fn.val = true → s.secure fn.val = true → src.val ≠ 3 → ((s.rd64 (fn.val + 1) (F.STW_ARG 2) (F.STW_ARG 3)) < s.frc + 312500000
      ∨ s.frc + 93750000000 < (s.rd64 (fn.val + 1) (F.STW_ARG 2) (F.STW_ARG 3))) →
      exec (.stwRestructure fn src readOk) s = .next (refuse stStw (ownWin fn) 0 s)) ∧
  (∀ (r : Restructure) (s : State),
      s.stw.rs = some r → s.sh F.STW_STATUS_RS_STATE = 1 → s.frc + 31250000 ≤ r.tick →
      exec .rsStaged s = .next (let t := (stageAll r.image s).1;
        let t := (match sectOf r.image 2 with
          | some x => putEntries x.recs t
          | none => t);
        post Ev.STW_RS_STAGED 0 (finish .stw stwOpRs 0 Code.ok 0 (t.wr 0 F.STW_STATUS_RS_STATE 2)))) ∧
  (∀ (r : Restructure) (s : State),
      s.stw.rs = some r → s.sh F.STW_STATUS_RS_STATE = 1 → r.tick < s.frc + 31250000 →
      exec .rsLate s = .next (post Ev.STW_RS_FAILED 0 (rsDiscard StwCause.late s))) ∧
  (∀ (r : Restructure) (s : State),
      s.stw.rs = some r → s.sh F.STW_STATUS_RS_STATE = 2 → s.frc < r.tick →
      exec .rsApply s = .next s) ∧
  (∀ (r : Restructure) (s : State),
      s.stw.rs = some r → s.sh F.STW_STATUS_RS_STATE = 2 → r.tick ≤ s.frc →
      exec .rsApply s = .next (
        let t := each r.groups (fun g t => commitGroup g r.tick t) (rsBase s);
        let t := (if r.pt then ptCommit t else t);
        let t := (match sectOf r.image 9 with
          | some x => applyPatches x.recs t
          | none => t);
        let t := wipeBound (post Ev.STW_MEAS_CHANGE 0 (measure (setRunning (if r.src = 0 then 3 else r.src) r.image t)));
        let t := (match sectOf r.image 1 with
          | some x => { t with stw := { t.stw with regions := planRegions x.recs } }
          | none => t);
        let t := (if (rsKeeps r.image s) then t else zeroContexts t);
        let rs := { r with portsEn := (enabledPorts s).filter (fun n => decide (n < 16)), sveEn := s.sh F.SVE_CTRL_EN == 1 };
        { t.wr 0 F.STW_STATUS_RS_STATE 3 with stw := { t.stw with rs := some rs, busy := r.blks } })) ∧
  (∀ (r : Restructure) (s : State),
      s.stw.rs = some r → s.sh F.STW_STATUS_RS_STATE = 3 → s.safe = false → r.blks = [] → imgRecs r.image = [] → sectsOf r.image = [] →
      exec .rsDone s = .next (
        let t := each (List.range 16) (fun n t => if r.portsEn.contains n then writePortCfg stewardFn n (regValue t .prt (0x100 + 0x40 * n) 0 ||| 1) t else t) s;
        let t := t.wr 0 F.SVE_CTRL_EN (b2n r.sveEn);
        post Ev.STW_RS_DONE 0 { t.wr 0 F.STW_STATUS_RS_STATE 0 with stw := { t.stw with rs := none, busy := [] } })) ∧
  (∀ (fn : Fn) (r : Restructure) (s : State),
      s.takes .stw stStw fn.val = true → s.secure fn.val = true → rsHoldsTable s = true → s.stw.rs = some r → s.frc < r.tick →
      exec (.stwAbort fn) s = .next (completeOk stStw (ownWin fn) (post Ev.STW_RS_FAILED 0 (rsDiscard 0 s)))) ∧
  (∀ (fn : Fn) (s : State),
      s.takes .stw stStw fn.val = true → s.secure fn.val = true → s.sh F.STW_STATUS_IMAGE ≠ 0 → s.sh F.STW_STATUS_SVN_MIN < s.sh F.STW_IMG_INFO →
      exec (.stwSvnCommit fn) s = .next (completeOk stStw (ownWin fn) (post Ev.STW_SVN_RAISED 0 (s.wr 0 F.STW_STATUS_SVN_MIN (s.sh F.STW_IMG_INFO)))))

/-- A supply reset, an accepted RESET_N assertion, a stuck pin's release, PERST_N and the reset commands each perform the chip reset of their source and
kind, or for PERST_N without PERST_MODE a link-down; the pin's release adds its hold time and lets Proofing begin; OPT_WRITE writes the copy not in
force; CLEAR_STUCK clears its bit. -/
def Obligations.ResetCommands : Prop :=
  (∀ (s : State),
      exec (.powerOnReset true) s = .next (chipReset 1 .power s) ∧ exec (.powerOnReset false) s = .next (chipReset 1 .power (batteryLost s))) ∧
  (∀ (s : State),
      s.rst.pin = false → s.sh F.RST_STATUS_STUCK_ACTIVE = 0 →
      exec .resetNAssert s = .next { chipReset 2 .cold s with rst := { (chipReset 2 .cold s).rst with pin := true } }) ∧
  (∀ (s : State),
      (s.rst.pin = true ∨ s.sh F.RST_STATUS_STUCK_ACTIVE = 1) →
      exec .resetNAssert s = .next s) ∧
  (∀ (heldMs : BitVec 32) (s : State),
      s.rst.pin = true →
      exec (.resetNRelease heldMs) s = .next ({ s with rst := { s.rst with pin := false } }.wr 0 F.RST_HOLD_MS (min 0xFFFFFFFF (s.sh F.RST_HOLD_MS + heldMs.toNat)))) ∧
  (∀ (heldMs : BitVec 32) (s : State),
      s.rst.pin = true → s.sh F.RST_BAT_STATUS_RSTPIN_STUCK_M = 1 →
      exec (.stuckRelease heldMs) s = .next ((chipReset 3 .cold (satAdd F.RST_HOLD_MS heldMs.toNat (s.wr 0 F.RST_BAT_STATUS_STUCK_RESET 1))).wr 0 F.RST_STATUS_STUCK_ACTIVE 1)) ∧
  (∀ (s : State),
      exec .stuckClearCount s = .next (s.wr 0 F.RST_STATUS_STUCK_ACTIVE 0)) ∧
  (∀ (s : State),
      s.rst.pin = false → s.pwr.deep ≤ 2 → s.sh F.RST_OPT_PERST_MODE = 1 →
      exec .perstN s = .next (chipReset 7 .warm s)) ∧
  (∀ (s : State),
      s.rst.pin = false → s.pwr.deep ≤ 2 → s.sh F.RST_OPT_PERST_MODE = 0 →
      exec .perstN s = exec .pcieLinkDown s) ∧
  (∀ (fn : Fn) (s : State),
      (s.takes .rst stRst fn.val = true ∨ s.safe = true) → s.secureSt fn.val = true →
      exec (.rstColdReset fn) s = .next (chipReset 4 .cold s)) ∧
  (∀ (fn : Fn) (s : State),
      (s.takes .rst stRst fn.val = true ∨ s.safe = true) → s.secureSt fn.val = true →
      exec (.rstWarmReset fn) s = .next (chipReset 5 .warm s)) ∧
  (∀ (fn : Fn) (s : State),
      s.takes .rst stRst fn.val = true → s.secureSt fn.val = true →
      exec (.rstOptWrite fn true) s = .next (post Ev.RST_OPT_WRITTEN 0 (completeOk stRst (ownWin fn) (flashWrite (if s.sh F.RST_STATUS_OPT_SRC = 1 then 0x1000 else 0) (optCopy s (s.sh F.RST_OPT_SEQ + 1)) s)))) ∧
  (∀ (fn : Fn) (s : State),
      s.takes .rst stRst fn.val = true → s.secureSt fn.val = true →
      exec (.rstClearStuck fn) s = .next (completeOk stRst (ownWin fn) (s.wr 0 F.RST_BAT_STATUS_STUCK_RESET 0)))

/-- While the device is out of reset and its doors are closed, the steps of Proofing follow one another: step 0 takes SIDE, checks the marker and counts
the source; step 1 passes; step 2 locks S0 and lets FRC run; step 3 takes the option bytes and starts the sweep; step 4 waits for it; step 5 settles
the root; step 6 boots an image; step 7 makes the measurement final and opens the doors; a timeout of step 3 goes on with the defaults, and one of
step 1 or 5 starts again. -/
def Obligations.ProofingCommands : Prop :=
  (∀ (p : ProofData) (s : State),
      s.rst.pin = false → s.sh F.RST_STATUS_PROOF_DONE = 0 → s.pwr.deep ≤ 2 → s.sh F.RST_STATUS_PROOF_STEP = 0 →
      exec (.proofingStepDone p) s = .next (nextStep (proof0 p.side s))) ∧
  (∀ (p : ProofData) (s : State),
      s.rst.pin = false → s.sh F.RST_STATUS_PROOF_DONE = 0 → s.pwr.deep ≤ 2 → s.sh F.RST_STATUS_PROOF_STEP = 1 →
      exec (.proofingStepDone p) s = .next (nextStep s)) ∧
  (∀ (p : ProofData) (s : State),
      s.rst.pin = false → s.sh F.RST_STATUS_PROOF_DONE = 0 → s.pwr.deep ≤ 2 → s.sh F.RST_STATUS_PROOF_STEP = 2 →
      exec (.proofingStepDone p) s = .next (nextStep (proof2 s))) ∧
  (∀ (p : ProofData) (s : State),
      s.rst.pin = false → s.sh F.RST_STATUS_PROOF_DONE = 0 → s.pwr.deep ≤ 2 → s.sh F.RST_STATUS_PROOF_STEP = 3 →
      exec (.proofingStepDone p) s = .next (nextStep (proof3 s))) ∧
  (∀ (p : ProofData) (s : State),
      s.rst.pin = false → s.sh F.RST_STATUS_PROOF_DONE = 0 → s.pwr.deep ≤ 2 → s.sh F.RST_STATUS_PROOF_STEP = 5 →
      exec (.proofingStepDone p) s = .next (nextStep (proof5 p.entropyOk p.rootOk s))) ∧
  (∀ (p : ProofData) (s : State),
      s.rst.pin = false → s.sh F.RST_STATUS_PROOF_DONE = 0 → s.pwr.deep ≤ 2 → s.sh F.RST_STATUS_PROOF_STEP = 4 → s.sh F.SHM_STATUS_SWEEP_DONE = 0 →
      exec (.proofingStepDone p) s = .next s) ∧
  (∀ (p : ProofData) (s : State),
      s.rst.pin = false → s.sh F.RST_STATUS_PROOF_DONE = 0 → s.pwr.deep ≤ 2 → s.sh F.RST_STATUS_PROOF_STEP = 4 → s.sh F.SHM_STATUS_SWEEP_DONE = 1 →
      exec (.proofingStepDone p) s = .next (s.wr 0 F.RST_STATUS_PROOF_STEP 5)) ∧
  (∀ (p : ProofData) (s : State),
      s.rst.pin = false → s.sh F.RST_STATUS_PROOF_DONE = 0 → s.pwr.deep ≤ 2 → s.sh F.RST_STATUS_PROOF_STEP = 6 →
      exec (.proofingStepDone p) s = .next (let t := bootImage p.readA p.readB s; if t.sh F.RST_STATUS_PROOF_STEP = 6 then nextStep t else t)) ∧
  (∀ (p : ProofData) (s : State),
      s.rst.pin = false → s.sh F.RST_STATUS_PROOF_DONE = 0 → s.pwr.deep ≤ 2 → 7 ≤ s.sh F.RST_STATUS_PROOF_STEP →
      exec (.proofingStepDone p) s = .next (proof7 s)) ∧
  (∀ (s : State),
      s.rst.pin = false → s.sh F.RST_STATUS_PROOF_DONE = 0 → s.pwr.deep ≤ 2 → s.sh F.RST_STATUS_PROOF_STEP = 3 →
      exec .proofingTimeout s = .next (raise 1216 0 0 (nextStep (startSweep (useOptions 0 (zeros 14 ++ oct [0x1D, 1] ++ zeros 48) s))))) ∧
  (∀ (s : State),
      s.rst.pin = false → s.sh F.RST_STATUS_PROOF_DONE = 0 → s.pwr.deep ≤ 2 → (s.sh F.RST_STATUS_PROOF_STEP = 1 ∨ s.sh F.RST_STATUS_PROOF_STEP = 5) →
      exec .proofingTimeout s = .next ((satAdd F.RST_CNT_PROOF_PROOF_FAIL 1 s).wr 0 F.RST_STATUS_PROOF_STEP 0))

/-- A decision of the governor while no deep state is on stops engines only where P1 is allowed, and none while P0 is forced; a request to a stopped
engine restarts it; ENTER goes to P2, P3 or P4 where nothing speaks against it, and names the first that does; an enabled wake source ends P2
without a reset and P3 or P4 with its own. -/
def Obligations.PowerCommands : Prop :=
  (∀ (idle : IdleEngines) (s : State),
      s.sh F.RST_STATUS_PROOF_DONE = 1 → s.pwr.deep = 0 →
      exec (.governorDecision idle) s = .next (
        let pick := (s.free 17).1; let forced := forcedP0 s; let p1 := !forced && decide (26 ≤ leastTol s) && bitOf pick 16;
        let t := (s.free 17).2.wr 0 F.PWR_STATUS_FORCED (b2n forced);
        let t := setPwrState (b2n p1) (setGated (if p1 then stoppedEng t idle else []) t);
        each gateable tryGate (each (List.range 16) (fun g t => t.wr 0 (F.SHM_GRP_STATUS_RETENTION g)
          (b2n (!forced && decide (2000 ≤ leastTol s) && mayRetain t g && (t.sh (F.SHM_GRP_STATUS_RETENTION g) == 1 || bitOf pick g)))) t))) ∧
  (∀ (k : EngKind) (s : State),
      gatedEng s k ≠ 0 →
      exec (.engineWake k) s = .next (setGated (s.pwr.gated.map fun e => if e.1 == k then (e.1, e.2 - 1) else e) s)) ∧
  (∀ (k : EngKind) (s : State),
      gatedEng s k = 0 →
      exec (.engineWake k) s = .next s) ∧
  (∀ (fn : Fn) (s : State),
      s.takes .pwr stPwr fn.val = true → s.secureSt fn.val = true → enterCause s (s.rd (fn.val + 1) F.PWR_ARG) = none →
      exec (.pwrEnter fn) s = .next (enterDeep (s.rd (fn.val + 1) F.PWR_ARG) (completeOk stPwr (ownWin fn) s))) ∧
  (∀ (fn : Fn) (c : Nat) (s : State),
      s.takes .pwr stPwr fn.val = true → s.secureSt fn.val = true → enterCause s (s.rd (fn.val + 1) F.PWR_ARG) = some c →
      exec (.pwrEnter fn) s = .next (refuse stPwr (ownWin fn) c s)) ∧
  (∀ (source : Fin 5) (s : State),
      s.pwr.deep = 3 → source.val ≠ 4 → bitOf (s.sh F.PWR_WAKE_CFG) source.val = true →
      exec (.wakeEvent source) s = .next (chipReset 8 .wake3 ((s.wr 0 F.PWR_WAKE_CAUSE_CAUSE (source.val + 1)).wr 0 F.PWR_WAKE_CAUSE_FROM s.pwr.deep))) ∧
  (∀ (source : Fin 5) (s : State),
      s.pwr.deep = 4 → source.val ≠ 4 → bitOf (s.sh F.PWR_WAKE_CFG) source.val = true →
      exec (.wakeEvent source) s = .next (chipReset 9 .power ((s.wr 0 F.PWR_WAKE_CAUSE_CAUSE (source.val + 1)).wr 0 F.PWR_WAKE_CAUSE_FROM s.pwr.deep))) ∧
  (∀ (source : Fin 5) (s : State),
      s.pwr.deep = 2 → bitOf (s.sh F.PWR_WAKE_CFG) source.val = true → (source.val ≠ 4 ∨ s.rd64 0 F.PWR_WAKE_FRC_LO F.PWR_WAKE_FRC_HI ≤ s.frc) →
      exec (.wakeEvent source) s = .next (
        let t := ((s.wr 0 F.PWR_WAKE_CAUSE_CAUSE (source.val + 1)).wr 0 F.PWR_WAKE_CAUSE_FROM s.pwr.deep); let t := { t with pwr := { t.pwr with deep := 0, ports := [] } };
        let t := mateStep .other (syncClaim (each s.pwr.ports portOn t));
        let t := (if t.sh F.MATE_CTRL_MATE_EN = 0 ∧ t.safe = false then setSharedDrive true t else t);
        post Ev.PWR_WOKE (source.val + 1) (setPwrState 0 t))) ∧
  (∀ (source : Fin 5) (s : State),
      (s.pwr.deep = 0 ∨ bitOf (s.sh F.PWR_WAKE_CFG) source.val = false) →
      exec (.wakeEvent source) s = .next s)

/-- The hits of a cycle whose sources exist are taken; a mismatch of the three copies hits source 1344; a block that misses its READY deadline closes
its shadow and hits as a primary fault; losing SCLK is a hit of CLK_FALLBACK and its return none; the oldest record goes to the ring while that is
enabled and has room. -/
def Obligations.CollectorCommands : Prop :=
  (∀ (sources : List FltHit) (s : State),
      hitsOf sources ≠ [] →
      exec (.faultHit sources) s = .next (hits (hitsOf sources) s)) ∧
  (∀ (sources : List FltHit) (s : State),
      hitsOf sources = [] →
      exec (.faultHit sources) s = .next s) ∧
  (∀ (i : BitVec 16) (s : State),
      exec (.tmrCompare (some i)) s = .next (raise 1344 i.toNat 0 s) ∧ exec (.tmrCompare none) s = .next s) ∧
  (∀ (block : Fin 24) (b : Blk) (tm : ReadyTimer) (s : State),
      Blk.ofCode block.val = some b → tget s.flt.timers b.code = some tm → tm.fired = false → tm.deadline ≤ s.frc → s.sh (F.FLT_BLK_STATUS_DOOR
      b.code) ≠ 0 →
      exec (.readyTimeout block) s = .next (finish .flt fltOpReset b.code Code.blockAbsent 0 (hits [{ src := 64 * b.code + 48, primary := true }]
        (closeShadow b { s with flt := { s.flt with timers := tset s.flt.timers b.code { tm with fired := true } } })))) ∧
  (∀ (s : State),
      s.sh F.FLT_STATUS_RC_CLOCK = 0 →
      exec .sclkStop s = .next (raise 1346 0 0 (s.wr 0 F.FLT_STATUS_RC_CLOCK 1))) ∧
  (∀ (s : State),
      exec .sclkReturn s = .next (s.wr 0 F.FLT_STATUS_RC_CLOCK 0)) ∧
  (∀ (r : FltRec) (l : List FltRec) (s : State),
      s.flt.fifo = r :: l → s.sh F.FLT_LOG_CFG_EN = 1 → (wsub 32 (s.sh F.FLT_LOG_WR_IDX) (s.sh F.FLT_LOG_RD_IDX)) < (2 ^ s.sh
      F.FLT_LOG_CFG_LOG2_RECORDS) → s.doorOpen .shm = true → s.sh F.FLT_LOG_CFG_WM = 0 →
      exec .fltLogWrite s = .next (let t := { State.shmWrite (s.sh F.FLT_LOG_BASE / (32 * (2 ^ s.sh F.FLT_LOG_CFG_LOG2_RECORDS)) * (32 * (2 ^ s.sh F.FLT_LOG_CFG_LOG2_RECORDS)) + 32 * ((s.sh F.FLT_LOG_WR_IDX) % (2 ^ s.sh F.FLT_LOG_CFG_LOG2_RECORDS))) r.octets s with flt := { s.flt with fifo := l } };
        (t.wr 0 F.FLT_STATUS_FIFO l.length).wr 0 F.FLT_LOG_WR_IDX ((s.sh F.FLT_LOG_WR_IDX) + 1)))

/-- SRC_WRITE configures an existing source other than 1344 while the collector is not locked and the configuration keeps the rules, and names the first
that fails; SRC_READ shows a source's configuration; BLOCK_RESET begins the reset of a block that may be reset, and completes with it; INJECT is
taken in DEVELOP with the real hits of its cycle; LOCK locks. -/
def Obligations.FaultWindowCommands : Prop :=
  (∀ (fn : Fn) (s : State),
      s.takes .flt stFlt fn.val = true → s.secureSt fn.val = true → s.sh F.FLT_STATUS_LOCKED = 0 → (s.rd (fn.val + 1) F.FLT_SRC_SEL) ≠ 1344 → srcDesc
      (s.rd (fn.val + 1) F.FLT_SRC_SEL) ≠ none → cfgBreaks (s.rd (fn.val + 1) F.FLT_SRC_SEL) (s.rd (fn.val + 1) F.FLT_SRC_CFG_EN + 2 * s.rd (fn.val +
      1) F.FLT_SRC_CFG_SEV + 8 * s.rd (fn.val + 1) F.FLT_SRC_CFG_REACTION) = false →
      exec (.fltSrcWrite fn) s = .next (completeOk stFlt (ownWin fn) ({ s with flt := { s.flt with cfg := if (s.rd (fn.val + 1) F.FLT_SRC_CFG_EN + 2 * s.rd (fn.val + 1) F.FLT_SRC_CFG_SEV + 8 * s.rd (fn.val + 1) F.FLT_SRC_CFG_REACTION) = srcDefault (s.rd (fn.val + 1) F.FLT_SRC_SEL) then tdel s.flt.cfg (s.rd (fn.val + 1) F.FLT_SRC_SEL) else tset s.flt.cfg (s.rd (fn.val + 1) F.FLT_SRC_SEL) (s.rd (fn.val + 1) F.FLT_SRC_CFG_EN + 2 * s.rd (fn.val + 1) F.FLT_SRC_CFG_SEV + 8 * s.rd (fn.val + 1) F.FLT_SRC_CFG_REACTION) } }))) ∧
  (∀ (fn : Fn) (s : State),
      s.takes .flt stFlt fn.val = true → s.secureSt fn.val = true → s.sh F.FLT_STATUS_LOCKED = 0 → (s.rd (fn.val + 1) F.FLT_SRC_SEL) ≠ 1344 → srcDesc
      (s.rd (fn.val + 1) F.FLT_SRC_SEL) ≠ none → cfgBreaks (s.rd (fn.val + 1) F.FLT_SRC_SEL) (s.rd (fn.val + 1) F.FLT_SRC_CFG_EN + 2 * s.rd (fn.val +
      1) F.FLT_SRC_CFG_SEV + 8 * s.rd (fn.val + 1) F.FLT_SRC_CFG_REACTION) = true →
      exec (.fltSrcWrite fn) s = .next (refuse stFlt (ownWin fn) FltCause.rule s)) ∧
  (∀ (fn : Fn) (s : State),
      s.takes .flt stFlt fn.val = true → s.secureSt fn.val = true → s.sh F.FLT_STATUS_LOCKED = 1 →
      exec (.fltSrcWrite fn) s = .next (refuse stFlt (ownWin fn) FltCause.locked s)) ∧
  (∀ (fn : Fn) (s : State),
      s.takes .flt stFlt fn.val = true → (tenant0 fn.val = true ∨ s.secureSt fn.val = true) →
      ∃ t, exec (.fltSrcRead fn) s = .next t ∧ t.rd (fn.val + 1) F.FLT_SRC_CFG_EN = s.srcCfg (s.rd (fn.val + 1) F.FLT_SRC_SEL) % 2 ∧ t.rd (fn.val + 1) F.FLT_SRC_CFG_SEV = bits (s.srcCfg (s.rd (fn.val + 1) F.FLT_SRC_SEL)) 1 2 ∧
        t.rd (fn.val + 1) F.FLT_SRC_CFG_REACTION = bits (s.srcCfg (s.rd (fn.val + 1) F.FLT_SRC_SEL)) 3 7 ∧ t.rd (fn.val + 1) F.FLT_CMD_STATUS_CODE = Code.ok ∧ onlyCopy (fn.val + 1) s t) ∧
  (∀ (fn : Fn) (b : Blk) (s : State),
      s.takes .flt stFlt fn.val = true → s.secureSt fn.val = true → Blk.ofCode (s.rd (fn.val + 1) F.FLT_ARG_BLOCK) = some b → neverReset b = false →
      s.gated b.code = false →
      exec (.fltBlockReset fn) s = .next (orderBlockReset b none (accept .flt stFlt (ownWin fn) fltOpReset b.code s))) ∧
  (∀ (fn : Fn) (real : List FltHit) (s : State),
      s.takes .flt stFlt fn.val = true → s.secureSt fn.val = true → s.develop = true → srcDesc (s.rd (fn.val + 1) F.FLT_SRC_SEL) ≠ none →
      exec (.fltInject fn real) s = .next (hits (((hitsOf real).filter fun x => decide (x.src ≤ (s.rd (fn.val + 1) F.FLT_SRC_SEL))) ++
          { src := (s.rd (fn.val + 1) F.FLT_SRC_SEL), injected := true, dry := s.rd (fn.val + 1) F.FLT_ARG_MODE == 0 && (s.rd (fn.val + 1) F.FLT_SRC_SEL) != 1344 } :: (hitsOf real).filter fun x => decide ((s.rd (fn.val + 1) F.FLT_SRC_SEL) < x.src))
        (completeOk stFlt (ownWin fn) s))) ∧
  (∀ (fn : Fn) (s : State),
      s.takes .flt stFlt fn.val = true → s.secureSt fn.val = true →
      exec (.fltLock fn) s = .next (completeOk stFlt (ownWin fn) (s.wr 0 F.FLT_STATUS_LOCKED 1)))

/-- Reading PMC_CNT_LO latches a counter; writing a window counter's configuration, object or length stores it and starts the counter anew; reading its
value latches it; a boundary that has come ends a window, and WIN_DONE is posted at most once a millisecond; a snapshot is accepted for an owned,
aligned buffer, takes every counter at its tick and then writes the buffer and completes. -/
def Obligations.CounterCommands : Prop :=
  (∀ (fn : Fn) (s : State),
      exec (.pmcCntLoRead fn) s = .next ((s.wr (fn.val + 1) F.PMC_CNT_LO (tgetD s.pmc.cnt (s.rd (fn.val + 1) F.PMC_CNT_SEL) 0)).wr (fn.val + 1) F.PMC_CNT_HI ((tgetD s.pmc.cnt (s.rd (fn.val + 1) F.PMC_CNT_SEL) 0) / 2 ^ 32))) ∧
  (∀ (fn : Fn) (n : Fin 128) (value : BitVec 32) (s : State),
      s.takesWrite .pmc fn.val = true → s.secureSt fn.val = true →
      exec (.pmcWinCfgWrite fn n 0 value) s = .next (winRestart n.val ((s.wr 0 (F.PMC_WIN_CFG_MODE n.val) (if value.toNat % 4 = 3 then 0 else value.toNat % 4)).wr
          0 (F.PMC_WIN_CFG_EVENT n.val) (bits value.toNat 16 11))) ∧
        exec (.pmcWinCfgWrite fn n 1 value) s = .next (winRestart n.val ((s.wr 0 (F.PMC_WIN_OBJ_OBJ_VAL n.val) value.toNat).wr
          0 (F.PMC_WIN_OBJ_OBJ_MASK n.val) (value.toNat / 2 ^ 16))) ∧
        exec (.pmcWinCfgWrite fn n 2 value) s = .next (winRestart n.val (s.wr 0 (F.PMC_WIN_LEN n.val) (max value.toNat 15625)))) ∧
  (∀ (fn : Fn) (n : Fin 128) (s : State),
      exec (.pmcWinValLoRead fn n) s = .next (((s.wr 0 (F.PMC_WIN_VAL_LO n.val) (tgetD s.pmc.wins n.val {}).value).wr
        (fn.val + 1) (F.PMC_WIN_VAL_HI_VALUE n.val) ((tgetD s.pmc.wins n.val {}).value / 2 ^ 32)).wr (fn.val + 1) (F.PMC_WIN_VAL_HI_WIN_SEQ n.val) (tgetD s.pmc.wins n.val {}).seq)) ∧
  (∀ (s : State),
      s.pmc.wins.all (fun e => !(winDue s e.1 e.2 && e.2.started)) = true →
      exec .pmcWindowEnd s = .next { s with pmc := { s.pmc with wins := tmap (winEnd s) s.pmc.wins } }) ∧
  (∀ (e : Nat × WinCtr) (l : List (Nat × WinCtr)) (s : State),
      s.pmc.wins.filter (fun e => winDue s e.1 e.2 && e.2.started) = e :: l → s.pmc.winDoneAt = none →
      exec .pmcWindowEnd s = .next (post Ev.PMC_WIN_DONE e.1 { s with pmc := { s.pmc with wins := tmap (winEnd s) s.pmc.wins, winDoneAt := some s.frc } })) ∧
  (∀ (fn : Fn) (frcTime : Bool) (s : State),
      s.takes .pmc stPmc fn.val = true → s.pmc.snap = none → (s.rd64 (fn.val + 1) F.PMC_SNAP_ADDR_LO F.PMC_SNAP_ADDR_HI) % 64 = 0 → ownsBuf s fn.val
      (s.rd64 (fn.val + 1) F.PMC_SNAP_ADDR_LO F.PMC_SNAP_ADDR_HI) snapLen = true → (frcTime = false ∨ s.frc + 64 ≤ (s.rd64 (fn.val + 1)
      F.PMC_SNAP_TIME_LO F.PMC_SNAP_TIME_HI)) →
      exec (.pmcSnapshot fn frcTime) s = .next (let t := (accept .pmc stPmc (ownWin fn) 1 0 s).wr 0 F.PMC_STATUS_SNAP_BUSY 1;
        { t with pmc := { t.pmc with snap := some ⟨(ownWin fn), if frcTime then (s.rd64 (fn.val + 1) F.PMC_SNAP_TIME_LO F.PMC_SNAP_TIME_HI) else s.frc + 64, (s.rd64 (fn.val + 1) F.PMC_SNAP_ADDR_LO F.PMC_SNAP_ADDR_HI), none⟩ } })) ∧
  (∀ (p : PmcSnap) (s : State),
      s.pmc.snap = some p → p.taken = none → p.tick ≤ s.frc →
      exec .pmcSnapshotTick s = .next { s with pmc := { s.pmc with snap := some { p with taken := some (s.pmc.cnt, s.pmc.wins) }, snaps := (s.pmc.snaps + 1) % 2 ^ 32 } }) ∧
  (∀ (p : PmcSnap) (c : Tbl Nat) (w : Tbl WinCtr) (s : State),
      s.pmc.snap = some p → p.taken = some (c, w) →
      exec .pmcSnapshotDone s = .next (let t := dmaWrite p.win.fn p.addr (snapOctets s.pmc.snaps (s.sh F.RST_FRC_RUN) p.tick c w) s;
        let t := (t.wr 0 F.PMC_STATUS_SNAP_BUSY 0).wr 0 F.PMC_STATUS_SNAP_SEQ t.pmc.snaps;
        post Ev.PMC_SNAP_DONE 0 (finish .pmc 1 0 Code.ok 0 { t with pmc := { t.pmc with snap := none } })))

/-- MGP_CFG is taken whole while EN is 0 and only EN while it is 1; the link comes up at the reported or configured speed and goes down otherwise; an
MDIO frame starts unless one runs, and a read leaves its data; a good frame is counted and delivered, a short one counted; a posted descriptor that
passes is sent or, after late or 16 collisions, discarded; a matching wake pattern is noted and wakes the device. -/
def Obligations.ManagementPortCommands : Prop :=
  (∀ (fn : Fn) (value : BitVec 32) (s : State),
      s.takesWrite .mgp fn.val = true → s.secureSt fn.val = true → s.sh F.MGP_CFG_EN = 0 → (bitOf value.toNat 0 = false ∨ bitOf value.toNat 4 = true ∨
      (if bits value.toNat 2 2 = 3 then 2 else bits value.toNat 2 2) ≠ 2) →
      exec (.mgpEn fn value) s = .next ((((((s.wr 0 F.MGP_CFG_IFACE (bits value.toNat 1 1)).wr 0 F.MGP_CFG_SPEED (if bits value.toNat 2 2 = 3 then 2 else bits value.toNat 2 2)).wr 0 F.MGP_CFG_DUPLEX (bits value.toNat 4 1)).wr
        0 F.MGP_CFG_AN_EN (bits value.toNat 5 1)).wr 0 F.MGP_CFG_ERR_DELIVER (bits value.toNat 6 1)).wr 0 F.MGP_CFG_EN (bits value.toNat 0 1))) ∧
  (∀ (speed : Fin 3) (full : Bool) (s : State),
      s.doorOpen .mgp = true →
      exec (.mgpLinkChange false speed full) s = .next (mgpDown s)) ∧
  (∀ (speed : Fin 3) (full : Bool) (s : State),
      s.doorOpen .mgp = true → s.sh F.MGP_CFG_AN_EN = 1 → (speed.val ≠ 2 ∨ full = true) → s.sh F.MGP_STATUS_LINK_UP = 0 →
      exec (.mgpLinkChange true speed full) s = .next (
        let t := ((s.wr 0 F.MGP_STATUS_SPEED_ACT speed.val).wr 0 F.MGP_STATUS_FULL_ACT (b2n full)).wr 0 F.MGP_STATUS_LINK_UP 1;
        calLinkUp 22 (post Ev.MGP_LINK_UP 0 (t.wr 0 F.MGP_STATUS_LINK_GEN (s.sh F.MGP_STATUS_LINK_GEN + 1))))) ∧
  (∀ (fn : Fn) (value : BitVec 32) (s : State),
      s.takesWrite .mgp fn.val = true → s.secureSt fn.val = true → bitOf value.toNat 11 = true → s.sh F.MGP_MDIO_BUSY = 0 →
      exec (.mdioStart fn value) s = .next { ((((s.wr 0 F.MGP_MDIO_REG value.toNat).wr 0 F.MGP_MDIO_PHYAD (bits value.toNat 5 5)).wr 0 F.MGP_MDIO_WRITE (bits value.toNat 10 1)).wr 0 F.MGP_MDIO_DATA (bits value.toNat 16 16)).wr 0 F.MGP_MDIO_BUSY 1 with mgp := { s.mgp with mdio := some value.toNat } }) ∧
  (∀ (data : BitVec 16) (v : Nat) (s : State),
      s.mgp.mdio = some v → bitOf v 10 = false →
      exec (.mdioDone data) s = .next ({ s.wr 0 F.MGP_MDIO_BUSY 0 with mgp := { s.mgp with mdio := none } }.wr 0 F.MGP_MDIO_DATA data.toNat)) ∧
  (∀ (tick : BitVec 64) (phase : Fin 32) (frame : List Byte) (s : State),
      s.doorOpen .mgp = true → s.sh F.MGP_CFG_EN = 1 → s.sh F.MGP_STATUS_LINK_UP = 1 → 14 ≤ frame.length → mgpFlags s frame false = 0 →
      exec (.mgpFrameRx tick phase frame false) s = .next (mgpDeliver (frame.take (frame.length - 4)) frame.length 0 (32 * tick.toNat + phase.val) (count Ct.MGP_RX_FRAMES 0 1 (count Ct.MGP_RX_BYTES 0 (frame.length + 20) s)))) ∧
  (∀ (tick : BitVec 64) (phase : Fin 32) (frame : List Byte) (codeErr : Bool) (s : State),
      s.doorOpen .mgp = true → s.sh F.MGP_CFG_EN = 1 → s.sh F.MGP_STATUS_LINK_UP = 1 → frame.length < 14 →
      exec (.mgpFrameRx tick phase frame codeErr) s = .next (count Ct.MGP_RUNT 0 1 (count Ct.MGP_RX_FRAMES 0 1 (count Ct.MGP_RX_BYTES 0 (frame.length + 20) s)))) ∧
  (∀ (tick : BitVec 64) (phase : Fin 32) (collisions : Fin 17) (late deferred : Bool) (s : State),
      s.doorOpen .mgp = true → s.sh F.MGP_CFG_EN = 1 → s.sh F.MGP_STATUS_LINK_UP = 1 → s.safe = false → mgpReady s 1 = true → (actOps (slice
      (s.memRead (mgpOwner s 1) (mgpSq s 1 + 32 * ((s.sh (F.MGP_SQ_HEAD 1)) % mgpEntries s 1)) 32) 16 16)).any (fun e => e.1 != 0) = false → (ofLe
      (slice (s.memRead (mgpOwner s 1) (mgpSq s 1 + 32 * ((s.sh (F.MGP_SQ_HEAD 1)) % mgpEntries s 1)) 32) 8 2) < 14 ∨ s.sh F.MGP_FRAME < ofLe (slice
      (s.memRead (mgpOwner s 1) (mgpSq s 1 + 32 * ((s.sh (F.MGP_SQ_HEAD 1)) % mgpEntries s 1)) 32) 8 2) + 4) →
      exec (.mgpFrameTx tick phase collisions late deferred) s = .next (mgpTxDone Code.discarded TxCause.format (s.sh (F.MGP_SQ_HEAD 1)) 0 (s.wr 0 (F.MGP_SQ_HEAD 1) ((s.sh (F.MGP_SQ_HEAD 1)) + 1)))) ∧
  (∀ (tick : BitVec 64) (phase : Fin 32) (collisions : Fin 17) (late deferred : Bool) (s : State),
      s.doorOpen .mgp = true → s.sh F.MGP_CFG_EN = 1 → s.sh F.MGP_STATUS_LINK_UP = 1 → s.safe = false → mgpReady s 1 = true → s.sh
      F.MGP_STATUS_FULL_ACT = 1 → (actOps (slice (s.memRead (mgpOwner s 1) (mgpSq s 1 + 32 * ((s.sh (F.MGP_SQ_HEAD 1)) % mgpEntries s 1)) 32) 16
      16)).any (fun e => e.1 != 0) = false → 14 ≤ (ofLe (slice (s.memRead (mgpOwner s 1) (mgpSq s 1 + 32 * ((s.sh (F.MGP_SQ_HEAD 1)) % mgpEntries s
      1)) 32) 8 2)) → (ofLe (slice (s.memRead (mgpOwner s 1) (mgpSq s 1 + 32 * ((s.sh (F.MGP_SQ_HEAD 1)) % mgpEntries s 1)) 32) 8 2)) + 4 ≤ s.sh
      F.MGP_FRAME → ownsBuf s (mgpOwner s 1) (ofLe (slice (s.memRead (mgpOwner s 1) (mgpSq s 1 + 32 * ((s.sh (F.MGP_SQ_HEAD 1)) % mgpEntries s 1)) 32)
      0 8)) (ofLe (slice (s.memRead (mgpOwner s 1) (mgpSq s 1 + 32 * ((s.sh (F.MGP_SQ_HEAD 1)) % mgpEntries s 1)) 32) 8 2)) = true → bufCode s (ofLe
      (slice (s.memRead (mgpOwner s 1) (mgpSq s 1 + 32 * ((s.sh (F.MGP_SQ_HEAD 1)) % mgpEntries s 1)) 32) 0 8)) (ofLe (slice (s.memRead (mgpOwner s 1)
      (mgpSq s 1 + 32 * ((s.sh (F.MGP_SQ_HEAD 1)) % mgpEntries s 1)) 32) 8 2)) ≠ Code.poisoned →
      exec (.mgpFrameTx tick phase collisions late deferred) s = .next (mgpSend (slice (s.memRead (mgpOwner s 1) (mgpSq s 1 + 32 * ((s.sh (F.MGP_SQ_HEAD 1)) % mgpEntries s 1)) 32) 16 16) (max 64 ((ofLe (slice (s.memRead (mgpOwner s 1) (mgpSq s 1 + 32 * ((s.sh (F.MGP_SQ_HEAD 1)) % mgpEntries s 1)) 32) 8 2)) + 4)) (s.sh (F.MGP_SQ_HEAD 1)) (32 * tick.toNat + phase.val) 0 false (s.wr 0 (F.MGP_SQ_HEAD 1) ((s.sh (F.MGP_SQ_HEAD 1)) + 1)))) ∧
  (∀ (frame : List Byte) (s : State),
      wakeHits s frame = [] →
      exec (.mgpWakeMatch frame) s = .next s) ∧
  (∀ (frame : List Byte) (p : Nat) (l : List Nat) (s : State),
      wakeHits s frame = p :: l → (s.pwr.deep = 0 ∨ bitOf (s.sh F.PWR_WAKE_CFG) 1 = false) →
      exec (.mgpWakeMatch frame) s = .next (post Ev.MGP_WAKE p ((s.wr 0 F.MGP_WAKE_STATUS_LAST p).wr
        0 F.MGP_WAKE_STATUS_MATCHES (s.sh F.MGP_WAKE_STATUS_MATCHES + 1))))

/-- While a window's BUSY is 1, every command written to that window is discarded: outside the safe state CMD_OVERRUN is posted to its function and
nothing else happens, and in the safe state nothing happens at all. -/
def Obligations.BusyWindowsKeepTheirCommand : Prop :=
  (∀ (fn : Fn) (offset : Bool) (frcTime : Bool) (kind : Fin 4) (slot : Fin 8) (s : State),
      s.safe = false → s.rd (fn.val + 1) stVc.busy = 1 →
      ∀ c ∈ ([Instr.vcSet fn offset frcTime, .vcAbort fn, .vcRate fn frcTime, .vcAdjust fn frcTime, .vcSchedAdd fn kind, .vcSchedCancel fn slot, .vcSchedClear fn, .vcRetire fn frcTime, .vcResetClock fn] : List Instr), exec c s = .next (postTo Ev.TB_CMD_OVERRUN fn.val 0 s)) ∧
  (∀ (fn : Fn) (offset : Bool) (frcTime : Bool) (kind : Fin 4) (slot : Fin 8) (s : State),
      s.safe = true → s.rd (fn.val + 1) stVc.busy = 1 →
      ∀ c ∈ ([Instr.vcSet fn offset frcTime, .vcAbort fn, .vcRate fn frcTime, .vcAdjust fn frcTime, .vcSchedAdd fn kind, .vcSchedCancel fn slot, .vcSchedClear fn, .vcRetire fn frcTime, .vcResetClock fn] : List Instr), exec c s = .next s) ∧
  (∀ (fn : Fn) (ack : Bool) (s : State),
      s.safe = false → s.rd (fn.val + 1) stSrv.busy = 1 →
      ∀ c ∈ ([Instr.phaseStep fn, .acceptOffset fn, .nougatReset fn, .atomTuneNow fn ack] : List Instr), exec c s = .next (postTo Ev.SRV_CMD_OVERRUN fn.val 0 s)) ∧
  (∀ (fn : Fn) (ack : Bool) (s : State),
      s.safe = true → s.rd (fn.val + 1) stSrv.busy = 1 →
      ∀ c ∈ ([Instr.phaseStep fn, .acceptOffset fn, .nougatReset fn, .atomTuneNow fn ack] : List Instr), exec c s = .next s) ∧
  (∀ (fn : Fn) (s : State),
      s.safe = false → s.rd (fn.val + 1) stAcq.busy = 1 →
      ∀ c ∈ ([Instr.gnAcqSubmit fn, .gnAcqAbortAll fn] : List Instr), exec c s = .next (postTo Ev.GN_CMD_OVERRUN fn.val 0 s)) ∧
  (∀ (fn : Fn) (s : State),
      s.safe = true → s.rd (fn.val + 1) stAcq.busy = 1 →
      ∀ c ∈ ([Instr.gnAcqSubmit fn, .gnAcqAbortAll fn] : List Instr), exec c s = .next s) ∧
  (∀ (fn : Fn) (s : State),
      s.safe = false → s.rd (fn.val + 1) stGnCh.busy = 1 →
      ∀ c ∈ ([Instr.gnChStart fn, .gnChStop fn, .gnChSetTow fn] : List Instr), exec c s = .next (postTo Ev.GN_CMD_OVERRUN fn.val 0 s)) ∧
  (∀ (fn : Fn) (s : State),
      s.safe = true → s.rd (fn.val + 1) stGnCh.busy = 1 →
      ∀ c ∈ ([Instr.gnChStart fn, .gnChStop fn, .gnChSetTow fn] : List Instr), exec c s = .next s) ∧
  (∀ (fn : Fn) (s : State),
      s.safe = false → s.rd (fn.val + 1) stCls.busy = 1 →
      ∀ c ∈ ([Instr.clsRead fn] : List Instr), exec c s = .next (postTo Ev.SVE_CMD_OVERRUN fn.val 0 s)) ∧
  (∀ (fn : Fn) (s : State),
      s.safe = true → s.rd (fn.val + 1) stCls.busy = 1 →
      ∀ c ∈ ([Instr.clsRead fn] : List Instr), exec c s = .next s) ∧
  (∀ (fn : Fn) (types : Fin 8) (s : State),
      s.safe = false → s.rd (fn.val + 1) stCtx.busy = 1 →
      ∀ c ∈ ([Instr.ctxRead fn, .ctxInstall fn, .ctxRelease fn, .ctxCancelGrant fn types] : List Instr), exec c s = .next (postTo Ev.SVE_CMD_OVERRUN fn.val 0 s)) ∧
  (∀ (fn : Fn) (types : Fin 8) (s : State),
      s.safe = true → s.rd (fn.val + 1) stCtx.busy = 1 →
      ∀ c ∈ ([Instr.ctxRead fn, .ctxInstall fn, .ctxRelease fn, .ctxCancelGrant fn types] : List Instr), exec c s = .next s) ∧
  (∀ (fn : Fn) (frcTime : Bool) (s : State),
      s.safe = false → s.rd (fn.val + 1) stSa.busy = 1 →
      ∀ c ∈ ([Instr.saWrite fn, .saRead fn, .saLoadKey fn, .saUnloadKey fn, .saRotate fn frcTime, .saInvalidate fn] : List Instr), exec c s = .next (postTo Ev.SEC_CMD_OVERRUN fn.val 0 s)) ∧
  (∀ (fn : Fn) (frcTime : Bool) (s : State),
      s.safe = true → s.rd (fn.val + 1) stSa.busy = 1 →
      ∀ c ∈ ([Instr.saWrite fn, .saRead fn, .saLoadKey fn, .saUnloadKey fn, .saRotate fn frcTime, .saInvalidate fn] : List Instr), exec c s = .next s) ∧
  (∀ (fn : Fn) (count : Fin 16) (s : State),
      s.safe = false → s.rd (fn.val + 1) stNts.busy = 1 →
      ∀ c ∈ ([Instr.ntsLoad fn, .ntsMakeCurrent fn, .ntsUnload fn, .ntsMint fn count, .ntsRead fn] : List Instr), exec c s = .next (postTo Ev.SEC_CMD_OVERRUN fn.val 0 s)) ∧
  (∀ (fn : Fn) (count : Fin 16) (s : State),
      s.safe = true → s.rd (fn.val + 1) stNts.busy = 1 →
      ∀ c ∈ ([Instr.ntsLoad fn, .ntsMakeCurrent fn, .ntsUnload fn, .ntsMint fn count, .ntsRead fn] : List Instr), exec c s = .next s) ∧
  (∀ (fn : Fn) (clearMax : Bool) (s : State),
      s.safe = false → s.rd (fn.val + 1) stQ.busy = 1 →
      ∀ c ∈ ([Instr.qWrite fn, .qRead fn clearMax, .qFlush fn] : List Instr), exec c s = .next (postTo Ev.SCH_CMD_OVERRUN fn.val 0 s)) ∧
  (∀ (fn : Fn) (clearMax : Bool) (s : State),
      s.safe = true → s.rd (fn.val + 1) stQ.busy = 1 →
      ∀ c ∈ ([Instr.qWrite fn, .qRead fn clearMax, .qFlush fn] : List Instr), exec c s = .next s) ∧
  (∀ (fn : Fn) (s : State),
      s.safe = false → s.rd (fn.val + 1) stPol.busy = 1 →
      ∀ c ∈ ([Instr.polWrite fn, .polRead fn, .polRefill fn, .polClearCounts fn] : List Instr), exec c s = .next (postTo Ev.POL_CMD_OVERRUN fn.val 0 s)) ∧
  (∀ (fn : Fn) (s : State),
      s.safe = true → s.rd (fn.val + 1) stPol.busy = 1 →
      ∀ c ∈ ([Instr.polWrite fn, .polRead fn, .polRefill fn, .polClearCounts fn] : List Instr), exec c s = .next s) ∧
  (∀ (fn : Fn) (stored : Bool) (s : State),
      s.safe = false → s.rd (fn.val + 1) stKs.busy = 1 →
      ∀ c ∈ ([Instr.ksReadAttr fn, .ksGenerate fn stored, .ksDerive fn stored, .ksRestrict fn stored, .ksWipe fn stored, .ksEnvApply fn stored, .ksIdStatement fn, .ksEkCert fn, .ksAuthSet fn stored, .ksLockAuth fn, .ksProvision fn, .ksDeploy fn, .ksReturn fn] : List Instr), exec c s = .next (postTo Ev.KS_CMD_OVERRUN fn.val 0 s)) ∧
  (∀ (fn : Fn) (stored : Bool) (s : State),
      s.safe = true → s.rd (fn.val + 1) stKs.busy = 1 →
      ∀ c ∈ ([Instr.ksReadAttr fn, .ksGenerate fn stored, .ksDerive fn stored, .ksRestrict fn stored, .ksWipe fn stored, .ksEnvApply fn stored, .ksIdStatement fn, .ksEkCert fn, .ksAuthSet fn stored, .ksLockAuth fn, .ksProvision fn, .ksDeploy fn, .ksReturn fn] : List Instr), exec c s = .next s) ∧
  (∀ (fn : Fn) (wide : Bool) (s : State),
      s.safe = false → s.rd (fn.val + 1) stAtom.busy = 1 →
      ∀ c ∈ ([Instr.shmAtomAdd fn wide, .shmAtomSwap fn wide] : List Instr), exec c s = .next (postTo Ev.SHM_CMD_OVERRUN fn.val 0 s)) ∧
  (∀ (fn : Fn) (wide : Bool) (s : State),
      s.safe = true → s.rd (fn.val + 1) stAtom.busy = 1 →
      ∀ c ∈ ([Instr.shmAtomAdd fn wide, .shmAtomSwap fn wide] : List Instr), exec c s = .next s) ∧
  (∀ (fn : Fn) (s : State),
      s.safe = false → s.rd (fn.val + 1) stCt.busy = 1 →
      ∀ c ∈ ([Instr.shmCtWrite fn, .shmCtRead fn] : List Instr), exec c s = .next (postTo Ev.SHM_CMD_OVERRUN fn.val 0 s)) ∧
  (∀ (fn : Fn) (s : State),
      s.safe = true → s.rd (fn.val + 1) stCt.busy = 1 →
      ∀ c ∈ ([Instr.shmCtWrite fn, .shmCtRead fn] : List Instr), exec c s = .next s) ∧
  (∀ (fn : Fn) (s : State),
      s.safe = false → s.rd (fn.val + 1) stHif.busy = 1 →
      ∀ c ∈ ([Instr.hifNop fn, .hifCopy fn, .ptWrite fn, .ptRead fn, .ptCommit fn, .ptAbort fn, .suHold fn, .suRelease fn, .pwrReq fn] : List Instr), exec c s = .next (postTo Ev.HIF_CMD_OVERRUN fn.val 0 s)) ∧
  (∀ (fn : Fn) (s : State),
      s.safe = true → s.rd (fn.val + 1) stHif.busy = 1 →
      ∀ c ∈ ([Instr.hifNop fn, .hifCopy fn, .ptWrite fn, .ptRead fn, .ptCommit fn, .ptAbort fn, .suHold fn, .suRelease fn, .pwrReq fn] : List Instr), exec c s = .next s) ∧
  (∀ (fn : Fn) (src : Fin 4) (readOk : Bool) (s : State),
      s.safe = false → s.rd (fn.val + 1) stStw.busy = 1 →
      ∀ c ∈ ([Instr.stwLoad fn, .stwRestructure fn src readOk, .stwAbort fn, .stwVerify fn src readOk, .stwSvnCommit fn] : List Instr), exec c s = .next (postTo Ev.STW_CMD_OVERRUN fn.val 0 s)) ∧
  (∀ (fn : Fn) (src : Fin 4) (readOk : Bool) (s : State),
      s.safe = true → s.rd (fn.val + 1) stStw.busy = 1 →
      ∀ c ∈ ([Instr.stwLoad fn, .stwRestructure fn src readOk, .stwAbort fn, .stwVerify fn src readOk, .stwSvnCommit fn] : List Instr), exec c s = .next s) ∧
  (∀ (fn : Fn) (verified : Bool) (s : State),
      s.safe = false → s.rd (fn.val + 1) stRst.busy = 1 →
      ∀ c ∈ ([Instr.rstOptWrite fn verified, .rstClearStuck fn] : List Instr), exec c s = .next (postTo Ev.RST_CMD_OVERRUN fn.val 0 s)) ∧
  (∀ (fn : Fn) (verified : Bool) (s : State),
      s.safe = true → s.rd (fn.val + 1) stRst.busy = 1 →
      ∀ c ∈ ([Instr.rstOptWrite fn verified, .rstClearStuck fn] : List Instr), exec c s = .next s) ∧
  (∀ (fn : Fn) (s : State),
      s.safe = false → s.rd (fn.val + 1) stPwr.busy = 1 →
      ∀ c ∈ ([Instr.pwrEnter fn] : List Instr), exec c s = .next (postTo Ev.PWR_CMD_OVERRUN fn.val 0 s)) ∧
  (∀ (fn : Fn) (s : State),
      s.safe = true → s.rd (fn.val + 1) stPwr.busy = 1 →
      ∀ c ∈ ([Instr.pwrEnter fn] : List Instr), exec c s = .next s) ∧
  (∀ (fn : Fn) (real : List FltHit) (s : State),
      s.safe = false → s.rd (fn.val + 1) stFlt.busy = 1 →
      ∀ c ∈ ([Instr.fltSrcWrite fn, .fltSrcRead fn, .fltBlockReset fn, .fltInject fn real, .fltLock fn] : List Instr), exec c s = .next (postTo Ev.FLT_CMD_OVERRUN fn.val 0 s)) ∧
  (∀ (fn : Fn) (real : List FltHit) (s : State),
      s.safe = true → s.rd (fn.val + 1) stFlt.busy = 1 →
      ∀ c ∈ ([Instr.fltSrcWrite fn, .fltSrcRead fn, .fltBlockReset fn, .fltInject fn real, .fltLock fn] : List Instr), exec c s = .next s) ∧
  (∀ (fn : Fn) (frcTime : Bool) (s : State),
      s.safe = false → s.rd (fn.val + 1) stPmc.busy = 1 →
      ∀ c ∈ ([Instr.pmcSnapshot fn frcTime] : List Instr), exec c s = .next (postTo Ev.PMC_CMD_OVERRUN fn.val 0 s)) ∧
  (∀ (fn : Fn) (frcTime : Bool) (s : State),
      s.safe = true → s.rd (fn.val + 1) stPmc.busy = 1 →
      ∀ c ∈ ([Instr.pmcSnapshot fn frcTime] : List Instr), exec c s = .next s)

/-- A command written to an idle window in the safe state, or to a block that a restructure holds, completes with REFUSED, and one to a block whose door
is not OPEN completes with BLOCK_ABSENT; in both cases nothing changes but the window's completion. -/
def Obligations.WindowsAnswerWithoutRunning : Prop :=
  (∀ (fn : Fn) (offset : Bool) (frcTime : Bool) (kind : Fin 4) (slot : Fin 8) (s : State),
      s.rd (fn.val + 1) stVc.busy ≠ 1 → (s.safe = true ∨ s.rsHolds .tb fn.val = true) →
      ∀ c ∈ ([Instr.vcSet fn offset frcTime, .vcAbort fn, .vcRate fn frcTime, .vcAdjust fn frcTime, .vcSchedAdd fn kind, .vcSchedCancel fn slot, .vcSchedClear fn, .vcRetire fn frcTime, .vcResetClock fn] : List Instr), exec c s = .next (refuse stVc (ownWin fn) 0 s)) ∧
  (∀ (fn : Fn) (offset : Bool) (frcTime : Bool) (kind : Fin 4) (slot : Fin 8) (s : State),
      s.rd (fn.val + 1) stVc.busy ≠ 1 → s.safe = false → s.rsHolds .tb fn.val = false → s.doorOpen .tb = false →
      ∀ c ∈ ([Instr.vcSet fn offset frcTime, .vcAbort fn, .vcRate fn frcTime, .vcAdjust fn frcTime, .vcSchedAdd fn kind, .vcSchedCancel fn slot, .vcSchedClear fn, .vcRetire fn frcTime, .vcResetClock fn] : List Instr), exec c s = .next (complete stVc (ownWin fn) Code.blockAbsent 0 s)) ∧
  (∀ (fn : Fn) (ack : Bool) (s : State),
      s.rd (fn.val + 1) stSrv.busy ≠ 1 → (s.safe = true ∨ s.rsHolds .srv fn.val = true) →
      ∀ c ∈ ([Instr.phaseStep fn, .acceptOffset fn, .nougatReset fn, .atomTuneNow fn ack] : List Instr), exec c s = .next (refuse stSrv (ownWin fn) 0 s)) ∧
  (∀ (fn : Fn) (ack : Bool) (s : State),
      s.rd (fn.val + 1) stSrv.busy ≠ 1 → s.safe = false → s.rsHolds .srv fn.val = false → s.doorOpen .srv = false →
      ∀ c ∈ ([Instr.phaseStep fn, .acceptOffset fn, .nougatReset fn, .atomTuneNow fn ack] : List Instr), exec c s = .next (complete stSrv (ownWin fn) Code.blockAbsent 0 s)) ∧
  (∀ (fn : Fn) (s : State),
      s.rd (fn.val + 1) stAcq.busy ≠ 1 → (s.safe = true ∨ s.rsHolds .gn fn.val = true) →
      ∀ c ∈ ([Instr.gnAcqSubmit fn, .gnAcqAbortAll fn] : List Instr), exec c s = .next (refuse stAcq (ownWin fn) 0 s)) ∧
  (∀ (fn : Fn) (s : State),
      s.rd (fn.val + 1) stAcq.busy ≠ 1 → s.safe = false → s.rsHolds .gn fn.val = false → s.doorOpen .gn = false →
      ∀ c ∈ ([Instr.gnAcqSubmit fn, .gnAcqAbortAll fn] : List Instr), exec c s = .next (complete stAcq (ownWin fn) Code.blockAbsent 0 s)) ∧
  (∀ (fn : Fn) (s : State),
      s.rd (fn.val + 1) stGnCh.busy ≠ 1 → (s.safe = true ∨ s.rsHolds .gn fn.val = true) →
      ∀ c ∈ ([Instr.gnChStart fn, .gnChStop fn, .gnChSetTow fn] : List Instr), exec c s = .next (refuse stGnCh (ownWin fn) 0 s)) ∧
  (∀ (fn : Fn) (s : State),
      s.rd (fn.val + 1) stGnCh.busy ≠ 1 → s.safe = false → s.rsHolds .gn fn.val = false → s.doorOpen .gn = false →
      ∀ c ∈ ([Instr.gnChStart fn, .gnChStop fn, .gnChSetTow fn] : List Instr), exec c s = .next (complete stGnCh (ownWin fn) Code.blockAbsent 0 s)) ∧
  (∀ (fn : Fn) (s : State),
      s.rd (fn.val + 1) stCls.busy ≠ 1 → (s.safe = true ∨ s.rsHolds .sve fn.val = true) →
      ∀ c ∈ ([Instr.clsRead fn] : List Instr), exec c s = .next (refuse stCls (ownWin fn) 0 s)) ∧
  (∀ (fn : Fn) (s : State),
      s.rd (fn.val + 1) stCls.busy ≠ 1 → s.safe = false → s.rsHolds .sve fn.val = false → s.doorOpen .sve = false →
      ∀ c ∈ ([Instr.clsRead fn] : List Instr), exec c s = .next (complete stCls (ownWin fn) Code.blockAbsent 0 s)) ∧
  (∀ (fn : Fn) (types : Fin 8) (s : State),
      s.rd (fn.val + 1) stCtx.busy ≠ 1 → (s.safe = true ∨ s.rsHolds .sve fn.val = true) →
      ∀ c ∈ ([Instr.ctxRead fn, .ctxInstall fn, .ctxRelease fn, .ctxCancelGrant fn types] : List Instr), exec c s = .next (refuse stCtx (ownWin fn) 0 s)) ∧
  (∀ (fn : Fn) (types : Fin 8) (s : State),
      s.rd (fn.val + 1) stCtx.busy ≠ 1 → s.safe = false → s.rsHolds .sve fn.val = false → s.doorOpen .sve = false →
      ∀ c ∈ ([Instr.ctxRead fn, .ctxInstall fn, .ctxRelease fn, .ctxCancelGrant fn types] : List Instr), exec c s = .next (complete stCtx (ownWin fn) Code.blockAbsent 0 s)) ∧
  (∀ (fn : Fn) (frcTime : Bool) (s : State),
      s.rd (fn.val + 1) stSa.busy ≠ 1 → (s.safe = true ∨ s.rsHolds .sec fn.val = true) →
      ∀ c ∈ ([Instr.saWrite fn, .saRead fn, .saLoadKey fn, .saUnloadKey fn, .saRotate fn frcTime, .saInvalidate fn] : List Instr), exec c s = .next (refuse stSa (ownWin fn) 0 s)) ∧
  (∀ (fn : Fn) (frcTime : Bool) (s : State),
      s.rd (fn.val + 1) stSa.busy ≠ 1 → s.safe = false → s.rsHolds .sec fn.val = false → s.doorOpen .sec = false →
      ∀ c ∈ ([Instr.saWrite fn, .saRead fn, .saLoadKey fn, .saUnloadKey fn, .saRotate fn frcTime, .saInvalidate fn] : List Instr), exec c s = .next (complete stSa (ownWin fn) Code.blockAbsent 0 s)) ∧
  (∀ (fn : Fn) (count : Fin 16) (s : State),
      s.rd (fn.val + 1) stNts.busy ≠ 1 → (s.safe = true ∨ s.rsHolds .sec fn.val = true) →
      ∀ c ∈ ([Instr.ntsLoad fn, .ntsMakeCurrent fn, .ntsUnload fn, .ntsMint fn count, .ntsRead fn] : List Instr), exec c s = .next (refuse stNts (ownWin fn) 0 s)) ∧
  (∀ (fn : Fn) (count : Fin 16) (s : State),
      s.rd (fn.val + 1) stNts.busy ≠ 1 → s.safe = false → s.rsHolds .sec fn.val = false → s.doorOpen .sec = false →
      ∀ c ∈ ([Instr.ntsLoad fn, .ntsMakeCurrent fn, .ntsUnload fn, .ntsMint fn count, .ntsRead fn] : List Instr), exec c s = .next (complete stNts (ownWin fn) Code.blockAbsent 0 s)) ∧
  (∀ (fn : Fn) (clearMax : Bool) (s : State),
      s.rd (fn.val + 1) stQ.busy ≠ 1 → (s.safe = true ∨ s.rsHolds .sch fn.val = true) →
      ∀ c ∈ ([Instr.qWrite fn, .qRead fn clearMax, .qFlush fn] : List Instr), exec c s = .next (refuse stQ (ownWin fn) 0 s)) ∧
  (∀ (fn : Fn) (clearMax : Bool) (s : State),
      s.rd (fn.val + 1) stQ.busy ≠ 1 → s.safe = false → s.rsHolds .sch fn.val = false → s.doorOpen .sch = false →
      ∀ c ∈ ([Instr.qWrite fn, .qRead fn clearMax, .qFlush fn] : List Instr), exec c s = .next (complete stQ (ownWin fn) Code.blockAbsent 0 s)) ∧
  (∀ (fn : Fn) (s : State),
      s.rd (fn.val + 1) stPol.busy ≠ 1 → (s.safe = true ∨ s.rsHolds .pol fn.val = true) →
      ∀ c ∈ ([Instr.polWrite fn, .polRead fn, .polRefill fn, .polClearCounts fn] : List Instr), exec c s = .next (refuse stPol (ownWin fn) 0 s)) ∧
  (∀ (fn : Fn) (s : State),
      s.rd (fn.val + 1) stPol.busy ≠ 1 → s.safe = false → s.rsHolds .pol fn.val = false → s.doorOpen .pol = false →
      ∀ c ∈ ([Instr.polWrite fn, .polRead fn, .polRefill fn, .polClearCounts fn] : List Instr), exec c s = .next (complete stPol (ownWin fn) Code.blockAbsent 0 s)) ∧
  (∀ (fn : Fn) (stored : Bool) (s : State),
      s.rd (fn.val + 1) stKs.busy ≠ 1 → (s.safe = true ∨ s.rsHolds .ks fn.val = true) →
      ∀ c ∈ ([Instr.ksReadAttr fn, .ksGenerate fn stored, .ksDerive fn stored, .ksRestrict fn stored, .ksWipe fn stored, .ksEnvApply fn stored, .ksIdStatement fn, .ksEkCert fn, .ksAuthSet fn stored, .ksLockAuth fn, .ksProvision fn, .ksDeploy fn, .ksReturn fn] : List Instr), exec c s = .next (refuse stKs (ownWin fn) 0 s)) ∧
  (∀ (fn : Fn) (stored : Bool) (s : State),
      s.rd (fn.val + 1) stKs.busy ≠ 1 → s.safe = false → s.rsHolds .ks fn.val = false → s.doorOpen .ks = false →
      ∀ c ∈ ([Instr.ksReadAttr fn, .ksGenerate fn stored, .ksDerive fn stored, .ksRestrict fn stored, .ksWipe fn stored, .ksEnvApply fn stored, .ksIdStatement fn, .ksEkCert fn, .ksAuthSet fn stored, .ksLockAuth fn, .ksProvision fn, .ksDeploy fn, .ksReturn fn] : List Instr), exec c s = .next (complete stKs (ownWin fn) Code.blockAbsent 0 s)) ∧
  (∀ (fn : Fn) (wide : Bool) (s : State),
      s.rd (fn.val + 1) stAtom.busy ≠ 1 → (s.safe = true ∨ s.rsHolds .shm fn.val = true) →
      ∀ c ∈ ([Instr.shmAtomAdd fn wide, .shmAtomSwap fn wide] : List Instr), exec c s = .next (refuse stAtom (ownWin fn) 0 s)) ∧
  (∀ (fn : Fn) (wide : Bool) (s : State),
      s.rd (fn.val + 1) stAtom.busy ≠ 1 → s.safe = false → s.rsHolds .shm fn.val = false → s.doorOpen .shm = false →
      ∀ c ∈ ([Instr.shmAtomAdd fn wide, .shmAtomSwap fn wide] : List Instr), exec c s = .next (complete stAtom (ownWin fn) Code.blockAbsent 0 s)) ∧
  (∀ (fn : Fn) (s : State),
      s.rd (fn.val + 1) stCt.busy ≠ 1 → (s.safe = true ∨ s.rsHolds .shm fn.val = true) →
      ∀ c ∈ ([Instr.shmCtWrite fn, .shmCtRead fn] : List Instr), exec c s = .next (refuse stCt (ownWin fn) 0 s)) ∧
  (∀ (fn : Fn) (s : State),
      s.rd (fn.val + 1) stCt.busy ≠ 1 → s.safe = false → s.rsHolds .shm fn.val = false → s.doorOpen .shm = false →
      ∀ c ∈ ([Instr.shmCtWrite fn, .shmCtRead fn] : List Instr), exec c s = .next (complete stCt (ownWin fn) Code.blockAbsent 0 s)) ∧
  (∀ (fn : Fn) (s : State),
      s.rd (fn.val + 1) stHif.busy ≠ 1 → (s.safe = true ∨ s.rsHolds .hif fn.val = true) →
      ∀ c ∈ ([Instr.hifNop fn, .hifCopy fn, .ptWrite fn, .ptRead fn, .ptCommit fn, .ptAbort fn, .suHold fn, .suRelease fn, .pwrReq fn] : List Instr), exec c s = .next (refuse stHif (ownWin fn) 0 s)) ∧
  (∀ (fn : Fn) (s : State),
      s.rd (fn.val + 1) stHif.busy ≠ 1 → s.safe = false → s.rsHolds .hif fn.val = false → s.doorOpen .hif = false →
      ∀ c ∈ ([Instr.hifNop fn, .hifCopy fn, .ptWrite fn, .ptRead fn, .ptCommit fn, .ptAbort fn, .suHold fn, .suRelease fn, .pwrReq fn] : List Instr), exec c s = .next (complete stHif (ownWin fn) Code.blockAbsent 0 s)) ∧
  (∀ (fn : Fn) (src : Fin 4) (readOk : Bool) (s : State),
      s.rd (fn.val + 1) stStw.busy ≠ 1 → (s.safe = true ∨ s.rsHolds .stw fn.val = true) →
      ∀ c ∈ ([Instr.stwLoad fn, .stwRestructure fn src readOk, .stwAbort fn, .stwVerify fn src readOk, .stwSvnCommit fn] : List Instr), exec c s = .next (refuse stStw (ownWin fn) 0 s)) ∧
  (∀ (fn : Fn) (src : Fin 4) (readOk : Bool) (s : State),
      s.rd (fn.val + 1) stStw.busy ≠ 1 → s.safe = false → s.rsHolds .stw fn.val = false → s.doorOpen .stw = false →
      ∀ c ∈ ([Instr.stwLoad fn, .stwRestructure fn src readOk, .stwAbort fn, .stwVerify fn src readOk, .stwSvnCommit fn] : List Instr), exec c s = .next (complete stStw (ownWin fn) Code.blockAbsent 0 s)) ∧
  (∀ (fn : Fn) (verified : Bool) (s : State),
      s.rd (fn.val + 1) stRst.busy ≠ 1 → (s.safe = true ∨ s.rsHolds .rst fn.val = true) →
      ∀ c ∈ ([Instr.rstOptWrite fn verified, .rstClearStuck fn] : List Instr), exec c s = .next (refuse stRst (ownWin fn) 0 s)) ∧
  (∀ (fn : Fn) (verified : Bool) (s : State),
      s.rd (fn.val + 1) stRst.busy ≠ 1 → s.safe = false → s.rsHolds .rst fn.val = false → s.doorOpen .rst = false →
      ∀ c ∈ ([Instr.rstOptWrite fn verified, .rstClearStuck fn] : List Instr), exec c s = .next (complete stRst (ownWin fn) Code.blockAbsent 0 s)) ∧
  (∀ (fn : Fn) (s : State),
      s.rd (fn.val + 1) stPwr.busy ≠ 1 → (s.safe = true ∨ s.rsHolds .pwr fn.val = true) →
      ∀ c ∈ ([Instr.pwrEnter fn] : List Instr), exec c s = .next (refuse stPwr (ownWin fn) 0 s)) ∧
  (∀ (fn : Fn) (s : State),
      s.rd (fn.val + 1) stPwr.busy ≠ 1 → s.safe = false → s.rsHolds .pwr fn.val = false → s.doorOpen .pwr = false →
      ∀ c ∈ ([Instr.pwrEnter fn] : List Instr), exec c s = .next (complete stPwr (ownWin fn) Code.blockAbsent 0 s)) ∧
  (∀ (fn : Fn) (real : List FltHit) (s : State),
      s.rd (fn.val + 1) stFlt.busy ≠ 1 → (s.safe = true ∨ s.rsHolds .flt fn.val = true) →
      ∀ c ∈ ([Instr.fltSrcWrite fn, .fltSrcRead fn, .fltBlockReset fn, .fltInject fn real, .fltLock fn] : List Instr), exec c s = .next (refuse stFlt (ownWin fn) 0 s)) ∧
  (∀ (fn : Fn) (real : List FltHit) (s : State),
      s.rd (fn.val + 1) stFlt.busy ≠ 1 → s.safe = false → s.rsHolds .flt fn.val = false → s.doorOpen .flt = false →
      ∀ c ∈ ([Instr.fltSrcWrite fn, .fltSrcRead fn, .fltBlockReset fn, .fltInject fn real, .fltLock fn] : List Instr), exec c s = .next (complete stFlt (ownWin fn) Code.blockAbsent 0 s)) ∧
  (∀ (fn : Fn) (frcTime : Bool) (s : State),
      s.rd (fn.val + 1) stPmc.busy ≠ 1 → (s.safe = true ∨ s.rsHolds .pmc fn.val = true) →
      ∀ c ∈ ([Instr.pmcSnapshot fn frcTime] : List Instr), exec c s = .next (refuse stPmc (ownWin fn) 0 s)) ∧
  (∀ (fn : Fn) (frcTime : Bool) (s : State),
      s.rd (fn.val + 1) stPmc.busy ≠ 1 → s.safe = false → s.rsHolds .pmc fn.val = false → s.doorOpen .pmc = false →
      ∀ c ∈ ([Instr.pmcSnapshot fn frcTime] : List Instr), exec c s = .next (complete stPmc (ownWin fn) Code.blockAbsent 0 s))

/-- In a well-formed shared SRAM, octets written at an address read back, every octet outside them reads as before, the memory stays well-formed, and of
the rest of the state only poison marks of wholly covered words change. -/
def Obligations.SharedMemoryReadsBack : Prop :=
  (∀ (a : Nat) (d : Octets) (s : State),
      Memory.wf s.shm = true →
      (s.shmWrite a d).shmRead a d.length = d ∧ (∀ b, (b < a ∨ a + d.length ≤ b) → (s.shmWrite a d).shmRead b 1 = s.shmRead b 1) ∧ Memory.wf (s.shmWrite a d).shm = true ∧
      (∀ w, w ∈ (s.shmWrite a d).shmx.poison ↔ w ∈ s.shmx.poison ∧ ¬(a ≤ 32 * w ∧ 32 * w + 32 ≤ a + d.length)) ∧
      s.shmWrite a d = { s with shm := (s.shmWrite a d).shm, shmx := { s.shmx with poison := (s.shmWrite a d).shmx.poison } })

/-- When an enabled ring is full, an enabled event's record is not written and is added to the lost count of the next record and to HIF_ER_LOST; when it
is not full, the record with that lost count goes to its slot in shared memory, WR advances and the lost count starts anew; the W1C flag and the
event's counter are set in either case. -/
def Obligations.EventRingNeverStalls : Prop :=
  (∀ (e : EvRef) (fn obj : Nat) (s : State),
      evEnabled s (fn + 1) e = true → s.rd (fn + 1) F.HIF_ER_CFG_EN = 1 → wsub 32 (s.rd (fn + 1) F.HIF_ER_WR) (s.rd (fn + 1) F.HIF_ER_RD) = 2 ^ s.rd
      (fn + 1) F.HIF_ER_CFG_LOG2_SIZE →
      (postTo e fn obj s).shm = s.shm ∧ (postTo e fn obj s).hostMem = s.hostMem ∧ tgetD (postTo e fn obj s).erLost (fn + 1) 0 = tgetD s.erLost (fn + 1) 0 + 1 ∧ (postTo e fn obj s).rd (fn + 1) F.HIF_ER_LOST = (s.rd (fn + 1) F.HIF_ER_LOST + 1) % 2 ^ 32 ∧
      (postTo e fn obj s).rd (fn + 1) F.HIF_ER_WR = (s.rd (fn + 1) F.HIF_ER_WR) ∧ bitOf ((postTo e fn obj s).evStatus (fn + 1) e.reg) e.bit = true ∧ tgetD (postTo e fn obj s).pmc.cnt e.ctr 0 = (tgetD s.pmc.cnt e.ctr 0 + 1) % 2 ^ 48) ∧
  (∀ (e : EvRef) (fn obj : Nat) (s : State),
      evEnabled s (fn + 1) e = true → s.rd (fn + 1) F.HIF_ER_CFG_EN = 1 → wsub 32 (s.rd (fn + 1) F.HIF_ER_WR) (s.rd (fn + 1) F.HIF_ER_RD) < 2 ^ s.rd
      (fn + 1) F.HIF_ER_CFG_LOG2_SIZE → addrIsShm (s.rd64 (fn + 1) F.HIF_ER_BASE_LO F.HIF_ER_BASE_HI + 32 * ((s.rd (fn + 1) F.HIF_ER_WR) % (2 ^ s.rd
      (fn + 1) F.HIF_ER_CFG_LOG2_SIZE))) = true →
      (postTo e fn obj s).shm = csetAll s.shm ((s.rd64 (fn + 1) F.HIF_ER_BASE_LO F.HIF_ER_BASE_HI + 32 * ((s.rd (fn + 1) F.HIF_ER_WR) % (2 ^ s.rd (fn + 1) F.HIF_ER_CFG_LOG2_SIZE))) % 2 ^ 32) (eventRecord (phaseOf (s.rd (fn + 1) F.HIF_ER_WR) (2 ^ s.rd (fn + 1) F.HIF_ER_CFG_LOG2_SIZE)) (b2n (0 < tgetD s.erLost (fn + 1) 0)) e.blk.code e.bit obj (satU 16 (tgetD s.erLost (fn + 1) 0)) s.frc []) ∧
      (postTo e fn obj s).hostMem = s.hostMem ∧ tgetD (postTo e fn obj s).erLost (fn + 1) 0 = 0 ∧ (postTo e fn obj s).rd (fn + 1) F.HIF_ER_LOST = s.rd (fn + 1) F.HIF_ER_LOST ∧
      (postTo e fn obj s).rd (fn + 1) F.HIF_ER_WR = ((s.rd (fn + 1) F.HIF_ER_WR) + 1) % 2 ^ 32 ∧ bitOf ((postTo e fn obj s).evStatus (fn + 1) e.reg) e.bit = true ∧ tgetD (postTo e fn obj s).pmc.cnt e.ctr 0 = (tgetD s.pmc.cnt e.ctr 0 + 1) % 2 ^ 48)

/-- A read of PMC_CNT_LO gives bits 31 to 0 of the counter of the event that PMC_CNT_SEL names and puts its bits 47 to 32 into the reading function's
PMC_CNT_HI, and changes nothing else. -/
def Obligations.CounterReadLatchesItsHighBits : Prop :=
  (∀ (fn : Fn) (s : State),
      ∃ t, exec (.pmcCntLoRead fn) s = .next t ∧ t.rd (fn.val + 1) F.PMC_CNT_LO = (tgetD s.pmc.cnt (s.rd (fn.val + 1) F.PMC_CNT_SEL) 0) % 2 ^ 32 ∧ t.rd (fn.val + 1) F.PMC_CNT_HI = (tgetD s.pmc.cnt (s.rd (fn.val + 1) F.PMC_CNT_SEL) 0) / 2 ^ 32 % 2 ^ 16 ∧
        onlyCopy (fn.val + 1) s t)

/-- A hit of an existing source whose EN is 0 sets its bit in FLT_GRP_LATCH and increments its event counter, writes no record and causes no reaction; a
hit of one with EN 1 and no reaction bit writes one record, with its source, its tick, its seq and no reaction, and does nothing else. -/
def Obligations.MaskedSourcesOnlyCount : Prop :=
  (∀ (src : Fin 1536) (obj : BitVec 16) (det : BitVec 64) (s : State),
      (srcDesc src.val).isSome = true → src.val ≠ 1344 → s.srcCfg src.val % 2 = 0 →
      exec (.faultHit [⟨src, obj, det⟩]) s = .next (count src.val obj.toNat 1 (s.wr 0 (F.FLT_GRP_LATCH (src.val / 32)) (setBitN (s.sh (F.FLT_GRP_LATCH (src.val / 32))) (src.val % 32))))) ∧
  (∀ (src : Fin 1536) (obj : BitVec 16) (det : BitVec 64) (s : State),
      (srcDesc src.val).isSome = true → src.val ≠ 1344 → s.srcCfg src.val % 2 = 1 → bits (s.srcCfg src.val) 3 7 = 0 → s.flt.fifo.length < 64 →
      ∃ r : FltRec, r.source = src.val ∧ r.frc = s.frc ∧ r.seq = s.flt.seq ∧ r.reaction = 0 ∧ r.obj = obj.toNat ∧ r.detail = det.toNat ∧ r.injected = false ∧
        exec (.faultHit [⟨src, obj, det⟩]) s = .next (let t := count src.val obj.toNat 1 (s.wr 0 (F.FLT_GRP_LATCH (src.val / 32)) (setBitN (s.sh (F.FLT_GRP_LATCH (src.val / 32))) (src.val % 32)));
          { t with flt := { t.flt with fifo := s.flt.fifo ++ [r], seq := (s.flt.seq + 1) % 2 ^ 32, lostBefore := false } }.wr 0 F.FLT_STATUS_FIFO (s.flt.fifo.length + 1)))

/-- The CRC starts from 0xFFFF, takes each octet with its most significant bit first through the polynomial 0x1021, without reflection and without a
final XOR, and has the check value 0x29B1 over the ASCII string 123456789. -/
def Obligations.TimeOfDayCrc : Prop :=
  (crc16 [] = 0xFFFF ∧ crc16 (oct [0x31, 0x32, 0x33, 0x34, 0x35, 0x36, 0x37, 0x38, 0x39]) = 0x29B1) ∧
  (∀ (o : Octets) (b : Byte),
      crc16 (o ++ [b]) = (fun c : Nat => if c < 0x8000 then 2 * c else (2 * c - 0x10000) ^^^ 0x1021)^[8] (crc16 o ^^^ (256 * b.toNat)))

/-- With DELAY_N pairs collected, a delay that differs from their mean by more than DELAY_JUMP_PS restarts the filter from that pair, posts DELAY_JUMP
and computes no offset while fewer than DELAY_N pairs are collected; a pair that joins fewer than DELAY_N - 1 collected ones computes none either;
with DELAY_N pairs and no jump one offset is computed. -/
def Obligations.DelayJumpRestartsTheFilter : Prop :=
  (∀ (p : Nat) (a : UbwStamp) (t1 d : Int) (s : State),
      2 ≤ s.sh F.UBW_FILTER → s.sh F.UBW_FILTER ≤ (s.ubwPort p).delays.length → s.sh F.UBW_CTRL_DELAY_JUMP_PS * 65536 < (d - roundDiv ((s.ubwPort
      p).delays.take (s.sh F.UBW_FILTER)).sum (s.sh F.UBW_FILTER)).natAbs * 1000 →
      exchangeSample p a t1 d s = (post Ev.UBW_DELAY_JUMP p s).setUbwPort p { (s.ubwPort p) with delays := [d] }) ∧
  (∀ (p : Nat) (a : UbwStamp) (t1 d : Int) (s : State),
      (s.ubwPort p).delays.length + 1 < s.sh F.UBW_FILTER →
      exchangeSample p a t1 d s = s.setUbwPort p { (s.ubwPort p) with delays := d :: (s.ubwPort p).delays }) ∧
  (∀ (p : Nat) (a : UbwStamp) (t1 d : Int) (s : State),
      1 ≤ s.sh F.UBW_FILTER → s.sh F.UBW_FILTER ≤ (s.ubwPort p).delays.length + 1 → ((s.ubwPort p).delays.length < s.sh F.UBW_FILTER ∨ (d - roundDiv
      ((s.ubwPort p).delays.take (s.sh F.UBW_FILTER)).sum (s.sh F.UBW_FILTER)).natAbs * 1000 ≤ s.sh F.UBW_CTRL_DELAY_JUMP_PS * 65536) →
      ∃ th : Int, ((exchangeSample p a t1 d s).ubwPort p).thetas = (th, a) :: (s.ubwPort p).thetas ∧ ((exchangeSample p a t1 d s).ubwPort p).delays = (d :: (s.ubwPort p).delays.take (s.sh F.UBW_FILTER)).take (s.sh F.UBW_FILTER))
end

