-- ==== Sys2Proof/Laws/State.lean ====
section
/-! SUPPORT. For each named update of State, one lemma per field that it leaves alone, so that no proof unfolds a record update. -/

set_option Elab.async false

namespace Sys2Proof.Machine

variable (s : State)

@[simp] theorem wr_pending (c : Nat) (f : FieldRef) (v : Nat) : (State.wr c f v s).pending = s.pending := rfl
@[simp] theorem wr_frc (c : Nat) (f : FieldRef) (v : Nat) : (State.wr c f v s).frc = s.frc := rfl
@[simp] theorem wr_eff (c : Nat) (f : FieldRef) (v : Nat) : (State.wr c f v s).eff = s.eff := rfl
@[simp] theorem wr_evtAll (c : Nat) (f : FieldRef) (v : Nat) : (State.wr c f v s).evtAll = s.evtAll := rfl
@[simp] theorem wr_evtOwn (c : Nat) (f : FieldRef) (v : Nat) : (State.wr c f v s).evtOwn = s.evtOwn := rfl
@[simp] theorem wr_reqs (c : Nat) (f : FieldRef) (v : Nat) : (State.wr c f v s).reqs = s.reqs := rfl
@[simp] theorem wr_cgs (c : Nat) (f : FieldRef) (v : Nat) : (State.wr c f v s).cgs = s.cgs := rfl
@[simp] theorem wr_vecs (c : Nat) (f : FieldRef) (v : Nat) : (State.wr c f v s).vecs = s.vecs := rfl
@[simp] theorem wr_erLost (c : Nat) (f : FieldRef) (v : Nat) : (State.wr c f v s).erLost = s.erLost := rfl
@[simp] theorem wr_shm (c : Nat) (f : FieldRef) (v : Nat) : (State.wr c f v s).shm = s.shm := rfl
@[simp] theorem wr_hostMem (c : Nat) (f : FieldRef) (v : Nat) : (State.wr c f v s).hostMem = s.hostMem := rfl
@[simp] theorem wr_fresh (c : Nat) (f : FieldRef) (v : Nat) : (State.wr c f v s).fresh = s.fresh := rfl
@[simp] theorem wr_tb (c : Nat) (f : FieldRef) (v : Nat) : (State.wr c f v s).tb = s.tb := rfl
@[simp] theorem wr_flt (c : Nat) (f : FieldRef) (v : Nat) : (State.wr c f v s).flt = s.flt := rfl
@[simp] theorem wr_pmc (c : Nat) (f : FieldRef) (v : Nat) : (State.wr c f v s).pmc = s.pmc := rfl
@[simp] theorem wr_rst (c : Nat) (f : FieldRef) (v : Nat) : (State.wr c f v s).rst = s.rst := rfl
@[simp] theorem wr_bnd (c : Nat) (f : FieldRef) (v : Nat) : (State.wr c f v s).bnd = s.bnd := rfl
@[simp] theorem wr_hif (c : Nat) (f : FieldRef) (v : Nat) : (State.wr c f v s).hif = s.hif := rfl
@[simp] theorem wr_refs (c : Nat) (f : FieldRef) (v : Nat) : (State.wr c f v s).refs = s.refs := rfl
@[simp] theorem wr_stw (c : Nat) (f : FieldRef) (v : Nat) : (State.wr c f v s).stw = s.stw := rfl
@[simp] theorem wr_srv (c : Nat) (f : FieldRef) (v : Nat) : (State.wr c f v s).srv = s.srv := rfl
@[simp] theorem wr_out (c : Nat) (f : FieldRef) (v : Nat) : (State.wr c f v s).out = s.out := rfl
@[simp] theorem wr_tdc (c : Nat) (f : FieldRef) (v : Nat) : (State.wr c f v s).tdc = s.tdc := rfl
@[simp] theorem wr_gn (c : Nat) (f : FieldRef) (v : Nat) : (State.wr c f v s).gn = s.gn := rfl
@[simp] theorem wr_prt (c : Nat) (f : FieldRef) (v : Nat) : (State.wr c f v s).prt = s.prt := rfl
@[simp] theorem wr_sve (c : Nat) (f : FieldRef) (v : Nat) : (State.wr c f v s).sve = s.sve := rfl
@[simp] theorem wr_sec (c : Nat) (f : FieldRef) (v : Nat) : (State.wr c f v s).sec = s.sec := rfl
@[simp] theorem wr_sch (c : Nat) (f : FieldRef) (v : Nat) : (State.wr c f v s).sch = s.sch := rfl
@[simp] theorem wr_pol (c : Nat) (f : FieldRef) (v : Nat) : (State.wr c f v s).pol = s.pol := rfl
@[simp] theorem wr_shmx (c : Nat) (f : FieldRef) (v : Nat) : (State.wr c f v s).shmx = s.shmx := rfl
@[simp] theorem wr_ks (c : Nat) (f : FieldRef) (v : Nat) : (State.wr c f v s).ks = s.ks := rfl
@[simp] theorem wr_ubw (c : Nat) (f : FieldRef) (v : Nat) : (State.wr c f v s).ubw = s.ubw := rfl
@[simp] theorem wr_mate (c : Nat) (f : FieldRef) (v : Nat) : (State.wr c f v s).mate = s.mate := rfl
@[simp] theorem wr_pwr (c : Nat) (f : FieldRef) (v : Nat) : (State.wr c f v s).pwr = s.pwr := rfl
@[simp] theorem wr_mgp (c : Nat) (f : FieldRef) (v : Nat) : (State.wr c f v s).mgp = s.mgp := rfl

@[simp] theorem wrEff_pending (f : FieldRef) (v : Nat) : (State.wrEff f v s).pending = s.pending := rfl
@[simp] theorem wrEff_frc (f : FieldRef) (v : Nat) : (State.wrEff f v s).frc = s.frc := rfl
@[simp] theorem wrEff_regs (f : FieldRef) (v : Nat) : (State.wrEff f v s).regs = s.regs := rfl
@[simp] theorem wrEff_evtAll (f : FieldRef) (v : Nat) : (State.wrEff f v s).evtAll = s.evtAll := rfl
@[simp] theorem wrEff_evtOwn (f : FieldRef) (v : Nat) : (State.wrEff f v s).evtOwn = s.evtOwn := rfl
@[simp] theorem wrEff_reqs (f : FieldRef) (v : Nat) : (State.wrEff f v s).reqs = s.reqs := rfl
@[simp] theorem wrEff_cgs (f : FieldRef) (v : Nat) : (State.wrEff f v s).cgs = s.cgs := rfl
@[simp] theorem wrEff_vecs (f : FieldRef) (v : Nat) : (State.wrEff f v s).vecs = s.vecs := rfl
@[simp] theorem wrEff_erLost (f : FieldRef) (v : Nat) : (State.wrEff f v s).erLost = s.erLost := rfl
@[simp] theorem wrEff_shm (f : FieldRef) (v : Nat) : (State.wrEff f v s).shm = s.shm := rfl
@[simp] theorem wrEff_hostMem (f : FieldRef) (v : Nat) : (State.wrEff f v s).hostMem = s.hostMem := rfl
@[simp] theorem wrEff_fresh (f : FieldRef) (v : Nat) : (State.wrEff f v s).fresh = s.fresh := rfl
@[simp] theorem wrEff_tb (f : FieldRef) (v : Nat) : (State.wrEff f v s).tb = s.tb := rfl
@[simp] theorem wrEff_flt (f : FieldRef) (v : Nat) : (State.wrEff f v s).flt = s.flt := rfl
@[simp] theorem wrEff_pmc (f : FieldRef) (v : Nat) : (State.wrEff f v s).pmc = s.pmc := rfl
@[simp] theorem wrEff_rst (f : FieldRef) (v : Nat) : (State.wrEff f v s).rst = s.rst := rfl
@[simp] theorem wrEff_bnd (f : FieldRef) (v : Nat) : (State.wrEff f v s).bnd = s.bnd := rfl
@[simp] theorem wrEff_hif (f : FieldRef) (v : Nat) : (State.wrEff f v s).hif = s.hif := rfl
@[simp] theorem wrEff_refs (f : FieldRef) (v : Nat) : (State.wrEff f v s).refs = s.refs := rfl
@[simp] theorem wrEff_stw (f : FieldRef) (v : Nat) : (State.wrEff f v s).stw = s.stw := rfl
@[simp] theorem wrEff_srv (f : FieldRef) (v : Nat) : (State.wrEff f v s).srv = s.srv := rfl
@[simp] theorem wrEff_out (f : FieldRef) (v : Nat) : (State.wrEff f v s).out = s.out := rfl
@[simp] theorem wrEff_tdc (f : FieldRef) (v : Nat) : (State.wrEff f v s).tdc = s.tdc := rfl
@[simp] theorem wrEff_gn (f : FieldRef) (v : Nat) : (State.wrEff f v s).gn = s.gn := rfl
@[simp] theorem wrEff_prt (f : FieldRef) (v : Nat) : (State.wrEff f v s).prt = s.prt := rfl
@[simp] theorem wrEff_sve (f : FieldRef) (v : Nat) : (State.wrEff f v s).sve = s.sve := rfl
@[simp] theorem wrEff_sec (f : FieldRef) (v : Nat) : (State.wrEff f v s).sec = s.sec := rfl
@[simp] theorem wrEff_sch (f : FieldRef) (v : Nat) : (State.wrEff f v s).sch = s.sch := rfl
@[simp] theorem wrEff_pol (f : FieldRef) (v : Nat) : (State.wrEff f v s).pol = s.pol := rfl
@[simp] theorem wrEff_shmx (f : FieldRef) (v : Nat) : (State.wrEff f v s).shmx = s.shmx := rfl
@[simp] theorem wrEff_ks (f : FieldRef) (v : Nat) : (State.wrEff f v s).ks = s.ks := rfl
@[simp] theorem wrEff_ubw (f : FieldRef) (v : Nat) : (State.wrEff f v s).ubw = s.ubw := rfl
@[simp] theorem wrEff_mate (f : FieldRef) (v : Nat) : (State.wrEff f v s).mate = s.mate := rfl
@[simp] theorem wrEff_pwr (f : FieldRef) (v : Nat) : (State.wrEff f v s).pwr = s.pwr := rfl
@[simp] theorem wrEff_mgp (f : FieldRef) (v : Nat) : (State.wrEff f v s).mgp = s.mgp := rfl

@[simp] theorem wrBoth_pending (f : FieldRef) (v : Nat) : (State.wrBoth f v s).pending = s.pending := rfl
@[simp] theorem wrBoth_frc (f : FieldRef) (v : Nat) : (State.wrBoth f v s).frc = s.frc := rfl
@[simp] theorem wrBoth_evtAll (f : FieldRef) (v : Nat) : (State.wrBoth f v s).evtAll = s.evtAll := rfl
@[simp] theorem wrBoth_evtOwn (f : FieldRef) (v : Nat) : (State.wrBoth f v s).evtOwn = s.evtOwn := rfl
@[simp] theorem wrBoth_reqs (f : FieldRef) (v : Nat) : (State.wrBoth f v s).reqs = s.reqs := rfl
@[simp] theorem wrBoth_cgs (f : FieldRef) (v : Nat) : (State.wrBoth f v s).cgs = s.cgs := rfl
@[simp] theorem wrBoth_vecs (f : FieldRef) (v : Nat) : (State.wrBoth f v s).vecs = s.vecs := rfl
@[simp] theorem wrBoth_erLost (f : FieldRef) (v : Nat) : (State.wrBoth f v s).erLost = s.erLost := rfl
@[simp] theorem wrBoth_shm (f : FieldRef) (v : Nat) : (State.wrBoth f v s).shm = s.shm := rfl
@[simp] theorem wrBoth_hostMem (f : FieldRef) (v : Nat) : (State.wrBoth f v s).hostMem = s.hostMem := rfl
@[simp] theorem wrBoth_fresh (f : FieldRef) (v : Nat) : (State.wrBoth f v s).fresh = s.fresh := rfl
@[simp] theorem wrBoth_tb (f : FieldRef) (v : Nat) : (State.wrBoth f v s).tb = s.tb := rfl
@[simp] theorem wrBoth_flt (f : FieldRef) (v : Nat) : (State.wrBoth f v s).flt = s.flt := rfl
@[simp] theorem wrBoth_pmc (f : FieldRef) (v : Nat) : (State.wrBoth f v s).pmc = s.pmc := rfl
@[simp] theorem wrBoth_rst (f : FieldRef) (v : Nat) : (State.wrBoth f v s).rst = s.rst := rfl
@[simp] theorem wrBoth_bnd (f : FieldRef) (v : Nat) : (State.wrBoth f v s).bnd = s.bnd := rfl
@[simp] theorem wrBoth_hif (f : FieldRef) (v : Nat) : (State.wrBoth f v s).hif = s.hif := rfl
@[simp] theorem wrBoth_refs (f : FieldRef) (v : Nat) : (State.wrBoth f v s).refs = s.refs := rfl
@[simp] theorem wrBoth_stw (f : FieldRef) (v : Nat) : (State.wrBoth f v s).stw = s.stw := rfl
@[simp] theorem wrBoth_srv (f : FieldRef) (v : Nat) : (State.wrBoth f v s).srv = s.srv := rfl
@[simp] theorem wrBoth_out (f : FieldRef) (v : Nat) : (State.wrBoth f v s).out = s.out := rfl
@[simp] theorem wrBoth_tdc (f : FieldRef) (v : Nat) : (State.wrBoth f v s).tdc = s.tdc := rfl
@[simp] theorem wrBoth_gn (f : FieldRef) (v : Nat) : (State.wrBoth f v s).gn = s.gn := rfl
@[simp] theorem wrBoth_prt (f : FieldRef) (v : Nat) : (State.wrBoth f v s).prt = s.prt := rfl
@[simp] theorem wrBoth_sve (f : FieldRef) (v : Nat) : (State.wrBoth f v s).sve = s.sve := rfl
@[simp] theorem wrBoth_sec (f : FieldRef) (v : Nat) : (State.wrBoth f v s).sec = s.sec := rfl
@[simp] theorem wrBoth_sch (f : FieldRef) (v : Nat) : (State.wrBoth f v s).sch = s.sch := rfl
@[simp] theorem wrBoth_pol (f : FieldRef) (v : Nat) : (State.wrBoth f v s).pol = s.pol := rfl
@[simp] theorem wrBoth_shmx (f : FieldRef) (v : Nat) : (State.wrBoth f v s).shmx = s.shmx := rfl
@[simp] theorem wrBoth_ks (f : FieldRef) (v : Nat) : (State.wrBoth f v s).ks = s.ks := rfl
@[simp] theorem wrBoth_ubw (f : FieldRef) (v : Nat) : (State.wrBoth f v s).ubw = s.ubw := rfl
@[simp] theorem wrBoth_mate (f : FieldRef) (v : Nat) : (State.wrBoth f v s).mate = s.mate := rfl
@[simp] theorem wrBoth_pwr (f : FieldRef) (v : Nat) : (State.wrBoth f v s).pwr = s.pwr := rfl
@[simp] theorem wrBoth_mgp (f : FieldRef) (v : Nat) : (State.wrBoth f v s).mgp = s.mgp := rfl

@[simp] theorem wr64_pending (c : Nat) (lo hi : FieldRef) (v : Nat) : (State.wr64 c lo hi v s).pending = s.pending := rfl
@[simp] theorem wr64_frc (c : Nat) (lo hi : FieldRef) (v : Nat) : (State.wr64 c lo hi v s).frc = s.frc := rfl
@[simp] theorem wr64_eff (c : Nat) (lo hi : FieldRef) (v : Nat) : (State.wr64 c lo hi v s).eff = s.eff := rfl
@[simp] theorem wr64_evtAll (c : Nat) (lo hi : FieldRef) (v : Nat) : (State.wr64 c lo hi v s).evtAll = s.evtAll := rfl
@[simp] theorem wr64_evtOwn (c : Nat) (lo hi : FieldRef) (v : Nat) : (State.wr64 c lo hi v s).evtOwn = s.evtOwn := rfl
@[simp] theorem wr64_reqs (c : Nat) (lo hi : FieldRef) (v : Nat) : (State.wr64 c lo hi v s).reqs = s.reqs := rfl
@[simp] theorem wr64_cgs (c : Nat) (lo hi : FieldRef) (v : Nat) : (State.wr64 c lo hi v s).cgs = s.cgs := rfl
@[simp] theorem wr64_vecs (c : Nat) (lo hi : FieldRef) (v : Nat) : (State.wr64 c lo hi v s).vecs = s.vecs := rfl
@[simp] theorem wr64_erLost (c : Nat) (lo hi : FieldRef) (v : Nat) : (State.wr64 c lo hi v s).erLost = s.erLost := rfl
@[simp] theorem wr64_shm (c : Nat) (lo hi : FieldRef) (v : Nat) : (State.wr64 c lo hi v s).shm = s.shm := rfl
@[simp] theorem wr64_hostMem (c : Nat) (lo hi : FieldRef) (v : Nat) : (State.wr64 c lo hi v s).hostMem = s.hostMem := rfl
@[simp] theorem wr64_fresh (c : Nat) (lo hi : FieldRef) (v : Nat) : (State.wr64 c lo hi v s).fresh = s.fresh := rfl
@[simp] theorem wr64_tb (c : Nat) (lo hi : FieldRef) (v : Nat) : (State.wr64 c lo hi v s).tb = s.tb := rfl
@[simp] theorem wr64_flt (c : Nat) (lo hi : FieldRef) (v : Nat) : (State.wr64 c lo hi v s).flt = s.flt := rfl
@[simp] theorem wr64_pmc (c : Nat) (lo hi : FieldRef) (v : Nat) : (State.wr64 c lo hi v s).pmc = s.pmc := rfl
@[simp] theorem wr64_rst (c : Nat) (lo hi : FieldRef) (v : Nat) : (State.wr64 c lo hi v s).rst = s.rst := rfl
@[simp] theorem wr64_bnd (c : Nat) (lo hi : FieldRef) (v : Nat) : (State.wr64 c lo hi v s).bnd = s.bnd := rfl
@[simp] theorem wr64_hif (c : Nat) (lo hi : FieldRef) (v : Nat) : (State.wr64 c lo hi v s).hif = s.hif := rfl
@[simp] theorem wr64_refs (c : Nat) (lo hi : FieldRef) (v : Nat) : (State.wr64 c lo hi v s).refs = s.refs := rfl
@[simp] theorem wr64_stw (c : Nat) (lo hi : FieldRef) (v : Nat) : (State.wr64 c lo hi v s).stw = s.stw := rfl
@[simp] theorem wr64_srv (c : Nat) (lo hi : FieldRef) (v : Nat) : (State.wr64 c lo hi v s).srv = s.srv := rfl
@[simp] theorem wr64_out (c : Nat) (lo hi : FieldRef) (v : Nat) : (State.wr64 c lo hi v s).out = s.out := rfl
@[simp] theorem wr64_tdc (c : Nat) (lo hi : FieldRef) (v : Nat) : (State.wr64 c lo hi v s).tdc = s.tdc := rfl
@[simp] theorem wr64_gn (c : Nat) (lo hi : FieldRef) (v : Nat) : (State.wr64 c lo hi v s).gn = s.gn := rfl
@[simp] theorem wr64_prt (c : Nat) (lo hi : FieldRef) (v : Nat) : (State.wr64 c lo hi v s).prt = s.prt := rfl
@[simp] theorem wr64_sve (c : Nat) (lo hi : FieldRef) (v : Nat) : (State.wr64 c lo hi v s).sve = s.sve := rfl
@[simp] theorem wr64_sec (c : Nat) (lo hi : FieldRef) (v : Nat) : (State.wr64 c lo hi v s).sec = s.sec := rfl
@[simp] theorem wr64_sch (c : Nat) (lo hi : FieldRef) (v : Nat) : (State.wr64 c lo hi v s).sch = s.sch := rfl
@[simp] theorem wr64_pol (c : Nat) (lo hi : FieldRef) (v : Nat) : (State.wr64 c lo hi v s).pol = s.pol := rfl
@[simp] theorem wr64_shmx (c : Nat) (lo hi : FieldRef) (v : Nat) : (State.wr64 c lo hi v s).shmx = s.shmx := rfl
@[simp] theorem wr64_ks (c : Nat) (lo hi : FieldRef) (v : Nat) : (State.wr64 c lo hi v s).ks = s.ks := rfl
@[simp] theorem wr64_ubw (c : Nat) (lo hi : FieldRef) (v : Nat) : (State.wr64 c lo hi v s).ubw = s.ubw := rfl
@[simp] theorem wr64_mate (c : Nat) (lo hi : FieldRef) (v : Nat) : (State.wr64 c lo hi v s).mate = s.mate := rfl
@[simp] theorem wr64_pwr (c : Nat) (lo hi : FieldRef) (v : Nat) : (State.wr64 c lo hi v s).pwr = s.pwr := rfl
@[simp] theorem wr64_mgp (c : Nat) (lo hi : FieldRef) (v : Nat) : (State.wr64 c lo hi v s).mgp = s.mgp := rfl

@[simp] theorem shmWrite_pending (a : Nat) (o : Octets) : (State.shmWrite a o s).pending = s.pending := rfl
@[simp] theorem shmWrite_frc (a : Nat) (o : Octets) : (State.shmWrite a o s).frc = s.frc := rfl
@[simp] theorem shmWrite_regs (a : Nat) (o : Octets) : (State.shmWrite a o s).regs = s.regs := rfl
@[simp] theorem shmWrite_eff (a : Nat) (o : Octets) : (State.shmWrite a o s).eff = s.eff := rfl
@[simp] theorem shmWrite_evtAll (a : Nat) (o : Octets) : (State.shmWrite a o s).evtAll = s.evtAll := rfl
@[simp] theorem shmWrite_evtOwn (a : Nat) (o : Octets) : (State.shmWrite a o s).evtOwn = s.evtOwn := rfl
@[simp] theorem shmWrite_reqs (a : Nat) (o : Octets) : (State.shmWrite a o s).reqs = s.reqs := rfl
@[simp] theorem shmWrite_cgs (a : Nat) (o : Octets) : (State.shmWrite a o s).cgs = s.cgs := rfl
@[simp] theorem shmWrite_vecs (a : Nat) (o : Octets) : (State.shmWrite a o s).vecs = s.vecs := rfl
@[simp] theorem shmWrite_erLost (a : Nat) (o : Octets) : (State.shmWrite a o s).erLost = s.erLost := rfl
@[simp] theorem shmWrite_hostMem (a : Nat) (o : Octets) : (State.shmWrite a o s).hostMem = s.hostMem := rfl
@[simp] theorem shmWrite_fresh (a : Nat) (o : Octets) : (State.shmWrite a o s).fresh = s.fresh := rfl
@[simp] theorem shmWrite_tb (a : Nat) (o : Octets) : (State.shmWrite a o s).tb = s.tb := rfl
@[simp] theorem shmWrite_flt (a : Nat) (o : Octets) : (State.shmWrite a o s).flt = s.flt := rfl
@[simp] theorem shmWrite_pmc (a : Nat) (o : Octets) : (State.shmWrite a o s).pmc = s.pmc := rfl
@[simp] theorem shmWrite_rst (a : Nat) (o : Octets) : (State.shmWrite a o s).rst = s.rst := rfl
@[simp] theorem shmWrite_bnd (a : Nat) (o : Octets) : (State.shmWrite a o s).bnd = s.bnd := rfl
@[simp] theorem shmWrite_hif (a : Nat) (o : Octets) : (State.shmWrite a o s).hif = s.hif := rfl
@[simp] theorem shmWrite_refs (a : Nat) (o : Octets) : (State.shmWrite a o s).refs = s.refs := rfl
@[simp] theorem shmWrite_stw (a : Nat) (o : Octets) : (State.shmWrite a o s).stw = s.stw := rfl
@[simp] theorem shmWrite_srv (a : Nat) (o : Octets) : (State.shmWrite a o s).srv = s.srv := rfl
@[simp] theorem shmWrite_out (a : Nat) (o : Octets) : (State.shmWrite a o s).out = s.out := rfl
@[simp] theorem shmWrite_tdc (a : Nat) (o : Octets) : (State.shmWrite a o s).tdc = s.tdc := rfl
@[simp] theorem shmWrite_gn (a : Nat) (o : Octets) : (State.shmWrite a o s).gn = s.gn := rfl
@[simp] theorem shmWrite_prt (a : Nat) (o : Octets) : (State.shmWrite a o s).prt = s.prt := rfl
@[simp] theorem shmWrite_sve (a : Nat) (o : Octets) : (State.shmWrite a o s).sve = s.sve := rfl
@[simp] theorem shmWrite_sec (a : Nat) (o : Octets) : (State.shmWrite a o s).sec = s.sec := rfl
@[simp] theorem shmWrite_sch (a : Nat) (o : Octets) : (State.shmWrite a o s).sch = s.sch := rfl
@[simp] theorem shmWrite_pol (a : Nat) (o : Octets) : (State.shmWrite a o s).pol = s.pol := rfl
@[simp] theorem shmWrite_ks (a : Nat) (o : Octets) : (State.shmWrite a o s).ks = s.ks := rfl
@[simp] theorem shmWrite_ubw (a : Nat) (o : Octets) : (State.shmWrite a o s).ubw = s.ubw := rfl
@[simp] theorem shmWrite_mate (a : Nat) (o : Octets) : (State.shmWrite a o s).mate = s.mate := rfl
@[simp] theorem shmWrite_pwr (a : Nat) (o : Octets) : (State.shmWrite a o s).pwr = s.pwr := rfl
@[simp] theorem shmWrite_mgp (a : Nat) (o : Octets) : (State.shmWrite a o s).mgp = s.mgp := rfl

@[simp] theorem free_pending (w : Nat) : ((State.free w s).2).pending = s.pending := rfl
@[simp] theorem free_frc (w : Nat) : ((State.free w s).2).frc = s.frc := rfl
@[simp] theorem free_regs (w : Nat) : ((State.free w s).2).regs = s.regs := rfl
@[simp] theorem free_eff (w : Nat) : ((State.free w s).2).eff = s.eff := rfl
@[simp] theorem free_evtAll (w : Nat) : ((State.free w s).2).evtAll = s.evtAll := rfl
@[simp] theorem free_evtOwn (w : Nat) : ((State.free w s).2).evtOwn = s.evtOwn := rfl
@[simp] theorem free_reqs (w : Nat) : ((State.free w s).2).reqs = s.reqs := rfl
@[simp] theorem free_cgs (w : Nat) : ((State.free w s).2).cgs = s.cgs := rfl
@[simp] theorem free_vecs (w : Nat) : ((State.free w s).2).vecs = s.vecs := rfl
@[simp] theorem free_erLost (w : Nat) : ((State.free w s).2).erLost = s.erLost := rfl
@[simp] theorem free_shm (w : Nat) : ((State.free w s).2).shm = s.shm := rfl
@[simp] theorem free_hostMem (w : Nat) : ((State.free w s).2).hostMem = s.hostMem := rfl
@[simp] theorem free_tb (w : Nat) : ((State.free w s).2).tb = s.tb := rfl
@[simp] theorem free_flt (w : Nat) : ((State.free w s).2).flt = s.flt := rfl
@[simp] theorem free_pmc (w : Nat) : ((State.free w s).2).pmc = s.pmc := rfl
@[simp] theorem free_rst (w : Nat) : ((State.free w s).2).rst = s.rst := rfl
@[simp] theorem free_bnd (w : Nat) : ((State.free w s).2).bnd = s.bnd := rfl
@[simp] theorem free_hif (w : Nat) : ((State.free w s).2).hif = s.hif := rfl
@[simp] theorem free_refs (w : Nat) : ((State.free w s).2).refs = s.refs := rfl
@[simp] theorem free_stw (w : Nat) : ((State.free w s).2).stw = s.stw := rfl
@[simp] theorem free_srv (w : Nat) : ((State.free w s).2).srv = s.srv := rfl
@[simp] theorem free_out (w : Nat) : ((State.free w s).2).out = s.out := rfl
@[simp] theorem free_tdc (w : Nat) : ((State.free w s).2).tdc = s.tdc := rfl
@[simp] theorem free_gn (w : Nat) : ((State.free w s).2).gn = s.gn := rfl
@[simp] theorem free_prt (w : Nat) : ((State.free w s).2).prt = s.prt := rfl
@[simp] theorem free_sve (w : Nat) : ((State.free w s).2).sve = s.sve := rfl
@[simp] theorem free_sec (w : Nat) : ((State.free w s).2).sec = s.sec := rfl
@[simp] theorem free_sch (w : Nat) : ((State.free w s).2).sch = s.sch := rfl
@[simp] theorem free_pol (w : Nat) : ((State.free w s).2).pol = s.pol := rfl
@[simp] theorem free_shmx (w : Nat) : ((State.free w s).2).shmx = s.shmx := rfl
@[simp] theorem free_ks (w : Nat) : ((State.free w s).2).ks = s.ks := rfl
@[simp] theorem free_ubw (w : Nat) : ((State.free w s).2).ubw = s.ubw := rfl
@[simp] theorem free_mate (w : Nat) : ((State.free w s).2).mate = s.mate := rfl
@[simp] theorem free_pwr (w : Nat) : ((State.free w s).2).pwr = s.pwr := rfl
@[simp] theorem free_mgp (w : Nat) : ((State.free w s).2).mgp = s.mgp := rfl

@[simp] theorem count_pending (e o k : Nat) : (count e o k s).pending = s.pending := rfl
@[simp] theorem count_frc (e o k : Nat) : (count e o k s).frc = s.frc := rfl
@[simp] theorem count_regs (e o k : Nat) : (count e o k s).regs = s.regs := rfl
@[simp] theorem count_eff (e o k : Nat) : (count e o k s).eff = s.eff := rfl
@[simp] theorem count_evtAll (e o k : Nat) : (count e o k s).evtAll = s.evtAll := rfl
@[simp] theorem count_evtOwn (e o k : Nat) : (count e o k s).evtOwn = s.evtOwn := rfl
@[simp] theorem count_reqs (e o k : Nat) : (count e o k s).reqs = s.reqs := rfl
@[simp] theorem count_cgs (e o k : Nat) : (count e o k s).cgs = s.cgs := rfl
@[simp] theorem count_vecs (e o k : Nat) : (count e o k s).vecs = s.vecs := rfl
@[simp] theorem count_erLost (e o k : Nat) : (count e o k s).erLost = s.erLost := rfl
@[simp] theorem count_shm (e o k : Nat) : (count e o k s).shm = s.shm := rfl
@[simp] theorem count_hostMem (e o k : Nat) : (count e o k s).hostMem = s.hostMem := rfl
@[simp] theorem count_fresh (e o k : Nat) : (count e o k s).fresh = s.fresh := rfl
@[simp] theorem count_tb (e o k : Nat) : (count e o k s).tb = s.tb := rfl
@[simp] theorem count_flt (e o k : Nat) : (count e o k s).flt = s.flt := rfl
@[simp] theorem count_rst (e o k : Nat) : (count e o k s).rst = s.rst := rfl
@[simp] theorem count_bnd (e o k : Nat) : (count e o k s).bnd = s.bnd := rfl
@[simp] theorem count_hif (e o k : Nat) : (count e o k s).hif = s.hif := rfl
@[simp] theorem count_refs (e o k : Nat) : (count e o k s).refs = s.refs := rfl
@[simp] theorem count_stw (e o k : Nat) : (count e o k s).stw = s.stw := rfl
@[simp] theorem count_srv (e o k : Nat) : (count e o k s).srv = s.srv := rfl
@[simp] theorem count_out (e o k : Nat) : (count e o k s).out = s.out := rfl
@[simp] theorem count_tdc (e o k : Nat) : (count e o k s).tdc = s.tdc := rfl
@[simp] theorem count_gn (e o k : Nat) : (count e o k s).gn = s.gn := rfl
@[simp] theorem count_prt (e o k : Nat) : (count e o k s).prt = s.prt := rfl
@[simp] theorem count_sve (e o k : Nat) : (count e o k s).sve = s.sve := rfl
@[simp] theorem count_sec (e o k : Nat) : (count e o k s).sec = s.sec := rfl
@[simp] theorem count_sch (e o k : Nat) : (count e o k s).sch = s.sch := rfl
@[simp] theorem count_pol (e o k : Nat) : (count e o k s).pol = s.pol := rfl
@[simp] theorem count_shmx (e o k : Nat) : (count e o k s).shmx = s.shmx := rfl
@[simp] theorem count_ks (e o k : Nat) : (count e o k s).ks = s.ks := rfl
@[simp] theorem count_ubw (e o k : Nat) : (count e o k s).ubw = s.ubw := rfl
@[simp] theorem count_mate (e o k : Nat) : (count e o k s).mate = s.mate := rfl
@[simp] theorem count_pwr (e o k : Nat) : (count e o k s).pwr = s.pwr := rfl
@[simp] theorem count_mgp (e o k : Nat) : (count e o k s).mgp = s.mgp := rfl

@[simp] theorem setFlag_pending (e : EvRef) (c : Nat) : (setFlag e c s).pending = s.pending := rfl
@[simp] theorem setFlag_frc (e : EvRef) (c : Nat) : (setFlag e c s).frc = s.frc := rfl
@[simp] theorem setFlag_regs (e : EvRef) (c : Nat) : (setFlag e c s).regs = s.regs := rfl
@[simp] theorem setFlag_eff (e : EvRef) (c : Nat) : (setFlag e c s).eff = s.eff := rfl
@[simp] theorem setFlag_evtAll (e : EvRef) (c : Nat) : (setFlag e c s).evtAll = s.evtAll := rfl
@[simp] theorem setFlag_reqs (e : EvRef) (c : Nat) : (setFlag e c s).reqs = s.reqs := rfl
@[simp] theorem setFlag_cgs (e : EvRef) (c : Nat) : (setFlag e c s).cgs = s.cgs := rfl
@[simp] theorem setFlag_vecs (e : EvRef) (c : Nat) : (setFlag e c s).vecs = s.vecs := rfl
@[simp] theorem setFlag_erLost (e : EvRef) (c : Nat) : (setFlag e c s).erLost = s.erLost := rfl
@[simp] theorem setFlag_shm (e : EvRef) (c : Nat) : (setFlag e c s).shm = s.shm := rfl
@[simp] theorem setFlag_hostMem (e : EvRef) (c : Nat) : (setFlag e c s).hostMem = s.hostMem := rfl
@[simp] theorem setFlag_fresh (e : EvRef) (c : Nat) : (setFlag e c s).fresh = s.fresh := rfl
@[simp] theorem setFlag_tb (e : EvRef) (c : Nat) : (setFlag e c s).tb = s.tb := rfl
@[simp] theorem setFlag_flt (e : EvRef) (c : Nat) : (setFlag e c s).flt = s.flt := rfl
@[simp] theorem setFlag_pmc (e : EvRef) (c : Nat) : (setFlag e c s).pmc = s.pmc := rfl
@[simp] theorem setFlag_rst (e : EvRef) (c : Nat) : (setFlag e c s).rst = s.rst := rfl
@[simp] theorem setFlag_bnd (e : EvRef) (c : Nat) : (setFlag e c s).bnd = s.bnd := rfl
@[simp] theorem setFlag_hif (e : EvRef) (c : Nat) : (setFlag e c s).hif = s.hif := rfl
@[simp] theorem setFlag_refs (e : EvRef) (c : Nat) : (setFlag e c s).refs = s.refs := rfl
@[simp] theorem setFlag_stw (e : EvRef) (c : Nat) : (setFlag e c s).stw = s.stw := rfl
@[simp] theorem setFlag_srv (e : EvRef) (c : Nat) : (setFlag e c s).srv = s.srv := rfl
@[simp] theorem setFlag_out (e : EvRef) (c : Nat) : (setFlag e c s).out = s.out := rfl
@[simp] theorem setFlag_tdc (e : EvRef) (c : Nat) : (setFlag e c s).tdc = s.tdc := rfl
@[simp] theorem setFlag_gn (e : EvRef) (c : Nat) : (setFlag e c s).gn = s.gn := rfl
@[simp] theorem setFlag_prt (e : EvRef) (c : Nat) : (setFlag e c s).prt = s.prt := rfl
@[simp] theorem setFlag_sve (e : EvRef) (c : Nat) : (setFlag e c s).sve = s.sve := rfl
@[simp] theorem setFlag_sec (e : EvRef) (c : Nat) : (setFlag e c s).sec = s.sec := rfl
@[simp] theorem setFlag_sch (e : EvRef) (c : Nat) : (setFlag e c s).sch = s.sch := rfl
@[simp] theorem setFlag_pol (e : EvRef) (c : Nat) : (setFlag e c s).pol = s.pol := rfl
@[simp] theorem setFlag_shmx (e : EvRef) (c : Nat) : (setFlag e c s).shmx = s.shmx := rfl
@[simp] theorem setFlag_ks (e : EvRef) (c : Nat) : (setFlag e c s).ks = s.ks := rfl
@[simp] theorem setFlag_ubw (e : EvRef) (c : Nat) : (setFlag e c s).ubw = s.ubw := rfl
@[simp] theorem setFlag_mate (e : EvRef) (c : Nat) : (setFlag e c s).mate = s.mate := rfl
@[simp] theorem setFlag_pwr (e : EvRef) (c : Nat) : (setFlag e c s).pwr = s.pwr := rfl
@[simp] theorem setFlag_mgp (e : EvRef) (c : Nat) : (setFlag e c s).mgp = s.mgp := rfl

@[simp] theorem setFlagAll_pending (e : EvRef) : (setFlagAll e s).pending = s.pending := rfl
@[simp] theorem setFlagAll_frc (e : EvRef) : (setFlagAll e s).frc = s.frc := rfl
@[simp] theorem setFlagAll_regs (e : EvRef) : (setFlagAll e s).regs = s.regs := rfl
@[simp] theorem setFlagAll_eff (e : EvRef) : (setFlagAll e s).eff = s.eff := rfl
@[simp] theorem setFlagAll_reqs (e : EvRef) : (setFlagAll e s).reqs = s.reqs := rfl
@[simp] theorem setFlagAll_cgs (e : EvRef) : (setFlagAll e s).cgs = s.cgs := rfl
@[simp] theorem setFlagAll_vecs (e : EvRef) : (setFlagAll e s).vecs = s.vecs := rfl
@[simp] theorem setFlagAll_erLost (e : EvRef) : (setFlagAll e s).erLost = s.erLost := rfl
@[simp] theorem setFlagAll_shm (e : EvRef) : (setFlagAll e s).shm = s.shm := rfl
@[simp] theorem setFlagAll_hostMem (e : EvRef) : (setFlagAll e s).hostMem = s.hostMem := rfl
@[simp] theorem setFlagAll_fresh (e : EvRef) : (setFlagAll e s).fresh = s.fresh := rfl
@[simp] theorem setFlagAll_tb (e : EvRef) : (setFlagAll e s).tb = s.tb := rfl
@[simp] theorem setFlagAll_flt (e : EvRef) : (setFlagAll e s).flt = s.flt := rfl
@[simp] theorem setFlagAll_pmc (e : EvRef) : (setFlagAll e s).pmc = s.pmc := rfl
@[simp] theorem setFlagAll_rst (e : EvRef) : (setFlagAll e s).rst = s.rst := rfl
@[simp] theorem setFlagAll_bnd (e : EvRef) : (setFlagAll e s).bnd = s.bnd := rfl
@[simp] theorem setFlagAll_hif (e : EvRef) : (setFlagAll e s).hif = s.hif := rfl
@[simp] theorem setFlagAll_refs (e : EvRef) : (setFlagAll e s).refs = s.refs := rfl
@[simp] theorem setFlagAll_stw (e : EvRef) : (setFlagAll e s).stw = s.stw := rfl
@[simp] theorem setFlagAll_srv (e : EvRef) : (setFlagAll e s).srv = s.srv := rfl
@[simp] theorem setFlagAll_out (e : EvRef) : (setFlagAll e s).out = s.out := rfl
@[simp] theorem setFlagAll_tdc (e : EvRef) : (setFlagAll e s).tdc = s.tdc := rfl
@[simp] theorem setFlagAll_gn (e : EvRef) : (setFlagAll e s).gn = s.gn := rfl
@[simp] theorem setFlagAll_prt (e : EvRef) : (setFlagAll e s).prt = s.prt := rfl
@[simp] theorem setFlagAll_sve (e : EvRef) : (setFlagAll e s).sve = s.sve := rfl
@[simp] theorem setFlagAll_sec (e : EvRef) : (setFlagAll e s).sec = s.sec := rfl
@[simp] theorem setFlagAll_sch (e : EvRef) : (setFlagAll e s).sch = s.sch := rfl
@[simp] theorem setFlagAll_pol (e : EvRef) : (setFlagAll e s).pol = s.pol := rfl
@[simp] theorem setFlagAll_shmx (e : EvRef) : (setFlagAll e s).shmx = s.shmx := rfl
@[simp] theorem setFlagAll_ks (e : EvRef) : (setFlagAll e s).ks = s.ks := rfl
@[simp] theorem setFlagAll_ubw (e : EvRef) : (setFlagAll e s).ubw = s.ubw := rfl
@[simp] theorem setFlagAll_mate (e : EvRef) : (setFlagAll e s).mate = s.mate := rfl
@[simp] theorem setFlagAll_pwr (e : EvRef) : (setFlagAll e s).pwr = s.pwr := rfl
@[simp] theorem setFlagAll_mgp (e : EvRef) : (setFlagAll e s).mgp = s.mgp := rfl

@[simp] theorem setArm_pending (g : Nat) (a : CgArm) : (setArm g a s).pending = s.pending := rfl
@[simp] theorem setArm_frc (g : Nat) (a : CgArm) : (setArm g a s).frc = s.frc := rfl
@[simp] theorem setArm_regs (g : Nat) (a : CgArm) : (setArm g a s).regs = s.regs := rfl
@[simp] theorem setArm_eff (g : Nat) (a : CgArm) : (setArm g a s).eff = s.eff := rfl
@[simp] theorem setArm_evtAll (g : Nat) (a : CgArm) : (setArm g a s).evtAll = s.evtAll := rfl
@[simp] theorem setArm_evtOwn (g : Nat) (a : CgArm) : (setArm g a s).evtOwn = s.evtOwn := rfl
@[simp] theorem setArm_reqs (g : Nat) (a : CgArm) : (setArm g a s).reqs = s.reqs := rfl
@[simp] theorem setArm_vecs (g : Nat) (a : CgArm) : (setArm g a s).vecs = s.vecs := rfl
@[simp] theorem setArm_erLost (g : Nat) (a : CgArm) : (setArm g a s).erLost = s.erLost := rfl
@[simp] theorem setArm_shm (g : Nat) (a : CgArm) : (setArm g a s).shm = s.shm := rfl
@[simp] theorem setArm_hostMem (g : Nat) (a : CgArm) : (setArm g a s).hostMem = s.hostMem := rfl
@[simp] theorem setArm_fresh (g : Nat) (a : CgArm) : (setArm g a s).fresh = s.fresh := rfl
@[simp] theorem setArm_tb (g : Nat) (a : CgArm) : (setArm g a s).tb = s.tb := rfl
@[simp] theorem setArm_flt (g : Nat) (a : CgArm) : (setArm g a s).flt = s.flt := rfl
@[simp] theorem setArm_pmc (g : Nat) (a : CgArm) : (setArm g a s).pmc = s.pmc := rfl
@[simp] theorem setArm_rst (g : Nat) (a : CgArm) : (setArm g a s).rst = s.rst := rfl
@[simp] theorem setArm_bnd (g : Nat) (a : CgArm) : (setArm g a s).bnd = s.bnd := rfl
@[simp] theorem setArm_hif (g : Nat) (a : CgArm) : (setArm g a s).hif = s.hif := rfl
@[simp] theorem setArm_refs (g : Nat) (a : CgArm) : (setArm g a s).refs = s.refs := rfl
@[simp] theorem setArm_stw (g : Nat) (a : CgArm) : (setArm g a s).stw = s.stw := rfl
@[simp] theorem setArm_srv (g : Nat) (a : CgArm) : (setArm g a s).srv = s.srv := rfl
@[simp] theorem setArm_out (g : Nat) (a : CgArm) : (setArm g a s).out = s.out := rfl
@[simp] theorem setArm_tdc (g : Nat) (a : CgArm) : (setArm g a s).tdc = s.tdc := rfl
@[simp] theorem setArm_gn (g : Nat) (a : CgArm) : (setArm g a s).gn = s.gn := rfl
@[simp] theorem setArm_prt (g : Nat) (a : CgArm) : (setArm g a s).prt = s.prt := rfl
@[simp] theorem setArm_sve (g : Nat) (a : CgArm) : (setArm g a s).sve = s.sve := rfl
@[simp] theorem setArm_sec (g : Nat) (a : CgArm) : (setArm g a s).sec = s.sec := rfl
@[simp] theorem setArm_sch (g : Nat) (a : CgArm) : (setArm g a s).sch = s.sch := rfl
@[simp] theorem setArm_pol (g : Nat) (a : CgArm) : (setArm g a s).pol = s.pol := rfl
@[simp] theorem setArm_shmx (g : Nat) (a : CgArm) : (setArm g a s).shmx = s.shmx := rfl
@[simp] theorem setArm_ks (g : Nat) (a : CgArm) : (setArm g a s).ks = s.ks := rfl
@[simp] theorem setArm_ubw (g : Nat) (a : CgArm) : (setArm g a s).ubw = s.ubw := rfl
@[simp] theorem setArm_mate (g : Nat) (a : CgArm) : (setArm g a s).mate = s.mate := rfl
@[simp] theorem setArm_pwr (g : Nat) (a : CgArm) : (setArm g a s).pwr = s.pwr := rfl
@[simp] theorem setArm_mgp (g : Nat) (a : CgArm) : (setArm g a s).mgp = s.mgp := rfl

@[simp] theorem dropArm_pending (g : Nat) : (dropArm g s).pending = s.pending := rfl
@[simp] theorem dropArm_frc (g : Nat) : (dropArm g s).frc = s.frc := rfl
@[simp] theorem dropArm_regs (g : Nat) : (dropArm g s).regs = s.regs := rfl
@[simp] theorem dropArm_eff (g : Nat) : (dropArm g s).eff = s.eff := rfl
@[simp] theorem dropArm_evtAll (g : Nat) : (dropArm g s).evtAll = s.evtAll := rfl
@[simp] theorem dropArm_evtOwn (g : Nat) : (dropArm g s).evtOwn = s.evtOwn := rfl
@[simp] theorem dropArm_reqs (g : Nat) : (dropArm g s).reqs = s.reqs := rfl
@[simp] theorem dropArm_vecs (g : Nat) : (dropArm g s).vecs = s.vecs := rfl
@[simp] theorem dropArm_erLost (g : Nat) : (dropArm g s).erLost = s.erLost := rfl
@[simp] theorem dropArm_shm (g : Nat) : (dropArm g s).shm = s.shm := rfl
@[simp] theorem dropArm_hostMem (g : Nat) : (dropArm g s).hostMem = s.hostMem := rfl
@[simp] theorem dropArm_fresh (g : Nat) : (dropArm g s).fresh = s.fresh := rfl
@[simp] theorem dropArm_tb (g : Nat) : (dropArm g s).tb = s.tb := rfl
@[simp] theorem dropArm_flt (g : Nat) : (dropArm g s).flt = s.flt := rfl
@[simp] theorem dropArm_pmc (g : Nat) : (dropArm g s).pmc = s.pmc := rfl
@[simp] theorem dropArm_rst (g : Nat) : (dropArm g s).rst = s.rst := rfl
@[simp] theorem dropArm_bnd (g : Nat) : (dropArm g s).bnd = s.bnd := rfl
@[simp] theorem dropArm_hif (g : Nat) : (dropArm g s).hif = s.hif := rfl
@[simp] theorem dropArm_refs (g : Nat) : (dropArm g s).refs = s.refs := rfl
@[simp] theorem dropArm_stw (g : Nat) : (dropArm g s).stw = s.stw := rfl
@[simp] theorem dropArm_srv (g : Nat) : (dropArm g s).srv = s.srv := rfl
@[simp] theorem dropArm_out (g : Nat) : (dropArm g s).out = s.out := rfl
@[simp] theorem dropArm_tdc (g : Nat) : (dropArm g s).tdc = s.tdc := rfl
@[simp] theorem dropArm_gn (g : Nat) : (dropArm g s).gn = s.gn := rfl
@[simp] theorem dropArm_prt (g : Nat) : (dropArm g s).prt = s.prt := rfl
@[simp] theorem dropArm_sve (g : Nat) : (dropArm g s).sve = s.sve := rfl
@[simp] theorem dropArm_sec (g : Nat) : (dropArm g s).sec = s.sec := rfl
@[simp] theorem dropArm_sch (g : Nat) : (dropArm g s).sch = s.sch := rfl
@[simp] theorem dropArm_pol (g : Nat) : (dropArm g s).pol = s.pol := rfl
@[simp] theorem dropArm_shmx (g : Nat) : (dropArm g s).shmx = s.shmx := rfl
@[simp] theorem dropArm_ks (g : Nat) : (dropArm g s).ks = s.ks := rfl
@[simp] theorem dropArm_ubw (g : Nat) : (dropArm g s).ubw = s.ubw := rfl
@[simp] theorem dropArm_mate (g : Nat) : (dropArm g s).mate = s.mate := rfl
@[simp] theorem dropArm_pwr (g : Nat) : (dropArm g s).pwr = s.pwr := rfl
@[simp] theorem dropArm_mgp (g : Nat) : (dropArm g s).mgp = s.mgp := rfl

@[simp] theorem accept_pending (b : Blk) (st : StatRef) (w : Win) (op obj : Nat) : (accept b st w op obj s).pending = s.pending := rfl
@[simp] theorem accept_frc (b : Blk) (st : StatRef) (w : Win) (op obj : Nat) : (accept b st w op obj s).frc = s.frc := rfl
@[simp] theorem accept_eff (b : Blk) (st : StatRef) (w : Win) (op obj : Nat) : (accept b st w op obj s).eff = s.eff := rfl
@[simp] theorem accept_evtAll (b : Blk) (st : StatRef) (w : Win) (op obj : Nat) : (accept b st w op obj s).evtAll = s.evtAll := rfl
@[simp] theorem accept_evtOwn (b : Blk) (st : StatRef) (w : Win) (op obj : Nat) : (accept b st w op obj s).evtOwn = s.evtOwn := rfl
@[simp] theorem accept_cgs (b : Blk) (st : StatRef) (w : Win) (op obj : Nat) : (accept b st w op obj s).cgs = s.cgs := rfl
@[simp] theorem accept_vecs (b : Blk) (st : StatRef) (w : Win) (op obj : Nat) : (accept b st w op obj s).vecs = s.vecs := rfl
@[simp] theorem accept_erLost (b : Blk) (st : StatRef) (w : Win) (op obj : Nat) : (accept b st w op obj s).erLost = s.erLost := rfl
@[simp] theorem accept_shm (b : Blk) (st : StatRef) (w : Win) (op obj : Nat) : (accept b st w op obj s).shm = s.shm := rfl
@[simp] theorem accept_hostMem (b : Blk) (st : StatRef) (w : Win) (op obj : Nat) : (accept b st w op obj s).hostMem = s.hostMem := rfl
@[simp] theorem accept_fresh (b : Blk) (st : StatRef) (w : Win) (op obj : Nat) : (accept b st w op obj s).fresh = s.fresh := rfl
@[simp] theorem accept_tb (b : Blk) (st : StatRef) (w : Win) (op obj : Nat) : (accept b st w op obj s).tb = s.tb := rfl
@[simp] theorem accept_flt (b : Blk) (st : StatRef) (w : Win) (op obj : Nat) : (accept b st w op obj s).flt = s.flt := rfl
@[simp] theorem accept_pmc (b : Blk) (st : StatRef) (w : Win) (op obj : Nat) : (accept b st w op obj s).pmc = s.pmc := rfl
@[simp] theorem accept_rst (b : Blk) (st : StatRef) (w : Win) (op obj : Nat) : (accept b st w op obj s).rst = s.rst := rfl
@[simp] theorem accept_bnd (b : Blk) (st : StatRef) (w : Win) (op obj : Nat) : (accept b st w op obj s).bnd = s.bnd := rfl
@[simp] theorem accept_hif (b : Blk) (st : StatRef) (w : Win) (op obj : Nat) : (accept b st w op obj s).hif = s.hif := rfl
@[simp] theorem accept_refs (b : Blk) (st : StatRef) (w : Win) (op obj : Nat) : (accept b st w op obj s).refs = s.refs := rfl
@[simp] theorem accept_stw (b : Blk) (st : StatRef) (w : Win) (op obj : Nat) : (accept b st w op obj s).stw = s.stw := rfl
@[simp] theorem accept_srv (b : Blk) (st : StatRef) (w : Win) (op obj : Nat) : (accept b st w op obj s).srv = s.srv := rfl
@[simp] theorem accept_out (b : Blk) (st : StatRef) (w : Win) (op obj : Nat) : (accept b st w op obj s).out = s.out := rfl
@[simp] theorem accept_tdc (b : Blk) (st : StatRef) (w : Win) (op obj : Nat) : (accept b st w op obj s).tdc = s.tdc := rfl
@[simp] theorem accept_gn (b : Blk) (st : StatRef) (w : Win) (op obj : Nat) : (accept b st w op obj s).gn = s.gn := rfl
@[simp] theorem accept_prt (b : Blk) (st : StatRef) (w : Win) (op obj : Nat) : (accept b st w op obj s).prt = s.prt := rfl
@[simp] theorem accept_sve (b : Blk) (st : StatRef) (w : Win) (op obj : Nat) : (accept b st w op obj s).sve = s.sve := rfl
@[simp] theorem accept_sec (b : Blk) (st : StatRef) (w : Win) (op obj : Nat) : (accept b st w op obj s).sec = s.sec := rfl
@[simp] theorem accept_sch (b : Blk) (st : StatRef) (w : Win) (op obj : Nat) : (accept b st w op obj s).sch = s.sch := rfl
@[simp] theorem accept_pol (b : Blk) (st : StatRef) (w : Win) (op obj : Nat) : (accept b st w op obj s).pol = s.pol := rfl
@[simp] theorem accept_shmx (b : Blk) (st : StatRef) (w : Win) (op obj : Nat) : (accept b st w op obj s).shmx = s.shmx := rfl
@[simp] theorem accept_ks (b : Blk) (st : StatRef) (w : Win) (op obj : Nat) : (accept b st w op obj s).ks = s.ks := rfl
@[simp] theorem accept_ubw (b : Blk) (st : StatRef) (w : Win) (op obj : Nat) : (accept b st w op obj s).ubw = s.ubw := rfl
@[simp] theorem accept_mate (b : Blk) (st : StatRef) (w : Win) (op obj : Nat) : (accept b st w op obj s).mate = s.mate := rfl
@[simp] theorem accept_pwr (b : Blk) (st : StatRef) (w : Win) (op obj : Nat) : (accept b st w op obj s).pwr = s.pwr := rfl
@[simp] theorem accept_mgp (b : Blk) (st : StatRef) (w : Win) (op obj : Nat) : (accept b st w op obj s).mgp = s.mgp := rfl

end Sys2Proof.Machine
end

