-- ==== Sys2Proof/Laws/Tables.lean ====
section
/-! SUPPORT. Laws of the sparse tables and of the byte memories: reading after writing, and the canonical forms. -/

set_option Elab.async false

namespace Sys2Proof.Machine

/-! ### Sparse tables -/

variable {α : Type}

theorem tget_tset_self (t : Tbl α) (n : Nat) (v : α) : tget (tset t n v) n = some v := by
  induction t with
  | nil => simp [tset, tget]
  | cons e t ih =>
    obtain ⟨k, w⟩ := e
    unfold tset
    split
    · simp [tget]
    · split
      · simp [tget]
      · rename_i h1 h2
        simp [tget, h1, h2, ih]

theorem tget_tset_ne (t : Tbl α) {n m : Nat} (v : α) (h : m ≠ n) : tget (tset t n v) m = tget t m := by
  induction t with
  | nil => simp [tset, tget, h]
  | cons e t ih =>
    obtain ⟨k, w⟩ := e
    unfold tset
    split
    · rename_i h1
      simp only [tget, h, if_false]
      split
      · rw [if_neg (by omega), if_pos (by omega)]
      · rfl
    · split
      · subst_vars
        simp [tget, h]
      · simp only [tget, ih]

theorem tgetD_tset_self (t : Tbl α) (n : Nat) (v d : α) : tgetD (tset t n v) n d = v := by simp [tgetD, tget_tset_self]

theorem tgetD_tset_ne (t : Tbl α) {n m : Nat} (v d : α) (h : m ≠ n) : tgetD (tset t n v) m d = tgetD t m d := by
  simp [tgetD, tget_tset_ne t v h]

/-- The keys of a table. -/
theorem twf_iff (t : Tbl α) : twf t = true ↔ (t.map (·.1)).Pairwise (· < ·) := by
  induction t with
  | nil => simp [twf]
  | cons a t ih =>
    match t, ih with
    | [], _ => simp [twf]
    | b :: t, ih =>
      obtain ⟨k, v⟩ := a
      obtain ⟨l, w⟩ := b
      simp only [twf, Bool.and_eq_true, decide_eq_true_eq, ih, List.map_cons, List.pairwise_cons]
      constructor
      · rintro ⟨h, h1, h2⟩
        refine ⟨?_, h1, h2⟩
        intro x hx
        rcases List.mem_cons.1 hx with rfl | hx
        · exact h
        · exact Nat.lt_trans h (h1 x hx)
      · rintro ⟨h, h1, h2⟩
        exact ⟨h _ (List.mem_cons_self ..), h1, h2⟩

theorem mem_keys_tset (t : Tbl α) (n : Nat) (v : α) (x : Nat) (h : x ∈ (tset t n v).map (·.1)) : x = n ∨ x ∈ t.map (·.1) := by
  induction t with
  | nil => simp only [tset, List.map_cons, List.map_nil, List.mem_singleton] at h; exact .inl h
  | cons e t ih =>
    obtain ⟨k, w⟩ := e
    unfold tset at h
    split at h
    · rcases List.mem_cons.1 h with h | h
      · exact .inl h
      · exact .inr h
    · split at h
      · rcases List.mem_cons.1 h with h | h
        · exact .inl h
        · exact .inr (List.mem_cons_of_mem _ h)
      · rcases List.mem_cons.1 h with h | h
        · exact .inr (h ▸ List.mem_cons_self ..)
        · exact (ih h).imp id (List.mem_cons_of_mem _)

theorem twf_tset (t : Tbl α) (n : Nat) (v : α) (h : twf t = true) : twf (tset t n v) = true := by
  rw [twf_iff] at h ⊢
  induction t with
  | nil => simp [tset]
  | cons e t ih =>
    obtain ⟨k, w⟩ := e
    simp only [List.map_cons, List.pairwise_cons] at h
    unfold tset
    split
    · rename_i h1
      simp only [List.map_cons, List.pairwise_cons]
      refine ⟨?_, h.1, h.2⟩
      intro x hx
      rcases List.mem_cons.1 hx with rfl | hx
      · exact h1
      · exact Nat.lt_trans h1 (h.1 x hx)
    · split
      · rename_i h2
        subst h2
        simpa only [List.map_cons, List.pairwise_cons] using h
      · rename_i h1 h2
        simp only [List.map_cons, List.pairwise_cons]
        refine ⟨?_, ih h.2⟩
        intro x hx
        rcases mem_keys_tset t n v x hx with rfl | hx
        · omega
        · exact h.1 x hx

theorem keys_tdel_sublist (t : Tbl α) (n : Nat) : (tdel t n).Sublist t := by
  induction t with
  | nil => exact List.Sublist.refl _
  | cons e t ih =>
    obtain ⟨k, w⟩ := e
    unfold tdel
    split
    · exact List.sublist_cons_self ..
    · split
      · exact List.Sublist.refl _
      · exact ih.cons_cons _

theorem twf_of_sublist {t u : Tbl α} (h : t.Sublist u) (hu : twf u = true) : twf t = true := by
  rw [twf_iff] at *
  exact hu.sublist (h.map _)

theorem twf_tdel (t : Tbl α) (n : Nat) (h : twf t = true) : twf (tdel t n) = true := twf_of_sublist (keys_tdel_sublist t n) h

theorem twf_tfilter (p : Nat → α → Bool) (t : Tbl α) (h : twf t = true) : twf (tfilter p t) = true :=
  twf_of_sublist List.filter_sublist h

/-! ### Byte memories -/

theorem cget_cset_self (m : List Host.Cell) (a : Nat) (v : Byte) (h : Memory.wf m = true) : cget (cset m a v) a = v := by
  induction m with
  | nil => unfold cset; split <;> simp_all [cget]
  | cons e t ih =>
    obtain ⟨k, w⟩ := e
    have ht : Memory.wf t = true := by
      cases t with
      | nil => rfl
      | cons b t => simp only [Memory.wf, Bool.and_eq_true] at h; exact h.2
    unfold cset
    split
    · split
      · rename_i h1 h2; simp [cget, Nat.ne_of_lt h1, h1, h2]
      · simp [cget]
    · split
      · rename_i h1 h2
        subst h2
        split
        · rename_i h3
          subst h3
          cases t with
          | nil => simp [cget]
          | cons b t =>
            obtain ⟨l, x⟩ := b
            simp only [Memory.wf, Bool.and_eq_true, decide_eq_true_eq] at h
            simp [cget, Nat.ne_of_lt h.1.1, h.1.1]
        · simp [cget]
      · rename_i h1 h2
        simp [cget, h1, h2, ih ht]

theorem cget_cset_ne (m : List Host.Cell) {a b : Nat} (v : Byte) (h : b ≠ a) (hm : Memory.wf m = true) : cget (cset m a v) b = cget m b := by
  induction m with
  | nil =>
    unfold cset
    split
    · rfl
    · simp [cget, h]
  | cons e t ih =>
    obtain ⟨k, w⟩ := e
    have ht : Memory.wf t = true := by
      cases t with
      | nil => rfl
      | cons b t => simp only [Memory.wf, Bool.and_eq_true] at hm; exact hm.2
    unfold cset
    split
    · rename_i h1
      split
      · rfl
      · simp only [cget, h, if_false]
        split
        · rw [if_neg (by omega), if_pos (by omega)]
        · rfl
    · split
      · rename_i h1 h2
        subst h2
        split
        · cases t with
          | nil => simp [cget, h]
          | cons c t =>
            obtain ⟨l, x⟩ := c
            simp only [Memory.wf, Bool.and_eq_true, decide_eq_true_eq] at hm
            have := hm.1.1
            simp only [cget, h, if_false]
            rcases Nat.lt_or_ge b a with h4 | h4
            · rw [if_neg (by omega : ¬b = l), if_pos (by omega : b < l), if_pos h4]
            · rw [if_neg (by omega : ¬b < a)]
        · simp [cget, h]
      · simp only [cget, ih ht]

theorem Memory.wf_iff (m : List Host.Cell) : Memory.wf m = true ↔ (m.map (·.1)).Pairwise (· < ·) ∧ ∀ c ∈ m, c.2 ≠ 0 := by
  induction m with
  | nil => simp [Memory.wf]
  | cons a t ih =>
    match t, ih with
    | [], _ => obtain ⟨k, v⟩ := a; simp [Memory.wf]
    | b :: t, ih =>
      obtain ⟨k, v⟩ := a
      obtain ⟨l, w⟩ := b
      simp only [Memory.wf, Bool.and_eq_true, decide_eq_true_eq, ih, List.map_cons, List.pairwise_cons, bne_iff_ne]
      constructor
      · rintro ⟨⟨h, hv⟩, ⟨h1, h2⟩, h3⟩
        refine ⟨⟨?_, h1, h2⟩, ?_⟩
        · intro x hx
          rcases List.mem_cons.1 hx with rfl | hx
          · exact h
          · exact Nat.lt_trans h (h1 x hx)
        · intro c hc
          rcases List.mem_cons.1 hc with rfl | hc
          · exact hv
          · exact h3 c hc
      · rintro ⟨⟨h, h1, h2⟩, h3⟩
        exact ⟨⟨h _ (List.mem_cons_self ..), h3 _ (List.mem_cons_self ..)⟩, ⟨h1, h2⟩, fun c hc => h3 c (List.mem_cons_of_mem _ hc)⟩

theorem mem_cset (m : List Host.Cell) (a : Nat) (v : Byte) (c : Host.Cell) (h : c ∈ cset m a v) : (c.1 = a ∧ c.2 = v ∧ v ≠ 0) ∨ c ∈ m := by
  induction m with
  | nil =>
    unfold cset at h
    split at h
    · exact .inr h
    · rename_i hv
      simp only [List.mem_singleton] at h
      subst h
      exact .inl ⟨rfl, rfl, hv⟩
  | cons e t ih =>
    obtain ⟨k, w⟩ := e
    unfold cset at h
    split at h
    · split at h
      · exact .inr h
      · rename_i hv
        rcases List.mem_cons.1 h with rfl | h
        · exact .inl ⟨rfl, rfl, hv⟩
        · exact .inr h
    · split at h
      · split at h
        · exact .inr (List.mem_cons_of_mem _ h)
        · rename_i hv
          rcases List.mem_cons.1 h with rfl | h
          · exact .inl ⟨rfl, rfl, hv⟩
          · exact .inr (List.mem_cons_of_mem _ h)
      · rcases List.mem_cons.1 h with rfl | h
        · exact .inr (List.mem_cons_self ..)
        · exact (ih h).imp id (List.mem_cons_of_mem _)

/-- A write keeps the canonical form. -/
theorem wf_cset (m : List Host.Cell) (a : Nat) (v : Byte) (h : Memory.wf m = true) : Memory.wf (cset m a v) = true := by
  rw [Memory.wf_iff] at h ⊢
  refine ⟨?_, fun c hc => ?_⟩
  · obtain ⟨h, -⟩ := h
    induction m with
    | nil => unfold cset; split <;> simp
    | cons e t ih =>
      obtain ⟨k, w⟩ := e
      simp only [List.map_cons, List.pairwise_cons] at h
      unfold cset
      split
      · rename_i h1
        split
        · simpa only [List.map_cons, List.pairwise_cons] using h
        · simp only [List.map_cons, List.pairwise_cons]
          refine ⟨?_, h⟩
          intro x hx
          rcases List.mem_cons.1 hx with rfl | hx
          · exact h1
          · exact Nat.lt_trans h1 (h.1 x hx)
      · split
        · rename_i h2
          subst h2
          split
          · exact h.2
          · simpa only [List.map_cons, List.pairwise_cons] using h
        · rename_i h1 h2
          simp only [List.map_cons, List.pairwise_cons]
          refine ⟨?_, ih h.2⟩
          intro x hx
          obtain ⟨c, hc, rfl⟩ := List.mem_map.1 hx
          rcases mem_cset t a v c hc with ⟨hc, -, -⟩ | hc
          · omega
          · exact h.1 _ (List.mem_map_of_mem hc)
  · rcases mem_cset m a v c hc with ⟨-, h1, h2⟩ | hc
    · exact h1 ▸ h2
    · exact h.2 c hc

theorem wf_csetAll (m : List Host.Cell) (a : Nat) (o : Octets) (h : Memory.wf m = true) : Memory.wf (csetAll m a o) = true := by
  induction o generalizing m a with
  | nil => exact h
  | cons b t ih => exact ih _ _ (wf_cset m a b h)

theorem wf_filter (p : Host.Cell → Bool) (m : List Host.Cell) (h : Memory.wf m = true) : Memory.wf (m.filter p) = true := by
  rw [Memory.wf_iff] at *
  exact ⟨h.1.sublist (List.filter_sublist.map _), fun c hc => h.2 c (List.mem_filter.1 hc).1⟩

/-- A byte outside the octets written reads as before. -/
theorem cget_csetAll_out (m : List Host.Cell) (a b : Nat) (o : Octets) (hm : Memory.wf m = true) (h : b < a ∨ a + o.length ≤ b) :
    cget (csetAll m a o) b = cget m b := by
  induction o generalizing m a with
  | nil => rfl
  | cons x t ih =>
    simp only [List.length_cons] at h
    rw [csetAll, ih _ _ (wf_cset m a x hm) (by omega), cget_cset_ne m x (by omega) hm]

/-- The octets written read back. -/
theorem cgetN_csetAll (m : List Host.Cell) (a : Nat) (o : Octets) (hm : Memory.wf m = true) : cgetN (csetAll m a o) a o.length = o := by
  induction o generalizing m a with
  | nil => rfl
  | cons x t ih =>
    simp only [csetAll, List.length_cons, cgetN, ih _ _ (wf_cset m a x hm)]
    rw [cget_csetAll_out _ _ _ _ (wf_cset m a x hm) (by omega), cget_cset_self m a x hm]

end Sys2Proof.Machine
end

