-- ==== Sys2Proof/Laws/Events.lean ====
section
/-! SUPPORT. Reading registers after each named update, what a completion and an event do, and when a command register takes a command. -/

set_option Elab.async false

namespace Sys2Proof.Machine

/-! ### Registers -/

theorem rd_wr_self (s : State) (c : Nat) (f : FieldRef) (v : Nat) : (s.wr c f v).rd c f = v % 2 ^ f.w := tgetD_tset_self _ _ _ _

theorem rd_wr_ne (s : State) {c d : Nat} {f g : FieldRef} (v : Nat) (h : g.key d ≠ f.key c) : (s.wr c f v).rd d g = s.rd d g :=
  tgetD_tset_ne _ _ _ h

theorem sh_wr_self (s : State) (f : FieldRef) (v : Nat) : (s.wr 0 f v).sh f = v % 2 ^ f.w := rd_wr_self s 0 f v

theorem sh_wr_ne (s : State) {c : Nat} {f g : FieldRef} (v : Nat) (h : g.key 0 ≠ f.key c) : (s.wr c f v).sh g = s.sh g := rd_wr_ne s v h

theorem ef_wrEff_self (s : State) (f : FieldRef) (v : Nat) : (s.wrEff f v).ef f = v % 2 ^ f.w := tgetD_tset_self _ _ _ _

theorem ef_wrEff_ne (s : State) {f g : FieldRef} (v : Nat) (h : g.key 0 ≠ f.key 0) : (s.wrEff f v).ef g = s.ef g := tgetD_tset_ne _ _ _ h

@[simp] theorem ef_wr (s : State) (c : Nat) (f g : FieldRef) (v : Nat) : (s.wr c f v).ef g = s.ef g := rfl
@[simp] theorem rd_wrEff (s : State) (c : Nat) (f g : FieldRef) (v : Nat) : (s.wrEff f v).rd c g = s.rd c g := rfl
@[simp] theorem sh_wrEff (s : State) (f g : FieldRef) (v : Nat) : (s.wrEff f v).sh g = s.sh g := rfl
@[simp] theorem rd_shmWrite (s : State) (a : Nat) (o : Octets) (c : Nat) (g : FieldRef) : (s.shmWrite a o).rd c g = s.rd c g := rfl
@[simp] theorem rd_count (s : State) (e o k c : Nat) (g : FieldRef) : (count e o k s).rd c g = s.rd c g := rfl
@[simp] theorem sh_count (s : State) (e o k : Nat) (g : FieldRef) : (count e o k s).sh g = s.sh g := rfl
@[simp] theorem rd_free (s : State) (w c : Nat) (g : FieldRef) : (State.free w s).2.rd c g = s.rd c g := rfl

theorem rsHoldsGroup_wr (s : State) {c : Nat} {f : FieldRef} (v g : Nat) (h : F.STW_STATUS_RS_STATE.key 0 ≠ f.key c) :
    (s.wr c f v).rsHoldsGroup g = s.rsHoldsGroup g := by
  unfold State.rsHoldsGroup
  rw [sh_wr_ne s v h]
  rfl

theorem rd64_wr_ne (s : State) {c d : Nat} {f g k : FieldRef} (v : Nat) (h : g.key d ≠ f.key c) (h2 : k.key d ≠ f.key c) :
    (s.wr c f v).rd64 d g k = s.rd64 d g k := by
  unfold State.rd64
  rw [rd_wr_ne s v h, rd_wr_ne s v h2]

/-- Reading back a 64-bit value. -/
theorem rd64_wr64 (s : State) (c : Nat) (lo hi : FieldRef) (v : Nat) (hl : lo.w = 32) (h : lo.key c ≠ hi.key c) :
    (s.wr64 c lo hi v).rd64 c lo hi = v % 2 ^ 32 + 2 ^ 32 * (v / 2 ^ 32 % 2 ^ hi.w) := by
  unfold State.rd64 State.wr64
  rw [rd_wr_self, rd_wr_ne _ _ h, rd_wr_self, hl]

/-- Two fields of different copies, blocks, registers or places have different keys. -/
theorem key_inj {f g : FieldRef} {c d : Nat} (hf : f.off < 0x4000 ∧ f.lo < 32) (hg : g.off < 0x4000 ∧ g.lo < 32) (h : g.key d = f.key c) :
    d * 32 + g.blk.code = c * 32 + f.blk.code ∧ g.off = f.off ∧ g.lo = f.lo := by
  unfold FieldRef.key at h
  omega

/-! ### What posting an event may change -/

theorem onlyEvents_refl (s : State) : onlyEvents s s := ⟨rfl, fun _ _ => rfl⟩

theorem onlyEvents_trans {s t u : State} (h : onlyEvents s t) (k : onlyEvents t u) : onlyEvents s u := by
  obtain ⟨h1, h2⟩ := h
  obtain ⟨k1, k2⟩ := k
  refine ⟨?_, fun n hn => (k2 n hn).trans (h2 n hn)⟩
  rw [k1, h1]

theorem onlyEvents_wr (s : State) (c : Nat) (f : FieldRef) (v : Nat) (h : erKey (f.key c) = true) : onlyEvents s (s.wr c f v) := by
  refine ⟨rfl, fun k hk => tget_tset_ne _ _ ?_⟩
  rintro rfl
  rw [h] at hk
  cases hk

theorem erKey_wr (c : Nat) : erKey (F.HIF_ER_WR.key c) = true := by
  simp only [erKey, FieldRef.key, F.HIF_ER_WR, F.HIF_ER_LOST, Blk.code, Bool.or_eq_true, beq_iff_eq]
  omega

theorem erKey_lost (c : Nat) : erKey (F.HIF_ER_LOST.key c) = true := by
  simp only [erKey, FieldRef.key, F.HIF_ER_WR, F.HIF_ER_LOST, Blk.code, Bool.or_eq_true, beq_iff_eq]
  omega

theorem onlyEvents_of_regs {s t : State} (h : t = { s with
    regs := s.regs, evtAll := t.evtAll, evtOwn := t.evtOwn, vecs := t.vecs, erLost := t.erLost, shm := t.shm, hostMem := t.hostMem, pmc := t.pmc
    shmx := { s.shmx with poison := t.shmx.poison } }) : onlyEvents s t := by
  have hr : t.regs = s.regs := by rw [h]
  exact ⟨by rw [hr]; exact h, fun k _ => by rw [hr]⟩

theorem onlyEvents_dmaWrite (fn a : Nat) (o : Octets) (s : State) : onlyEvents s (dmaWrite fn a o s) := by
  unfold dmaWrite
  split
  · exact onlyEvents_of_regs rfl
  · split
    · exact onlyEvents_of_regs rfl
    · exact onlyEvents_of_regs rfl

theorem onlyEvents_raiseVec (fn v itr : Nat) (s : State) : onlyEvents s (raiseVec fn v itr s) := by
  unfold raiseVec
  split
  · dsimp only
    split
    · exact onlyEvents_of_regs rfl
    · exact onlyEvents_of_regs rfl
  · exact onlyEvents_refl s

theorem onlyEvents_erLost {s t : State} (l : Tbl Nat) (h : onlyEvents s t) : onlyEvents s { t with erLost := l } :=
  onlyEvents_trans h (onlyEvents_of_regs rfl)

theorem onlyEvents_erWrite (e : EvRef) (tick obj : Nat) (data : Octets) (c : Nat) (s : State) : onlyEvents s (erWrite e tick obj data c s) := by
  unfold erWrite
  split
  · exact onlyEvents_refl s
  · dsimp only
    split
    · exact onlyEvents_erLost _ (onlyEvents_wr s _ _ _ (erKey_lost c))
    · exact onlyEvents_trans (onlyEvents_erLost _ (onlyEvents_trans (onlyEvents_dmaWrite _ _ _ s) (onlyEvents_wr _ _ _ _ (erKey_wr c))))
        (onlyEvents_raiseVec _ _ _ _)

theorem onlyEvents_each {α : Type} (l : List α) (f : α → State → State) (hf : ∀ a s, onlyEvents s (f a s)) (s : State) :
    onlyEvents s (each l f s) := by
  induction l generalizing s with
  | nil => exact onlyEvents_refl s
  | cons a l ih => exact onlyEvents_trans (hf a s) (ih _)

theorem onlyEvents_erWriteAll (e : EvRef) (reach : Nat → Bool) (tick obj : Nat) (data : Octets) (s : State) :
    onlyEvents s (erWriteAll e reach tick obj data s) := onlyEvents_each _ _ (fun c s => onlyEvents_erWrite e tick obj data c s) s

/-- An event changes event flags, counts, vectors and event rings, and nothing else. -/
theorem onlyEvents_postAt (e : EvRef) (tick obj : Nat) (data : Octets) (s : State) : onlyEvents s (postAt e tick obj data s) :=
  onlyEvents_trans (onlyEvents_of_regs (t := setFlagAll e (count e.ctr obj 1 s)) rfl) (onlyEvents_erWriteAll _ _ _ _ _ _)

theorem onlyEvents_post (e : EvRef) (obj : Nat) (s : State) : onlyEvents s (post e obj s) := onlyEvents_postAt _ _ _ _ s

theorem onlyEvents_postTo (e : EvRef) (fn obj : Nat) (s : State) : onlyEvents s (postTo e fn obj s) := by
  have h : onlyEvents s (setFlag e (fn + 1) (count e.ctr obj 1 s)) := onlyEvents_of_regs rfl
  unfold postTo onlyIf
  dsimp only
  split
  · exact onlyEvents_trans h (onlyEvents_erWrite _ _ _ _ _ _)
  · exact h

/-- With no event ring enabled, an event is a count and a flag in every copy. -/
theorem postAt_noRings (e : EvRef) (tick obj : Nat) (data : Octets) (s : State) (h : noRings s = true) :
    postAt e tick obj data s = setFlagAll e (count e.ctr obj 1 s) := by
  have hc : erCopies (setFlagAll e (count e.ctr obj 1 s)) = [] := List.isEmpty_iff.1 h
  simp only [postAt, erWriteAll, hc, List.filter_nil, each, List.foldl_nil]

theorem rd_of_onlyEvents {s t : State} (h : onlyEvents s t) (c : Nat) (f : FieldRef) (hk : erKey (f.key c) = false) : t.rd c f = s.rd c f := by
  unfold State.rd tgetD
  rw [h.2 _ hk]

theorem ef_of_onlyEvents {s t : State} (h : onlyEvents s t) (f : FieldRef) : t.ef f = s.ef f := by
  have := congrArg State.eff h.1
  unfold State.ef
  rw [this]

/-! ### Command registers -/

/-- A command register that takes a command runs its body. -/
theorem command_takes (b : Blk) (st : StatRef) (ov : EvRef) (w : Win) (body : State → State) (s : State) (hw : w.c = w.fn + 1)
    (h : s.takes b st w.fn = true) : command b st ov w body s = body s := by
  simp only [State.takes, Bool.and_eq_true, bne_iff_ne, ne_eq, Bool.not_eq_true'] at h
  obtain ⟨⟨⟨h1, h2⟩, h3⟩, h4⟩ := h
  simp [command, hw, h1, h2, h3, h4]

/-- A write that reaches its register has its effect. -/
theorem writeAtDoor_takes (b : Blk) (fn off : Nat) (body : State → State) (s : State) (h : s.takesWrite b fn = true) :
    writeAtDoor b fn off body s = body s := by
  simp only [State.takesWrite, Bool.and_eq_true, Bool.not_eq_true'] at h
  obtain ⟨⟨h1, h2⟩, h3⟩ := h
  simp [writeAtDoor, h1, h2, h3]

/-- A completion writes only the window's status fields, and notes the tick for a ring's instance. -/
theorem onlyCopy_complete (st : StatRef) (w : Win) (code cause : Nat) (s : State) (hw : w.c < 1024) (hs : ∀ f ∈ [st.code, st.busy], f.off < 0x4000 ∧ f.lo < 32 ∧ f.blk.code < 32)
    (hc : ∀ f ∈ st.cause, f.off < 0x4000 ∧ f.lo < 32 ∧ f.blk.code < 32) : onlyCopy w.c s (complete st w code cause s) := by
  have h1 := hs st.code (by simp)
  have h2 := hs st.busy (by simp)
  have key (f : FieldRef) (hf : f.off < 0x4000 ∧ f.lo < 32 ∧ f.blk.code < 32) : f.key w.c / 2 ^ 24 = w.c := by
    unfold FieldRef.key
    omega
  have ne (f : FieldRef) (hf : f.off < 0x4000 ∧ f.lo < 32 ∧ f.blk.code < 32) (k : Nat) (hk : k / 2 ^ 24 ≠ w.c) : k ≠ f.key w.c := by
    rintro rfl
    exact hk (key f hf)
  unfold complete noteDone
  rw [if_pos hw]
  dsimp only
  split
  · rename_i f e
    have h3 := hc f (by simp [e])
    refine ⟨rfl, fun k hk => ?_⟩
    exact ((tget_tset_ne _ _ (ne f h3 k hk)).trans (tget_tset_ne _ _ (ne _ h2 k hk))).trans (tget_tset_ne _ _ (ne _ h1 k hk))
  · refine ⟨rfl, fun k hk => ?_⟩
    exact (tget_tset_ne _ _ (ne _ h2 k hk)).trans (tget_tset_ne _ _ (ne _ h1 k hk))

end Sys2Proof.Machine
end

