-- ==== Sys2Proof/Laws/KeepOps.lean ====
section
/-! SUPPORT. What the operations of Ops keep: the canonical form of the memories and of the register file. -/

set_option Elab.async false

set_option linter.unusedSimpArgs false
set_option linter.unusedTactic false
set_option linter.unreachableTactic false

namespace Sys2Proof.Machine

/-- An operation keeps well-formed states well-formed. -/
abbrev Keeps (f : State → State) : Prop := ∀ s, s.wf = true → (f s).wf = true

theorem State.wf_iff (s : State) : s.wf = true ↔
    Memory.wf s.shm = true ∧ Memory.wf s.hostMem = true ∧ Memory.wf s.rst.flash = true ∧ twf s.regs = true ∧ twf s.eff = true := by
  simp only [State.wf, Bool.and_eq_true, and_assoc]

/-- A change outside the five parts. -/
theorem wf_of_eq {s t : State} (h : s.wf = true) (h1 : t.shm = s.shm) (h2 : t.hostMem = s.hostMem) (h3 : t.rst.flash = s.rst.flash)
    (h4 : t.regs = s.regs) (h5 : t.eff = s.eff) : t.wf = true := by
  rw [State.wf_iff] at *
  rw [h1, h2, h3, h4, h5]
  exact h

theorem pair_wf {α : Type} {p : α × State} {a : α} {t : State} (e : p = (a, t)) (h : p.2.wf = true) : t.wf = true := by
  subst e
  exact h

/-- A record update outside the five parts. -/
theorem wf_upd {X : State} {a_pending : List Instr} {a_frc : Nat} {a_evtAll : Tbl Nat} {a_evtOwn : Tbl Nat} {a_reqs : List Req} {a_cgs : Tbl CgArm}
    {a_vecs : Tbl Vec} {a_erLost : Tbl Nat} {a_fresh : Nat} {a_tb : TbSt} {a_flt : FltSt} {a_pmc : PmcSt} {a_rst : RstSt} {a_bnd : BndSt} {a_hif :
    HifSt} {a_refs : RefSt} {a_stw : StwSt} {a_srv : SrvSt} {a_out : OutSt} {a_tdc : TdcSt} {a_gn : GnSt} {a_prt : PrtSt} {a_sve : SveSt} {a_sec :
    SecSt} {a_sch : SchSt} {a_pol : PolSt} {a_shmx : ShmSt} {a_ks : KsSt} {a_ubw : UbwSt} {a_mate : MateSt} {a_pwr : PwrSt} {a_mgp : MgpSt} (hf : a_rst.flash = X.rst.flash) :
    (State.mk a_pending a_frc X.regs X.eff a_evtAll a_evtOwn a_reqs a_cgs a_vecs a_erLost X.shm X.hostMem a_fresh a_tb a_flt a_pmc a_rst a_bnd a_hif
    a_refs a_stw a_srv a_out a_tdc a_gn a_prt a_sve a_sec a_sch a_pol a_shmx a_ks a_ubw a_mate a_pwr a_mgp).wf = X.wf := by
  unfold State.wf
  rw [hf]


theorem State.wr_keeps (c : Nat) (f : FieldRef) (v : Nat) : Keeps (State.wr c f v) := by
  intro s h
  rw [State.wf_iff] at h ⊢
  exact ⟨h.1, h.2.1, h.2.2.1, twf_tset _ _ _ h.2.2.2.1, h.2.2.2.2⟩

theorem State.wrEff_keeps (f : FieldRef) (v : Nat) : Keeps (State.wrEff f v) := by
  intro s h
  rw [State.wf_iff] at h ⊢
  exact ⟨h.1, h.2.1, h.2.2.1, h.2.2.2.1, twf_tset _ _ _ h.2.2.2.2⟩

theorem State.wr64_keeps (c : Nat) (lo hi : FieldRef) (v : Nat) : Keeps (State.wr64 c lo hi v) := fun s h =>
  State.wr_keeps _ _ _ _ (State.wr_keeps _ _ _ s h)

theorem State.wrBoth_keeps (f : FieldRef) (v : Nat) : Keeps (State.wrBoth f v) := fun s h => State.wr_keeps _ _ _ _ (State.wrEff_keeps _ _ s h)

theorem each_keeps {α : Type} (l : List α) (f : α → State → State) (hf : ∀ a, Keeps (f a)) : Keeps (each l f) := by
  intro s h
  induction l generalizing s with
  | nil => exact h
  | cons a l ih => exact ih _ (hf a s h)

theorem onlyIf_keeps (b : Bool) (f : State → State) (hf : Keeps f) : Keeps (onlyIf b f) := by
  intro s h
  unfold onlyIf
  split
  · exact hf s h
  · exact h

theorem State.free_keeps (w : Nat) : ∀ s : State, s.wf = true → (State.free w s).2.wf = true := fun s h =>
  wf_of_eq (t := (State.free w s).2) h rfl rfl rfl rfl rfl

theorem State.shmWrite_keeps (a : Nat) (o : Octets) : Keeps (State.shmWrite a o) := by
  intro s h
  rw [State.wf_iff] at h ⊢
  exact ⟨wf_csetAll _ _ _ h.1, h.2⟩

theorem foldl_keeps {α : Type} (l : List α) (f : State → α → State) (hf : ∀ a s, s.wf = true → (f s a).wf = true) :
    ∀ s, s.wf = true → (l.foldl f s).wf = true := by
  induction l with
  | nil => exact fun s h => h
  | cons a l ih => exact fun s h => ih _ (hf a s h)

theorem foldlPair_keeps {α β : Type} (l : List α) (f : β × State → α → β × State) (hf : ∀ a r, r.2.wf = true → (f r a).2.wf = true) :
    ∀ r, r.2.wf = true → (l.foldl f r).2.wf = true := by
  induction l with
  | nil => exact fun s h => h
  | cons a l ih => exact fun s h => ih _ (hf a s h)

theorem count_keeps (ev obj k : Nat) : Keeps (count ev obj k) := by
  intro s h
  unfold count
  try dsimp only [State.free, id]
  repeat' (first
    | with_reducible assumption
    | simp only [wf_upd]
    | with_reducible rfl
    | split
    | intro _ _ _
    | intro _ _
    | intro _
    | dsimp only [State.free, id])

theorem sendVec_keeps (fn v itrUs : Nat) : Keeps (sendVec fn v itrUs) := by
  intro s h
  unfold sendVec
  try dsimp only [State.free, id]
  repeat' (first
    | with_reducible assumption
    | simp only [wf_upd]
    | with_reducible rfl
    | split
    | intro _ _ _
    | intro _ _
    | intro _
    | dsimp only [State.free, id])

theorem raiseVec_keeps (fn v itrUs : Nat) : Keeps (raiseVec fn v itrUs) := by
  intro s h
  unfold raiseVec
  try dsimp only [State.free, id]
  repeat' (first
    | with_reducible assumption
    | with_reducible apply sendVec_keeps
    | simp only [wf_upd]
    | with_reducible rfl
    | split
    | intro _ _ _
    | intro _ _
    | intro _
    | dsimp only [State.free, id])

theorem dmaWrite_keeps (fn a : Nat) (o : Octets) : Keeps (dmaWrite fn a o) := by
  intro s h
  unfold dmaWrite
  split
  · exact State.shmWrite_keeps _ _ s h
  · split
    · refine count_keeps _ _ _ _ ?_
      rw [State.wf_iff] at h ⊢
      exact ⟨h.1, wf_csetAll _ _ _ h.2.1, h.2.2⟩
    · exact count_keeps _ _ _ s h

theorem erWrite_keeps (e : EvRef) (tick obj : Nat) (data : Octets) (c : Nat) : Keeps (erWrite e tick obj data c) := by
  intro s h
  unfold erWrite
  try dsimp only [State.free, id]
  repeat' (first
    | with_reducible assumption
    | with_reducible apply State.wr_keeps
    | with_reducible apply raiseVec_keeps
    | with_reducible apply dmaWrite_keeps
    | simp only [wf_upd]
    | with_reducible rfl
    | split
    | intro _ _ _
    | intro _ _
    | intro _
    | dsimp only [State.free, id])

theorem setFlag_keeps (e : EvRef) (c : Nat) : Keeps (setFlag e c) := by
  intro s h
  unfold setFlag
  try dsimp only [State.free, id]
  repeat' (first
    | with_reducible assumption
    | simp only [wf_upd]
    | with_reducible rfl
    | split
    | intro _ _ _
    | intro _ _
    | intro _
    | dsimp only [State.free, id])

theorem setFlagAll_keeps (e : EvRef) : Keeps (setFlagAll e) := by
  intro s h
  unfold setFlagAll
  try dsimp only [State.free, id]
  repeat' (first
    | with_reducible assumption
    | simp only [wf_upd]
    | with_reducible rfl
    | split
    | intro _ _ _
    | intro _ _
    | intro _
    | dsimp only [State.free, id])

theorem erWriteAll_keeps (e : EvRef) (reach : Nat → Bool) (tick obj : Nat) (data : Octets) : Keeps (erWriteAll e reach tick obj data) := by
  intro s h
  unfold erWriteAll
  try dsimp only [State.free, id]
  repeat' (first
    | with_reducible assumption
    | with_reducible apply erWrite_keeps
    | with_reducible apply each_keeps
    | simp only [wf_upd]
    | with_reducible rfl
    | split
    | intro _ _ _
    | intro _ _
    | intro _
    | dsimp only [State.free, id])

theorem postAt_keeps (e : EvRef) (tick obj : Nat) (data : Octets) : Keeps (postAt e tick obj data) := by
  intro s h
  unfold postAt
  try dsimp only [State.free, id]
  repeat' (first
    | with_reducible assumption
    | with_reducible apply erWriteAll_keeps
    | with_reducible apply setFlagAll_keeps
    | with_reducible apply count_keeps
    | simp only [wf_upd]
    | with_reducible rfl
    | split
    | intro _ _ _
    | intro _ _
    | intro _
    | dsimp only [State.free, id])

theorem postD_keeps (e : EvRef) (obj : Nat) (data : Octets) : Keeps (postD e obj data) := by
  intro s h
  unfold postD
  try dsimp only [State.free, id]
  repeat' (first
    | with_reducible assumption
    | with_reducible apply postAt_keeps
    | simp only [wf_upd]
    | with_reducible rfl
    | split
    | intro _ _ _
    | intro _ _
    | intro _
    | dsimp only [State.free, id])

theorem post_keeps (e : EvRef) (obj : Nat) : Keeps (post e obj) := by
  intro s h
  unfold post
  try dsimp only [State.free, id]
  repeat' (first
    | with_reducible assumption
    | with_reducible apply postD_keeps
    | simp only [wf_upd]
    | with_reducible rfl
    | split
    | intro _ _ _
    | intro _ _
    | intro _
    | dsimp only [State.free, id])

theorem postReach_keeps (e : EvRef) (reach : Nat → Bool) (tick obj : Nat) (data : Octets) : Keeps (postReach e reach tick obj data) := by
  intro s h
  unfold postReach
  try dsimp only [State.free, id]
  repeat' (first
    | with_reducible assumption
    | with_reducible apply erWriteAll_keeps
    | with_reducible apply setFlag_keeps
    | with_reducible apply count_keeps
    | with_reducible apply each_keeps
    | simp only [wf_upd]
    | with_reducible rfl
    | split
    | intro _ _ _
    | intro _ _
    | intro _
    | dsimp only [State.free, id])

theorem postTo_keeps (e : EvRef) (fn obj : Nat) : Keeps (postTo e fn obj) := by
  intro s h
  unfold postTo
  try dsimp only [State.free, id]
  repeat' (first
    | with_reducible assumption
    | with_reducible apply setFlag_keeps
    | with_reducible apply count_keeps
    | with_reducible apply erWrite_keeps
    | with_reducible apply onlyIf_keeps
    | simp only [wf_upd]
    | with_reducible rfl
    | split
    | intro _ _ _
    | intro _ _
    | intro _
    | dsimp only [State.free, id])

theorem poisonUsed_keeps (m a : Nat) : Keeps (poisonUsed m a) := by
  intro s h
  unfold poisonUsed
  try dsimp only [State.free, id]
  repeat' (first
    | with_reducible assumption
    | with_reducible apply State.wr_keeps
    | with_reducible apply post_keeps
    | simp only [wf_upd]
    | with_reducible rfl
    | split
    | intro _ _ _
    | intro _ _
    | intro _
    | dsimp only [State.free, id])

theorem noteDone_keeps (c : Nat) : Keeps (noteDone c) := by
  intro s h
  unfold noteDone
  try dsimp only [State.free, id]
  repeat' (first
    | with_reducible assumption
    | simp only [wf_upd]
    | with_reducible rfl
    | split
    | intro _ _ _
    | intro _ _
    | intro _
    | dsimp only [State.free, id])

theorem complete_keeps (st : StatRef) (w : Win) (code cause : Nat) : Keeps (complete st w code cause) := by
  intro s h
  unfold complete
  try dsimp only [State.free, id]
  repeat' (first
    | with_reducible assumption
    | with_reducible apply noteDone_keeps
    | with_reducible apply State.wr_keeps
    | simp only [wf_upd]
    | with_reducible rfl
    | split
    | intro _ _ _
    | intro _ _
    | intro _
    | dsimp only [State.free, id])

theorem completeOk_keeps (st : StatRef) (w : Win) : Keeps (completeOk st w) := by
  intro s h
  unfold completeOk
  try dsimp only [State.free, id]
  repeat' (first
    | with_reducible assumption
    | with_reducible apply complete_keeps
    | simp only [wf_upd]
    | with_reducible rfl
    | split
    | intro _ _ _
    | intro _ _
    | intro _
    | dsimp only [State.free, id])

theorem refuse_keeps (st : StatRef) (w : Win) (cause : Nat) : Keeps (refuse st w cause) := by
  intro s h
  unfold refuse
  try dsimp only [State.free, id]
  repeat' (first
    | with_reducible assumption
    | with_reducible apply complete_keeps
    | simp only [wf_upd]
    | with_reducible rfl
    | split
    | intro _ _ _
    | intro _ _
    | intro _
    | dsimp only [State.free, id])

theorem command_keeps (b : Blk) (st : StatRef) (overrun : EvRef) (w : Win) (body : State → State) (hbody : Keeps body) : Keeps (command b st overrun w body) := by
  intro s h
  unfold command
  try dsimp only [State.free, id]
  repeat' (first
    | with_reducible assumption
    | with_reducible apply postTo_keeps
    | with_reducible apply refuse_keeps
    | with_reducible apply complete_keeps
    | apply hbody
    | simp only [wf_upd]
    | with_reducible rfl
    | split
    | intro _ _ _
    | intro _ _
    | intro _
    | dsimp only [State.free, id])

theorem accept_keeps (b : Blk) (st : StatRef) (w : Win) (op obj : Nat) : Keeps (accept b st w op obj) := by
  intro s h
  unfold accept
  try dsimp only [State.free, id]
  repeat' (first
    | with_reducible assumption
    | with_reducible apply State.wr_keeps
    | simp only [wf_upd]
    | with_reducible rfl
    | split
    | intro _ _ _
    | intro _ _
    | intro _
    | dsimp only [State.free, id])

theorem finish_keeps (b : Blk) (op obj code cause : Nat) : Keeps (finish b op obj code cause) := by
  intro s h
  unfold finish
  try dsimp only [State.free, id]
  repeat' (first
    | with_reducible assumption
    | with_reducible apply complete_keeps
    | with_reducible apply each_keeps
    | simp only [wf_upd]
    | with_reducible rfl
    | split
    | intro _ _ _
    | intro _ _
    | intro _
    | dsimp only [State.free, id])

theorem accFail_keeps (fn code addr : Nat) : Keeps (accFail fn code addr) := by
  intro s h
  unfold accFail
  try dsimp only [State.free, id]
  repeat' (first
    | with_reducible assumption
    | with_reducible apply State.wr_keeps
    | simp only [wf_upd]
    | with_reducible rfl
    | split
    | intro _ _ _
    | intro _ _
    | intro _
    | dsimp only [State.free, id])

theorem dropShadows_keeps (fs : List FieldRef) : Keeps (dropShadows fs) := by
  intro s h
  unfold dropShadows
  try dsimp only [State.free, id]
  repeat' (first
    | with_reducible assumption
    | with_reducible apply State.wr_keeps
    | with_reducible apply each_keeps
    | simp only [wf_upd]
    | with_reducible rfl
    | split
    | intro _ _ _
    | intro _ _
    | intro _
    | dsimp only [State.free, id])

theorem commitShadows_keeps (fs : List FieldRef) : Keeps (commitShadows fs) := by
  intro s h
  unfold commitShadows
  try dsimp only [State.free, id]
  repeat' (first
    | with_reducible assumption
    | with_reducible apply State.wrEff_keeps
    | with_reducible apply each_keeps
    | simp only [wf_upd]
    | with_reducible rfl
    | split
    | intro _ _ _
    | intro _ _
    | intro _
    | dsimp only [State.free, id])

theorem setArm_keeps (g : Nat) (a : CgArm) : Keeps (setArm g a) := by
  intro s h
  unfold setArm
  try dsimp only [State.free, id]
  repeat' (first
    | with_reducible assumption
    | simp only [wf_upd]
    | with_reducible rfl
    | split
    | intro _ _ _
    | intro _ _
    | intro _
    | dsimp only [State.free, id])

theorem dropArm_keeps (g : Nat) : Keeps (dropArm g) := by
  intro s h
  unfold dropArm
  try dsimp only [State.free, id]
  repeat' (first
    | with_reducible assumption
    | simp only [wf_upd]
    | with_reducible rfl
    | split
    | intro _ _ _
    | intro _ _
    | intro _
    | dsimp only [State.free, id])

theorem dropKey_keeps (k : Nat) : Keeps (dropKey k) := by
  intro s h
  unfold dropKey
  rw [State.wf_iff] at h ⊢
  refine ⟨h.1, h.2.1, h.2.2.1, ?_, h.2.2.2.2⟩
  dsimp only
  split
  · exact twf_tset _ _ _ h.2.2.2.1
  · exact twf_tdel _ _ h.2.2.2.1

theorem cgDrop_keeps (g : Nat) : Keeps (cgDrop g) := by
  intro s h
  unfold cgDrop
  try dsimp only [State.free, id]
  repeat' (first
    | with_reducible assumption
    | with_reducible apply dropArm_keeps
    | with_reducible apply dropKey_keeps
    | with_reducible apply State.wr_keeps
    | with_reducible apply each_keeps
    | simp only [wf_upd]
    | with_reducible rfl
    | split
    | intro _ _ _
    | intro _ _
    | intro _
    | dsimp only [State.free, id])

end Sys2Proof.Machine
end

