-- ==== Sys2Proof/Laws/KeepVcStep.lean ====
section
/-! SUPPORT. What the operations of VcStep keep: the canonical form of the memories and of the register file. -/

set_option Elab.async false

set_option linter.unusedSimpArgs false
set_option linter.unusedTactic false
set_option linter.unreachableTactic false

namespace Sys2Proof.Machine

theorem State.setPo_keeps (n : Nat) (p : PulseOut) : Keeps (State.setPo n p) := by
  intro s h
  unfold State.setPo
  try dsimp only [State.free, id]
  repeat' (first
    | with_reducible assumption
    | simp only [wf_upd]
    | with_reducible rfl
    | split
    | intro _ _ _
    | intro _ _
    | intro _
    | dsimp only [State.free, id])

theorem State.setClk_keeps (n : Nat) (c : ClkOut) : Keeps (State.setClk n c) := by
  intro s h
  unfold State.setClk
  try dsimp only [State.free, id]
  repeat' (first
    | with_reducible assumption
    | simp only [wf_upd]
    | with_reducible rfl
    | split
    | intro _ _ _
    | intro _ _
    | intro _
    | dsimp only [State.free, id])

theorem syncMisalign_keeps (n : Nat) : Keeps (syncMisalign n) := by
  intro s h
  unfold syncMisalign
  try dsimp only [State.free, id]
  repeat' (first
    | with_reducible assumption
    | with_reducible apply State.wr64_keeps
    | with_reducible apply post_keeps
    | with_reducible apply State.wr_keeps
    | with_reducible apply onlyIf_keeps
    | simp only [wf_upd]
    | with_reducible rfl
    | split
    | intro _ _ _
    | intro _ _
    | intro _
    | dsimp only [State.free, id])

theorem vcStepped_keeps (n tick : Nat) (d : Int) : Keeps (vcStepped n tick d) := by
  intro s h
  unfold vcStepped
  try dsimp only [State.free, id]
  repeat' (first
    | with_reducible assumption
    | with_reducible apply syncMisalign_keeps
    | with_reducible apply State.setPo_keeps
    | with_reducible apply each_keeps
    | simp only [wf_upd]
    | with_reducible rfl
    | split
    | intro _ _ _
    | intro _ _
    | intro _
    | dsimp only [State.free, id])

theorem syncDriving_keeps  : Keeps syncDriving := by
  intro s h
  unfold syncDriving
  try dsimp only [State.free, id]
  repeat' (first
    | with_reducible assumption
    | with_reducible apply State.wr_keeps
    | with_reducible apply each_keeps
    | simp only [wf_upd]
    | with_reducible rfl
    | split
    | intro _ _ _
    | intro _ _
    | intro _
    | dsimp only [State.free, id])

end Sys2Proof.Machine
end

