-- ==== Sys2Proof/Laws/KeepVclock.lean ====
section
/-! SUPPORT. What the operations of Vclock keep: the canonical form of the memories and of the register file. -/

set_option Elab.async false

set_option linter.unusedSimpArgs false
set_option linter.unusedTactic false
set_option linter.unreachableTactic false

namespace Sys2Proof.Machine

theorem State.setVc_keeps (n : Nat) (v : Vc) : Keeps (State.setVc n v) := by
  intro s h
  unfold State.setVc
  try dsimp only [State.free, id]
  repeat' (first
    | with_reducible assumption
    | simp only [wf_upd]
    | with_reducible rfl
    | split
    | intro _ _ _
    | intro _ _
    | intro _
    | dsimp only [State.free, id])

theorem childLeaps_keeps (n c : Nat) : Keeps (childLeaps n c) := by
  intro s h
  unfold childLeaps
  split
  · exact h
  · exact h

theorem syncTb_keeps  : Keeps syncTb := by
  intro s h
  unfold syncTb
  try dsimp only [State.free, id]
  repeat' (first
    | with_reducible assumption
    | with_reducible apply State.wr_keeps
    | simp only [wf_upd]
    | with_reducible rfl
    | split
    | intro _ _ _
    | intro _ _
    | intro _
    | dsimp only [State.free, id])

theorem syncBound_keeps  : Keeps syncBound := by
  intro s h
  unfold syncBound
  try dsimp only [State.free, id]
  repeat' (first
    | with_reducible assumption
    | with_reducible apply State.wr_keeps
    | with_reducible apply post_keeps
    | with_reducible apply onlyIf_keeps
    | simp only [wf_upd]
    | with_reducible rfl
    | split
    | intro _ _ _
    | intro _ _
    | intro _
    | dsimp only [State.free, id])

end Sys2Proof.Machine
end

