-- ==== Sys2Proof/Laws/KeepTimebase.lean ====
section
/-! SUPPORT. What the operations of Timebase keep: the canonical form of the memories and of the register file. -/

set_option Elab.async false

set_option linter.unusedSimpArgs false
set_option linter.unusedTactic false
set_option linter.unreachableTactic false

namespace Sys2Proof.Machine

theorem writeAtDoor_keeps (b : Blk) (fn off : Nat) (body : State → State) (hbody : Keeps body) : Keeps (writeAtDoor b fn off body) := by
  intro s h
  unfold writeAtDoor
  try dsimp only [State.free, id]
  repeat' (first
    | with_reducible assumption
    | with_reducible apply accFail_keeps
    | with_reducible apply postTo_keeps
    | apply hbody
    | simp only [wf_upd]
    | with_reducible rfl
    | split
    | intro _ _ _
    | intro _ _
    | intro _
    | dsimp only [State.free, id])

theorem writeCg0Ctrl_keeps (fn kind : Nat) (arm abort : Bool) : Keeps (writeCg0Ctrl fn kind arm abort) := by
  intro s h
  unfold writeCg0Ctrl
  try dsimp only [State.free, id]
  repeat' (first
    | with_reducible assumption
    | with_reducible apply postTo_keeps
    | with_reducible apply State.wr_keeps
    | with_reducible apply post_keeps
    | with_reducible apply dropArm_keeps
    | with_reducible apply dropShadows_keeps
    | with_reducible apply setArm_keeps
    | with_reducible apply writeAtDoor_keeps
    | with_reducible apply onlyIf_keeps
    | simp only [wf_upd]
    | with_reducible rfl
    | split
    | intro _ _ _
    | intro _ _
    | intro _
    | dsimp only [State.free, id])

theorem readFrcLo_keeps (c : Nat) : Keeps (readFrcLo c) := by
  intro s h
  unfold readFrcLo
  try dsimp only [State.free, id]
  repeat' (first
    | with_reducible assumption
    | with_reducible apply State.wr_keeps
    | simp only [wf_upd]
    | with_reducible rfl
    | split
    | intro _ _ _
    | intro _ _
    | intro _
    | dsimp only [State.free, id])

theorem wrCapTime_keeps (c t : Nat) : Keeps (wrCapTime c t) := by
  intro s h
  unfold wrCapTime
  try dsimp only [State.free, id]
  repeat' (first
    | with_reducible assumption
    | with_reducible apply State.wr_keeps
    | with_reducible apply each_keeps
    | simp only [wf_upd]
    | with_reducible rfl
    | split
    | intro _ _ _
    | intro _ _
    | intro _
    | dsimp only [State.free, id])

theorem capture_keeps (w : Win) (n : Nat) : Keeps (capture w n) := by
  intro s h
  unfold capture
  try dsimp only [State.free, id]
  repeat' (first
    | with_reducible assumption
    | with_reducible apply State.wr_keeps
    | with_reducible apply wrCapTime_keeps
    | with_reducible apply State.wr64_keeps
    | with_reducible apply each_keeps
    | simp only [wf_upd]
    | with_reducible rfl
    | split
    | intro _ _ _
    | intro _ _
    | intro _
    | dsimp only [State.free, id])

theorem opCapture_keeps (w : Win) (n : Nat) : Keeps (opCapture w n) := by
  intro s h
  unfold opCapture
  try dsimp only [State.free, id]
  repeat' (first
    | with_reducible assumption
    | with_reducible apply capture_keeps
    | with_reducible apply writeAtDoor_keeps
    | simp only [wf_upd]
    | with_reducible rfl
    | split
    | intro _ _ _
    | intro _ _
    | intro _
    | dsimp only [State.free, id])

theorem emptyLatch_keeps (c : Nat) : Keeps (emptyLatch c) := by
  intro s h
  unfold emptyLatch
  try dsimp only [State.free, id]
  repeat' (first
    | with_reducible assumption
    | with_reducible apply State.wr_keeps
    | with_reducible apply each_keeps
    | simp only [wf_upd]
    | with_reducible rfl
    | split
    | intro _ _ _
    | intro _ _
    | intro _
    | dsimp only [State.free, id])

theorem writeVcSel_keeps (w : Win) (n : Nat) : Keeps (writeVcSel w n) := by
  intro s h
  unfold writeVcSel
  try dsimp only [State.free, id]
  repeat' (first
    | with_reducible assumption
    | with_reducible apply emptyLatch_keeps
    | with_reducible apply State.wr_keeps
    | with_reducible apply writeAtDoor_keeps
    | simp only [wf_upd]
    | with_reducible rfl
    | split
    | intro _ _ _
    | intro _ _
    | intro _
    | dsimp only [State.free, id])

theorem readVcBase0_keeps (w : Win) : Keeps (readVcBase0 w) := by
  intro s h
  unfold readVcBase0
  try dsimp only [State.free, id]
  repeat' (first
    | with_reducible assumption
    | with_reducible apply emptyLatch_keeps
    | with_reducible apply State.wr_keeps
    | with_reducible apply State.wr64_keeps
    | with_reducible apply each_keeps
    | simp only [wf_upd]
    | with_reducible rfl
    | split
    | intro _ _ _
    | intro _ _
    | intro _
    | dsimp only [State.free, id])

theorem vcCommand_keeps (w : Win) (body : Nat → State → State) (hbody : ∀ a0, Keeps (body a0)) : Keeps (vcCommand w body) := by
  intro s h
  unfold vcCommand
  try dsimp only [State.free, id]
  repeat' (first
    | with_reducible assumption
    | with_reducible apply command_keeps
    | apply hbody
    | simp only [wf_upd]
    | with_reducible rfl
    | split
    | intro _ _ _
    | intro _ _
    | intro _
    | dsimp only [State.free, id])

theorem vcOk_keeps (w : Win) : Keeps (vcOk w) := by
  intro s h
  unfold vcOk
  try dsimp only [State.free, id]
  repeat' (first
    | with_reducible assumption
    | with_reducible apply completeOk_keeps
    | simp only [wf_upd]
    | with_reducible rfl
    | split
    | intro _ _ _
    | intro _ _
    | intro _
    | dsimp only [State.free, id])

theorem vcRefuse_keeps (w : Win) : Keeps (vcRefuse w) := by
  intro s h
  unfold vcRefuse
  try dsimp only [State.free, id]
  repeat' (first
    | with_reducible assumption
    | with_reducible apply refuse_keeps
    | simp only [wf_upd]
    | with_reducible rfl
    | split
    | intro _ _ _
    | intro _ _
    | intro _
    | dsimp only [State.free, id])

theorem opVcSet_keeps (w : Win) (offset frcTime : Bool) : Keeps (opVcSet w offset frcTime) := by
  intro s h
  unfold opVcSet
  try dsimp only [State.free, id]
  repeat' (first
    | with_reducible assumption
    | with_reducible apply vcRefuse_keeps
    | with_reducible apply postTo_keeps
    | with_reducible apply vcOk_keeps
    | with_reducible apply syncTb_keeps
    | with_reducible apply State.setVc_keeps
    | with_reducible apply childLeaps_keeps
    | with_reducible apply vcCommand_keeps
    | simp only [wf_upd]
    | with_reducible rfl
    | split
    | intro _ _ _
    | intro _ _
    | intro _
    | dsimp only [State.free, id])

theorem zeroR0_keeps  : Keeps zeroR0 := by
  intro s h
  unfold zeroR0
  try dsimp only [State.free, id]
  repeat' (first
    | with_reducible assumption
    | with_reducible apply State.wrBoth_keeps
    | simp only [wf_upd]
    | with_reducible rfl
    | split
    | intro _ _ _
    | intro _ _
    | intro _
    | dsimp only [State.free, id])

theorem enterUnsetFrom_keeps (n c : Nat) (old : Int) : Keeps (enterUnsetFrom n c old) := by
  intro s h
  unfold enterUnsetFrom
  try dsimp only [State.free, id]
  repeat' (first
    | with_reducible assumption
    | with_reducible apply State.setVc_keeps
    | with_reducible apply childLeaps_keeps
    | with_reducible apply vcStepped_keeps
    | with_reducible apply syncBound_keeps
    | with_reducible apply syncTb_keeps
    | with_reducible apply zeroR0_keeps
    | with_reducible apply onlyIf_keeps
    | simp only [wf_upd]
    | with_reducible rfl
    | split
    | intro _ _ _
    | intro _ _
    | intro _
    | dsimp only [State.free, id])

theorem enterUnset_keeps (n c : Nat) : Keeps (enterUnset n c) := by
  intro s h
  unfold enterUnset
  try dsimp only [State.free, id]
  repeat' (first
    | with_reducible assumption
    | with_reducible apply enterUnsetFrom_keeps
    | simp only [wf_upd]
    | with_reducible rfl
    | split
    | intro _ _ _
    | intro _ _
    | intro _
    | dsimp only [State.free, id])

theorem opVcAbort_keeps (w : Win) : Keeps (opVcAbort w) := by
  intro s h
  unfold opVcAbort
  try dsimp only [State.free, id]
  repeat' (first
    | with_reducible assumption
    | with_reducible apply vcRefuse_keeps
    | with_reducible apply State.setVc_keeps
    | with_reducible apply childLeaps_keeps
    | with_reducible apply vcOk_keeps
    | with_reducible apply enterUnset_keeps
    | with_reducible apply vcCommand_keeps
    | with_reducible apply onlyIf_keeps
    | simp only [wf_upd]
    | with_reducible rfl
    | split
    | intro _ _ _
    | intro _ _
    | intro _
    | dsimp only [State.free, id])

theorem opVcRate_keeps (w : Win) (frcTime : Bool) : Keeps (opVcRate w frcTime) := by
  intro s h
  unfold opVcRate
  try dsimp only [State.free, id]
  repeat' (first
    | with_reducible assumption
    | with_reducible apply vcRefuse_keeps
    | with_reducible apply vcOk_keeps
    | with_reducible apply State.setVc_keeps
    | with_reducible apply childLeaps_keeps
    | with_reducible apply vcCommand_keeps
    | simp only [wf_upd]
    | with_reducible rfl
    | split
    | intro _ _ _
    | intro _ _
    | intro _
    | dsimp only [State.free, id])

theorem opVcAdjust_keeps (w : Win) (frcTime : Bool) : Keeps (opVcAdjust w frcTime) := by
  intro s h
  unfold opVcAdjust
  try dsimp only [State.free, id]
  repeat' (first
    | with_reducible assumption
    | with_reducible apply vcRefuse_keeps
    | with_reducible apply State.wr_keeps
    | with_reducible apply vcOk_keeps
    | with_reducible apply State.setVc_keeps
    | with_reducible apply childLeaps_keeps
    | with_reducible apply vcCommand_keeps
    | with_reducible apply onlyIf_keeps
    | simp only [wf_upd]
    | with_reducible rfl
    | split
    | intro _ _ _
    | intro _ _
    | intro _
    | dsimp only [State.free, id])

theorem opSchedAdd_keeps (w : Win) (kind : Nat) : Keeps (opSchedAdd w kind) := by
  intro s h
  unfold opSchedAdd
  try dsimp only [State.free, id]
  repeat' (first
    | with_reducible assumption
    | with_reducible apply vcRefuse_keeps
    | with_reducible apply vcOk_keeps
    | with_reducible apply State.setVc_keeps
    | with_reducible apply childLeaps_keeps
    | with_reducible apply State.wr_keeps
    | with_reducible apply vcCommand_keeps
    | simp only [wf_upd]
    | with_reducible rfl
    | split
    | intro _ _ _
    | intro _ _
    | intro _
    | dsimp only [State.free, id])

theorem opSchedCancel_keeps (w : Win) (slot : Nat) : Keeps (opSchedCancel w slot) := by
  intro s h
  unfold opSchedCancel
  try dsimp only [State.free, id]
  repeat' (first
    | with_reducible assumption
    | with_reducible apply vcRefuse_keeps
    | with_reducible apply vcOk_keeps
    | with_reducible apply State.setVc_keeps
    | with_reducible apply childLeaps_keeps
    | with_reducible apply vcCommand_keeps
    | simp only [wf_upd]
    | with_reducible rfl
    | split
    | intro _ _ _
    | intro _ _
    | intro _
    | dsimp only [State.free, id])

theorem opSchedClear_keeps (w : Win) : Keeps (opSchedClear w) := by
  intro s h
  unfold opSchedClear
  try dsimp only [State.free, id]
  repeat' (first
    | with_reducible assumption
    | with_reducible apply vcRefuse_keeps
    | with_reducible apply vcOk_keeps
    | with_reducible apply State.setVc_keeps
    | with_reducible apply childLeaps_keeps
    | with_reducible apply vcCommand_keeps
    | simp only [wf_upd]
    | with_reducible rfl
    | split
    | intro _ _ _
    | intro _ _
    | intro _
    | dsimp only [State.free, id])

theorem opVcRetire_keeps (w : Win) (frcTime : Bool) : Keeps (opVcRetire w frcTime) := by
  intro s h
  unfold opVcRetire
  try dsimp only [State.free, id]
  repeat' (first
    | with_reducible assumption
    | with_reducible apply vcRefuse_keeps
    | with_reducible apply vcOk_keeps
    | with_reducible apply State.setVc_keeps
    | with_reducible apply childLeaps_keeps
    | with_reducible apply vcCommand_keeps
    | simp only [wf_upd]
    | with_reducible rfl
    | split
    | intro _ _ _
    | intro _ _
    | intro _
    | dsimp only [State.free, id])

theorem opVcResetClock_keeps (w : Win) : Keeps (opVcResetClock w) := by
  intro s h
  unfold opVcResetClock
  try dsimp only [State.free, id]
  repeat' (first
    | with_reducible assumption
    | with_reducible apply vcRefuse_keeps
    | with_reducible apply vcOk_keeps
    | with_reducible apply enterUnsetFrom_keeps
    | with_reducible apply enterUnset_keeps
    | with_reducible apply vcCommand_keeps
    | with_reducible apply each_keeps
    | simp only [wf_upd]
    | with_reducible rfl
    | split
    | intro _ _ _
    | intro _ _
    | intro _
    | dsimp only [State.free, id])

theorem vcSetTick_keeps (n : Nat) : Keeps (vcSetTick n) := by
  intro s h
  unfold vcSetTick
  try dsimp only [State.free, id]
  repeat' (first
    | with_reducible assumption
    | with_reducible apply State.setVc_keeps
    | with_reducible apply childLeaps_keeps
    | with_reducible apply enterUnset_keeps
    | with_reducible apply syncBound_keeps
    | with_reducible apply syncTb_keeps
    | with_reducible apply vcStepped_keeps
    | with_reducible apply postAt_keeps
    | with_reducible apply onlyIf_keeps
    | simp only [wf_upd]
    | with_reducible rfl
    | split
    | intro _ _ _
    | intro _ _
    | intro _
    | dsimp only [State.free, id])

theorem postRateSat_keeps (n c : Nat) : Keeps (postRateSat n c) := by
  intro s h
  unfold postRateSat
  try dsimp only [State.free, id]
  repeat' (first
    | with_reducible assumption
    | with_reducible apply postReach_keeps
    | with_reducible apply onlyIf_keeps
    | simp only [wf_upd]
    | with_reducible rfl
    | split
    | intro _ _ _
    | intro _ _
    | intro _
    | dsimp only [State.free, id])

theorem vcRateTick_keeps (n : Nat) : Keeps (vcRateTick n) := by
  intro s h
  unfold vcRateTick
  try dsimp only [State.free, id]
  repeat' (first
    | with_reducible assumption
    | with_reducible apply postRateSat_keeps
    | with_reducible apply State.setVc_keeps
    | with_reducible apply childLeaps_keeps
    | simp only [wf_upd]
    | with_reducible rfl
    | split
    | intro _ _ _
    | intro _ _
    | intro _
    | dsimp only [State.free, id])

theorem targetChange_keeps (c : Nat) : Keeps (targetChange c) := by
  intro s h
  unfold targetChange
  try dsimp only [State.free, id]
  repeat' (first
    | with_reducible assumption
    | with_reducible apply State.wr64_keeps
    | simp only [wf_upd]
    | with_reducible rfl
    | split
    | intro _ _ _
    | intro _ _
    | intro _
    | dsimp only [State.free, id])

theorem vcAdjustTick_keeps (n : Nat) : Keeps (vcAdjustTick n) := by
  intro s h
  unfold vcAdjustTick
  try dsimp only [State.free, id]
  repeat' (first
    | with_reducible assumption
    | with_reducible apply targetChange_keeps
    | with_reducible apply State.setVc_keeps
    | with_reducible apply childLeaps_keeps
    | with_reducible apply postReach_keeps
    | with_reducible apply onlyIf_keeps
    | simp only [wf_upd]
    | with_reducible rfl
    | split
    | intro _ _ _
    | intro _ _
    | intro _
    | dsimp only [State.free, id])

theorem slewDone_keeps (n tick : Nat) : Keeps (slewDone n tick) := by
  intro s h
  unfold slewDone
  try dsimp only [State.free, id]
  repeat' (first
    | with_reducible assumption
    | with_reducible apply postReach_keeps
    | with_reducible apply State.setVc_keeps
    | with_reducible apply childLeaps_keeps
    | simp only [wf_upd]
    | with_reducible rfl
    | split
    | intro _ _ _
    | intro _ _
    | intro _
    | dsimp only [State.free, id])

theorem vcRetireTick_keeps (n : Nat) : Keeps (vcRetireTick n) := by
  intro s h
  unfold vcRetireTick
  try dsimp only [State.free, id]
  repeat' (first
    | with_reducible assumption
    | with_reducible apply enterUnset_keeps
    | simp only [wf_upd]
    | with_reducible rfl
    | split
    | intro _ _ _
    | intro _ _
    | intro _
    | dsimp only [State.free, id])

theorem vcParentChange_keeps (n : Nat) : Keeps (vcParentChange n) := by
  intro s h
  unfold vcParentChange
  try dsimp only [State.free, id]
  repeat' (first
    | with_reducible assumption
    | with_reducible apply State.setVc_keeps
    | with_reducible apply childLeaps_keeps
    | simp only [wf_upd]
    | with_reducible rfl
    | split
    | intro _ _ _
    | intro _ _
    | intro _
    | dsimp only [State.free, id])

theorem segmentActivation_keeps (n i tick : Nat) : Keeps (segmentActivation n i tick) := by
  intro s h
  unfold segmentActivation
  try dsimp only [State.free, id]
  repeat' (first
    | with_reducible assumption
    | with_reducible apply State.setVc_keeps
    | with_reducible apply childLeaps_keeps
    | with_reducible apply postReach_keeps
    | with_reducible apply vcStepped_keeps
    | with_reducible apply postRateSat_keeps
    | simp only [wf_upd]
    | with_reducible rfl
    | split
    | intro _ _ _
    | intro _ _
    | intro _
    | dsimp only [State.free, id])

theorem rampDone_keeps (n tick : Nat) : Keeps (rampDone n tick) := by
  intro s h
  unfold rampDone
  try dsimp only [State.free, id]
  repeat' (first
    | with_reducible assumption
    | with_reducible apply State.setVc_keeps
    | with_reducible apply childLeaps_keeps
    | simp only [wf_upd]
    | with_reducible rfl
    | split
    | intro _ _ _
    | intro _ _
    | intro _
    | dsimp only [State.free, id])

theorem leapSecondEnd_keeps (n : Nat) : Keeps (leapSecondEnd n) := by
  intro s h
  unfold leapSecondEnd
  try dsimp only [State.free, id]
  repeat' (first
    | with_reducible assumption
    | with_reducible apply State.setVc_keeps
    | with_reducible apply childLeaps_keeps
    | simp only [wf_upd]
    | with_reducible rfl
    | split
    | intro _ _ _
    | intro _ _
    | intro _
    | dsimp only [State.free, id])

theorem ptmRequest_keeps (x32 : Nat) : Keeps (ptmRequest x32) := by
  intro s h
  unfold ptmRequest
  try dsimp only [State.free, id]
  repeat' (first
    | with_reducible assumption
    | simp only [wf_upd]
    | with_reducible rfl
    | split
    | intro _ _ _
    | intro _ _
    | intro _
    | dsimp only [State.free, id])

end Sys2Proof.Machine
end

