-- ==== Sys2Proof/Laws/KeepBusCore.lean ====
section
/-! SUPPORT. What the operations of BusCore keep: the canonical form of the memories and of the register file. -/

set_option Elab.async false

set_option linter.unusedSimpArgs false
set_option linter.unusedTactic false
set_option linter.unreachableTactic false

namespace Sys2Proof.Machine

theorem writeFld_keeps (b : Blk) (off c v : Nat) (f : Fld) : Keeps (writeFld b off c v f) := by
  intro s h
  unfold writeFld
  try dsimp only [State.free, id]
  repeat' (first
    | with_reducible assumption
    | with_reducible apply State.wr_keeps
    | simp only [wf_upd]
    | with_reducible rfl
    | split
    | intro _ _ _
    | intro _ _
    | intro _
    | dsimp only [State.free, id])

theorem writeReg_keeps (b : Blk) (off c v : Nat) : Keeps (writeReg b off c v) := by
  intro s h
  unfold writeReg
  try dsimp only [State.free, id]
  repeat' (first
    | with_reducible assumption
    | with_reducible apply writeFld_keeps
    | with_reducible apply each_keeps
    | simp only [wf_upd]
    | with_reducible rfl
    | split
    | intro _ _ _
    | intro _ _
    | intro _
    | dsimp only [State.free, id])

theorem refuseWrite_keeps (b : Blk) (fn off : Nat) : Keeps (refuseWrite b fn off) := by
  intro s h
  unfold refuseWrite
  try dsimp only [State.free, id]
  repeat' (first
    | with_reducible assumption
    | with_reducible apply postTo_keeps
    | simp only [wf_upd]
    | with_reducible rfl
    | split
    | intro _ _ _
    | intro _ _
    | intro _
    | dsimp only [State.free, id])

theorem guarded_keeps (b : Blk) (w : Win) (off : Nat) (may : State → Bool) (body : State → State) (hbody : Keeps body) : Keeps (guarded b w off may body) := by
  intro s h
  unfold guarded
  try dsimp only [State.free, id]
  repeat' (first
    | with_reducible assumption
    | with_reducible apply refuseWrite_keeps
    | with_reducible apply writeAtDoor_keeps
    | apply hbody
    | simp only [wf_upd]
    | with_reducible rfl
    | split
    | intro _ _ _
    | intro _ _
    | intro _
    | dsimp only [State.free, id])

theorem plain_keeps (b : Blk) (w : Win) (off v : Nat) (may : State → Bool) : Keeps (plain b w off v may) := by
  intro s h
  unfold plain
  try dsimp only [State.free, id]
  repeat' (first
    | with_reducible assumption
    | with_reducible apply writeReg_keeps
    | with_reducible apply guarded_keeps
    | simp only [wf_upd]
    | with_reducible rfl
    | split
    | intro _ _ _
    | intro _ _
    | intro _
    | dsimp only [State.free, id])

theorem plainThen_keeps (b : Blk) (w : Win) (off v : Nat) (may : State → Bool) (after : State → State) (hafter : Keeps after) : Keeps (plainThen b w off v may after) := by
  intro s h
  unfold plainThen
  try dsimp only [State.free, id]
  repeat' (first
    | with_reducible assumption
    | with_reducible apply writeReg_keeps
    | with_reducible apply guarded_keeps
    | apply hafter
    | simp only [wf_upd]
    | with_reducible rfl
    | split
    | intro _ _ _
    | intro _ _
    | intro _
    | dsimp only [State.free, id])

theorem lockedReg_keeps (b : Blk) (w : Win) (off v : Nat) (may open_ : State → Bool) (refused : State → State) (hrefused : Keeps refused) : Keeps (lockedReg b w off v may open_ refused) := by
  intro s h
  unfold lockedReg
  try dsimp only [State.free, id]
  repeat' (first
    | with_reducible assumption
    | with_reducible apply writeReg_keeps
    | with_reducible apply guarded_keeps
    | apply hrefused
    | simp only [wf_upd]
    | with_reducible rfl
    | split
    | intro _ _ _
    | intro _ _
    | intro _
    | dsimp only [State.free, id])

theorem writeEvt_keeps (b : Blk) (reg : Nat) (w : Win) (off v : Nat) : Keeps (writeEvt b reg w off v) := by
  intro s h
  unfold writeEvt
  try dsimp only [State.free, id]
  repeat' (first
    | with_reducible assumption
    | with_reducible apply writeAtDoor_keeps
    | simp only [wf_upd]
    | with_reducible rfl
    | split
    | intro _ _ _
    | intro _ _
    | intro _
    | dsimp only [State.free, id])

theorem freeBool_keeps (f : Bool → State → State) (hf : ∀ a0, Keeps (f a0)) : Keeps (freeBool f) := by
  intro s h
  unfold freeBool
  try dsimp only [State.free, id]
  repeat' (first
    | with_reducible assumption
    | refine pair_wf (by with_reducible assumption) ?_
    | with_reducible apply State.free_keeps
    | apply hf
    | simp only [wf_upd]
    | with_reducible rfl
    | split
    | intro _ _ _
    | intro _ _
    | intro _
    | dsimp only [State.free, id])

end Sys2Proof.Machine
end

