-- ==== Sys2Proof/Laws/KeepChipReset.lean ====
section
/-! SUPPORT. What the operations of ChipReset keep: the canonical form of the memories and of the register file. -/

set_option Elab.async false

set_option linter.unusedSimpArgs false
set_option linter.unusedTactic false
set_option linter.unreachableTactic false

namespace Sys2Proof.Machine

theorem satInc_keeps (f : FieldRef) : Keeps (satInc f) := by
  intro s h
  unfold satInc
  try dsimp only [State.free, id]
  repeat' (first
    | with_reducible assumption
    | with_reducible apply State.wr_keeps
    | simp only [wf_upd]
    | with_reducible rfl
    | split
    | intro _ _ _
    | intro _ _
    | intro _
    | dsimp only [State.free, id])

theorem chipReset_keeps (code : Nat) (kind : RstKind) : Keeps (chipReset code kind) := by
  intro s h
  unfold chipReset
  extract_lets warm wake3 during t r0 r1 k0 k1 k2
  have ht : t.wf = true := dropShadows_keeps tbShadows s h
  have hk : k0.wf = true := by
    rw [State.wf_iff] at h ht ⊢
    refine ⟨?_, h.2.1, h.2.2.1, twf_tfilter (fun k _ => survives kind k) _ ht.2.2.2.1, twf_tfilter (fun k _ => survives kind k) _ ht.2.2.2.2⟩
    show Memory.wf (if wake3 then s.shm else []) = true
    split
    · exact h.1
    · rfl
  have h1 : k1.wf = true := onlyIf_keeps _ _ (satInc_keeps _) _ hk
  have h2 : k2.wf = true := by
    show (if warm then _ else _ : State).wf = true
    split
    · exact State.wr_keeps _ _ _ _ (State.wr_keeps _ _ _ _ h1)
    · exact h1
  exact State.wr_keeps _ _ _ _ (State.wr_keeps _ _ _ _ (State.wr_keeps _ _ _ _ (State.wr_keeps _ _ _ _ h2)))

end Sys2Proof.Machine
end

