-- ==== Sys2Proof/Laws/KeepRefCore.lean ====
section
/-! SUPPORT. What the operations of RefCore keep: the canonical form of the memories and of the register file. -/

set_option Elab.async false

set_option linter.unusedSimpArgs false
set_option linter.unusedTactic false
set_option linter.unreachableTactic false

namespace Sys2Proof.Machine

theorem State.setSlot_keeps (n : Nat) (r : RefSlot) : Keeps (State.setSlot n r) := by
  intro s h
  unfold State.setSlot
  try dsimp only [State.free, id]
  repeat' (first
    | with_reducible assumption
    | simp only [wf_upd]
    | with_reducible rfl
    | split
    | intro _ _ _
    | intro _ _
    | intro _
    | dsimp only [State.free, id])

theorem State.setSel_keeps (i : Nat) (r : RefSel) : Keeps (State.setSel i r) := by
  intro s h
  unfold State.setSel
  try dsimp only [State.free, id]
  repeat' (first
    | with_reducible assumption
    | simp only [wf_upd]
    | with_reducible rfl
    | split
    | intro _ _ _
    | intro _ _
    | intro _
    | dsimp only [State.free, id])

theorem syncSlotBound_keeps (n : Nat) : Keeps (syncSlotBound n) := by
  intro s h
  unfold syncSlotBound
  try dsimp only [State.free, id]
  repeat' (first
    | with_reducible assumption
    | with_reducible apply State.wr64_keeps
    | simp only [wf_upd]
    | with_reducible rfl
    | split
    | intro _ _ _
    | intro _ _
    | intro _
    | dsimp only [State.free, id])

theorem syncRefStatus_keeps  : Keeps syncRefStatus := by
  intro s h
  unfold syncRefStatus
  try dsimp only [State.free, id]
  repeat' (first
    | with_reducible assumption
    | with_reducible refine foldl_keeps _ _ (fun _ _ _ => ?_) _ ?_
    | with_reducible refine foldlPair_keeps _ _ (fun _ _ _ => ?_) _ ?_
    | with_reducible apply State.wr_keeps
    | simp only [wf_upd]
    | with_reducible rfl
    | split
    | intro _ _ _
    | intro _ _
    | intro _
    | dsimp only [State.free, id])

theorem setSelection_keeps (i st : Nat) (sel : Option Nat) : Keeps (setSelection i st sel) := by
  intro s h
  unfold setSelection
  try dsimp only [State.free, id]
  repeat' (first
    | with_reducible assumption
    | with_reducible apply State.setSel_keeps
    | with_reducible apply State.wr_keeps
    | with_reducible apply post_keeps
    | with_reducible apply onlyIf_keeps
    | simp only [wf_upd]
    | with_reducible rfl
    | split
    | intro _ _ _
    | intro _ _
    | intro _
    | dsimp only [State.free, id])

theorem evalSel_keeps (i : Nat) : Keeps (evalSel i) := by
  intro s h
  unfold evalSel
  try dsimp only [State.free, id]
  repeat' (first
    | with_reducible assumption
    | with_reducible apply setSelection_keeps
    | simp only [wf_upd]
    | with_reducible rfl
    | split
    | intro _ _ _
    | intro _ _
    | intro _
    | dsimp only [State.free, id])

theorem evalSels_keeps  : Keeps evalSels := by
  intro s h
  unfold evalSels
  try dsimp only [State.free, id]
  repeat' (first
    | with_reducible assumption
    | with_reducible apply evalSel_keeps
    | with_reducible apply each_keeps
    | simp only [wf_upd]
    | with_reducible rfl
    | split
    | intro _ _ _
    | intro _ _
    | intro _
    | dsimp only [State.free, id])

theorem startHoldoffs_keeps (n : Nat) : Keeps (startHoldoffs n) := by
  intro s h
  unfold startHoldoffs
  try dsimp only [State.free, id]
  repeat' (first
    | with_reducible assumption
    | with_reducible apply setSelection_keeps
    | with_reducible apply post_keeps
    | with_reducible apply State.setSel_keeps
    | with_reducible apply each_keeps
    | simp only [wf_upd]
    | with_reducible rfl
    | split
    | intro _ _ _
    | intro _ _
    | intro _
    | dsimp only [State.free, id])

theorem setSlotState_keeps (n st : Nat) : Keeps (setSlotState n st) := by
  intro s h
  unfold setSlotState
  try dsimp only [State.free, id]
  repeat' (first
    | with_reducible assumption
    | with_reducible apply State.setSlot_keeps
    | with_reducible apply syncSlotBound_keeps
    | with_reducible apply syncRefStatus_keeps
    | with_reducible apply post_keeps
    | with_reducible apply State.wr_keeps
    | simp only [wf_upd]
    | with_reducible rfl
    | split
    | intro _ _ _
    | intro _ _
    | intro _
    | dsimp only [State.free, id])

theorem signalLost_keeps (n : Nat) : Keeps (signalLost n) := by
  intro s h
  unfold signalLost
  try dsimp only [State.free, id]
  repeat' (first
    | with_reducible assumption
    | with_reducible apply State.setSlot_keeps
    | with_reducible apply setSlotState_keeps
    | with_reducible apply evalSels_keeps
    | with_reducible apply startHoldoffs_keeps
    | simp only [wf_upd]
    | with_reducible rfl
    | split
    | intro _ _ _
    | intro _ _
    | intro _
    | dsimp only [State.free, id])

theorem signalRegained_keeps (n : Nat) : Keeps (signalRegained n) := by
  intro s h
  unfold signalRegained
  try dsimp only [State.free, id]
  repeat' (first
    | with_reducible assumption
    | with_reducible apply evalSels_keeps
    | with_reducible apply setSlotState_keeps
    | simp only [wf_upd]
    | with_reducible rfl
    | split
    | intro _ _ _
    | intro _ _
    | intro _
    | dsimp only [State.free, id])

theorem updateQr_keeps (n : Nat) : Keeps (updateQr n) := by
  intro s h
  unfold updateQr
  try dsimp only [State.free, id]
  repeat' (first
    | with_reducible assumption
    | with_reducible apply State.wr_keeps
    | with_reducible apply post_keeps
    | with_reducible apply setSlotState_keeps
    | with_reducible apply evalSels_keeps
    | with_reducible apply State.setSlot_keeps
    | simp only [wf_upd]
    | with_reducible rfl
    | split
    | intro _ _ _
    | intro _ _
    | intro _
    | dsimp only [State.free, id])

theorem slotEnable_keeps (n : Nat) (en : Bool) : Keeps (slotEnable n en) := by
  intro s h
  unfold slotEnable
  try dsimp only [State.free, id]
  repeat' (first
    | with_reducible assumption
    | with_reducible apply evalSels_keeps
    | with_reducible apply setSlotState_keeps
    | with_reducible apply State.setSlot_keeps
    | with_reducible apply updateQr_keeps
    | simp only [wf_upd]
    | with_reducible rfl
    | split
    | intro _ _ _
    | intro _ _
    | intro _
    | dsimp only [State.free, id])

theorem linkLost_keeps (n : Nat) : Keeps (linkLost n) := by
  intro s h
  unfold linkLost
  try dsimp only [State.free, id]
  repeat' (first
    | with_reducible assumption
    | with_reducible apply updateQr_keeps
    | with_reducible apply signalLost_keeps
    | with_reducible apply State.setSlot_keeps
    | simp only [wf_upd]
    | with_reducible rfl
    | split
    | intro _ _ _
    | intro _ _
    | intro _
    | dsimp only [State.free, id])

theorem linkRestored_keeps (n : Nat) : Keeps (linkRestored n) := by
  intro s h
  unfold linkRestored
  try dsimp only [State.free, id]
  repeat' (first
    | with_reducible assumption
    | with_reducible apply updateQr_keeps
    | with_reducible apply State.setSlot_keeps
    | simp only [wf_upd]
    | with_reducible rfl
    | split
    | intro _ _ _
    | intro _ _
    | intro _
    | dsimp only [State.free, id])

end Sys2Proof.Machine
end

