-- ==== Sys2Proof/Laws/KeepGnCore.lean ====
section
/-! SUPPORT. What the operations of GnCore keep: the canonical form of the memories and of the register file. -/

set_option Elab.async false

set_option linter.unusedSimpArgs false
set_option linter.unusedTactic false
set_option linter.unreachableTactic false

namespace Sys2Proof.Machine

theorem dropWhile_ge (a : Nat) (m : List Host.Cell) (h : (m.map (·.1)).Pairwise (· < ·)) :
    ∀ c ∈ m.dropWhile (fun e => decide (e.1 < a)), a ≤ c.1 := by
  induction m with
  | nil => intro c hc; simp at hc
  | cons e m ih =>
    simp only [List.map_cons, List.pairwise_cons] at h
    intro c hc
    by_cases he : e.1 < a
    · rw [List.dropWhile_cons_of_pos (by simpa using he)] at hc
      exact ih h.2 c hc
    · rw [List.dropWhile_cons_of_neg (by simpa using he)] at hc
      rcases List.mem_cons.1 hc with rfl | hm
      · omega
      · have := h.1 c.1 (List.mem_map_of_mem hm)
        omega

theorem mem_cfill (a n seed : Nat) (c : Host.Cell) (h : c ∈ (List.range n).filterMap (fun i =>
    let b := Config.freeBits 8 (seed + i)
    if b = 0 then none else some (a + i, b))) : a ≤ c.1 ∧ c.1 < a + n ∧ c.2 ≠ 0 := by
  obtain ⟨i, hi, e⟩ := List.mem_filterMap.1 h
  have hi := List.mem_range.1 hi
  dsimp only at e
  split at e
  · cases e
  · cases e
    exact ⟨by simp, by simpa using hi, by assumption⟩

theorem wf_cfillFree (m : List Host.Cell) (a n seed : Nat) (h : Memory.wf m = true) : Memory.wf (cfillFree m a n seed) = true := by
  rw [Memory.wf_iff] at h ⊢
  have hd := dropWhile_ge (a + n) m h.1
  have htk : ∀ c ∈ m.takeWhile (fun e => decide (e.1 < a)), c.1 < a := fun c hc => by simpa using List.mem_takeWhile_imp hc
  unfold cfillFree
  constructor
  · rw [List.pairwise_map, List.pairwise_append, List.pairwise_append]
    have hp := List.pairwise_map.1 h.1
    refine ⟨⟨hp.sublist (List.takeWhile_sublist _), ?_, ?_⟩, hp.sublist (List.dropWhile_sublist _), ?_⟩
    · refine List.Pairwise.filterMap _ ?_ (List.pairwise_lt_range (n := n))
      intro i j hij b hb c hc
      dsimp only at hb hc
      split at hb
      · cases hb
      · split at hc
        · cases hc
        · cases hb
          cases hc
          simpa using hij
    · intro x hx y hy
      have := htk x hx
      have := (mem_cfill a n seed y hy).1
      omega
    · intro x hx y hy
      have hy := hd y hy
      rcases List.mem_append.1 hx with hx | hx
      · have := htk x hx
        omega
      · have := (mem_cfill a n seed x hx).2.1
        omega
  · intro c hc
    rcases List.mem_append.1 hc with hc | hc
    · rcases List.mem_append.1 hc with hc | hc
      · exact h.2 c ((List.takeWhile_sublist _).subset hc)
      · exact (mem_cfill a n seed c hc).2.2
    · exact h.2 c ((List.dropWhile_sublist _).subset hc)

theorem State.shmUndefined_keeps (a n : Nat) : Keeps (State.shmUndefined a n) := by
  intro s h
  rw [State.wf_iff] at h ⊢
  exact ⟨wf_cfillFree _ _ _ _ h.1, h.2⟩

theorem State.setGnp_keeps (p : Nat) (x : GnPort) : Keeps (State.setGnp p x) := by
  intro s h
  unfold State.setGnp
  try dsimp only [State.free, id]
  repeat' (first
    | with_reducible assumption
    | simp only [wf_upd]
    | with_reducible rfl
    | split
    | intro _ _ _
    | intro _ _
    | intro _
    | dsimp only [State.free, id])

theorem State.setGnc_keeps (c : Nat) (x : GnChan) : Keeps (State.setGnc c x) := by
  intro s h
  unfold State.setGnc
  try dsimp only [State.free, id]
  repeat' (first
    | with_reducible assumption
    | simp only [wf_upd]
    | with_reducible rfl
    | split
    | intro _ _ _
    | intro _ _
    | intro _
    | dsimp only [State.free, id])

theorem setGnFlag_keeps (c i : Nat) (v : Bool) : Keeps (setGnFlag c i v) := by
  intro s h
  unfold setGnFlag
  try dsimp only [State.free, id]
  repeat' (first
    | with_reducible assumption
    | with_reducible apply State.wr_keeps
    | simp only [wf_upd]
    | with_reducible rfl
    | split
    | intro _ _ _
    | intro _ _
    | intro _
    | dsimp only [State.free, id])

theorem syncGn_keeps  : Keeps syncGn := by
  intro s h
  unfold syncGn
  try dsimp only [State.free, id]
  repeat' (first
    | with_reducible assumption
    | with_reducible apply State.wr_keeps
    | simp only [wf_upd]
    | with_reducible rfl
    | split
    | intro _ _ _
    | intro _ _
    | intro _
    | dsimp only [State.free, id])

theorem spRecord_keeps (kind c : Nat) : Keeps (spRecord kind c) := by
  intro s h
  unfold spRecord
  try dsimp only [State.free, id]
  repeat' (first
    | with_reducible assumption
    | with_reducible apply State.shmWrite_keeps
    | with_reducible apply State.wr_keeps
    | simp only [wf_upd]
    | with_reducible rfl
    | split
    | intro _ _ _
    | intro _ _
    | intro _
    | dsimp only [State.free, id])

theorem spClear_keeps (c : Nat) : Keeps (spClear c) := by
  intro s h
  unfold spClear
  try dsimp only [State.free, id]
  repeat' (first
    | with_reducible assumption
    | with_reducible apply State.setGnc_keeps
    | with_reducible apply post_keeps
    | with_reducible apply syncGn_keeps
    | with_reducible apply spRecord_keeps
    | simp only [wf_upd]
    | with_reducible rfl
    | split
    | intro _ _ _
    | intro _ _
    | intro _
    | dsimp only [State.free, id])

theorem setGnState_keeps (c st : Nat) : Keeps (setGnState c st) := by
  intro s h
  unfold setGnState
  try dsimp only [State.free, id]
  repeat' (first
    | with_reducible assumption
    | with_reducible apply spClear_keeps
    | with_reducible apply State.wr_keeps
    | with_reducible apply setGnFlag_keeps
    | with_reducible apply State.setGnc_keeps
    | with_reducible apply post_keeps
    | with_reducible apply syncGn_keeps
    | with_reducible apply onlyIf_keeps
    | simp only [wf_upd]
    | with_reducible rfl
    | split
    | intro _ _ _
    | intro _ _
    | intro _
    | dsimp only [State.free, id])

theorem gnStop_keeps (c : Nat) : Keeps (gnStop c) := by
  intro s h
  unfold gnStop
  try dsimp only [State.free, id]
  repeat' (first
    | with_reducible assumption
    | with_reducible apply setGnState_keeps
    | with_reducible apply State.setGnc_keeps
    | simp only [wf_upd]
    | with_reducible rfl
    | split
    | intro _ _ _
    | intro _ _
    | intro _
    | dsimp only [State.free, id])

theorem syncAcq_keeps  : Keeps syncAcq := by
  intro s h
  unfold syncAcq
  try dsimp only [State.free, id]
  repeat' (first
    | with_reducible assumption
    | with_reducible apply State.wr_keeps
    | simp only [wf_upd]
    | with_reducible rfl
    | split
    | intro _ _ _
    | intro _ _
    | intro _
    | dsimp only [State.free, id])

theorem snapFail_keeps (cause : Nat) : Keeps (snapFail cause) := by
  intro s h
  unfold snapFail
  try dsimp only [State.free, id]
  repeat' (first
    | with_reducible assumption
    | with_reducible apply State.shmUndefined_keeps
    | with_reducible apply State.wr_keeps
    | with_reducible apply post_keeps
    | simp only [wf_upd]
    | with_reducible rfl
    | split
    | intro _ _ _
    | intro _ _
    | intro _
    | dsimp only [State.free, id])

theorem audAwake_keeps  : Keeps audAwake := by
  intro s h
  unfold audAwake
  try dsimp only [State.free, id]
  repeat' (first
    | with_reducible assumption
    | with_reducible apply State.wr_keeps
    | with_reducible apply post_keeps
    | simp only [wf_upd]
    | with_reducible rfl
    | split
    | intro _ _ _
    | intro _ _
    | intro _
    | dsimp only [State.free, id])

theorem setIntegrity_keeps (v : Nat) : Keeps (setIntegrity v) := by
  intro s h
  unfold setIntegrity
  try dsimp only [State.free, id]
  repeat' (first
    | with_reducible assumption
    | with_reducible apply post_keeps
    | with_reducible apply State.wr_keeps
    | with_reducible apply updateQr_keeps
    | with_reducible apply State.setSlot_keeps
    | simp only [wf_upd]
    | with_reducible rfl
    | split
    | intro _ _ _
    | intro _ _
    | intro _
    | dsimp only [State.free, id])

theorem gnLoss_keeps  : Keeps gnLoss := by
  intro s h
  unfold gnLoss
  try dsimp only [State.free, id]
  repeat' (first
    | with_reducible assumption
    | with_reducible apply gnStop_keeps
    | with_reducible apply syncAcq_keeps
    | with_reducible apply State.wr_keeps
    | with_reducible apply snapFail_keeps
    | with_reducible apply setIntegrity_keeps
    | with_reducible apply audAwake_keeps
    | with_reducible apply each_keeps
    | with_reducible apply onlyIf_keeps
    | simp only [wf_upd]
    | with_reducible rfl
    | split
    | intro _ _ _
    | intro _ _
    | intro _
    | dsimp only [State.free, id])

end Sys2Proof.Machine
end

