-- ==== Sys2Proof/Laws/KeepPoints.lean ====
section
/-! SUPPORT. What the operations of Points keep: the canonical form of the memories and of the register file. -/

set_option Elab.async false

set_option linter.unusedSimpArgs false
set_option linter.unusedTactic false
set_option linter.unreachableTactic false

namespace Sys2Proof.Machine

theorem startCal_keeps  : Keeps startCal := by
  intro s h
  unfold startCal
  try dsimp only [State.free, id]
  repeat' (first
    | with_reducible assumption
    | with_reducible apply State.wr_keeps
    | simp only [wf_upd]
    | with_reducible rfl
    | split
    | intro _ _ _
    | intro _ _
    | intro _
    | dsimp only [State.free, id])

theorem calLinkUp_keeps (p : Nat) : Keeps (calLinkUp p) := by
  intro s h
  unfold calLinkUp
  try dsimp only [State.free, id]
  repeat' (first
    | with_reducible assumption
    | with_reducible apply startCal_keeps
    | simp only [wf_upd]
    | with_reducible rfl
    | split
    | intro _ _ _
    | intro _ _
    | intro _
    | dsimp only [State.free, id])

theorem calLinkDown_keeps (p : Nat) : Keeps (calLinkDown p) := by
  intro s h
  unfold calLinkDown
  try dsimp only [State.free, id]
  repeat' (first
    | with_reducible assumption
    | with_reducible apply State.wr_keeps
    | with_reducible apply startCal_keeps
    | with_reducible apply syncBound_keeps
    | simp only [wf_upd]
    | with_reducible rfl
    | split
    | intro _ _ _
    | intro _ _
    | intro _
    | dsimp only [State.free, id])

end Sys2Proof.Machine
end

