-- ==== Sys2Proof/Laws/KeepHifCore.lean ====
section
/-! SUPPORT. What the operations of HifCore keep: the canonical form of the memories and of the register file. -/

set_option Elab.async false

set_option linter.unusedSimpArgs false
set_option linter.unusedTactic false
set_option linter.unreachableTactic false

namespace Sys2Proof.Machine

theorem cqWrite_keeps (fn r : Nat) (irq : Bool) (o : Octets) : Keeps (cqWrite fn r irq o) := by
  intro s h
  unfold cqWrite
  try dsimp only [State.free, id]
  repeat' (first
    | with_reducible assumption
    | with_reducible apply dmaWrite_keeps
    | with_reducible apply State.wr_keeps
    | with_reducible apply raiseVec_keeps
    | with_reducible apply onlyIf_keeps
    | simp only [wf_upd]
    | with_reducible rfl
    | split
    | intro _ _ _
    | intro _ _
    | intro _
    | dsimp only [State.free, id])

theorem txComplete_keeps (h : HostTag) (code cause frc : Nat) : Keeps (txComplete h code cause frc) := by
  intro s h
  unfold txComplete
  try dsimp only [State.free, id]
  repeat' (first
    | with_reducible assumption
    | simp only [wf_upd]
    | with_reducible rfl
    | split
    | intro _ _ _
    | intro _ _
    | intro _
    | dsimp only [State.free, id])

end Sys2Proof.Machine
end

