-- ==== Sys2Proof/Laws/KeepTsRing.lean ====
section
/-! SUPPORT. What the operations of TsRing keep: the canonical form of the memories and of the register file. -/

set_option Elab.async false

set_option linter.unusedSimpArgs false
set_option linter.unusedTactic false
set_option linter.unreachableTactic false

namespace Sys2Proof.Machine

theorem tsrWrite_keeps (r : TsrRef) (body : Nat → Octets) : Keeps (tsrWrite r body) := by
  intro s h
  unfold tsrWrite
  try dsimp only [State.free, id]
  repeat' (first
    | with_reducible assumption
    | with_reducible apply State.wr_keeps
    | with_reducible apply post_keeps
    | with_reducible apply State.shmWrite_keeps
    | with_reducible apply onlyIf_keeps
    | simp only [wf_upd]
    | with_reducible rfl
    | split
    | intro _ _ _
    | intro _ _
    | intro _
    | dsimp only [State.free, id])

theorem tsrEnable_keeps (r : TsrRef) (en : Bool) : Keeps (tsrEnable r en) := by
  intro s h
  unfold tsrEnable
  try dsimp only [State.free, id]
  repeat' (first
    | with_reducible assumption
    | with_reducible apply State.wr_keeps
    | with_reducible apply post_keeps
    | simp only [wf_upd]
    | with_reducible rfl
    | split
    | intro _ _ _
    | intro _ _
    | intro _
    | dsimp only [State.free, id])

theorem writeTsrCfg_keeps (r : TsrRef) (v : Nat) : Keeps (writeTsrCfg r v) := by
  intro s h
  unfold writeTsrCfg
  try dsimp only [State.free, id]
  repeat' (first
    | with_reducible assumption
    | with_reducible apply post_keeps
    | with_reducible apply State.wr_keeps
    | with_reducible apply tsrEnable_keeps
    | with_reducible apply onlyIf_keeps
    | simp only [wf_upd]
    | with_reducible rfl
    | split
    | intro _ _ _
    | intro _ _
    | intro _
    | dsimp only [State.free, id])

end Sys2Proof.Machine
end

