-- ==== Sys2Proof/Laws/KeepPortCore.lean ====
section
/-! SUPPORT. What the operations of PortCore keep: the canonical form of the memories and of the register file. -/

set_option Elab.async false

set_option linter.unusedSimpArgs false
set_option linter.unusedTactic false
set_option linter.unreachableTactic false

namespace Sys2Proof.Machine

theorem notSentRecord_keeps (n : Nat) (f : TxFrame) : Keeps (notSentRecord n f) := by
  intro s h
  unfold notSentRecord
  try dsimp only [State.free, id]
  repeat' (first
    | with_reducible assumption
    | with_reducible apply post_keeps
    | with_reducible apply tsrWrite_keeps
    | simp only [wf_upd]
    | with_reducible rfl
    | split
    | intro _ _ _
    | intro _ _
    | intro _
    | dsimp only [State.free, id])

theorem frameDropped_keeps (f : TxFrame) (code cause : Nat) : Keeps (frameDropped f code cause) := by
  intro s h
  unfold frameDropped
  try dsimp only [State.free, id]
  repeat' (first
    | with_reducible assumption
    | with_reducible apply txComplete_keeps
    | simp only [wf_upd]
    | with_reducible rfl
    | split
    | intro _ _ _
    | intro _ _
    | intro _
    | dsimp only [State.free, id])

theorem portDiscard_keeps (n : Nat) (cause : Nat) (f : TxFrame) : Keeps (portDiscard n cause f) := by
  intro s h
  unfold portDiscard
  try dsimp only [State.free, id]
  repeat' (first
    | with_reducible assumption
    | with_reducible apply frameDropped_keeps
    | with_reducible apply notSentRecord_keeps
    | simp only [wf_upd]
    | with_reducible rfl
    | split
    | intro _ _ _
    | intro _ _
    | intro _
    | dsimp only [State.free, id])

theorem State.setPrtPort_keeps (n : Nat) (p : PrtPort) : Keeps (State.setPrtPort n p) := by
  intro s h
  unfold State.setPrtPort
  try dsimp only [State.free, id]
  repeat' (first
    | with_reducible assumption
    | simp only [wf_upd]
    | with_reducible rfl
    | split
    | intro _ _ _
    | intro _ _
    | intro _
    | dsimp only [State.free, id])

theorem State.setQ_keeps (q : Nat) (x : TxQueue) : Keeps (State.setQ q x) := by
  intro s h
  unfold State.setQ
  try dsimp only [State.free, id]
  repeat' (first
    | with_reducible assumption
    | with_reducible apply State.wr_keeps
    | simp only [wf_upd]
    | with_reducible rfl
    | split
    | intro _ _ _
    | intro _ _
    | intro _
    | dsimp only [State.free, id])

theorem State.setSchPort_keeps (n : Nat) (p : SchPort) : Keeps (State.setSchPort n p) := by
  intro s h
  unfold State.setSchPort
  try dsimp only [State.free, id]
  repeat' (first
    | with_reducible assumption
    | with_reducible apply State.wr_keeps
    | simp only [wf_upd]
    | with_reducible rfl
    | split
    | intro _ _ _
    | intro _ _
    | intro _
    | dsimp only [State.free, id])

theorem queueDiscard_keeps (q cause : Nat) (ctr : Nat) : Keeps (queueDiscard q cause ctr) := by
  intro s h
  unfold queueDiscard
  try dsimp only [State.free, id]
  repeat' (first
    | with_reducible assumption
    | with_reducible apply frameDropped_keeps
    | with_reducible apply count_keeps
    | with_reducible apply State.setQ_keeps
    | with_reducible apply each_keeps
    | simp only [wf_upd]
    | with_reducible rfl
    | split
    | intro _ _ _
    | intro _ _
    | intro _
    | dsimp only [State.free, id])

theorem linkDiscard_keeps (n : Nat) : Keeps (linkDiscard n) := by
  intro s h
  unfold linkDiscard
  try dsimp only [State.free, id]
  repeat' (first
    | with_reducible assumption
    | with_reducible apply queueDiscard_keeps
    | with_reducible apply State.wr_keeps
    | with_reducible apply each_keeps
    | simp only [wf_upd]
    | with_reducible rfl
    | split
    | intro _ _ _
    | intro _ _
    | intro _
    | dsimp only [State.free, id])

theorem queueDrop_keeps (q : Nat) (tail : Bool) : Keeps (queueDrop q tail) := by
  intro s h
  unfold queueDrop
  try dsimp only [State.free, id]
  repeat' (first
    | with_reducible assumption
    | with_reducible apply State.setQ_keeps
    | simp only [wf_upd]
    | with_reducible rfl
    | split
    | intro _ _ _
    | intro _ _
    | intro _
    | dsimp only [State.free, id])

theorem enqueue_keeps (n q : Nat) (f : TxFrame) : ∀ s : State, s.wf = true → (enqueue n q f s).2.wf = true := by
  intro s h
  unfold enqueue
  try dsimp only [State.free, id]
  repeat' (first
    | with_reducible assumption
    | with_reducible apply count_keeps
    | with_reducible apply queueDrop_keeps
    | with_reducible apply post_keeps
    | with_reducible apply State.setQ_keeps
    | with_reducible apply linkDiscard_keeps
    | simp only [wf_upd]
    | with_reducible rfl
    | split
    | intro _ _ _
    | intro _ _
    | intro _
    | dsimp only [State.free, id])

theorem setPortState_keeps (n st : Nat) : Keeps (setPortState n st) := by
  intro s h
  unfold setPortState
  try dsimp only [State.free, id]
  repeat' (first
    | with_reducible assumption
    | with_reducible refine foldl_keeps _ _ (fun _ _ _ => ?_) _ ?_
    | with_reducible refine foldlPair_keeps _ _ (fun _ _ _ => ?_) _ ?_
    | with_reducible apply State.wr_keeps
    | simp only [wf_upd]
    | with_reducible rfl
    | split
    | intro _ _ _
    | intro _ _
    | intro _
    | dsimp only [State.free, id])

theorem launchMiss_keeps  : Keeps launchMiss := by
  intro s h
  unfold launchMiss
  try dsimp only [State.free, id]
  repeat' (first
    | with_reducible assumption
    | with_reducible apply post_keeps
    | with_reducible apply State.wr_keeps
    | simp only [wf_upd]
    | with_reducible rfl
    | split
    | intro _ _ _
    | intro _ _
    | intro _
    | dsimp only [State.free, id])

theorem portDown_keeps (n : Nat) : Keeps (portDown n) := by
  intro s h
  unfold portDown
  try dsimp only [State.free, id]
  repeat' (first
    | with_reducible assumption
    | with_reducible apply setPortState_keeps
    | with_reducible apply State.setPrtPort_keeps
    | with_reducible apply State.wr_keeps
    | with_reducible apply State.setSchPort_keeps
    | with_reducible apply portDiscard_keeps
    | with_reducible apply launchMiss_keeps
    | with_reducible apply calLinkDown_keeps
    | with_reducible apply linkDiscard_keeps
    | with_reducible apply post_keeps
    | with_reducible apply each_keeps
    | simp only [wf_upd]
    | with_reducible rfl
    | split
    | intro _ _ _
    | intro _ _
    | intro _
    | dsimp only [State.free, id])

theorem portLinkUp_keeps (n : Nat) : Keeps (portLinkUp n) := by
  intro s h
  unfold portLinkUp
  try dsimp only [State.free, id]
  repeat' (first
    | with_reducible assumption
    | with_reducible apply setPortState_keeps
    | with_reducible apply State.wr_keeps
    | with_reducible apply linkRestored_keeps
    | with_reducible apply calLinkUp_keeps
    | with_reducible apply post_keeps
    | with_reducible apply each_keeps
    | simp only [wf_upd]
    | with_reducible rfl
    | split
    | intro _ _ _
    | intro _ _
    | intro _
    | dsimp only [State.free, id])

theorem prtLoss_keeps  : Keeps prtLoss := by
  intro s h
  unfold prtLoss
  try dsimp only [State.free, id]
  repeat' (first
    | with_reducible assumption
    | with_reducible apply frameDropped_keeps
    | with_reducible apply State.setSchPort_keeps
    | with_reducible apply portDown_keeps
    | with_reducible apply State.wr_keeps
    | with_reducible apply each_keeps
    | simp only [wf_upd]
    | with_reducible rfl
    | split
    | intro _ _ _
    | intro _ _
    | intro _
    | dsimp only [State.free, id])

theorem schLoss_keeps  : Keeps schLoss := by
  intro s h
  unfold schLoss
  try dsimp only [State.free, id]
  repeat' (first
    | with_reducible assumption
    | with_reducible apply frameDropped_keeps
    | with_reducible apply State.setQ_keeps
    | with_reducible apply State.setSchPort_keeps
    | with_reducible apply each_keeps
    | simp only [wf_upd]
    | with_reducible rfl
    | split
    | intro _ _ _
    | intro _ _
    | intro _
    | dsimp only [State.free, id])

theorem syncPipe_keeps (p : Nat) : Keeps (syncPipe p) := by
  intro s h
  unfold syncPipe
  try dsimp only [State.free, id]
  repeat' (first
    | with_reducible assumption
    | with_reducible apply State.wr_keeps
    | simp only [wf_upd]
    | with_reducible rfl
    | split
    | intro _ _ _
    | intro _ _
    | intro _
    | dsimp only [State.free, id])

theorem sveLoss_keeps  : Keeps sveLoss := by
  intro s h
  unfold sveLoss
  try dsimp only [State.free, id]
  repeat' (first
    | with_reducible assumption
    | with_reducible refine foldl_keeps _ _ (fun _ _ _ => ?_) _ ?_
    | with_reducible refine foldlPair_keeps _ _ (fun _ _ _ => ?_) _ ?_
    | with_reducible apply syncPipe_keeps
    | with_reducible apply each_keeps
    | simp only [wf_upd]
    | with_reducible rfl
    | split
    | intro _ _ _
    | intro _ _
    | intro _
    | dsimp only [State.free, id])

theorem tsrOff_keeps (r : TsrRef) : Keeps (tsrOff r) := by
  intro s h
  unfold tsrOff
  try dsimp only [State.free, id]
  repeat' (first
    | with_reducible assumption
    | with_reducible apply State.wr_keeps
    | simp only [wf_upd]
    | with_reducible rfl
    | split
    | intro _ _ _
    | intro _ _
    | intro _
    | dsimp only [State.free, id])

end Sys2Proof.Machine
end

