-- ==== Sys2Proof/Laws/KeepUbwCore.lean ====
section
/-! SUPPORT. What the operations of UbwCore keep: the canonical form of the memories and of the register file. -/

set_option Elab.async false

set_option linter.unusedSimpArgs false
set_option linter.unusedTactic false
set_option linter.unreachableTactic false

namespace Sys2Proof.Machine

theorem State.setUbwPort_keeps (p : Nat) (u : UbwPort) : Keeps (State.setUbwPort p u) := by
  intro s h
  unfold State.setUbwPort
  try dsimp only [State.free, id]
  repeat' (first
    | with_reducible assumption
    | simp only [wf_upd]
    | with_reducible rfl
    | split
    | intro _ _ _
    | intro _ _
    | intro _
    | dsimp only [State.free, id])

theorem syncNode_keeps  : Keeps syncNode := by
  intro s h
  unfold syncNode
  try dsimp only [State.free, id]
  repeat' (first
    | with_reducible assumption
    | with_reducible refine foldl_keeps _ _ (fun _ _ _ => ?_) _ ?_
    | with_reducible refine foldlPair_keeps _ _ (fun _ _ _ => ?_) _ ?_
    | with_reducible apply State.wr_keeps
    | with_reducible apply State.wr64_keeps
    | with_reducible apply post_keeps
    | with_reducible apply onlyIf_keeps
    | simp only [wf_upd]
    | with_reducible rfl
    | split
    | intro _ _ _
    | intro _ _
    | intro _
    | dsimp only [State.free, id])

theorem syncUbwRef_keeps (p : Nat) : Keeps (syncUbwRef p) := by
  intro s h
  unfold syncUbwRef
  try dsimp only [State.free, id]
  repeat' (first
    | with_reducible assumption
    | with_reducible apply State.setSlot_keeps
    | with_reducible apply updateQr_keeps
    | with_reducible apply syncSlotBound_keeps
    | with_reducible apply State.wr64_keeps
    | simp only [wf_upd]
    | with_reducible rfl
    | split
    | intro _ _ _
    | intro _ _
    | intro _
    | dsimp only [State.free, id])

theorem syncUbw_keeps  : Keeps syncUbw := by
  intro s h
  unfold syncUbw
  try dsimp only [State.free, id]
  repeat' (first
    | with_reducible assumption
    | with_reducible apply syncNode_keeps
    | with_reducible apply syncUbwRef_keeps
    | with_reducible apply each_keeps
    | simp only [wf_upd]
    | with_reducible rfl
    | split
    | intro _ _ _
    | intro _ _
    | intro _
    | dsimp only [State.free, id])

theorem ubwEnter_keeps (p st : Nat) : Keeps (ubwEnter p st) := by
  intro s h
  unfold ubwEnter
  try dsimp only [State.free, id]
  repeat' (first
    | with_reducible assumption
    | with_reducible apply State.wr_keeps
    | with_reducible apply State.setUbwPort_keeps
    | with_reducible apply calLinkDown_keeps
    | with_reducible apply post_keeps
    | with_reducible apply linkLost_keeps
    | with_reducible apply calLinkUp_keeps
    | with_reducible apply linkRestored_keeps
    | with_reducible apply syncUbw_keeps
    | simp only [wf_upd]
    | with_reducible rfl
    | split
    | intro _ _ _
    | intro _ _
    | intro _
    | dsimp only [State.free, id])

theorem ubwTryReady_keeps (p : Nat) : Keeps (ubwTryReady p) := by
  intro s h
  unfold ubwTryReady
  try dsimp only [State.free, id]
  repeat' (first
    | with_reducible assumption
    | with_reducible apply ubwEnter_keeps
    | simp only [wf_upd]
    | with_reducible rfl
    | split
    | intro _ _ _
    | intro _ _
    | intro _
    | dsimp only [State.free, id])

theorem ubwTxDone_keeps (f : UbwTx) (code cause frc : Nat) : Keeps (ubwTxDone f code cause frc) := by
  intro s h
  unfold ubwTxDone
  try dsimp only [State.free, id]
  repeat' (first
    | with_reducible assumption
    | with_reducible apply txComplete_keeps
    | simp only [wf_upd]
    | with_reducible rfl
    | split
    | intro _ _ _
    | intro _ _
    | intro _
    | dsimp only [State.free, id])

theorem ubwLoss_keeps  : Keeps ubwLoss := by
  intro s h
  unfold ubwLoss
  try dsimp only [State.free, id]
  repeat' (first
    | with_reducible assumption
    | with_reducible apply ubwEnter_keeps
    | with_reducible apply State.setUbwPort_keeps
    | with_reducible apply State.wr_keeps
    | with_reducible apply ubwTxDone_keeps
    | with_reducible apply tsrOff_keeps
    | with_reducible apply each_keeps
    | simp only [wf_upd]
    | with_reducible rfl
    | split
    | intro _ _ _
    | intro _ _
    | intro _
    | dsimp only [State.free, id])

end Sys2Proof.Machine
end

