-- ==== Sys2Proof/Laws/KeepLoss.lean ====
section
/-! SUPPORT. What the operations of Loss keep: the canonical form of the memories and of the register file. -/

set_option Elab.async false

set_option linter.unusedSimpArgs false
set_option linter.unusedTactic false
set_option linter.unreachableTactic false

namespace Sys2Proof.Machine

theorem setTokens_keeps (l : List Token) : Keeps (setTokens l) := by
  intro s h
  unfold setTokens
  try dsimp only [State.free, id]
  repeat' (first
    | with_reducible assumption
    | with_reducible apply State.wr_keeps
    | simp only [wf_upd]
    | with_reducible rfl
    | split
    | intro _ _ _
    | intro _ _
    | intro _
    | dsimp only [State.free, id])

theorem tokenFinish_keeps (t : Token) (code : Nat) : Keeps (tokenFinish t code) := by
  intro s h
  unfold tokenFinish
  try dsimp only [State.free, id]
  repeat' (first
    | with_reducible assumption
    | with_reducible apply finish_keeps
    | with_reducible apply postTo_keeps
    | with_reducible apply setTokens_keeps
    | simp only [wf_upd]
    | with_reducible rfl
    | split
    | intro _ _ _
    | intro _ _
    | intro _
    | dsimp only [State.free, id])

theorem abortTokens_keeps  : Keeps abortTokens := by
  intro s h
  unfold abortTokens
  try dsimp only [State.free, id]
  repeat' (first
    | with_reducible assumption
    | refine pair_wf (by with_reducible assumption) ?_
    | with_reducible apply State.free_keeps
    | with_reducible apply tokenFinish_keeps
    | with_reducible apply dmaWrite_keeps
    | with_reducible apply each_keeps
    | simp only [wf_upd]
    | with_reducible rfl
    | split
    | intro _ _ _
    | intro _ _
    | intro _
    | dsimp only [State.free, id])

theorem State.setChan_keeps (n : Nat) (x : TdcChan) : Keeps (State.setChan n x) := by
  intro s h
  unfold State.setChan
  try dsimp only [State.free, id]
  repeat' (first
    | with_reducible assumption
    | simp only [wf_upd]
    | with_reducible rfl
    | split
    | intro _ _ _
    | intro _ _
    | intro _
    | dsimp only [State.free, id])

theorem State.setGate_keeps (g : Nat) (x : TdcGate) : Keeps (State.setGate g x) := by
  intro s h
  unfold State.setGate
  try dsimp only [State.free, id]
  repeat' (first
    | with_reducible assumption
    | simp only [wf_upd]
    | with_reducible rfl
    | split
    | intro _ _ _
    | intro _ _
    | intro _
    | dsimp only [State.free, id])

theorem setChState_keeps (n st : Nat) : Keeps (setChState n st) := by
  intro s h
  unfold setChState
  try dsimp only [State.free, id]
  repeat' (first
    | with_reducible assumption
    | with_reducible refine foldl_keeps _ _ (fun _ _ _ => ?_) _ ?_
    | with_reducible refine foldlPair_keeps _ _ (fun _ _ _ => ?_) _ ?_
    | with_reducible apply State.wr_keeps
    | simp only [wf_upd]
    | with_reducible rfl
    | split
    | intro _ _ _
    | intro _ _
    | intro _
    | dsimp only [State.free, id])

theorem syncFull_keeps (n : Nat) : Keeps (syncFull n) := by
  intro s h
  unfold syncFull
  try dsimp only [State.free, id]
  repeat' (first
    | with_reducible assumption
    | with_reducible apply State.wr_keeps
    | simp only [wf_upd]
    | with_reducible rfl
    | split
    | intro _ _ _
    | intro _ _
    | intro _
    | dsimp only [State.free, id])

theorem chDropped_keeps (n k : Nat) : Keeps (chDropped n k) := by
  intro s h
  unfold chDropped
  try dsimp only [State.free, id]
  repeat' (first
    | with_reducible assumption
    | with_reducible apply post_keeps
    | with_reducible apply State.wr_keeps
    | simp only [wf_upd]
    | with_reducible rfl
    | split
    | intro _ _ _
    | intro _ _
    | intro _
    | dsimp only [State.free, id])

theorem tdcLoss_keeps  : Keeps tdcLoss := by
  intro s h
  unfold tdcLoss
  try dsimp only [State.free, id]
  repeat' (first
    | with_reducible assumption
    | with_reducible apply syncFull_keeps
    | with_reducible apply setChState_keeps
    | with_reducible apply chDropped_keeps
    | with_reducible apply State.setChan_keeps
    | with_reducible apply State.setGate_keeps
    | with_reducible apply State.wr_keeps
    | with_reducible apply each_keeps
    | simp only [wf_upd]
    | with_reducible rfl
    | split
    | intro _ _ _
    | intro _ _
    | intro _
    | dsimp only [State.free, id])

theorem cg14Drop_keeps  : Keeps cg14Drop := by
  intro s h
  unfold cg14Drop
  try dsimp only [State.free, id]
  repeat' (first
    | with_reducible assumption
    | with_reducible apply dropArm_keeps
    | with_reducible apply dropShadows_keeps
    | with_reducible apply State.wr_keeps
    | simp only [wf_upd]
    | with_reducible rfl
    | split
    | intro _ _ _
    | intro _ _
    | intro _
    | dsimp only [State.free, id])

theorem cg15Drop_keeps  : Keeps cg15Drop := by
  intro s h
  unfold cg15Drop
  try dsimp only [State.free, id]
  repeat' (first
    | with_reducible assumption
    | with_reducible apply dropArm_keeps
    | with_reducible apply dropShadows_keeps
    | with_reducible apply State.wr_keeps
    | simp only [wf_upd]
    | with_reducible rfl
    | split
    | intro _ _ _
    | intro _ _
    | intro _
    | dsimp only [State.free, id])

theorem groupLoss_keeps (b : Blk) : Keeps (groupLoss b) := by
  intro s h
  unfold groupLoss
  try dsimp only [State.free, id]
  repeat' (first
    | with_reducible assumption
    | with_reducible apply dropArm_keeps
    | with_reducible apply dropShadows_keeps
    | with_reducible apply cgDrop_keeps
    | with_reducible apply cg14Drop_keeps
    | with_reducible apply cg15Drop_keeps
    | with_reducible apply each_keeps
    | simp only [wf_upd]
    | with_reducible rfl
    | split
    | intro _ _ _
    | intro _ _
    | intro _
    | dsimp only [State.free, id])

theorem rsDiscard_keeps (cause : Nat) : Keeps (rsDiscard cause) := by
  intro s h
  unfold rsDiscard
  try dsimp only [State.free, id]
  repeat' (first
    | with_reducible assumption
    | with_reducible apply dropShadows_keeps
    | with_reducible apply cg14Drop_keeps
    | with_reducible apply cg15Drop_keeps
    | with_reducible apply cgDrop_keeps
    | with_reducible apply finish_keeps
    | with_reducible apply State.wr_keeps
    | with_reducible apply each_keeps
    | simp only [wf_upd]
    | with_reducible rfl
    | split
    | intro _ _ _
    | intro _ _
    | intro _
    | dsimp only [State.free, id])

theorem shmLoss_keeps  : Keeps shmLoss := by
  intro s h
  unfold shmLoss
  try dsimp only [State.free, id]
  repeat' (first
    | with_reducible assumption
    | with_reducible apply State.wr_keeps
    | simp only [wf_upd]
    | with_reducible rfl
    | split
    | intro _ _ _
    | intro _ _
    | intro _
    | dsimp only [State.free, id])

theorem pmcLoss_keeps  : Keeps pmcLoss := by
  intro s h
  unfold pmcLoss
  try dsimp only [State.free, id]
  repeat' (first
    | with_reducible assumption
    | refine pair_wf (by with_reducible assumption) ?_
    | with_reducible apply State.wr_keeps
    | with_reducible apply State.free_keeps
    | with_reducible apply complete_keeps
    | with_reducible apply dmaWrite_keeps
    | simp only [wf_upd]
    | with_reducible rfl
    | split
    | intro _ _ _
    | intro _ _
    | intro _
    | dsimp only [State.free, id])

theorem mgpDown_keeps  : Keeps mgpDown := by
  intro s h
  unfold mgpDown
  try dsimp only [State.free, id]
  repeat' (first
    | with_reducible assumption
    | with_reducible apply calLinkDown_keeps
    | with_reducible apply post_keeps
    | with_reducible apply State.wr_keeps
    | simp only [wf_upd]
    | with_reducible rfl
    | split
    | intro _ _ _
    | intro _ _
    | intro _
    | dsimp only [State.free, id])

theorem mgpLoss_keeps  : Keeps mgpLoss := by
  intro s h
  unfold mgpLoss
  try dsimp only [State.free, id]
  repeat' (first
    | with_reducible assumption
    | with_reducible apply State.wr_keeps
    | with_reducible apply mgpDown_keeps
    | with_reducible apply each_keeps
    | simp only [wf_upd]
    | with_reducible rfl
    | split
    | intro _ _ _
    | intro _ _
    | intro _
    | dsimp only [State.free, id])

theorem blockLoss_keeps (b : Blk) : Keeps (blockLoss b) := by
  intro s h
  unfold blockLoss
  try dsimp only [State.free, id]
  repeat' (first
    | with_reducible assumption
    | with_reducible apply groupLoss_keeps
    | with_reducible apply abortTokens_keeps
    | with_reducible apply tdcLoss_keeps
    | with_reducible apply gnLoss_keeps
    | with_reducible apply prtLoss_keeps
    | with_reducible apply sveLoss_keeps
    | with_reducible apply schLoss_keeps
    | with_reducible apply ubwLoss_keeps
    | with_reducible apply shmLoss_keeps
    | with_reducible apply pmcLoss_keeps
    | with_reducible apply mgpLoss_keeps
    | simp only [wf_upd]
    | with_reducible rfl
    | split
    | intro _ _ _
    | intro _ _
    | intro _
    | dsimp only [State.free, id])

end Sys2Proof.Machine
end

