-- ==== Sys2Proof/Laws/KeepMateCore.lean ====
section
/-! SUPPORT. What the operations of MateCore keep: the canonical form of the memories and of the register file. -/

set_option Elab.async false

set_option linter.unusedSimpArgs false
set_option linter.unusedTactic false
set_option linter.unreachableTactic false

namespace Sys2Proof.Machine

theorem setSharedDrive_keeps (b : Bool) : Keeps (setSharedDrive b) := by
  intro s h
  unfold setSharedDrive
  try dsimp only [State.free, id]
  repeat' (first
    | with_reducible assumption
    | with_reducible apply post_keeps
    | with_reducible apply syncDriving_keeps
    | with_reducible apply State.wr_keeps
    | simp only [wf_upd]
    | with_reducible rfl
    | split
    | intro _ _ _
    | intro _ _
    | intro _
    | dsimp only [State.free, id])

theorem mateEnter_keeps (st : Nat) : Keeps (mateEnter st) := by
  intro s h
  unfold mateEnter
  try dsimp only [State.free, id]
  repeat' (first
    | with_reducible assumption
    | with_reducible apply State.wr_keeps
    | with_reducible apply post_keeps
    | with_reducible apply setSharedDrive_keeps
    | with_reducible apply onlyIf_keeps
    | simp only [wf_upd]
    | with_reducible rfl
    | split
    | intro _ _ _
    | intro _ _
    | intro _
    | dsimp only [State.free, id])

theorem claimZero_keeps  : Keeps claimZero := by
  intro s h
  unfold claimZero
  try dsimp only [State.free, id]
  repeat' (first
    | with_reducible assumption
    | with_reducible apply setSharedDrive_keeps
    | with_reducible apply mateEnter_keeps
    | with_reducible apply State.wr_keeps
    | simp only [wf_upd]
    | with_reducible rfl
    | split
    | intro _ _ _
    | intro _ _
    | intro _
    | dsimp only [State.free, id])

end Sys2Proof.Machine
end

