-- ==== Sys2Proof/Laws/KeepFaults.lean ====
section
/-! SUPPORT. What the operations of Faults keep: the canonical form of the memories and of the register file. -/

set_option Elab.async false

set_option linter.unusedSimpArgs false
set_option linter.unusedTactic false
set_option linter.unreachableTactic false

namespace Sys2Proof.Machine

theorem pinFaultN_keeps  : Keeps pinFaultN := by
  intro s h
  unfold pinFaultN
  try dsimp only [State.free, id]
  repeat' (first
    | with_reducible assumption
    | with_reducible apply State.wr_keeps
    | simp only [wf_upd]
    | with_reducible rfl
    | split
    | intro _ _ _
    | intro _ _
    | intro _
    | dsimp only [State.free, id])

theorem writeLast_keeps (r : FltRec) : Keeps (writeLast r) := by
  intro s h
  unfold writeLast
  try dsimp only [State.free, id]
  repeat' (first
    | with_reducible assumption
    | with_reducible apply State.wr_keeps
    | with_reducible apply each_keeps
    | simp only [wf_upd]
    | with_reducible rfl
    | split
    | intro _ _ _
    | intro _ _
    | intro _
    | dsimp only [State.free, id])

theorem logRecord_keeps (r : FltRec) : Keeps (logRecord r) := by
  intro s h
  unfold logRecord
  try dsimp only [State.free, id]
  repeat' (first
    | with_reducible assumption
    | with_reducible apply writeLast_keeps
    | with_reducible apply post_keeps
    | with_reducible apply State.wr_keeps
    | with_reducible apply onlyIf_keeps
    | simp only [wf_upd]
    | with_reducible rfl
    | split
    | intro _ _ _
    | intro _ _
    | intro _
    | dsimp only [State.free, id])

theorem nmiPost_keeps (src : Nat) : Keeps (nmiPost src) := by
  intro s h
  unfold nmiPost
  try dsimp only [State.free, id]
  repeat' (first
    | with_reducible assumption
    | with_reducible apply erWrite_keeps
    | with_reducible apply setFlag_keeps
    | with_reducible apply count_keeps
    | with_reducible apply each_keeps
    | simp only [wf_upd]
    | with_reducible rfl
    | split
    | intro _ _ _
    | intro _ _
    | intro _
    | dsimp only [State.free, id])

theorem faultnSet_keeps (src : Nat) : Keeps (faultnSet src) := by
  intro s h
  unfold faultnSet
  try dsimp only [State.free, id]
  repeat' (first
    | with_reducible assumption
    | with_reducible apply pinFaultN_keeps
    | with_reducible apply count_keeps
    | with_reducible apply State.wr_keeps
    | simp only [wf_upd]
    | with_reducible rfl
    | split
    | intro _ _ _
    | intro _ _
    | intro _
    | dsimp only [State.free, id])

theorem additive_keeps (j : Judged) (ap : Nat × Bool) : Keeps (additive j ap) := by
  intro s h
  unfold additive
  try dsimp only [State.free, id]
  repeat' (first
    | with_reducible assumption
    | with_reducible apply setFlagAll_keeps
    | with_reducible apply count_keeps
    | with_reducible apply erWrite_keeps
    | with_reducible apply post_keeps
    | with_reducible apply nmiPost_keeps
    | with_reducible apply faultnSet_keeps
    | with_reducible apply each_keeps
    | with_reducible apply onlyIf_keeps
    | simp only [wf_upd]
    | with_reducible rfl
    | split
    | intro _ _ _
    | intro _ _
    | intro _
    | dsimp only [State.free, id])

theorem syncShadows_keeps (b : Blk) : Keeps (syncShadows b) := by
  intro s h
  unfold syncShadows
  try dsimp only [State.free, id]
  repeat' (first
    | with_reducible assumption
    | with_reducible apply State.wr_keeps
    | simp only [wf_upd]
    | with_reducible rfl
    | split
    | intro _ _ _
    | intro _ _
    | intro _
    | dsimp only [State.free, id])

theorem abortRequests_keeps (b : Blk) : Keeps (abortRequests b) := by
  intro s h
  unfold abortRequests
  try dsimp only [State.free, id]
  repeat' (first
    | with_reducible assumption
    | with_reducible apply complete_keeps
    | with_reducible apply each_keeps
    | simp only [wf_upd]
    | with_reducible rfl
    | split
    | intro _ _ _
    | intro _ _
    | intro _
    | dsimp only [State.free, id])

theorem startTimer_keeps (b : Blk) : Keeps (startTimer b) := by
  intro s h
  unfold startTimer
  try dsimp only [State.free, id]
  repeat' (first
    | with_reducible assumption
    | simp only [wf_upd]
    | with_reducible rfl
    | split
    | intro _ _ _
    | intro _ _
    | intro _
    | dsimp only [State.free, id])

theorem orderBlockReset_keeps (b : Blk) (primary : Option Nat) : Keeps (orderBlockReset b primary) := by
  intro s h
  unfold orderBlockReset
  try dsimp only [State.free, id]
  repeat' (first
    | with_reducible assumption
    | with_reducible apply startTimer_keeps
    | with_reducible apply abortRequests_keeps
    | with_reducible apply State.wr_keeps
    | with_reducible apply blockLoss_keeps
    | with_reducible apply post_keeps
    | with_reducible apply syncShadows_keeps
    | with_reducible apply onlyIf_keeps
    | simp only [wf_upd]
    | with_reducible rfl
    | split
    | intro _ _ _
    | intro _ _
    | intro _
    | dsimp only [State.free, id])

theorem closeShadow_keeps (b : Blk) : Keeps (closeShadow b) := by
  intro s h
  unfold closeShadow
  try dsimp only [State.free, id]
  repeat' (first
    | with_reducible assumption
    | with_reducible apply syncShadows_keeps
    | simp only [wf_upd]
    | with_reducible rfl
    | split
    | intro _ _ _
    | intro _ _
    | intro _
    | dsimp only [State.free, id])

theorem enterSafe_keeps (src : Nat) : Keeps (enterSafe src) := by
  intro s h
  unfold enterSafe
  try dsimp only [State.free, id]
  repeat' (first
    | with_reducible assumption
    | with_reducible apply rsDiscard_keeps
    | with_reducible apply claimZero_keeps
    | with_reducible apply syncDriving_keeps
    | with_reducible apply pinFaultN_keeps
    | with_reducible apply count_keeps
    | with_reducible apply State.wr_keeps
    | with_reducible apply onlyIf_keeps
    | simp only [wf_upd]
    | with_reducible rfl
    | split
    | intro _ _ _
    | intro _ _
    | intro _
    | dsimp only [State.free, id])

theorem latchHit_keeps (h : Hit) : Keeps (latchHit h) := by
  intro s h
  unfold latchHit
  try dsimp only [State.free, id]
  repeat' (first
    | with_reducible assumption
    | with_reducible apply count_keeps
    | with_reducible apply State.wr_keeps
    | simp only [wf_upd]
    | with_reducible rfl
    | split
    | intro _ _ _
    | intro _ _
    | intro _
    | dsimp only [State.free, id])

theorem hitsWith_keeps (lost : State → State) (l : List Hit) (hlost : Keeps lost) : Keeps (hitsWith lost l) := by
  intro s h
  unfold hitsWith
  try dsimp only [State.free, id]
  repeat' (first
    | with_reducible assumption
    | with_reducible apply latchHit_keeps
    | with_reducible apply logRecord_keeps
    | with_reducible apply additive_keeps
    | with_reducible apply enterSafe_keeps
    | with_reducible apply chipReset_keeps
    | with_reducible apply orderBlockReset_keeps
    | with_reducible apply each_keeps
    | with_reducible apply onlyIf_keeps
    | apply hlost
    | simp only [wf_upd]
    | with_reducible rfl
    | split
    | intro _ _ _
    | intro _ _
    | intro _
    | dsimp only [State.free, id])

theorem hits_keeps (l : List Hit) : Keeps (hits l) := by
  intro s h
  unfold hits
  try dsimp only [State.free, id]
  repeat' (first
    | with_reducible assumption
    | with_reducible apply hitsWith_keeps
    | simp only [wf_upd]
    | with_reducible rfl
    | split
    | intro _ _ _
    | intro _ _
    | intro _
    | dsimp only [State.free, id])

theorem raise_keeps (src obj detail : Nat) : Keeps (raise src obj detail) := by
  intro s h
  unfold raise
  try dsimp only [State.free, id]
  repeat' (first
    | with_reducible assumption
    | with_reducible apply hits_keeps
    | simp only [wf_upd]
    | with_reducible rfl
    | split
    | intro _ _ _
    | intro _ _
    | intro _
    | dsimp only [State.free, id])

end Sys2Proof.Machine
end

