-- ==== Sys2Proof/Laws/KeepKsCore.lean ====
section
/-! SUPPORT. What the operations of KsCore keep: the canonical form of the memories and of the register file. -/

set_option Elab.async false

set_option linter.unusedSimpArgs false
set_option linter.unusedTactic false
set_option linter.unreachableTactic false

namespace Sys2Proof.Machine

theorem State.setSa_keeps (n : Nat) (x : SaEnt) : Keeps (State.setSa n x) := by
  intro s h
  unfold State.setSa
  try dsimp only [State.free, id]
  repeat' (first
    | with_reducible assumption
    | simp only [wf_upd]
    | with_reducible rfl
    | split
    | intro _ _ _
    | intro _ _
    | intro _
    | dsimp only [State.free, id])

theorem State.setNts_keeps (n : Nat) (x : NtsEnt) : Keeps (State.setNts n x) := by
  intro s h
  unfold State.setNts
  try dsimp only [State.free, id]
  repeat' (first
    | with_reducible assumption
    | simp only [wf_upd]
    | with_reducible rfl
    | split
    | intro _ _ _
    | intro _ _
    | intro _
    | dsimp only [State.free, id])

theorem loseKeys_keeps (p : Nat → Bool) : Keeps (loseKeys p) := by
  intro s h
  unfold loseKeys
  try dsimp only [State.free, id]
  repeat' (first
    | with_reducible assumption
    | with_reducible apply post_keeps
    | with_reducible apply State.setSa_keeps
    | with_reducible apply State.setNts_keeps
    | with_reducible apply each_keeps
    | simp only [wf_upd]
    | with_reducible rfl
    | split
    | intro _ _ _
    | intro _ _
    | intro _
    | dsimp only [State.free, id])

theorem secReload_keeps  : Keeps secReload := by
  intro s h
  unfold secReload
  try dsimp only [State.free, id]
  repeat' (first
    | with_reducible assumption
    | with_reducible apply post_keeps
    | with_reducible apply State.setSa_keeps
    | with_reducible apply State.setNts_keeps
    | with_reducible apply each_keeps
    | simp only [wf_upd]
    | with_reducible rfl
    | split
    | intro _ _ _
    | intro _ _
    | intro _
    | dsimp only [State.free, id])

end Sys2Proof.Machine
end

