-- ==== Sys2Proof/Laws/KeepKeyStore.lean ====
section
/-! SUPPORT. What the operations of KeyStore keep: the canonical form of the memories and of the register file. -/

set_option Elab.async false

set_option linter.unusedSimpArgs false
set_option linter.unusedTactic false
set_option linter.unreachableTactic false

namespace Sys2Proof.Machine

theorem State.setKsSlot_keeps (n : Nat) (x : KsSlot) : Keeps (State.setKsSlot n x) := by
  intro s h
  unfold State.setKsSlot
  try dsimp only [State.free, id]
  repeat' (first
    | with_reducible assumption
    | simp only [wf_upd]
    | with_reducible rfl
    | split
    | intro _ _ _
    | intro _ _
    | intro _
    | dsimp only [State.free, id])

theorem syncKs_keeps  : Keeps syncKs := by
  intro s h
  unfold syncKs
  try dsimp only [State.free, id]
  repeat' (first
    | with_reducible assumption
    | with_reducible apply State.wr_keeps
    | simp only [wf_upd]
    | with_reducible rfl
    | split
    | intro _ _ _
    | intro _ _
    | intro _
    | dsimp only [State.free, id])

theorem ksWritten_keeps  : Keeps ksWritten := by
  intro s h
  unfold ksWritten
  try dsimp only [State.free, id]
  repeat' (first
    | with_reducible assumption
    | with_reducible apply State.wr64_keeps
    | simp only [wf_upd]
    | with_reducible rfl
    | split
    | intro _ _ _
    | intro _ _
    | intro _
    | dsimp only [State.free, id])

theorem revokeSlot_keeps (n : Nat) : Keeps (revokeSlot n) := by
  intro s h
  unfold revokeSlot
  try dsimp only [State.free, id]
  repeat' (first
    | with_reducible assumption
    | with_reducible apply loseKeys_keeps
    | with_reducible apply post_keeps
    | with_reducible apply onlyIf_keeps
    | simp only [wf_upd]
    | with_reducible rfl
    | split
    | intro _ _ _
    | intro _ _
    | intro _
    | dsimp only [State.free, id])

theorem putSlot_keeps (n : Nat) (attr : Octets) (key : Nat) : Keeps (putSlot n attr key) := by
  intro s h
  unfold putSlot
  try dsimp only [State.free, id]
  repeat' (first
    | with_reducible assumption
    | with_reducible apply State.setKsSlot_keeps
    | with_reducible apply revokeSlot_keeps
    | with_reducible apply syncKs_keeps
    | with_reducible apply ksWritten_keeps
    | simp only [wf_upd]
    | with_reducible rfl
    | split
    | intro _ _ _
    | intro _ _
    | intro _
    | dsimp only [State.free, id])

theorem ksRefuse_keeps (w : Win) (cause : Nat) : Keeps (ksRefuse w cause) := by
  intro s h
  unfold ksRefuse
  try dsimp only [State.free, id]
  repeat' (first
    | with_reducible assumption
    | with_reducible apply refuse_keeps
    | simp only [wf_upd]
    | with_reducible rfl
    | split
    | intro _ _ _
    | intro _ _
    | intro _
    | dsimp only [State.free, id])

theorem ksDenied_keeps (w : Win) : Keeps (ksDenied w) := by
  intro s h
  unfold ksDenied
  try dsimp only [State.free, id]
  repeat' (first
    | with_reducible assumption
    | with_reducible apply postTo_keeps
    | with_reducible apply ksRefuse_keeps
    | simp only [wf_upd]
    | with_reducible rfl
    | split
    | intro _ _ _
    | intro _ _
    | intro _
    | dsimp only [State.free, id])

theorem ksCommand_keeps (w : Win) (exempt : Bool) (auth : State → Bool) (body : State → State) (hbody : Keeps body) : Keeps (ksCommand w exempt auth body) := by
  intro s h
  unfold ksCommand
  try dsimp only [State.free, id]
  repeat' (first
    | with_reducible assumption
    | with_reducible apply ksRefuse_keeps
    | with_reducible apply ksDenied_keeps
    | with_reducible apply command_keeps
    | apply hbody
    | simp only [wf_upd]
    | with_reducible rfl
    | split
    | intro _ _ _
    | intro _ _
    | intro _
    | dsimp only [State.free, id])

theorem opKsReadAttr_keeps (w : Win) : Keeps (opKsReadAttr w) := by
  intro s h
  unfold opKsReadAttr
  try dsimp only [State.free, id]
  repeat' (first
    | with_reducible assumption
    | with_reducible apply completeOk_keeps
    | with_reducible apply State.wr_keeps
    | with_reducible apply ksCommand_keeps
    | with_reducible apply each_keeps
    | simp only [wf_upd]
    | with_reducible rfl
    | split
    | intro _ _ _
    | intro _ _
    | intro _
    | dsimp only [State.free, id])

theorem opKsGenerate_keeps (w : Win) (stored : Bool) : Keeps (opKsGenerate w stored) := by
  intro s h
  unfold opKsGenerate
  try dsimp only [State.free, id]
  repeat' (first
    | with_reducible assumption
    | refine pair_wf (by with_reducible assumption) ?_
    | with_reducible apply ksRefuse_keeps
    | with_reducible apply State.free_keeps
    | with_reducible apply completeOk_keeps
    | with_reducible apply putSlot_keeps
    | with_reducible apply ksCommand_keeps
    | simp only [wf_upd]
    | with_reducible rfl
    | split
    | intro _ _ _
    | intro _ _
    | intro _
    | dsimp only [State.free, id])

theorem opKsDerive_keeps (w : Win) (stored : Bool) : Keeps (opKsDerive w stored) := by
  intro s h
  unfold opKsDerive
  try dsimp only [State.free, id]
  repeat' (first
    | with_reducible assumption
    | with_reducible apply ksRefuse_keeps
    | with_reducible apply completeOk_keeps
    | with_reducible apply putSlot_keeps
    | with_reducible apply ksCommand_keeps
    | simp only [wf_upd]
    | with_reducible rfl
    | split
    | intro _ _ _
    | intro _ _
    | intro _
    | dsimp only [State.free, id])

theorem opKsRestrict_keeps (w : Win) (stored : Bool) : Keeps (opKsRestrict w stored) := by
  intro s h
  unfold opKsRestrict
  try dsimp only [State.free, id]
  repeat' (first
    | with_reducible assumption
    | with_reducible apply ksRefuse_keeps
    | with_reducible apply completeOk_keeps
    | with_reducible apply putSlot_keeps
    | with_reducible apply ksCommand_keeps
    | simp only [wf_upd]
    | with_reducible rfl
    | split
    | intro _ _ _
    | intro _ _
    | intro _
    | dsimp only [State.free, id])

theorem opKsWipe_keeps (w : Win) (stored : Bool) : Keeps (opKsWipe w stored) := by
  intro s h
  unfold opKsWipe
  try dsimp only [State.free, id]
  repeat' (first
    | with_reducible assumption
    | with_reducible apply ksRefuse_keeps
    | with_reducible apply completeOk_keeps
    | with_reducible apply putSlot_keeps
    | with_reducible apply ksCommand_keeps
    | simp only [wf_upd]
    | with_reducible rfl
    | split
    | intro _ _ _
    | intro _ _
    | intro _
    | dsimp only [State.free, id])

theorem clearAuth_keeps  : Keeps clearAuth := by
  intro s h
  unfold clearAuth
  try dsimp only [State.free, id]
  repeat' (first
    | with_reducible assumption
    | with_reducible apply State.wr_keeps
    | with_reducible apply each_keeps
    | simp only [wf_upd]
    | with_reducible rfl
    | split
    | intro _ _ _
    | intro _ _
    | intro _
    | dsimp only [State.free, id])

theorem zeroise_keeps  : Keeps zeroise := by
  intro s h
  unfold zeroise
  try dsimp only [State.free, id]
  repeat' (first
    | with_reducible assumption
    | with_reducible apply clearAuth_keeps
    | with_reducible apply State.wr64_keeps
    | with_reducible apply syncKs_keeps
    | with_reducible apply loseKeys_keeps
    | with_reducible apply State.wr_keeps
    | simp only [wf_upd]
    | with_reducible rfl
    | split
    | intro _ _ _
    | intro _ _
    | intro _
    | dsimp only [State.free, id])

theorem tamperTrip_keeps (i : Nat) : Keeps (tamperTrip i) := by
  intro s h
  unfold tamperTrip
  try dsimp only [State.free, id]
  repeat' (first
    | with_reducible assumption
    | with_reducible apply State.wr_keeps
    | with_reducible apply zeroise_keeps
    | with_reducible apply raise_keeps
    | with_reducible apply post_keeps
    | simp only [wf_upd]
    | with_reducible rfl
    | split
    | intro _ _ _
    | intro _ _
    | intro _
    | dsimp only [State.free, id])

theorem newRoot_keeps  : Keeps newRoot := by
  intro s h
  unfold newRoot
  try dsimp only [State.free, id]
  repeat' (first
    | with_reducible assumption
    | refine pair_wf (by with_reducible assumption) ?_
    | with_reducible apply State.free_keeps
    | with_reducible apply syncKs_keeps
    | with_reducible apply State.wr_keeps
    | simp only [wf_upd]
    | with_reducible rfl
    | split
    | intro _ _ _
    | intro _ _
    | intro _
    | dsimp only [State.free, id])

theorem opKsProvision_keeps (w : Win) : Keeps (opKsProvision w) := by
  intro s h
  unfold opKsProvision
  try dsimp only [State.free, id]
  repeat' (first
    | with_reducible assumption
    | with_reducible apply ksRefuse_keeps
    | with_reducible apply completeOk_keeps
    | with_reducible apply newRoot_keeps
    | with_reducible apply State.wr_keeps
    | with_reducible apply ksCommand_keeps
    | simp only [wf_upd]
    | with_reducible rfl
    | split
    | intro _ _ _
    | intro _ _
    | intro _
    | dsimp only [State.free, id])

theorem opKsDeploy_keeps (w : Win) : Keeps (opKsDeploy w) := by
  intro s h
  unfold opKsDeploy
  try dsimp only [State.free, id]
  repeat' (first
    | with_reducible assumption
    | with_reducible apply ksRefuse_keeps
    | with_reducible apply completeOk_keeps
    | with_reducible apply syncKs_keeps
    | with_reducible apply State.wr_keeps
    | with_reducible apply ksCommand_keeps
    | simp only [wf_upd]
    | with_reducible rfl
    | split
    | intro _ _ _
    | intro _ _
    | intro _
    | dsimp only [State.free, id])

theorem opKsReturn_keeps (w : Win) : Keeps (opKsReturn w) := by
  intro s h
  unfold opKsReturn
  try dsimp only [State.free, id]
  repeat' (first
    | with_reducible assumption
    | with_reducible apply ksRefuse_keeps
    | with_reducible apply completeOk_keeps
    | with_reducible apply zeroise_keeps
    | with_reducible apply State.wr_keeps
    | with_reducible apply ksCommand_keeps
    | simp only [wf_upd]
    | with_reducible rfl
    | split
    | intro _ _ _
    | intro _ _
    | intro _
    | dsimp only [State.free, id])

theorem putAuth_keeps (i : Nat) (o : Octets) : Keeps (putAuth i o) := by
  intro s h
  unfold putAuth
  try dsimp only [State.free, id]
  repeat' (first
    | with_reducible assumption
    | with_reducible apply State.wr_keeps
    | with_reducible apply ksWritten_keeps
    | with_reducible apply each_keeps
    | simp only [wf_upd]
    | with_reducible rfl
    | split
    | intro _ _ _
    | intro _ _
    | intro _
    | dsimp only [State.free, id])

theorem opKsAuthSet_keeps (w : Win) (stored : Bool) : Keeps (opKsAuthSet w stored) := by
  intro s h
  unfold opKsAuthSet
  try dsimp only [State.free, id]
  repeat' (first
    | with_reducible assumption
    | with_reducible apply ksRefuse_keeps
    | with_reducible apply complete_keeps
    | with_reducible apply completeOk_keeps
    | with_reducible apply putAuth_keeps
    | with_reducible apply ksCommand_keeps
    | simp only [wf_upd]
    | with_reducible rfl
    | split
    | intro _ _ _
    | intro _ _
    | intro _
    | dsimp only [State.free, id])

theorem opKsLockAuth_keeps (w : Win) : Keeps (opKsLockAuth w) := by
  intro s h
  unfold opKsLockAuth
  try dsimp only [State.free, id]
  repeat' (first
    | with_reducible assumption
    | with_reducible apply completeOk_keeps
    | with_reducible apply State.wr_keeps
    | with_reducible apply ksCommand_keeps
    | simp only [wf_upd]
    | with_reducible rfl
    | split
    | intro _ _ _
    | intro _ _
    | intro _
    | dsimp only [State.free, id])

theorem opKsIdStatement_keeps (w : Win) : Keeps (opKsIdStatement w) := by
  intro s h
  unfold opKsIdStatement
  try dsimp only [State.free, id]
  repeat' (first
    | with_reducible assumption
    | with_reducible apply ksRefuse_keeps
    | with_reducible apply completeOk_keeps
    | with_reducible apply dmaWrite_keeps
    | with_reducible apply ksCommand_keeps
    | simp only [wf_upd]
    | with_reducible rfl
    | split
    | intro _ _ _
    | intro _ _
    | intro _
    | dsimp only [State.free, id])

theorem opKsEkCert_keeps (w : Win) : Keeps (opKsEkCert w) := by
  intro s h
  unfold opKsEkCert
  try dsimp only [State.free, id]
  repeat' (first
    | with_reducible assumption
    | with_reducible apply ksRefuse_keeps
    | with_reducible apply completeOk_keeps
    | with_reducible apply dmaWrite_keeps
    | with_reducible apply State.wr_keeps
    | with_reducible apply ksCommand_keeps
    | simp only [wf_upd]
    | with_reducible rfl
    | split
    | intro _ _ _
    | intro _ _
    | intro _
    | dsimp only [State.free, id])

theorem envApply_keeps (e : Octets) : Keeps (envApply e) := by
  intro s h
  unfold envApply
  try dsimp only [State.free, id]
  repeat' (first
    | with_reducible assumption
    | with_reducible apply State.wr64_keeps
    | with_reducible apply putSlot_keeps
    | with_reducible apply putAuth_keeps
    | with_reducible apply zeroise_keeps
    | with_reducible apply State.wr_keeps
    | simp only [wf_upd]
    | with_reducible rfl
    | split
    | intro _ _ _
    | intro _ _
    | intro _
    | dsimp only [State.free, id])

theorem opKsEnvApply_keeps (w : Win) (stored : Bool) : Keeps (opKsEnvApply w stored) := by
  intro s h
  unfold opKsEnvApply
  try dsimp only [State.free, id]
  repeat' (first
    | with_reducible assumption
    | with_reducible apply ksRefuse_keeps
    | with_reducible apply complete_keeps
    | with_reducible apply post_keeps
    | with_reducible apply completeOk_keeps
    | with_reducible apply envApply_keeps
    | with_reducible apply ksCommand_keeps
    | simp only [wf_upd]
    | with_reducible rfl
    | split
    | intro _ _ _
    | intro _ _
    | intro _
    | dsimp only [State.free, id])

theorem keyDelivery_keeps (master slot usage tenant : Nat) : Keeps (keyDelivery master slot usage tenant) := by
  intro s h
  unfold keyDelivery
  try dsimp only [State.free, id]
  repeat' (first
    | with_reducible assumption
    | simp only [wf_upd]
    | with_reducible rfl
    | split
    | intro _ _ _
    | intro _ _
    | intro _
    | dsimp only [State.free, id])

theorem expireSlot_keeps (n : Nat) : Keeps (expireSlot n) := by
  intro s h
  unfold expireSlot
  try dsimp only [State.free, id]
  repeat' (first
    | with_reducible assumption
    | with_reducible apply post_keeps
    | with_reducible apply putSlot_keeps
    | simp only [wf_upd]
    | with_reducible rfl
    | split
    | intro _ _ _
    | intro _ _
    | intro _
    | dsimp only [State.free, id])

theorem expiryCheck_keeps (tick : Nat) : Keeps (expiryCheck tick) := by
  intro s h
  unfold expiryCheck
  try dsimp only [State.free, id]
  repeat' (first
    | with_reducible assumption
    | with_reducible apply expireSlot_keeps
    | with_reducible apply each_keeps
    | simp only [wf_upd]
    | with_reducible rfl
    | split
    | intro _ _ _
    | intro _ _
    | intro _
    | dsimp only [State.free, id])

end Sys2Proof.Machine
end

