-- ==== Sys2Proof/Laws/KeepPolicing.lean ====
section
/-! SUPPORT. What the operations of Policing keep: the canonical form of the memories and of the register file. -/

set_option Elab.async false

set_option linter.unusedSimpArgs false
set_option linter.unusedTactic false
set_option linter.unreachableTactic false

namespace Sys2Proof.Machine

theorem State.setPolicer_keeps (n : Nat) (p : Policer) : Keeps (State.setPolicer n p) := by
  intro s h
  unfold State.setPolicer
  try dsimp only [State.free, id]
  repeat' (first
    | with_reducible assumption
    | with_reducible apply State.wr_keeps
    | simp only [wf_upd]
    | with_reducible rfl
    | split
    | intro _ _ _
    | intro _ _
    | intro _
    | dsimp only [State.free, id])

theorem redDrop_keeps (n owner : Nat) : Keeps (redDrop n owner) := by
  intro s h
  unfold redDrop
  try dsimp only [State.free, id]
  repeat' (first
    | with_reducible assumption
    | with_reducible apply postReach_keeps
    | simp only [wf_upd]
    | with_reducible rfl
    | split
    | intro _ _ _
    | intro _ _
    | intro _
    | dsimp only [State.free, id])

theorem polMeter_keeps (n len : Nat) : ∀ s : State, s.wf = true → (polMeter n len s).2.wf = true := by
  intro s h
  unfold polMeter
  try dsimp only [State.free, id]
  repeat' (first
    | with_reducible assumption
    | with_reducible apply count_keeps
    | with_reducible apply State.setPolicer_keeps
    | with_reducible apply redDrop_keeps
    | simp only [wf_upd]
    | with_reducible rfl
    | split
    | intro _ _ _
    | intro _ _
    | intro _
    | dsimp only [State.free, id])

theorem polReopen_keeps  : Keeps polReopen := by
  intro s h
  unfold polReopen
  try dsimp only [State.free, id]
  repeat' (first
    | with_reducible assumption
    | simp only [wf_upd]
    | with_reducible rfl
    | split
    | intro _ _ _
    | intro _ _
    | intro _
    | dsimp only [State.free, id])

theorem polCommand_keeps (w : Win) (read : Bool) (body : Nat → State → State) (hbody : ∀ a0, Keeps (body a0)) : Keeps (polCommand w read body) := by
  intro s h
  unfold polCommand
  try dsimp only [State.free, id]
  repeat' (first
    | with_reducible assumption
    | with_reducible apply refuse_keeps
    | with_reducible apply command_keeps
    | apply hbody
    | simp only [wf_upd]
    | with_reducible rfl
    | split
    | intro _ _ _
    | intro _ _
    | intro _
    | dsimp only [State.free, id])

theorem opPolWrite_keeps (w : Win) : Keeps (opPolWrite w) := by
  intro s h
  unfold opPolWrite
  try dsimp only [State.free, id]
  repeat' (first
    | with_reducible assumption
    | with_reducible apply completeOk_keeps
    | with_reducible apply State.setPolicer_keeps
    | with_reducible apply polCommand_keeps
    | simp only [wf_upd]
    | with_reducible rfl
    | split
    | intro _ _ _
    | intro _ _
    | intro _
    | dsimp only [State.free, id])

theorem opPolRead_keeps (w : Win) : Keeps (opPolRead w) := by
  intro s h
  unfold opPolRead
  try dsimp only [State.free, id]
  repeat' (first
    | with_reducible assumption
    | with_reducible apply State.wr_keeps
    | with_reducible apply completeOk_keeps
    | with_reducible apply polCommand_keeps
    | simp only [wf_upd]
    | with_reducible rfl
    | split
    | intro _ _ _
    | intro _ _
    | intro _
    | dsimp only [State.free, id])

theorem opPolRefill_keeps (w : Win) : Keeps (opPolRefill w) := by
  intro s h
  unfold opPolRefill
  try dsimp only [State.free, id]
  repeat' (first
    | with_reducible assumption
    | with_reducible apply completeOk_keeps
    | with_reducible apply State.setPolicer_keeps
    | with_reducible apply polCommand_keeps
    | simp only [wf_upd]
    | with_reducible rfl
    | split
    | intro _ _ _
    | intro _ _
    | intro _
    | dsimp only [State.free, id])

theorem opPolClearCounts_keeps (w : Win) : Keeps (opPolClearCounts w) := by
  intro s h
  unfold opPolClearCounts
  try dsimp only [State.free, id]
  repeat' (first
    | with_reducible assumption
    | with_reducible apply completeOk_keeps
    | with_reducible apply State.setPolicer_keeps
    | with_reducible apply polCommand_keeps
    | simp only [wf_upd]
    | with_reducible rfl
    | split
    | intro _ _ _
    | intro _ _
    | intro _
    | dsimp only [State.free, id])

end Sys2Proof.Machine
end

