-- ==== Sys2Proof/Laws/KeepPorts.lean ====
section
/-! SUPPORT. What the operations of Ports keep: the canonical form of the memories and of the register file. -/

set_option Elab.async false

set_option linter.unusedSimpArgs false
set_option linter.unusedTactic false
set_option linter.unreachableTactic false

namespace Sys2Proof.Machine

theorem writePortCg_keeps (r : CgRef) (fn kind : Nat) (arm abort : Bool) : Keeps (writePortCg r fn kind arm abort) := by
  intro s h
  unfold writePortCg
  try dsimp only [State.free, id]
  repeat' (first
    | with_reducible assumption
    | with_reducible apply postTo_keeps
    | with_reducible apply State.wr_keeps
    | with_reducible apply post_keeps
    | with_reducible apply dropArm_keeps
    | with_reducible apply dropShadows_keeps
    | with_reducible apply setArm_keeps
    | with_reducible apply writeAtDoor_keeps
    | with_reducible apply onlyIf_keeps
    | simp only [wf_upd]
    | with_reducible rfl
    | split
    | intro _ _ _
    | intro _ _
    | intro _
    | dsimp only [State.free, id])

theorem setMembers_keeps (n : Nat) (m : Bool) : Keeps (setMembers n m) := by
  intro s h
  unfold setMembers
  try dsimp only [State.free, id]
  repeat' (first
    | with_reducible assumption
    | with_reducible apply State.wr_keeps
    | with_reducible apply each_keeps
    | simp only [wf_upd]
    | with_reducible rfl
    | split
    | intro _ _ _
    | intro _ _
    | intro _
    | dsimp only [State.free, id])

theorem writePortCfg_keeps (fn n v : Nat) : Keeps (writePortCfg fn n v) := by
  intro s h
  unfold writePortCfg
  try dsimp only [State.free, id]
  repeat' (first
    | with_reducible assumption
    | with_reducible apply postTo_keeps
    | with_reducible apply State.wr_keeps
    | with_reducible apply post_keeps
    | with_reducible apply setMembers_keeps
    | with_reducible apply portDown_keeps
    | with_reducible apply writeAtDoor_keeps
    | with_reducible apply onlyIf_keeps
    | simp only [wf_upd]
    | with_reducible rfl
    | split
    | intro _ _ _
    | intro _ _
    | intro _
    | dsimp only [State.free, id])

theorem linkFails_keeps (n : Nat) (c : LinkCause) : Keeps (linkFails n c) := by
  intro s h
  unfold linkFails
  try dsimp only [State.free, id]
  repeat' (first
    | with_reducible assumption
    | with_reducible apply State.wr_keeps
    | with_reducible apply post_keeps
    | with_reducible apply onlyIf_keeps
    | simp only [wf_upd]
    | with_reducible rfl
    | split
    | intro _ _ _
    | intro _ _
    | intro _
    | dsimp only [State.free, id])

theorem portLinkFails_keeps (n : Nat) (c : LinkCause) : Keeps (portLinkFails n c) := by
  intro s h
  unfold portLinkFails
  try dsimp only [State.free, id]
  repeat' (first
    | with_reducible assumption
    | with_reducible apply portDown_keeps
    | with_reducible apply linkFails_keeps
    | simp only [wf_upd]
    | with_reducible rfl
    | split
    | intro _ _ _
    | intro _ _
    | intro _
    | dsimp only [State.free, id])

theorem portLinkHeld_keeps (n : Nat) : Keeps (portLinkHeld n) := by
  intro s h
  unfold portLinkHeld
  try dsimp only [State.free, id]
  repeat' (first
    | with_reducible assumption
    | with_reducible apply State.wr_keeps
    | with_reducible apply portLinkUp_keeps
    | simp only [wf_upd]
    | with_reducible rfl
    | split
    | intro _ _ _
    | intro _ _
    | intro _
    | dsimp only [State.free, id])

theorem remoteFault_keeps (n : Nat) (present : Bool) : Keeps (remoteFault n present) := by
  intro s h
  unfold remoteFault
  try dsimp only [State.free, id]
  repeat' (first
    | with_reducible assumption
    | with_reducible apply post_keeps
    | with_reducible apply State.wr_keeps
    | with_reducible apply onlyIf_keeps
    | simp only [wf_upd]
    | with_reducible rfl
    | split
    | intro _ _ _
    | intro _ _
    | intro _
    | dsimp only [State.free, id])

theorem laneLockLoss_keeps (l : Nat) : Keeps (laneLockLoss l) := by
  intro s h
  unfold laneLockLoss
  try dsimp only [State.free, id]
  repeat' (first
    | with_reducible assumption
    | with_reducible apply State.wr_keeps
    | with_reducible apply linkLost_keeps
    | with_reducible apply portDown_keeps
    | simp only [wf_upd]
    | with_reducible rfl
    | split
    | intro _ _ _
    | intro _ _
    | intro _
    | dsimp only [State.free, id])

theorem writeTsr_keeps (b : Blk) (off : Nat) (r : TsrRef) (auth : EvRef) (fn v : Nat) : Keeps (writeTsr b off r auth fn v) := by
  intro s h
  unfold writeTsr
  try dsimp only [State.free, id]
  repeat' (first
    | with_reducible assumption
    | with_reducible apply writeTsrCfg_keeps
    | with_reducible apply postTo_keeps
    | with_reducible apply writeAtDoor_keeps
    | simp only [wf_upd]
    | with_reducible rfl
    | split
    | intro _ _ _
    | intro _ _
    | intro _
    | dsimp only [State.free, id])

end Sys2Proof.Machine
end

