-- ==== Sys2Proof/Laws/KeepSched.lean ====
section
/-! SUPPORT. What the operations of Sched keep: the canonical form of the memories and of the register file. -/

set_option Elab.async false

set_option linter.unusedSimpArgs false
set_option linter.unusedTactic false
set_option linter.unreachableTactic false

namespace Sys2Proof.Machine

theorem gateRefresh_keeps (n tick : Nat) : Keeps (gateRefresh n tick) := by
  intro s h
  unfold gateRefresh
  try dsimp only [State.free, id]
  repeat' (first
    | with_reducible assumption
    | with_reducible apply State.wr_keeps
    | simp only [wf_upd]
    | with_reducible rfl
    | split
    | intro _ _ _
    | intro _ _
    | intro _
    | dsimp only [State.free, id])

theorem writeGateCtrl_keeps (fn n v : Nat) : Keeps (writeGateCtrl fn n v) := by
  intro s h
  unfold writeGateCtrl
  try dsimp only [State.free, id]
  repeat' (first
    | with_reducible assumption
    | with_reducible apply postTo_keeps
    | with_reducible apply State.wr_keeps
    | with_reducible apply State.setSchPort_keeps
    | with_reducible apply post_keeps
    | with_reducible apply writeAtDoor_keeps
    | simp only [wf_upd]
    | with_reducible rfl
    | split
    | intro _ _ _
    | intro _ _
    | intro _
    | dsimp only [State.free, id])

theorem gateTakeover_keeps (n tick : Nat) : Keeps (gateTakeover n tick) := by
  intro s h
  unfold gateTakeover
  try dsimp only [State.free, id]
  repeat' (first
    | with_reducible assumption
    | with_reducible apply State.setSchPort_keeps
    | with_reducible apply State.wr_keeps
    | with_reducible apply postAt_keeps
    | with_reducible apply gateRefresh_keeps
    | simp only [wf_upd]
    | with_reducible rfl
    | split
    | intro _ _ _
    | intro _ _
    | intro _
    | dsimp only [State.free, id])

theorem gateEntryStart_keeps (n tick : Nat) : Keeps (gateEntryStart n tick) := by
  intro s h
  unfold gateEntryStart
  try dsimp only [State.free, id]
  repeat' (first
    | with_reducible assumption
    | with_reducible apply gateRefresh_keeps
    | simp only [wf_upd]
    | with_reducible rfl
    | split
    | intro _ _ _
    | intro _ _
    | intro _
    | dsimp only [State.free, id])

theorem purgeNoFit_keeps (n : Nat) : Keeps (purgeNoFit n) := by
  intro s h
  unfold purgeNoFit
  try dsimp only [State.free, id]
  repeat' (first
    | with_reducible assumption
    | with_reducible apply State.setQ_keeps
    | with_reducible apply frameDropped_keeps
    | with_reducible apply count_keeps
    | with_reducible apply each_keeps
    | simp only [wf_upd]
    | with_reducible rfl
    | split
    | intro _ _ _
    | intro _ _
    | intro _
    | dsimp only [State.free, id])

theorem grantLag_keeps (n : Nat) (f : TxFrame) : Keeps (grantLag n f) := by
  intro s h
  unfold grantLag
  try dsimp only [State.free, id]
  repeat' (first
    | with_reducible assumption
    | with_reducible apply post_keeps
    | with_reducible apply State.wr_keeps
    | simp only [wf_upd]
    | with_reducible rfl
    | split
    | intro _ _ _
    | intro _ _
    | intro _
    | dsimp only [State.free, id])

theorem selectFrom_keeps (n q : Nat) : Keeps (selectFrom n q) := by
  intro s h
  unfold selectFrom
  try dsimp only [State.free, id]
  repeat' (first
    | with_reducible assumption
    | with_reducible apply grantLag_keeps
    | with_reducible apply State.setQ_keeps
    | with_reducible apply count_keeps
    | with_reducible apply State.setSchPort_keeps
    | simp only [wf_upd]
    | with_reducible rfl
    | split
    | intro _ _ _
    | intro _ _
    | intro _
    | dsimp only [State.free, id])

theorem schSelect_keeps (n : Nat) : Keeps (schSelect n) := by
  intro s h
  unfold schSelect
  try dsimp only [State.free, id]
  repeat' (first
    | with_reducible assumption
    | with_reducible apply count_keeps
    | with_reducible apply State.setSchPort_keeps
    | with_reducible apply purgeNoFit_keeps
    | with_reducible apply selectFrom_keeps
    | simp only [wf_upd]
    | with_reducible rfl
    | split
    | intro _ _ _
    | intro _ _
    | intro _
    | dsimp only [State.free, id])

theorem revoke_keeps (p : TxFrame → Bool) : Keeps (revoke p) := by
  intro s h
  unfold revoke
  try dsimp only [State.free, id]
  repeat' (first
    | with_reducible assumption
    | simp only [wf_upd]
    | with_reducible rfl
    | split
    | intro _ _ _
    | intro _ _
    | intro _
    | dsimp only [State.free, id])

theorem writeSample_keeps (n : Nat) (f : TxFrame) : Keeps (writeSample n f) := by
  intro s h
  unfold writeSample
  try dsimp only [State.free, id]
  repeat' (first
    | with_reducible assumption
    | with_reducible apply post_keeps
    | with_reducible apply State.shmWrite_keeps
    | with_reducible apply State.wr_keeps
    | with_reducible apply onlyIf_keeps
    | simp only [wf_upd]
    | with_reducible rfl
    | split
    | intro _ _ _
    | intro _ _
    | intro _
    | dsimp only [State.free, id])

theorem qCommand_keeps (w : Win) (body : Nat → State → State) (hbody : ∀ a0, Keeps (body a0)) : Keeps (qCommand w body) := by
  intro s h
  unfold qCommand
  try dsimp only [State.free, id]
  repeat' (first
    | with_reducible assumption
    | with_reducible apply command_keeps
    | apply hbody
    | simp only [wf_upd]
    | with_reducible rfl
    | split
    | intro _ _ _
    | intro _ _
    | intro _
    | dsimp only [State.free, id])

theorem opQWrite_keeps (w : Win) : Keeps (opQWrite w) := by
  intro s h
  unfold opQWrite
  try dsimp only [State.free, id]
  repeat' (first
    | with_reducible assumption
    | with_reducible apply refuse_keeps
    | with_reducible apply completeOk_keeps
    | with_reducible apply revoke_keeps
    | with_reducible apply State.setQ_keeps
    | with_reducible apply qCommand_keeps
    | simp only [wf_upd]
    | with_reducible rfl
    | split
    | intro _ _ _
    | intro _ _
    | intro _
    | dsimp only [State.free, id])

theorem opQRead_keeps (w : Win) (clearMax : Bool) : Keeps (opQRead w clearMax) := by
  intro s h
  unfold opQRead
  try dsimp only [State.free, id]
  repeat' (first
    | with_reducible assumption
    | with_reducible apply refuse_keeps
    | with_reducible apply State.wr_keeps
    | with_reducible apply completeOk_keeps
    | with_reducible apply State.setQ_keeps
    | with_reducible apply qCommand_keeps
    | with_reducible apply onlyIf_keeps
    | simp only [wf_upd]
    | with_reducible rfl
    | split
    | intro _ _ _
    | intro _ _
    | intro _
    | dsimp only [State.free, id])

theorem opQFlush_keeps (w : Win) : Keeps (opQFlush w) := by
  intro s h
  unfold opQFlush
  try dsimp only [State.free, id]
  repeat' (first
    | with_reducible assumption
    | with_reducible apply refuse_keeps
    | with_reducible apply queueDiscard_keeps
    | with_reducible apply completeOk_keeps
    | with_reducible apply revoke_keeps
    | with_reducible apply State.setQ_keeps
    | with_reducible apply qCommand_keeps
    | simp only [wf_upd]
    | with_reducible rfl
    | split
    | intro _ _ _
    | intro _ _
    | intro _
    | dsimp only [State.free, id])

theorem schReopen_keeps  : Keeps schReopen := by
  intro s h
  unfold schReopen
  try dsimp only [State.free, id]
  repeat' (first
    | with_reducible assumption
    | with_reducible apply gateRefresh_keeps
    | with_reducible apply each_keeps
    | simp only [wf_upd]
    | with_reducible rfl
    | split
    | intro _ _ _
    | intro _ _
    | intro _
    | dsimp only [State.free, id])

end Sys2Proof.Machine
end

