-- ==== Sys2Proof/Laws/KeepSecCore.lean ====
section
/-! SUPPORT. What the operations of SecCore keep: the canonical form of the memories and of the register file. -/

set_option Elab.async false

set_option linter.unusedSimpArgs false
set_option linter.unusedTactic false
set_option linter.unreachableTactic false

namespace Sys2Proof.Machine

theorem ghOps_keeps (n : Nat) : Keeps (ghOps n) := by
  intro s h
  unfold ghOps
  try dsimp only [State.free, id]
  repeat' (first
    | with_reducible assumption
    | with_reducible apply count_keeps
    | simp only [wf_upd]
    | with_reducible rfl
    | split
    | intro _ _ _
    | intro _ _
    | intro _
    | dsimp only [State.free, id])

theorem sivOps_keeps (k : Nat) : Keeps (sivOps k) := by
  intro s h
  unfold sivOps
  try dsimp only [State.free, id]
  repeat' (first
    | with_reducible assumption
    | with_reducible apply count_keeps
    | simp only [wf_upd]
    | with_reducible rfl
    | split
    | intro _ _ _
    | intro _ _
    | intro _
    | dsimp only [State.free, id])

theorem takeSeq_keeps (sa : Nat) : ∀ s : State, s.wf = true → (takeSeq sa s).2.wf = true := by
  intro s h
  unfold takeSeq
  try dsimp only [State.free, id]
  repeat' (first
    | with_reducible assumption
    | with_reducible apply post_keeps
    | with_reducible apply State.wr_keeps
    | with_reducible apply State.setSa_keeps
    | with_reducible apply onlyIf_keeps
    | simp only [wf_upd]
    | with_reducible rfl
    | split
    | intro _ _ _
    | intro _ _
    | intro _
    | dsimp only [State.free, id])

theorem authFail_keeps (cause tenant sa : Nat) : Keeps (authFail cause tenant sa) := by
  intro s h
  unfold authFail
  try dsimp only [State.free, id]
  repeat' (first
    | with_reducible assumption
    | with_reducible apply count_keeps
    | with_reducible apply post_keeps
    | with_reducible apply State.wr_keeps
    | simp only [wf_upd]
    | with_reducible rfl
    | split
    | intro _ _ _
    | intro _ _
    | intro _
    | dsimp only [State.free, id])

theorem takeNonce_keeps  : ∀ s : State, s.wf = true → (takeNonce s).2.wf = true := by
  intro s h
  unfold takeNonce
  try dsimp only [State.free, id]
  repeat' (first
    | with_reducible assumption
    | simp only [wf_upd]
    | with_reducible rfl
    | split
    | intro _ _ _
    | intro _ _
    | intro _
    | dsimp only [State.free, id])

end Sys2Proof.Machine
end

