-- ==== Sys2Proof/Laws/KeepShmCore.lean ====
section
/-! SUPPORT. What the operations of ShmCore keep: the canonical form of the memories and of the register file. -/

set_option Elab.async false

set_option linter.unusedSimpArgs false
set_option linter.unusedTactic false
set_option linter.unreachableTactic false

namespace Sys2Proof.Machine

theorem poisonUse_keeps (m a : Nat) : Keeps (poisonUse m a) := by
  intro s h
  unfold poisonUse
  try dsimp only [State.free, id]
  repeat' (first
    | with_reducible assumption
    | with_reducible apply raise_keeps
    | with_reducible apply poisonUsed_keeps
    | simp only [wf_upd]
    | with_reducible rfl
    | split
    | intro _ _ _
    | intro _ _
    | intro _
    | dsimp only [State.free, id])

end Sys2Proof.Machine
end

