-- ==== Sys2Proof/Laws/KeepSecurity.lean ====
section
/-! SUPPORT. What the operations of Security keep: the canonical form of the memories and of the register file. -/

set_option Elab.async false

set_option linter.unusedSimpArgs false
set_option linter.unusedTactic false
set_option linter.unreachableTactic false

namespace Sys2Proof.Machine

theorem saCommand_keeps (w : Win) (read : Bool) (body : Nat → State → State) (hbody : ∀ a0, Keeps (body a0)) : Keeps (saCommand w read body) := by
  intro s h
  unfold saCommand
  try dsimp only [State.free, id]
  repeat' (first
    | with_reducible assumption
    | with_reducible apply refuse_keeps
    | with_reducible apply command_keeps
    | apply hbody
    | simp only [wf_upd]
    | with_reducible rfl
    | split
    | intro _ _ _
    | intro _ _
    | intro _
    | dsimp only [State.free, id])

theorem ntsCommand_keeps (w : Win) (open_ : State → Nat → Bool) (body : Nat → State → State) (hbody : ∀ a0, Keeps (body a0)) : Keeps (ntsCommand w open_ body) := by
  intro s h
  unfold ntsCommand
  try dsimp only [State.free, id]
  repeat' (first
    | with_reducible assumption
    | with_reducible apply refuse_keeps
    | with_reducible apply command_keeps
    | apply hbody
    | simp only [wf_upd]
    | with_reducible rfl
    | split
    | intro _ _ _
    | intro _ _
    | intro _
    | dsimp only [State.free, id])

theorem opSaWrite_keeps (w : Win) : Keeps (opSaWrite w) := by
  intro s h
  unfold opSaWrite
  try dsimp only [State.free, id]
  repeat' (first
    | with_reducible assumption
    | with_reducible apply refuse_keeps
    | with_reducible apply completeOk_keeps
    | with_reducible apply State.setSa_keeps
    | with_reducible apply saCommand_keeps
    | simp only [wf_upd]
    | with_reducible rfl
    | split
    | intro _ _ _
    | intro _ _
    | intro _
    | dsimp only [State.free, id])

theorem opSaRead_keeps (w : Win) : Keeps (opSaRead w) := by
  intro s h
  unfold opSaRead
  try dsimp only [State.free, id]
  repeat' (first
    | with_reducible assumption
    | with_reducible apply State.wr_keeps
    | with_reducible apply completeOk_keeps
    | with_reducible apply saCommand_keeps
    | simp only [wf_upd]
    | with_reducible rfl
    | split
    | intro _ _ _
    | intro _ _
    | intro _
    | dsimp only [State.free, id])

theorem opSaLoadKey_keeps (w : Win) : Keeps (opSaLoadKey w) := by
  intro s h
  unfold opSaLoadKey
  try dsimp only [State.free, id]
  repeat' (first
    | with_reducible assumption
    | with_reducible apply refuse_keeps
    | with_reducible apply completeOk_keeps
    | with_reducible apply State.setSa_keeps
    | with_reducible apply saCommand_keeps
    | simp only [wf_upd]
    | with_reducible rfl
    | split
    | intro _ _ _
    | intro _ _
    | intro _
    | dsimp only [State.free, id])

theorem opSaUnloadKey_keeps (w : Win) : Keeps (opSaUnloadKey w) := by
  intro s h
  unfold opSaUnloadKey
  try dsimp only [State.free, id]
  repeat' (first
    | with_reducible assumption
    | with_reducible apply refuse_keeps
    | with_reducible apply completeOk_keeps
    | with_reducible apply State.setSa_keeps
    | with_reducible apply saCommand_keeps
    | simp only [wf_upd]
    | with_reducible rfl
    | split
    | intro _ _ _
    | intro _ _
    | intro _
    | dsimp only [State.free, id])

theorem opSaRotate_keeps (w : Win) (frcTime : Bool) : Keeps (opSaRotate w frcTime) := by
  intro s h
  unfold opSaRotate
  try dsimp only [State.free, id]
  repeat' (first
    | with_reducible assumption
    | with_reducible apply refuse_keeps
    | with_reducible apply completeOk_keeps
    | with_reducible apply State.setSa_keeps
    | with_reducible apply saCommand_keeps
    | simp only [wf_upd]
    | with_reducible rfl
    | split
    | intro _ _ _
    | intro _ _
    | intro _
    | dsimp only [State.free, id])

theorem rotateTick_keeps (n : Nat) : Keeps (rotateTick n) := by
  intro s h
  unfold rotateTick
  try dsimp only [State.free, id]
  repeat' (first
    | with_reducible assumption
    | with_reducible apply postAt_keeps
    | with_reducible apply State.setSa_keeps
    | simp only [wf_upd]
    | with_reducible rfl
    | split
    | intro _ _ _
    | intro _ _
    | intro _
    | dsimp only [State.free, id])

theorem opSaInvalidate_keeps (w : Win) : Keeps (opSaInvalidate w) := by
  intro s h
  unfold opSaInvalidate
  try dsimp only [State.free, id]
  repeat' (first
    | with_reducible assumption
    | with_reducible apply refuse_keeps
    | with_reducible apply completeOk_keeps
    | with_reducible apply saCommand_keeps
    | simp only [wf_upd]
    | with_reducible rfl
    | split
    | intro _ _ _
    | intro _ _
    | intro _
    | dsimp only [State.free, id])

theorem opNtsLoad_keeps (w : Win) : Keeps (opNtsLoad w) := by
  intro s h
  unfold opNtsLoad
  try dsimp only [State.free, id]
  repeat' (first
    | with_reducible assumption
    | with_reducible apply refuse_keeps
    | with_reducible apply completeOk_keeps
    | with_reducible apply State.setNts_keeps
    | with_reducible apply ntsCommand_keeps
    | simp only [wf_upd]
    | with_reducible rfl
    | split
    | intro _ _ _
    | intro _ _
    | intro _
    | dsimp only [State.free, id])

theorem opNtsMakeCurrent_keeps (w : Win) : Keeps (opNtsMakeCurrent w) := by
  intro s h
  unfold opNtsMakeCurrent
  try dsimp only [State.free, id]
  repeat' (first
    | with_reducible assumption
    | with_reducible apply refuse_keeps
    | with_reducible apply completeOk_keeps
    | with_reducible apply ntsCommand_keeps
    | simp only [wf_upd]
    | with_reducible rfl
    | split
    | intro _ _ _
    | intro _ _
    | intro _
    | dsimp only [State.free, id])

theorem opNtsUnload_keeps (w : Win) : Keeps (opNtsUnload w) := by
  intro s h
  unfold opNtsUnload
  try dsimp only [State.free, id]
  repeat' (first
    | with_reducible assumption
    | with_reducible apply completeOk_keeps
    | with_reducible apply refuse_keeps
    | with_reducible apply ntsCommand_keeps
    | simp only [wf_upd]
    | with_reducible rfl
    | split
    | intro _ _ _
    | intro _ _
    | intro _
    | dsimp only [State.free, id])

theorem mintCookies_keeps (e : NtsEnt) (c2s s2c : Octets) (n : Nat) : ∀ s, s.wf = true → (mintCookies e c2s s2c n s).2.wf = true := by
  induction n with
  | zero => exact fun s h => h
  | succ n ih => exact fun s h => ih _ (takeNonce_keeps s h)

theorem opNtsMint_keeps (w : Win) (count : Nat) : Keeps (opNtsMint w count) := by
  intro s h
  unfold opNtsMint
  refine ntsCommand_keeps _ _ _ ?_ s h
  intro a s h
  dsimp only
  split
  · exact refuse_keeps _ _ _ s h
  · split
    · exact refuse_keeps _ _ _ s h
    · split
      · exact complete_keeps _ _ _ _ _ (onlyIf_keeps _ _ (poisonUse_keeps _ _) s h)
      · exact completeOk_keeps _ _ _ (sivOps_keeps _ _ (dmaWrite_keeps _ _ _ _ (mintCookies_keeps _ _ _ _ s h)))

theorem opNtsRead_keeps (w : Win) : Keeps (opNtsRead w) := by
  intro s h
  unfold opNtsRead
  try dsimp only [State.free, id]
  repeat' (first
    | with_reducible assumption
    | with_reducible apply State.wr_keeps
    | with_reducible apply completeOk_keeps
    | with_reducible apply ntsCommand_keeps
    | simp only [wf_upd]
    | with_reducible rfl
    | split
    | intro _ _ _
    | intro _ _
    | intro _
    | dsimp only [State.free, id])

end Sys2Proof.Machine
end

