-- ==== Sys2Proof/Laws/KeepShmCmds.lean ====
section
/-! SUPPORT. What the operations of ShmCmds keep: the canonical form of the memories and of the register file. -/

set_option Elab.async false

set_option linter.unusedSimpArgs false
set_option linter.unusedTactic false
set_option linter.unreachableTactic false

namespace Sys2Proof.Machine

theorem setContract_keeps (m g v : Nat) : Keeps (setContract m g v) := by
  intro s h
  unfold setContract
  try dsimp only [State.free, id]
  repeat' (first
    | with_reducible assumption
    | with_reducible apply State.wr_keeps
    | with_reducible apply onlyIf_keeps
    | simp only [wf_upd]
    | with_reducible rfl
    | split
    | intro _ _ _
    | intro _ _
    | intro _
    | dsimp only [State.free, id])

theorem opCt_keeps (w : Win) (write : Bool) : Keeps (opCt w write) := by
  intro s h
  unfold opCt
  try dsimp only [State.free, id]
  repeat' (first
    | with_reducible assumption
    | with_reducible apply refuse_keeps
    | with_reducible apply State.wr_keeps
    | with_reducible apply completeOk_keeps
    | with_reducible apply post_keeps
    | with_reducible apply setContract_keeps
    | with_reducible apply command_keeps
    | simp only [wf_upd]
    | with_reducible rfl
    | split
    | intro _ _ _
    | intro _ _
    | intro _
    | dsimp only [State.free, id])

theorem contractWindow_keeps (tick : Nat) (waiting : List (Fin 21 × Fin 17)) : Keeps (contractWindow tick waiting) := by
  intro s h
  unfold contractWindow
  try dsimp only [State.free, id]
  repeat' (first
    | with_reducible assumption
    | with_reducible apply State.wr_keeps
    | with_reducible apply post_keeps
    | with_reducible apply each_keeps
    | simp only [wf_upd]
    | with_reducible rfl
    | split
    | intro _ _ _
    | intro _ _
    | intro _
    | dsimp only [State.free, id])

theorem shmDone_keeps (m a code : Nat) (data : Octets) : Keeps (shmDone m a code data) := by
  intro s h
  unfold shmDone
  try dsimp only [State.free, id]
  repeat' (first
    | with_reducible assumption
    | simp only [wf_upd]
    | with_reducible rfl
    | split
    | intro _ _ _
    | intro _ _
    | intro _
    | dsimp only [State.free, id])

theorem poisonWord_keeps (a : Nat) : Keeps (poisonWord a) := by
  intro s h
  unfold poisonWord
  try dsimp only [State.free, id]
  repeat' (first
    | with_reducible assumption
    | simp only [wf_upd]
    | with_reducible rfl
    | split
    | intro _ _ _
    | intro _ _
    | intro _
    | dsimp only [State.free, id])

theorem shmErr_keeps (m a : Nat) (ue : Bool) (lanes : Nat) : Keeps (shmErr m a ue lanes) := by
  intro s h
  unfold shmErr
  try dsimp only [State.free, id]
  repeat' (first
    | with_reducible assumption
    | with_reducible apply State.wr_keeps
    | simp only [wf_upd]
    | with_reducible rfl
    | split
    | intro _ _ _
    | intro _ _
    | intro _
    | dsimp only [State.free, id])

theorem eccUe_keeps (m a lanes : Nat) : Keeps (eccUe m a lanes) := by
  intro s h
  unfold eccUe
  try dsimp only [State.free, id]
  repeat' (first
    | with_reducible assumption
    | with_reducible apply shmErr_keeps
    | with_reducible apply poisonWord_keeps
    | with_reducible apply raise_keeps
    | with_reducible apply post_keeps
    | with_reducible apply State.wr_keeps
    | simp only [wf_upd]
    | with_reducible rfl
    | split
    | intro _ _ _
    | intro _ _
    | intro _
    | dsimp only [State.free, id])

theorem atomic_keeps (add wide : Bool) (a x : Nat) : ∀ s : State, s.wf = true → (atomic add wide a x s).2.wf = true := by
  intro s h
  unfold atomic
  try dsimp only [State.free, id]
  repeat' (first
    | with_reducible assumption
    | with_reducible apply State.shmWrite_keeps
    | simp only [wf_upd]
    | with_reducible rfl
    | split
    | intro _ _ _
    | intro _ _
    | intro _
    | dsimp only [State.free, id])

theorem writeWord_keeps (a : Nat) (d : Octets) (poison : Bool) : Keeps (writeWord a d poison) := by
  intro s h
  unfold writeWord
  try dsimp only [State.free, id]
  repeat' (first
    | with_reducible assumption
    | with_reducible apply State.shmWrite_keeps
    | with_reducible apply poisonWord_keeps
    | simp only [wf_upd]
    | with_reducible rfl
    | split
    | intro _ _ _
    | intro _ _
    | intro _
    | dsimp only [State.free, id])

theorem perform_keeps (r : ShmReq) (ce ue : Nat) : Keeps (perform r ce ue) := by
  intro s h
  unfold perform
  try dsimp only [State.free, id]
  repeat' (first
    | with_reducible assumption
    | refine pair_wf (by with_reducible assumption) ?_
    | with_reducible apply eccUe_keeps
    | with_reducible apply shmDone_keeps
    | with_reducible apply writeWord_keeps
    | with_reducible apply poisonUse_keeps
    | with_reducible apply atomic_keeps
    | simp only [wf_upd]
    | with_reducible rfl
    | split
    | intro _ _ _
    | intro _ _
    | intro _
    | dsimp only [State.free, id])

theorem bankPort_keeps (bank port ce ue : Nat) (l : List ShmReq) : Keeps (bankPort bank port ce ue l) := by
  intro s h
  unfold bankPort
  try dsimp only [State.free, id]
  repeat' (first
    | with_reducible assumption
    | with_reducible apply count_keeps
    | with_reducible apply State.wr_keeps
    | with_reducible apply perform_keeps
    | with_reducible apply each_keeps
    | simp only [wf_upd]
    | with_reducible rfl
    | split
    | intro _ _ _
    | intro _ _
    | intro _
    | dsimp only [State.free, id])

theorem rejected_keeps (r : ShmReq) (s : State) (f : State → State) (e : rejected r s = some f) : Keeps f := by
  unfold rejected at e
  dsimp only at e
  split at e
  · cases e
    exact shmDone_keeps _ _ _ _
  · split at e
    · cases e
      exact shmDone_keeps _ _ _ _
    · split at e
      · cases e
      · split at e
        · cases e
          split
          · exact fun t h => by simpa only [wf_upd] using h
          · exact shmDone_keeps _ _ _ _
        · cases e
          exact fun _ h => h

theorem shmCycle_keeps (bank : Nat) (l : List ShmReq) (ce ue : Nat) : Keeps (shmCycle bank l ce ue) := by
  intro s h
  unfold shmCycle
  extract_lets x0 s1 l1 s2 live a b
  have h1 : s1.wf = true := by simpa only [s1, wf_upd] using h
  have h2 : s2.wf = true := by
    refine each_keeps _ _ (fun r t ht => ?_) s1 h1
    split
    · exact rejected_keeps _ _ _ (by assumption) t ht
    · exact ht
  clear_value s2
  repeat' (first
    | with_reducible assumption
    | with_reducible apply bankPort_keeps
    | with_reducible apply post_keeps
    | dsimp only
    | split)

theorem ceWriteback_keeps (bank ue : Nat) : Keeps (ceWriteback bank ue) := by
  intro s h
  unfold ceWriteback
  try dsimp only [State.free, id]
  repeat' (first
    | with_reducible assumption
    | with_reducible apply eccUe_keeps
    | with_reducible apply shmErr_keeps
    | with_reducible apply State.wr_keeps
    | with_reducible apply post_keeps
    | simp only [wf_upd]
    | with_reducible rfl
    | split
    | intro _ _ _
    | intro _ _
    | intro _
    | dsimp only [State.free, id])

theorem opAtom_keeps (w : Win) (add wide : Bool) : Keeps (opAtom w add wide) := by
  intro s h
  unfold opAtom
  try dsimp only [State.free, id]
  repeat' (first
    | with_reducible assumption
    | refine pair_wf (by with_reducible assumption) ?_
    | with_reducible apply refuse_keeps
    | with_reducible apply complete_keeps
    | with_reducible apply atomic_keeps
    | with_reducible apply completeOk_keeps
    | with_reducible apply State.wr64_keeps
    | with_reducible apply command_keeps
    | simp only [wf_upd]
    | with_reducible rfl
    | split
    | intro _ _ _
    | intro _ _
    | intro _
    | dsimp only [State.free, id])

theorem sweepGroup_keeps (g : Nat) : Keeps (sweepGroup g) := by
  intro s h
  unfold sweepGroup
  try dsimp only [State.free, id]
  repeat' (first
    | with_reducible assumption
    | with_reducible apply State.wr_keeps
    | with_reducible apply writeWord_keeps
    | with_reducible apply post_keeps
    | with_reducible apply each_keeps
    | simp only [wf_upd]
    | with_reducible rfl
    | split
    | intro _ _ _
    | intro _ _
    | intro _
    | dsimp only [State.free, id])

theorem walkPos_keeps (step : Nat) : Keeps (walkPos step) := by
  intro s h
  unfold walkPos
  try dsimp only [State.free, id]
  repeat' (first
    | with_reducible assumption
    | with_reducible apply State.wr_keeps
    | simp only [wf_upd]
    | with_reducible rfl
    | split
    | intro _ _ _
    | intro _ _
    | intro _
    | dsimp only [State.free, id])

theorem walkNext_keeps  : Keeps walkNext := by
  intro s h
  unfold walkNext
  try dsimp only [State.free, id]
  repeat' (first
    | with_reducible assumption
    | with_reducible apply walkPos_keeps
    | with_reducible apply State.wr_keeps
    | with_reducible apply onlyIf_keeps
    | simp only [wf_upd]
    | with_reducible rfl
    | split
    | intro _ _ _
    | intro _ _
    | intro _
    | dsimp only [State.free, id])

theorem walkStart_keeps  : Keeps walkStart := by
  intro s h
  unfold walkStart
  try dsimp only [State.free, id]
  repeat' (first
    | with_reducible assumption
    | with_reducible apply walkPos_keeps
    | simp only [wf_upd]
    | with_reducible rfl
    | split
    | intro _ _ _
    | intro _ _
    | intro _
    | dsimp only [State.free, id])

theorem walkDone_keeps (faulty : Bool) : Keeps (walkDone faulty) := by
  intro s h
  unfold walkDone
  try dsimp only [State.free, id]
  repeat' (first
    | with_reducible assumption
    | with_reducible apply walkNext_keeps
    | with_reducible apply post_keeps
    | with_reducible apply State.wr_keeps
    | with_reducible apply raise_keeps
    | simp only [wf_upd]
    | with_reducible rfl
    | split
    | intro _ _ _
    | intro _ _
    | intro _
    | dsimp only [State.free, id])

theorem walkStarved_keeps  : Keeps walkStarved := by
  intro s h
  unfold walkStarved
  try dsimp only [State.free, id]
  repeat' (first
    | with_reducible assumption
    | with_reducible apply post_keeps
    | simp only [wf_upd]
    | with_reducible rfl
    | split
    | intro _ _ _
    | intro _ _
    | intro _
    | dsimp only [State.free, id])

end Sys2Proof.Machine
end

