-- ==== Sys2Proof/Laws/KeepReferences.lean ====
section
/-! SUPPORT. What the operations of References keep: the canonical form of the memories and of the register file. -/

set_option Elab.async false

set_option linter.unusedSimpArgs false
set_option linter.unusedTactic false
set_option linter.unreachableTactic false

namespace Sys2Proof.Machine

theorem storeRefCfg_keeps (n v : Nat) : Keeps (storeRefCfg n v) := by
  intro s h
  unfold storeRefCfg
  try dsimp only [State.free, id]
  repeat' (first
    | with_reducible assumption
    | with_reducible apply State.wr_keeps
    | simp only [wf_upd]
    | with_reducible rfl
    | split
    | intro _ _ _
    | intro _ _
    | intro _
    | dsimp only [State.free, id])

theorem writeRefCfg_keeps (fn n v : Nat) : Keeps (writeRefCfg fn n v) := by
  intro s h
  unfold writeRefCfg
  try dsimp only [State.free, id]
  repeat' (first
    | with_reducible assumption
    | with_reducible apply postTo_keeps
    | with_reducible apply evalSels_keeps
    | with_reducible apply syncRefStatus_keeps
    | with_reducible apply updateQr_keeps
    | with_reducible apply slotEnable_keeps
    | with_reducible apply storeRefCfg_keeps
    | with_reducible apply writeAtDoor_keeps
    | simp only [wf_upd]
    | with_reducible rfl
    | split
    | intro _ _ _
    | intro _ _
    | intro _
    | dsimp only [State.free, id])

theorem writeStamp_keeps (n delta : Nat) (st : RefStamp) : Keeps (writeStamp n delta st) := by
  intro s h
  unfold writeStamp
  try dsimp only [State.free, id]
  repeat' (first
    | with_reducible assumption
    | with_reducible apply post_keeps
    | with_reducible apply State.shmWrite_keeps
    | with_reducible apply State.setSlot_keeps
    | with_reducible apply onlyIf_keeps
    | simp only [wf_upd]
    | with_reducible rfl
    | split
    | intro _ _ _
    | intro _ _
    | intro _
    | dsimp only [State.free, id])

theorem takeStamp_keeps (n x32 delta : Nat) (timeLabel : Option Rat) : Keeps (takeStamp n x32 delta timeLabel) := by
  intro s h
  unfold takeStamp
  try dsimp only [State.free, id]
  repeat' (first
    | with_reducible assumption
    | with_reducible apply writeStamp_keeps
    | with_reducible apply State.setSlot_keeps
    | with_reducible apply signalRegained_keeps
    | simp only [wf_upd]
    | with_reducible rfl
    | split
    | intro _ _ _
    | intro _ _
    | intro _
    | dsimp only [State.free, id])

theorem pulseLabel_keeps (n : Nat) : ∀ s : State, s.wf = true → (pulseLabel n s).2.wf = true := by
  intro s h
  unfold pulseLabel
  try dsimp only [State.free, id]
  repeat' (first
    | with_reducible assumption
    | with_reducible apply State.setSlot_keeps
    | with_reducible apply State.wr_keeps
    | simp only [wf_upd]
    | with_reducible rfl
    | split
    | intro _ _ _
    | intro _ _
    | intro _
    | dsimp only [State.free, id])

theorem syncCap_keeps (n : Nat) : Keeps (syncCap n) := by
  intro s h
  unfold syncCap
  try dsimp only [State.free, id]
  repeat' (first
    | with_reducible assumption
    | with_reducible apply State.wr_keeps
    | simp only [wf_upd]
    | with_reducible rfl
    | split
    | intro _ _ _
    | intro _ _
    | intro _
    | dsimp only [State.free, id])

theorem stampMissing_keeps (n : Nat) : Keeps (stampMissing n) := by
  intro s h
  unfold stampMissing
  try dsimp only [State.free, id]
  repeat' (first
    | with_reducible assumption
    | with_reducible apply State.setSlot_keeps
    | with_reducible apply signalLost_keeps
    | simp only [wf_upd]
    | with_reducible rfl
    | split
    | intro _ _ _
    | intro _ _
    | intro _
    | dsimp only [State.free, id])

theorem refEdgeStamp_keeps (n x32 delta : Nat) (label : Option Nat) : Keeps (refEdgeStamp n x32 delta label) := by
  intro s h
  unfold refEdgeStamp
  try dsimp only [State.free, id]
  repeat' (first
    | with_reducible assumption
    | refine pair_wf (by with_reducible assumption) ?_
    | with_reducible apply stampMissing_keeps
    | with_reducible apply syncCap_keeps
    | with_reducible apply takeStamp_keeps
    | with_reducible apply pulseLabel_keeps
    | simp only [wf_upd]
    | with_reducible rfl
    | split
    | intro _ _ _
    | intro _ _
    | intro _
    | dsimp only [State.free, id])

theorem writeMonitors_keeps (n : Nat) (e : MonEval) : Keeps (writeMonitors n e) := by
  intro s h
  unfold writeMonitors
  try dsimp only [State.free, id]
  repeat' (first
    | with_reducible assumption
    | with_reducible apply State.wr_keeps
    | simp only [wf_upd]
    | with_reducible rfl
    | split
    | intro _ _ _
    | intro _ _
    | intro _
    | dsimp only [State.free, id])

theorem rangeEval_keeps (n : Nat) (p : Option (RefStamp × RefStamp)) : Keeps (rangeEval n p) := by
  intro s h
  unfold rangeEval
  try dsimp only [State.free, id]
  repeat' (first
    | with_reducible assumption
    | with_reducible apply State.wr_keeps
    | simp only [wf_upd]
    | with_reducible rfl
    | split
    | intro _ _ _
    | intro _ _
    | intro _
    | dsimp only [State.free, id])

theorem monTransition_keeps (n : Nat) (e : MonEval) : Keeps (monTransition n e) := by
  intro s h
  unfold monTransition
  try dsimp only [State.free, id]
  repeat' (first
    | with_reducible assumption
    | with_reducible apply setSlotState_keeps
    | with_reducible apply syncSlotBound_keeps
    | with_reducible apply State.setSlot_keeps
    | simp only [wf_upd]
    | with_reducible rfl
    | split
    | intro _ _ _
    | intro _ _
    | intro _
    | dsimp only [State.free, id])

theorem widen_keeps (n : Nat) (e : MonEval) : Keeps (widen n e) := by
  intro s h
  unfold widen
  try dsimp only [State.free, id]
  repeat' (first
    | with_reducible assumption
    | with_reducible apply syncSlotBound_keeps
    | with_reducible apply State.setSlot_keeps
    | simp only [wf_upd]
    | with_reducible rfl
    | split
    | intro _ _ _
    | intro _ _
    | intro _
    | dsimp only [State.free, id])

theorem monSlot_keeps (ev : Nat → MonEval) (pairs : Nat → Option (RefStamp × RefStamp)) (n : Nat) : Keeps (monSlot ev pairs n) := by
  intro s h
  unfold monSlot
  try dsimp only [State.free, id]
  repeat' (first
    | with_reducible assumption
    | with_reducible apply State.setSlot_keeps
    | with_reducible apply rangeEval_keeps
    | with_reducible apply writeMonitors_keeps
    | with_reducible apply State.wr_keeps
    | with_reducible apply widen_keeps
    | with_reducible apply monTransition_keeps
    | with_reducible apply onlyIf_keeps
    | simp only [wf_upd]
    | with_reducible rfl
    | split
    | intro _ _ _
    | intro _ _
    | intro _
    | dsimp only [State.free, id])

theorem nextSecond_keeps (n : Nat) : Keeps (nextSecond n) := by
  intro s h
  unfold nextSecond
  try dsimp only [State.free, id]
  repeat' (first
    | with_reducible assumption
    | with_reducible apply State.setSlot_keeps
    | with_reducible apply State.wr_keeps
    | simp only [wf_upd]
    | with_reducible rfl
    | split
    | intro _ _ _
    | intro _ _
    | intro _
    | dsimp only [State.free, id])

theorem monitorTick_keeps (tick : Nat) : Keeps (monitorTick tick) := by
  intro s h
  unfold monitorTick
  try dsimp only [State.free, id]
  repeat' (first
    | with_reducible assumption
    | with_reducible apply monSlot_keeps
    | with_reducible apply evalSels_keeps
    | with_reducible apply syncRefStatus_keeps
    | with_reducible apply nextSecond_keeps
    | with_reducible apply each_keeps
    | simp only [wf_upd]
    | with_reducible rfl
    | split
    | intro _ _ _
    | intro _ _
    | intro _
    | dsimp only [State.free, id])

theorem holdoffExpiry_keeps (i : Nat) : Keeps (holdoffExpiry i) := by
  intro s h
  unfold holdoffExpiry
  try dsimp only [State.free, id]
  repeat' (first
    | with_reducible assumption
    | with_reducible apply evalSel_keeps
    | with_reducible apply State.setSel_keeps
    | simp only [wf_upd]
    | with_reducible rfl
    | split
    | intro _ _ _
    | intro _ _
    | intro _
    | dsimp only [State.free, id])

theorem esmcPdu_keeps (lanes : List Nat) (pdu : Octets) : Keeps (esmcPdu lanes pdu) := by
  intro s h
  unfold esmcPdu
  try dsimp only [State.free, id]
  repeat' (first
    | with_reducible assumption
    | with_reducible apply State.setSlot_keeps
    | with_reducible apply State.wr_keeps
    | with_reducible apply updateQr_keeps
    | with_reducible apply post_keeps
    | with_reducible apply each_keeps
    | with_reducible apply onlyIf_keeps
    | simp only [wf_upd]
    | with_reducible rfl
    | split
    | intro _ _ _
    | intro _ _
    | intro _
    | dsimp only [State.free, id])

theorem esmcTimeout_keeps (n : Nat) : Keeps (esmcTimeout n) := by
  intro s h
  unfold esmcTimeout
  try dsimp only [State.free, id]
  repeat' (first
    | with_reducible assumption
    | with_reducible apply updateQr_keeps
    | with_reducible apply State.setSlot_keeps
    | simp only [wf_upd]
    | with_reducible rfl
    | split
    | intro _ _ _
    | intro _ _
    | intro _
    | dsimp only [State.free, id])

theorem todinFrame_keeps (i : Nat) (f : Octets) (whole : Bool) : Keeps (todinFrame i f whole) := by
  intro s h
  unfold todinFrame
  try dsimp only [State.free, id]
  repeat' (first
    | with_reducible assumption
    | with_reducible apply State.setSlot_keeps
    | with_reducible apply State.wr_keeps
    | with_reducible apply post_keeps
    | with_reducible apply each_keeps
    | simp only [wf_upd]
    | with_reducible rfl
    | split
    | intro _ _ _
    | intro _ _
    | intro _
    | dsimp only [State.free, id])

end Sys2Proof.Machine
end

