-- ==== Sys2Proof/Laws/KeepSveCore.lean ====
section
/-! SUPPORT. What the operations of SveCore keep: the canonical form of the memories and of the register file. -/

set_option Elab.async false

set_option linter.unusedSimpArgs false
set_option linter.unusedTactic false
set_option linter.unreachableTactic false

namespace Sys2Proof.Machine

theorem State.setCls_keeps (n : Nat) (e : ClsEntry) : Keeps (State.setCls n e) := by
  intro s h
  unfold State.setCls
  try dsimp only [State.free, id]
  repeat' (first
    | with_reducible assumption
    | simp only [wf_upd]
    | with_reducible rfl
    | split
    | intro _ _ _
    | intro _ _
    | intro _
    | dsimp only [State.free, id])

theorem credit_keeps (x : EntrySnap) : Keeps (credit x) := by
  intro s h
  unfold credit
  try dsimp only [State.free, id]
  repeat' (first
    | with_reducible assumption
    | with_reducible apply State.setCls_keeps
    | simp only [wf_upd]
    | with_reducible rfl
    | split
    | intro _ _ _
    | intro _ _
    | intro _
    | dsimp only [State.free, id])

theorem State.setTen_keeps (t : Nat) (x : SveTen) : Keeps (State.setTen t x) := by
  intro s h
  unfold State.setTen
  try dsimp only [State.free, id]
  repeat' (first
    | with_reducible assumption
    | simp only [wf_upd]
    | with_reducible rfl
    | split
    | intro _ _ _
    | intro _ _
    | intro _
    | dsimp only [State.free, id])

theorem ctxWrite_keeps (n : Nat) (o : Octets) : Keeps (ctxWrite n o) := by
  intro s h
  unfold ctxWrite
  try dsimp only [State.free, id]
  repeat' (first
    | with_reducible assumption
    | with_reducible apply State.shmWrite_keeps
    | simp only [wf_upd]
    | with_reducible rfl
    | split
    | intro _ _ _
    | intro _ _
    | intro _
    | dsimp only [State.free, id])

theorem syncCtxUsed_keeps  : Keeps syncCtxUsed := by
  intro s h
  unfold syncCtxUsed
  try dsimp only [State.free, id]
  repeat' (first
    | with_reducible assumption
    | with_reducible apply State.wr_keeps
    | simp only [wf_upd]
    | with_reducible rfl
    | split
    | intro _ _ _
    | intro _ _
    | intro _
    | dsimp only [State.free, id])

theorem dirInsert_keeps (n : Nat) : Keeps (dirInsert n) := by
  intro s h
  unfold dirInsert
  try dsimp only [State.free, id]
  repeat' (first
    | with_reducible assumption
    | with_reducible apply syncCtxUsed_keeps
    | simp only [wf_upd]
    | with_reducible rfl
    | split
    | intro _ _ _
    | intro _ _
    | intro _
    | dsimp only [State.free, id])

theorem dirRemove_keeps (n : Nat) : Keeps (dirRemove n) := by
  intro s h
  unfold dirRemove
  try dsimp only [State.free, id]
  repeat' (first
    | with_reducible assumption
    | with_reducible apply syncCtxUsed_keeps
    | simp only [wf_upd]
    | with_reducible rfl
    | split
    | intro _ _ _
    | intro _ _
    | intro _
    | dsimp only [State.free, id])

theorem moveLoad_keeps (pipe tenant add sub addSec subSec : Nat) : Keeps (moveLoad pipe tenant add sub addSec subSec) := by
  intro s h
  unfold moveLoad
  try dsimp only [State.free, id]
  repeat' (first
    | with_reducible assumption
    | with_reducible apply State.wr_keeps
    | with_reducible apply State.setTen_keeps
    | simp only [wf_upd]
    | with_reducible rfl
    | split
    | intro _ _ _
    | intro _ _
    | intro _
    | dsimp only [State.free, id])

theorem wheelBit_keeps (on : Bool) (log : Int) (g ctx : Nat) : Keeps (wheelBit on log g ctx) := by
  intro s h
  unfold wheelBit
  try dsimp only [State.free, id]
  repeat' (first
    | with_reducible assumption
    | with_reducible apply State.shmWrite_keeps
    | simp only [wf_upd]
    | with_reducible rfl
    | split
    | intro _ _ _
    | intro _ _
    | intro _
    | dsimp only [State.free, id])

theorem endGrant_keeps (ctx tenant g : Nat) (o : Octets) : ∀ s : State, s.wf = true → (endGrant ctx tenant g o s).2.wf = true := by
  intro s h
  unfold endGrant
  try dsimp only [State.free, id]
  repeat' (first
    | with_reducible assumption
    | with_reducible apply moveLoad_keeps
    | with_reducible apply wheelBit_keeps
    | with_reducible apply revoke_keeps
    | simp only [wf_upd]
    | with_reducible rfl
    | split
    | intro _ _ _
    | intro _ _
    | intro _
    | dsimp only [State.free, id])

theorem endGrants_keeps (ctx tenant : Nat) (gs : List Nat) (o : Octets) : ∀ s : State, s.wf = true → (endGrants ctx tenant gs o s).2.wf = true :=
  fun s h => foldlPair_keeps _ _ (fun _ _ hr => endGrant_keeps _ _ _ _ _ hr) (o, s) h

theorem freeContext_keeps (ctx : Nat) : Keeps (freeContext ctx) := by
  intro s h
  unfold freeContext
  try dsimp only [State.free, id]
  repeat' (first
    | with_reducible assumption
    | with_reducible apply ctxWrite_keeps
    | with_reducible apply dirRemove_keeps
    | simp only [wf_upd]
    | with_reducible rfl
    | split
    | intro _ _ _
    | intro _ _
    | intro _
    | dsimp only [State.free, id])

theorem withTlv_keeps (o : Octets) (type clock f p : Nat) (m : Octets) : ∀ s : State, s.wf = true → (withTlv o type clock f p m s).2.wf = true := by
  intro s h
  unfold withTlv
  try dsimp only [State.free, id]
  repeat' (first
    | with_reducible assumption
    | with_reducible apply post_keeps
    | with_reducible apply onlyIf_keeps
    | simp only [wf_upd]
    | with_reducible rfl
    | split
    | intro _ _ _
    | intro _ _
    | intro _
    | dsimp only [State.free, id])

theorem ctxPort_keeps (d : Octets) : ∀ s : State, s.wf = true → (ctxPort d s).2.wf = true := by
  intro s h
  unfold ctxPort
  try dsimp only [State.free, id]
  repeat' (first
    | with_reducible assumption
    | refine pair_wf (by with_reducible assumption) ?_
    | with_reducible apply State.free_keeps
    | simp only [wf_upd]
    | with_reducible rfl
    | split
    | intro _ _ _
    | intro _ _
    | intro _
    | dsimp only [State.free, id])

theorem sveSend_keeps (tenant port c : Nat) (f : TxFrame) : ∀ s : State, s.wf = true → (sveSend tenant port c f s).2.wf = true := by
  intro s h
  unfold sveSend
  try dsimp only [State.free, id]
  repeat' (first
    | with_reducible assumption
    | refine pair_wf (by with_reducible assumption) ?_
    | with_reducible apply enqueue_keeps
    | simp only [wf_upd]
    | with_reducible rfl
    | split
    | intro _ _ _
    | intro _ _
    | intro _
    | dsimp only [State.free, id])

theorem pushGranted_keeps (p : Nat) (m : SveMsg) : Keeps (pushGranted p m) := by
  intro s h
  unfold pushGranted
  try dsimp only [State.free, id]
  repeat' (first
    | with_reducible assumption
    | with_reducible apply syncPipe_keeps
    | simp only [wf_upd]
    | with_reducible rfl
    | split
    | intro _ _ _
    | intro _ _
    | intro _
    | dsimp only [State.free, id])

theorem pushMetered_keeps (p : Nat) (m : SveMsg) : Keeps (pushMetered p m) := by
  intro s h
  unfold pushMetered
  try dsimp only [State.free, id]
  repeat' (first
    | with_reducible assumption
    | with_reducible apply syncPipe_keeps
    | simp only [wf_upd]
    | with_reducible rfl
    | split
    | intro _ _ _
    | intro _ _
    | intro _
    | dsimp only [State.free, id])

theorem popMsg_keeps (p : Nat) (granted : Bool) : Keeps (popMsg p granted) := by
  intro s h
  unfold popMsg
  try dsimp only [State.free, id]
  repeat' (first
    | with_reducible assumption
    | with_reducible apply syncPipe_keeps
    | simp only [wf_upd]
    | with_reducible rfl
    | split
    | intro _ _ _
    | intro _ _
    | intro _
    | dsimp only [State.free, id])

theorem served_keeps (granted : Bool) (tenant : Nat) : Keeps (served granted tenant) := by
  intro s h
  unfold served
  try dsimp only [State.free, id]
  repeat' (first
    | with_reducible assumption
    | with_reducible apply count_keeps
    | simp only [wf_upd]
    | with_reducible rfl
    | split
    | intro _ _ _
    | intro _ _
    | intro _
    | dsimp only [State.free, id])

end Sys2Proof.Machine
end

