-- ==== Sys2Proof/Laws/KeepIngress.lean ====
section
/-! SUPPORT. What the operations of Ingress keep: the canonical form of the memories and of the register file. -/

set_option Elab.async false

set_option linter.unusedSimpArgs false
set_option linter.unusedTactic false
set_option linter.unreachableTactic false

namespace Sys2Proof.Machine

theorem hostDeliver_keeps (n q errs x32 : Nat) (time : Int) (f : Octets) : ∀ s : State, s.wf = true → (hostDeliver n q errs x32 time f s).2.wf = true := by
  intro s h
  unfold hostDeliver
  try dsimp only [State.free, id]
  repeat' (first
    | with_reducible assumption
    | with_reducible apply tsrWrite_keeps
    | with_reducible apply count_keeps
    | simp only [wf_upd]
    | with_reducible rfl
    | split
    | intro _ _ _
    | intro _ _
    | intro _
    | dsimp only [State.free, id])

theorem toHost_keeps (r : RxCtx) (q errs : Nat) (drop : State → State) (tenant : Option Nat) (hdrop : Keeps drop) : Keeps (toHost r q errs drop tenant) := by
  intro s h
  unfold toHost
  try dsimp only [State.free, id]
  repeat' (first
    | with_reducible assumption
    | refine pair_wf (by with_reducible assumption) ?_
    | with_reducible apply hostDeliver_keeps
    | with_reducible apply count_keeps
    | apply hdrop
    | simp only [wf_upd]
    | with_reducible rfl
    | split
    | intro _ _ _
    | intro _ _
    | intro _
    | dsimp only [State.free, id])

theorem clsDrop_keeps (tenant : Nat) : Keeps (clsDrop tenant) := by
  intro s h
  unfold clsDrop
  try dsimp only [State.free, id]
  repeat' (first
    | with_reducible assumption
    | with_reducible apply count_keeps
    | simp only [wf_upd]
    | with_reducible rfl
    | split
    | intro _ _ _
    | intro _ _
    | intro _
    | dsimp only [State.free, id])

theorem redFrame_keeps (tenant : Nat) : Keeps (redFrame tenant) := by
  intro s h
  unfold redFrame
  try dsimp only [State.free, id]
  repeat' (first
    | with_reducible assumption
    | with_reducible apply count_keeps
    | with_reducible apply State.setTen_keeps
    | simp only [wf_upd]
    | with_reducible rfl
    | split
    | intro _ _ _
    | intro _ _
    | intro _
    | dsimp only [State.free, id])

theorem fifoDrop_keeps (full : Bool) (p tenant : Nat) : Keeps (fifoDrop full p tenant) := by
  intro s h
  unfold fifoDrop
  try dsimp only [State.free, id]
  repeat' (first
    | with_reducible assumption
    | with_reducible apply State.setTen_keeps
    | with_reducible apply post_keeps
    | with_reducible apply count_keeps
    | simp only [wf_upd]
    | with_reducible rfl
    | split
    | intro _ _ _
    | intro _ _
    | intro _
    | dsimp only [State.free, id])

theorem offerMetered_keeps (p colour : Nat) (kod : Bool) (m : SveMsg) : Keeps (offerMetered p colour kod m) := by
  intro s h
  unfold offerMetered
  try dsimp only [State.free, id]
  repeat' (first
    | with_reducible assumption
    | with_reducible apply credit_keeps
    | with_reducible apply fifoDrop_keeps
    | with_reducible apply pushMetered_keeps
    | simp only [wf_upd]
    | with_reducible rfl
    | split
    | intro _ _ _
    | intro _ _
    | intro _
    | dsimp only [State.free, id])

theorem rxDelayReq_keeps (r : RxCtx) (x : EntrySnap) (colour : Nat) : Keeps (rxDelayReq r x colour) := by
  intro s h
  unfold rxDelayReq
  try dsimp only [State.free, id]
  repeat' (first
    | with_reducible assumption
    | with_reducible apply pushGranted_keeps
    | with_reducible apply offerMetered_keeps
    | simp only [wf_upd]
    | with_reducible rfl
    | split
    | intro _ _ _
    | intro _ _
    | intro _
    | dsimp only [State.free, id])

theorem rxSignaling_keeps (r : RxCtx) (x : EntrySnap) : Keeps (rxSignaling r x) := by
  intro s h
  unfold rxSignaling
  try dsimp only [State.free, id]
  repeat' (first
    | with_reducible assumption
    | with_reducible apply credit_keeps
    | with_reducible apply post_keeps
    | with_reducible apply State.wr_keeps
    | simp only [wf_upd]
    | with_reducible rfl
    | split
    | intro _ _ _
    | intro _ _
    | intro _
    | dsimp only [State.free, id])

theorem act_keeps (r : RxCtx) (x : EntrySnap) (colour : Nat) : Keeps (act r x colour) := by
  intro s h
  unfold act
  try dsimp only [State.free, id]
  repeat' (first
    | with_reducible assumption
    | with_reducible apply credit_keeps
    | with_reducible apply clsDrop_keeps
    | with_reducible apply redFrame_keeps
    | with_reducible apply rxDelayReq_keeps
    | with_reducible apply offerMetered_keeps
    | with_reducible apply count_keeps
    | with_reducible apply toHost_keeps
    | simp only [wf_upd]
    | with_reducible rfl
    | split
    | intro _ _ _
    | intro _ _
    | intro _
    | dsimp only [State.free, id])

theorem classifyFrame_keeps (r : RxCtx) : Keeps (classifyFrame r) := by
  intro s h
  unfold classifyFrame
  try dsimp only [State.free, id]
  repeat' (first
    | with_reducible assumption
    | refine pair_wf (by with_reducible assumption) ?_
    | with_reducible apply rxSignaling_keeps
    | with_reducible apply polMeter_keeps
    | with_reducible apply act_keeps
    | with_reducible apply toHost_keeps
    | simp only [wf_upd]
    | with_reducible rfl
    | split
    | intro _ _ _
    | intro _ _
    | intro _
    | dsimp only [State.free, id])

theorem countFlags_keeps (n flags : Nat) : Keeps (countFlags n flags) := by
  intro s h
  unfold countFlags
  exact foldl_keeps _ _ (fun _ t ht => onlyIf_keeps _ _ (count_keeps _ _ _) t ht) s h

theorem rxErrored_keeps (r : RxCtx) (flags : Nat) : Keeps (rxErrored r flags) := by
  intro s h
  unfold rxErrored
  try dsimp only [State.free, id]
  repeat' (first
    | with_reducible assumption
    | with_reducible apply State.wr_keeps
    | with_reducible apply countFlags_keeps
    | with_reducible apply count_keeps
    | with_reducible apply onlyIf_keeps
    | with_reducible apply toHost_keeps
    | simp only [wf_upd]
    | with_reducible rfl
    | split
    | intro _ _ _
    | intro _ _
    | intro _
    | dsimp only [State.free, id])

theorem frameRx_keeps (n x32 b : Nat) (o : Octets) (code fec cut : Bool) : Keeps (frameRx n x32 b o code fec cut) := by
  intro s h
  unfold frameRx
  try dsimp only [State.free, id]
  repeat' (first
    | with_reducible assumption
    | with_reducible apply count_keeps
    | with_reducible apply State.wr_keeps
    | with_reducible apply rxErrored_keeps
    | with_reducible apply esmcPdu_keeps
    | with_reducible apply classifyFrame_keeps
    | with_reducible apply onlyIf_keeps
    | simp only [wf_upd]
    | with_reducible rfl
    | split
    | intro _ _ _
    | intro _ _
    | intro _
    | dsimp only [State.free, id])

end Sys2Proof.Machine
end

