-- ==== Sys2Proof/Laws/KeepServing.lean ====
section
/-! SUPPORT. What the operations of Serving keep: the canonical form of the memories and of the register file. -/

set_option Elab.async false

set_option linter.unusedSimpArgs false
set_option linter.unusedTactic false
set_option linter.unreachableTactic false

namespace Sys2Proof.Machine

theorem authSeal_keeps (o m : Octets) (tenant : Nat) (oneStep : Bool) : ∀ s : State, s.wf = true → (authSeal o m tenant oneStep s).2.wf = true := by
  intro s h
  unfold authSeal
  try dsimp only [State.free, id]
  repeat' (first
    | with_reducible assumption
    | refine pair_wf (by with_reducible assumption) ?_
    | with_reducible apply count_keeps
    | with_reducible apply takeSeq_keeps
    | with_reducible apply ghOps_keeps
    | simp only [wf_upd]
    | with_reducible rfl
    | split
    | intro _ _ _
    | intro _ _
    | intro _
    | dsimp only [State.free, id])

theorem emitPtp_keeps (n c tenant clock : Nat) (o : Octets) (r : Route) (m : Octets) (ops : List (Nat × Nat)) (ref : Option MsgRef) : ∀ s : State, s.wf = true → (emitPtp n c tenant clock o r m ops ref s).2.wf = true := by
  intro s h
  unfold emitPtp
  try dsimp only [State.free, id]
  repeat' (first
    | with_reducible assumption
    | refine pair_wf (by with_reducible assumption) ?_
    | with_reducible apply authSeal_keeps
    | with_reducible apply sveSend_keeps
    | with_reducible apply act_keeps
    | simp only [wf_upd]
    | with_reducible rfl
    | split
    | intro _ _ _
    | intro _ _
    | intro _
    | dsimp only [State.free, id])

theorem ctxFor_keeps (ctx m tenant : Nat) : ∀ s : State, s.wf = true → (ctxFor ctx m tenant s).2.wf = true := by
  intro s h
  unfold ctxFor
  try dsimp only [State.free, id]
  repeat' (first
    | with_reducible assumption
    | with_reducible apply poisonUse_keeps
    | with_reducible apply count_keeps
    | with_reducible apply post_keeps
    | simp only [wf_upd]
    | with_reducible rfl
    | split
    | intro _ _ _
    | intro _ _
    | intro _
    | dsimp only [State.free, id])

theorem verifyFor_keeps (m : Octets) (body tenant : Nat) (ctxSa : Option Nat) (must : Bool) : ∀ s : State, s.wf = true → (verifyFor m body tenant ctxSa must s).2.wf = true := by
  intro s h
  unfold verifyFor
  try dsimp only [State.free, id]
  repeat' (first
    | with_reducible assumption
    | with_reducible apply ghOps_keeps
    | with_reducible apply authFail_keeps
    | with_reducible apply count_keeps
    | simp only [wf_upd]
    | with_reducible rfl
    | split
    | intro _ _ _
    | intro _ _
    | intro _
    | dsimp only [State.free, id])

theorem delayResp_keeps (m : SveMsg) (ctx : Nat) (granted : Bool) (o : Octets) : Keeps (delayResp m ctx granted o) := by
  intro s h
  unfold delayResp
  try dsimp only [State.free, id]
  repeat' (first
    | with_reducible assumption
    | refine pair_wf (by with_reducible assumption) ?_
    | with_reducible apply withTlv_keeps
    | with_reducible apply emitPtp_keeps
    | with_reducible apply served_keeps
    | with_reducible apply ctxWrite_keeps
    | simp only [wf_upd]
    | with_reducible rfl
    | split
    | intro _ _ _
    | intro _ _
    | intro _
    | dsimp only [State.free, id])

theorem serveDelayReq_keeps (p : Nat) (m : SveMsg) (granted : Bool) : Keeps (serveDelayReq p m granted) := by
  intro s h
  unfold serveDelayReq
  try dsimp only [State.free, id]
  repeat' (first
    | with_reducible assumption
    | refine pair_wf (by with_reducible assumption) ?_
    | with_reducible apply count_keeps
    | with_reducible apply ctxFor_keeps
    | with_reducible apply authFail_keeps
    | with_reducible apply verifyFor_keeps
    | with_reducible apply delayResp_keeps
    | simp only [wf_upd]
    | with_reducible rfl
    | split
    | intro _ _ _
    | intro _ _
    | intro _
    | dsimp only [State.free, id])

theorem pipeStep_keeps (p : Nat) (k : SveKind) (body : SveMsg → Bool → State → State) (hbody : ∀ a0 a1, Keeps (body a0 a1)) : Keeps (pipeStep p k body) := by
  intro s h
  unfold pipeStep
  try dsimp only [State.free, id]
  repeat' (first
    | with_reducible assumption
    | with_reducible apply popMsg_keeps
    | with_reducible apply credit_keeps
    | apply hbody
    | simp only [wf_upd]
    | with_reducible rfl
    | split
    | intro _ _ _
    | intro _ _
    | intro _
    | dsimp only [State.free, id])

theorem buildCadence_keeps (g ctx : Nat) (o : Octets) : Keeps (buildCadence g ctx o) := by
  intro s h
  unfold buildCadence
  try dsimp only [State.free, id]
  repeat' (first
    | with_reducible assumption
    | refine pair_wf (by with_reducible assumption) ?_
    | with_reducible apply ctxPort_keeps
    | with_reducible apply withTlv_keeps
    | with_reducible apply emitPtp_keeps
    | with_reducible apply served_keeps
    | with_reducible apply ctxWrite_keeps
    | simp only [wf_upd]
    | with_reducible rfl
    | split
    | intro _ _ _
    | intro _ _
    | intro _
    | dsimp only [State.free, id])

theorem dueBit_keeps (log : Int) (g ctx : Nat) : Keeps (dueBit log g ctx) := by
  intro s h
  unfold dueBit
  try dsimp only [State.free, id]
  repeat' (first
    | with_reducible assumption
    | refine pair_wf (by with_reducible assumption) ?_
    | with_reducible apply ctxFor_keeps
    | with_reducible apply wheelBit_keeps
    | with_reducible apply buildCadence_keeps
    | simp only [wf_upd]
    | with_reducible rfl
    | split
    | intro _ _ _
    | intro _ _
    | intro _
    | dsimp only [State.free, id])

theorem cadenceDue_keeps (l word : Nat) : Keeps (cadenceDue l word) := by
  intro s h
  unfold cadenceDue
  try dsimp only [State.free, id]
  repeat' (first
    | with_reducible assumption
    | with_reducible apply poisonUse_keeps
    | with_reducible apply dueBit_keeps
    | with_reducible apply each_keeps
    | with_reducible apply onlyIf_keeps
    | simp only [wf_upd]
    | with_reducible rfl
    | split
    | intro _ _ _
    | intro _ _
    | intro _
    | dsimp only [State.free, id])

theorem serveFollowUp_keeps (p : Nat) (m : SveMsg) : Keeps (serveFollowUp p m) := by
  intro s h
  unfold serveFollowUp
  try dsimp only [State.free, id]
  repeat' (first
    | with_reducible assumption
    | refine pair_wf (by with_reducible assumption) ?_
    | with_reducible apply ctxFor_keeps
    | with_reducible apply withTlv_keeps
    | with_reducible apply emitPtp_keeps
    | with_reducible apply served_keeps
    | with_reducible apply ctxWrite_keeps
    | simp only [wf_upd]
    | with_reducible rfl
    | split
    | intro _ _ _
    | intro _ _
    | intro _
    | dsimp only [State.free, id])

theorem newContext_keeps (q : SigReq) : ∀ s : State, s.wf = true → (newContext q s).2.wf = true := by
  intro s h
  unfold newContext
  try dsimp only [State.free, id]
  repeat' (first
    | with_reducible assumption
    | refine pair_wf (by with_reducible assumption) ?_
    | with_reducible apply State.free_keeps
    | simp only [wf_upd]
    | with_reducible rfl
    | split
    | intro _ _ _
    | intro _ _
    | intro _
    | dsimp only [State.free, id])

theorem putGrant_keeps (ctx tenant g expiry : Nat) (log : Int) (two : Bool) (o : Octets) : ∀ s : State, s.wf = true → (putGrant ctx tenant g expiry log two o s).2.wf = true := by
  intro s h
  unfold putGrant
  try dsimp only [State.free, id]
  repeat' (first
    | with_reducible assumption
    | with_reducible apply setFlag_keeps
    | with_reducible apply wheelBit_keeps
    | with_reducible apply moveLoad_keeps
    | with_reducible apply onlyIf_keeps
    | simp only [wf_upd]
    | with_reducible rfl
    | split
    | intro _ _ _
    | intro _ _
    | intro _
    | dsimp only [State.free, id])

theorem requestGrant_keeps (q : SigReq) (type : Nat) (log : Int) (dur : Nat) : ∀ s : State, s.wf = true → (requestGrant q type log dur s).2.2.wf = true := by
  intro s h
  unfold requestGrant
  try dsimp only [State.free, id]
  repeat' (first
    | with_reducible assumption
    | refine pair_wf (by with_reducible assumption) ?_
    | with_reducible apply newContext_keeps
    | with_reducible apply putGrant_keeps
    | with_reducible apply ctxWrite_keeps
    | with_reducible apply dirInsert_keeps
    | simp only [wf_upd]
    | with_reducible rfl
    | split
    | intro _ _ _
    | intro _ _
    | intro _
    | dsimp only [State.free, id])

theorem answerTlvs_keeps (n : Nat) : ∀ off q s, s.wf = true → (answerTlvs n off q s).2.2.wf = true := by
  induction n with
  | zero => exact fun _ _ s h => h
  | succ n ih =>
    intro off q s h
    unfold answerTlvs
    split
    · exact h
    · extract_lets ty len type next log dur r tenant dmax t0 x0 s1 a s2 b
      split
      · have h1 : s1.wf = true := by
          have hr : r.2.2.wf = true := requestGrant_keeps _ _ _ _ s h
          show (if r.1 = true then r.2.2 else t0.setTen tenant { x0 with refused := (x0.refused + 1) % 2 ^ 32 } : State).wf = true
          split
          · exact hr
          · exact State.setTen_keeps _ _ _ (post_keeps _ _ _ hr)
        exact ih next { q with ctx := r.2.1 } s1 h1
      · split
        · have h2 : s2.wf = true := by
            show (match q.ctx, grantOfType type with
              | some c, some g =>
                let e := endGrant c (entTenant q.m.snap.data) g (ctxRead s c) s
                ctxWrite c e.1 e.2
              | _, _ => s : State).wf = true
            split
            · exact ctxWrite_keeps _ _ _ (endGrant_keeps _ _ _ _ s h)
            · exact h
          exact ih next q s2 h2
        · exact ih next q s h

theorem signalingRequest_keeps : Keeps signalingRequest := by
  intro s h
  unfold signalingRequest
  split
  · exact h
  · split
    · exact h
    · rename_i m rest _ _
      extract_lets x0 s1 d tenant p msg key ctx v dirBad t
      have h1 : s1.wf = true := wf_of_eq h rfl rfl rfl rfl rfl
      have hv : v.2.wf = true := verifyFor_keeps _ _ _ _ _ s1 h1
      have ht : t.wf = true := by
        dsimp only [t]
        with_reducible apply onlyIf_keeps
        · intro t ht
          with_reducible apply post_keeps
          with_reducible apply State.wr_keeps
          exact ht
        · exact hv
      clear_value t v s1
      split
      · exact credit_keeps _ _ (poisonUse_keeps _ _ s1 h1)
      · split
        · exact credit_keeps _ _ hv
        · extract_lets a u o out
          have hu : u.wf = true := credit_keeps _ _ (answerTlvs_keeps _ _ _ t ht)
          clear_value u
          split
          · exact hu
          · exact emitPtp_keeps _ _ _ _ _ _ _ _ _ u hu

theorem sendCancel_keeps (o : Octets) (gs : List Nat) : Keeps (sendCancel o gs) := by
  intro s h
  unfold sendCancel
  try dsimp only [State.free, id]
  repeat' (first
    | with_reducible assumption
    | refine pair_wf (by with_reducible assumption) ?_
    | with_reducible apply ctxPort_keeps
    | with_reducible apply State.free_keeps
    | with_reducible apply emitPtp_keeps
    | simp only [wf_upd]
    | with_reducible rfl
    | split
    | intro _ _ _
    | intro _ _
    | intro _
    | dsimp only [State.free, id])

theorem sweepContext_keeps (ctx : Nat) : Keeps (sweepContext ctx) := by
  intro s h
  unfold sweepContext
  try dsimp only [State.free, id]
  repeat' (first
    | with_reducible assumption
    | refine pair_wf (by with_reducible assumption) ?_
    | with_reducible apply poisonUse_keeps
    | with_reducible apply endGrants_keeps
    | with_reducible apply freeContext_keeps
    | with_reducible apply ctxWrite_keeps
    | simp only [wf_upd]
    | with_reducible rfl
    | split
    | intro _ _ _
    | intro _ _
    | intro _
    | dsimp only [State.free, id])

theorem grantSweep_keeps  : Keeps grantSweep := by
  intro s h
  unfold grantSweep
  try dsimp only [State.free, id]
  repeat' (first
    | with_reducible assumption
    | with_reducible apply sweepContext_keeps
    | with_reducible apply each_keeps
    | simp only [wf_upd]
    | with_reducible rfl
    | split
    | intro _ _ _
    | intro _ _
    | intro _
    | dsimp only [State.free, id])

theorem kodHeader_keeps (pl : Octets) (refid : Nat) : ∀ s : State, s.wf = true → (kodHeader pl refid s).2.wf = true := by
  intro s h
  unfold kodHeader
  try dsimp only [State.free, id]
  repeat' (first
    | with_reducible assumption
    | refine pair_wf (by with_reducible assumption) ?_
    | with_reducible apply State.free_keeps
    | simp only [wf_upd]
    | with_reducible rfl
    | split
    | intro _ _ _
    | intro _ _
    | intro _
    | dsimp only [State.free, id])

theorem sendNtp_keeps (m : SveMsg) (pl : Octets) (ops : List (Nat × Nat)) : ∀ s : State, s.wf = true → (sendNtp m pl ops s).2.wf = true := by
  intro s h
  unfold sendNtp
  try dsimp only [State.free, id]
  repeat' (first
    | with_reducible assumption
    | refine pair_wf (by with_reducible assumption) ?_
    | with_reducible apply sveSend_keeps
    | with_reducible apply act_keeps
    | simp only [wf_upd]
    | with_reducible rfl
    | split
    | intro _ _ _
    | intro _ _
    | intro _
    | dsimp only [State.free, id])

theorem kodSent_keeps (m : SveMsg) : Keeps (kodSent m) := by
  intro s h
  unfold kodSent
  try dsimp only [State.free, id]
  repeat' (first
    | with_reducible assumption
    | with_reducible apply post_keeps
    | with_reducible apply State.setTen_keeps
    | simp only [wf_upd]
    | with_reducible rfl
    | split
    | intro _ _ _
    | intro _ _
    | intro _
    | dsimp only [State.free, id])

theorem serveNtp_keeps (m : SveMsg) : Keeps (serveNtp m) := by
  intro s h
  unfold serveNtp
  try dsimp only [State.free, id]
  repeat' (first
    | with_reducible assumption
    | refine pair_wf (by with_reducible assumption) ?_
    | with_reducible apply post_keeps
    | with_reducible apply State.wr_keeps
    | with_reducible apply kodHeader_keeps
    | with_reducible apply sendNtp_keeps
    | with_reducible apply kodSent_keeps
    | with_reducible apply served_keeps
    | simp only [wf_upd]
    | with_reducible rfl
    | split
    | intro _ _ _
    | intro _ _
    | intro _
    | dsimp only [State.free, id])

theorem ntsSealed_keeps (hdr uid s2c pt : Octets) : ∀ s : State, s.wf = true → (ntsSealed hdr uid s2c pt s).2.wf = true := by
  intro s h
  unfold ntsSealed
  try dsimp only [State.free, id]
  repeat' (first
    | with_reducible assumption
    | refine pair_wf (by with_reducible assumption) ?_
    | with_reducible apply takeNonce_keeps
    | simp only [wf_upd]
    | with_reducible rfl
    | split
    | intro _ _ _
    | intro _ _
    | intro _
    | dsimp only [State.free, id])

theorem ntsNak_keeps (m : SveMsg) (pl uid : Octets) : Keeps (ntsNak m pl uid) := by
  intro s h
  unfold ntsNak
  extract_lets x r
  have hr : r.2.wf = true := sendNtp_keeps _ _ _ _ (kodHeader_keeps _ _ s h)
  clear_value r
  split
  · exact kodSent_keeps _ _ (served_keeps _ _ _ (post_keeps _ _ _ (State.wr_keeps _ _ _ _ hr)))
  · exact hr

theorem cookieFields_keeps (e : NtsEnt) (c2s s2c : Octets) (k : Nat) : ∀ s, s.wf = true → (cookieFields e c2s s2c k s).2.wf = true := by
  induction k with
  | zero => exact fun s h => h
  | succ k ih => exact fun s h => ih _ (takeNonce_keeps s h)

theorem ntsRespond_keeps (m : SveMsg) (pl : Octets) (q : NtsParts) (c2s s2c : Octets) (start : Rat) (x32 b : Nat) (s t : State)
    (h : s.wf = true) (he : ntsRespond m pl q c2s s2c start x32 b s = some t) : t.wf = true := by
  unfold ntsRespond at he
  extract_lets d n tenant clock cur k len c time rd pt o w f p l at he
  have hp : pt.2.wf = true := by
    dsimp only [pt]
    clear_value cur
    split
    · exact cookieFields_keeps _ _ _ _ s h
    · exact h
  have ho : o.2.wf = true := ntsSealed_keeps _ _ _ _ _ hp
  clear_value o
  repeat' (first
    | split at he
    | (cases he; done))
  · cases he
    exact count_keeps _ _ _ s h
  · cases he
    exact launchMiss_keeps s h
  · cases he
    exact served_keeps _ _ _ (sivOps_keeps _ _ (State.setSchPort_keeps _ _ _ ho))

theorem serveNts_keeps (m : SveMsg) (start : Rat) (x32 b : Nat) (s t : State)
    (h : s.wf = true) (e : serveNts m start x32 b s = some t) : t.wf = true := by
  unfold serveNts at e
  extract_lets tenant pl x at e
  split at e
  · cases e
    exact count_keeps _ _ _ s h
  · split at e
    · cases e
      exact authFail_keeps _ _ _ s h
    · extract_lets lost at e
      split at e
      · cases e
        exact count_keeps _ _ _ s h
      · split at e
        · cases e
          exact ntsNak_keeps _ _ _ s h
        · extract_lets o r at e
          split at e
          · cases e
            exact authFail_keeps _ _ _ s h
          · split at e
            · have hr : r.2.wf = true := sendNtp_keeps _ _ _ _ (sivOps_keeps _ _ (ntsSealed_keeps _ _ _ _ _ (kodHeader_keeps _ _ s h)))
              clear_value r
              cases e
              split
              · exact kodSent_keeps _ _ (served_keeps _ _ _ hr)
              · exact hr
            · exact ntsRespond_keeps _ _ _ _ _ _ _ _ _ _ h e

theorem ntsRequest_keeps (p : Nat) (start : Rat) (x32 b : Nat) : Keeps (ntsRequest p start x32 b) := by
  intro s h
  unfold ntsRequest
  split
  · exact h
  · split
    · split
      · exact h
      · split
        · rename_i t e
          exact credit_keeps _ _ (serveNts_keeps _ _ _ _ _ t (popMsg_keeps _ _ s h) e)
        · exact h
    · exact h

end Sys2Proof.Machine
end

