-- ==== Sys2Proof/Laws/KeepSveCmds.lean ====
section
/-! SUPPORT. What the operations of SveCmds keep: the canonical form of the memories and of the register file. -/

set_option Elab.async false

set_option linter.unusedSimpArgs false
set_option linter.unusedTactic false
set_option linter.unreachableTactic false

namespace Sys2Proof.Machine

theorem clsCommand_keeps (w : Win) (body : Nat → State → State) (hbody : ∀ a0, Keeps (body a0)) : Keeps (clsCommand w body) := by
  intro s h
  unfold clsCommand
  try dsimp only [State.free, id]
  repeat' (first
    | with_reducible assumption
    | with_reducible apply command_keeps
    | apply hbody
    | simp only [wf_upd]
    | with_reducible rfl
    | split
    | intro _ _ _
    | intro _ _
    | intro _
    | dsimp only [State.free, id])

theorem clsReplace_keeps (n : Nat) (d : Octets) : Keeps (clsReplace n d) := by
  intro s h
  unfold clsReplace
  try dsimp only [State.free, id]
  repeat' (first
    | with_reducible assumption
    | with_reducible apply State.setCls_keeps
    | simp only [wf_upd]
    | with_reducible rfl
    | split
    | intro _ _ _
    | intro _ _
    | intro _
    | dsimp only [State.free, id])

theorem clsDone_keeps (w : Win) (n : Nat) : Keeps (clsDone w n) := by
  intro s h
  unfold clsDone
  try dsimp only [State.free, id]
  repeat' (first
    | with_reducible assumption
    | with_reducible apply post_keeps
    | with_reducible apply completeOk_keeps
    | with_reducible apply State.wr_keeps
    | simp only [wf_upd]
    | with_reducible rfl
    | split
    | intro _ _ _
    | intro _ _
    | intro _
    | dsimp only [State.free, id])

theorem clsWriteWith_keeps (w : Win) (drain : Bool) (expect : Nat) (data : Nat → State → Octets) : Keeps (clsWriteWith w drain expect data) := by
  intro s h
  unfold clsWriteWith
  try dsimp only [State.free, id]
  repeat' (first
    | with_reducible assumption
    | with_reducible apply State.wr_keeps
    | with_reducible apply refuse_keeps
    | with_reducible apply complete_keeps
    | with_reducible apply accept_keeps
    | with_reducible apply clsReplace_keeps
    | with_reducible apply clsDone_keeps
    | with_reducible apply clsCommand_keeps
    | simp only [wf_upd]
    | with_reducible rfl
    | split
    | intro _ _ _
    | intro _ _
    | intro _
    | dsimp only [State.free, id])

theorem opClsWrite_keeps (w : Win) (drain : Bool) (expect : Nat) : Keeps (opClsWrite w drain expect) := by
  intro s h
  unfold opClsWrite
  try dsimp only [State.free, id]
  repeat' (first
    | with_reducible assumption
    | with_reducible apply clsWriteWith_keeps
    | simp only [wf_upd]
    | with_reducible rfl
    | split
    | intro _ _ _
    | intro _ _
    | intro _
    | dsimp only [State.free, id])

theorem opClsInvalidate_keeps (w : Win) (drain : Bool) (expect : Nat) : Keeps (opClsInvalidate w drain expect) := by
  intro s h
  unfold opClsInvalidate
  try dsimp only [State.free, id]
  repeat' (first
    | with_reducible assumption
    | with_reducible apply clsWriteWith_keeps
    | simp only [wf_upd]
    | with_reducible rfl
    | split
    | intro _ _ _
    | intro _ _
    | intro _
    | dsimp only [State.free, id])

theorem clsWriteComplete_keeps (n : Nat) : Keeps (clsWriteComplete n) := by
  intro s h
  unfold clsWriteComplete
  try dsimp only [State.free, id]
  repeat' (first
    | with_reducible assumption
    | with_reducible apply clsReplace_keeps
    | with_reducible apply post_keeps
    | with_reducible apply finish_keeps
    | with_reducible apply State.wr_keeps
    | simp only [wf_upd]
    | with_reducible rfl
    | split
    | intro _ _ _
    | intro _ _
    | intro _
    | dsimp only [State.free, id])

theorem opClsRead_keeps (w : Win) : Keeps (opClsRead w) := by
  intro s h
  unfold opClsRead
  try dsimp only [State.free, id]
  repeat' (first
    | with_reducible assumption
    | with_reducible apply refuse_keeps
    | with_reducible apply State.wr_keeps
    | with_reducible apply completeOk_keeps
    | with_reducible apply clsCommand_keeps
    | with_reducible apply each_keeps
    | simp only [wf_upd]
    | with_reducible rfl
    | split
    | intro _ _ _
    | intro _ _
    | intro _
    | dsimp only [State.free, id])

theorem ctxCommand_keeps (w : Win) (body : Nat → Octets → State → State) (hbody : ∀ a0 a1, Keeps (body a0 a1)) : Keeps (ctxCommand w body) := by
  intro s h
  unfold ctxCommand
  try dsimp only [State.free, id]
  repeat' (first
    | with_reducible assumption
    | with_reducible apply refuse_keeps
    | with_reducible apply complete_keeps
    | with_reducible apply poisonUse_keeps
    | with_reducible apply command_keeps
    | apply hbody
    | simp only [wf_upd]
    | with_reducible rfl
    | split
    | intro _ _ _
    | intro _ _
    | intro _
    | dsimp only [State.free, id])

theorem opCtxRead_keeps (w : Win) : Keeps (opCtxRead w) := by
  intro s h
  unfold opCtxRead
  try dsimp only [State.free, id]
  repeat' (first
    | with_reducible assumption
    | with_reducible apply completeOk_keeps
    | with_reducible apply State.wr_keeps
    | with_reducible apply ctxCommand_keeps
    | with_reducible apply each_keeps
    | simp only [wf_upd]
    | with_reducible rfl
    | split
    | intro _ _ _
    | intro _ _
    | intro _
    | dsimp only [State.free, id])

theorem opCtxInstall_keeps (w : Win) : Keeps (opCtxInstall w) := by
  intro s h
  unfold opCtxInstall
  try dsimp only [State.free, id]
  repeat' (first
    | with_reducible assumption
    | with_reducible apply refuse_keeps
    | with_reducible apply post_keeps
    | with_reducible apply State.wr_keeps
    | with_reducible apply dirInsert_keeps
    | with_reducible apply ctxWrite_keeps
    | with_reducible apply moveLoad_keeps
    | with_reducible apply wheelBit_keeps
    | with_reducible apply completeOk_keeps
    | with_reducible apply command_keeps
    | with_reducible apply each_keeps
    | simp only [wf_upd]
    | with_reducible rfl
    | split
    | intro _ _ _
    | intro _ _
    | intro _
    | dsimp only [State.free, id])

theorem opCtxRelease_keeps (w : Win) : Keeps (opCtxRelease w) := by
  intro s h
  unfold opCtxRelease
  try dsimp only [State.free, id]
  repeat' (first
    | with_reducible assumption
    | refine pair_wf (by with_reducible assumption) ?_
    | with_reducible apply endGrants_keeps
    | with_reducible apply sendCancel_keeps
    | with_reducible apply completeOk_keeps
    | with_reducible apply freeContext_keeps
    | with_reducible apply ctxCommand_keeps
    | simp only [wf_upd]
    | with_reducible rfl
    | split
    | intro _ _ _
    | intro _ _
    | intro _
    | dsimp only [State.free, id])

theorem opCtxCancelGrant_keeps (w : Win) (types : Nat) : Keeps (opCtxCancelGrant w types) := by
  intro s h
  unfold opCtxCancelGrant
  try dsimp only [State.free, id]
  repeat' (first
    | with_reducible assumption
    | refine pair_wf (by with_reducible assumption) ?_
    | with_reducible apply refuse_keeps
    | with_reducible apply endGrants_keeps
    | with_reducible apply sendCancel_keeps
    | with_reducible apply completeOk_keeps
    | with_reducible apply ctxWrite_keeps
    | with_reducible apply ctxCommand_keeps
    | simp only [wf_upd]
    | with_reducible rfl
    | split
    | intro _ _ _
    | intro _ _
    | intro _
    | dsimp only [State.free, id])

theorem setCli_keeps (c : CliSess) : Keeps (setCli c) := by
  intro s h
  unfold setCli
  try dsimp only [State.free, id]
  repeat' (first
    | with_reducible assumption
    | simp only [wf_upd]
    | with_reducible rfl
    | split
    | intro _ _ _
    | intro _ _
    | intro _
    | dsimp only [State.free, id])

theorem cliSync_keeps (m : Octets) (x32 : Nat) (time : Int) : Keeps (cliSync m x32 time) := by
  intro s h
  unfold cliSync
  try dsimp only [State.free, id]
  repeat' (first
    | with_reducible assumption
    | with_reducible apply setCli_keeps
    | with_reducible apply linkRestored_keeps
    | with_reducible apply State.wr_keeps
    | simp only [wf_upd]
    | with_reducible rfl
    | split
    | intro _ _ _
    | intro _ _
    | intro _
    | dsimp only [State.free, id])

theorem cliAnnounce_keeps (m : Octets) : Keeps (cliAnnounce m) := by
  intro s h
  unfold cliAnnounce
  try dsimp only [State.free, id]
  repeat' (first
    | with_reducible assumption
    | with_reducible apply setCli_keeps
    | with_reducible apply State.wr_keeps
    | with_reducible apply updateQr_keeps
    | with_reducible apply State.setSlot_keeps
    | simp only [wf_upd]
    | with_reducible rfl
    | split
    | intro _ _ _
    | intro _ _
    | intro _
    | dsimp only [State.free, id])

theorem cliDelayResp_keeps (m : Octets) (t3 : Option Nat) : Keeps (cliDelayResp m t3) := by
  intro s h
  unfold cliDelayResp
  try dsimp only [State.free, id]
  repeat' (first
    | with_reducible assumption
    | with_reducible apply refEdgeStamp_keeps
    | with_reducible apply setCli_keeps
    | simp only [wf_upd]
    | with_reducible rfl
    | split
    | intro _ _ _
    | intro _ _
    | intro _
    | dsimp only [State.free, id])

theorem ptpClientMessage_keeps (t3 : Option Nat) : Keeps (ptpClientMessage t3) := by
  intro s h
  unfold ptpClientMessage
  try dsimp only [State.free, id]
  repeat' (first
    | with_reducible assumption
    | with_reducible apply setCli_keeps
    | with_reducible apply cliSync_keeps
    | with_reducible apply cliDelayResp_keeps
    | with_reducible apply cliAnnounce_keeps
    | with_reducible apply State.wr_keeps
    | simp only [wf_upd]
    | with_reducible rfl
    | split
    | intro _ _ _
    | intro _ _
    | intro _
    | dsimp only [State.free, id])

theorem cliAnnTimeout_keeps  : Keeps cliAnnTimeout := by
  intro s h
  unfold cliAnnTimeout
  try dsimp only [State.free, id]
  repeat' (first
    | with_reducible assumption
    | with_reducible apply setCli_keeps
    | with_reducible apply updateQr_keeps
    | with_reducible apply post_keeps
    | with_reducible apply State.wr_keeps
    | with_reducible apply State.setSlot_keeps
    | simp only [wf_upd]
    | with_reducible rfl
    | split
    | intro _ _ _
    | intro _ _
    | intro _
    | dsimp only [State.free, id])

theorem cliSyncTimeout_keeps  : Keeps cliSyncTimeout := by
  intro s h
  unfold cliSyncTimeout
  try dsimp only [State.free, id]
  repeat' (first
    | with_reducible assumption
    | with_reducible apply linkLost_keeps
    | with_reducible apply post_keeps
    | with_reducible apply setCli_keeps
    | with_reducible apply State.wr_keeps
    | simp only [wf_upd]
    | with_reducible rfl
    | split
    | intro _ _ _
    | intro _ _
    | intro _
    | dsimp only [State.free, id])

end Sys2Proof.Machine
end

