-- ==== Sys2Proof/Laws/KeepMate.lean ====
section
/-! SUPPORT. What the operations of Mate keep: the canonical form of the memories and of the register file. -/

set_option Elab.async false

set_option linter.unusedSimpArgs false
set_option linter.unusedTactic false
set_option linter.unreachableTactic false

namespace Sys2Proof.Machine

theorem syncTrack_keeps  : Keeps syncTrack := by
  intro s h
  unfold syncTrack
  try dsimp only [State.free, id]
  repeat' (first
    | with_reducible assumption
    | with_reducible apply post_keeps
    | with_reducible apply State.wr_keeps
    | with_reducible apply onlyIf_keeps
    | simp only [wf_upd]
    | with_reducible rfl
    | split
    | intro _ _ _
    | intro _ _
    | intro _
    | dsimp only [State.free, id])

theorem syncClaim_keeps  : Keeps syncClaim := by
  intro s h
  unfold syncClaim
  try dsimp only [State.free, id]
  repeat' (first
    | with_reducible assumption
    | with_reducible apply State.wr_keeps
    | simp only [wf_upd]
    | with_reducible rfl
    | split
    | intro _ _ _
    | intro _ _
    | intro _
    | dsimp only [State.free, id])

theorem evalHealth_keeps  : Keeps evalHealth := by
  intro s h
  unfold evalHealth
  try dsimp only [State.free, id]
  repeat' (first
    | with_reducible assumption
    | with_reducible refine foldl_keeps _ _ (fun _ _ _ => ?_) _ ?_
    | with_reducible refine foldlPair_keeps _ _ (fun _ _ _ => ?_) _ ?_
    | with_reducible apply syncClaim_keeps
    | with_reducible apply State.wr_keeps
    | simp only [wf_upd]
    | with_reducible rfl
    | split
    | intro _ _ _
    | intro _ _
    | intro _
    | dsimp only [State.free, id])

theorem mateStep_keeps (ev : MateEv) : Keeps (mateStep ev) := by
  intro s h
  unfold mateStep
  try dsimp only [State.free, id]
  repeat' (first
    | with_reducible assumption
    | with_reducible apply mateEnter_keeps
    | simp only [wf_upd]
    | with_reducible rfl
    | split
    | intro _ _ _
    | intro _ _
    | intro _
    | dsimp only [State.free, id])

theorem noteCollapse_keeps  : Keeps noteCollapse := by
  intro s h
  unfold noteCollapse
  try dsimp only [State.free, id]
  repeat' (first
    | with_reducible assumption
    | simp only [wf_upd]
    | with_reducible rfl
    | split
    | intro _ _ _
    | intro _ _
    | intro _
    | dsimp only [State.free, id])

theorem mateMarker_keeps  : Keeps mateMarker := by
  intro s h
  unfold mateMarker
  try dsimp only [State.free, id]
  repeat' (first
    | with_reducible assumption
    | with_reducible apply noteCollapse_keeps
    | with_reducible apply mateStep_keeps
    | with_reducible apply evalHealth_keeps
    | with_reducible apply syncTrack_keeps
    | simp only [wf_upd]
    | with_reducible rfl
    | split
    | intro _ _ _
    | intro _ _
    | intro _
    | dsimp only [State.free, id])

theorem syncPaths_keeps  : Keeps syncPaths := by
  intro s h
  unfold syncPaths
  try dsimp only [State.free, id]
  repeat' (first
    | with_reducible assumption
    | with_reducible apply State.wr_keeps
    | with_reducible apply raise_keeps
    | with_reducible apply post_keeps
    | simp only [wf_upd]
    | with_reducible rfl
    | split
    | intro _ _ _
    | intro _ _
    | intro _
    | dsimp only [State.free, id])

theorem pathCheck_keeps  : Keeps pathCheck := by
  intro s h
  unfold pathCheck
  try dsimp only [State.free, id]
  repeat' (first
    | with_reducible assumption
    | with_reducible apply raise_keeps
    | with_reducible apply post_keeps
    | with_reducible apply State.wr_keeps
    | with_reducible apply syncPaths_keeps
    | simp only [wf_upd]
    | with_reducible rfl
    | split
    | intro _ _ _
    | intro _ _
    | intro _
    | dsimp only [State.free, id])

theorem sideConflict_keeps  : Keeps sideConflict := by
  intro s h
  unfold sideConflict
  try dsimp only [State.free, id]
  repeat' (first
    | with_reducible assumption
    | with_reducible apply raise_keeps
    | with_reducible apply post_keeps
    | with_reducible apply syncClaim_keeps
    | with_reducible apply State.wr_keeps
    | simp only [wf_upd]
    | with_reducible rfl
    | split
    | intro _ _ _
    | intro _ _
    | intro _
    | dsimp only [State.free, id])

theorem toffeeMessage_keeps (d : Octets) : Keeps (toffeeMessage d) := by
  intro s h
  unfold toffeeMessage
  try dsimp only [State.free, id]
  repeat' (first
    | with_reducible assumption
    | with_reducible apply State.wr_keeps
    | with_reducible apply sideConflict_keeps
    | with_reducible apply pathCheck_keeps
    | with_reducible apply noteCollapse_keeps
    | with_reducible apply mateStep_keeps
    | simp only [wf_upd]
    | with_reducible rfl
    | split
    | intro _ _ _
    | intro _ _
    | intro _
    | dsimp only [State.free, id])

theorem toffeeStale_keeps  : Keeps toffeeStale := by
  intro s h
  unfold toffeeStale
  try dsimp only [State.free, id]
  repeat' (first
    | with_reducible assumption
    | with_reducible apply mateStep_keeps
    | with_reducible apply syncPaths_keeps
    | with_reducible apply State.wr_keeps
    | simp only [wf_upd]
    | with_reducible rfl
    | split
    | intro _ _ _
    | intro _ _
    | intro _
    | dsimp only [State.free, id])

theorem heartbeatSilent_keeps  : Keeps heartbeatSilent := by
  intro s h
  unfold heartbeatSilent
  try dsimp only [State.free, id]
  repeat' (first
    | with_reducible assumption
    | with_reducible apply mateStep_keeps
    | with_reducible apply State.wr_keeps
    | simp only [wf_upd]
    | with_reducible rfl
    | split
    | intro _ _ _
    | intro _ _
    | intro _
    | dsimp only [State.free, id])

theorem noteHeartbeat_keeps  : Keeps noteHeartbeat := by
  intro s h
  unfold noteHeartbeat
  try dsimp only [State.free, id]
  repeat' (first
    | with_reducible assumption
    | with_reducible apply State.wr_keeps
    | simp only [wf_upd]
    | with_reducible rfl
    | split
    | intro _ _ _
    | intro _ _
    | intro _
    | dsimp only [State.free, id])

theorem heartbeatContention_keeps  : Keeps heartbeatContention := by
  intro s h
  unfold heartbeatContention
  try dsimp only [State.free, id]
  repeat' (first
    | with_reducible assumption
    | with_reducible apply noteHeartbeat_keeps
    | with_reducible apply post_keeps
    | with_reducible apply State.wr_keeps
    | with_reducible apply raise_keeps
    | with_reducible apply mateStep_keeps
    | simp only [wf_upd]
    | with_reducible rfl
    | split
    | intro _ _ _
    | intro _ _
    | intro _
    | dsimp only [State.free, id])

theorem mateHoldoff_keeps  : Keeps mateHoldoff := by
  intro s h
  unfold mateHoldoff
  try dsimp only [State.free, id]
  repeat' (first
    | with_reducible assumption
    | with_reducible apply State.wr_keeps
    | simp only [wf_upd]
    | with_reducible rfl
    | split
    | intro _ _ _
    | intro _ _
    | intro _
    | dsimp only [State.free, id])

theorem obsWindow_keeps (seen : List ObsPairs) (n : Nat) : Keeps (obsWindow seen n) := by
  intro s h
  unfold obsWindow
  try dsimp only [State.free, id]
  repeat' (first
    | with_reducible assumption
    | with_reducible apply State.wr_keeps
    | simp only [wf_upd]
    | with_reducible rfl
    | split
    | intro _ _ _
    | intro _ _
    | intro _
    | dsimp only [State.free, id])

theorem obsWindows_keeps (tick : Nat) (seen : List ObsPairs) : Keeps (obsWindows tick seen) := by
  intro s h
  unfold obsWindows
  try dsimp only [State.free, id]
  repeat' (first
    | with_reducible assumption
    | with_reducible apply mateStep_keeps
    | with_reducible apply syncTrack_keeps
    | with_reducible apply obsWindow_keeps
    | with_reducible apply each_keeps
    | simp only [wf_upd]
    | with_reducible rfl
    | split
    | intro _ _ _
    | intro _ _
    | intro _
    | dsimp only [State.free, id])

end Sys2Proof.Machine
end

