-- ==== Sys2Proof/Laws/KeepUbwick.lean ====
section
/-! SUPPORT. What the operations of Ubwick keep: the canonical form of the memories and of the register file. -/

set_option Elab.async false

set_option linter.unusedSimpArgs false
set_option linter.unusedTactic false
set_option linter.unreachableTactic false

namespace Sys2Proof.Machine

theorem ubwOff_keeps (p : Nat) : Keeps (ubwOff p) := by
  intro s h
  unfold ubwOff
  try dsimp only [State.free, id]
  repeat' (first
    | with_reducible assumption
    | with_reducible apply ubwEnter_keeps
    | with_reducible apply State.wr_keeps
    | with_reducible apply syncUbw_keeps
    | with_reducible apply ubwTxDone_keeps
    | with_reducible apply State.setUbwPort_keeps
    | with_reducible apply each_keeps
    | simp only [wf_upd]
    | with_reducible rfl
    | split
    | intro _ _ _
    | intro _ _
    | intro _
    | dsimp only [State.free, id])

theorem writeUbwCfg_keeps (fn p v : Nat) : Keeps (writeUbwCfg fn p v) := by
  intro s h
  unfold writeUbwCfg
  try dsimp only [State.free, id]
  repeat' (first
    | with_reducible assumption
    | with_reducible apply postTo_keeps
    | with_reducible apply post_keeps
    | with_reducible apply State.wr_keeps
    | with_reducible apply ubwOff_keeps
    | with_reducible apply ubwEnter_keeps
    | with_reducible apply syncUbw_keeps
    | with_reducible apply writeAtDoor_keeps
    | with_reducible apply onlyIf_keeps
    | simp only [wf_upd]
    | with_reducible rfl
    | split
    | intro _ _ _
    | intro _ _
    | intro _
    | dsimp only [State.free, id])

theorem ubwBlockLock_keeps (p : Nat) (locked : Bool) : Keeps (ubwBlockLock p locked) := by
  intro s h
  unfold ubwBlockLock
  try dsimp only [State.free, id]
  repeat' (first
    | with_reducible assumption
    | with_reducible apply ubwEnter_keeps
    | simp only [wf_upd]
    | with_reducible rfl
    | split
    | intro _ _ _
    | intro _ _
    | intro _
    | dsimp only [State.free, id])

theorem badMarker_keeps (p : Nat) : Keeps (badMarker p) := by
  intro s h
  unfold badMarker
  try dsimp only [State.free, id]
  repeat' (first
    | with_reducible assumption
    | with_reducible apply State.wr_keeps
    | simp only [wf_upd]
    | with_reducible rfl
    | split
    | intro _ _ _
    | intro _ _
    | intro _
    | dsimp only [State.free, id])

theorem markerMissing_keeps (p block : Nat) : Keeps (markerMissing p block) := by
  intro s h
  unfold markerMissing
  try dsimp only [State.free, id]
  repeat' (first
    | with_reducible assumption
    | with_reducible apply State.setUbwPort_keeps
    | with_reducible apply badMarker_keeps
    | with_reducible apply ubwEnter_keeps
    | simp only [wf_upd]
    | with_reducible rfl
    | split
    | intro _ _ _
    | intro _ _
    | intro _
    | dsimp only [State.free, id])

theorem noteArrival_keeps (p sf x32 : Nat) : Keeps (noteArrival p sf x32) := by
  intro s h
  unfold noteArrival
  try dsimp only [State.free, id]
  repeat' (first
    | with_reducible assumption
    | with_reducible apply State.setUbwPort_keeps
    | simp only [wf_upd]
    | with_reducible rfl
    | split
    | intro _ _ _
    | intro _ _
    | intro _
    | dsimp only [State.free, id])

theorem markerSearch_keeps (p block sf x32 : Nat) : Keeps (markerSearch p block sf x32) := by
  intro s h
  unfold markerSearch
  try dsimp only [State.free, id]
  repeat' (first
    | with_reducible assumption
    | with_reducible apply ubwEnter_keeps
    | with_reducible apply noteArrival_keeps
    | with_reducible apply State.setUbwPort_keeps
    | simp only [wf_upd]
    | with_reducible rfl
    | split
    | intro _ _ _
    | intro _ _
    | intro _
    | dsimp only [State.free, id])

theorem markerRx_keeps (p block x32 : Nat) (m : Octets) : Keeps (markerRx p block x32 m) := by
  intro s h
  unfold markerRx
  try dsimp only [State.free, id]
  repeat' (first
    | with_reducible assumption
    | with_reducible apply markerMissing_keeps
    | with_reducible apply markerSearch_keeps
    | with_reducible apply noteArrival_keeps
    | with_reducible apply State.setUbwPort_keeps
    | simp only [wf_upd]
    | with_reducible rfl
    | split
    | intro _ _ _
    | intro _ _
    | intro _
    | dsimp only [State.free, id])

theorem sendTiming_keeps (p k : Nat) : Keeps (sendTiming p k) := by
  intro s h
  unfold sendTiming
  try dsimp only [State.free, id]
  repeat' (first
    | with_reducible assumption
    | refine pair_wf (by with_reducible assumption) ?_
    | with_reducible apply State.free_keeps
    | with_reducible apply State.setUbwPort_keeps
    | simp only [wf_upd]
    | with_reducible rfl
    | split
    | intro _ _ _
    | intro _ _
    | intro _
    | dsimp only [State.free, id])

theorem sendLocal_keeps (p x32 block : Nat) (f : UbwTx) : Keeps (sendLocal p x32 block f) := by
  intro s h
  unfold sendLocal
  try dsimp only [State.free, id]
  repeat' (first
    | with_reducible assumption
    | with_reducible apply count_keeps
    | with_reducible apply State.setUbwPort_keeps
    | with_reducible apply frameErr_keeps
    | with_reducible apply tsrWrite_keeps
    | with_reducible apply ubwTxDone_keeps
    | with_reducible apply onlyIf_keeps
    | simp only [wf_upd]
    | with_reducible rfl
    | split
    | intro _ _ _
    | intro _ _
    | intro _
    | dsimp only [State.free, id])

theorem sendLocals_keeps (p x32 : Nat) (l : List UbwTx) : ∀ b s, s.wf = true → (sendLocals p x32 b l s).wf = true := by
  induction l with
  | nil => exact fun _ s h => h
  | cons f t ih => exact fun b s h => ih _ _ (sendLocal_keeps p x32 b f s h)

theorem drainLocal_keeps (p x32 : Nat) : Keeps (drainLocal p x32) := by
  intro s h
  unfold drainLocal
  split
  · exact h
  · exact sendLocals_keeps _ _ _ _ _ (State.setUbwPort_keeps _ _ s h)

theorem superframeTx_keeps (p x32 : Nat) : Keeps (superframeTx p x32) := by
  intro s h
  unfold superframeTx
  try dsimp only [State.free, id]
  repeat' (first
    | with_reducible assumption
    | with_reducible apply badMarker_keeps
    | with_reducible apply State.setUbwPort_keeps
    | with_reducible apply mateMarker_keeps
    | with_reducible apply sendTiming_keeps
    | with_reducible apply syncNode_keeps
    | with_reducible apply drainLocal_keeps
    | simp only [wf_upd]
    | with_reducible rfl
    | split
    | intro _ _ _
    | intro _ _
    | intro _
    | dsimp only [State.free, id])

theorem exchangeSample_keeps (p : Nat) (a : UbwStamp) (t1 d : Int) : Keeps (exchangeSample p a t1 d) := by
  intro s h
  unfold exchangeSample
  try dsimp only [State.free, id]
  repeat' (first
    | with_reducible assumption
    | with_reducible apply post_keeps
    | with_reducible apply State.setUbwPort_keeps
    | with_reducible apply State.wr_keeps
    | with_reducible apply onlyIf_keeps
    | simp only [wf_upd]
    | with_reducible rfl
    | split
    | intro _ _ _
    | intro _ _
    | intro _
    | dsimp only [State.free, id])

theorem exchange_keeps (p : Nat) (m : Octets) : Keeps (exchange p m) := by
  intro s h
  unfold exchange
  try dsimp only [State.free, id]
  repeat' (first
    | with_reducible assumption
    | with_reducible apply exchangeSample_keeps
    | with_reducible apply State.wr_keeps
    | simp only [wf_upd]
    | with_reducible rfl
    | split
    | intro _ _ _
    | intro _ _
    | intro _
    | dsimp only [State.free, id])

theorem badMsg_keeps (p : Nat) : Keeps (badMsg p) := by
  intro s h
  unfold badMsg
  try dsimp only [State.free, id]
  repeat' (first
    | with_reducible assumption
    | with_reducible apply State.setUbwPort_keeps
    | with_reducible apply ubwEnter_keeps
    | with_reducible apply State.wr_keeps
    | simp only [wf_upd]
    | with_reducible rfl
    | split
    | intro _ _ _
    | intro _ _
    | intro _
    | dsimp only [State.free, id])

theorem notePeer_keeps (p : Nat) (m : Octets) : Keeps (notePeer p m) := by
  intro s h
  unfold notePeer
  try dsimp only [State.free, id]
  repeat' (first
    | with_reducible assumption
    | with_reducible apply State.setUbwPort_keeps
    | with_reducible apply State.wr_keeps
    | simp only [wf_upd]
    | with_reducible rfl
    | split
    | intro _ _ _
    | intro _ _
    | intro _
    | dsimp only [State.free, id])

theorem timingRx_keeps (p : Nat) (m : Octets) : Keeps (timingRx p m) := by
  intro s h
  unfold timingRx
  try dsimp only [State.free, id]
  repeat' (first
    | with_reducible assumption
    | with_reducible apply badMsg_keeps
    | with_reducible apply notePeer_keeps
    | with_reducible apply post_keeps
    | with_reducible apply State.wr_keeps
    | with_reducible apply syncUbw_keeps
    | with_reducible apply ubwEnter_keeps
    | with_reducible apply ubwTryReady_keeps
    | with_reducible apply exchange_keeps
    | with_reducible apply toffeeMessage_keeps
    | with_reducible apply State.setUbwPort_keeps
    | with_reducible apply onlyIf_keeps
    | simp only [wf_upd]
    | with_reducible rfl
    | split
    | intro _ _ _
    | intro _ _
    | intro _
    | dsimp only [State.free, id])

theorem exchangeWindow_keeps (p tick : Nat) : Keeps (exchangeWindow p tick) := by
  intro s h
  unfold exchangeWindow
  try dsimp only [State.free, id]
  repeat' (first
    | with_reducible assumption
    | with_reducible apply State.setUbwPort_keeps
    | with_reducible apply State.wr_keeps
    | with_reducible apply syncUbw_keeps
    | with_reducible apply refEdgeStamp_keeps
    | with_reducible apply mateStep_keeps
    | with_reducible apply syncTrack_keeps
    | with_reducible apply State.wr64_keeps
    | simp only [wf_upd]
    | with_reducible rfl
    | split
    | intro _ _ _
    | intro _ _
    | intro _
    | dsimp only [State.free, id])

theorem routeErr_keeps (p : Nat) : Keeps (routeErr p) := by
  intro s h
  unfold routeErr
  try dsimp only [State.free, id]
  repeat' (first
    | with_reducible assumption
    | with_reducible apply post_keeps
    | with_reducible apply State.wr_keeps
    | simp only [wf_upd]
    | with_reducible rfl
    | split
    | intro _ _ _
    | intro _ _
    | intro _
    | dsimp only [State.free, id])

theorem frameErr_keeps  : Keeps frameErr := by
  intro s h
  unfold frameErr
  try dsimp only [State.free, id]
  repeat' (first
    | with_reducible assumption
    | with_reducible apply State.wr_keeps
    | simp only [wf_upd]
    | with_reducible rfl
    | split
    | intro _ _ _
    | intro _ _
    | intro _
    | dsimp only [State.free, id])

theorem egressStamp_keeps (q x32 : Nat) (eg : List UbwEgress) : ∀ s : State, s.wf = true → (egressStamp q x32 eg s).2.wf = true := by
  intro s h
  unfold egressStamp
  try dsimp only [State.free, id]
  repeat' (first
    | with_reducible assumption
    | refine pair_wf (by with_reducible assumption) ?_
    | with_reducible apply State.free_keeps
    | simp only [wf_upd]
    | with_reducible rfl
    | split
    | intro _ _ _
    | intro _ _
    | intro _
    | dsimp only [State.free, id])

theorem forward_keeps (p x32 q : Nat) (bad : Bool) (eg : List UbwEgress) (o : Octets) : Keeps (forward p x32 q bad eg o) := by
  intro s h
  unfold forward
  try dsimp only [State.free, id]
  repeat' (first
    | with_reducible assumption
    | refine pair_wf (by with_reducible assumption) ?_
    | with_reducible apply post_keeps
    | with_reducible apply State.wr_keeps
    | with_reducible apply egressStamp_keeps
    | with_reducible apply State.setUbwPort_keeps
    | with_reducible apply frameErr_keeps
    | with_reducible apply count_keeps
    | with_reducible apply onlyIf_keeps
    | simp only [wf_upd]
    | with_reducible rfl
    | split
    | intro _ _ _
    | intro _ _
    | intro _
    | dsimp only [State.free, id])

theorem chainDeliver_keeps (p x32 : Nat) (bad : Bool) (o : Octets) : Keeps (chainDeliver p x32 bad o) := by
  intro s h
  unfold chainDeliver
  try dsimp only [State.free, id]
  repeat' (first
    | with_reducible assumption
    | with_reducible apply frameErr_keeps
    | with_reducible apply routeErr_keeps
    | with_reducible apply tsrWrite_keeps
    | with_reducible apply count_keeps
    | simp only [wf_upd]
    | with_reducible rfl
    | split
    | intro _ _ _
    | intro _ _
    | intro _
    | dsimp only [State.free, id])

theorem chainDown_keeps (p x32 : Nat) (bad : Bool) (eg : List UbwEgress) (o : Octets) : Keeps (chainDown p x32 bad eg o) := by
  intro s h
  unfold chainDown
  try dsimp only [State.free, id]
  repeat' (first
    | with_reducible assumption
    | with_reducible apply forward_keeps
    | with_reducible apply chainDeliver_keeps
    | with_reducible apply routeErr_keeps
    | with_reducible apply each_keeps
    | simp only [wf_upd]
    | with_reducible rfl
    | split
    | intro _ _ _
    | intro _ _
    | intro _
    | dsimp only [State.free, id])

theorem chainUp_keeps (p x32 : Nat) (bad : Bool) (eg : List UbwEgress) (o : Octets) : Keeps (chainUp p x32 bad eg o) := by
  intro s h
  unfold chainUp
  try dsimp only [State.free, id]
  repeat' (first
    | with_reducible assumption
    | with_reducible apply chainDeliver_keeps
    | with_reducible apply routeErr_keeps
    | with_reducible apply forward_keeps
    | simp only [wf_upd]
    | with_reducible rfl
    | split
    | intro _ _ _
    | intro _ _
    | intro _
    | dsimp only [State.free, id])

theorem chainRx_keeps (p x32 : Nat) (f : Octets) (err : Bool) (eg : List UbwEgress) : Keeps (chainRx p x32 f err eg) := by
  intro s h
  unfold chainRx
  try dsimp only [State.free, id]
  repeat' (first
    | with_reducible assumption
    | with_reducible apply count_keeps
    | with_reducible apply frameErr_keeps
    | with_reducible apply chainUp_keeps
    | with_reducible apply routeErr_keeps
    | with_reducible apply chainDown_keeps
    | simp only [wf_upd]
    | with_reducible rfl
    | split
    | intro _ _ _
    | intro _ _
    | intro _
    | dsimp only [State.free, id])

theorem localPut_keeps (q : Nat) (f : UbwTx) : Keeps (localPut q f) := by
  intro s h
  unfold localPut
  try dsimp only [State.free, id]
  repeat' (first
    | with_reducible assumption
    | with_reducible apply ubwTxDone_keeps
    | with_reducible apply post_keeps
    | with_reducible apply State.wr_keeps
    | with_reducible apply State.setUbwPort_keeps
    | simp only [wf_upd]
    | with_reducible rfl
    | split
    | intro _ _ _
    | intro _ _
    | intro _
    | dsimp only [State.free, id])

theorem localSend_keeps (o : Octets) (h : HostTag) (tsReq : Bool) (tag : Nat) : Keeps (localSend o h tsReq tag) := by
  intro s h
  unfold localSend
  try dsimp only [State.free, id]
  repeat' (first
    | with_reducible assumption
    | with_reducible apply ubwTxDone_keeps
    | with_reducible apply routeErr_keeps
    | with_reducible apply localPut_keeps
    | with_reducible apply each_keeps
    | simp only [wf_upd]
    | with_reducible rfl
    | split
    | intro _ _ _
    | intro _ _
    | intro _
    | dsimp only [State.free, id])

theorem ubwSubmit_keeps (o act : Octets) (h : HostTag) : Keeps (ubwSubmit o act h) := by
  intro s h
  unfold ubwSubmit
  try dsimp only [State.free, id]
  repeat' (first
    | with_reducible assumption
    | with_reducible apply txComplete_keeps
    | with_reducible apply localSend_keeps
    | simp only [wf_upd]
    | with_reducible rfl
    | split
    | intro _ _ _
    | intro _ _
    | intro _
    | dsimp only [State.free, id])

end Sys2Proof.Machine
end

