-- ==== Sys2Proof/Laws/KeepBusServe.lean ====
section
/-! SUPPORT. What the operations of BusServe keep: the canonical form of the memories and of the register file. -/

set_option Elab.async false

set_option linter.unusedSimpArgs false
set_option linter.unusedTactic false
set_option linter.unreachableTactic false

namespace Sys2Proof.Machine

theorem writeTsrReg_keeps (b : Blk) (r : TsrRef) (w : Win) (off i v : Nat) : Keeps (writeTsrReg b r w off i v) := by
  intro s h
  unfold writeTsrReg
  try dsimp only [State.free, id]
  repeat' (first
    | with_reducible assumption
    | with_reducible apply post_keeps
    | with_reducible apply plain_keeps
    | with_reducible apply lockedReg_keeps
    | simp only [wf_upd]
    | with_reducible rfl
    | split
    | intro _ _ _
    | intro _ _
    | intro _
    | dsimp only [State.free, id])

theorem writePrtPort_keeps (w : Win) (n i off v : Nat) : Keeps (writePrtPort w n i off v) := by
  intro s h
  unfold writePrtPort
  try dsimp only [State.free, id]
  repeat' (first
    | with_reducible assumption
    | with_reducible apply writePortCfg_keeps
    | with_reducible apply post_keeps
    | with_reducible apply writeTsr_keeps
    | with_reducible apply writeTsrReg_keeps
    | with_reducible apply plain_keeps
    | with_reducible apply lockedReg_keeps
    | simp only [wf_upd]
    | with_reducible rfl
    | split
    | intro _ _ _
    | intro _ _
    | intro _
    | dsimp only [State.free, id])

theorem writePRT_keeps (w : Win) (off v : Nat) : Keeps (writePRT w off v) := by
  intro s h
  unfold writePRT
  try dsimp only [State.free, id]
  repeat' (first
    | with_reducible assumption
    | with_reducible apply writePrtPort_keeps
    | with_reducible apply post_keeps
    | with_reducible apply writeEvt_keeps
    | with_reducible apply writePortCg_keeps
    | with_reducible apply plain_keeps
    | with_reducible apply lockedReg_keeps
    | simp only [wf_upd]
    | with_reducible rfl
    | split
    | intro _ _ _
    | intro _ _
    | intro _
    | dsimp only [State.free, id])

theorem clsCmd_keeps (w : Win) (v : Nat) : Keeps (clsCmd w v) := by
  intro s h
  unfold clsCmd
  try dsimp only [State.free, id]
  repeat' (first
    | with_reducible assumption
    | with_reducible apply opClsWrite_keeps
    | with_reducible apply opClsRead_keeps
    | with_reducible apply opClsInvalidate_keeps
    | with_reducible apply refuse_keeps
    | with_reducible apply clsCommand_keeps
    | simp only [wf_upd]
    | with_reducible rfl
    | split
    | intro _ _ _
    | intro _ _
    | intro _
    | dsimp only [State.free, id])

theorem ctxCmd_keeps (w : Win) (v : Nat) : Keeps (ctxCmd w v) := by
  intro s h
  unfold ctxCmd
  try dsimp only [State.free, id]
  repeat' (first
    | with_reducible assumption
    | with_reducible apply opCtxRead_keeps
    | with_reducible apply opCtxInstall_keeps
    | with_reducible apply opCtxRelease_keeps
    | with_reducible apply opCtxCancelGrant_keeps
    | with_reducible apply refuse_keeps
    | with_reducible apply command_keeps
    | simp only [wf_upd]
    | with_reducible rfl
    | split
    | intro _ _ _
    | intro _ _
    | intro _
    | dsimp only [State.free, id])

theorem writeProfile_keeps (w : Win) (off v : Nat) : Keeps (writeProfile w off v) := by
  intro s h
  unfold writeProfile
  try dsimp only [State.free, id]
  repeat' (first
    | with_reducible assumption
    | with_reducible apply writeReg_keeps
    | with_reducible apply guarded_keeps
    | simp only [wf_upd]
    | with_reducible rfl
    | split
    | intro _ _ _
    | intro _ _
    | intro _
    | dsimp only [State.free, id])

theorem writeTenMax_keeps (w : Win) (v : Nat) : Keeps (writeTenMax w v) := by
  intro s h
  unfold writeTenMax
  try dsimp only [State.free, id]
  repeat' (first
    | with_reducible assumption
    | with_reducible apply State.setTen_keeps
    | with_reducible apply guarded_keeps
    | simp only [wf_upd]
    | with_reducible rfl
    | split
    | intro _ _ _
    | intro _ _
    | intro _
    | dsimp only [State.free, id])

theorem writeSVE_keeps (w : Win) (off v : Nat) : Keeps (writeSVE w off v) := by
  intro s h
  unfold writeSVE
  try dsimp only [State.free, id]
  repeat' (first
    | with_reducible assumption
    | with_reducible apply writeEvt_keeps
    | with_reducible apply setCli_keeps
    | with_reducible apply clsCmd_keeps
    | with_reducible apply ctxCmd_keeps
    | with_reducible apply writeTenMax_keeps
    | with_reducible apply writeProfile_keeps
    | with_reducible apply plain_keeps
    | with_reducible apply plainThen_keeps
    | with_reducible apply onlyIf_keeps
    | simp only [wf_upd]
    | with_reducible rfl
    | split
    | intro _ _ _
    | intro _ _
    | intro _
    | dsimp only [State.free, id])

theorem saCmd_keeps (w : Win) (v : Nat) : Keeps (saCmd w v) := by
  intro s h
  unfold saCmd
  try dsimp only [State.free, id]
  repeat' (first
    | with_reducible assumption
    | with_reducible apply opSaWrite_keeps
    | with_reducible apply opSaRead_keeps
    | with_reducible apply opSaLoadKey_keeps
    | with_reducible apply opSaRotate_keeps
    | with_reducible apply opSaUnloadKey_keeps
    | with_reducible apply opSaInvalidate_keeps
    | with_reducible apply refuse_keeps
    | with_reducible apply command_keeps
    | simp only [wf_upd]
    | with_reducible rfl
    | split
    | intro _ _ _
    | intro _ _
    | intro _
    | dsimp only [State.free, id])

theorem ntsCmd_keeps (w : Win) (v : Nat) : Keeps (ntsCmd w v) := by
  intro s h
  unfold ntsCmd
  try dsimp only [State.free, id]
  repeat' (first
    | with_reducible assumption
    | with_reducible apply opNtsLoad_keeps
    | with_reducible apply opNtsMakeCurrent_keeps
    | with_reducible apply opNtsUnload_keeps
    | with_reducible apply opNtsMint_keeps
    | with_reducible apply opNtsRead_keeps
    | with_reducible apply refuse_keeps
    | with_reducible apply command_keeps
    | simp only [wf_upd]
    | with_reducible rfl
    | split
    | intro _ _ _
    | intro _ _
    | intro _
    | dsimp only [State.free, id])

theorem writeSEC_keeps (w : Win) (off v : Nat) : Keeps (writeSEC w off v) := by
  intro s h
  unfold writeSEC
  try dsimp only [State.free, id]
  repeat' (first
    | with_reducible assumption
    | with_reducible apply writeEvt_keeps
    | with_reducible apply saCmd_keeps
    | with_reducible apply ntsCmd_keeps
    | with_reducible apply plain_keeps
    | simp only [wf_upd]
    | with_reducible rfl
    | split
    | intro _ _ _
    | intro _ _
    | intro _
    | dsimp only [State.free, id])

theorem writeSmpCfg_keeps (w : Win) (v : Nat) : Keeps (writeSmpCfg w v) := by
  intro s h
  unfold writeSmpCfg
  try dsimp only [State.free, id]
  repeat' (first
    | with_reducible assumption
    | with_reducible apply writeReg_keeps
    | with_reducible apply State.wr_keeps
    | with_reducible apply guarded_keeps
    | with_reducible apply onlyIf_keeps
    | simp only [wf_upd]
    | with_reducible rfl
    | split
    | intro _ _ _
    | intro _ _
    | intro _
    | dsimp only [State.free, id])

theorem writeQbase_keeps (w : Win) (v : Nat) : Keeps (writeQbase w v) := by
  intro s h
  unfold writeQbase
  try dsimp only [State.free, id]
  repeat' (first
    | with_reducible assumption
    | with_reducible apply revoke_keeps
    | with_reducible apply guarded_keeps
    | simp only [wf_upd]
    | with_reducible rfl
    | split
    | intro _ _ _
    | intro _ _
    | intro _
    | dsimp only [State.free, id])

theorem qCmd_keeps (w : Win) (v : Nat) : Keeps (qCmd w v) := by
  intro s h
  unfold qCmd
  try dsimp only [State.free, id]
  repeat' (first
    | with_reducible assumption
    | with_reducible apply opQWrite_keeps
    | with_reducible apply opQRead_keeps
    | with_reducible apply opQFlush_keeps
    | with_reducible apply refuse_keeps
    | with_reducible apply qCommand_keeps
    | simp only [wf_upd]
    | with_reducible rfl
    | split
    | intro _ _ _
    | intro _ _
    | intro _
    | dsimp only [State.free, id])

theorem writeGateData_keeps (w : Win) (v : Nat) : Keeps (writeGateData w v) := by
  intro s h
  unfold writeGateData
  try dsimp only [State.free, id]
  repeat' (first
    | with_reducible assumption
    | with_reducible apply post_keeps
    | with_reducible apply State.setSchPort_keeps
    | with_reducible apply guarded_keeps
    | simp only [wf_upd]
    | with_reducible rfl
    | split
    | intro _ _ _
    | intro _ _
    | intro _
    | dsimp only [State.free, id])

theorem writeSCH_keeps (w : Win) (off v : Nat) : Keeps (writeSCH w off v) := by
  intro s h
  unfold writeSCH
  try dsimp only [State.free, id]
  repeat' (first
    | with_reducible assumption
    | with_reducible apply gateRefresh_keeps
    | with_reducible apply writeGateCtrl_keeps
    | with_reducible apply plain_keeps
    | with_reducible apply writeEvt_keeps
    | with_reducible apply writeSmpCfg_keeps
    | with_reducible apply writeQbase_keeps
    | with_reducible apply qCmd_keeps
    | with_reducible apply writeGateData_keeps
    | with_reducible apply plainThen_keeps
    | with_reducible apply lockedReg_keeps
    | simp only [wf_upd]
    | with_reducible rfl
    | split
    | intro _ _ _
    | intro _ _
    | intro _
    | dsimp only [State.free, id])

theorem polCmd_keeps (w : Win) (v : Nat) : Keeps (polCmd w v) := by
  intro s h
  unfold polCmd
  try dsimp only [State.free, id]
  repeat' (first
    | with_reducible assumption
    | with_reducible apply opPolWrite_keeps
    | with_reducible apply opPolRead_keeps
    | with_reducible apply opPolRefill_keeps
    | with_reducible apply opPolClearCounts_keeps
    | with_reducible apply refuse_keeps
    | with_reducible apply command_keeps
    | simp only [wf_upd]
    | with_reducible rfl
    | split
    | intro _ _ _
    | intro _ _
    | intro _
    | dsimp only [State.free, id])

theorem writePOL_keeps (w : Win) (off v : Nat) : Keeps (writePOL w off v) := by
  intro s h
  unfold writePOL
  try dsimp only [State.free, id]
  repeat' (first
    | with_reducible assumption
    | with_reducible apply writeEvt_keeps
    | with_reducible apply polCmd_keeps
    | with_reducible apply plain_keeps
    | simp only [wf_upd]
    | with_reducible rfl
    | split
    | intro _ _ _
    | intro _ _
    | intro _
    | dsimp only [State.free, id])

theorem writeUBW_keeps (w : Win) (off v : Nat) : Keeps (writeUBW w off v) := by
  intro s h
  unfold writeUBW
  try dsimp only [State.free, id]
  repeat' (first
    | with_reducible assumption
    | with_reducible apply writeUbwCfg_keeps
    | with_reducible apply plain_keeps
    | with_reducible apply writeTsr_keeps
    | with_reducible apply writeTsrReg_keeps
    | with_reducible apply writeEvt_keeps
    | with_reducible apply syncUbw_keeps
    | with_reducible apply writePortCg_keeps
    | with_reducible apply plainThen_keeps
    | simp only [wf_upd]
    | with_reducible rfl
    | split
    | intro _ _ _
    | intro _ _
    | intro _
    | dsimp only [State.free, id])

theorem writeMATE_keeps (w : Win) (off v : Nat) : Keeps (writeMATE w off v) := by
  intro s h
  unfold writeMATE
  try dsimp only [State.free, id]
  repeat' (first
    | with_reducible assumption
    | with_reducible apply writeEvt_keeps
    | with_reducible apply plain_keeps
    | simp only [wf_upd]
    | with_reducible rfl
    | split
    | intro _ _ _
    | intro _ _
    | intro _
    | dsimp only [State.free, id])

theorem ksCmd_keeps (w : Win) (v : Nat) : Keeps (ksCmd w v) := by
  intro s h
  unfold ksCmd
  try dsimp only [State.free, id]
  repeat' (first
    | with_reducible assumption
    | with_reducible apply opKsReadAttr_keeps
    | with_reducible apply opKsGenerate_keeps
    | with_reducible apply opKsDerive_keeps
    | with_reducible apply opKsRestrict_keeps
    | with_reducible apply opKsWipe_keeps
    | with_reducible apply opKsEnvApply_keeps
    | with_reducible apply opKsIdStatement_keeps
    | with_reducible apply opKsEkCert_keeps
    | with_reducible apply opKsAuthSet_keeps
    | with_reducible apply opKsLockAuth_keeps
    | with_reducible apply opKsProvision_keeps
    | with_reducible apply opKsDeploy_keeps
    | with_reducible apply opKsReturn_keeps
    | with_reducible apply ksRefuse_keeps
    | with_reducible apply freeBool_keeps
    | with_reducible apply command_keeps
    | simp only [wf_upd]
    | with_reducible rfl
    | split
    | intro _ _ _
    | intro _ _
    | intro _
    | dsimp only [State.free, id])

theorem writeTamperCfg_keeps (w : Win) (v : Nat) : Keeps (writeTamperCfg w v) := by
  intro s h
  unfold writeTamperCfg
  try dsimp only [State.free, id]
  repeat' (first
    | with_reducible assumption
    | with_reducible apply State.wr_keeps
    | with_reducible apply guarded_keeps
    | simp only [wf_upd]
    | with_reducible rfl
    | split
    | intro _ _ _
    | intro _ _
    | intro _
    | dsimp only [State.free, id])

theorem writeKS_keeps (w : Win) (off v : Nat) : Keeps (writeKS w off v) := by
  intro s h
  unfold writeKS
  try dsimp only [State.free, id]
  repeat' (first
    | with_reducible assumption
    | with_reducible apply writeEvt_keeps
    | with_reducible apply writeTamperCfg_keeps
    | with_reducible apply plain_keeps
    | with_reducible apply ksCmd_keeps
    | simp only [wf_upd]
    | with_reducible rfl
    | split
    | intro _ _ _
    | intro _ _
    | intro _
    | dsimp only [State.free, id])

theorem writeSHM_keeps (w : Win) (off v : Nat) : Keeps (writeSHM w off v) := by
  intro s h
  unfold writeSHM
  try dsimp only [State.free, id]
  repeat' (first
    | with_reducible assumption
    | with_reducible apply writeEvt_keeps
    | with_reducible apply writeReg_keeps
    | with_reducible apply opCt_keeps
    | with_reducible apply refuse_keeps
    | with_reducible apply opAtom_keeps
    | with_reducible apply plain_keeps
    | with_reducible apply guarded_keeps
    | with_reducible apply command_keeps
    | simp only [wf_upd]
    | with_reducible rfl
    | split
    | intro _ _ _
    | intro _ _
    | intro _
    | dsimp only [State.free, id])

end Sys2Proof.Machine
end

