-- ==== Sys2Proof/Laws/KeepPowerCore.lean ====
section
/-! SUPPORT. What the operations of PowerCore keep: the canonical form of the memories and of the register file. -/

set_option Elab.async false

set_option linter.unusedSimpArgs false
set_option linter.unusedTactic false
set_option linter.unreachableTactic false

namespace Sys2Proof.Machine

theorem syncTol_keeps  : Keeps syncTol := by
  intro s h
  unfold syncTol
  try dsimp only [State.free, id]
  repeat' (first
    | with_reducible assumption
    | with_reducible apply State.wr_keeps
    | simp only [wf_upd]
    | with_reducible rfl
    | split
    | intro _ _ _
    | intro _ _
    | intro _
    | dsimp only [State.free, id])

theorem applyGate_keeps (b : Blk) : Keeps (applyGate b) := by
  intro s h
  unfold applyGate
  try dsimp only [State.free, id]
  repeat' (first
    | with_reducible assumption
    | with_reducible apply blockLoss_keeps
    | with_reducible apply abortRequests_keeps
    | with_reducible apply State.wr_keeps
    | with_reducible apply post_keeps
    | simp only [wf_upd]
    | with_reducible rfl
    | split
    | intro _ _ _
    | intro _ _
    | intro _
    | dsimp only [State.free, id])

theorem tryGate_keeps (b : Blk) : Keeps (tryGate b) := by
  intro s h
  unfold tryGate
  try dsimp only [State.free, id]
  repeat' (first
    | with_reducible assumption
    | with_reducible apply State.wr_keeps
    | with_reducible apply applyGate_keeps
    | with_reducible apply post_keeps
    | simp only [wf_upd]
    | with_reducible rfl
    | split
    | intro _ _ _
    | intro _ _
    | intro _
    | dsimp only [State.free, id])

theorem ungate_keeps (b : Nat) : Keeps (ungate b) := by
  intro s h
  unfold ungate
  try dsimp only [State.free, id]
  repeat' (first
    | with_reducible assumption
    | simp only [wf_upd]
    | with_reducible rfl
    | split
    | intro _ _ _
    | intro _ _
    | intro _
    | dsimp only [State.free, id])

theorem checkUngate_keeps (b : Nat) : Keeps (checkUngate b) := by
  intro s h
  unfold checkUngate
  try dsimp only [State.free, id]
  repeat' (first
    | with_reducible assumption
    | with_reducible apply ungate_keeps
    | with_reducible apply onlyIf_keeps
    | simp only [wf_upd]
    | with_reducible rfl
    | split
    | intro _ _ _
    | intro _ _
    | intro _
    | dsimp only [State.free, id])

theorem suHeld_keeps (w : Win) (b : Nat) : Keeps (suHeld w b) := by
  intro s h
  unfold suHeld
  try dsimp only [State.free, id]
  repeat' (first
    | with_reducible assumption
    | with_reducible apply State.wr_keeps
    | with_reducible apply completeOk_keeps
    | simp only [wf_upd]
    | with_reducible rfl
    | split
    | intro _ _ _
    | intro _ _
    | intro _
    | dsimp only [State.free, id])

theorem reopenHook_keeps (b : Blk) : Keeps (reopenHook b) := by
  intro s h
  unfold reopenHook
  try dsimp only [State.free, id]
  repeat' (first
    | with_reducible assumption
    | with_reducible apply secReload_keeps
    | with_reducible apply schReopen_keeps
    | with_reducible apply polReopen_keeps
    | simp only [wf_upd]
    | with_reducible rfl
    | split
    | intro _ _ _
    | intro _ _
    | intro _
    | dsimp only [State.free, id])

theorem resumeGated_keeps (b : Blk) : Keeps (resumeGated b) := by
  intro s h
  unfold resumeGated
  try dsimp only [State.free, id]
  repeat' (first
    | with_reducible assumption
    | with_reducible apply reopenHook_keeps
    | with_reducible apply State.wr_keeps
    | with_reducible apply suHeld_keeps
    | with_reducible apply each_keeps
    | simp only [wf_upd]
    | with_reducible rfl
    | split
    | intro _ _ _
    | intro _ _
    | intro _
    | dsimp only [State.free, id])

end Sys2Proof.Machine
end

