-- ==== Sys2Proof/Laws/KeepFaultCmds.lean ====
section
/-! SUPPORT. What the operations of FaultCmds keep: the canonical form of the memories and of the register file. -/

set_option Elab.async false

set_option linter.unusedSimpArgs false
set_option linter.unusedTactic false
set_option linter.unreachableTactic false

namespace Sys2Proof.Machine

theorem resetOrder_keeps (b : Nat) : Keeps (resetOrder b) := by
  intro s h
  unfold resetOrder
  try dsimp only [State.free, id]
  repeat' (first
    | with_reducible assumption
    | with_reducible apply orderBlockReset_keeps
    | simp only [wf_upd]
    | with_reducible rfl
    | split
    | intro _ _ _
    | intro _ _
    | intro _
    | dsimp only [State.free, id])

theorem doorAbsent_keeps (b : Nat) : Keeps (doorAbsent b) := by
  intro s h
  unfold doorAbsent
  try dsimp only [State.free, id]
  repeat' (first
    | with_reducible assumption
    | with_reducible apply State.wr_keeps
    | simp only [wf_upd]
    | with_reducible rfl
    | split
    | intro _ _ _
    | intro _ _
    | intro _
    | dsimp only [State.free, id])

theorem blockReady_keeps (b : Blk) : Keeps (blockReady b) := by
  intro s h
  unfold blockReady
  try dsimp only [State.free, id]
  repeat' (first
    | with_reducible assumption
    | with_reducible apply resumeGated_keeps
    | with_reducible apply closeShadow_keeps
    | with_reducible apply reopenHook_keeps
    | with_reducible apply State.wr_keeps
    | with_reducible apply finish_keeps
    | with_reducible apply post_keeps
    | simp only [wf_upd]
    | with_reducible rfl
    | split
    | intro _ _ _
    | intro _ _
    | intro _
    | dsimp only [State.free, id])

theorem doorReply_keeps (b : Blk) (gen : Nat) : Keeps (doorReply b gen) := by
  intro s h
  unfold doorReply
  try dsimp only [State.free, id]
  repeat' (first
    | with_reducible assumption
    | with_reducible apply count_keeps
    | simp only [wf_upd]
    | with_reducible rfl
    | split
    | intro _ _ _
    | intro _ _
    | intro _
    | dsimp only [State.free, id])

theorem tmrCompare_keeps (m : Option (BitVec 16)) : Keeps (tmrCompare m) := by
  intro s h
  unfold tmrCompare
  try dsimp only [State.free, id]
  repeat' (first
    | with_reducible assumption
    | with_reducible apply raise_keeps
    | simp only [wf_upd]
    | with_reducible rfl
    | split
    | intro _ _ _
    | intro _ _
    | intro _
    | dsimp only [State.free, id])

theorem readyTimeout_keeps (b : Blk) : Keeps (readyTimeout b) := by
  intro s h
  unfold readyTimeout
  try dsimp only [State.free, id]
  repeat' (first
    | with_reducible assumption
    | with_reducible apply closeShadow_keeps
    | with_reducible apply finish_keeps
    | with_reducible apply hits_keeps
    | simp only [wf_upd]
    | with_reducible rfl
    | split
    | intro _ _ _
    | intro _ _
    | intro _
    | dsimp only [State.free, id])

theorem sclkStop_keeps  : Keeps sclkStop := by
  intro s h
  unfold sclkStop
  try dsimp only [State.free, id]
  repeat' (first
    | with_reducible assumption
    | with_reducible apply raise_keeps
    | with_reducible apply State.wr_keeps
    | simp only [wf_upd]
    | with_reducible rfl
    | split
    | intro _ _ _
    | intro _ _
    | intro _
    | dsimp only [State.free, id])

theorem fltLogWrite_keeps  : Keeps fltLogWrite := by
  intro s h
  unfold fltLogWrite
  try dsimp only [State.free, id]
  repeat' (first
    | with_reducible assumption
    | with_reducible apply State.shmWrite_keeps
    | with_reducible apply State.wr_keeps
    | with_reducible apply post_keeps
    | with_reducible apply onlyIf_keeps
    | simp only [wf_upd]
    | with_reducible rfl
    | split
    | intro _ _ _
    | intro _ _
    | intro _
    | dsimp only [State.free, id])

theorem fltCommand_keeps (w : Win) (auth : State → Bool) (body : State → State) (hbody : Keeps body) : Keeps (fltCommand w auth body) := by
  intro s h
  unfold fltCommand
  try dsimp only [State.free, id]
  repeat' (first
    | with_reducible assumption
    | with_reducible apply refuse_keeps
    | with_reducible apply command_keeps
    | apply hbody
    | simp only [wf_upd]
    | with_reducible rfl
    | split
    | intro _ _ _
    | intro _ _
    | intro _
    | dsimp only [State.free, id])

theorem opSrcWrite_keeps (w : Win) : Keeps (opSrcWrite w) := by
  intro s h
  unfold opSrcWrite
  try dsimp only [State.free, id]
  repeat' (first
    | with_reducible assumption
    | with_reducible apply refuse_keeps
    | with_reducible apply completeOk_keeps
    | with_reducible apply fltCommand_keeps
    | simp only [wf_upd]
    | with_reducible rfl
    | split
    | intro _ _ _
    | intro _ _
    | intro _
    | dsimp only [State.free, id])

theorem opSrcRead_keeps (w : Win) : Keeps (opSrcRead w) := by
  intro s h
  unfold opSrcRead
  try dsimp only [State.free, id]
  repeat' (first
    | with_reducible assumption
    | with_reducible apply State.wr_keeps
    | with_reducible apply completeOk_keeps
    | with_reducible apply fltCommand_keeps
    | simp only [wf_upd]
    | with_reducible rfl
    | split
    | intro _ _ _
    | intro _ _
    | intro _
    | dsimp only [State.free, id])

theorem opBlockReset_keeps (w : Win) : Keeps (opBlockReset w) := by
  intro s h
  unfold opBlockReset
  try dsimp only [State.free, id]
  repeat' (first
    | with_reducible assumption
    | with_reducible apply refuse_keeps
    | with_reducible apply complete_keeps
    | with_reducible apply orderBlockReset_keeps
    | with_reducible apply accept_keeps
    | with_reducible apply fltCommand_keeps
    | simp only [wf_upd]
    | with_reducible rfl
    | split
    | intro _ _ _
    | intro _ _
    | intro _
    | dsimp only [State.free, id])

theorem opInject_keeps (w : Win) (l : List FltHit) : Keeps (opInject w l) := by
  intro s h
  unfold opInject
  try dsimp only [State.free, id]
  repeat' (first
    | with_reducible assumption
    | with_reducible apply refuse_keeps
    | with_reducible apply hits_keeps
    | with_reducible apply completeOk_keeps
    | with_reducible apply fltCommand_keeps
    | simp only [wf_upd]
    | with_reducible rfl
    | split
    | intro _ _ _
    | intro _ _
    | intro _
    | dsimp only [State.free, id])

theorem opFltLock_keeps (w : Win) : Keeps (opFltLock w) := by
  intro s h
  unfold opFltLock
  try dsimp only [State.free, id]
  repeat' (first
    | with_reducible assumption
    | with_reducible apply completeOk_keeps
    | with_reducible apply State.wr_keeps
    | with_reducible apply fltCommand_keeps
    | simp only [wf_upd]
    | with_reducible rfl
    | split
    | intro _ _ _
    | intro _ _
    | intro _
    | dsimp only [State.free, id])

end Sys2Proof.Machine
end

