-- ==== Sys2Proof/Laws/KeepLedger.lean ====
section
/-! SUPPORT. What the operations of Ledger keep: the canonical form of the memories and of the register file. -/

set_option Elab.async false

set_option linter.unusedSimpArgs false
set_option linter.unusedTactic false
set_option linter.unreachableTactic false

namespace Sys2Proof.Machine

theorem opTokStart_keeps (w : Win) : Keeps (opTokStart w) := by
  intro s h
  unfold opTokStart
  try dsimp only [State.free, id]
  repeat' (first
    | with_reducible assumption
    | with_reducible apply refuse_keeps
    | with_reducible apply State.wr64_keeps
    | with_reducible apply accept_keeps
    | with_reducible apply setTokens_keeps
    | with_reducible apply command_keeps
    | simp only [wf_upd]
    | with_reducible rfl
    | split
    | intro _ _ _
    | intro _ _
    | intro _
    | dsimp only [State.free, id])

theorem tokenDone_keeps (i : Nat) : Keeps (tokenDone i) := by
  intro s h
  unfold tokenDone
  try dsimp only [State.free, id]
  repeat' (first
    | with_reducible assumption
    | with_reducible apply tokenFinish_keeps
    | with_reducible apply dmaWrite_keeps
    | simp only [wf_upd]
    | with_reducible rfl
    | split
    | intro _ _ _
    | intro _ _
    | intro _
    | dsimp only [State.free, id])

theorem pathBecomesStale_keeps (p : Nat) : Keeps (pathBecomesStale p) := by
  intro s h
  unfold pathBecomesStale
  try dsimp only [State.free, id]
  repeat' (first
    | with_reducible assumption
    | with_reducible apply syncBound_keeps
    | with_reducible apply post_keeps
    | with_reducible apply State.wr_keeps
    | simp only [wf_upd]
    | with_reducible rfl
    | split
    | intro _ _ _
    | intro _ _
    | intro _
    | dsimp only [State.free, id])

theorem agePasses_keeps  : Keeps agePasses := by
  intro s h
  unfold agePasses
  try dsimp only [State.free, id]
  repeat' (first
    | with_reducible assumption
    | with_reducible apply syncBound_keeps
    | simp only [wf_upd]
    | with_reducible rfl
    | split
    | intro _ _ _
    | intro _ _
    | intro _
    | dsimp only [State.free, id])

theorem pathCalibrated_keeps (p unc tick : Nat) : Keeps (pathCalibrated p unc tick) := by
  intro s h
  unfold pathCalibrated
  try dsimp only [State.free, id]
  repeat' (first
    | with_reducible assumption
    | with_reducible apply State.wr_keeps
    | with_reducible apply syncBound_keeps
    | simp only [wf_upd]
    | with_reducible rfl
    | split
    | intro _ _ _
    | intro _ _
    | intro _
    | dsimp only [State.free, id])

end Sys2Proof.Machine
end

