-- ==== Sys2Proof/Laws/KeepTdc.lean ====
section
/-! SUPPORT. What the operations of Tdc keep: the canonical form of the memories and of the register file. -/

set_option Elab.async false

set_option linter.unusedSimpArgs false
set_option linter.unusedTactic false
set_option linter.unreachableTactic false

namespace Sys2Proof.Machine

theorem State.setHalf_keeps (p h : Nat) (x : Half) : Keeps (State.setHalf p h x) := by
  intro s h
  unfold State.setHalf
  try dsimp only [State.free, id]
  repeat' (first
    | with_reducible assumption
    | simp only [wf_upd]
    | with_reducible rfl
    | split
    | intro _ _ _
    | intro _ _
    | intro _
    | dsimp only [State.free, id])

theorem takeEdge_keeps (p f sub x : Nat) : ∀ s : State, s.wf = true → (takeEdge p f sub x s).2.wf = true := by
  intro s h
  unfold takeEdge
  try dsimp only [State.free, id]
  repeat' (first
    | with_reducible assumption
    | with_reducible apply State.setHalf_keeps
    | simp only [wf_upd]
    | with_reducible rfl
    | split
    | intro _ _ _
    | intro _ _
    | intro _
    | dsimp only [State.free, id])

theorem syncHalves_keeps (p : Nat) : Keeps (syncHalves p) := by
  intro s h
  unfold syncHalves
  try dsimp only [State.free, id]
  repeat' (first
    | with_reducible assumption
    | with_reducible apply State.wr_keeps
    | simp only [wf_upd]
    | with_reducible rfl
    | split
    | intro _ _ _
    | intro _ _
    | intro _
    | dsimp only [State.free, id])

theorem calPair_keeps (p h c1 c2 : Nat) : Keeps (calPair p h c1 c2) := by
  intro s h
  unfold calPair
  try dsimp only [State.free, id]
  repeat' (first
    | with_reducible assumption
    | with_reducible apply syncHalves_keeps
    | with_reducible apply State.setHalf_keeps
    | with_reducible apply post_keeps
    | with_reducible apply raise_keeps
    | with_reducible apply onlyIf_keeps
    | simp only [wf_upd]
    | with_reducible rfl
    | split
    | intro _ _ _
    | intro _ _
    | intro _
    | dsimp only [State.free, id])

theorem fifoPut_keeps (n : Nat) (r : TdcRec) : Keeps (fifoPut n r) := by
  intro s h
  unfold fifoPut
  try dsimp only [State.free, id]
  repeat' (first
    | with_reducible assumption
    | with_reducible apply chDropped_keeps
    | with_reducible apply State.setChan_keeps
    | simp only [wf_upd]
    | with_reducible rfl
    | split
    | intro _ _ _
    | intro _ _
    | intro _
    | dsimp only [State.free, id])

theorem tdcEdge_keeps (n f sub x : Nat) (falling : Bool) : Keeps (tdcEdge n f sub x falling) := by
  intro s h
  unfold tdcEdge
  try dsimp only [State.free, id]
  repeat' (first
    | with_reducible assumption
    | refine pair_wf (by with_reducible assumption) ?_
    | with_reducible apply takeEdge_keeps
    | with_reducible apply State.setChan_keeps
    | with_reducible apply State.wr_keeps
    | with_reducible apply fifoPut_keeps
    | simp only [wf_upd]
    | with_reducible rfl
    | split
    | intro _ _ _
    | intro _ _
    | intro _
    | dsimp only [State.free, id])

theorem tdcRecordWrite_keeps (n : Nat) : Keeps (tdcRecordWrite n) := by
  intro s h
  unfold tdcRecordWrite
  try dsimp only [State.free, id]
  repeat' (first
    | with_reducible assumption
    | with_reducible apply syncFull_keeps
    | with_reducible apply chDropped_keeps
    | with_reducible apply State.setChan_keeps
    | with_reducible apply State.shmWrite_keeps
    | with_reducible apply post_keeps
    | with_reducible apply State.wr_keeps
    | with_reducible apply onlyIf_keeps
    | simp only [wf_upd]
    | with_reducible rfl
    | split
    | intro _ _ _
    | intro _ _
    | intro _
    | dsimp only [State.free, id])

theorem chEnable_keeps (n : Nat) (en : Bool) : Keeps (chEnable n en) := by
  intro s h
  unfold chEnable
  try dsimp only [State.free, id]
  repeat' (first
    | with_reducible assumption
    | with_reducible apply post_keeps
    | with_reducible apply State.setChan_keeps
    | with_reducible apply State.wr_keeps
    | with_reducible apply syncFull_keeps
    | with_reducible apply setChState_keeps
    | simp only [wf_upd]
    | with_reducible rfl
    | split
    | intro _ _ _
    | intro _ _
    | intro _
    | dsimp only [State.free, id])

theorem writeChCfg_keeps (fn n v : Nat) : Keeps (writeChCfg fn n v) := by
  intro s h
  unfold writeChCfg
  try dsimp only [State.free, id]
  repeat' (first
    | with_reducible assumption
    | with_reducible apply postTo_keeps
    | with_reducible apply post_keeps
    | with_reducible apply State.wr_keeps
    | with_reducible apply chEnable_keeps
    | with_reducible apply writeAtDoor_keeps
    | with_reducible apply onlyIf_keeps
    | simp only [wf_upd]
    | with_reducible rfl
    | split
    | intro _ _ _
    | intro _ _
    | intro _
    | dsimp only [State.free, id])

theorem tdcDrained_keeps (n : Nat) : Keeps (tdcDrained n) := by
  intro s h
  unfold tdcDrained
  try dsimp only [State.free, id]
  repeat' (first
    | with_reducible assumption
    | with_reducible apply setChState_keeps
    | simp only [wf_upd]
    | with_reducible rfl
    | split
    | intro _ _ _
    | intro _ _
    | intro _
    | dsimp only [State.free, id])

theorem tdcGateOpen_keeps (g st : Nat) : Keeps (tdcGateOpen g st) := by
  intro s h
  unfold tdcGateOpen
  try dsimp only [State.free, id]
  repeat' (first
    | with_reducible assumption
    | with_reducible apply State.setGate_keeps
    | with_reducible apply fifoPut_keeps
    | with_reducible apply post_keeps
    | with_reducible apply State.wr_keeps
    | with_reducible apply each_keeps
    | simp only [wf_upd]
    | with_reducible rfl
    | split
    | intro _ _ _
    | intro _ _
    | intro _
    | dsimp only [State.free, id])

theorem tdcGateClose_keeps (g st : Nat) : Keeps (tdcGateClose g st) := by
  intro s h
  unfold tdcGateClose
  try dsimp only [State.free, id]
  repeat' (first
    | with_reducible assumption
    | with_reducible apply State.setGate_keeps
    | with_reducible apply State.wr_keeps
    | with_reducible apply State.setChan_keeps
    | with_reducible apply fifoPut_keeps
    | with_reducible apply post_keeps
    | with_reducible apply each_keeps
    | simp only [wf_upd]
    | with_reducible rfl
    | split
    | intro _ _ _
    | intro _ _
    | intro _
    | dsimp only [State.free, id])

theorem gateCount_keeps (g : Nat) : Keeps (gateCount g) := by
  intro s h
  unfold gateCount
  try dsimp only [State.free, id]
  repeat' (first
    | with_reducible assumption
    | with_reducible apply State.wr_keeps
    | simp only [wf_upd]
    | with_reducible rfl
    | split
    | intro _ _ _
    | intro _ _
    | intro _
    | dsimp only [State.free, id])

theorem writeTdcGate_keeps (fn g : Nat) (arm : Bool) : Keeps (writeTdcGate fn g arm) := by
  intro s h
  unfold writeTdcGate
  try dsimp only [State.free, id]
  repeat' (first
    | with_reducible assumption
    | with_reducible apply postTo_keeps
    | with_reducible apply tdcGateClose_keeps
    | with_reducible apply post_keeps
    | with_reducible apply State.setGate_keeps
    | with_reducible apply State.wr_keeps
    | with_reducible apply writeAtDoor_keeps
    | simp only [wf_upd]
    | with_reducible rfl
    | split
    | intro _ _ _
    | intro _ _
    | intro _
    | dsimp only [State.free, id])

theorem tdcGateEdge_keeps (g f sub x : Nat) (falling : Bool) : Keeps (tdcGateEdge g f sub x falling) := by
  intro s h
  unfold tdcGateEdge
  try dsimp only [State.free, id]
  repeat' (first
    | with_reducible assumption
    | refine pair_wf (by with_reducible assumption) ?_
    | with_reducible apply takeEdge_keeps
    | with_reducible apply tdcGateOpen_keeps
    | with_reducible apply tdcGateClose_keeps
    | with_reducible apply gateCount_keeps
    | simp only [wf_upd]
    | with_reducible rfl
    | split
    | intro _ _ _
    | intro _ _
    | intro _
    | dsimp only [State.free, id])

theorem tdcGateWindow_keeps (g : Nat) : Keeps (tdcGateWindow g) := by
  intro s h
  unfold tdcGateWindow
  try dsimp only [State.free, id]
  repeat' (first
    | with_reducible assumption
    | with_reducible apply gateCount_keeps
    | with_reducible apply tdcGateClose_keeps
    | with_reducible apply tdcGateOpen_keeps
    | simp only [wf_upd]
    | with_reducible rfl
    | split
    | intro _ _ _
    | intro _ _
    | intro _
    | dsimp only [State.free, id])

theorem writeCalCmd_keeps (fn p : Nat) : Keeps (writeCalCmd fn p) := by
  intro s h
  unfold writeCalCmd
  try dsimp only [State.free, id]
  repeat' (first
    | with_reducible assumption
    | with_reducible apply postTo_keeps
    | with_reducible apply startCal_keeps
    | with_reducible apply writeAtDoor_keeps
    | simp only [wf_upd]
    | with_reducible rfl
    | split
    | intro _ _ _
    | intro _ _
    | intro _
    | dsimp only [State.free, id])

theorem calPeriodicDue_keeps (p : Nat) : Keeps (calPeriodicDue p) := by
  intro s h
  unfold calPeriodicDue
  try dsimp only [State.free, id]
  repeat' (first
    | with_reducible assumption
    | with_reducible apply startCal_keeps
    | simp only [wf_upd]
    | with_reducible rfl
    | split
    | intro _ _ _
    | intro _ _
    | intro _
    | dsimp only [State.free, id])

theorem calComplete_keeps (tx rx : List (BitVec 32)) : Keeps (calComplete tx rx) := by
  intro s h
  unfold calComplete
  try dsimp only [State.free, id]
  repeat' (first
    | with_reducible assumption
    | with_reducible apply State.wr_keeps
    | with_reducible apply pathCalibrated_keeps
    | with_reducible apply startCal_keeps
    | with_reducible apply post_keeps
    | with_reducible apply syncUbw_keeps
    | with_reducible apply ubwTryReady_keeps
    | with_reducible apply onlyIf_keeps
    | simp only [wf_upd]
    | with_reducible rfl
    | split
    | intro _ _ _
    | intro _ _
    | intro _
    | dsimp only [State.free, id])

end Sys2Proof.Machine
end

