-- ==== Sys2Proof/Laws/KeepHifCmds.lean ====
section
/-! SUPPORT. What the operations of HifCmds keep: the canonical form of the memories and of the register file. -/

set_option Elab.async false

set_option linter.unusedSimpArgs false
set_option linter.unusedTactic false
set_option linter.unreachableTactic false

namespace Sys2Proof.Machine

theorem ringOff_keeps (fn r : Nat) : Keeps (ringOff fn r) := by
  intro s h
  unfold ringOff
  try dsimp only [State.free, id]
  repeat' (first
    | with_reducible assumption
    | with_reducible apply State.wr_keeps
    | simp only [wf_upd]
    | with_reducible rfl
    | split
    | intro _ _ _
    | intro _ _
    | intro _
    | dsimp only [State.free, id])

theorem ringOn_keeps (fn r : Nat) : Keeps (ringOn fn r) := by
  intro s h
  unfold ringOn
  try dsimp only [State.free, id]
  repeat' (first
    | with_reducible assumption
    | with_reducible apply State.wr_keeps
    | with_reducible apply each_keeps
    | simp only [wf_upd]
    | with_reducible rfl
    | split
    | intro _ _ _
    | intro _ _
    | intro _
    | dsimp only [State.free, id])

theorem writeRingCfg_keeps (fn r v : Nat) : Keeps (writeRingCfg fn r v) := by
  intro s h
  unfold writeRingCfg
  try dsimp only [State.free, id]
  repeat' (first
    | with_reducible assumption
    | with_reducible apply State.wr_keeps
    | with_reducible apply ringOff_keeps
    | with_reducible apply postTo_keeps
    | with_reducible apply ringOn_keeps
    | with_reducible apply onlyIf_keeps
    | simp only [wf_upd]
    | with_reducible rfl
    | split
    | intro _ _ _
    | intro _ _
    | intro _
    | dsimp only [State.free, id])

theorem writeRingField_keeps (fn r : Nat) (f : FieldRef) (v : Nat) : Keeps (writeRingField fn r f v) := by
  intro s h
  unfold writeRingField
  try dsimp only [State.free, id]
  repeat' (first
    | with_reducible assumption
    | with_reducible apply postTo_keeps
    | with_reducible apply State.wr_keeps
    | simp only [wf_upd]
    | with_reducible rfl
    | split
    | intro _ _ _
    | intro _ _
    | intro _
    | dsimp only [State.free, id])

theorem opDoorbell_keeps (fn r v : Nat) : Keeps (opDoorbell fn r v) := by
  intro s h
  unfold opDoorbell
  try dsimp only [State.free, id]
  repeat' (first
    | with_reducible assumption
    | with_reducible apply postTo_keeps
    | with_reducible apply State.wr_keeps
    | simp only [wf_upd]
    | with_reducible rfl
    | split
    | intro _ _ _
    | intro _ _
    | intro _
    | dsimp only [State.free, id])

theorem writeErCfg_keeps (fn v : Nat) : Keeps (writeErCfg fn v) := by
  intro s h
  unfold writeErCfg
  try dsimp only [State.free, id]
  repeat' (first
    | with_reducible assumption
    | with_reducible apply State.wr_keeps
    | with_reducible apply postTo_keeps
    | simp only [wf_upd]
    | with_reducible rfl
    | split
    | intro _ _ _
    | intro _ _
    | intro _
    | dsimp only [State.free, id])

theorem revokeRings_keeps  : Keeps revokeRings := by
  intro s h
  unfold revokeRings
  try dsimp only [State.free, id]
  repeat' (first
    | with_reducible assumption
    | with_reducible apply post_keeps
    | with_reducible apply chEnable_keeps
    | with_reducible apply tsrOff_keeps
    | with_reducible apply postTo_keeps
    | with_reducible apply ringOff_keeps
    | with_reducible apply State.wr_keeps
    | with_reducible apply each_keeps
    | simp only [wf_upd]
    | with_reducible rfl
    | split
    | intro _ _ _
    | intro _ _
    | intro _
    | dsimp only [State.free, id])

theorem ptCommit_keeps  : Keeps ptCommit := by
  intro s h
  unfold ptCommit
  try dsimp only [State.free, id]
  repeat' (first
    | with_reducible assumption
    | with_reducible apply State.wr_keeps
    | with_reducible apply revokeRings_keeps
    | with_reducible apply post_keeps
    | simp only [wf_upd]
    | with_reducible rfl
    | split
    | intro _ _ _
    | intro _ _
    | intro _
    | dsimp only [State.free, id])

theorem hifCommand_keeps (w : Win) (auth : State → Bool) (body : State → State) (hbody : Keeps body) : Keeps (hifCommand w auth body) := by
  intro s h
  unfold hifCommand
  try dsimp only [State.free, id]
  repeat' (first
    | with_reducible assumption
    | with_reducible apply refuse_keeps
    | with_reducible apply command_keeps
    | apply hbody
    | simp only [wf_upd]
    | with_reducible rfl
    | split
    | intro _ _ _
    | intro _ _
    | intro _
    | dsimp only [State.free, id])

theorem opHifNop_keeps (w : Win) : Keeps (opHifNop w) := by
  intro s h
  unfold opHifNop
  try dsimp only [State.free, id]
  repeat' (first
    | with_reducible assumption
    | with_reducible apply completeOk_keeps
    | with_reducible apply hifCommand_keeps
    | simp only [wf_upd]
    | with_reducible rfl
    | split
    | intro _ _ _
    | intro _ _
    | intro _
    | dsimp only [State.free, id])

theorem ptPut_keeps (e : Nat) (o : Octets) : Keeps (ptPut e o) := by
  intro s h
  unfold ptPut
  try dsimp only [State.free, id]
  repeat' (first
    | with_reducible assumption
    | simp only [wf_upd]
    | with_reducible rfl
    | split
    | intro _ _ _
    | intro _ _
    | intro _
    | dsimp only [State.free, id])

theorem opPtWrite_keeps (w : Win) : Keeps (opPtWrite w) := by
  intro s h
  unfold opPtWrite
  try dsimp only [State.free, id]
  repeat' (first
    | with_reducible assumption
    | with_reducible apply refuse_keeps
    | with_reducible apply completeOk_keeps
    | with_reducible apply ptPut_keeps
    | with_reducible apply hifCommand_keeps
    | simp only [wf_upd]
    | with_reducible rfl
    | split
    | intro _ _ _
    | intro _ _
    | intro _
    | dsimp only [State.free, id])

theorem opPtRead_keeps (w : Win) : Keeps (opPtRead w) := by
  intro s h
  unfold opPtRead
  try dsimp only [State.free, id]
  repeat' (first
    | with_reducible assumption
    | with_reducible apply refuse_keeps
    | with_reducible apply completeOk_keeps
    | with_reducible apply State.wr_keeps
    | with_reducible apply hifCommand_keeps
    | with_reducible apply each_keeps
    | simp only [wf_upd]
    | with_reducible rfl
    | split
    | intro _ _ _
    | intro _ _
    | intro _
    | dsimp only [State.free, id])

theorem opPtCommit_keeps (w : Win) : Keeps (opPtCommit w) := by
  intro s h
  unfold opPtCommit
  try dsimp only [State.free, id]
  repeat' (first
    | with_reducible assumption
    | with_reducible apply refuse_keeps
    | with_reducible apply ptCommit_keeps
    | with_reducible apply State.wr_keeps
    | with_reducible apply accept_keeps
    | with_reducible apply completeOk_keeps
    | with_reducible apply hifCommand_keeps
    | simp only [wf_upd]
    | with_reducible rfl
    | split
    | intro _ _ _
    | intro _ _
    | intro _
    | dsimp only [State.free, id])

theorem ptDrained_keeps  : Keeps ptDrained := by
  intro s h
  unfold ptDrained
  try dsimp only [State.free, id]
  repeat' (first
    | with_reducible assumption
    | with_reducible apply finish_keeps
    | simp only [wf_upd]
    | with_reducible rfl
    | split
    | intro _ _ _
    | intro _ _
    | intro _
    | dsimp only [State.free, id])

theorem opPtAbort_keeps (w : Win) : Keeps (opPtAbort w) := by
  intro s h
  unfold opPtAbort
  try dsimp only [State.free, id]
  repeat' (first
    | with_reducible assumption
    | with_reducible apply refuse_keeps
    | with_reducible apply completeOk_keeps
    | with_reducible apply hifCommand_keeps
    | simp only [wf_upd]
    | with_reducible rfl
    | split
    | intro _ _ _
    | intro _ _
    | intro _
    | dsimp only [State.free, id])

theorem opHifCopy_keeps (w : Win) : Keeps (opHifCopy w) := by
  intro s h
  unfold opHifCopy
  try dsimp only [State.free, id]
  repeat' (first
    | with_reducible assumption
    | with_reducible apply refuse_keeps
    | with_reducible apply count_keeps
    | with_reducible apply dmaWrite_keeps
    | with_reducible apply complete_keeps
    | with_reducible apply State.wr_keeps
    | with_reducible apply hifCommand_keeps
    | with_reducible apply onlyIf_keeps
    | simp only [wf_upd]
    | with_reducible rfl
    | split
    | intro _ _ _
    | intro _ _
    | intro _
    | dsimp only [State.free, id])

theorem opSuHold_keeps (w : Win) : Keeps (opSuHold w) := by
  intro s h
  unfold opSuHold
  try dsimp only [State.free, id]
  repeat' (first
    | with_reducible assumption
    | with_reducible apply refuse_keeps
    | with_reducible apply ungate_keeps
    | with_reducible apply accept_keeps
    | with_reducible apply suHeld_keeps
    | with_reducible apply hifCommand_keeps
    | simp only [wf_upd]
    | with_reducible rfl
    | split
    | intro _ _ _
    | intro _ _
    | intro _
    | dsimp only [State.free, id])

theorem applyDeferred_keeps (b : Nat) : Keeps (applyDeferred b) := by
  intro s h
  unfold applyDeferred
  try dsimp only [State.free, id]
  repeat' (first
    | with_reducible assumption
    | with_reducible apply postTo_keeps
    | with_reducible apply State.wr_keeps
    | with_reducible apply tryGate_keeps
    | with_reducible apply each_keeps
    | with_reducible apply onlyIf_keeps
    | simp only [wf_upd]
    | with_reducible rfl
    | split
    | intro _ _ _
    | intro _ _
    | intro _
    | dsimp only [State.free, id])

theorem opSuRelease_keeps (w : Win) : Keeps (opSuRelease w) := by
  intro s h
  unfold opSuRelease
  try dsimp only [State.free, id]
  repeat' (first
    | with_reducible assumption
    | with_reducible apply refuse_keeps
    | with_reducible apply State.wr_keeps
    | with_reducible apply completeOk_keeps
    | with_reducible apply applyDeferred_keeps
    | with_reducible apply hifCommand_keeps
    | with_reducible apply onlyIf_keeps
    | simp only [wf_upd]
    | with_reducible rfl
    | split
    | intro _ _ _
    | intro _ _
    | intro _
    | dsimp only [State.free, id])

theorem setPwrReq_keeps (fn b req : Nat) (deferred : Bool) : Keeps (setPwrReq fn b req deferred) := by
  intro s h
  unfold setPwrReq
  try dsimp only [State.free, id]
  repeat' (first
    | with_reducible assumption
    | with_reducible apply checkUngate_keeps
    | with_reducible apply State.wr_keeps
    | simp only [wf_upd]
    | with_reducible rfl
    | split
    | intro _ _ _
    | intro _ _
    | intro _
    | dsimp only [State.free, id])

theorem opPwrReq_keeps (w : Win) : Keeps (opPwrReq w) := by
  intro s h
  unfold opPwrReq
  try dsimp only [State.free, id]
  repeat' (first
    | with_reducible assumption
    | with_reducible apply refuse_keeps
    | with_reducible apply complete_keeps
    | with_reducible apply setPwrReq_keeps
    | with_reducible apply hifCommand_keeps
    | simp only [wf_upd]
    | with_reducible rfl
    | split
    | intro _ _ _
    | intro _ _
    | intro _
    | dsimp only [State.free, id])

theorem offerDescriptor_keeps (h : HostTag) (d : Octets) : Keeps (offerDescriptor h d) := by
  intro s h
  unfold offerDescriptor
  try dsimp only [State.free, id]
  repeat' (first
    | with_reducible assumption
    | refine pair_wf (by with_reducible assumption) ?_
    | with_reducible apply txComplete_keeps
    | with_reducible apply count_keeps
    | with_reducible apply ubwSubmit_keeps
    | with_reducible apply enqueue_keeps
    | with_reducible apply onlyIf_keeps
    | simp only [wf_upd]
    | with_reducible rfl
    | split
    | intro _ _ _
    | intro _ _
    | intro _
    | dsimp only [State.free, id])

theorem txDescriptor_keeps  : Keeps txDescriptor := by
  intro s h
  unfold txDescriptor
  try dsimp only [State.free, id]
  repeat' (first
    | with_reducible assumption
    | with_reducible apply offerDescriptor_keeps
    | simp only [wf_upd]
    | with_reducible rfl
    | split
    | intro _ _ _
    | intro _ _
    | intro _
    | dsimp only [State.free, id])

theorem txCompletion_keeps  : Keeps txCompletion := by
  intro s h
  unfold txCompletion
  try dsimp only [State.free, id]
  repeat' (first
    | with_reducible assumption
    | with_reducible apply cqWrite_keeps
    | simp only [wf_upd]
    | with_reducible rfl
    | split
    | intro _ _ _
    | intro _ _
    | intro _
    | dsimp only [State.free, id])

theorem rxDelivery_keeps  : Keeps rxDelivery := by
  intro s h
  unfold rxDelivery
  try dsimp only [State.free, id]
  repeat' (first
    | with_reducible assumption
    | with_reducible apply count_keeps
    | with_reducible apply State.wr_keeps
    | with_reducible apply dmaWrite_keeps
    | with_reducible apply cqWrite_keeps
    | with_reducible apply onlyIf_keeps
    | simp only [wf_upd]
    | with_reducible rfl
    | split
    | intro _ _ _
    | intro _ _
    | intro _
    | dsimp only [State.free, id])

theorem irqIntervalEnd_keeps (fn v : Nat) : Keeps (irqIntervalEnd fn v) := by
  intro s h
  unfold irqIntervalEnd
  try dsimp only [State.free, id]
  repeat' (first
    | with_reducible assumption
    | with_reducible apply sendVec_keeps
    | simp only [wf_upd]
    | with_reducible rfl
    | split
    | intro _ _ _
    | intro _ _
    | intro _
    | dsimp only [State.free, id])

theorem writeMsix_keeps (fn off v : Nat) : Keeps (writeMsix fn off v) := by
  intro s h
  unfold writeMsix
  try dsimp only [State.free, id]
  repeat' (first
    | with_reducible assumption
    | with_reducible apply sendVec_keeps
    | with_reducible apply onlyIf_keeps
    | simp only [wf_upd]
    | with_reducible rfl
    | split
    | intro _ _ _
    | intro _ _
    | intro _
    | dsimp only [State.free, id])

theorem protFault_keeps (fn code addr : Nat) : Keeps (protFault fn code addr) := by
  intro s h
  unfold protFault
  try dsimp only [State.free, id]
  repeat' (first
    | with_reducible assumption
    | with_reducible apply accFail_keeps
    | with_reducible apply postTo_keeps
    | simp only [wf_upd]
    | with_reducible rfl
    | split
    | intro _ _ _
    | intro _ _
    | intro _
    | dsimp only [State.free, id])

theorem mmioDone_keeps (fn : Nat) (d : Octets) (ep : Bool) : Keeps (mmioDone fn d ep) := by
  intro s h
  unfold mmioDone
  try dsimp only [State.free, id]
  repeat' (first
    | with_reducible assumption
    | simp only [wf_upd]
    | with_reducible rfl
    | split
    | intro _ _ _
    | intro _ _
    | intro _
    | dsimp only [State.free, id])

theorem mmioShm_keeps (fn a : Nat) (act : MmioAct) : Keeps (mmioShm fn a act) := by
  intro s h
  unfold mmioShm
  try dsimp only [State.free, id]
  repeat' (first
    | with_reducible assumption
    | with_reducible apply count_keeps
    | with_reducible apply protFault_keeps
    | with_reducible apply mmioDone_keeps
    | with_reducible apply State.shmWrite_keeps
    | with_reducible apply poisonWord_keeps
    | with_reducible apply each_keeps
    | simp only [wf_upd]
    | with_reducible rfl
    | split
    | intro _ _ _
    | intro _ _
    | intro _
    | dsimp only [State.free, id])

theorem mmioMalformed_keeps (fn a : Nat) (write : Bool) : Keeps (mmioMalformed fn a write) := by
  intro s h
  unfold mmioMalformed
  try dsimp only [State.free, id]
  repeat' (first
    | with_reducible assumption
    | with_reducible apply protFault_keeps
    | with_reducible apply mmioDone_keeps
    | simp only [wf_upd]
    | with_reducible rfl
    | split
    | intro _ _ _
    | intro _ _
    | intro _
    | dsimp only [State.free, id])

theorem opLatTol_keeps (fn v : Nat) : Keeps (opLatTol fn v) := by
  intro s h
  unfold opLatTol
  try dsimp only [State.free, id]
  repeat' (first
    | with_reducible assumption
    | with_reducible apply syncTol_keeps
    | with_reducible apply State.wr_keeps
    | simp only [wf_upd]
    | with_reducible rfl
    | split
    | intro _ _ _
    | intro _ _
    | intro _
    | dsimp only [State.free, id])

theorem sendLtr_keeps  : Keeps sendLtr := by
  intro s h
  unfold sendLtr
  try dsimp only [State.free, id]
  repeat' (first
    | with_reducible assumption
    | simp only [wf_upd]
    | with_reducible rfl
    | split
    | intro _ _ _
    | intro _ _
    | intro _
    | dsimp only [State.free, id])

theorem writeLtr_keeps (fn v : Nat) : Keeps (writeLtr fn v) := by
  intro s h
  unfold writeLtr
  try dsimp only [State.free, id]
  repeat' (first
    | with_reducible assumption
    | with_reducible apply postTo_keeps
    | with_reducible apply State.wr_keeps
    | with_reducible apply sendLtr_keeps
    | with_reducible apply onlyIf_keeps
    | simp only [wf_upd]
    | with_reducible rfl
    | split
    | intro _ _ _
    | intro _ _
    | intro _
    | dsimp only [State.free, id])

theorem syncInflight_keeps  : Keeps syncInflight := by
  intro s h
  unfold syncInflight
  try dsimp only [State.free, id]
  repeat' (first
    | with_reducible assumption
    | with_reducible apply State.wr_keeps
    | simp only [wf_upd]
    | with_reducible rfl
    | split
    | intro _ _ _
    | intro _ _
    | intro _
    | dsimp only [State.free, id])

theorem resetCopies_keeps (p : Nat → Bool) : Keeps (resetCopies p) := by
  intro s h
  unfold resetCopies
  rw [State.wf_iff] at h ⊢
  refine ⟨h.1, h.2.1, h.2.2.1, ?_, h.2.2.2.2⟩
  dsimp only
  exact twf_tfilter _ _ h.2.2.2.1

theorem functionsReset_keeps (p : Nat → Bool) : Keeps (functionsReset p) := by
  intro s h
  unfold functionsReset
  try dsimp only [State.free, id]
  repeat' (first
    | with_reducible assumption
    | with_reducible apply checkUngate_keeps
    | with_reducible apply syncTol_keeps
    | with_reducible apply syncInflight_keeps
    | with_reducible apply resetCopies_keeps
    | with_reducible apply each_keeps
    | simp only [wf_upd]
    | with_reducible rfl
    | split
    | intro _ _ _
    | intro _ _
    | intro _
    | dsimp only [State.free, id])

theorem linkDown_keeps  : Keeps linkDown := by
  intro s h
  unfold linkDown
  try dsimp only [State.free, id]
  repeat' (first
    | with_reducible assumption
    | with_reducible apply State.wr_keeps
    | with_reducible apply functionsReset_keeps
    | with_reducible apply each_keeps
    | simp only [wf_upd]
    | with_reducible rfl
    | split
    | intro _ _ _
    | intro _ _
    | intro _
    | dsimp only [State.free, id])

theorem linkUp_keeps (speed width vfs : Nat) (ltr : Bool) : Keeps (linkUp speed width vfs ltr) := by
  intro s h
  unfold linkUp
  try dsimp only [State.free, id]
  repeat' (first
    | with_reducible assumption
    | with_reducible apply State.wr_keeps
    | with_reducible apply sendLtr_keeps
    | with_reducible apply syncTol_keeps
    | simp only [wf_upd]
    | with_reducible rfl
    | split
    | intro _ _ _
    | intro _ _
    | intro _
    | dsimp only [State.free, id])

end Sys2Proof.Machine
end

