-- ==== Sys2Proof/Laws/KeepMgp.lean ====
section
/-! SUPPORT. What the operations of Mgp keep: the canonical form of the memories and of the register file. -/

set_option Elab.async false

set_option linter.unusedSimpArgs false
set_option linter.unusedTactic false
set_option linter.unreachableTactic false

namespace Sys2Proof.Machine

theorem writeMgpCfg_keeps (fn v : Nat) : Keeps (writeMgpCfg fn v) := by
  intro s h
  unfold writeMgpCfg
  try dsimp only [State.free, id]
  repeat' (first
    | with_reducible assumption
    | with_reducible apply postTo_keeps
    | with_reducible apply post_keeps
    | with_reducible apply State.wr_keeps
    | with_reducible apply writeAtDoor_keeps
    | with_reducible apply onlyIf_keeps
    | with_reducible apply each_keeps
    | simp only [wf_upd]
    | with_reducible rfl
    | split
    | intro _ _ _
    | intro _ _
    | intro _
    | dsimp only [State.free, id])

theorem mgpLink_keeps (up : Bool) (speed : Nat) (full : Bool) : Keeps (mgpLink up speed full) := by
  intro s h
  unfold mgpLink
  try dsimp only [State.free, id]
  repeat' (first
    | with_reducible assumption
    | with_reducible apply mgpDown_keeps
    | with_reducible apply State.wr_keeps
    | with_reducible apply calLinkUp_keeps
    | with_reducible apply post_keeps
    | simp only [wf_upd]
    | with_reducible rfl
    | split
    | intro _ _ _
    | intro _ _
    | intro _
    | dsimp only [State.free, id])

theorem writeMdio_keeps (fn v : Nat) : Keeps (writeMdio fn v) := by
  intro s h
  unfold writeMdio
  try dsimp only [State.free, id]
  repeat' (first
    | with_reducible assumption
    | with_reducible apply postTo_keeps
    | with_reducible apply State.wr_keeps
    | with_reducible apply writeAtDoor_keeps
    | simp only [wf_upd]
    | with_reducible rfl
    | split
    | intro _ _ _
    | intro _ _
    | intro _
    | dsimp only [State.free, id])

theorem mdioDone_keeps (d : Nat) : Keeps (mdioDone d) := by
  intro s h
  unfold mdioDone
  try dsimp only [State.free, id]
  repeat' (first
    | with_reducible assumption
    | with_reducible apply State.wr_keeps
    | simp only [wf_upd]
    | with_reducible rfl
    | split
    | intro _ _ _
    | intro _ _
    | intro _
    | dsimp only [State.free, id])

theorem writeMgpRing_keeps (fn d v : Nat) : Keeps (writeMgpRing fn d v) := by
  intro s h
  unfold writeMgpRing
  try dsimp only [State.free, id]
  repeat' (first
    | with_reducible assumption
    | with_reducible apply postTo_keeps
    | with_reducible apply State.wr_keeps
    | with_reducible apply post_keeps
    | with_reducible apply writeAtDoor_keeps
    | with_reducible apply onlyIf_keeps
    | with_reducible apply each_keeps
    | simp only [wf_upd]
    | with_reducible rfl
    | split
    | intro _ _ _
    | intro _ _
    | intro _
    | dsimp only [State.free, id])

theorem writeMgpTail_keeps (fn d v : Nat) : Keeps (writeMgpTail fn d v) := by
  intro s h
  unfold writeMgpTail
  try dsimp only [State.free, id]
  repeat' (first
    | with_reducible assumption
    | with_reducible apply postTo_keeps
    | with_reducible apply post_keeps
    | with_reducible apply State.wr_keeps
    | with_reducible apply writeAtDoor_keeps
    | simp only [wf_upd]
    | with_reducible rfl
    | split
    | intro _ _ _
    | intro _ _
    | intro _
    | dsimp only [State.free, id])

theorem mgpFetch_keeps (d : Nat) : ∀ s : State, s.wf = true → (mgpFetch d s).2.wf = true := by
  intro s h
  unfold mgpFetch
  try dsimp only [State.free, id]
  repeat' (first
    | with_reducible assumption
    | with_reducible apply State.wr_keeps
    | simp only [wf_upd]
    | with_reducible rfl
    | split
    | intro _ _ _
    | intro _ _
    | intro _
    | dsimp only [State.free, id])

theorem mgpComplete_keeps (d : Nat) (o : Octets) : Keeps (mgpComplete d o) := by
  intro s h
  unfold mgpComplete
  try dsimp only [State.free, id]
  repeat' (first
    | with_reducible assumption
    | with_reducible apply dmaWrite_keeps
    | with_reducible apply raiseVec_keeps
    | with_reducible apply State.wr_keeps
    | simp only [wf_upd]
    | with_reducible rfl
    | split
    | intro _ _ _
    | intro _ _
    | intro _
    | dsimp only [State.free, id])

theorem mgpRecord_keeps (d : Nat) (notSent : Bool) (errs tag len x32 : Nat) (c : Int) : Keeps (mgpRecord d notSent errs tag len x32 c) := by
  intro s h
  unfold mgpRecord
  try dsimp only [State.free, id]
  repeat' (first
    | with_reducible assumption
    | with_reducible apply tsrWrite_keeps
    | simp only [wf_upd]
    | with_reducible rfl
    | split
    | intro _ _ _
    | intro _ _
    | intro _
    | dsimp only [State.free, id])

theorem mgpDeliver_keeps (o : Octets) (len errs x32 : Nat) : Keeps (mgpDeliver o len errs x32) := by
  intro s h
  unfold mgpDeliver
  try dsimp only [State.free, id]
  repeat' (first
    | with_reducible assumption
    | refine pair_wf (by with_reducible assumption) ?_
    | with_reducible apply post_keeps
    | with_reducible apply mgpFetch_keeps
    | with_reducible apply mgpRecord_keeps
    | with_reducible apply dmaWrite_keeps
    | with_reducible apply mgpComplete_keeps
    | with_reducible apply onlyIf_keeps
    | simp only [wf_upd]
    | with_reducible rfl
    | split
    | intro _ _ _
    | intro _ _
    | intro _
    | dsimp only [State.free, id])

theorem mgpFrameRx_keeps (x32 : Nat) (o : Octets) (code : Bool) : Keeps (mgpFrameRx x32 o code) := by
  intro s h
  unfold mgpFrameRx
  split
  · exact h
  · extract_lets s1 f maxf s2
    have h1 : s1.wf = true := count_keeps _ _ _ _ (count_keeps _ _ _ s h)
    split
    · exact count_keeps _ _ _ s1 h1
    · have h2 : s2.wf = true := foldl_keeps _ _ (fun _ t ht => onlyIf_keeps _ _ (count_keeps _ _ _) t ht) s1 h1
      clear_value s2
      split
      · exact h2
      · exact mgpDeliver_keeps _ _ _ _ s2 h2

theorem mgpTxDone_keeps (code cause idx frc : Nat) : Keeps (mgpTxDone code cause idx frc) := by
  intro s h
  unfold mgpTxDone
  try dsimp only [State.free, id]
  repeat' (first
    | with_reducible assumption
    | with_reducible apply mgpComplete_keeps
    | with_reducible apply post_keeps
    | with_reducible apply onlyIf_keeps
    | simp only [wf_upd]
    | with_reducible rfl
    | split
    | intro _ _ _
    | intro _ _
    | intro _
    | dsimp only [State.free, id])

theorem mgpSend_keeps (act : Octets) (len idx x32 coll : Nat) (late : Bool) : Keeps (mgpSend act len idx x32 coll late) := by
  intro s h
  unfold mgpSend
  try dsimp only [State.free, id]
  repeat' (first
    | with_reducible assumption
    | with_reducible apply count_keeps
    | with_reducible apply mgpRecord_keeps
    | with_reducible apply mgpTxDone_keeps
    | with_reducible apply onlyIf_keeps
    | simp only [wf_upd]
    | with_reducible rfl
    | split
    | intro _ _ _
    | intro _ _
    | intro _
    | dsimp only [State.free, id])

theorem mgpFrameTx_keeps (x32 coll : Nat) (late deferred : Bool) : Keeps (mgpFrameTx x32 coll late deferred) := by
  intro s h
  unfold mgpFrameTx
  try dsimp only [State.free, id]
  repeat' (first
    | with_reducible assumption
    | refine pair_wf (by with_reducible assumption) ?_
    | with_reducible apply mgpFetch_keeps
    | with_reducible apply mgpTxDone_keeps
    | with_reducible apply poisonUse_keeps
    | with_reducible apply count_keeps
    | with_reducible apply mgpSend_keeps
    | with_reducible apply onlyIf_keeps
    | simp only [wf_upd]
    | with_reducible rfl
    | split
    | intro _ _ _
    | intro _ _
    | intro _
    | dsimp only [State.free, id])

theorem wakeNote_keeps (p : Nat) : Keeps (wakeNote p) := by
  intro s h
  unfold wakeNote
  try dsimp only [State.free, id]
  repeat' (first
    | with_reducible assumption
    | with_reducible apply post_keeps
    | with_reducible apply State.wr_keeps
    | simp only [wf_upd]
    | with_reducible rfl
    | split
    | intro _ _ _
    | intro _ _
    | intro _
    | dsimp only [State.free, id])

end Sys2Proof.Machine
end

