-- ==== Sys2Proof/Laws/KeepGnss.lean ====
section
/-! SUPPORT. What the operations of Gnss keep: the canonical form of the memories and of the register file. -/

set_option Elab.async false

set_option linter.unusedSimpArgs false
set_option linter.unusedTactic false
set_option linter.unreachableTactic false

namespace Sys2Proof.Machine

theorem setGnPortState_keeps (p st : Nat) : Keeps (setGnPortState p st) := by
  intro s h
  unfold setGnPortState
  try dsimp only [State.free, id]
  repeat' (first
    | with_reducible assumption
    | with_reducible apply State.wr_keeps
    | simp only [wf_upd]
    | with_reducible rfl
    | split
    | intro _ _ _
    | intro _ _
    | intro _
    | dsimp only [State.free, id])

theorem setPortEn_keeps (p : Nat) (en : Bool) : Keeps (setPortEn p en) := by
  intro s h
  unfold setPortEn
  try dsimp only [State.free, id]
  repeat' (first
    | with_reducible assumption
    | with_reducible apply setGnPortState_keeps
    | with_reducible apply State.setGnp_keeps
    | with_reducible apply State.wr_keeps
    | simp only [wf_upd]
    | with_reducible rfl
    | split
    | intro _ _ _
    | intro _ _
    | intro _
    | dsimp only [State.free, id])

theorem writeGnPortCfg_keeps (fn p v : Nat) : Keeps (writeGnPortCfg fn p v) := by
  intro s h
  unfold writeGnPortCfg
  try dsimp only [State.free, id]
  repeat' (first
    | with_reducible assumption
    | with_reducible apply postTo_keeps
    | with_reducible apply post_keeps
    | with_reducible apply State.wr_keeps
    | with_reducible apply setPortEn_keeps
    | with_reducible apply writeAtDoor_keeps
    | with_reducible apply onlyIf_keeps
    | simp only [wf_upd]
    | with_reducible rfl
    | split
    | intro _ _ _
    | intro _ _
    | intro _
    | dsimp only [State.free, id])

theorem portLost_keeps (p : Nat) : Keeps (portLost p) := by
  intro s h
  unfold portLost
  try dsimp only [State.free, id]
  repeat' (first
    | with_reducible assumption
    | with_reducible apply post_keeps
    | with_reducible apply setGnPortState_keeps
    | with_reducible apply State.setGnp_keeps
    | with_reducible apply State.setGnc_keeps
    | with_reducible apply setGnState_keeps
    | with_reducible apply snapFail_keeps
    | with_reducible apply each_keeps
    | with_reducible apply onlyIf_keeps
    | simp only [wf_upd]
    | with_reducible rfl
    | split
    | intro _ _ _
    | intro _ _
    | intro _
    | dsimp only [State.free, id])

theorem portStamp_keeps (p x32 largest : Nat) : Keeps (portStamp p x32 largest) := by
  intro s h
  unfold portStamp
  try dsimp only [State.free, id]
  repeat' (first
    | with_reducible assumption
    | with_reducible apply portLost_keeps
    | with_reducible apply State.wr_keeps
    | with_reducible apply State.setGnp_keeps
    | with_reducible apply setGnPortState_keeps
    | simp only [wf_upd]
    | with_reducible rfl
    | split
    | intro _ _ _
    | intro _ _
    | intro _
    | dsimp only [State.free, id])

theorem engineNext_keeps  : Keeps engineNext := by
  intro s h
  unfold engineNext
  try dsimp only [State.free, id]
  repeat' (first
    | with_reducible assumption
    | with_reducible apply syncAcq_keeps
    | simp only [wf_upd]
    | with_reducible rfl
    | split
    | intro _ _ _
    | intro _ _
    | intro _
    | dsimp only [State.free, id])

theorem acqSubmit_keeps (w : Win) : Keeps (acqSubmit w) := by
  intro s h
  unfold acqSubmit
  try dsimp only [State.free, id]
  repeat' (first
    | with_reducible assumption
    | with_reducible apply refuse_keeps
    | with_reducible apply engineNext_keeps
    | with_reducible apply completeOk_keeps
    | with_reducible apply State.wr_keeps
    | simp only [wf_upd]
    | with_reducible rfl
    | split
    | intro _ _ _
    | intro _ _
    | intro _
    | dsimp only [State.free, id])

theorem opGnAcq_keeps (w : Win) (op : Nat) : Keeps (opGnAcq w op) := by
  intro s h
  unfold opGnAcq
  try dsimp only [State.free, id]
  repeat' (first
    | with_reducible assumption
    | with_reducible apply refuse_keeps
    | with_reducible apply acqSubmit_keeps
    | with_reducible apply completeOk_keeps
    | with_reducible apply engineNext_keeps
    | with_reducible apply command_keeps
    | simp only [wf_upd]
    | with_reducible rfl
    | split
    | intro _ _ _
    | intro _ _
    | intro _
    | dsimp only [State.free, id])

theorem gnStart_keeps (c g prn code : Nat) (dop : Int) (x32 : Nat) (s t : State) (h : s.wf = true)
    (e : gnStart c g prn code dop x32 s = some t) : t.wf = true := by
  unfold gnStart at e
  extract_lets at e
  split at e
  · cases e
  · cases e
    exact State.setGnc_keeps _ _ s h

theorem setTow_keeps (c ms epoch week : Nat) (s t : State) (h : s.wf = true) (e : setTow c ms epoch week s = some t) : t.wf = true := by
  unfold setTow at e
  extract_lets at e
  split at e
  · cases e
  · cases e
    exact setGnFlag_keeps _ _ _ _ (State.setGnc_keeps _ _ s h)

theorem opGnCh_keeps (w : Win) (op : Nat) : Keeps (opGnCh w op) := by
  intro s h
  unfold opGnCh
  refine command_keeps _ _ _ _ _ ?_ s h
  intro s h
  dsimp only
  split
  · exact refuse_keeps _ _ _ s h
  · split
    · rename_i t e
      refine completeOk_keeps _ _ t ?_
      split at e
      · exact gnStart_keeps _ _ _ _ _ _ _ _ h e
      · cases e
        exact gnStop_keeps _ s h
      · exact setTow_keeps _ _ _ _ _ _ h e
      · cases e
    · exact refuse_keeps _ _ _ s h

theorem chStartEpoch_keeps (c : Nat) : Keeps (chStartEpoch c) := by
  intro s h
  unfold chStartEpoch
  try dsimp only [State.free, id]
  repeat' (first
    | with_reducible assumption
    | with_reducible apply portLost_keeps
    | with_reducible apply State.setGnc_keeps
    | with_reducible apply State.wr_keeps
    | with_reducible apply setGnState_keeps
    | simp only [wf_upd]
    | with_reducible rfl
    | split
    | intro _ _ _
    | intro _ _
    | intro _
    | dsimp only [State.free, id])

theorem acqPrnDone_keeps (x32 p1 p2 noise code dop : Nat) : Keeps (acqPrnDone x32 p1 p2 noise code dop) := by
  intro s h
  unfold acqPrnDone
  extract_lets wr young
  split
  · split
    · split
      · exact h
      · extract_lets det want ch started noCh t flags rec_ t2 j' x0 t3
        have ht : t.wf = true := by
          show (match started with | some (_, t) => t | none => s : State).wf = true
          cases e : started with
          | some p =>
            obtain ⟨c, -, e1⟩ := Option.bind_eq_some_iff.1 e
            obtain ⟨v, e3, e2⟩ := Option.map_eq_some_iff.1 e1
            cases e2
            exact gnStart_keeps _ _ _ _ _ _ _ _ h e3
          | none => exact h
        have h2 : t2.wf = true := State.wr_keeps _ _ _ _ (State.shmWrite_keeps _ _ t ht)
        have h3 : t3.wf = true := by simpa only [t3, wf_upd] using h2
        exact onlyIf_keeps _ _ (post_keeps _ _) t3 h3
    · exact h
  · exact h

theorem acqJobDone_keeps  : Keeps acqJobDone := by
  intro s h
  unfold acqJobDone
  try dsimp only [State.free, id]
  repeat' (first
    | with_reducible assumption
    | with_reducible apply engineNext_keeps
    | with_reducible apply post_keeps
    | simp only [wf_upd]
    | with_reducible rfl
    | split
    | intro _ _ _
    | intro _ _
    | intro _
    | dsimp only [State.free, id])

theorem ssFinish_keeps (code dop ratio : Nat) : Keeps (ssFinish code dop ratio) := by
  intro s h
  unfold ssFinish
  try dsimp only [State.free, id]
  repeat' (first
    | with_reducible assumption
    | with_reducible apply State.wr_keeps
    | with_reducible apply post_keeps
    | simp only [wf_upd]
    | with_reducible rfl
    | split
    | intro _ _ _
    | intro _ _
    | intro _
    | dsimp only [State.free, id])

theorem ssStart_keeps  : Keeps ssStart := by
  intro s h
  unfold ssStart
  try dsimp only [State.free, id]
  repeat' (first
    | with_reducible assumption
    | with_reducible apply State.wr_keeps
    | simp only [wf_upd]
    | with_reducible rfl
    | split
    | intro _ _ _
    | intro _ _
    | intro _
    | dsimp only [State.free, id])

theorem writeSsCmd_keeps (fn : Nat) (start abort : Bool) (code dop ratio : Nat) : Keeps (writeSsCmd fn start abort code dop ratio) := by
  intro s h
  unfold writeSsCmd
  try dsimp only [State.free, id]
  repeat' (first
    | with_reducible assumption
    | with_reducible apply postTo_keeps
    | with_reducible apply ssFinish_keeps
    | with_reducible apply ssStart_keeps
    | with_reducible apply writeAtDoor_keeps
    | with_reducible apply onlyIf_keeps
    | simp only [wf_upd]
    | with_reducible rfl
    | split
    | intro _ _ _
    | intro _ _
    | intro _
    | dsimp only [State.free, id])

theorem ssDone_keeps (code dop ratio : Nat) : Keeps (ssDone code dop ratio) := by
  intro s h
  unfold ssDone
  try dsimp only [State.free, id]
  repeat' (first
    | with_reducible assumption
    | with_reducible apply ssFinish_keeps
    | simp only [wf_upd]
    | with_reducible rfl
    | split
    | intro _ _ _
    | intro _ _
    | intro _
    | dsimp only [State.free, id])

theorem submitUpd_keeps (c v : Nat) : Keeps (submitUpd c v) := by
  intro s h
  unfold submitUpd
  try dsimp only [State.free, id]
  repeat' (first
    | with_reducible assumption
    | with_reducible apply State.wr_keeps
    | with_reducible apply State.setGnc_keeps
    | with_reducible apply post_keeps
    | simp only [wf_upd]
    | with_reducible rfl
    | split
    | intro _ _ _
    | intro _ _
    | intro _
    | dsimp only [State.free, id])

theorem writeUpdCtrl_keeps (fn c v : Nat) : Keeps (writeUpdCtrl fn c v) := by
  intro s h
  unfold writeUpdCtrl
  try dsimp only [State.free, id]
  repeat' (first
    | with_reducible assumption
    | with_reducible apply postTo_keeps
    | with_reducible apply submitUpd_keeps
    | with_reducible apply writeAtDoor_keeps
    | simp only [wf_upd]
    | with_reducible rfl
    | split
    | intro _ _ _
    | intro _ _
    | intro _
    | dsimp only [State.free, id])

theorem applyUpd_keeps (c : Nat) (u : GnUpd) : Keeps (applyUpd c u) := by
  intro s h
  unfold applyUpd
  extract_lets x carrOn was x' t0 t1 t2 locked st
  have h0 : t0.wf = true := setGnFlag_keeps _ _ _ _ (setGnFlag_keeps _ _ _ _ (setGnFlag_keeps _ _ _ _ (setGnFlag_keeps _ _ _ _
    (State.setGnc_keeps _ _ s h))))
  have h1 : t1.wf = true := onlyIf_keeps _ _ (setGnFlag_keeps _ _ _) t0 h0
  have h2 : t2.wf = true := onlyIf_keeps _ _ (fun t ht => State.wr_keeps _ _ _ t ht) t1 h1
  clear_value t2
  repeat' (first
    | with_reducible assumption
    | with_reducible apply setGnState_keeps
    | split)

theorem missUpd_keeps (c : Nat) : Keeps (missUpd c) := by
  intro s h
  unfold missUpd
  try dsimp only [State.free, id]
  repeat' (first
    | with_reducible assumption
    | with_reducible apply State.setGnc_keeps
    | with_reducible apply setGnState_keeps
    | with_reducible apply State.wr_keeps
    | simp only [wf_upd]
    | with_reducible rfl
    | split
    | intro _ _ _
    | intro _ _
    | intro _
    | dsimp only [State.free, id])

theorem dumpEvent_keeps (c : Nat) : Keeps (dumpEvent c) := by
  intro s h
  unfold dumpEvent
  try dsimp only [State.free, id]
  repeat' (first
    | with_reducible assumption
    | with_reducible apply postReach_keeps
    | simp only [wf_upd]
    | with_reducible rfl
    | split
    | intro _ _ _
    | intro _ _
    | intro _
    | dsimp only [State.free, id])

theorem intBoundary_keeps (c : Nat) (taps : List (BitVec 32)) : Keeps (intBoundary c taps) := by
  intro s h
  unfold intBoundary
  extract_lets x end_ y ms flags dump t0 pw t1 t2 t3 t4 z n lockS
  split
  · exact h
  · have h0 : t0.wf = true := State.shmWrite_keeps _ _ s h
    have h1 : t1.wf = true := State.setGnc_keeps _ _ t0 h0
    have h2 : t2.wf = true := State.wr_keeps _ _ _ t1 h1
    have h3 : t3.wf = true := dumpEvent_keeps c t2 h2
    have h4 : t4.wf = true := by
      show (match (t3.gnc c).upd with
        | some u => if ((u.at_ + 64 : Nat) : Rat) ≤ end_ then applyUpd c u t3 else missUpd c t3
        | none => missUpd c t3 : State).wf = true
      split
      · split
        · exact applyUpd_keeps _ _ t3 h3
        · exact missUpd_keeps _ t3 h3
      · exact missUpd_keeps _ t3 h3
    exact State.wr_keeps _ _ _ _ (State.wr_keeps _ _ _ _ (State.setGnc_keeps _ _ t4 h4))

theorem coastExpiry_keeps (c : Nat) : Keeps (coastExpiry c) := by
  intro s h
  unfold coastExpiry
  try dsimp only [State.free, id]
  repeat' (first
    | with_reducible assumption
    | with_reducible apply setGnState_keeps
    | simp only [wf_upd]
    | with_reducible rfl
    | split
    | intro _ _ _
    | intro _ _
    | intro _
    | dsimp only [State.free, id])

theorem sampleIndex_keeps (p tick : Nat) : ∀ s : State, s.wf = true → (sampleIndex p tick s).2.wf = true := by
  intro s h
  unfold sampleIndex
  try dsimp only [State.free, id]
  repeat' (first
    | with_reducible assumption
    | refine pair_wf (by with_reducible assumption) ?_
    | with_reducible apply State.free_keeps
    | simp only [wf_upd]
    | with_reducible rfl
    | split
    | intro _ _ _
    | intro _ _
    | intro _
    | dsimp only [State.free, id])

theorem measLatch_keeps (latch : Nat) : Keeps (measLatch latch) := by
  intro s h
  unfold measLatch
  try dsimp only [State.free, id]
  repeat' (first
    | with_reducible assumption
    | refine pair_wf (by with_reducible assumption) ?_
    | with_reducible apply post_keeps
    | with_reducible apply State.wr_keeps
    | with_reducible apply sampleIndex_keeps
    | with_reducible apply State.shmWrite_keeps
    | with_reducible apply State.setGnc_keeps
    | with_reducible apply each_keeps
    | simp only [wf_upd]
    | with_reducible rfl
    | split
    | intro _ _ _
    | intro _ _
    | intro _
    | dsimp only [State.free, id])

end Sys2Proof.Machine
end

