-- ==== Sys2Proof/Laws/KeepSynth.lean ====
section
/-! SUPPORT. What the operations of Synth keep: the canonical form of the memories and of the register file. -/

set_option Elab.async false

set_option linter.unusedSimpArgs false
set_option linter.unusedTactic false
set_option linter.unreachableTactic false

namespace Sys2Proof.Machine

theorem writeShadow_keeps (g : Nat) (f : FieldRef) (v : Nat) : Keeps (writeShadow g f v) := by
  intro s h
  unfold writeShadow
  try dsimp only [State.free, id]
  repeat' (first
    | with_reducible assumption
    | with_reducible apply State.wr_keeps
    | simp only [wf_upd]
    | with_reducible rfl
    | split
    | intro _ _ _
    | intro _ _
    | intro _
    | dsimp only [State.free, id])

theorem commitKey_keeps (k : Nat) : Keeps (commitKey k) := by
  intro s h
  unfold commitKey
  rw [State.wf_iff] at h ⊢
  refine ⟨h.1, h.2.1, h.2.2.1, h.2.2.2.1, ?_⟩
  dsimp only
  split
  · exact twf_tset _ _ _ h.2.2.2.2
  · exact twf_tdel _ _ h.2.2.2.2

theorem State.setSyn_keeps (k : Nat) (y : SynK) : Keeps (State.setSyn k y) := by
  intro s h
  unfold State.setSyn
  try dsimp only [State.free, id]
  repeat' (first
    | with_reducible assumption
    | simp only [wf_upd]
    | with_reducible rfl
    | split
    | intro _ _ _
    | intro _ _
    | intro _
    | dsimp only [State.free, id])

theorem synRate_keeps (k tick : Nat) (r : Int) : Keeps (synRate k tick r) := by
  intro s h
  unfold synRate
  try dsimp only [State.free, id]
  repeat' (first
    | with_reducible assumption
    | with_reducible apply State.setSyn_keeps
    | simp only [wf_upd]
    | with_reducible rfl
    | split
    | intro _ _ _
    | intro _ _
    | intro _
    | dsimp only [State.free, id])

theorem syncSyn_keeps  : Keeps syncSyn := by
  intro s h
  unfold syncSyn
  try dsimp only [State.free, id]
  repeat' (first
    | with_reducible assumption
    | with_reducible refine foldl_keeps _ _ (fun _ _ _ => ?_) _ ?_
    | with_reducible refine foldlPair_keeps _ _ (fun _ _ _ => ?_) _ ?_
    | with_reducible apply State.wr_keeps
    | simp only [wf_upd]
    | with_reducible rfl
    | split
    | intro _ _ _
    | intro _ _
    | intro _
    | dsimp only [State.free, id])

theorem setSynState_keeps (k st : Nat) : Keeps (setSynState k st) := by
  intro s h
  unfold setSynState
  try dsimp only [State.free, id]
  repeat' (first
    | with_reducible assumption
    | with_reducible apply syncSyn_keeps
    | with_reducible apply State.wr_keeps
    | simp only [wf_upd]
    | with_reducible rfl
    | split
    | intro _ _ _
    | intro _ _
    | intro _
    | dsimp only [State.free, id])

theorem syncClk_keeps (n : Nat) : Keeps (syncClk n) := by
  intro s h
  unfold syncClk
  try dsimp only [State.free, id]
  repeat' (first
    | with_reducible assumption
    | with_reducible apply State.wr_keeps
    | simp only [wf_upd]
    | with_reducible rfl
    | split
    | intro _ _ _
    | intro _ _
    | intro _
    | dsimp only [State.free, id])

theorem stopFed_keeps (k : Nat) : Keeps (stopFed k) := by
  intro s h
  unfold stopFed
  try dsimp only [State.free, id]
  repeat' (first
    | with_reducible assumption
    | with_reducible apply syncDriving_keeps
    | with_reducible apply syncClk_keeps
    | with_reducible apply State.setClk_keeps
    | with_reducible apply each_keeps
    | simp only [wf_upd]
    | with_reducible rfl
    | split
    | intro _ _ _
    | intro _ _
    | intro _
    | dsimp only [State.free, id])

theorem startRetune_keeps (k tick : Nat) : Keeps (startRetune k tick) := by
  intro s h
  unfold startRetune
  try dsimp only [State.free, id]
  repeat' (first
    | with_reducible assumption
    | with_reducible apply stopFed_keeps
    | with_reducible apply State.setSyn_keeps
    | with_reducible apply setSynState_keeps
    | with_reducible apply State.wr_keeps
    | simp only [wf_upd]
    | with_reducible rfl
    | split
    | intro _ _ _
    | intro _ _
    | intro _
    | dsimp only [State.free, id])

theorem startFed_keeps (k : Nat) : Keeps (startFed k) := by
  intro s h
  unfold startFed
  try dsimp only [State.free, id]
  repeat' (first
    | with_reducible assumption
    | with_reducible apply syncDriving_keeps
    | with_reducible apply syncClk_keeps
    | with_reducible apply State.setClk_keeps
    | with_reducible apply each_keeps
    | simp only [wf_upd]
    | with_reducible rfl
    | split
    | intro _ _ _
    | intro _ _
    | intro _
    | dsimp only [State.free, id])

theorem memoStore_keeps (k key band : Nat) : Keeps (memoStore k key band) := by
  intro s h
  unfold memoStore
  try dsimp only [State.free, id]
  repeat' (first
    | with_reducible assumption
    | with_reducible apply State.setSyn_keeps
    | with_reducible apply post_keeps
    | with_reducible apply State.wr_keeps
    | simp only [wf_upd]
    | with_reducible rfl
    | split
    | intro _ _ _
    | intro _ _
    | intro _
    | dsimp only [State.free, id])

theorem synLock_keeps (k band : Nat) : Keeps (synLock k band) := by
  intro s h
  unfold synLock
  try dsimp only [State.free, id]
  repeat' (first
    | with_reducible assumption
    | with_reducible apply State.setSyn_keeps
    | with_reducible apply startFed_keeps
    | with_reducible apply post_keeps
    | with_reducible apply setSynState_keeps
    | with_reducible apply State.wr_keeps
    | simp only [wf_upd]
    | with_reducible rfl
    | split
    | intro _ _ _
    | intro _ _
    | intro _
    | dsimp only [State.free, id])

theorem retuneLocked_keeps (k band : Nat) : Keeps (retuneLocked k band) := by
  intro s h
  unfold retuneLocked
  try dsimp only [State.free, id]
  repeat' (first
    | with_reducible assumption
    | with_reducible apply State.setSyn_keeps
    | with_reducible apply synLock_keeps
    | with_reducible apply State.wr_keeps
    | with_reducible apply memoStore_keeps
    | simp only [wf_upd]
    | with_reducible rfl
    | split
    | intro _ _ _
    | intro _ _
    | intro _
    | dsimp only [State.free, id])

theorem retuneTimeout_keeps (k : Nat) : Keeps (retuneTimeout k) := by
  intro s h
  unfold retuneTimeout
  try dsimp only [State.free, id]
  repeat' (first
    | with_reducible assumption
    | with_reducible apply post_keeps
    | with_reducible apply State.setSyn_keeps
    | with_reducible apply setSynState_keeps
    | with_reducible apply State.wr_keeps
    | simp only [wf_upd]
    | with_reducible rfl
    | split
    | intro _ _ _
    | intro _ _
    | intro _
    | dsimp only [State.free, id])

theorem synthLockLoss_keeps (k : Nat) : Keeps (synthLockLoss k) := by
  intro s h
  unfold synthLockLoss
  try dsimp only [State.free, id]
  repeat' (first
    | with_reducible assumption
    | with_reducible apply raise_keeps
    | with_reducible apply stopFed_keeps
    | with_reducible apply State.setSyn_keeps
    | with_reducible apply setSynState_keeps
    | with_reducible apply State.wr_keeps
    | with_reducible apply post_keeps
    | simp only [wf_upd]
    | with_reducible rfl
    | split
    | intro _ _ _
    | intro _ _
    | intro _
    | dsimp only [State.free, id])

theorem lostRetry_keeps (k : Nat) : Keeps (lostRetry k) := by
  intro s h
  unfold lostRetry
  try dsimp only [State.free, id]
  repeat' (first
    | with_reducible assumption
    | with_reducible apply startRetune_keeps
    | simp only [wf_upd]
    | with_reducible rfl
    | split
    | intro _ _ _
    | intro _ _
    | intro _
    | dsimp only [State.free, id])

theorem writeMemoSel_keeps (w : Win) (v : Nat) : Keeps (writeMemoSel w v) := by
  intro s h
  unfold writeMemoSel
  try dsimp only [State.free, id]
  repeat' (first
    | with_reducible assumption
    | with_reducible apply postTo_keeps
    | with_reducible apply State.wr_keeps
    | with_reducible apply writeAtDoor_keeps
    | simp only [wf_upd]
    | with_reducible rfl
    | split
    | intro _ _ _
    | intro _ _
    | intro _
    | dsimp only [State.free, id])

theorem memoCmd_keeps (w : Win) (f : MemoEntry → MemoEntry) : Keeps (memoCmd w f) := by
  intro s h
  unfold memoCmd
  try dsimp only [State.free, id]
  repeat' (first
    | with_reducible assumption
    | with_reducible apply postTo_keeps
    | with_reducible apply State.setSyn_keeps
    | with_reducible apply writeAtDoor_keeps
    | simp only [wf_upd]
    | with_reducible rfl
    | split
    | intro _ _ _
    | intro _ _
    | intro _
    | dsimp only [State.free, id])

theorem applyChange_keeps (n : Nat) (t : Rat) (restart : Option Rat) : Keeps (applyChange n t restart) := by
  intro s h
  unfold applyChange
  try dsimp only [State.free, id]
  repeat' (first
    | with_reducible assumption
    | with_reducible apply syncDriving_keeps
    | with_reducible apply syncClk_keeps
    | with_reducible apply State.setClk_keeps
    | simp only [wf_upd]
    | with_reducible rfl
    | split
    | intro _ _ _
    | intro _ _
    | intro _
    | dsimp only [State.free, id])

theorem outputChangeApply_keeps (n : Nat) : Keeps (outputChangeApply n) := by
  intro s h
  unfold outputChangeApply
  try dsimp only [State.free, id]
  repeat' (first
    | with_reducible assumption
    | with_reducible apply applyChange_keeps
    | simp only [wf_upd]
    | with_reducible rfl
    | split
    | intro _ _ _
    | intro _ _
    | intro _
    | dsimp only [State.free, id])

theorem dividerRestart_keeps (g k : Nat) : Keeps (dividerRestart g k) := by
  intro s h
  unfold dividerRestart
  try dsimp only [State.free, id]
  repeat' (first
    | with_reducible assumption
    | with_reducible refine foldl_keeps _ _ (fun _ _ _ => ?_) _ ?_
    | with_reducible refine foldlPair_keeps _ _ (fun _ _ _ => ?_) _ ?_
    | with_reducible apply applyChange_keeps
    | with_reducible apply each_keeps
    | simp only [wf_upd]
    | with_reducible rfl
    | split
    | intro _ _ _
    | intro _ _
    | intro _
    | dsimp only [State.free, id])

theorem delayReached_keeps (n : Nat) : Keeps (delayReached n) := by
  intro s h
  unfold delayReached
  try dsimp only [State.free, id]
  repeat' (first
    | with_reducible assumption
    | with_reducible apply syncClk_keeps
    | with_reducible apply State.setClk_keeps
    | simp only [wf_upd]
    | with_reducible rfl
    | split
    | intro _ _ _
    | intro _ _
    | intro _
    | dsimp only [State.free, id])

theorem commitFields_keeps (g : Nat) (fs : List FieldRef) : Keeps (commitFields g fs) := by
  intro s h
  unfold commitFields
  try dsimp only [State.free, id]
  repeat' (first
    | with_reducible assumption
    | with_reducible apply commitKey_keeps
    | with_reducible apply each_keeps
    | simp only [wf_upd]
    | with_reducible rfl
    | split
    | intro _ _ _
    | intro _ _
    | intro _
    | dsimp only [State.free, id])

theorem dropFields_keeps (g : Nat) (fs : List FieldRef) : Keeps (dropFields g fs) := by
  intro s h
  unfold dropFields
  try dsimp only [State.free, id]
  repeat' (first
    | with_reducible assumption
    | with_reducible apply dropKey_keeps
    | with_reducible apply each_keeps
    | simp only [wf_upd]
    | with_reducible rfl
    | split
    | intro _ _ _
    | intro _ _
    | intro _
    | dsimp only [State.free, id])

theorem commitSyn_keeps (g tick k : Nat) : ∀ s : State, s.wf = true → (commitSyn g tick k s).2.wf = true := by
  intro s h
  unfold commitSyn
  try dsimp only [State.free, id]
  repeat' (first
    | with_reducible assumption
    | with_reducible apply post_keeps
    | with_reducible apply dropFields_keeps
    | with_reducible apply commitFields_keeps
    | with_reducible apply setSynState_keeps
    | with_reducible apply stopFed_keeps
    | with_reducible apply startRetune_keeps
    | with_reducible apply State.wr_keeps
    | simp only [wf_upd]
    | with_reducible rfl
    | split
    | intro _ _ _
    | intro _ _
    | intro _
    | dsimp only [State.free, id])

theorem commitClk_keeps (g tick : Nat) (align : Bool) (n : Nat) : ∀ s : State, s.wf = true → (commitClk g tick align n s).2.wf = true := by
  intro s h
  unfold commitClk
  try dsimp only [State.free, id]
  repeat' (first
    | with_reducible assumption
    | with_reducible apply post_keeps
    | with_reducible apply dropFields_keeps
    | with_reducible apply commitFields_keeps
    | with_reducible apply syncDriving_keeps
    | with_reducible apply syncClk_keeps
    | with_reducible apply State.setClk_keeps
    | with_reducible apply State.wr_keeps
    | simp only [wf_upd]
    | with_reducible rfl
    | split
    | intro _ _ _
    | intro _ _
    | intro _
    | dsimp only [State.free, id])

end Sys2Proof.Machine
end

