-- ==== Sys2Proof/Laws/KeepOutputs.lean ====
section
/-! SUPPORT. What the operations of Outputs keep: the canonical form of the memories and of the register file. -/

set_option Elab.async false

set_option linter.unusedSimpArgs false
set_option linter.unusedTactic false
set_option linter.unreachableTactic false

namespace Sys2Proof.Machine

theorem poStoreLimits_keeps (n : Nat) : Keeps (poStoreLimits n) := by
  intro s h
  unfold poStoreLimits
  try dsimp only [State.free, id]
  repeat' (first
    | with_reducible assumption
    | with_reducible apply State.wrBoth_keeps
    | simp only [wf_upd]
    | with_reducible rfl
    | split
    | intro _ _ _
    | intro _ _
    | intro _
    | dsimp only [State.free, id])

theorem poRealign_keeps (n tick : Nat) (v : PoVals) : Keeps (poRealign n tick v) := by
  intro s h
  unfold poRealign
  extract_lets p0 p cab x1 half x2 t0 t
  have h0 : t0.wf = true := State.setPo_keeps _ _ s h
  have ht : t.wf = true := by
    show (if _ then _ else _ : State).wf = true
    split
    · exact State.wr_keeps _ _ _ _ h0
    · exact h0
  exact syncMisalign_keeps n t ht

theorem commitPo_keeps (g tick n : Nat) : Keeps (commitPo g tick n) := by
  intro s h
  unfold commitPo
  try dsimp only [State.free, id]
  repeat' (first
    | with_reducible assumption
    | with_reducible apply poStoreLimits_keeps
    | with_reducible apply commitFields_keeps
    | with_reducible apply State.wrBoth_keeps
    | with_reducible apply syncMisalign_keeps
    | with_reducible apply State.setPo_keeps
    | with_reducible apply poRealign_keeps
    | with_reducible apply syncDriving_keeps
    | with_reducible apply State.wr_keeps
    | simp only [wf_upd]
    | with_reducible rfl
    | split
    | intro _ _ _
    | intro _ _
    | intro _
    | dsimp only [State.free, id])

theorem todSchedule_keeps (src tick : Nat) (target : Int) (leap : Bool) : Keeps (todSchedule src tick target leap) := by
  intro s h
  unfold todSchedule
  try dsimp only [State.free, id]
  repeat' (first
    | with_reducible assumption
    | with_reducible apply each_keeps
    | simp only [wf_upd]
    | with_reducible rfl
    | split
    | intro _ _ _
    | intro _ _
    | intro _
    | dsimp only [State.free, id])

theorem pulseEmit_keeps (n tick : Nat) : Keeps (pulseEmit n tick) := by
  intro s h
  unfold pulseEmit
  try dsimp only [State.free, id]
  repeat' (first
    | with_reducible assumption
    | with_reducible apply State.setPo_keeps
    | with_reducible apply State.wr64_keeps
    | with_reducible apply post_keeps
    | with_reducible apply todSchedule_keeps
    | with_reducible apply State.wr_keeps
    | with_reducible apply onlyIf_keeps
    | simp only [wf_upd]
    | with_reducible rfl
    | split
    | intro _ _ _
    | intro _ _
    | intro _
    | dsimp only [State.free, id])

theorem todSkip_keeps (j : Nat) : Keeps (todSkip j) := by
  intro s h
  unfold todSkip
  try dsimp only [State.free, id]
  repeat' (first
    | with_reducible assumption
    | with_reducible apply post_keeps
    | with_reducible apply State.wr_keeps
    | simp only [wf_upd]
    | with_reducible rfl
    | split
    | intro _ _ _
    | intro _ _
    | intro _
    | dsimp only [State.free, id])

theorem todSend_keeps (source : State → Nat → Nat → Option TodSource) (frame : State → Nat → Nat → Nat → TodSource → Octets) (j : Nat) : Keeps (todSend source frame j) := by
  intro s h
  unfold todSend
  try dsimp only [State.free, id]
  repeat' (first
    | with_reducible assumption
    | with_reducible apply todSkip_keeps
    | with_reducible apply State.wr_keeps
    | simp only [wf_upd]
    | with_reducible rfl
    | split
    | intro _ _ _
    | intro _ _
    | intro _
    | dsimp only [State.free, id])

theorem writeCgCtrl_keeps (fn g v : Nat) : Keeps (writeCgCtrl fn g v) := by
  intro s h
  unfold writeCgCtrl
  try dsimp only [State.free, id]
  repeat' (first
    | with_reducible assumption
    | with_reducible apply postTo_keeps
    | with_reducible apply post_keeps
    | with_reducible apply State.wr_keeps
    | with_reducible apply cgDrop_keeps
    | with_reducible apply setArm_keeps
    | with_reducible apply writeAtDoor_keeps
    | simp only [wf_upd]
    | with_reducible rfl
    | split
    | intro _ _ _
    | intro _ _
    | intro _
    | dsimp only [State.free, id])

theorem synCommit_keeps (g tick : Nat) : Keeps (synCommit g tick) := by
  intro s h
  unfold synCommit
  extract_lets align outs absent s1
  have h1 : s1.wf = true := by
    show (if _ then _ else _ : State).wf = true
    split
    · exact h
    · exact each_keeps _ _ (fun _ => dropFields_keeps _ _) s h
  clear_value s1
  have h2 := foldlPair_keeps (List.range 6) (fun (a : Bool × State) k => let r := commitSyn g tick k a.2; (a.1 || r.1, r.2))
    (fun k r hr => commitSyn_keeps g tick k r.2 hr) (absent, s1) h1
  split
  rename_i p1 s2 e1
  rw [e1] at h2
  have h3 := foldlPair_keeps (List.range 20) (fun (a : Bool × State) n => let r := commitClk g tick align n a.2; (a.1 || r.1, r.2))
    (fun n r hr => commitClk_keeps g tick align n r.2 hr) (p1, s2) h2
  split
  rename_i p2 s3 e2
  rw [e2] at h3
  have h4 := each_keeps (List.range 8) (commitPo g tick) (commitPo_keeps g tick) s3 h3
  dsimp only
  refine onlyIf_keeps _ _ (postAt_keeps _ _ _ _) _ (postAt_keeps _ _ _ _ _ ?_)
  repeat' (first
    | with_reducible assumption
    | with_reducible apply State.wr_keeps
    | with_reducible apply dropArm_keeps)

end Sys2Proof.Machine
end

