-- ==== Sys2Proof/Laws/KeepGnInteg.lean ====
section
/-! SUPPORT. What the operations of GnInteg keep: the canonical form of the memories and of the register file. -/

set_option Elab.async false

set_option linter.unusedSimpArgs false
set_option linter.unusedTactic false
set_option linter.unreachableTactic false

namespace Sys2Proof.Machine

theorem setSolState_keeps (st : Nat) : Keeps (setSolState st) := by
  intro s h
  unfold setSolState
  try dsimp only [State.free, id]
  repeat' (first
    | with_reducible assumption
    | with_reducible apply post_keeps
    | with_reducible apply State.wr_keeps
    | simp only [wf_upd]
    | with_reducible rfl
    | split
    | intro _ _ _
    | intro _ _
    | intro _
    | dsimp only [State.free, id])

theorem deliver_keeps (latch : Nat) (fit : GnFit) (l : List GnPair) (sys : List Nat) : Keeps (deliver latch fit l sys) := by
  intro s h
  unfold deliver
  try dsimp only [State.free, id]
  repeat' (first
    | with_reducible assumption
    | with_reducible apply State.wr_keeps
    | with_reducible apply State.wr64_keeps
    | with_reducible apply syncSlotBound_keeps
    | with_reducible apply refEdgeStamp_keeps
    | with_reducible apply setSolState_keeps
    | simp only [wf_upd]
    | with_reducible rfl
    | split
    | intro _ _ _
    | intro _ _
    | intro _
    | dsimp only [State.free, id])

theorem decideIntegrity_keeps (latch : Nat) (sol : Option (GnFit × List GnPair × List Nat)) (excluded : Bool) : Keeps (decideIntegrity latch sol excluded) := by
  intro s h
  unfold decideIntegrity
  try dsimp only [State.free, id]
  repeat' (first
    | with_reducible assumption
    | with_reducible apply setIntegrity_keeps
    | simp only [wf_upd]
    | with_reducible rfl
    | split
    | intro _ _ _
    | intro _ _
    | intro _
    | dsimp only [State.free, id])

theorem timeSolution_keeps (latch : Nat) (pairs : List GnPair) (first second : GnFit) : Keeps (timeSolution latch pairs first second) := by
  intro s h
  unfold timeSolution
  try dsimp only [State.free, id]
  repeat' (first
    | with_reducible assumption
    | with_reducible apply decideIntegrity_keeps
    | with_reducible apply setSolState_keeps
    | with_reducible apply post_keeps
    | with_reducible apply State.wr_keeps
    | with_reducible apply deliver_keeps
    | with_reducible apply onlyIf_keeps
    | simp only [wf_upd]
    | with_reducible rfl
    | split
    | intro _ _ _
    | intro _ _
    | intro _
    | dsimp only [State.free, id])

theorem surveyDone_keeps (x y z : Nat) : Keeps (surveyDone x y z) := by
  intro s h
  unfold surveyDone
  try dsimp only [State.free, id]
  repeat' (first
    | with_reducible assumption
    | with_reducible apply State.wr64_keeps
    | with_reducible apply post_keeps
    | with_reducible apply State.wr_keeps
    | simp only [wf_upd]
    | with_reducible rfl
    | split
    | intro _ _ _
    | intro _ _
    | intro _
    | dsimp only [State.free, id])

theorem spPassDue_keeps : Keeps spPassDue := by
  intro s h
  unfold spPassDue
  split
  · exact h
  · extract_lets x0 t x1
    have ht : t.wf = true := wf_of_eq h rfl rfl rfl rfl rfl
    clear_value t
    split
    · exact State.wr_keeps _ _ _ t ht
    · exact engineNext_keeps _ (wf_of_eq ht rfl rfl rfl rfl rfl)

theorem spResult_keeps (tick : Nat) (r : SpResult) : Keeps (spResult tick r) := by
  intro s h
  unfold spResult
  try dsimp only [State.free, id]
  repeat' (first
    | with_reducible assumption
    | with_reducible apply hits_keeps
    | with_reducible apply State.setGnc_keeps
    | with_reducible apply spRecord_keeps
    | with_reducible apply post_keeps
    | with_reducible apply syncGn_keeps
    | with_reducible apply spClear_keeps
    | simp only [wf_upd]
    | with_reducible rfl
    | split
    | intro _ _ _
    | intro _ _
    | intro _
    | dsimp only [State.free, id])

theorem spPassComplete_keeps (tick : Nat) (l : List SpResult) : Keeps (spPassComplete tick l) := by
  intro s h
  unfold spPassComplete
  try dsimp only [State.free, id]
  repeat' (first
    | with_reducible assumption
    | with_reducible apply spResult_keeps
    | with_reducible apply engineNext_keeps
    | with_reducible apply each_keeps
    | simp only [wf_upd]
    | with_reducible rfl
    | split
    | intro _ _ _
    | intro _ _
    | intro _
    | dsimp only [State.free, id])

theorem storeWrite_keeps  : Keeps storeWrite := by
  intro s h
  unfold storeWrite
  try dsimp only [State.free, id]
  repeat' (first
    | with_reducible assumption
    | simp only [wf_upd]
    | with_reducible rfl
    | split
    | intro _ _ _
    | intro _ _
    | intro _
    | dsimp only [State.free, id])

theorem gnStartUp_keeps  : Keeps gnStartUp := by
  intro s h
  unfold gnStartUp
  try dsimp only [State.free, id]
  repeat' (first
    | with_reducible assumption
    | with_reducible apply State.wr_keeps
    | simp only [wf_upd]
    | with_reducible rfl
    | split
    | intro _ _ _
    | intro _ _
    | intro _
    | dsimp only [State.free, id])

theorem halfCycle_keeps (c : Nat) (complement : Bool) : Keeps (halfCycle c complement) := by
  intro s h
  unfold halfCycle
  try dsimp only [State.free, id]
  repeat' (first
    | with_reducible assumption
    | with_reducible apply State.wr_keeps
    | with_reducible apply submitUpd_keeps
    | simp only [wf_upd]
    | with_reducible rfl
    | split
    | intro _ _ _
    | intro _ _
    | intro _
    | dsimp only [State.free, id])

theorem frameLock_keeps (c pos : Nat) (complement : Bool) (tow epoch week : Nat) : Keeps (frameLock c pos complement tow epoch week) := by
  intro s h
  unfold frameLock
  extract_lets x later t0 t
  have h0 : t0.wf = true := by
    dsimp only [t0]
    with_reducible apply post_keeps
    with_reducible apply syncGn_keeps
    with_reducible apply State.setGnc_keeps
    exact h
  have ht : t.wf = true := by
    show (if x.sig < 2 then halfCycle c complement t0 else t0 : State).wf = true
    split
    · exact halfCycle_keeps _ _ _ h0
    · exact h0
  clear_value t
  split
  · exact gnStop_keeps _ _ (post_keeps _ _ t ht)
  · cases e : setTow c tow epoch week t with
    | none => exact ht
    | some u => exact setTow_keeps _ _ _ _ _ _ ht e

theorem navFrame_keeps (c : Nat) (l : List NavCand) (tow epoch week : Nat) (eph alm : Bool) : Keeps (navFrame c l tow epoch week eph alm) := by
  intro s h
  unfold navFrame
  try dsimp only [State.free, id]
  repeat' (first
    | with_reducible assumption
    | with_reducible apply State.setGnc_keeps
    | with_reducible apply post_keeps
    | with_reducible apply syncGn_keeps
    | with_reducible apply frameLock_keeps
    | with_reducible apply storeWrite_keeps
    | simp only [wf_upd]
    | with_reducible rfl
    | split
    | intro _ _ _
    | intro _ _
    | intro _
    | dsimp only [State.free, id])

theorem writePpsCommit_keeps (fn : Nat) : Keeps (writePpsCommit fn) := by
  intro s h
  unfold writePpsCommit
  try dsimp only [State.free, id]
  repeat' (first
    | with_reducible assumption
    | with_reducible apply postTo_keeps
    | with_reducible apply writeAtDoor_keeps
    | simp only [wf_upd]
    | with_reducible rfl
    | split
    | intro _ _ _
    | intro _ _
    | intro _
    | dsimp only [State.free, id])

theorem ppsModelApply_keeps  : Keeps ppsModelApply := by
  intro s h
  unfold ppsModelApply
  try dsimp only [State.free, id]
  repeat' (first
    | with_reducible assumption
    | simp only [wf_upd]
    | with_reducible rfl
    | split
    | intro _ _ _
    | intro _ _
    | intro _
    | dsimp only [State.free, id])

theorem writePpsCfg_keeps (fn v : Nat) : Keeps (writePpsCfg fn v) := by
  intro s h
  unfold writePpsCfg
  try dsimp only [State.free, id]
  repeat' (first
    | with_reducible assumption
    | with_reducible apply postTo_keeps
    | with_reducible apply State.wr_keeps
    | with_reducible apply writeAtDoor_keeps
    | simp only [wf_upd]
    | with_reducible rfl
    | split
    | intro _ _ _
    | intro _ _
    | intro _
    | dsimp only [State.free, id])

theorem gnssPpsPulse_keeps  : Keeps gnssPpsPulse := by
  intro s h
  unfold gnssPpsPulse
  try dsimp only [State.free, id]
  repeat' (first
    | with_reducible assumption
    | with_reducible apply State.wr_keeps
    | with_reducible apply post_keeps
    | with_reducible apply todSchedule_keeps
    | simp only [wf_upd]
    | with_reducible rfl
    | split
    | intro _ _ _
    | intro _ _
    | intro _
    | dsimp only [State.free, id])

theorem writeAudCfg_keeps (fn v : Nat) : Keeps (writeAudCfg fn v) := by
  intro s h
  unfold writeAudCfg
  try dsimp only [State.free, id]
  repeat' (first
    | with_reducible assumption
    | with_reducible apply postTo_keeps
    | with_reducible apply State.wr_keeps
    | with_reducible apply audAwake_keeps
    | with_reducible apply writeAtDoor_keeps
    | simp only [wf_upd]
    | with_reducible rfl
    | split
    | intro _ _ _
    | intro _ _
    | intro _
    | dsimp only [State.free, id])

theorem auditResult_keeps : Keeps auditResult := by
  intro s h
  unfold auditResult
  extract_lets w l t u
  have ht : t.wf = true := State.wr_keeps _ _ _ _ (State.wr_keeps _ _ _ s h)
  clear_value t
  refine post_keeps _ _ _ ?_
  show (if _ then _ else _ : State).wf = true
  split
  · exact State.wr_keeps _ _ _ _ (State.wr64_keeps _ _ _ _ _ (State.free_keeps 32 _ (State.free_keeps 64 t ht)))
  · exact State.wr_keeps _ _ _ _ (State.wr64_keeps _ _ _ _ t ht)

theorem auditSleep_keeps  : Keeps auditSleep := by
  intro s h
  unfold auditSleep
  try dsimp only [State.free, id]
  repeat' (first
    | with_reducible assumption
    | with_reducible apply storeWrite_keeps
    | with_reducible apply auditResult_keeps
    | with_reducible apply gnStop_keeps
    | with_reducible apply syncAcq_keeps
    | with_reducible apply snapFail_keeps
    | with_reducible apply setPortEn_keeps
    | with_reducible apply State.wr_keeps
    | with_reducible apply State.wr64_keeps
    | with_reducible apply each_keeps
    | with_reducible apply onlyIf_keeps
    | simp only [wf_upd]
    | with_reducible rfl
    | split
    | intro _ _ _
    | intro _ _
    | intro _
    | dsimp only [State.free, id])

theorem auditWake_keeps  : Keeps auditWake := by
  intro s h
  unfold auditWake
  try dsimp only [State.free, id]
  repeat' (first
    | with_reducible assumption
    | with_reducible apply audAwake_keeps
    | simp only [wf_upd]
    | with_reducible rfl
    | split
    | intro _ _ _
    | intro _ _
    | intro _
    | dsimp only [State.free, id])

theorem feWarmDone_keeps  : Keeps feWarmDone := by
  intro s h
  unfold feWarmDone
  try dsimp only [State.free, id]
  repeat' (first
    | with_reducible assumption
    | with_reducible apply setPortEn_keeps
    | with_reducible apply gnStartUp_keeps
    | simp only [wf_upd]
    | with_reducible rfl
    | split
    | intro _ _ _
    | intro _ _
    | intro _
    | dsimp only [State.free, id])

theorem writeSnapCtrl_keeps (fn : Nat) (arm release : Bool) : Keeps (writeSnapCtrl fn arm release) := by
  intro s h
  unfold writeSnapCtrl
  try dsimp only [State.free, id]
  repeat' (first
    | with_reducible assumption
    | with_reducible apply postTo_keeps
    | with_reducible apply State.wr_keeps
    | with_reducible apply writeAtDoor_keeps
    | simp only [wf_upd]
    | with_reducible rfl
    | split
    | intro _ _ _
    | intro _ _
    | intro _
    | dsimp only [State.free, id])

theorem snapTrigger_keeps  : Keeps snapTrigger := by
  intro s h
  unfold snapTrigger
  try dsimp only [State.free, id]
  repeat' (first
    | with_reducible assumption
    | with_reducible apply State.wr_keeps
    | with_reducible apply snapFail_keeps
    | with_reducible apply onlyIf_keeps
    | simp only [wf_upd]
    | with_reducible rfl
    | split
    | intro _ _ _
    | intro _ _
    | intro _
    | dsimp only [State.free, id])

theorem snapCaptureDone_keeps (d0 : Octets) (st0 : List SnapStamp) (d1 : Octets) (st1 : List SnapStamp) : Keeps (snapCaptureDone d0 st0 d1 st1) := by
  intro s h
  unfold snapCaptureDone
  try dsimp only [State.free, id]
  repeat' (first
    | with_reducible assumption
    | with_reducible apply State.shmWrite_keeps
    | with_reducible apply State.wr_keeps
    | with_reducible apply post_keeps
    | simp only [wf_upd]
    | with_reducible rfl
    | split
    | intro _ _ _
    | intro _ _
    | intro _
    | dsimp only [State.free, id])

end Sys2Proof.Machine
end

