-- ==== Sys2Proof/Laws/KeepResetPower.lean ====
section
/-! SUPPORT. What the operations of ResetPower keep: the canonical form of the memories and of the register file. -/

set_option Elab.async false

set_option linter.unusedSimpArgs false
set_option linter.unusedTactic false
set_option linter.unreachableTactic false

namespace Sys2Proof.Machine

theorem satAdd_keeps (f : FieldRef) (n : Nat) : Keeps (satAdd f n) := by
  intro s h
  unfold satAdd
  try dsimp only [State.free, id]
  repeat' (first
    | with_reducible assumption
    | with_reducible apply State.wr_keeps
    | simp only [wf_upd]
    | with_reducible rfl
    | split
    | intro _ _ _
    | intro _ _
    | intro _
    | dsimp only [State.free, id])

theorem batteryLost_keeps : Keeps batteryLost := by
  intro s h
  unfold batteryLost
  rw [State.wf_iff] at h ⊢
  refine ⟨h.1, h.2.1, h.2.2.1, ?_, h.2.2.2.2⟩
  dsimp only
  exact twf_tfilter _ _ h.2.2.2.1

theorem resetNAssert_keeps  : Keeps resetNAssert := by
  intro s h
  unfold resetNAssert
  try dsimp only [State.free, id]
  repeat' (first
    | with_reducible assumption
    | with_reducible apply chipReset_keeps
    | simp only [wf_upd]
    | with_reducible rfl
    | split
    | intro _ _ _
    | intro _ _
    | intro _
    | dsimp only [State.free, id])

theorem resetNRelease_keeps (heldMs : Nat) : Keeps (resetNRelease heldMs) := by
  intro s h
  unfold resetNRelease
  try dsimp only [State.free, id]
  repeat' (first
    | with_reducible assumption
    | with_reducible apply satAdd_keeps
    | simp only [wf_upd]
    | with_reducible rfl
    | split
    | intro _ _ _
    | intro _ _
    | intro _
    | dsimp only [State.free, id])

theorem stuckRelease_keeps (heldMs : Nat) : Keeps (stuckRelease heldMs) := by
  intro s h
  unfold stuckRelease
  try dsimp only [State.free, id]
  repeat' (first
    | with_reducible assumption
    | with_reducible apply chipReset_keeps
    | with_reducible apply satAdd_keeps
    | with_reducible apply State.wr_keeps
    | simp only [wf_upd]
    | with_reducible rfl
    | split
    | intro _ _ _
    | intro _ _
    | intro _
    | dsimp only [State.free, id])

theorem perstN_keeps  : Keeps perstN := by
  intro s h
  unfold perstN
  try dsimp only [State.free, id]
  repeat' (first
    | with_reducible assumption
    | with_reducible apply chipReset_keeps
    | with_reducible apply linkDown_keeps
    | simp only [wf_upd]
    | with_reducible rfl
    | split
    | intro _ _ _
    | intro _ _
    | intro _
    | dsimp only [State.free, id])

theorem rstCommand_keeps (w : Win) (body : State → State) (hbody : Keeps body) : Keeps (rstCommand w body) := by
  intro s h
  unfold rstCommand
  try dsimp only [State.free, id]
  repeat' (first
    | with_reducible assumption
    | with_reducible apply refuse_keeps
    | with_reducible apply command_keeps
    | apply hbody
    | simp only [wf_upd]
    | with_reducible rfl
    | split
    | intro _ _ _
    | intro _ _
    | intro _
    | dsimp only [State.free, id])

theorem resetCommand_keeps (w : Win) (code : Nat) (kind : RstKind) : Keeps (resetCommand w code kind) := by
  intro s h
  unfold resetCommand
  try dsimp only [State.free, id]
  repeat' (first
    | with_reducible assumption
    | with_reducible apply chipReset_keeps
    | with_reducible apply refuse_keeps
    | with_reducible apply rstCommand_keeps
    | simp only [wf_upd]
    | with_reducible rfl
    | split
    | intro _ _ _
    | intro _ _
    | intro _
    | dsimp only [State.free, id])

theorem opColdReset_keeps (w : Win) : Keeps (opColdReset w) := by
  intro s h
  unfold opColdReset
  try dsimp only [State.free, id]
  repeat' (first
    | with_reducible assumption
    | with_reducible apply resetCommand_keeps
    | simp only [wf_upd]
    | with_reducible rfl
    | split
    | intro _ _ _
    | intro _ _
    | intro _
    | dsimp only [State.free, id])

theorem opWarmReset_keeps (w : Win) : Keeps (opWarmReset w) := by
  intro s h
  unfold opWarmReset
  try dsimp only [State.free, id]
  repeat' (first
    | with_reducible assumption
    | with_reducible apply resetCommand_keeps
    | simp only [wf_upd]
    | with_reducible rfl
    | split
    | intro _ _ _
    | intro _ _
    | intro _
    | dsimp only [State.free, id])

theorem opClearStuck_keeps (w : Win) : Keeps (opClearStuck w) := by
  intro s h
  unfold opClearStuck
  try dsimp only [State.free, id]
  repeat' (first
    | with_reducible assumption
    | with_reducible apply completeOk_keeps
    | with_reducible apply State.wr_keeps
    | with_reducible apply rstCommand_keeps
    | simp only [wf_upd]
    | with_reducible rfl
    | split
    | intro _ _ _
    | intro _ _
    | intro _
    | dsimp only [State.free, id])

theorem flashWrite_keeps (a : Nat) (o : Octets) : Keeps (flashWrite a o) := by
  intro s h
  unfold flashWrite
  rw [State.wf_iff] at h ⊢
  refine ⟨h.1, h.2.1, ?_, h.2.2.2⟩
  dsimp only
  exact wf_csetAll _ _ _ (wf_filter _ _ h.2.2.1)

theorem opOptWrite_keeps (w : Win) (verified : Bool) : Keeps (opOptWrite w verified) := by
  intro s h
  unfold opOptWrite
  try dsimp only [State.free, id]
  repeat' (first
    | with_reducible assumption
    | refine pair_wf (by with_reducible assumption) ?_
    | with_reducible apply post_keeps
    | with_reducible apply completeOk_keeps
    | with_reducible apply flashWrite_keeps
    | with_reducible apply State.free_keeps
    | with_reducible apply refuse_keeps
    | with_reducible apply rstCommand_keeps
    | simp only [wf_upd]
    | with_reducible rfl
    | split
    | intro _ _ _
    | intro _ _
    | intro _
    | dsimp only [State.free, id])

theorem setGated_keeps (l : List (EngKind × Nat)) : Keeps (setGated l) := by
  intro s h
  unfold setGated
  try dsimp only [State.free, id]
  repeat' (first
    | with_reducible assumption
    | with_reducible apply State.wr_keeps
    | simp only [wf_upd]
    | with_reducible rfl
    | split
    | intro _ _ _
    | intro _ _
    | intro _
    | dsimp only [State.free, id])

theorem setPwrState_keeps (st : Nat) : Keeps (setPwrState st) := by
  intro s h
  unfold setPwrState
  try dsimp only [State.free, id]
  repeat' (first
    | with_reducible assumption
    | with_reducible apply post_keeps
    | with_reducible apply State.wr_keeps
    | simp only [wf_upd]
    | with_reducible rfl
    | split
    | intro _ _ _
    | intro _ _
    | intro _
    | dsimp only [State.free, id])

theorem governor_keeps (e : IdleEngines) : Keeps (governor e) := by
  intro s h
  unfold governor
  try dsimp only [State.free, id]
  repeat' (first
    | with_reducible assumption
    | refine pair_wf (by with_reducible assumption) ?_
    | with_reducible apply State.free_keeps
    | with_reducible apply State.wr_keeps
    | with_reducible apply setPwrState_keeps
    | with_reducible apply setGated_keeps
    | with_reducible apply tryGate_keeps
    | with_reducible apply each_keeps
    | simp only [wf_upd]
    | with_reducible rfl
    | split
    | intro _ _ _
    | intro _ _
    | intro _
    | dsimp only [State.free, id])

theorem engineWake_keeps (k : EngKind) : Keeps (engineWake k) := by
  intro s h
  unfold engineWake
  try dsimp only [State.free, id]
  repeat' (first
    | with_reducible assumption
    | with_reducible apply setGated_keeps
    | simp only [wf_upd]
    | with_reducible rfl
    | split
    | intro _ _ _
    | intro _ _
    | intro _
    | dsimp only [State.free, id])

theorem portOff_keeps (n : Nat) : Keeps (portOff n) := by
  intro s h
  unfold portOff
  try dsimp only [State.free, id]
  repeat' (first
    | with_reducible assumption
    | with_reducible apply setMembers_keeps
    | with_reducible apply portDown_keeps
    | with_reducible apply State.wr_keeps
    | with_reducible apply ubwOff_keeps
    | simp only [wf_upd]
    | with_reducible rfl
    | split
    | intro _ _ _
    | intro _ _
    | intro _
    | dsimp only [State.free, id])

theorem portOn_keeps (n : Nat) : Keeps (portOn n) := by
  intro s h
  unfold portOn
  try dsimp only [State.free, id]
  repeat' (first
    | with_reducible assumption
    | with_reducible apply setMembers_keeps
    | with_reducible apply portDown_keeps
    | with_reducible apply State.wr_keeps
    | with_reducible apply ubwEnter_keeps
    | simp only [wf_upd]
    | with_reducible rfl
    | split
    | intro _ _ _
    | intro _ _
    | intro _
    | dsimp only [State.free, id])

theorem enterDeep_keeps (target : Nat) : Keeps (enterDeep target) := by
  intro s h
  unfold enterDeep
  try dsimp only [State.free, id]
  repeat' (first
    | with_reducible assumption
    | with_reducible apply portOff_keeps
    | with_reducible apply claimZero_keeps
    | with_reducible apply linkDown_keeps
    | with_reducible apply setGated_keeps
    | with_reducible apply setPwrState_keeps
    | with_reducible apply storeWrite_keeps
    | with_reducible apply syncDriving_keeps
    | with_reducible apply State.wr_keeps
    | with_reducible apply each_keeps
    | simp only [wf_upd]
    | with_reducible rfl
    | split
    | intro _ _ _
    | intro _ _
    | intro _
    | dsimp only [State.free, id])

theorem opPwrEnter_keeps (w : Win) : Keeps (opPwrEnter w) := by
  intro s h
  unfold opPwrEnter
  try dsimp only [State.free, id]
  repeat' (first
    | with_reducible assumption
    | with_reducible apply refuse_keeps
    | with_reducible apply enterDeep_keeps
    | with_reducible apply completeOk_keeps
    | with_reducible apply command_keeps
    | simp only [wf_upd]
    | with_reducible rfl
    | split
    | intro _ _ _
    | intro _ _
    | intro _
    | dsimp only [State.free, id])

theorem wakeUp_keeps (code : Nat) : Keeps (wakeUp code) := by
  intro s h
  unfold wakeUp
  try dsimp only [State.free, id]
  repeat' (first
    | with_reducible assumption
    | with_reducible apply State.wr_keeps
    | with_reducible apply chipReset_keeps
    | with_reducible apply mateStep_keeps
    | with_reducible apply syncClaim_keeps
    | with_reducible apply portOn_keeps
    | with_reducible apply setSharedDrive_keeps
    | with_reducible apply post_keeps
    | with_reducible apply setPwrState_keeps
    | with_reducible apply each_keeps
    | with_reducible apply onlyIf_keeps
    | simp only [wf_upd]
    | with_reducible rfl
    | split
    | intro _ _ _
    | intro _ _
    | intro _
    | dsimp only [State.free, id])

theorem mgpWakeMatch_keeps (o : Octets) : Keeps (mgpWakeMatch o) := by
  intro s h
  unfold mgpWakeMatch
  try dsimp only [State.free, id]
  repeat' (first
    | with_reducible assumption
    | with_reducible apply wakeUp_keeps
    | with_reducible apply wakeNote_keeps
    | simp only [wf_upd]
    | with_reducible rfl
    | split
    | intro _ _ _
    | intro _ _
    | intro _
    | dsimp only [State.free, id])

end Sys2Proof.Machine
end

