-- ==== Sys2Proof/Laws/KeepBusHost.lean ====
section
/-! SUPPORT. What the operations of BusHost keep: the canonical form of the memories and of the register file. -/

set_option Elab.async false

set_option linter.unusedSimpArgs false
set_option linter.unusedTactic false
set_option linter.unreachableTactic false

namespace Sys2Proof.Machine

theorem hifCmd_keeps (w : Win) (v : Nat) : Keeps (hifCmd w v) := by
  intro s h
  unfold hifCmd
  try dsimp only [State.free, id]
  repeat' (first
    | with_reducible assumption
    | with_reducible apply opHifNop_keeps
    | with_reducible apply opHifCopy_keeps
    | with_reducible apply opPtWrite_keeps
    | with_reducible apply opPtRead_keeps
    | with_reducible apply opPtCommit_keeps
    | with_reducible apply opPtAbort_keeps
    | with_reducible apply opSuHold_keeps
    | with_reducible apply opSuRelease_keeps
    | with_reducible apply opPwrReq_keeps
    | with_reducible apply refuse_keeps
    | with_reducible apply hifCommand_keeps
    | simp only [wf_upd]
    | with_reducible rfl
    | split
    | intro _ _ _
    | intro _ _
    | intro _
    | dsimp only [State.free, id])

theorem writeRing_keeps (w : Win) (r i v : Nat) : Keeps (writeRing w r i v) := by
  intro s h
  unfold writeRing
  try dsimp only [State.free, id]
  repeat' (first
    | with_reducible assumption
    | with_reducible apply writeRingCfg_keeps
    | with_reducible apply writeRingField_keeps
    | with_reducible apply opDoorbell_keeps
    | with_reducible apply State.wr_keeps
    | simp only [wf_upd]
    | with_reducible rfl
    | split
    | intro _ _ _
    | intro _ _
    | intro _
    | dsimp only [State.free, id])

theorem writeHIF_keeps (w : Win) (off v : Nat) : Keeps (writeHIF w off v) := by
  intro s h
  unfold writeHIF
  try dsimp only [State.free, id]
  repeat' (first
    | with_reducible assumption
    | with_reducible apply writeRing_keeps
    | with_reducible apply writeEvt_keeps
    | with_reducible apply opLatTol_keeps
    | with_reducible apply writeLtr_keeps
    | with_reducible apply hifCmd_keeps
    | with_reducible apply writeErCfg_keeps
    | with_reducible apply plain_keeps
    | with_reducible apply writeAtDoor_keeps
    | simp only [wf_upd]
    | with_reducible rfl
    | split
    | intro _ _ _
    | intro _ _
    | intro _
    | dsimp only [State.free, id])

theorem writeSTW_keeps (w : Win) (off v : Nat) : Keeps (writeSTW w off v) := by
  intro s h
  unfold writeSTW
  try dsimp only [State.free, id]
  repeat' (first
    | with_reducible assumption
    | with_reducible apply writeEvt_keeps
    | with_reducible apply plain_keeps
    | simp only [wf_upd]
    | with_reducible rfl
    | split
    | intro _ _ _
    | intro _ _
    | intro _
    | dsimp only [State.free, id])

theorem rstCmd_keeps (w : Win) (v : Nat) : Keeps (rstCmd w v) := by
  intro s h
  unfold rstCmd
  try dsimp only [State.free, id]
  repeat' (first
    | with_reducible assumption
    | with_reducible apply opColdReset_keeps
    | with_reducible apply opWarmReset_keeps
    | with_reducible apply opOptWrite_keeps
    | with_reducible apply opClearStuck_keeps
    | with_reducible apply refuse_keeps
    | with_reducible apply freeBool_keeps
    | with_reducible apply rstCommand_keeps
    | simp only [wf_upd]
    | with_reducible rfl
    | split
    | intro _ _ _
    | intro _ _
    | intro _
    | dsimp only [State.free, id])

theorem writeRST_keeps (w : Win) (off v : Nat) : Keeps (writeRST w off v) := by
  intro s h
  unfold writeRST
  try dsimp only [State.free, id]
  repeat' (first
    | with_reducible assumption
    | with_reducible apply writeEvt_keeps
    | with_reducible apply rstCmd_keeps
    | with_reducible apply plain_keeps
    | simp only [wf_upd]
    | with_reducible rfl
    | split
    | intro _ _ _
    | intro _ _
    | intro _
    | dsimp only [State.free, id])

theorem pwrCmd_keeps (w : Win) (v : Nat) : Keeps (pwrCmd w v) := by
  intro s h
  unfold pwrCmd
  try dsimp only [State.free, id]
  repeat' (first
    | with_reducible assumption
    | with_reducible apply opPwrEnter_keeps
    | with_reducible apply refuse_keeps
    | with_reducible apply command_keeps
    | simp only [wf_upd]
    | with_reducible rfl
    | split
    | intro _ _ _
    | intro _ _
    | intro _
    | dsimp only [State.free, id])

theorem writePWR_keeps (w : Win) (off v : Nat) : Keeps (writePWR w off v) := by
  intro s h
  unfold writePWR
  try dsimp only [State.free, id]
  repeat' (first
    | with_reducible assumption
    | with_reducible apply writeEvt_keeps
    | with_reducible apply State.wr_keeps
    | with_reducible apply pwrCmd_keeps
    | with_reducible apply plain_keeps
    | with_reducible apply plainThen_keeps
    | simp only [wf_upd]
    | with_reducible rfl
    | split
    | intro _ _ _
    | intro _ _
    | intro _
    | dsimp only [State.free, id])

theorem fltCmd_keeps (w : Win) (v : Nat) : Keeps (fltCmd w v) := by
  intro s h
  unfold fltCmd
  try dsimp only [State.free, id]
  repeat' (first
    | with_reducible assumption
    | with_reducible apply opSrcWrite_keeps
    | with_reducible apply opSrcRead_keeps
    | with_reducible apply opBlockReset_keeps
    | with_reducible apply opInject_keeps
    | with_reducible apply opFltLock_keeps
    | with_reducible apply refuse_keeps
    | with_reducible apply fltCommand_keeps
    | simp only [wf_upd]
    | with_reducible rfl
    | split
    | intro _ _ _
    | intro _ _
    | intro _
    | dsimp only [State.free, id])

theorem writeLogCfg_keeps (w : Win) (v : Nat) : Keeps (writeLogCfg w v) := by
  intro s h
  unfold writeLogCfg
  try dsimp only [State.free, id]
  repeat' (first
    | with_reducible assumption
    | with_reducible apply writeReg_keeps
    | with_reducible apply State.wr_keeps
    | with_reducible apply guarded_keeps
    | with_reducible apply onlyIf_keeps
    | simp only [wf_upd]
    | with_reducible rfl
    | split
    | intro _ _ _
    | intro _ _
    | intro _
    | dsimp only [State.free, id])

theorem writeFLT_keeps (w : Win) (off v : Nat) : Keeps (writeFLT w off v) := by
  intro s h
  unfold writeFLT
  try dsimp only [State.free, id]
  repeat' (first
    | with_reducible assumption
    | with_reducible apply writeEvt_keeps
    | with_reducible apply pinFaultN_keeps
    | with_reducible apply writeLogCfg_keeps
    | with_reducible apply fltCmd_keeps
    | with_reducible apply plain_keeps
    | with_reducible apply plainThen_keeps
    | with_reducible apply lockedReg_keeps
    | simp only [wf_upd]
    | with_reducible rfl
    | split
    | intro _ _ _
    | intro _ _
    | intro _
    | dsimp only [State.free, id])

theorem pmcCmd_keeps (w : Win) (v : Nat) : Keeps (pmcCmd w v) := by
  intro s h
  unfold pmcCmd
  try dsimp only [State.free, id]
  repeat' (first
    | with_reducible assumption
    | with_reducible apply opSnapshot_keeps
    | with_reducible apply refuse_keeps
    | with_reducible apply command_keeps
    | simp only [wf_upd]
    | with_reducible rfl
    | split
    | intro _ _ _
    | intro _ _
    | intro _
    | dsimp only [State.free, id])

theorem writePMC_keeps (w : Win) (off v : Nat) : Keeps (writePMC w off v) := by
  intro s h
  unfold writePMC
  try dsimp only [State.free, id]
  repeat' (first
    | with_reducible assumption
    | with_reducible apply writeWin_keeps
    | with_reducible apply writeEvt_keeps
    | with_reducible apply pmcCmd_keeps
    | with_reducible apply plain_keeps
    | simp only [wf_upd]
    | with_reducible rfl
    | split
    | intro _ _ _
    | intro _ _
    | intro _
    | dsimp only [State.free, id])

theorem writeMgpReg_keeps (w : Win) (d i off v : Nat) : Keeps (writeMgpReg w d i off v) := by
  intro s h
  unfold writeMgpReg
  try dsimp only [State.free, id]
  repeat' (first
    | with_reducible assumption
    | with_reducible apply writeMgpRing_keeps
    | with_reducible apply writeMgpTail_keeps
    | with_reducible apply plain_keeps
    | with_reducible apply post_keeps
    | with_reducible apply lockedReg_keeps
    | simp only [wf_upd]
    | with_reducible rfl
    | split
    | intro _ _ _
    | intro _ _
    | intro _
    | dsimp only [State.free, id])

theorem writeMGP_keeps (w : Win) (off v : Nat) : Keeps (writeMGP w off v) := by
  intro s h
  unfold writeMGP
  try dsimp only [State.free, id]
  repeat' (first
    | with_reducible assumption
    | with_reducible apply writeMgpReg_keeps
    | with_reducible apply writeTsr_keeps
    | with_reducible apply writeTsrReg_keeps
    | with_reducible apply writeEvt_keeps
    | with_reducible apply writeMgpCfg_keeps
    | with_reducible apply writeMdio_keeps
    | with_reducible apply plain_keeps
    | simp only [wf_upd]
    | with_reducible rfl
    | split
    | intro _ _ _
    | intro _ _
    | intro _
    | dsimp only [State.free, id])

end Sys2Proof.Machine
end

