-- ==== Sys2Proof/Laws/KeepServo.lean ====
section
/-! SUPPORT. What the operations of Servo keep: the canonical form of the memories and of the register file. -/

set_option Elab.async false

set_option linter.unusedSimpArgs false
set_option linter.unusedTactic false
set_option linter.unreachableTactic false

namespace Sys2Proof.Machine

theorem State.setNg_keeps (m : Nat) (g : NgModel) : Keeps (State.setNg m g) := by
  intro s h
  unfold State.setNg
  try dsimp only [State.free, id]
  repeat' (first
    | with_reducible assumption
    | simp only [wf_upd]
    | with_reducible rfl
    | split
    | intro _ _ _
    | intro _ _
    | intro _
    | dsimp only [State.free, id])

theorem setNgState_keeps (m st : Nat) : Keeps (setNgState m st) := by
  intro s h
  unfold setNgState
  try dsimp only [State.free, id]
  repeat' (first
    | with_reducible assumption
    | with_reducible apply post_keeps
    | with_reducible apply State.wr_keeps
    | simp only [wf_upd]
    | with_reducible rfl
    | split
    | intro _ _ _
    | intro _ _
    | intro _
    | dsimp only [State.free, id])

theorem readTemp_keeps (m : Nat) : Keeps (readTemp m) := by
  intro s h
  unfold readTemp
  try dsimp only [State.free, id]
  repeat' (first
    | with_reducible assumption
    | refine pair_wf (by with_reducible assumption) ?_
    | with_reducible apply State.free_keeps
    | with_reducible apply State.wr_keeps
    | simp only [wf_upd]
    | with_reducible rfl
    | split
    | intro _ _ _
    | intro _ _
    | intro _
    | dsimp only [State.free, id])

theorem tempCheck_keeps (m : Nat) : Keeps (tempCheck m) := by
  intro s h
  unfold tempCheck
  try dsimp only [State.free, id]
  repeat' (first
    | with_reducible assumption
    | with_reducible apply setNgState_keeps
    | with_reducible apply State.setNg_keeps
    | simp only [wf_upd]
    | with_reducible rfl
    | split
    | intro _ _ _
    | intro _ _
    | intro _
    | dsimp only [State.free, id])

theorem atomWatch_keeps  : Keeps atomWatch := by
  intro s h
  unfold atomWatch
  try dsimp only [State.free, id]
  repeat' (first
    | with_reducible assumption
    | with_reducible apply State.wr_keeps
    | simp only [wf_upd]
    | with_reducible rfl
    | split
    | intro _ _ _
    | intro _ _
    | intro _
    | dsimp only [State.free, id])

theorem setHoAtom_keeps (b : Bool) : Keeps (setHoAtom b) := by
  intro s h
  unfold setHoAtom
  try dsimp only [State.free, id]
  repeat' (first
    | with_reducible assumption
    | with_reducible apply State.wr_keeps
    | simp only [wf_upd]
    | with_reducible rfl
    | split
    | intro _ _ _
    | intro _ _
    | intro _
    | dsimp only [State.free, id])

theorem hoChoose_keeps  : ∀ s : State, s.wf = true → (hoChoose s).2.wf = true := by
  intro s h
  unfold hoChoose
  try dsimp only [State.free, id]
  repeat' (first
    | with_reducible assumption
    | with_reducible apply post_keeps
    | with_reducible apply setHoAtom_keeps
    | with_reducible apply State.wr_keeps
    | simp only [wf_upd]
    | with_reducible rfl
    | split
    | intro _ _ _
    | intro _ _
    | intro _
    | dsimp only [State.free, id])

theorem hoMonitor_keeps (p : Option (RefStamp × RefStamp)) : Keeps (hoMonitor p) := by
  intro s h
  unfold hoMonitor
  try dsimp only [State.free, id]
  repeat' (first
    | with_reducible assumption
    | with_reducible apply State.wr64_keeps
    | simp only [wf_upd]
    | with_reducible rfl
    | split
    | intro _ _ _
    | intro _ _
    | intro _
    | dsimp only [State.free, id])

theorem setSys_keeps (d : Dpll) : Keeps (setSys d) := by
  intro s h
  unfold setSys
  try dsimp only [State.free, id]
  repeat' (first
    | with_reducible assumption
    | simp only [wf_upd]
    | with_reducible rfl
    | split
    | intro _ _ _
    | intro _ _
    | intro _
    | dsimp only [State.free, id])

theorem stewardAdjust_keeps (delta : Int) : Keeps (stewardAdjust delta) := by
  intro s h
  unfold stewardAdjust
  try dsimp only [State.free, id]
  repeat' (first
    | with_reducible assumption
    | with_reducible apply State.setVc_keeps
    | simp only [wf_upd]
    | with_reducible rfl
    | split
    | intro _ _ _
    | intro _ _
    | intro _
    | dsimp only [State.free, id])

theorem takeOffset_keeps (e : Int) (x32 : Nat) : Keeps (takeOffset e x32) := by
  intro s h
  unfold takeOffset
  try dsimp only [State.free, id]
  repeat' (first
    | with_reducible assumption
    | with_reducible apply setSys_keeps
    | with_reducible apply stewardAdjust_keeps
    | with_reducible apply State.wr_keeps
    | with_reducible apply post_keeps
    | with_reducible apply onlyIf_keeps
    | simp only [wf_upd]
    | with_reducible rfl
    | split
    | intro _ _ _
    | intro _ _
    | intro _
    | dsimp only [State.free, id])

theorem firstSet_keeps  : Keeps firstSet := by
  intro s h
  unfold firstSet
  try dsimp only [State.free, id]
  repeat' (first
    | with_reducible assumption
    | with_reducible apply syncTb_keeps
    | with_reducible apply State.setVc_keeps
    | simp only [wf_upd]
    | with_reducible rfl
    | split
    | intro _ _ _
    | intro _ _
    | intro _
    | dsimp only [State.free, id])

theorem abortOwnSet_keeps  : Keeps abortOwnSet := by
  intro s h
  unfold abortOwnSet
  try dsimp only [State.free, id]
  repeat' (first
    | with_reducible assumption
    | with_reducible apply enterUnset_keeps
    | with_reducible apply State.setVc_keeps
    | simp only [wf_upd]
    | with_reducible rfl
    | split
    | intro _ _ _
    | intro _ _
    | intro _
    | dsimp only [State.free, id])

theorem acceptStep_keeps  : Keeps acceptStep := by
  intro s h
  unfold acceptStep
  try dsimp only [State.free, id]
  repeat' (first
    | with_reducible assumption
    | with_reducible apply accept_keeps
    | with_reducible apply stewardAdjust_keeps
    | simp only [wf_upd]
    | with_reducible rfl
    | split
    | intro _ _ _
    | intro _ _
    | intro _
    | dsimp only [State.free, id])

theorem sysMeasure_keeps (n : Nat) (sts : List RefStamp) : Keeps (sysMeasure n sts) := by
  intro s h
  unfold sysMeasure
  try dsimp only [State.free, id]
  repeat' (first
    | with_reducible assumption
    | with_reducible apply State.wr64_keeps
    | with_reducible apply setSys_keeps
    | with_reducible apply takeOffset_keeps
    | simp only [wf_upd]
    | with_reducible rfl
    | split
    | intro _ _ _
    | intro _ _
    | intro _
    | dsimp only [State.free, id])

theorem sysEvents_keeps (old : Nat) : Keeps (sysEvents old) := by
  intro s h
  unfold sysEvents
  try dsimp only [State.free, id]
  repeat' (first
    | with_reducible assumption
    | with_reducible apply post_keeps
    | with_reducible apply onlyIf_keeps
    | simp only [wf_upd]
    | with_reducible rfl
    | split
    | intro _ _ _
    | intro _ _
    | intro _
    | dsimp only [State.free, id])

theorem sysTransit_keeps  : Keeps sysTransit := by
  intro s h
  unfold sysTransit
  try dsimp only [State.free, id]
  repeat' (first
    | with_reducible assumption
    | with_reducible apply abortOwnSet_keeps
    | with_reducible apply State.wr_keeps
    | simp only [wf_upd]
    | with_reducible rfl
    | split
    | intro _ _ _
    | intro _ _
    | intro _
    | dsimp only [State.free, id])

theorem writeCg0_keeps (r : Int) (b : BndTerms) : Keeps (writeCg0 r b) := by
  intro s h
  unfold writeCg0
  try dsimp only [State.free, id]
  repeat' (first
    | with_reducible assumption
    | with_reducible apply State.wr64_keeps
    | with_reducible apply State.wr_keeps
    | simp only [wf_upd]
    | with_reducible rfl
    | split
    | intro _ _ _
    | intro _ _
    | intro _
    | dsimp only [State.free, id])

theorem syncSys_keeps  : Keeps syncSys := by
  intro s h
  unfold syncSys
  try dsimp only [State.free, id]
  repeat' (first
    | with_reducible assumption
    | with_reducible apply State.wr_keeps
    | simp only [wf_upd]
    | with_reducible rfl
    | split
    | intro _ _ _
    | intro _ _
    | intro _
    | dsimp only [State.free, id])

theorem sysUpdate_keeps (tick : Nat) : Keeps (sysUpdate tick) := by
  intro s h
  unfold sysUpdate
  try dsimp only [State.free, id]
  repeat' (first
    | with_reducible assumption
    | refine pair_wf (by with_reducible assumption) ?_
    | with_reducible apply hoChoose_keeps
    | with_reducible apply atomWatch_keeps
    | with_reducible apply sysEvents_keeps
    | with_reducible apply sysTransit_keeps
    | with_reducible apply sysMeasure_keeps
    | with_reducible apply acceptStep_keeps
    | with_reducible apply firstSet_keeps
    | with_reducible apply syncSys_keeps
    | with_reducible apply setSys_keeps
    | with_reducible apply writeCg0_keeps
    | with_reducible apply State.wr64_keeps
    | with_reducible apply setArm_keeps
    | with_reducible apply State.wr_keeps
    | simp only [wf_upd]
    | with_reducible rfl
    | split
    | intro _ _ _
    | intro _ _
    | intro _
    | dsimp only [State.free, id])

theorem State.setOd_keeps (k : Nat) (d : Dpll) : Keeps (State.setOd k d) := by
  intro s h
  unfold State.setOd
  try dsimp only [State.free, id]
  repeat' (first
    | with_reducible assumption
    | simp only [wf_upd]
    | with_reducible rfl
    | split
    | intro _ _ _
    | intro _ _
    | intro _
    | dsimp only [State.free, id])

theorem odTransit_keeps (k : Nat) (left : Bool) : Keeps (odTransit k left) := by
  intro s h
  unfold odTransit
  try dsimp only [State.free, id]
  repeat' (first
    | with_reducible assumption
    | with_reducible apply post_keeps
    | with_reducible apply State.setOd_keeps
    | with_reducible apply onlyIf_keeps
    | simp only [wf_upd]
    | with_reducible rfl
    | split
    | intro _ _ _
    | intro _ _
    | intro _
    | dsimp only [State.free, id])

theorem odTake_keeps (k n : Nat) (raw : Int) (x32 : Nat) : Keeps (odTake k n raw x32) := by
  intro s h
  unfold odTake
  try dsimp only [State.free, id]
  repeat' (first
    | with_reducible assumption
    | with_reducible apply State.setOd_keeps
    | with_reducible apply State.wr_keeps
    | simp only [wf_upd]
    | with_reducible rfl
    | split
    | intro _ _ _
    | intro _ _
    | intro _
    | dsimp only [State.free, id])

theorem odMeasure_keeps (k n : Nat) (sts : List RefStamp) : Keeps (odMeasure k n sts) := by
  intro s h
  unfold odMeasure
  try dsimp only [State.free, id]
  repeat' (first
    | with_reducible assumption
    | with_reducible apply odTake_keeps
    | simp only [wf_upd]
    | with_reducible rfl
    | split
    | intro _ _ _
    | intro _ _
    | intro _
    | dsimp only [State.free, id])

theorem syncOd_keeps (k : Nat) : Keeps (syncOd k) := by
  intro s h
  unfold syncOd
  try dsimp only [State.free, id]
  repeat' (first
    | with_reducible assumption
    | with_reducible apply State.wr_keeps
    | simp only [wf_upd]
    | with_reducible rfl
    | split
    | intro _ _ _
    | intro _ _
    | intro _
    | dsimp only [State.free, id])

theorem odUpdate_keeps (tick : Nat) (left : Bool) (k : Nat) : Keeps (odUpdate tick left k) := by
  intro s h
  unfold odUpdate
  try dsimp only [State.free, id]
  repeat' (first
    | with_reducible assumption
    | with_reducible apply odTransit_keeps
    | with_reducible apply odMeasure_keeps
    | with_reducible apply syncOd_keeps
    | with_reducible apply State.setOd_keeps
    | with_reducible apply setArm_keeps
    | with_reducible apply State.wr64_keeps
    | simp only [wf_upd]
    | with_reducible rfl
    | split
    | intro _ _ _
    | intro _ _
    | intro _
    | dsimp only [State.free, id])

theorem clearUnread_keeps  : Keeps clearUnread := by
  intro s h
  unfold clearUnread
  try dsimp only [State.free, id]
  repeat' (first
    | with_reducible assumption
    | simp only [wf_upd]
    | with_reducible rfl
    | split
    | intro _ _ _
    | intro _ _
    | intro _
    | dsimp only [State.free, id])

theorem servoUpdate_keeps  : Keeps servoUpdate := by
  intro s h
  unfold servoUpdate
  try dsimp only [State.free, id]
  repeat' (first
    | with_reducible assumption
    | with_reducible apply post_keeps
    | with_reducible apply State.wr_keeps
    | with_reducible apply clearUnread_keeps
    | with_reducible apply odUpdate_keeps
    | with_reducible apply sysUpdate_keeps
    | with_reducible apply each_keeps
    | simp only [wf_upd]
    | with_reducible rfl
    | split
    | intro _ _ _
    | intro _ _
    | intro _
    | dsimp only [State.free, id])

theorem servoStall_keeps  : Keeps servoStall := by
  intro s h
  unfold servoStall
  try dsimp only [State.free, id]
  repeat' (first
    | with_reducible assumption
    | with_reducible apply post_keeps
    | with_reducible apply State.wr_keeps
    | simp only [wf_upd]
    | with_reducible rfl
    | split
    | intro _ _ _
    | intro _ _
    | intro _
    | dsimp only [State.free, id])

theorem srvCg0Commit_keeps (tick : Nat) : Keeps (srvCg0Commit tick) := by
  intro s h
  unfold srvCg0Commit
  try dsimp only [State.free, id]
  repeat' (first
    | with_reducible assumption
    | with_reducible apply State.wr_keeps
    | with_reducible apply setSys_keeps
    | with_reducible apply post_keeps
    | with_reducible apply State.setOd_keeps
    | with_reducible apply State.wrBoth_keeps
    | with_reducible apply each_keeps
    | simp only [wf_upd]
    | with_reducible rfl
    | split
    | intro _ _ _
    | intro _ _
    | intro _
    | dsimp only [State.free, id])

theorem srvOdCommit_keeps (k tick : Nat) : Keeps (srvOdCommit k tick) := by
  intro s h
  unfold srvOdCommit
  try dsimp only [State.free, id]
  repeat' (first
    | with_reducible assumption
    | with_reducible apply State.setOd_keeps
    | simp only [wf_upd]
    | with_reducible rfl
    | split
    | intro _ _ _
    | intro _ _
    | intro _
    | dsimp only [State.free, id])

theorem freeReadings_keeps : Keeps freeReadings := by
  intro s h
  unfold freeReadings
  refine each_keeps _ _ (fun n t ht => ?_) _ (State.wr_keeps _ _ _ _ (State.free_keeps 7 s h))
  split
  · exact State.wr_keeps _ _ _ _ (State.free_keeps 16 t ht)
  · exact ht

theorem monitorAll_keeps (tick : Nat) : Keeps (monitorAll tick) := by
  intro s h
  unfold monitorAll
  try dsimp only [State.free, id]
  repeat' (first
    | with_reducible assumption
    | with_reducible apply freeReadings_keeps
    | with_reducible apply atomWatch_keeps
    | with_reducible apply monitorTick_keeps
    | with_reducible apply tempCheck_keeps
    | with_reducible apply hoMonitor_keeps
    | with_reducible apply readTemp_keeps
    | simp only [wf_upd]
    | with_reducible rfl
    | split
    | intro _ _ _
    | intro _ _
    | intro _
    | dsimp only [State.free, id])

theorem storeFit_keeps (m : Nat) (g : NgModel) : Keeps (storeFit m g) := by
  intro s h
  unfold storeFit
  try dsimp only [State.free, id]
  repeat' (first
    | with_reducible assumption
    | with_reducible apply State.wr_keeps
    | simp only [wf_upd]
    | with_reducible rfl
    | split
    | intro _ _ _
    | intro _ _
    | intro _
    | dsimp only [State.free, id])

theorem nougatSample_keeps (m : Nat) : Keeps (nougatSample m) := by
  intro s h
  unfold nougatSample
  try dsimp only [State.free, id]
  repeat' (first
    | with_reducible assumption
    | with_reducible apply State.setNg_keeps
    | with_reducible apply storeFit_keeps
    | with_reducible apply State.wr_keeps
    | with_reducible apply setNgState_keeps
    | simp only [wf_upd]
    | with_reducible rfl
    | split
    | intro _ _ _
    | intro _ _
    | intro _
    | dsimp only [State.free, id])

theorem tuneWrite_keeps (ack : Bool) : Keeps (tuneWrite ack) := by
  intro s h
  unfold tuneWrite
  try dsimp only [State.free, id]
  repeat' (first
    | with_reducible assumption
    | with_reducible apply State.wr_keeps
    | with_reducible apply post_keeps
    | simp only [wf_upd]
    | with_reducible rfl
    | split
    | intro _ _ _
    | intro _ _
    | intro _
    | dsimp only [State.free, id])

theorem atomTune_keeps (ack : Bool) : Keeps (atomTune ack) := by
  intro s h
  unfold atomTune
  try dsimp only [State.free, id]
  repeat' (first
    | with_reducible assumption
    | with_reducible apply State.wr_keeps
    | with_reducible apply tuneWrite_keeps
    | simp only [wf_upd]
    | with_reducible rfl
    | split
    | intro _ _ _
    | intro _ _
    | intro _
    | dsimp only [State.free, id])

theorem atomAlm_keeps (level : Bool) : Keeps (atomAlm level) := by
  intro s h
  unfold atomAlm
  try dsimp only [State.free, id]
  repeat' (first
    | with_reducible assumption
    | with_reducible apply atomWatch_keeps
    | simp only [wf_upd]
    | with_reducible rfl
    | split
    | intro _ _ _
    | intro _ _
    | intro _
    | dsimp only [State.free, id])

theorem srvCommand_keeps (w : Win) (body : State → State) (hbody : Keeps body) : Keeps (srvCommand w body) := by
  intro s h
  unfold srvCommand
  try dsimp only [State.free, id]
  repeat' (first
    | with_reducible assumption
    | with_reducible apply refuse_keeps
    | with_reducible apply command_keeps
    | apply hbody
    | simp only [wf_upd]
    | with_reducible rfl
    | split
    | intro _ _ _
    | intro _ _
    | intro _
    | dsimp only [State.free, id])

theorem opPhaseStep_keeps (w : Win) : Keeps (opPhaseStep w) := by
  intro s h
  unfold opPhaseStep
  try dsimp only [State.free, id]
  repeat' (first
    | with_reducible assumption
    | with_reducible apply refuse_keeps
    | with_reducible apply stewardAdjust_keeps
    | with_reducible apply completeOk_keeps
    | with_reducible apply srvCommand_keeps
    | simp only [wf_upd]
    | with_reducible rfl
    | split
    | intro _ _ _
    | intro _ _
    | intro _
    | dsimp only [State.free, id])

theorem opAcceptOffset_keeps (w : Win) : Keeps (opAcceptOffset w) := by
  intro s h
  unfold opAcceptOffset
  try dsimp only [State.free, id]
  repeat' (first
    | with_reducible assumption
    | with_reducible apply refuse_keeps
    | with_reducible apply State.wr_keeps
    | with_reducible apply accept_keeps
    | with_reducible apply post_keeps
    | with_reducible apply completeOk_keeps
    | with_reducible apply acceptStep_keeps
    | with_reducible apply syncSys_keeps
    | with_reducible apply srvCommand_keeps
    | with_reducible apply onlyIf_keeps
    | simp only [wf_upd]
    | with_reducible rfl
    | split
    | intro _ _ _
    | intro _ _
    | intro _
    | dsimp only [State.free, id])

theorem resetModel_keeps (m : Nat) : Keeps (resetModel m) := by
  intro s h
  unfold resetModel
  try dsimp only [State.free, id]
  repeat' (first
    | with_reducible assumption
    | with_reducible apply State.setNg_keeps
    | with_reducible apply State.wr_keeps
    | with_reducible apply setNgState_keeps
    | with_reducible apply each_keeps
    | simp only [wf_upd]
    | with_reducible rfl
    | split
    | intro _ _ _
    | intro _ _
    | intro _
    | dsimp only [State.free, id])

theorem opNougatReset_keeps (w : Win) : Keeps (opNougatReset w) := by
  intro s h
  unfold opNougatReset
  try dsimp only [State.free, id]
  repeat' (first
    | with_reducible assumption
    | with_reducible apply completeOk_keeps
    | with_reducible apply resetModel_keeps
    | with_reducible apply srvCommand_keeps
    | simp only [wf_upd]
    | with_reducible rfl
    | split
    | intro _ _ _
    | intro _ _
    | intro _
    | dsimp only [State.free, id])

theorem opAtomTuneNow_keeps (w : Win) (ack : Bool) : Keeps (opAtomTuneNow w ack) := by
  intro s h
  unfold opAtomTuneNow
  try dsimp only [State.free, id]
  repeat' (first
    | with_reducible assumption
    | with_reducible apply completeOk_keeps
    | with_reducible apply tuneWrite_keeps
    | with_reducible apply refuse_keeps
    | with_reducible apply srvCommand_keeps
    | simp only [wf_upd]
    | with_reducible rfl
    | split
    | intro _ _ _
    | intro _ _
    | intro _
    | dsimp only [State.free, id])

theorem writeSrvCtrl_keeps (fn v : Nat) : Keeps (writeSrvCtrl fn v) := by
  intro s h
  unfold writeSrvCtrl
  try dsimp only [State.free, id]
  repeat' (first
    | with_reducible assumption
    | with_reducible apply postTo_keeps
    | with_reducible apply State.wr_keeps
    | with_reducible apply writeAtDoor_keeps
    | simp only [wf_upd]
    | with_reducible rfl
    | split
    | intro _ _ _
    | intro _ _
    | intro _
    | dsimp only [State.free, id])

theorem writeHoCfg_keeps (fn v : Nat) : Keeps (writeHoCfg fn v) := by
  intro s h
  unfold writeHoCfg
  try dsimp only [State.free, id]
  repeat' (first
    | with_reducible assumption
    | with_reducible apply postTo_keeps
    | with_reducible apply State.wr_keeps
    | with_reducible apply atomWatch_keeps
    | with_reducible apply writeAtDoor_keeps
    | simp only [wf_upd]
    | with_reducible rfl
    | split
    | intro _ _ _
    | intro _ _
    | intro _
    | dsimp only [State.free, id])

end Sys2Proof.Machine
end

