-- ==== Sys2Proof/Laws/KeepBusTime.lean ====
section
/-! SUPPORT. What the operations of BusTime keep: the canonical form of the memories and of the register file. -/

set_option Elab.async false

set_option linter.unusedSimpArgs false
set_option linter.unusedTactic false
set_option linter.unreachableTactic false

namespace Sys2Proof.Machine

theorem tbShared_keeps (w : Win) (off v : Nat) : Keeps (tbShared w off v) := by
  intro s h
  unfold tbShared
  try dsimp only [State.free, id]
  repeat' (first
    | with_reducible assumption
    | with_reducible apply writeReg_keeps
    | with_reducible apply refuseWrite_keeps
    | with_reducible apply writeAtDoor_keeps
    | with_reducible apply onlyIf_keeps
    | simp only [wf_upd]
    | with_reducible rfl
    | split
    | intro _ _ _
    | intro _ _
    | intro _
    | dsimp only [State.free, id])

theorem writeVcCfg_keeps (w : Win) (x : Nat) : Keeps (writeVcCfg w x) := by
  intro s h
  unfold writeVcCfg
  try dsimp only [State.free, id]
  repeat' (first
    | with_reducible assumption
    | with_reducible apply State.setVc_keeps
    | with_reducible apply refuseWrite_keeps
    | with_reducible apply postTo_keeps
    | with_reducible apply writeAtDoor_keeps
    | with_reducible apply onlyIf_keeps
    | simp only [wf_upd]
    | with_reducible rfl
    | split
    | intro _ _ _
    | intro _ _
    | intro _
    | dsimp only [State.free, id])

theorem writeVcLimit_keeps (w : Win) (x : Nat) : Keeps (writeVcLimit w x) := by
  intro s h
  unfold writeVcLimit
  try dsimp only [State.free, id]
  repeat' (first
    | with_reducible assumption
    | with_reducible apply State.setVc_keeps
    | with_reducible apply refuseWrite_keeps
    | with_reducible apply writeAtDoor_keeps
    | with_reducible apply onlyIf_keeps
    | simp only [wf_upd]
    | with_reducible rfl
    | split
    | intro _ _ _
    | intro _ _
    | intro _
    | dsimp only [State.free, id])

theorem vcCmd_keeps (w : Win) (v : Nat) : Keeps (vcCmd w v) := by
  intro s h
  unfold vcCmd
  try dsimp only [State.free, id]
  repeat' (first
    | with_reducible assumption
    | with_reducible apply opVcSet_keeps
    | with_reducible apply opVcAbort_keeps
    | with_reducible apply opVcRate_keeps
    | with_reducible apply opVcAdjust_keeps
    | with_reducible apply opSchedAdd_keeps
    | with_reducible apply opSchedCancel_keeps
    | with_reducible apply opSchedClear_keeps
    | with_reducible apply opVcRetire_keeps
    | with_reducible apply opVcResetClock_keeps
    | with_reducible apply vcRefuse_keeps
    | with_reducible apply vcCommand_keeps
    | simp only [wf_upd]
    | with_reducible rfl
    | split
    | intro _ _ _
    | intro _ _
    | intro _
    | dsimp only [State.free, id])

theorem writeTB_keeps (w : Win) (off v : Nat) : Keeps (writeTB w off v) := by
  intro s h
  unfold writeTB
  try dsimp only [State.free, id]
  repeat' (first
    | with_reducible assumption
    | with_reducible apply writeEvt_keeps
    | with_reducible apply tbShared_keeps
    | with_reducible apply writeCg0Ctrl_keeps
    | with_reducible apply opCapture_keeps
    | with_reducible apply writeVcSel_keeps
    | with_reducible apply writeVcCfg_keeps
    | with_reducible apply writeVcLimit_keeps
    | with_reducible apply vcCmd_keeps
    | with_reducible apply plain_keeps
    | simp only [wf_upd]
    | with_reducible rfl
    | split
    | intro _ _ _
    | intro _ _
    | intro _
    | dsimp only [State.free, id])

theorem writeBND_keeps (w : Win) (off v : Nat) : Keeps (writeBND w off v) := by
  intro s h
  unfold writeBND
  try dsimp only [State.free, id]
  repeat' (first
    | with_reducible assumption
    | with_reducible apply writeEvt_keeps
    | with_reducible apply plain_keeps
    | with_reducible apply syncBound_keeps
    | with_reducible apply opTokStart_keeps
    | with_reducible apply plainThen_keeps
    | with_reducible apply guarded_keeps
    | simp only [wf_upd]
    | with_reducible rfl
    | split
    | intro _ _ _
    | intro _ _
    | intro _
    | dsimp only [State.free, id])

theorem refThen_keeps (w : Win) (off v : Nat) : Keeps (refThen w off v) := by
  intro s h
  unfold refThen
  try dsimp only [State.free, id]
  repeat' (first
    | with_reducible assumption
    | with_reducible apply evalSels_keeps
    | with_reducible apply syncRefStatus_keeps
    | with_reducible apply syncSlotBound_keeps
    | with_reducible apply updateQr_keeps
    | with_reducible apply plainThen_keeps
    | with_reducible apply each_keeps
    | simp only [wf_upd]
    | with_reducible rfl
    | split
    | intro _ _ _
    | intro _ _
    | intro _
    | dsimp only [State.free, id])

theorem writeREF_keeps (w : Win) (off v : Nat) : Keeps (writeREF w off v) := by
  intro s h
  unfold writeREF
  try dsimp only [State.free, id]
  repeat' (first
    | with_reducible assumption
    | with_reducible apply writeRefCfg_keeps
    | with_reducible apply refThen_keeps
    | with_reducible apply writeEvt_keeps
    | with_reducible apply plain_keeps
    | with_reducible apply guarded_keeps
    | simp only [wf_upd]
    | with_reducible rfl
    | split
    | intro _ _ _
    | intro _ _
    | intro _
    | dsimp only [State.free, id])

theorem srvCmd_keeps (w : Win) (v : Nat) : Keeps (srvCmd w v) := by
  intro s h
  unfold srvCmd
  try dsimp only [State.free, id]
  repeat' (first
    | with_reducible assumption
    | with_reducible apply opPhaseStep_keeps
    | with_reducible apply opAcceptOffset_keeps
    | with_reducible apply opNougatReset_keeps
    | with_reducible apply opAtomTuneNow_keeps
    | with_reducible apply refuse_keeps
    | with_reducible apply freeBool_keeps
    | with_reducible apply command_keeps
    | simp only [wf_upd]
    | with_reducible rfl
    | split
    | intro _ _ _
    | intro _ _
    | intro _
    | dsimp only [State.free, id])

theorem writeSRV_keeps (w : Win) (off v : Nat) : Keeps (writeSRV w off v) := by
  intro s h
  unfold writeSRV
  try dsimp only [State.free, id]
  repeat' (first
    | with_reducible assumption
    | with_reducible apply writeEvt_keeps
    | with_reducible apply writeSrvCtrl_keeps
    | with_reducible apply srvCmd_keeps
    | with_reducible apply writeHoCfg_keeps
    | with_reducible apply plain_keeps
    | with_reducible apply lockedReg_keeps
    | simp only [wf_upd]
    | with_reducible rfl
    | split
    | intro _ _ _
    | intro _ _
    | intro _
    | dsimp only [State.free, id])

theorem writeGrouped_keeps (b : Blk) (off v g : Nat) : Keeps (writeGrouped b off v g) := by
  intro s h
  unfold writeGrouped
  try dsimp only [State.free, id]
  repeat' (first
    | with_reducible assumption
    | with_reducible apply writeShadow_keeps
    | with_reducible apply writeFld_keeps
    | with_reducible apply each_keeps
    | simp only [wf_upd]
    | with_reducible rfl
    | split
    | intro _ _ _
    | intro _ _
    | intro _
    | dsimp only [State.free, id])

theorem grouped_keeps (b : Blk) (w : Win) (off v g : Nat) : Keeps (grouped b w off v g) := by
  intro s h
  unfold grouped
  try dsimp only [State.free, id]
  repeat' (first
    | with_reducible assumption
    | with_reducible apply writeGrouped_keeps
    | with_reducible apply guarded_keeps
    | simp only [wf_upd]
    | with_reducible rfl
    | split
    | intro _ _ _
    | intro _ _
    | intro _
    | dsimp only [State.free, id])

theorem memoOp_keeps (w : Win) (v : Nat) : Keeps (memoOp w v) := by
  intro s h
  unfold memoOp
  try dsimp only [State.free, id]
  repeat' (first
    | with_reducible assumption
    | with_reducible apply memoCmd_keeps
    | simp only [wf_upd]
    | with_reducible rfl
    | split
    | intro _ _ _
    | intro _ _
    | intro _
    | dsimp only [State.free, id])

theorem writeSYN_keeps (w : Win) (off v : Nat) : Keeps (writeSYN w off v) := by
  intro s h
  unfold writeSYN
  try dsimp only [State.free, id]
  repeat' (first
    | with_reducible assumption
    | with_reducible apply writeCgCtrl_keeps
    | with_reducible apply grouped_keeps
    | with_reducible apply writeEvt_keeps
    | with_reducible apply writeMemoSel_keeps
    | with_reducible apply memoOp_keeps
    | with_reducible apply plain_keeps
    | simp only [wf_upd]
    | with_reducible rfl
    | split
    | intro _ _ _
    | intro _ _
    | intro _
    | dsimp only [State.free, id])

theorem clampDiv_keeps (n : Nat) : Keeps (clampDiv n) := by
  intro s h
  unfold clampDiv
  try dsimp only [State.free, id]
  repeat' (first
    | with_reducible assumption
    | with_reducible apply writeShadow_keeps
    | simp only [wf_upd]
    | with_reducible rfl
    | split
    | intro _ _ _
    | intro _ _
    | intro _
    | dsimp only [State.free, id])

theorem writeOUT_keeps (w : Win) (off v : Nat) : Keeps (writeOUT w off v) := by
  intro s h
  unfold writeOUT
  try dsimp only [State.free, id]
  repeat' (first
    | with_reducible assumption
    | with_reducible apply clampDiv_keeps
    | with_reducible apply writeGrouped_keeps
    | with_reducible apply grouped_keeps
    | with_reducible apply writeEvt_keeps
    | with_reducible apply plain_keeps
    | with_reducible apply guarded_keeps
    | with_reducible apply onlyIf_keeps
    | simp only [wf_upd]
    | with_reducible rfl
    | split
    | intro _ _ _
    | intro _ _
    | intro _
    | dsimp only [State.free, id])

theorem writeChReg_keeps (w : Win) (n off v : Nat) : Keeps (writeChReg w n off v) := by
  intro s h
  unfold writeChReg
  try dsimp only [State.free, id]
  repeat' (first
    | with_reducible assumption
    | with_reducible apply post_keeps
    | with_reducible apply syncFull_keeps
    | with_reducible apply plain_keeps
    | with_reducible apply lockedReg_keeps
    | with_reducible apply plainThen_keeps
    | simp only [wf_upd]
    | with_reducible rfl
    | split
    | intro _ _ _
    | intro _ _
    | intro _
    | dsimp only [State.free, id])

theorem gateCtrl_keeps (w : Win) (g v : Nat) : Keeps (gateCtrl w g v) := by
  intro s h
  unfold gateCtrl
  try dsimp only [State.free, id]
  repeat' (first
    | with_reducible assumption
    | with_reducible apply writeTdcGate_keeps
    | with_reducible apply guarded_keeps
    | simp only [wf_upd]
    | with_reducible rfl
    | split
    | intro _ _ _
    | intro _ _
    | intro _
    | dsimp only [State.free, id])

theorem writeTDC_keeps (w : Win) (off v : Nat) : Keeps (writeTDC w off v) := by
  intro s h
  unfold writeTDC
  try dsimp only [State.free, id]
  repeat' (first
    | with_reducible assumption
    | with_reducible apply writeChCfg_keeps
    | with_reducible apply writeChReg_keeps
    | with_reducible apply gateCtrl_keeps
    | with_reducible apply writeEvt_keeps
    | with_reducible apply writeCalCmd_keeps
    | with_reducible apply plain_keeps
    | with_reducible apply guarded_keeps
    | simp only [wf_upd]
    | with_reducible rfl
    | split
    | intro _ _ _
    | intro _ _
    | intro _
    | dsimp only [State.free, id])

theorem writeGnCtrl_keeps (w : Win) (v : Nat) : Keeps (writeGnCtrl w v) := by
  intro s h
  unfold writeGnCtrl
  try dsimp only [State.free, id]
  repeat' (first
    | with_reducible assumption
    | with_reducible apply writeReg_keeps
    | with_reducible apply setSolState_keeps
    | with_reducible apply guarded_keeps
    | with_reducible apply onlyIf_keeps
    | simp only [wf_upd]
    | with_reducible rfl
    | split
    | intro _ _ _
    | intro _ _
    | intro _
    | dsimp only [State.free, id])

theorem writeSpCfg_keeps (w : Win) (v : Nat) : Keeps (writeSpCfg w v) := by
  intro s h
  unfold writeSpCfg
  try dsimp only [State.free, id]
  repeat' (first
    | with_reducible assumption
    | with_reducible apply writeReg_keeps
    | with_reducible apply guarded_keeps
    | with_reducible apply onlyIf_keeps
    | simp only [wf_upd]
    | with_reducible rfl
    | split
    | intro _ _ _
    | intro _ _
    | intro _
    | dsimp only [State.free, id])

theorem writeSolCfg_keeps (w : Win) (v : Nat) : Keeps (writeSolCfg w v) := by
  intro s h
  unfold writeSolCfg
  try dsimp only [State.free, id]
  repeat' (first
    | with_reducible assumption
    | with_reducible apply writeReg_keeps
    | with_reducible apply guarded_keeps
    | with_reducible apply onlyIf_keeps
    | simp only [wf_upd]
    | with_reducible rfl
    | split
    | intro _ _ _
    | intro _ _
    | intro _
    | dsimp only [State.free, id])

theorem writeGnBase_keeps (w : Win) (off v size : Nat) : Keeps (writeGnBase w off v size) := by
  intro s h
  unfold writeGnBase
  try dsimp only [State.free, id]
  repeat' (first
    | with_reducible assumption
    | with_reducible apply writeReg_keeps
    | with_reducible apply guarded_keeps
    | simp only [wf_upd]
    | with_reducible rfl
    | split
    | intro _ _ _
    | intro _ _
    | intro _
    | dsimp only [State.free, id])

theorem writeGnChan_keeps (w : Win) (c off v : Nat) : Keeps (writeGnChan w c off v) := by
  intro s h
  unfold writeGnChan
  try dsimp only [State.free, id]
  repeat' (first
    | with_reducible assumption
    | with_reducible apply post_keeps
    | with_reducible apply writeUpdCtrl_keeps
    | with_reducible apply plain_keeps
    | with_reducible apply lockedReg_keeps
    | simp only [wf_upd]
    | with_reducible rfl
    | split
    | intro _ _ _
    | intro _ _
    | intro _
    | dsimp only [State.free, id])

theorem writeGN_keeps (w : Win) (off v : Nat) : Keeps (writeGN w off v) := by
  intro s h
  unfold writeGN
  try dsimp only [State.free, id]
  repeat' (first
    | with_reducible assumption
    | refine pair_wf (by with_reducible assumption) ?_
    | with_reducible apply writeEvt_keeps
    | with_reducible apply writeGnCtrl_keeps
    | with_reducible apply writeGnBase_keeps
    | with_reducible apply writeGnPortCfg_keeps
    | with_reducible apply post_keeps
    | with_reducible apply plain_keeps
    | with_reducible apply opGnAcq_keeps
    | with_reducible apply State.free_keeps
    | with_reducible apply writeSsCmd_keeps
    | with_reducible apply opGnCh_keeps
    | with_reducible apply writeSolCfg_keeps
    | with_reducible apply writeSpCfg_keeps
    | with_reducible apply writePpsCfg_keeps
    | with_reducible apply writePpsCommit_keeps
    | with_reducible apply writeAudCfg_keeps
    | with_reducible apply writeSnapCtrl_keeps
    | with_reducible apply writeGnChan_keeps
    | with_reducible apply lockedReg_keeps
    | with_reducible apply guarded_keeps
    | simp only [wf_upd]
    | with_reducible rfl
    | split
    | intro _ _ _
    | intro _ _
    | intro _
    | dsimp only [State.free, id])

end Sys2Proof.Machine
end

