-- ==== Sys2Proof/Laws/KeepBus.lean ====
section
/-! SUPPORT. What the operations of Bus keep: the canonical form of the memories and of the register file. -/

set_option Elab.async false

set_option linter.unusedSimpArgs false
set_option linter.unusedTactic false
set_option linter.unreachableTactic false

namespace Sys2Proof.Machine

theorem regWrite_keeps (w : Win) (b : Blk) (off v : Nat) : Keeps (regWrite w b off v) := by
  intro s h
  unfold regWrite
  try dsimp only [State.free, id]
  repeat' (first
    | with_reducible assumption
    | with_reducible apply writeTB_keeps
    | with_reducible apply writeBND_keeps
    | with_reducible apply writeREF_keeps
    | with_reducible apply writeSRV_keeps
    | with_reducible apply writeSYN_keeps
    | with_reducible apply writeOUT_keeps
    | with_reducible apply writeTDC_keeps
    | with_reducible apply writeGN_keeps
    | with_reducible apply writePRT_keeps
    | with_reducible apply writeSVE_keeps
    | with_reducible apply writeSEC_keeps
    | with_reducible apply writeSCH_keeps
    | with_reducible apply writePOL_keeps
    | with_reducible apply writeKS_keeps
    | with_reducible apply writeSHM_keeps
    | with_reducible apply writeUBW_keeps
    | with_reducible apply writeMATE_keeps
    | with_reducible apply writeHIF_keeps
    | with_reducible apply writeSTW_keeps
    | with_reducible apply writeRST_keeps
    | with_reducible apply writePWR_keeps
    | with_reducible apply writeFLT_keeps
    | with_reducible apply writePMC_keeps
    | with_reducible apply writeMGP_keeps
    | simp only [wf_upd]
    | with_reducible rfl
    | split
    | intro _ _ _
    | intro _ _
    | intro _
    | dsimp only [State.free, id])

theorem readEffect_keeps (w : Win) (b : Blk) (off : Nat) : Keeps (readEffect w b off) := by
  intro s h
  unfold readEffect
  try dsimp only [State.free, id]
  repeat' (first
    | with_reducible assumption
    | with_reducible apply readFrcLo_keeps
    | with_reducible apply readVcBase0_keeps
    | with_reducible apply readCntLo_keeps
    | with_reducible apply readWinLo_keeps
    | simp only [wf_upd]
    | with_reducible rfl
    | split
    | intro _ _ _
    | intro _ _
    | intro _
    | dsimp only [State.free, id])

theorem busRead_keeps (w : Win) (b : Blk) (off : Nat) : ∀ s : State, s.wf = true → (busRead w b off s).2.wf = true := by
  intro s h
  unfold busRead
  try dsimp only [State.free, id]
  repeat' (first
    | with_reducible assumption
    | with_reducible apply readEffect_keeps
    | simp only [wf_upd]
    | with_reducible rfl
    | split
    | intro _ _ _
    | intro _ _
    | intro _
    | dsimp only [State.free, id])

theorem mmioReadRefused_keeps (fn a : Nat) : Keeps (mmioReadRefused fn a) := by
  intro s h
  unfold mmioReadRefused
  try dsimp only [State.free, id]
  repeat' (first
    | with_reducible assumption
    | with_reducible apply protFault_keeps
    | with_reducible apply mmioDone_keeps
    | simp only [wf_upd]
    | with_reducible rfl
    | split
    | intro _ _ _
    | intro _ _
    | intro _
    | dsimp only [State.free, id])

end Sys2Proof.Machine
end

