-- ==== Sys2Proof/Laws/KeepCommit.lean ====
section
/-! SUPPORT. What the operations of Commit keep: the canonical form of the memories and of the register file. -/

set_option Elab.async false

set_option linter.unusedSimpArgs false
set_option linter.unusedTactic false
set_option linter.unreachableTactic false

namespace Sys2Proof.Machine

theorem commitCg0_keeps (tick : Nat) : Keeps (commitCg0 tick) := by
  intro s h
  unfold commitCg0
  try dsimp only [State.free, id]
  repeat' (first
    | with_reducible assumption
    | with_reducible apply dropShadows_keeps
    | with_reducible apply dropArm_keeps
    | with_reducible apply commitShadows_keeps
    | with_reducible apply postRateSat_keeps
    | with_reducible apply State.setVc_keeps
    | with_reducible apply childLeaps_keeps
    | with_reducible apply synRate_keeps
    | with_reducible apply srvCg0Commit_keeps
    | with_reducible apply syncBound_keeps
    | with_reducible apply postAt_keeps
    | with_reducible apply State.wr_keeps
    | with_reducible apply each_keeps
    | with_reducible apply onlyIf_keeps
    | simp only [wf_upd]
    | with_reducible rfl
    | split
    | intro _ _ _
    | intro _ _
    | intro _
    | dsimp only [State.free, id])

theorem commitOd_keeps (k tick : Nat) : Keeps (commitOd k tick) := by
  intro s h
  unfold commitOd
  try dsimp only [State.free, id]
  repeat' (first
    | with_reducible assumption
    | with_reducible apply srvOdCommit_keeps
    | with_reducible apply dropArm_keeps
    | with_reducible apply commitShadows_keeps
    | with_reducible apply synRate_keeps
    | simp only [wf_upd]
    | with_reducible rfl
    | split
    | intro _ _ _
    | intro _ _
    | intro _
    | dsimp only [State.free, id])

theorem commitPorts_keeps (r : CgRef) (ev : EvRef) (tick : Nat) : Keeps (commitPorts r ev tick) := by
  intro s h
  unfold commitPorts
  try dsimp only [State.free, id]
  repeat' (first
    | with_reducible assumption
    | with_reducible apply postAt_keeps
    | with_reducible apply dropArm_keeps
    | with_reducible apply commitShadows_keeps
    | with_reducible apply State.wr_keeps
    | simp only [wf_upd]
    | with_reducible rfl
    | split
    | intro _ _ _
    | intro _ _
    | intro _
    | dsimp only [State.free, id])

theorem commitGroup_keeps (g tick : Nat) : Keeps (commitGroup g tick) := by
  intro s h
  unfold commitGroup
  try dsimp only [State.free, id]
  repeat' (first
    | with_reducible assumption
    | with_reducible apply commitCg0_keeps
    | with_reducible apply commitOd_keeps
    | with_reducible apply synCommit_keeps
    | with_reducible apply commitPorts_keeps
    | simp only [wf_upd]
    | with_reducible rfl
    | split
    | intro _ _ _
    | intro _ _
    | intro _
    | dsimp only [State.free, id])

theorem groupCommit_keeps (g tick : Nat) : Keeps (groupCommit g tick) := by
  intro s h
  unfold groupCommit
  try dsimp only [State.free, id]
  repeat' (first
    | with_reducible assumption
    | with_reducible apply commitGroup_keeps
    | simp only [wf_upd]
    | with_reducible rfl
    | split
    | intro _ _ _
    | intro _ _
    | intro _
    | dsimp only [State.free, id])

end Sys2Proof.Machine
end

