-- ==== Sys2Proof/Laws/KeepEgress.lean ====
section
/-! SUPPORT. What the operations of Egress keep: the canonical form of the memories and of the register file. -/

set_option Elab.async false

set_option linter.unusedSimpArgs false
set_option linter.unusedTactic false
set_option linter.unreachableTactic false

namespace Sys2Proof.Machine

theorem txDiscard_keeps (n cause : Nat) (f : TxFrame) : Keeps (txDiscard n cause f) := by
  intro s h
  unfold txDiscard
  try dsimp only [State.free, id]
  repeat' (first
    | with_reducible assumption
    | with_reducible apply portDiscard_keeps
    | with_reducible apply State.wr_keeps
    | simp only [wf_upd]
    | with_reducible rfl
    | split
    | intro _ _ _
    | intro _ _
    | intro _
    | dsimp only [State.free, id])

theorem syncReturned_keeps (n : Nat) (f : TxFrame) (x32 : Nat) (time : Int) : Keeps (syncReturned n f x32 time) := by
  intro s h
  unfold syncReturned
  try dsimp only [State.free, id]
  repeat' (first
    | with_reducible assumption
    | with_reducible apply pushGranted_keeps
    | simp only [wf_upd]
    | with_reducible rfl
    | split
    | intro _ _ _
    | intro _ _
    | intro _
    | dsimp only [State.free, id])

theorem sendFrame_keeps (n : Nat) (f : TxFrame) (x32 b : Nat) (free : Rat) : Keeps (sendFrame n f x32 b free) := by
  intro s h
  unfold sendFrame
  try dsimp only [State.free, id]
  repeat' (first
    | with_reducible assumption
    | with_reducible apply State.setPrtPort_keeps
    | with_reducible apply count_keeps
    | with_reducible apply tsrWrite_keeps
    | with_reducible apply post_keeps
    | with_reducible apply State.wr_keeps
    | with_reducible apply writeSample_keeps
    | with_reducible apply txComplete_keeps
    | with_reducible apply syncReturned_keeps
    | with_reducible apply onlyIf_keeps
    | simp only [wf_upd]
    | with_reducible rfl
    | split
    | intro _ _ _
    | intro _ _
    | intro _
    | dsimp only [State.free, id])

theorem offerFrame_keeps (n : Nat) (f : TxFrame) (x32 b : Nat) (free : Rat) : Keeps (offerFrame n f x32 b free) := by
  intro s h
  unfold offerFrame
  try dsimp only [State.free, id]
  repeat' (first
    | with_reducible assumption
    | with_reducible apply txDiscard_keeps
    | with_reducible apply post_keeps
    | with_reducible apply sendFrame_keeps
    | simp only [wf_upd]
    | with_reducible rfl
    | split
    | intro _ _ _
    | intro _ _
    | intro _
    | dsimp only [State.free, id])

theorem headTx_keeps (n : Nat) (f : TxFrame) (rest : List TxFrame) (x32 b : Nat) : Keeps (headTx n f rest x32 b) := by
  intro s h
  unfold headTx
  try dsimp only [State.free, id]
  repeat' (first
    | with_reducible assumption
    | with_reducible apply offerFrame_keeps
    | with_reducible apply State.setSchPort_keeps
    | with_reducible apply State.wr_keeps
    | simp only [wf_upd]
    | with_reducible rfl
    | split
    | intro _ _ _
    | intro _ _
    | intro _
    | dsimp only [State.free, id])

theorem launchTx_keeps (n : Nat) (l : Launch) : Keeps (launchTx n l) := by
  intro s h
  unfold launchTx
  try dsimp only [State.free, id]
  repeat' (first
    | with_reducible assumption
    | with_reducible apply offerFrame_keeps
    | with_reducible apply State.setSchPort_keeps
    | simp only [wf_upd]
    | with_reducible rfl
    | split
    | intro _ _ _
    | intro _ _
    | intro _
    | dsimp only [State.free, id])

theorem frameTx_keeps (n x32 b : Nat) : Keeps (frameTx n x32 b) := by
  intro s h
  unfold frameTx
  try dsimp only [State.free, id]
  repeat' (first
    | with_reducible assumption
    | with_reducible apply headTx_keeps
    | with_reducible apply launchTx_keeps
    | simp only [wf_upd]
    | with_reducible rfl
    | split
    | intro _ _ _
    | intro _ _
    | intro _
    | dsimp only [State.free, id])

theorem launchMissed_keeps (n : Nat) : Keeps (launchMissed n) := by
  intro s h
  unfold launchMissed
  try dsimp only [State.free, id]
  repeat' (first
    | with_reducible assumption
    | with_reducible apply launchMiss_keeps
    | with_reducible apply State.setSchPort_keeps
    | simp only [wf_upd]
    | with_reducible rfl
    | split
    | intro _ _ _
    | intro _ _
    | intro _
    | dsimp only [State.free, id])

end Sys2Proof.Machine
end

