-- ==== Sys2Proof/Laws/KeepRecord.lean ====
section
/-! SUPPORT. What the operations of Record keep: the canonical form of the memories and of the register file. -/

set_option Elab.async false

set_option linter.unusedSimpArgs false
set_option linter.unusedTactic false
set_option linter.unreachableTactic false

namespace Sys2Proof.Machine

theorem clearCopy_keeps (c : Nat) : Keeps (clearCopy c) := by
  intro s h
  unfold clearCopy
  rw [State.wf_iff] at h ⊢
  refine ⟨h.1, h.2.1, h.2.2.1, ?_, h.2.2.2.2⟩
  dsimp only
  exact twf_tfilter _ _ h.2.2.2.1

theorem instWrite_keeps (wr : Win → Blk → Nat → Nat → State → State) (w : Win) (b : Blk) (off v : Nat) (hwr : ∀ a0 a1 a2 a3, Keeps (wr a0 a1 a2 a3)) : Keeps (instWrite wr w b off v) := by
  intro s h
  unfold instWrite
  try dsimp only [State.free, id]
  repeat' (first
    | with_reducible assumption
    | with_reducible apply writeReg_keeps
    | apply hwr
    | simp only [wf_upd]
    | with_reducible rfl
    | split
    | intro _ _ _
    | intro _ _
    | intro _
    | dsimp only [State.free, id])

theorem runRecord_keeps (wr : Win → Blk → Nat → Nat → State → State) (w : Win) (b : Blk) (o : Octets) (hwr : ∀ a0 a1 a2 a3, Keeps (wr a0 a1 a2 a3)) : Keeps (runRecord wr w b o) := by
  intro s h
  unfold runRecord
  try dsimp only [State.free, id]
  repeat' (first
    | with_reducible assumption
    | with_reducible apply instWrite_keeps
    | with_reducible apply each_keeps
    | apply hwr
    | simp only [wf_upd]
    | with_reducible rfl
    | split
    | intro _ _ _
    | intro _ _
    | intro _
    | dsimp only [State.free, id])

end Sys2Proof.Machine
end

