-- ==== Sys2Proof/Laws/KeepImage.lean ====
section
/-! SUPPORT. What the operations of Image keep: the canonical form of the memories and of the register file. -/

set_option Elab.async false

set_option linter.unusedSimpArgs false
set_option linter.unusedTactic false
set_option linter.unreachableTactic false

namespace Sys2Proof.Machine

theorem applyPlan_keeps (l : List Octets) : Keeps (applyPlan l) := by
  intro s h
  unfold applyPlan
  try dsimp only [State.free, id]
  repeat' (first
    | with_reducible assumption
    | with_reducible apply setContract_keeps
    | with_reducible apply each_keeps
    | simp only [wf_upd]
    | with_reducible rfl
    | split
    | intro _ _ _
    | intro _ _
    | intro _
    | dsimp only [State.free, id])

theorem applyRec_keeps (i : Nat) (r : Octets) : Keeps (applyRec i r) := by
  intro s h
  unfold applyRec
  try dsimp only [State.free, id]
  repeat' (first
    | with_reducible assumption
    | with_reducible apply regWrite_keeps
    | with_reducible apply clearCopy_keeps
    | with_reducible apply runRecord_keeps
    | simp only [wf_upd]
    | with_reducible rfl
    | split
    | intro _ _ _
    | intro _ _
    | intro _
    | dsimp only [State.free, id])

end Sys2Proof.Machine
end

