-- ==== Sys2Proof/Laws/KeepSteward.lean ====
section
/-! SUPPORT. What the operations of Steward keep: the canonical form of the memories and of the register file. -/

set_option Elab.async false

set_option linter.unusedSimpArgs false
set_option linter.unusedTactic false
set_option linter.unreachableTactic false

namespace Sys2Proof.Machine

theorem applyPatches_keeps (l : List Octets) : Keeps (applyPatches l) := by
  intro s h
  unfold applyPatches
  try dsimp only [State.free, id]
  repeat' (first
    | with_reducible assumption
    | with_reducible apply State.wr_keeps
    | with_reducible apply each_keeps
    | simp only [wf_upd]
    | with_reducible rfl
    | split
    | intro _ _ _
    | intro _ _
    | intro _
    | dsimp only [State.free, id])

theorem putEntries_keeps (l : List Octets) : Keeps (putEntries l) := by
  intro s h
  unfold putEntries
  try dsimp only [State.free, id]
  repeat' (first
    | with_reducible assumption
    | with_reducible apply ptPut_keeps
    | with_reducible apply each_keeps
    | simp only [wf_upd]
    | with_reducible rfl
    | split
    | intro _ _ _
    | intro _ _
    | intro _
    | dsimp only [State.free, id])

theorem zeroRange_keeps (a n : Nat) : Keeps (zeroRange a n) := by
  intro s h
  unfold zeroRange
  rw [State.wf_iff] at h ⊢
  exact ⟨wf_filter _ _ h.1, h.2⟩

theorem zeroContexts_keeps  : Keeps zeroContexts := by
  intro s h
  unfold zeroContexts
  try dsimp only [State.free, id]
  repeat' (first
    | with_reducible assumption
    | with_reducible apply zeroRange_keeps
    | with_reducible apply frameDropped_keeps
    | with_reducible apply State.setQ_keeps
    | with_reducible apply syncCtxUsed_keeps
    | with_reducible apply State.wr_keeps
    | with_reducible apply each_keeps
    | simp only [wf_upd]
    | with_reducible rfl
    | split
    | intro _ _ _
    | intro _ _
    | intro _
    | dsimp only [State.free, id])

theorem armGroups_keeps  : Keeps armGroups := by
  intro s h
  unfold armGroups
  try dsimp only [State.free, id]
  repeat' (first
    | with_reducible assumption
    | with_reducible apply writeCgCtrl_keeps
    | with_reducible apply writePortCg_keeps
    | with_reducible apply each_keeps
    | with_reducible apply onlyIf_keeps
    | simp only [wf_upd]
    | with_reducible rfl
    | split
    | intro _ _ _
    | intro _ _
    | intro _
    | dsimp only [State.free, id])

theorem measure_keeps  : Keeps measure := by
  intro s h
  unfold measure
  try dsimp only [State.free, id]
  repeat' (first
    | with_reducible assumption
    | with_reducible apply State.wr_keeps
    | with_reducible apply each_keeps
    | simp only [wf_upd]
    | with_reducible rfl
    | split
    | intro _ _ _
    | intro _ _
    | intro _
    | dsimp only [State.free, id])

theorem setRunning_keeps (src : Nat) (o : Octets) : Keeps (setRunning src o) := by
  intro s h
  unfold setRunning
  try dsimp only [State.free, id]
  repeat' (first
    | with_reducible assumption
    | with_reducible apply State.wr_keeps
    | with_reducible apply State.wr64_keeps
    | simp only [wf_upd]
    | with_reducible rfl
    | split
    | intro _ _ _
    | intro _ _
    | intro _
    | dsimp only [State.free, id])

theorem runSect_keeps (x : Sect) (y : ImgRun) (h : y.st.wf = true) : (runSect x y).st.wf = true := by
  unfold runSect
  generalize x.recs.zipIdx = l
  induction l generalizing y with
  | nil => exact h
  | cons e l ih =>
    refine ih _ ?_
    dsimp only
    split
    · exact applyRec_keeps _ _ _ h
    · exact h

theorem applySect_keeps (x : Sect) (y : ImgRun) (h : y.st.wf = true) : (applySect x y).st.wf = true := by
  unfold applySect
  split
  · dsimp only
    with_reducible apply onlyIf_keeps
    · exact zeroContexts_keeps
    · with_reducible apply applyPlan_keeps
      exact h
  · dsimp only
    with_reducible apply ptCommit_keeps
    with_reducible apply putEntries_keeps
    exact h
  · dsimp only
    with_reducible apply applyPatches_keeps
    exact h
  · exact runSect_keeps _ _ h

theorem applyImage_keeps (o : Octets) (s : State) (h : s.wf = true) : (applyImage o s).st.wf = true := by
  have hf (l : List Sect) : ∀ y : ImgRun, y.st.wf = true → (l.foldl (fun y x => applySect x y) y).st.wf = true := by
    induction l with
    | nil => exact fun _ h => h
    | cons x l ih => exact fun y h => ih _ (applySect_keeps x y h)
  unfold applyImage
  dsimp only
  with_reducible apply State.wr_keeps
  with_reducible apply armGroups_keeps
  apply hf
  with_reducible apply State.wr_keeps
  exact h

theorem bootOne_keeps (k : Nat) (s : State) (h : s.wf = true) : (bootOne k s).1.wf = true := by
  unfold bootOne
  extract_lets o y
  split
  · exact post_keeps _ _ _ (State.wr_keeps _ _ _ s h)
  · have hy : y.st.wf = true := applyImage_keeps o s h
    clear_value y
    split
    · exact post_keeps _ _ _ (setRunning_keeps _ _ _ hy)
    · exact raise_keeps _ _ _ _ (State.wr_keeps _ _ _ _ hy)

theorem bootTry_keeps (l : List Nat) : ∀ s, s.wf = true → (bootTry l s).wf = true := by
  induction l with
  | nil => exact fun _ h => h
  | cons k rest ih =>
    intro s h
    have hk := bootOne_keeps k s h
    unfold bootTry
    dsimp only
    split
    · exact hk
    · exact ih _ hk

theorem bootImage_keeps (readA readB : Bool) : Keeps (bootImage readA readB) := by
  intro s h
  unfold bootImage
  extract_lets bad
  have hb (k : Nat) (ok : Bool) (s : State) (h : s.wf = true) : (bad k ok s).wf = true := by
    show (if ok = true then s else _ : State).wf = true
    split
    · exact h
    · exact post_keeps _ _ _ (State.wr_keeps _ _ _ s h)
  exact bootTry_keeps _ _ (hb _ _ _ (hb _ _ s h))

theorem stwCommand_keeps (w : Win) (auth : State → Bool) (body : State → State) (hbody : Keeps body) : Keeps (stwCommand w auth body) := by
  intro s h
  unfold stwCommand
  try dsimp only [State.free, id]
  repeat' (first
    | with_reducible assumption
    | with_reducible apply postTo_keeps
    | with_reducible apply refuse_keeps
    | with_reducible apply command_keeps
    | apply hbody
    | simp only [wf_upd]
    | with_reducible rfl
    | split
    | intro _ _ _
    | intro _ _
    | intro _
    | dsimp only [State.free, id])

theorem stwFail_keeps (w : Win) (f : ImgFail) : Keeps (stwFail w f) := by
  intro s h
  unfold stwFail
  try dsimp only [State.free, id]
  repeat' (first
    | with_reducible assumption
    | with_reducible apply refuse_keeps
    | with_reducible apply State.wr_keeps
    | simp only [wf_upd]
    | with_reducible rfl
    | split
    | intro _ _ _
    | intro _ _
    | intro _
    | dsimp only [State.free, id])

theorem opStwLoad_keeps (w : Win) : Keeps (opStwLoad w) := by
  refine stwCommand_keeps _ _ _ (fun s h => ?_)
  split
  · exact refuse_keeps _ _ _ s h
  · split
    · exact complete_keeps _ _ _ _ s h
    · split
      · exact post_keeps _ _ _ (stwFail_keeps _ _ s h)
      · extract_lets y t
        have hy : y.st.wf = true := applyImage_keeps _ s h
        have ht : t.wf = true := completeOk_keeps _ _ _ (post_keeps _ _ _ (measure_keeps _ (setRunning_keeps _ _ _ hy)))
        clear_value t
        split
        · exact ht
        · exact raise_keeps _ _ _ t ht

theorem opSvnCommit_keeps (w : Win) : Keeps (opSvnCommit w) := by
  intro s h
  unfold opSvnCommit
  try dsimp only [State.free, id]
  repeat' (first
    | with_reducible assumption
    | with_reducible apply refuse_keeps
    | with_reducible apply completeOk_keeps
    | with_reducible apply post_keeps
    | with_reducible apply State.wr_keeps
    | with_reducible apply stwCommand_keeps
    | with_reducible apply onlyIf_keeps
    | simp only [wf_upd]
    | with_reducible rfl
    | split
    | intro _ _ _
    | intro _ _
    | intro _
    | dsimp only [State.free, id])

theorem rsBase_keeps  : Keeps rsBase := by
  intro s h
  unfold rsBase
  try dsimp only [State.free, id]
  repeat' (first
    | with_reducible assumption
    | with_reducible apply portOff_keeps
    | with_reducible apply State.wr_keeps
    | with_reducible apply each_keeps
    | simp only [wf_upd]
    | with_reducible rfl
    | split
    | intro _ _ _
    | intro _ _
    | intro _
    | dsimp only [State.free, id])

theorem opVerify_keeps (w : Win) (src : Nat) (readOk : Bool) : Keeps (opVerify w src readOk) := by
  intro s h
  unfold opVerify
  try dsimp only [State.free, id]
  repeat' (first
    | with_reducible assumption
    | with_reducible apply refuse_keeps
    | with_reducible apply complete_keeps
    | with_reducible apply rsBase_keeps
    | with_reducible apply stwFail_keeps
    | with_reducible apply completeOk_keeps
    | with_reducible apply stwCommand_keeps
    | simp only [wf_upd]
    | with_reducible rfl
    | split
    | intro _ _ _
    | intro _ _
    | intro _
    | dsimp only [State.free, id])

theorem stageSh_keeps (b : Blk) (off v g : Nat) : Keeps (stageSh b off v g) := by
  intro s h
  unfold stageSh
  try dsimp only [State.free, id]
  repeat' (first
    | with_reducible assumption
    | with_reducible apply writeShadow_keeps
    | with_reducible apply State.wr_keeps
    | with_reducible apply clampDiv_keeps
    | with_reducible apply each_keeps
    | with_reducible apply onlyIf_keeps
    | simp only [wf_upd]
    | with_reducible rfl
    | split
    | intro _ _ _
    | intro _ _
    | intro _
    | dsimp only [State.free, id])

theorem opRestructure_keeps (w : Win) (src : Nat) (readOk : Bool) : Keeps (opRestructure w src readOk) := by
  intro s h
  unfold opRestructure
  try dsimp only [State.free, id]
  repeat' (first
    | with_reducible assumption
    | with_reducible apply refuse_keeps
    | with_reducible apply complete_keeps
    | with_reducible apply rsBase_keeps
    | with_reducible apply stwFail_keeps
    | with_reducible apply accept_keeps
    | with_reducible apply State.wr_keeps
    | with_reducible apply State.wr64_keeps
    | with_reducible apply stwCommand_keeps
    | simp only [wf_upd]
    | with_reducible rfl
    | split
    | intro _ _ _
    | intro _ _
    | intro _
    | dsimp only [State.free, id])

theorem stageRec_keeps (r : Octets) (y : State × List Nat) (h : y.1.wf = true) : (stageRec r y).1.wf = true := by
  unfold stageRec
  split
  · exact h
  · extract_lets off locked v v2
    split
    · exact h
    · split
      · exact stageSh_keeps _ _ _ _ _ h
      · exact h

theorem stageAll_keeps (o : Octets) (s : State) (h : s.wf = true) : (stageAll o s).1.wf = true := by
  have hf (l : List Octets) : ∀ y : State × List Nat, y.1.wf = true → (l.foldl (fun y r => stageRec r y) y).1.wf = true := by
    induction l with
    | nil => exact fun _ h => h
    | cons r l ih => exact fun y h => ih _ (stageRec_keeps r y h)
  exact hf _ _ h

theorem rsStaged_keeps : Keeps rsStaged := by
  intro s h
  unfold rsStaged
  split
  · exact h
  · split
    · exact h
    · rename_i r _ _
      extract_lets t u
      have ht : t.wf = true := stageAll_keeps _ s h
      have hu : u.wf = true := by
        show (match sectOf r.image 2 with
          | some x => putEntries x.recs t
          | none => t : State).wf = true
        split
        · exact putEntries_keeps _ _ ht
        · exact ht
      exact post_keeps _ _ _ (finish_keeps _ _ _ _ _ _ (State.wr_keeps _ _ _ u hu))

theorem rsLate_keeps  : Keeps rsLate := by
  intro s h
  unfold rsLate
  try dsimp only [State.free, id]
  repeat' (first
    | with_reducible assumption
    | with_reducible apply post_keeps
    | with_reducible apply rsDiscard_keeps
    | simp only [wf_upd]
    | with_reducible rfl
    | split
    | intro _ _ _
    | intro _ _
    | intro _
    | dsimp only [State.free, id])

theorem opStwAbort_keeps (w : Win) : Keeps (opStwAbort w) := by
  intro s h
  unfold opStwAbort
  try dsimp only [State.free, id]
  repeat' (first
    | with_reducible assumption
    | with_reducible apply completeOk_keeps
    | with_reducible apply post_keeps
    | with_reducible apply rsDiscard_keeps
    | with_reducible apply refuse_keeps
    | with_reducible apply stwCommand_keeps
    | simp only [wf_upd]
    | with_reducible rfl
    | split
    | intro _ _ _
    | intro _ _
    | intro _
    | dsimp only [State.free, id])

theorem wipeBound_keeps  : Keeps wipeBound := by
  intro s h
  unfold wipeBound
  try dsimp only [State.free, id]
  repeat' (first
    | with_reducible assumption
    | with_reducible apply putSlot_keeps
    | with_reducible apply each_keeps
    | simp only [wf_upd]
    | with_reducible rfl
    | split
    | intro _ _ _
    | intro _ _
    | intro _
    | dsimp only [State.free, id])

theorem rsApply_keeps  : Keeps rsApply := by
  intro s h
  unfold rsApply
  try dsimp only [State.free, id]
  repeat' (first
    | with_reducible assumption
    | with_reducible apply commitGroup_keeps
    | with_reducible apply rsBase_keeps
    | with_reducible apply ptCommit_keeps
    | with_reducible apply applyPatches_keeps
    | with_reducible apply post_keeps
    | with_reducible apply measure_keeps
    | with_reducible apply setRunning_keeps
    | with_reducible apply wipeBound_keeps
    | with_reducible apply zeroContexts_keeps
    | with_reducible apply State.wr_keeps
    | with_reducible apply each_keeps
    | with_reducible apply onlyIf_keeps
    | simp only [wf_upd]
    | with_reducible rfl
    | split
    | intro _ _ _
    | intro _ _
    | intro _
    | dsimp only [State.free, id])

theorem heldRec_keeps (i : Nat) (r : Octets) : Keeps (heldRec i r) := by
  intro s h
  unfold heldRec
  try dsimp only [State.free, id]
  repeat' (first
    | with_reducible assumption
    | with_reducible apply applyRec_keeps
    | with_reducible apply writeFld_keeps
    | with_reducible apply regWrite_keeps
    | with_reducible apply each_keeps
    | simp only [wf_upd]
    | with_reducible rfl
    | split
    | intro _ _ _
    | intro _ _
    | intro _
    | dsimp only [State.free, id])

theorem rsDone_keeps : Keeps rsDone := by
  intro s h
  unfold rsDone
  split
  · exact h
  · rename_i r _
    extract_lets open_ t0 t1 t2 x0
    split
    · exact h
    · have h0 : t0.wf = true := by
        refine foldl_keeps _ _ (fun x t ht => ?_) s h
        split
        · exact applyPlan_keeps _ t ht
        · exact ht
        · exact ht
        · exact foldl_keeps _ _ (fun _ u hu => heldRec_keeps _ _ u hu) t ht
      have h1 : t1.wf = true := each_keeps _ _ (fun n => by
        refine fun t ht => onlyIf_keeps _ _ ?_ t ht
        exact fun t ht => writePortCfg_keeps _ _ _ t ht) t0 h0
      have h2 : t2.wf = true := State.wr_keeps _ _ _ t1 h1
      clear_value t2
      exact post_keeps _ _ _ (wf_of_eq (State.wr_keeps 0 F.STW_STATUS_RS_STATE 0 t2 h2) rfl rfl rfl rfl rfl)

theorem stwCmd_keeps (w : Win) (v : Nat) : Keeps (stwCmd w v) := by
  intro s h
  unfold stwCmd
  try dsimp only [State.free, id]
  repeat' (first
    | with_reducible assumption
    | with_reducible apply opStwLoad_keeps
    | with_reducible apply opRestructure_keeps
    | with_reducible apply opStwAbort_keeps
    | with_reducible apply opVerify_keeps
    | with_reducible apply opSvnCommit_keeps
    | with_reducible apply freeBool_keeps
    | with_reducible apply stwCommand_keeps
    | simp only [wf_upd]
    | with_reducible rfl
    | split
    | intro _ _ _
    | intro _ _
    | intro _
    | dsimp only [State.free, id])

theorem busWrite_keeps (w : Win) (b : Blk) (off v : Nat) : Keeps (busWrite w b off v) := by
  intro s h
  unfold busWrite
  try dsimp only [State.free, id]
  repeat' (first
    | with_reducible assumption
    | with_reducible apply stwCmd_keeps
    | with_reducible apply regWrite_keeps
    | simp only [wf_upd]
    | with_reducible rfl
    | split
    | intro _ _ _
    | intro _ _
    | intro _
    | dsimp only [State.free, id])

end Sys2Proof.Machine
end

