-- ==== Sys2Proof/Laws/KeepProofing.lean ====
section
/-! SUPPORT. What the operations of Proofing keep: the canonical form of the memories and of the register file. -/

set_option Elab.async false

set_option linter.unusedSimpArgs false
set_option linter.unusedTactic false
set_option linter.unreachableTactic false

namespace Sys2Proof.Machine

theorem nextStep_keeps  : Keeps nextStep := by
  intro s h
  unfold nextStep
  try dsimp only [State.free, id]
  repeat' (first
    | with_reducible assumption
    | with_reducible apply State.wr_keeps
    | simp only [wf_upd]
    | with_reducible rfl
    | split
    | intro _ _ _
    | intro _ _
    | intro _
    | dsimp only [State.free, id])

theorem checkMarker_keeps  : Keeps checkMarker := by
  intro s h
  unfold checkMarker
  try dsimp only [State.free, id]
  repeat' (first
    | with_reducible assumption
    | with_reducible apply State.wr_keeps
    | with_reducible apply raise_keeps
    | with_reducible apply post_keeps
    | with_reducible apply each_keeps
    | simp only [wf_upd]
    | with_reducible rfl
    | split
    | intro _ _ _
    | intro _ _
    | intro _
    | dsimp only [State.free, id])

theorem countSource_keeps  : Keeps countSource := by
  intro s h
  unfold countSource
  try dsimp only [State.free, id]
  repeat' (first
    | with_reducible assumption
    | with_reducible apply satAdd_keeps
    | with_reducible apply State.wr_keeps
    | with_reducible apply onlyIf_keeps
    | simp only [wf_upd]
    | with_reducible rfl
    | split
    | intro _ _ _
    | intro _ _
    | intro _
    | dsimp only [State.free, id])

theorem proof0_keeps (side : Bool) : Keeps (proof0 side) := by
  intro s h
  unfold proof0
  try dsimp only [State.free, id]
  repeat' (first
    | with_reducible assumption
    | with_reducible apply countSource_keeps
    | with_reducible apply checkMarker_keeps
    | with_reducible apply State.wr_keeps
    | simp only [wf_upd]
    | with_reducible rfl
    | split
    | intro _ _ _
    | intro _ _
    | intro _
    | dsimp only [State.free, id])

theorem proof2_keeps  : Keeps proof2 := by
  intro s h
  unfold proof2
  try dsimp only [State.free, id]
  repeat' (first
    | with_reducible assumption
    | with_reducible apply State.wr_keeps
    | simp only [wf_upd]
    | with_reducible rfl
    | split
    | intro _ _ _
    | intro _ _
    | intro _
    | dsimp only [State.free, id])

theorem useOptions_keeps (src : Nat) (o : Octets) : Keeps (useOptions src o) := by
  intro s h
  unfold useOptions
  try dsimp only [State.free, id]
  repeat' (first
    | with_reducible assumption
    | with_reducible apply State.wr_keeps
    | simp only [wf_upd]
    | with_reducible rfl
    | split
    | intro _ _ _
    | intro _ _
    | intro _
    | dsimp only [State.free, id])

theorem startSweep_keeps  : Keeps startSweep := by
  intro s h
  unfold startSweep
  try dsimp only [State.free, id]
  repeat' (first
    | with_reducible assumption
    | with_reducible apply State.wr_keeps
    | with_reducible apply each_keeps
    | simp only [wf_upd]
    | with_reducible rfl
    | split
    | intro _ _ _
    | intro _ _
    | intro _
    | dsimp only [State.free, id])

theorem proof3_keeps  : Keeps proof3 := by
  intro s h
  unfold proof3
  try dsimp only [State.free, id]
  repeat' (first
    | with_reducible assumption
    | with_reducible apply startSweep_keeps
    | with_reducible apply useOptions_keeps
    | simp only [wf_upd]
    | with_reducible rfl
    | split
    | intro _ _ _
    | intro _ _
    | intro _
    | dsimp only [State.free, id])

theorem proofRoot_keeps  : Keeps proofRoot := by
  intro s h
  unfold proofRoot
  try dsimp only [State.free, id]
  repeat' (first
    | with_reducible assumption
    | with_reducible apply clearAuth_keeps
    | with_reducible apply State.wr64_keeps
    | with_reducible apply post_keeps
    | with_reducible apply newRoot_keeps
    | with_reducible apply State.wr_keeps
    | simp only [wf_upd]
    | with_reducible rfl
    | split
    | intro _ _ _
    | intro _ _
    | intro _
    | dsimp only [State.free, id])

theorem proof5_keeps (entropyOk rootOk : Bool) : Keeps (proof5 entropyOk rootOk) := by
  intro s h
  unfold proof5
  try dsimp only [State.free, id]
  repeat' (first
    | with_reducible assumption
    | with_reducible apply State.wr_keeps
    | with_reducible apply syncKs_keeps
    | with_reducible apply proofRoot_keeps
    | simp only [wf_upd]
    | with_reducible rfl
    | split
    | intro _ _ _
    | intro _ _
    | intro _
    | dsimp only [State.free, id])

theorem proof7_keeps  : Keeps proof7 := by
  intro s h
  unfold proof7
  try dsimp only [State.free, id]
  repeat' (first
    | with_reducible assumption
    | with_reducible apply measure_keeps
    | with_reducible apply pinFaultN_keeps
    | with_reducible apply State.wr_keeps
    | with_reducible apply mateStep_keeps
    | with_reducible apply syncClaim_keeps
    | with_reducible apply setSharedDrive_keeps
    | with_reducible apply post_keeps
    | with_reducible apply onlyIf_keeps
    | simp only [wf_upd]
    | with_reducible rfl
    | split
    | intro _ _ _
    | intro _ _
    | intro _
    | dsimp only [State.free, id])

theorem proofDone_keeps (p : ProofData) : Keeps (proofDone p) := by
  intro s h
  unfold proofDone
  try dsimp only [State.free, id]
  repeat' (first
    | with_reducible assumption
    | with_reducible apply nextStep_keeps
    | with_reducible apply proof0_keeps
    | with_reducible apply proof2_keeps
    | with_reducible apply proof3_keeps
    | with_reducible apply proof5_keeps
    | with_reducible apply bootImage_keeps
    | with_reducible apply proof7_keeps
    | simp only [wf_upd]
    | with_reducible rfl
    | split
    | intro _ _ _
    | intro _ _
    | intro _
    | dsimp only [State.free, id])

theorem proofTimeout_keeps  : Keeps proofTimeout := by
  intro s h
  unfold proofTimeout
  try dsimp only [State.free, id]
  repeat' (first
    | with_reducible assumption
    | with_reducible apply raise_keeps
    | with_reducible apply nextStep_keeps
    | with_reducible apply startSweep_keeps
    | with_reducible apply useOptions_keeps
    | with_reducible apply satAdd_keeps
    | with_reducible apply State.wr_keeps
    | simp only [wf_upd]
    | with_reducible rfl
    | split
    | intro _ _ _
    | intro _ _
    | intro _
    | dsimp only [State.free, id])

end Sys2Proof.Machine
end

