-- ==== Sys2Proof/Laws/KeepRings.lean ====
section
/-! SUPPORT. What the operations of Rings keep: the canonical form of the memories and of the register file. -/

set_option Elab.async false

set_option linter.unusedSimpArgs false
set_option linter.unusedTactic false
set_option linter.unreachableTactic false

namespace Sys2Proof.Machine

theorem registerWrite_keeps (fn a v : Nat) : Keeps (registerWrite fn a v) := by
  intro s h
  unfold registerWrite
  try dsimp only [State.free, id]
  repeat' (first
    | with_reducible assumption
    | with_reducible apply mmioMalformed_keeps
    | with_reducible apply busWrite_keeps
    | with_reducible apply writeMsix_keeps
    | simp only [wf_upd]
    | with_reducible rfl
    | split
    | intro _ _ _
    | intro _ _
    | intro _
    | dsimp only [State.free, id])

theorem fetched_keeps (h : HostTag) (kind : Nat) (o : Octets) : Keeps (fetched h kind o) := by
  intro s h
  unfold fetched
  try dsimp only [State.free, id]
  repeat' (first
    | with_reducible assumption
    | with_reducible apply clearCopy_keeps
    | with_reducible apply syncInflight_keeps
    | simp only [wf_upd]
    | with_reducible rfl
    | split
    | intro _ _ _
    | intro _ _
    | intro _
    | dsimp only [State.free, id])

theorem ringFetch_keeps  : Keeps ringFetch := by
  intro s h
  unfold ringFetch
  try dsimp only [State.free, id]
  repeat' (first
    | with_reducible assumption
    | with_reducible apply State.wr_keeps
    | with_reducible apply served_keeps
    | with_reducible apply poisonUse_keeps
    | with_reducible apply count_keeps
    | with_reducible apply fetched_keeps
    | with_reducible apply onlyIf_keeps
    | simp only [wf_upd]
    | with_reducible rfl
    | split
    | intro _ _ _
    | intro _ _
    | intro _
    | dsimp only [State.free, id])

theorem setCmd_keeps (n : Nat) (f : RingCmd → RingCmd) : Keeps (setCmd n f) := by
  intro s h
  unfold setCmd
  try dsimp only [State.free, id]
  repeat' (first
    | with_reducible assumption
    | simp only [wf_upd]
    | with_reducible rfl
    | split
    | intro _ _ _
    | intro _ _
    | intro _
    | dsimp only [State.free, id])

theorem hifDone_keeps (c : RingCmd) (code : Nat) : Keeps (hifDone c code) := by
  intro s h
  unfold hifDone
  try dsimp only [State.free, id]
  repeat' (first
    | with_reducible assumption
    | with_reducible apply setCmd_keeps
    | simp only [wf_upd]
    | with_reducible rfl
    | split
    | intro _ _ _
    | intro _ _
    | intro _
    | dsimp only [State.free, id])

theorem present_keeps (c : RingCmd) : Keeps (present c) := by
  intro s h
  unfold present
  try dsimp only [State.free, id]
  repeat' (first
    | with_reducible assumption
    | with_reducible apply hifDone_keeps
    | with_reducible apply State.wr_keeps
    | with_reducible apply busWrite_keeps
    | with_reducible apply setCmd_keeps
    | with_reducible apply noteDone_keeps
    | with_reducible apply runRecord_keeps
    | with_reducible apply onlyIf_keeps
    | simp only [wf_upd]
    | with_reducible rfl
    | split
    | intro _ _ _
    | intro _ _
    | intro _
    | dsimp only [State.free, id])

theorem ringCommand_keeps (fn r : Nat) : Keeps (ringCommand fn r) := by
  intro s h
  unfold ringCommand
  try dsimp only [State.free, id]
  repeat' (first
    | with_reducible assumption
    | with_reducible apply present_keeps
    | simp only [wf_upd]
    | with_reducible rfl
    | split
    | intro _ _ _
    | intro _ _
    | intro _
    | dsimp only [State.free, id])

theorem resultWords_keeps (w : Win) (b : Blk) (l : List Nat) : ∀ s, s.wf = true → (resultWords w b l s).2.wf = true := by
  induction l with
  | nil => exact fun s h => h
  | cons a l ih => exact fun s h => ih _ (busRead_keeps w b a s h)

theorem ringCompletion_keeps (n : Nat) : Keeps (ringCompletion n) := by
  intro s h
  unfold ringCompletion
  split
  · exact h
  · split
    · exact h
    · rename_i c _ _ code cause tick _
      extract_lets x t x0 u
      have hx : x.2.wf = true := by
        show (match c.done, recBlk c.octets with
          | none, some b => resultWords (instWin c) b (recResult c.octets) s
          | _, _ => ([], s) : Octets × State).2.wf = true
        split
        · exact resultWords_keeps _ _ _ s h
        · exact h
      have ht : t.wf = true := clearCopy_keeps _ _ hx
      have hu : u.wf = true := syncInflight_keeps _ (wf_of_eq ht rfl rfl rfl rfl rfl)
      split
      · exact cqWrite_keeps _ _ _ _ u hu
      · exact hu

end Sys2Proof.Machine
end

