-- ==== Sys2Proof/WellFormed.lean ====
section
/-! DEFINITION. Which commands can occur: relations between operands that their types do not say. -/

namespace Sys2Proof

/-- A T96 (Table 2.4): its nanoseconds stay below 10^9. -/
def t96Ok (t : BitVec 96) : Bool := decide (t.toNat / 2 ^ 16 % 2 ^ 32 < 1000000000)

def t96Opt : Option (BitVec 96) → Bool
  | none => true
  | some t => t96Ok t

/-- Numbers in strictly rising order. -/
def rising (l : List Nat) : Bool := (l.zip l.tail).all fun e => decide (e.1 < e.2)

/-- An aperture access moves 1 to 512 octets and stays inside the aperture (R492, R601). -/
def mmioOk (addr : BitVec 28) : MmioAct → Bool
  | .read n => decide (1 ≤ n.toNat) && decide (n.toNat ≤ 512) && decide (addr.toNat + n.toNat ≤ 2 ^ 28)
  | .write d _ => decide (1 ≤ d.length) && decide (d.length ≤ 512) && decide (addr.toNat + d.length ≤ 2 ^ 28)

/-- Octets that a request moves (R465, R466). -/
def ShmAct.size : ShmAct → Nat
  | .read n => n.val
  | .write d _ => d.length
  | .add wide _ => if wide then 8 else 4
  | .swap wide _ => if wide then 8 else 4

/-- A request to a bank names a word of that bank and stays inside the word (R465): bank 16 × group + address bits [8:5]. -/
def reqOk (bank : Nat) (r : ShmReq) : Bool :=
  let a := r.addr.toNat
  let group := if a < 0x08000000 then a / 2 ^ 23 else 16
  16 * group + a / 32 % 16 == bank && decide (1 ≤ r.act.size) && decide (a % 32 + r.act.size ≤ 32)

/-- Which commands can occur. -/
def Instr.wf : Instr → Bool
  | .registerWrite _ addr _ => addr.toNat % 4 == 0
  | .refEdgeStamp _ _ _ _ label => t96Opt label
  | .calibrationComplete tx rx => tx.length == 256 && rx.length == 256
  | .integrationBoundary _ taps => taps.length == 14
  | .timeSolution _ _ first second => t96Ok first.time && t96Ok second.time
  | .snapCaptureDone _ stamps0 _ stamps1 => decide (stamps0.length ≤ 48) && decide (stamps1.length ≤ 48)
  | .ptpClientMessage t3 => t96Opt t3
  | .ubwMarkerRx _ _ _ _ marker => marker.length == 8
  | .ubwTimingMsg _ message => message.length == 64
  | .ubwChainFrame _ _ _ _ _ egress => rising (egress.map fun e => e.port.val)
  | .obsWindow _ seen => rising (seen.map fun x => x.n.val)
  | .shmAccess bank requests _ _ => requests.all (reqOk bank.val) && decide (requests.map fun r => r.master).Nodup
  | .contractWindowEnd tick waiting => tick.toNat % 1280 == 0 && decide waiting.Nodup
  | .mmioShmAccess _ addr act => mmioOk addr act
  | .mmioReadRefused _ addr => addr.toNat % 4 == 0
  | .faultHit sources => !sources.isEmpty && rising (sources.map fun h => h.source.val)
  | .fltInject _ real => rising (real.map fun h => h.source.val)
  | .cg0Arm _ _ | .cg0Abort _ _ _ | .synCgArm _ _ _ | .synCgAbort _ _ _ | .cg14Arm _ _ | .cg14Abort _ _ _ | .cg15Arm _ _ | .cg15Abort _ _ _
  | .groupCommit _ _ | .blockResetOrder _ | .doorAbsent _ | .blockReady _ | .doorReply _ _ | .tbFrcLoRead _ | .tbCapture _ _
  | .vcSelWrite _ _ | .vcBase0Read _ | .vcSet _ _ _ | .vcAbort _ | .vcRate _ _ | .vcAdjust _ _ | .vcSchedAdd _ _ | .vcSchedCancel _ _
  | .vcSchedClear _ | .vcRetire _ _ | .vcResetClock _ | .vcSetTick _ | .vcRateTick _ | .vcAdjustTick _ | .slewDone _ _ | .vcRetireTick _
  | .vcParentChange _ | .segmentActivation _ _ _ | .rampDone _ _ | .leapSecondEnd _ | .ptmRequest _ _ | .bndTokStart _ | .tokenDone _
  | .pathStale _ | .ageExpired | .refCfgWrite _ _ _ | .refStampMissing _ | .refLinkLoss _ | .monitorTick _ | .holdoffExpiry _
  | .esmcPdu _ _ | .esmcTimeout _ | .todinFrame _ _ _ | .servoUpdate | .servoStall | .phaseStep _ | .acceptOffset _ | .nougatReset _
  | .atomTuneNow _ _ | .rateOwnerWrite _ _ | .hoSrcWrite _ _ | .atomAlm _ | .nougatSample _ | .atomTune _ | .retuneLocked _ _
  | .retuneTimeout _ | .synthLockLoss _ | .lostRetry _ | .synMemoSelWrite _ _ | .memoPin _ | .memoUnpin _ | .memoInvalidate _
  | .outputChangeApply _ | .dividerRestart _ _ | .delayReached _ | .pulseEmit _ _ | .todFrameSend _ | .tdcEdge _ _ _ _ _ | .calPair _ _ _ _
  | .tdcRecordWrite _ | .tdcChEn _ _ _ | .tdcDrained _ | .tdcGateArm _ _ | .tdcGateDisarm _ _ | .tdcGateEdge _ _ _ _ _
  | .tdcGateFrcWindow _ | .calCmd _ _ | .calPeriodicDue _ | .gnPortEn _ _ _ | .gnPortStamp _ _ _ _ | .gnPortLost _ | .gnAcqSubmit _
  | .gnAcqAbortAll _ | .acqPrnDone _ _ _ _ _ _ _ | .acqJobDone | .ssStart _ | .ssAbort _ _ _ _ | .ssDone _ _ _ | .gnChStart _ | .gnChStop _
  | .gnChSetTow _ | .chStartEpoch _ | .loopUpdate _ _ _ | .coastExpiry _ | .measLatch _ | .surveyDone _ _ _ | .spPassDue
  | .spPassComplete _ _ | .navFrame _ _ _ _ _ _ _ | .ppsModelCommit _ | .ppsModelApply | .gnssPpsEn _ _ | .gnssPpsPulse | .auditEnWrite _ _
  | .auditSleep | .auditWake | .feWarmDone | .snapArm _ | .snapTrigger | .snapRelease _ | .prtPortEn _ _ _ | .laneLockLoss _
  | .portLinkUp _ | .portLinkDown _ _ | .remoteFault _ _ | .prtFrameRx _ _ _ _ _ _ _ _ | .prtFrameTx _ _ _ _ | .tsrEn _ _ _ _ | .delayReq _
  | .signalingRequest | .ntpRequest _ | .ntsRequest _ _ _ _ _ | .launchMiss _ | .cadenceDue _ _ | .followUp _ | .cliAnnTimeout
  | .cliSyncTimeout | .clsWrite _ _ _ | .clsWriteComplete _ | .clsRead _ | .clsInvalidate _ _ _ | .ctxRead _ | .ctxInstall _
  | .ctxRelease _ | .ctxCancelGrant _ _ | .grantSweep | .saWrite _ | .saRead _ | .saLoadKey _ | .saUnloadKey _ | .saRotate _ _
  | .rotateTick _ | .saInvalidate _ | .ntsLoad _ | .ntsMakeCurrent _ | .ntsUnload _ | .ntsMint _ _ | .ntsRead _ | .schSelect _ | .qWrite _
  | .qRead _ _ | .qFlush _ | .gateListArm _ _ _ | .gateListAbort _ _ _ | .gateTakeover _ _ | .gateEntryStart _ _ | .polWrite _ | .polRead _
  | .polRefill _ | .polClearCounts _ | .ubwPortEn _ _ _ | .ubwBlockLock _ _ | .markerMissing _ _ | .superframeTx _ _ _
  | .exchangeWindowEnd _ _ | .heartbeatSilent | .heartbeatContention | .mateHoldoffExpiry | .mateSoloTimeout | .toffeeStale | .ksReadAttr _
  | .ksGenerate _ _ | .ksDerive _ _ | .ksRestrict _ _ | .ksWipe _ _ | .ksEnvApply _ _ | .ksIdStatement _ | .ksEkCert _ | .ksAuthSet _ _
  | .ksLockAuth _ | .ksProvision _ | .ksDeploy _ | .ksReturn _ | .tamperTrip _ | .keyDelivery _ _ _ _ | .slotExpiryCheck _
  | .ceWriteback _ _ | .shmAtomAdd _ _ | .shmAtomSwap _ _ | .shmCtWrite _ | .shmCtRead _ | .sweepGroupDone _ | .walkRowStart
  | .walkRowDone _ | .walkStarved | .sqDoorbell _ _ _ | .ringFetch | .ringCommand _ _ | .ringCompletion _ | .hifNop _ | .hifCopy _
  | .ptWrite _ | .ptRead _ | .ptCommit _ | .ptCommitDrained | .ptAbort _ | .suHold _ | .suRelease _ | .pwrReq _ | .txDescriptor
  | .txCompletion | .rxDelivery | .irqIntervalEnd _ _ | .mmioMalformed _ _ _ | .hifLatTolWrite _ _ | .functionLevelReset _ | .pcieLinkDown
  | .pcieLinkUp _ _ _ _ | .stwLoad _ | .stwRestructure _ _ _ | .rsStaged | .rsLate | .rsApply | .rsDone | .stwAbort _ | .stwVerify _ _ _
  | .stwSvnCommit _ | .powerOnReset _ | .resetNAssert | .resetNRelease _ | .stuckRelease _ | .stuckClearCount | .perstN | .rstColdReset _
  | .rstWarmReset _ | .rstOptWrite _ _ | .rstClearStuck _ | .proofingStepDone _ | .proofingTimeout | .governorDecision _ | .engineWake _
  | .pwrEnter _ | .wakeEvent _ | .tmrCompare _ | .readyTimeout _ | .sclkStop | .fltLogWrite | .fltSrcWrite _ | .fltSrcRead _
  | .fltBlockReset _ | .fltLock _ | .pmcCntLoRead _ | .pmcWinCfgWrite _ _ _ _ | .pmcWinValLoRead _ _ | .pmcWindowEnd | .pmcSnapshot _ _
  | .pmcSnapshotTick | .pmcSnapshotDone | .mgpEn _ _ | .mgpLinkChange _ _ _ | .mdioStart _ _ | .mdioDone _ | .mgpFrameRx _ _ _ _
  | .mgpFrameTx _ _ _ _ _ | .mgpWakeMatch _ | .heartbeatSeen | .sclkReturn => true

end Sys2Proof
end

