-- ==== Sys2Proof/Tests/Slice0.lean ====
section
/-! SUPPORT. Tests of the model: ill-formed commands, worked examples of the spec, single steps, and for every statement with hypotheses a state and
operands that meet them. -/

set_option Elab.async false

namespace Sys2Proof.Machine

/-- The machine out of reset, with Proofing done: every door is open. -/
def up : State := State.reset.wr 0 F.RST_STATUS_PROOF_DONE 1

/-- It with some register fields set: copy, field, value. -/
def put (l : List (Nat × FieldRef × Nat)) (s : State) : State := l.foldl (fun s e => s.wr e.1 e.2.1 e.2.2) s

/-- Clocks in a state that a test asks for. -/
def ratifiedN (n : Nat) (s : State) : State := s.setVc n { s.vc n with state := .ratified }
def ratified (s : State) : State := ratifiedN 0 s
def noParent (n : Nat) (s : State) : State := s.setVc n { s.vc n with par := { (s.vc n).par with parentVc0 := false } }
/-- A system DPLL that is LOCKED on the GNSS slot in TIME mode, on a RATIFIED VC0. -/
def training0 (s : State) : State :=
  let t := ratified (put [(0, F.REF_SEL_CFG_CAP_REQ 0, 2), (0, F.REF_STATE_QR 24, 0)] s)
  { t with srv := { t.srv with sys := { t.srv.sys with st := dpLOCKED, slot := some 24, hist := [⟨0, 0, 0, none, true⟩] } } }

/-- Four pairs, of eight TRACKING channels on two GPS signals. -/
def gnPairs : List GnPair := [⟨0, 1, 0⟩, ⟨2, 3, 0⟩, ⟨4, 5, 0⟩, ⟨6, 7, 0⟩]
def gnTracking (s : State) : State :=
  let t := put ([(0, F.GN_CTRL_EN, 1), (0, F.GN_CTRL_SOLVE, 1), (0, F.GN_SOL_CFG_MIN_PAIRS, 4), (0, F.GN_SOL_CFG_SYS_EN, 1),
    (0, F.GN_SOL_CFG_MODE, 0), (0, F.GN_SOL_CFG_REF_SYS, 0), (0, F.GN_SOL_CFG_ISB_EST, 0)] ++
    (List.range 8).flatMap fun c => [(0, F.GN_CH_STATE_STATE c, 2), (0, F.GN_CH_STATE_FLAGS c, 33)]) s
  { t with gn := { t.gn with chans := (List.range 8).map fun c => (c, { sig := 4 * (c % 2), prn := 1 }) } }

/-- A message of a kind, and a state whose pipeline 0 has it in its GRANTED class. -/
def msgOf (k : SveKind) : SveMsg := { kind := k, port := 0, snap := ⟨0, zeros 32, 0⟩, frame := zeros 60 }
def withMsg (k : SveKind) (s : State) : State := { s with sve := { s.sve with granted := [(0, [msgOf k])] } }

/-- A key of a length in slot 0 that every master and tenant may have. -/
def withKey (len : Nat) (s : State) : State :=
  let t := put [(0, F.KS_LIFECYCLE_STATE, 1)] s
  { t with ks := { t.ks with root := some 1, slots := [(0, { attr := oct [1, len, 0xFF, 0, 0xFF, 0, 0, 0, 0xFF] ++ zeros 23, key := 7 })] } }

/-- A frame without octets. -/
def frame0 : TxFrame := { octets := [], act := [], queue := 0, level := 0, tenant := 0 }

/-! ### Ill-formed commands: each check of `Instr.wf` refuses one. -/

theorem test_wf_registerWrite_unaligned : (Instr.registerWrite 1 2 0).wf = false := by decide
theorem test_wf_refEdgeStamp_label : (Instr.refEdgeStamp 0 0 0 1 (some (BitVec.ofNat 96 (1000000000 * 2 ^ 16)))).wf = false := by decide
theorem test_wf_ptpClientMessage_time : (Instr.ptpClientMessage (some (BitVec.ofNat 96 (1000000000 * 2 ^ 16)))).wf = false := by decide
theorem test_wf_timeSolution_time :
    (Instr.timeSolution 0 [] ⟨0, 0, 0, 0⟩ ⟨BitVec.ofNat 96 (1000000000 * 2 ^ 16), 0, 0, 0⟩).wf = false := by decide
theorem test_wf_calibrationComplete_length : (Instr.calibrationComplete [0] (List.replicate 256 0)).wf = false := by decide
theorem test_wf_integrationBoundary_length : (Instr.integrationBoundary 0 [0, 0]).wf = false := by decide
theorem test_wf_snapCaptureDone_stamps : (Instr.snapCaptureDone [] (List.replicate 49 ⟨0, 0, 0⟩) [] []).wf = false := by decide
theorem test_wf_ubwMarkerRx_length : (Instr.ubwMarkerRx 0 0 0 0 [0xA5]).wf = false := by decide
theorem test_wf_ubwTimingMsg_length : (Instr.ubwTimingMsg 0 []).wf = false := by decide
theorem test_wf_ubwChainFrame_order : (Instr.ubwChainFrame 0 0 0 [] false [⟨2, 0, 0⟩, ⟨1, 0, 0⟩]).wf = false := by decide
theorem test_wf_obsWindow_order : (Instr.obsWindow 0 [⟨3, []⟩, ⟨3, []⟩]).wf = false := by decide
theorem test_wf_shmAccess_bank : (Instr.shmAccess 1 [⟨3, false, 0, .read 32⟩] 0 0).wf = false := by decide
theorem test_wf_shmAccess_span : (Instr.shmAccess 0 [⟨3, false, 8, .read 32⟩] 0 0).wf = false := by decide
theorem test_wf_shmAccess_master : (Instr.shmAccess 0 [⟨3, false, 0, .read 8⟩, ⟨3, true, 8, .read 8⟩] 0 0).wf = false := by decide
theorem test_wf_contractWindowEnd_tick : (Instr.contractWindowEnd 1279 []).wf = false := by decide
theorem test_wf_contractWindowEnd_twice : (Instr.contractWindowEnd 1280 [(4, 0), (4, 0)]).wf = false := by decide
theorem test_wf_mmioShmAccess_long : (Instr.mmioShmAccess 1 0 (.read 513)).wf = false := by decide
theorem test_wf_mmioReadRefused_unaligned : (Instr.mmioReadRefused 1 1).wf = false := by decide
theorem test_wf_faultHit_empty : (Instr.faultHit []).wf = false := by decide
theorem test_wf_faultHit_order : (Instr.faultHit [⟨5, 0, 0⟩, ⟨4, 0, 0⟩]).wf = false := by decide
theorem test_wf_fltInject_twice : (Instr.fltInject 1 [⟨5, 0, 0⟩, ⟨5, 1, 0⟩]).wf = false := by decide

/-! ### Worked examples and tables of the spec -/

/-- R638: +2.5 becomes 3 and -2.5 becomes -3. -/
theorem test_round_half_away : roundR (5 / 2) = 3 ∧ roundR (-5 / 2) = -3 ∧ roundDiv (-5) 2 = -3 := by decide +kernel

/-- The rate words of +1 ppb and -1 ppb of the scope chapter. -/
theorem test_rate_word : roundDiv (2 ^ 60) 1000000000 = 0x44B82FA1 ∧ uns 48 (-roundDiv (2 ^ 60) 1000000000) = 0xFFFFBB47D05F := by decide +kernel

/-- R49's worked example: one second at +12.5 ppb. -/
theorem test_clock_read :
    ({ parentVc0 := false, r := 14411518808 } : VcPar).time (32 * 1562500000) 0 = 1000000000 * 2 ^ 48 + 3518437208984375 := by decide +kernel

/-- R65's worked example: the slope of 500 ppb, and 250 ns are delivered at the tick 781,250,001, not one earlier. -/
theorem test_slew : slewSlope 500 = 0x8637BD05AF ∧
    (fun e => slewD e (250 * 2 ^ 48) (slewSlope 500)) (781250001 * 16 * 2 ^ 48 / 25) = 250 * 2 ^ 48 ∧
    slewD (781250000 * 16 * 2 ^ 48 / 25) (250 * 2 ^ 48) (slewSlope 500) < 250 * 2 ^ 48 := by decide +kernel

/-- R75's example: stamps differ by 512 ns across the wrap of TS48. -/
theorem test_ts48_difference : sgn 48 (uns 48 ((0x00000100 : Int) * 65536 - 0xFFFFFF00 * 65536)) = 512 * 65536 := by decide +kernel

/-- Table 3.5: the drift terms after 24 h, 294,087 units. -/
theorem test_bound_age : ageUnits ⟨768, 256, 0, 9223373, 94448, 0x180⟩ 135000000000000 = 294087 := by decide +kernel

/-- R192's example, for an input delay that the model leaves open: 1,065 ps is taken off two cycles. -/
theorem test_interpolate : (convert 0 1000 1700 1020 2044).2 = false ∧ (convert 0 1000 4000 1020 2044).2 = true := by decide +kernel

/-- Table 7.4: TX_DELAY, RX_DELAY and their uncertainties. -/
theorem test_calibration : calDelay (9156234 / 100) (3850 / 100) = 0x5B99D1 ∧ calDelay (11823070 / 100) (4125 / 100) = 0x76459F ∧
    calUnc (64 * 64 / 100) 10 = 3 ∧ calUnc (72 * 72 / 100) 10 = 3 := by decide +kernel

/-- The stamp of R281's worked example on 400GBASE-R: C and the FRC form. -/
theorem test_egress_stamp :
    (let s := ((((State.reset.wr 0 (F.PRT_PORT_CFG_MODE 8) 11).wr 0 (F.TDC_CAL_TX 9) 2969600).wrEff (F.PRT_PORT_BOARD_BOARD_TX_PS 8) 812).wrEff
      (F.PRT_PORT_ASYM 8) 300)
    stampTx s 8 1700 + stampA s 8 = 3556933 ∧ stampFrc (32 * 1000 + 7) (stampTx s 8 1700 + stampA s 8) = 32 * 1085 + 1) := by decide +kernel

/-- The pulse placement example of R261: cable advance, QERR edge and qErr. -/
theorem test_pps_place :
    (let s := (State.reset.wr 0 F.GN_PPS_CABLE 3500).wr 0 F.GN_PPS_CFG_PPS_MODE 1
    let t := { s with gn := { s.gn with model := { s.gn.model with f := 100, g := 65536000000000 } } }
    (ppsFix t 1).edge - (ppsFix t 1).ideal = (ppsFix t 1).edge - (64000 - 3500) ∧ (ppsFix t 1).edge = 95 * 640 ∧ (ppsFix t 1).qErr = -300) := by
  decide +kernel

/-- Table 13.1: increments, and tags compare modulo 2^32. -/
theorem test_weights : wfqInc { TxQueue.init 40 with weight := 3, ovh := 20 } { frame0 with octets := List.replicate 996 0 } = 0x1540000 ∧
    wfqInc { TxQueue.init 41 with weight := 1, ovh := 20 } { frame0 with octets := List.replicate 996 0 } = 0x3FC0000 ∧
    tagBefore 0xFF540000 0x1FC0000 = true ∧ tagBefore 0x1FC0000 0xFF540000 = false := by decide +kernel

/-- Table 11.9: the loads of two Sync requests. -/
theorem test_grant_load : loadOf (pipeCost 0 true) 4 = 2 ∧ loadOf (pipeCost 0 true) (-4) = 512 ∧ loadOf (pipeCost 0 true) (-3) = 256 := by
  decide +kernel

/-- The example of R465: context 172,115 lies at 0xA814C0, in banks 22 and 23 and row 80. -/
theorem test_shm_bank : shmBank 0xA814C0 = 22 ∧ shmBank (0xA814C0 + 32) = 23 ∧ shmRow 0xA814C0 = 80 := by decide +kernel

/-- Table 17.3: 13,408 words are refused with cause 1, and 2,099 are taken. -/
theorem test_contract :
    (let s := put [(2, F.SHM_CT_SEL_MASTER, 18), (2, F.SHM_CT_SEL_GROUP, 10)] up
    let s := setContract 19 10 128 (setContract 13 10 640 (setContract 14 10 10240 s))
    let a := opCt ⟨1, 2⟩ true (s.wr 2 F.SHM_CT_DATA_WORDS 2400)
    let b := opCt ⟨1, 2⟩ true (s.wr 2 F.SHM_CT_DATA_WORDS 2099)
    a.rd 2 F.SHM_CT_STATUS_CODE = Code.refused ∧ a.rd 2 F.SHM_CT_STATUS_CAUSE = 1 ∧ ctSum a 18 10 = 11008 ∧
    b.rd 2 F.SHM_CT_STATUS_CODE = 0 ∧ ctSum b 18 10 = 13107) := by decide +kernel

/-- R184: the CRC over the digits 1 to 9 is 0x29B1 (the example of R597 names the value). -/
theorem test_crc16 : crc16 (oct [0x31, 0x32, 0x33, 0x34, 0x35, 0x36, 0x37, 0x38, 0x39]) = 0x29B1 := by decide +kernel

/-- The FCS of IEEE 802.3 over the same digits. -/
theorem test_crc32 : crc32 (oct [0x31, 0x32, 0x33, 0x34, 0x35, 0x36, 0x37, 0x38, 0x39]) = 0xCBF43926 := by decide +kernel

/-- The exchange example of R401: delay_i 412.625 ns and an offset of +2.250 ns. -/
theorem test_exchange :
    (let s := (State.reset.wr 0 F.UBW_FILTER 1).wrEff (F.UBW_PORT_ASYM 1) 250
    let t := exchangeSample 1 ⟨7, 0, 415 * 65536⟩ 0 27041792 s
    t.sh (F.UBW_PORT_DELAY 1) = 27041792 ∧ (t.ubwPort 1).thetas.map (·.1) = [147456]) := by decide +kernel

/-! ### Single steps -/

/-- R34, R35: the generation of a door wraps after 0xFFFF. -/
theorem test_generation_wraps :
    (doorAbsent 9 (put [(0, F.FLT_BLK_STATUS_DOOR 9, 1), (0, F.FLT_BLK_STATUS_GEN 9, 0xFFFF)] up)).sh (F.FLT_BLK_STATUS_GEN 9) = 1 := by decide +kernel

/-- R46: the first step of an empty queue moves FRC by one tick while FRC_RUN is set, and not in reset. -/
theorem test_tick : (put [(0, F.TB_STATUS_FRC_RUN, 1)] { up with frc := 41 }).tickFrc.frc = 42 ∧
    (put [(0, F.TB_STATUS_FRC_RUN, 0)] { up with frc := 41 }).tickFrc.frc = 41 := by decide +kernel

/-- R47: the read of TB_FRC_LO latches the high half for its reader only. -/
theorem test_frc_read :
    (match exec (.tbFrcLoRead 4) { up with frc := 0x123456789 } with
    | .next t => t.rd 5 F.TB_FRC_HI == 1 && t.rd 4 F.TB_FRC_HI == 0 && t.frc == 0x123456789
    | _ => false) = true := by decide +kernel

/-- R28: an abort disarms the group and takes its shadows back. -/
theorem test_abort_disarms :
    (match exec (.cg14Abort 1 0 false) { up with cgs := [(14, ⟨0, 64, 0⟩)] } with
    | .next t => t.cgs == []
    | _ => false) = true := by decide +kernel

/-- A command of the front of the queue runs; the rest waits. -/
theorem test_step_takes_the_front :
    (match step { up with pending := [.vcSelWrite 1 9, .stuckClearCount] } with
    | .next t => t.pending == [.stuckClearCount] && t.rd 2 F.VC_SEL == 9
    | _ => false) = true := by decide +kernel

/-- The table gives no row bits: no word spells a command. -/
theorem test_no_words : decodeTableWord 32 0 = none ∧ State.reset.withFetchWord 32 0 = State.reset := by decide +kernel

/-! ### The hypotheses of the statements can be met -/

theorem test_hyps_IdleStepIsOneTick :
    (∃ (s : State), s.pending = [] ∧ s.sh F.TB_STATUS_FRC_RUN = 1) ∧
    (∃ (s : State), s.pending = [] ∧ s.sh F.TB_STATUS_FRC_RUN ≠ 1) :=
  ⟨⟨put [(0, F.TB_STATUS_FRC_RUN, 1)] { up with frc := 2 ^ 64 - 1 }, by decide +kernel⟩,
  ⟨State.reset, by decide +kernel⟩⟩

theorem test_hyps_EveryStepKeepsTheStateWellFormed :
    (∃ (t : State) (s : State), s.wf = true ∧ step s = .next t) :=
  ⟨State.reset, State.reset, by decide +kernel, rfl⟩

theorem test_hyps_CommitGroupArms :
    (∃ (fn : Fn) (kind : Fin 4) (a : CgArm) (s : State), s.takesWrite .tb fn.val = true ∧ s.secureSt fn.val = true ∧ s.rsHoldsGroup 0 = false ∧ armOf (s.wr 0 F.TB_CG0_CTRL_KIND kind.val) kind.val (s.rd64 0 F.TB_CG0_TIME_LO F.TB_CG0_TIME_HI) (cg0Boundary s) = some a) ∧
    (∃ (fn : Fn) (kind : Fin 4) (arm : Bool) (s : State), s.takesWrite .tb fn.val = true ∧ s.secureSt fn.val = true ∧ s.rsHoldsGroup 0 = false) ∧
    (∃ (fn : Fn) (kind : Fin 4) (a : CgArm) (s : State), s.takesWrite .prt fn.val = true ∧ s.secureSt fn.val = true ∧ s.rsHoldsGroup 14 = false ∧ armOf (s.wr 0 F.PRT_CG14_CTRL_KIND kind.val) kind.val (s.rd64 0 F.PRT_CG14_TIME_LO F.PRT_CG14_TIME_HI) (cg0Boundary s) = some a) ∧
    (∃ (fn : Fn) (kind : Fin 4) (arm : Bool) (s : State), s.takesWrite .prt fn.val = true ∧ s.secureSt fn.val = true ∧ s.rsHoldsGroup 14 = false) ∧
    (∃ (fn : Fn) (kind : Fin 4) (a : CgArm) (s : State), s.takesWrite .ubw fn.val = true ∧ s.secureSt fn.val = true ∧ s.rsHoldsGroup 15 = false ∧ armOf (s.wr 0 F.UBW_CG15_CTRL_KIND kind.val) kind.val (s.rd64 0 F.UBW_CG15_TIME_LO F.UBW_CG15_TIME_HI) (cg0Boundary s) = some a) ∧
    (∃ (fn : Fn) (kind : Fin 4) (arm : Bool) (s : State), s.takesWrite .ubw fn.val = true ∧ s.secureSt fn.val = true ∧ s.rsHoldsGroup 15 = false) ∧
    (∃ (fn : Fn) (group : Fin 8) (value : BitVec 32) (a : CgArm) (s : State), s.takesWrite .syn fn.val = true ∧ synMay s fn.val = true ∧ s.rsHoldsGroup (6 + group.val) = false ∧ bitOf (value.toNat ||| 0x10) 5 = false ∧ bits (value.toNat ||| 0x10) 0 2 ≠ 3 ∧ armOf s (bits (value.toNat ||| 0x10) 0 2) (s.rd64 0 (F.SYN_CG_TIME_LO (6 + group.val)) (F.SYN_CG_TIME_HI (6 + group.val))) (s.frc + 64) = some a) ∧
    (∃ (fn : Fn) (group : Fin 8) (value : BitVec 32) (s : State), s.takesWrite .syn fn.val = true ∧ synMay s fn.val = true ∧ s.rsHoldsGroup (6 + group.val) = false) :=
  ⟨⟨1, 0, ⟨0, 64, 0⟩, up, by decide +kernel⟩,
  ⟨513, 3, true, up, by decide +kernel⟩,
  ⟨1, 3, ⟨3, 65536, 0⟩, up, by decide +kernel⟩,
  ⟨1, 0, false, up, by decide +kernel⟩,
  ⟨1, 3, ⟨3, 65536, 0⟩, up, by decide +kernel⟩,
  ⟨1, 0, false, up, by decide +kernel⟩,
  ⟨1, 7, 0x10, ⟨0, 64, 0⟩, up, by decide +kernel⟩,
  ⟨513, 0, 0xFFFFFFFF, up, by decide +kernel⟩⟩

theorem test_hyps_GroupCommits :
    (∃ (tick : BitVec 64) (a : CgArm) (s : State), tget s.cgs 14 = some a ∧ a.kind < 2 ∧ a.tick = tick.toNat ∧ tick.toNat ≤ s.frc) ∧
    (∃ (tick : BitVec 64) (a : CgArm) (s : State), tget s.cgs 15 = some a ∧ a.kind < 2 ∧ a.tick = tick.toNat ∧ tick.toNat ≤ s.frc) ∧
    (∃ (group : Fin 64) (tick : BitVec 64) (s : State), tget s.cgs group.val = none) :=
  ⟨⟨64, ⟨0, 64, 0⟩, { setArm 14 ⟨0, 64, 0⟩ up with frc := 64 }, by decide +kernel⟩,
  ⟨64, ⟨0, 64, 0⟩, { setArm 15 ⟨0, 64, 0⟩ up with frc := 64 }, by decide +kernel⟩,
  ⟨0, 0, up, by decide +kernel⟩⟩

theorem test_hyps_EventFlagsCleared :
    (∃ (fn : Fn) (b : Blk) (v : BitVec 32) (s : State), s.takesWrite b fn.val = true) :=
  ⟨2, .gn, 1, up, by decide +kernel⟩

theorem test_hyps_TimebaseReads :
    (∃ (fn : Fn) (vc : Fin 1024) (s : State), s.takesWrite .tb fn.val = true) ∧
    (∃ (fn : Fn) (s : State), vcReadable s (s.rd (fn.val + 1) F.VC_SEL) fn.val = true) ∧
    (∃ (fn : Fn) (vc : Fin 1024) (s : State), s.takesWrite .tb fn.val = true ∧ vcReadable s vc.val fn.val = true) ∧
    (∃ (tick : BitVec 64) (phase : Fin 32) (s : State), s.sh F.HIF_STATUS_LINK_UP ≠ 0 ∧ s.sh F.TB_PTM_CTRL_EN = 1 ∧ (s.vc (s.sh F.TB_PTM_CTRL_VC)).state = .ratified) :=
  ⟨⟨2, 1023, up, by decide +kernel⟩,
  ⟨0, up, by decide +kernel⟩,
  ⟨512, 0, { up with frc := 0x123456789A }, by decide +kernel⟩,
  ⟨5, 31, ratified (put [(0, F.HIF_STATUS_LINK_UP, 1), (0, F.TB_PTM_CTRL_EN, 1)] up), by decide +kernel⟩⟩

theorem test_hyps_ClockCommands :
    (∃ (fn : Fn) (offset : Bool) (frcTime : Bool) (c : Nat) (s : State), s.takes .tb stVc fn.val = true ∧ vcMay s (s.rd (fn.val + 1) F.VC_SEL) fn.val = true ∧ ((s.rd (fn.val + 1) F.VC_SEL) ≠ 0 ∨ fn.val ≠ stewardFn) ∧ (s.vc (s.rd (fn.val + 1) F.VC_SEL)).state ≠ .ratified ∧ (s.vc (s.rd (fn.val + 1) F.VC_SEL)).par.parentVc0 = false ∧ t96Valid (vcArg2 s (ownWin fn) 0 + 2 ^ 64 * vcArg s (ownWin fn) 2) = true ∧ vcTrigger s (ownWin fn) frcTime = some c) ∧
    (∃ (fn : Fn) (s : State), s.takes .tb stVc fn.val = true ∧ vcMay s (s.rd (fn.val + 1) F.VC_SEL) fn.val = true ∧ (s.vc (s.rd (fn.val + 1) F.VC_SEL)).state ≠ .setPending) ∧
    (∃ (fn : Fn) (frcTime : Bool) (c : Nat) (s : State), s.takes .tb stVc fn.val = true ∧ (s.rd (fn.val + 1) F.VC_SEL) ≠ 0 ∧ vcMay s (s.rd (fn.val + 1) F.VC_SEL) fn.val = true ∧ vcTrigger s (ownWin fn) frcTime = some c) ∧
    (∃ (fn : Fn) (frcTime : Bool) (c : Nat) (s : State), s.takes .tb stVc fn.val = true ∧ vcMay s (s.rd (fn.val + 1) F.VC_SEL) fn.val = true ∧ (s.vc (s.rd (fn.val + 1) F.VC_SEL)).state = .ratified ∧ (sgn 64 (vcArg2 s (ownWin fn) 0)).natAbs ≤ (s.vc (s.rd (fn.val + 1) F.VC_SEL)).adjLimit * 65536 ∧ vcTrigger s (ownWin fn) frcTime = some c ∧ (s.rd (fn.val + 1) F.VC_SEL) ≠ 0) ∧
    (∃ (fn : Fn) (frcTime : Bool) (c : Nat) (s : State), s.takes .tb stVc fn.val = true ∧ s.secureSt fn.val = true ∧ (s.rd (fn.val + 1) F.VC_SEL) = 0 ∧ (s.vc 0).state = .ratified ∧ fn.val = stewardFn ∧ (sgn 64 (vcArg2 s (ownWin fn) 0)).natAbs ≤ (s.vc 0).adjLimit * 65536 ∧ vcTrigger s (ownWin fn) frcTime = some c) ∧
    (∃ (fn : Fn) (kind : Fin 4) (i : Fin 8) (s : State), s.takes .tb stVc fn.val = true ∧ (s.rd (fn.val + 1) F.VC_SEL) ≠ 0 ∧ vcMay s (s.rd (fn.val + 1) F.VC_SEL) fn.val = true ∧ (s.vc (s.rd (fn.val + 1) F.VC_SEL)).state = .ratified ∧ kind.val = 0 ∧ (List.range 8).find? (fun j => ((s.vc (s.rd (fn.val + 1) F.VC_SEL)).slot j).state == 0) = some i.val ∧ s.frc + 64 ≤ vcArg2 s (ownWin fn) 4 ∧ ((List.range 8).any fun j => ((s.vc (s.rd (fn.val + 1) F.VC_SEL)).slot j).state == 1 && ((s.vc (s.rd (fn.val + 1) F.VC_SEL)).slot j).tick == vcArg2 s (ownWin fn) 4) = false) ∧
    (∃ (fn : Fn) (slot : Fin 8) (s : State), s.takes .tb stVc fn.val = true ∧ (s.rd (fn.val + 1) F.VC_SEL) ≠ 0 ∧ vcMay s (s.rd (fn.val + 1) F.VC_SEL) fn.val = true ∧ slotBefore s ((s.vc (s.rd (fn.val + 1) F.VC_SEL)).slot slot.val) = true) ∧
    (∃ (fn : Fn) (s : State), s.takes .tb stVc fn.val = true ∧ (s.rd (fn.val + 1) F.VC_SEL) ≠ 0 ∧ vcMay s (s.rd (fn.val + 1) F.VC_SEL) fn.val = true) ∧
    (∃ (fn : Fn) (frcTime : Bool) (c : Nat) (s : State), s.takes .tb stVc fn.val = true ∧ (s.rd (fn.val + 1) F.VC_SEL) ≠ 0 ∧ s.secureSt fn.val = true ∧ (s.vc (s.rd (fn.val + 1) F.VC_SEL)).state = .ratified ∧ vcTrigger s (ownWin fn) frcTime = some c) ∧
    (∃ (fn : Fn) (s : State), s.takes .tb stVc fn.val = true ∧ (s.rd (fn.val + 1) F.VC_SEL) = 0 ∧ s.secureSt fn.val = true ∧ s.develop = true ∧ (s.vc 0).state = .ratified ∧ (s.tb.vcs.filter fun e => e.1 != 0 && e.2.state == .ratified && e.2.par.parentVc0) = []) ∧
    (∃ (fn : Fn) (s : State), s.takes .tb stVc fn.val = true ∧ (s.rd (fn.val + 1) F.VC_SEL) = 0 ∧ s.secureSt fn.val = true ∧ s.develop = true ∧ (s.vc 0).state ≠ .ratified) :=
  ⟨⟨1, false, false, 64, put [(2, F.VC_SEL, 3)] (noParent 3 up), by decide +kernel⟩,
  ⟨1, up, by decide +kernel⟩,
  ⟨513, true, 100, put [(514, F.VC_SEL, 1023), (514, F.VC_ARG4, 100)] up, by decide +kernel⟩,
  ⟨1, false, 64, put [(2, F.VC_SEL, 1)] (ratifiedN 1 up), by decide +kernel⟩,
  ⟨513, false, 64, ratified up, by decide +kernel⟩,
  ⟨1, 0, 0, put [(2, F.VC_SEL, 1), (2, F.VC_ARG4, 64)] (ratifiedN 1 up), by decide +kernel⟩,
  ⟨1, 7, put [(2, F.VC_SEL, 1)] (up.setVc 1 { Vc.init 1 with slots := [(7, ⟨1, 0, 9, 0, 0, none⟩)] }), by decide +kernel⟩,
  ⟨1, put [(2, F.VC_SEL, 5)] up, by decide +kernel⟩,
  ⟨1, false, 64, put [(2, F.VC_SEL, 1)] (ratifiedN 1 up), by decide +kernel⟩,
  ⟨1, put [(0, F.KS_LIFECYCLE_STATE, 1)] (ratified up), by decide +kernel⟩,
  ⟨1, put [(0, F.KS_LIFECYCLE_STATE, 1)] up, by decide +kernel⟩⟩

theorem test_hyps_ClockTicks :
    (∃ (vc : Fin 1024) (p : VcPendSet) (s : State), vc.val ≠ 0 ∧ (s.vc vc.val).pendSet = some p ∧ p.tick ≤ s.frc ∧ (s.vc vc.val).par.parentVc0 = false ∧ p.offset = false ∧ (s.vc vc.val).par.parentVc0 = false) ∧
    (∃ (vc : Fin 1024) (c : Nat) (r : Int) (s : State), (s.vc vc.val).pendRate = some (c, r) ∧ c ≤ s.frc ∧ satS 48 (r + (s.vc vc.val).par.s) = r + (s.vc vc.val).par.s) ∧
    (∃ (vc : Fin 1024) (c : Nat) (d : Int) (s : State), vc.val ≠ 0 ∧ (s.vc vc.val).pendAdj = some (c, d) ∧ c ≤ s.frc ∧ (rebase s vc.val c).par.pAdj + d * 2 ^ 32 ≠ 0) ∧
    (∃ (vc : Fin 1024) (tick : BitVec 64) (s : State), (s.vc vc.val).par.pAdj ≠ 0 ∧ firstDelivered s (s.vc vc.val).par (s.vc vc.val).par.pAdj (s.vc vc.val).par.sAdj tick.toNat = true) ∧
    (∃ (vc : Fin 1024) (c : Nat) (s : State), vc.val ≠ 0 ∧ (s.vc vc.val).pendRetire = some c ∧ c ≤ s.frc) ∧
    (∃ (vc : Fin 1024) (c : Nat) (p : Bool) (s : State), (s.vc vc.val).pendParent = some (c, p) ∧ c ≤ s.frc) ∧
    (∃ (vc : Fin 1024) (slot : Fin 8) (tick : BitVec 64) (s : State), ((s.vc vc.val).slot slot.val).state = 1 ∧ ((s.vc vc.val).slot slot.val).kind = 1 ∧ ((s.vc vc.val).slot slot.val).tick = tick.toNat ∧ tick.toNat ≤ s.frc) ∧
    (∃ (vc : Fin 1024) (tick : BitVec 64) (s : State), ((s.vc vc.val).slots.any fun e => e.2.state == 2) = true ∧ firstDelivered s (s.vc vc.val).par (s.vc vc.val).par.pRamp (s.vc vc.val).par.sRamp tick.toNat = true) ∧
    (∃ (vc : Fin 1024) (u : Int) (s : State), (s.vc vc.val).leapUntil = some u ∧ u ≤ vcTime s vc.val (32 * s.frc)) :=
  ⟨⟨3, ⟨64, false, 7, 1⟩, { up.setVc 3 { Vc.init 3 with state := .setPending, pendSet := some ⟨64, false, 7, 1⟩, par := { (Vc.init 3).par with parentVc0 := false } } with frc := 64 }, by decide +kernel⟩,
  ⟨1023, 0, 5, up.setVc 1023 { Vc.init 1023 with pendRate := some (0, 5) }, by decide +kernel⟩,
  ⟨1, 0, 5, up.setVc 1 { Vc.init 1 with pendAdj := some (0, 5) }, by decide +kernel⟩,
  ⟨0, 1, { up.setVc 0 { Vc.init 0 with par := { (Vc.init 0).par with f := 0, pAdj := 2 ^ 41, sAdj := 2 ^ 60 } } with frc := 1 }, by decide +kernel⟩,
  ⟨1, 0, (ratifiedN 1 up).setVc 1 { (ratifiedN 1 up).vc 1 with pendRetire := some 0 }, by decide +kernel⟩,
  ⟨2, 0, true, up.setVc 2 { Vc.init 2 with pendParent := some (0, true) }, by decide +kernel⟩,
  ⟨1, 7, 3, { up.setVc 1 { Vc.init 1 with slots := [(7, ⟨1, 1, 3, 8, 2, none⟩)] } with frc := 3 }, by decide +kernel⟩,
  ⟨1, 0, up.setVc 1 { Vc.init 1 with slots := [(0, ⟨2, 1, 0, 0, 0, none⟩)] }, by decide +kernel⟩,
  ⟨1, 0, up.setVc 1 { Vc.init 1 with leapUntil := some 0 }, by decide +kernel⟩⟩

theorem test_hyps_TokenAndLedgerCommands :
    (∃ (fn : Fn) (s : State), s.takes .bnd stTok fn.val = true ∧ vcReadable s (s.rd (fn.val + 1) F.BND_TOK_SEL) fn.val = true ∧ s.sh F.KS_LIFECYCLE_STATE ≠ 0 ∧ s.bnd.tokens.length < 8 ∧ s.rd64 (fn.val + 1) F.BND_TOK_ADDR_LO F.BND_TOK_ADDR_HI % 64 = 0 ∧ ownsBuf s fn.val (s.rd64 (fn.val + 1) F.BND_TOK_ADDR_LO F.BND_TOK_ADDR_HI) 3584 = true) ∧
    (∃ (index : Fin 8) (k : Token) (s : State), s.bnd.tokens[index.val]? = some k) ∧
    (∃ (point : Fin 24) (s : State), Sys2Proof.Machine.pathStale s point.val s.frc = true ∧ s.sh (F.BND_PATH_STALE_IS_STALE point.val) ≠ 1) ∧
    (∃ (s : State), Sys2Proof.Machine.ageExpired s s.frc = true) :=
  ⟨⟨1, put [(0, F.KS_LIFECYCLE_STATE, 1), (2, F.BND_TOK_ADDR_LO, 64)] up, by decide +kernel⟩,
  ⟨7, ⟨⟨7, 8⟩, 64, 0, []⟩, { up with bnd := { up.bnd with tokens := List.replicate 8 ⟨⟨7, 8⟩, 64, 0, []⟩ } }, by decide +kernel⟩,
  ⟨22, put [(0, F.BND_PATH_STALE_IS_STALE 22, 0)] up, by decide +kernel⟩,
  ⟨{ put [(0, F.BND_AGE_MAX, 0)] up with frc := 1 }, by decide +kernel⟩⟩

theorem test_hyps_ReferenceEvents :
    (∃ (fn : Fn) (slot : Fin 32) (value : BitVec 32) (s : State), s.takesWrite .refs fn.val = true ∧ s.secureSt fn.val = true ∧ slot.val < 29) ∧
    (∃ (slot : Fin 32) (tick : BitVec 64) (phase : Fin 32) (edges : BitVec 16) (label : BitVec 96) (s : State), slotState s slot.val ≠ stDISABLED ∧ eventSlot slot.val = true) ∧
    (∃ (slot : Fin 32) (tick : BitVec 64) (phase : Fin 32) (edges : BitVec 16) (label : Option (BitVec 96)) (s : State), slotState s slot.val ≠ stDISABLED ∧ 8 ≤ slot.val ∧ slot.val < 24 ∧ s.sh (F.REF_NOMINAL slot.val) ≠ 0) ∧
    (∃ (slot : Fin 32) (tick : BitVec 64) (phase : Fin 32) (edges : BitVec 16) (label : Option (BitVec 96)) (s : State), pinSlot slot.val = true ∧ slotState s slot.val ≠ stDISABLED ∧ pointDead s (ptRef slot.val) = false ∧ s.sh (F.REF_NOMINAL slot.val) ≠ 0 ∧ (s.slot slot.val).ready = true) ∧
    (∃ (slot : Fin 32) (s : State), slotState s slot.val ≠ stDISABLED ∧ slot.val < 29 ∧ (s.slot slot.val).missing + 1 < s.sh (F.REF_PROF_QUAL_LOS_COUNT (s.sh (F.REF_CFG_PROFILE slot.val)))) ∧
    (∃ (slot : Fin 32) (s : State), slotState s slot.val ≠ stDISABLED ∧ slot.val < 29 ∧ s.sh (F.REF_PROF_QUAL_LOS_COUNT (s.sh (F.REF_CFG_PROFILE slot.val))) ≤ (s.slot slot.val).missing + 1) ∧
    (∃ (slot : Fin 32) (s : State), 8 ≤ slot.val ∧ slot.val ≤ 27 ∧ slot.val ≠ 24) ∧
    (∃ (tick : BitVec 64) (s : State), tick.toNat ≤ s.frc ∧ tick.toNat % 1562500000 = 0 ∧ s.refs.lastTick < tick.toNat ∧ stewardRuns (freeReadings (atomWatch (monitorTick tick.toNat s))) = true) ∧
    (∃ (sel : Fin 6) (d : Nat) (s : State), (s.sel sel.val).holdoff = some d ∧ d ≤ s.frc) ∧
    (∃ (port : Fin 16) (pdu : List Byte) (s : State), portUp s port.val = true) ∧
    (∃ (lane : Fin 16) (q : Nat) (s : State), (s.slot (lane.val + 8)).qlTick = some q ∧ q + 7812500000 ≤ s.frc) ∧
    (∃ (pin : Fin 4) (frame : List Byte) (s : State), todinValid frame = true) ∧
    (∃ (pin : Fin 4) (frame : List Byte) (whole : Bool) (s : State), (todinValid frame = false ∨ whole = false)) :=
  ⟨⟨1, 28, 1, up, by decide +kernel⟩,
  ⟨27, 5, 31, 1, 7, put [(0, F.REF_STATE_STATE 27, 2)] up, by decide +kernel⟩,
  ⟨8, 5, 31, 1, none, put [(0, F.REF_STATE_STATE 8, 2), (0, F.REF_NOMINAL 8, 25000000)] up, by decide +kernel⟩,
  ⟨7, 5, 31, 1, none, (put [(0, F.REF_STATE_STATE 7, 2), (0, F.REF_NOMINAL 7, 1)] up).setSlot 7 { up.slot 7 with ready := true }, by decide +kernel⟩,
  ⟨0, put [(0, F.REF_STATE_STATE 0, 2), (0, F.REF_PROF_QUAL_LOS_COUNT 0, 3)] up, by decide +kernel⟩,
  ⟨28, put [(0, F.REF_STATE_STATE 28, 3), (0, F.REF_PROF_QUAL_LOS_COUNT 0, 1)] up, by decide +kernel⟩,
  ⟨27, up, by decide +kernel⟩,
  ⟨1562500000, { up with frc := 1562500001 }, by decide +kernel⟩,
  ⟨5, 0, up.setSel 5 { up.sel 5 with holdoff := some 0 }, by decide +kernel⟩,
  ⟨0, [], put [(0, F.PRT_PORT_STATUS_STATE 0, 2)] up, by decide +kernel⟩,
  ⟨15, 0, { up.setSlot 23 { up.slot 23 with qlTick := some 0 } with frc := 7812500000 }, by decide +kernel⟩,
  ⟨3, oct [0x4C, 0x54, 1, 0x20, 0, 1] ++ zeros 24 ++ beBytes 2 (crcMsb 16 0x1021 0xFFFF (oct [0x4C, 0x54, 1, 0x20, 0, 1] ++ zeros 24)), up, by decide +kernel⟩,
  ⟨0, [], true, up, by decide +kernel⟩⟩

theorem test_hyps_ServoCommands :
    (∃ (s : State), stewardRuns s = true ∧ s.doorOpen .srv = true ∧ ((s.frc / updPeriod s + 1) * updPeriod s) ≠ s.srv.target ∧ s.frc + 64 ≤ ((s.frc / updPeriod s + 1) * updPeriod s)) ∧
    (∃ (s : State), s.sh F.RST_STATUS_PROOF_DONE = 1 ∧ s.sh F.SRV_STATUS_STALL = 0 ∧ s.srv.cg0At + 16 * updPeriod s ≤ s.frc) ∧
    (∃ (fn : Fn) (s : State), s.takes .srv stSrv fn.val = true ∧ s.secureSt fn.val = true ∧ vc0Rat s = true ∧ s.srv.oPend = none ∧ (sgn 64 (s.rd64 (fn.val + 1) F.SRV_ARG0 F.SRV_ARG1)).natAbs ≤ (s.vc 0).adjLimit * 65536 ∧ ((sgn 64 (s.rd64 0 F.SRV_SYS_TARGET_LO F.SRV_SYS_TARGET_HI)) + (sgn 64 (s.rd64 (fn.val + 1) F.SRV_ARG0 F.SRV_ARG1))).natAbs ≤ 2 ^ 47 * 65536) ∧
    (∃ (fn : Fn) (s : State), s.takes .srv stSrv fn.val = true ∧ s.secure fn.val = true ∧ s.sh F.SRV_STATUS_OFFSET_REJECT ≠ 0) ∧
    (∃ (fn : Fn) (s : State), s.takes .srv stSrv fn.val = true ∧ s.secureSt fn.val = true) ∧
    (∃ (fn : Fn) (ack : Bool) (s : State), s.takes .srv stSrv fn.val = true ∧ s.secureSt fn.val = true ∧ s.sh F.SRV_HO_CFG_ATOM_MODE = 1) ∧
    (∃ (fn : Fn) (value : BitVec 32) (s : State), s.takesWrite .srv fn.val = true ∧ s.secure fn.val = true) ∧
    (∃ (fn : Fn) (value : BitVec 32) (s : State), s.takesWrite .srv fn.val = true ∧ s.secure fn.val = true) ∧
    (∃ (model : Fin 2) (y : Rat) (s : State), (s.ng model.val).lastTry + 15625000000 ≤ s.frc ∧ stewardRuns s = true ∧ training s = true ∧ winMean (oscOffset model.val) (s.frc - 156250000000) s.frc s.frc s.srv.sys.hist = some y) ∧
    (∃ (ack : Bool) (s : State), s.sh F.SRV_HO_CFG_ATOM_MODE = 1 ∧ training s = true ∧ stewardRuns s = true ∧ s.srv.tuneAt + s.sh F.SRV_ATOM_CFG_TUNE_S * 1562500000 ≤ s.frc) ∧
    (∃ (ack : Bool) (s : State), s.sh F.SRV_HO_CFG_ATOM_MODE ≠ 1) :=
  ⟨⟨up, by decide +kernel⟩,
  ⟨{ up with frc := 2 ^ 30 }, by decide +kernel⟩,
  ⟨1, ratified (put [(2, F.SRV_ARG0, 5)] up), by decide +kernel⟩,
  ⟨1, put [(0, F.SRV_STATUS_OFFSET_REJECT, 1)] up, by decide +kernel⟩,
  ⟨1, up, by decide +kernel⟩,
  ⟨513, false, put [(0, F.SRV_HO_CFG_ATOM_MODE, 1)] up, by decide +kernel⟩,
  ⟨1, 0xFFFF, up, by decide +kernel⟩,
  ⟨1, 0xFFFF0003, up, by decide +kernel⟩,
  ⟨0, 0, training0 { up with frc := 15625000000 }, by decide +kernel⟩,
  ⟨true, training0 (put [(0, F.SRV_HO_CFG_ATOM_MODE, 1), (0, F.SRV_ATOM_CFG_TUNE_S, 10)] { up with frc := 15625000000 }), by decide +kernel⟩,
  ⟨true, up, by decide +kernel⟩⟩

theorem test_hyps_SynthesiserCommands :
    (∃ (k : Fin 6) (band : BitVec 10) (s : State), k.val ≠ 0 ∧ s.doorOpen .syn = true ∧ synState s k.val = sySEARCH) ∧
    (∃ (k : Fin 6) (band : BitVec 10) (i : Fin 16) (s : State), k.val ≠ 0 ∧ s.doorOpen .syn = true ∧ synState s k.val = syRETUNE ∧ memoFind (s.syn k.val) (synM s k.val) = some i.val ∧ s.frc ≤ (s.syn k.val).startAt + 6250 ∧ band.toNat ≤ (tgetD (s.syn k.val).memo i.val {}).band + 1 ∧ (tgetD (s.syn k.val).memo i.val {}).band ≤ band.toNat + 1) ∧
    (∃ (k : Fin 6) (s : State), synState s k.val = syRETUNE ∧ (s.syn k.val).startAt + 6250 ≤ s.frc) ∧
    (∃ (k : Fin 6) (s : State), k.val ≠ 0 ∧ synState s k.val = syLOCKED) ∧
    (∃ (k : Fin 6) (s : State), synState s k.val = syLOST ∧ (s.syn k.val).startAt + 1563 ≤ s.frc) ∧
    (∃ (fn : Fn) (value : BitVec 32) (s : State), s.takesWrite .syn fn.val = true ∧ s.secureSt fn.val = true ∧ 1 ≤ bits value.toNat 0 3 ∧ bits value.toNat 0 3 ≤ 5) ∧
    (∃ (fn : Fn) (s : State), s.takesWrite .syn fn.val = true ∧ s.secureSt fn.val = true) ∧
    (∃ (fn : Fn) (s : State), s.takesWrite .syn fn.val = true ∧ s.secureSt fn.val = true) ∧
    (∃ (fn : Fn) (s : State), s.takesWrite .syn fn.val = true ∧ s.secureSt fn.val = true) :=
  ⟨⟨5, 1023, put [(0, F.SYN_S_STATUS_STATE 5, 1)] up, by decide +kernel⟩,
  ⟨1, 1, 0, (put [(0, F.SYN_S_STATUS_STATE 1, 2)] up).setSyn 1 { up.syn 1 with memo := [(0, { key := synM up 1, band := 2, valid := true })] }, by decide +kernel⟩,
  ⟨5, { put [(0, F.SYN_S_STATUS_STATE 5, 2)] up with frc := 6250 }, by decide +kernel⟩,
  ⟨1, put [(0, F.SYN_S_STATUS_STATE 1, 3)] up, by decide +kernel⟩,
  ⟨1, { put [(0, F.SYN_S_STATUS_STATE 1, 4)] up with frc := 1563 }, by decide +kernel⟩,
  ⟨1, 0xF5, up, by decide +kernel⟩,
  ⟨513, up, by decide +kernel⟩,
  ⟨513, up, by decide +kernel⟩,
  ⟨513, up, by decide +kernel⟩⟩

theorem test_hyps_OutputCommands :
    (∃ (out : Fin 20) (s : State), (s.clk out.val).wait = 1 ∧ changeInstant s out.val ≤ (s.frc : Rat)) ∧
    (∃ (group : Fin 8) (k : Fin 6) (t : Rat) (s : State), (alignMembers s (6 + group.val) k.val) ≠ [] ∧ ((alignMembers s (6 + group.val) k.val).map fun n => if (s.clk n).run then risingAfter s (s.clk n) (s.clk n).since else (s.clk n).since).foldl max 0 = t ∧ t ≤ (s.frc : Rat)) ∧
    (∃ (out : Fin 20) (t : Rat) (s : State), (s.clk out.val).moveEnd = some t ∧ t ≤ (s.frc : Rat)) ∧
    (∃ (po : Fin 8) (tick : BitVec 64) (target : Int) (s : State), s.doorOpen .out = true ∧ (s.po po.val).next = some target ∧ (s.po po.val).new = none ∧ tick.toNat ≤ s.frc ∧ poAt s (s.po po.val) (s.po po.val).cur target tick.toNat = true) ∧
    (∃ (pin : Fin 4) (d : TodDue) (rest : List TodDue) (s : State), (tgetD s.out.tods pin.val {}).due = d :: rest ∧ d.at_ ≤ s.frc) ∧
    (∃ (pin : Fin 4) (s : State), (tgetD s.out.tods pin.val {}).due = []) :=
  ⟨⟨19, up.setClk 19 { up.clk 19 with wait := 1 }, by decide +kernel⟩,
  ⟨0, 0, 0, up.setClk 3 { up.clk 3 with wait := 2, group := 6 }, by decide +kernel⟩,
  ⟨0, 0, up.setClk 0 { up.clk 0 with moveEnd := some 0 }, by decide +kernel⟩,
  ⟨7, 0, 0, up.setPo 7 { up.po 7 with next := some 0 }, by decide +kernel⟩,
  ⟨0, ⟨0, 0, 0, 0, 0, 0, false, 0⟩, [], { up with out := { up.out with tods := [(0, { due := [⟨0, 0, 0, 0, 0, 0, false, 0⟩] })] } }, by decide +kernel⟩,
  ⟨0, up, by decide +kernel⟩⟩

theorem test_hyps_TdcCommands :
    (∃ (ch : Fin 16) (tick : BitVec 64) (sub : Fin 640) (code : BitVec 12) (falling : Bool) (h : Nat) (c1 : Nat) (c2 : Nat) (s : State), s.doorOpen .tdc = true ∧ chState s ch.val ≠ 0 ∧ (s.chan ch.val).from_ ≤ tick.toNat ∧ (s.chan ch.val).until_ = none ∧ edgeSelected s ch.val falling = true ∧ halfFor s ch.val (tick.toNat * 640 + sub.val) = some h ∧ (s.half ch.val h).pair = some (c1, c2)) ∧
    (∃ (ch : Fin 16) (tick : BitVec 64) (sub : Fin 640) (code : BitVec 12) (falling : Bool) (s : State), s.doorOpen .tdc = true ∧ chState s ch.val ≠ 0 ∧ (s.chan ch.val).from_ ≤ tick.toNat ∧ (s.chan ch.val).until_ = none ∧ edgeSelected s ch.val falling = true ∧ halfFor s ch.val (tick.toNat * 640 + sub.val) = none) ∧
    (∃ (point : Fin 105) (half : Fin 2) (c1 : BitVec 12) (c2 : BitVec 12) (s : State), c1.toNat + 768 ≤ c2.toNat ∧ c2.toNat ≤ c1.toNat + 1280 ∧ (s.half point.val half.val).failed = false) ∧
    (∃ (point : Fin 105) (half : Fin 2) (c1 : BitVec 12) (c2 : BitVec 12) (s : State), (¬ (c1.toNat + 768 ≤ c2.toNat ∧ c2.toNat ≤ c1.toNat + 1280)) ∧ (s.half point.val half.val).rej + 1 < 4) ∧
    (∃ (ch : Fin 16) (r : TdcRec) (rest : List TdcRec) (s : State), s.doorOpen .tdc = true ∧ (s.chan ch.val).fifo = r :: rest ∧ (ringFull s ch.val && s.sh (F.TDC_CH_CFG_OVF_MODE ch.val) == 0) = false) ∧
    (∃ (fn : Fn) (ch : Fin 16) (value : BitVec 32) (s : State), s.takesWrite .tdc fn.val = true ∧ s.secureSt fn.val = true ∧ chState s ch.val = 0) ∧
    (∃ (ch : Fin 16) (u : Nat) (s : State), chState s ch.val = 2 ∧ (s.chan ch.val).fifo = [] ∧ (s.chan ch.val).until_ = some u ∧ u ≤ s.frc) ∧
    (∃ (fn : Fn) (gate : Fin 4) (s : State), s.takesWrite .tdc fn.val = true ∧ s.secureSt fn.val = true ∧ gateArmed s gate.val = false ∧ (gateMode s gate.val ≠ 2 ∨ (s.frc + 64 ≤ (s.rd64 0 (F.TDC_GATE_OPEN_LO gate.val) (F.TDC_GATE_OPEN_HI gate.val)) ∧ (s.rd64 0 (F.TDC_GATE_OPEN_LO gate.val) (F.TDC_GATE_OPEN_HI gate.val)) < (s.rd64 0 (F.TDC_GATE_CLOSE_LO gate.val) (F.TDC_GATE_CLOSE_HI gate.val))))) ∧
    (∃ (fn : Fn) (gate : Fin 4) (s : State), s.takesWrite .tdc fn.val = true ∧ s.secureSt fn.val = true) ∧
    (∃ (gate : Fin 4) (tick : BitVec 64) (sub : Fin 640) (code : BitVec 12) (falling : Bool) (s : State), s.doorOpen .tdc = true ∧ gateArmed s gate.val = true ∧ gateMode s gate.val = 1 ∧ falling = (s.sh (F.TDC_GATE_CFG_POL gate.val) == 1) ∧ (halfFor s (16 + gate.val) (tick.toNat * 640 + sub.val)).isSome = true) ∧
    (∃ (gate : Fin 4) (s : State), s.doorOpen .tdc = true ∧ gateArmed s gate.val = true ∧ gateMode s gate.val = 2 ∧ (s.gate gate.val).open_ = none ∧ (s.gate gate.val).times.1 ≤ s.frc) ∧
    (∃ (gate : Fin 4) (s : State), s.doorOpen .tdc = true ∧ gateArmed s gate.val = true ∧ gateMode s gate.val = 2 ∧ (s.gate gate.val).open_ ≠ none ∧ (s.gate gate.val).times.2 ≤ s.frc) :=
  ⟨⟨15, 5, 639, 1000, false, 1, 400, 1400, (put [(0, F.TDC_CH_STATUS_STATE 15, 1)] up).setHalf 15 1 { up.half 15 1 with pair := some (400, 1400) }, by decide +kernel⟩,
  ⟨0, 5, 0, 1000, false, put [(0, F.TDC_CH_STATUS_STATE 0, 1)] up, by decide +kernel⟩,
  ⟨104, 1, 0, 768, up, by decide +kernel⟩,
  ⟨0, 0, 0, 767, up, by decide +kernel⟩,
  ⟨15, { stamp := 5 }, [], up.setChan 15 { up.chan 15 with fifo := [{ stamp := 5 }] }, by decide +kernel⟩,
  ⟨1, 15, 1, up, by decide +kernel⟩,
  ⟨15, 0, (put [(0, F.TDC_CH_STATUS_STATE 15, 2)] up).setChan 15 { up.chan 15 with until_ := some 0 }, by decide +kernel⟩,
  ⟨1, 3, put [(0, F.TDC_GATE_CFG_MODE 3, 2), (0, F.TDC_GATE_OPEN_LO 3, 64), (0, F.TDC_GATE_CLOSE_LO 3, 65)] up, by decide +kernel⟩,
  ⟨513, 0, up, by decide +kernel⟩,
  ⟨3, 5, 0, 1000, false, (put [(0, F.TDC_GATE_CTRL_ARMED 3, 1), (0, F.TDC_GATE_CFG_MODE 3, 1)] up).setHalf 19 1 { up.half 19 1 with pair := some (400, 1400) }, by decide +kernel⟩,
  ⟨0, put [(0, F.TDC_GATE_CTRL_ARMED 0, 1), (0, F.TDC_GATE_CFG_MODE 0, 2)] up, by decide +kernel⟩,
  ⟨0, (put [(0, F.TDC_GATE_CTRL_ARMED 0, 1), (0, F.TDC_GATE_CFG_MODE 0, 2)] up).setGate 0 { open_ := some 0, times := (0, 0) }, by decide +kernel⟩⟩

theorem test_hyps_CalibrationCommands :
    (∃ (fn : Fn) (point : Fin 32) (s : State), s.takesWrite .tdc fn.val = true ∧ s.secureSt fn.val = true ∧ 1 ≤ point.val ∧ point.val ≤ 22) ∧
    (∃ (point : Fin 23) (c : Nat) (s : State), tget s.tdc.calAt point.val = some c ∧ s.sh F.TDC_CTRL_CAL_EN = 1 ∧ c + s.sh F.TDC_CTRL_CAL_PERIOD_S * 1562500000 ≤ s.frc ∧ s.tdc.linkUp.contains point.val = true ∧ s.tdc.reqPer.contains point.val = false) ∧
    (∃ (tx : List (BitVec 32)) (rx : List (BitVec 32)) (p : Nat) (k : Nat) (s : State), s.tdc.running = some (p, k) ∧ tx.length = 256 ∧ rx.length = 256 ∧ s.doorOpen .tdc = true) :=
  ⟨⟨1, 22, up, by decide +kernel⟩,
  ⟨22, 0, { put [(0, F.TDC_CTRL_CAL_EN, 1), (0, F.TDC_CTRL_CAL_PERIOD_S, 1)] up with frc := 1562500000, tdc := { up.tdc with calAt := [(22, 0)], linkUp := [22] } }, by decide +kernel⟩,
  ⟨List.replicate 256 0, List.replicate 256 0, 1, 0, { up with tdc := { up.tdc with running := some (1, 0) } }, by decide +kernel⟩⟩

theorem test_hyps_GnssPortsAndSearch :
    (∃ (fn : Fn) (port : Fin 2) (value : BitVec 32) (s : State), s.takesWrite .gn fn.val = true ∧ s.secureSt fn.val = true ∧ s.sh (F.GN_PORT_CFG_EN port.val) = 0 ∧ bitOf value.toNat 0 = true ∧ portLimits s port.val = true) ∧
    (∃ (fn : Fn) (port : Fin 2) (value : BitVec 32) (s : State), s.takesWrite .gn fn.val = true ∧ s.secureSt fn.val = true ∧ s.sh (F.GN_PORT_CFG_EN port.val) = 1 ∧ bitOf value.toNat 0 = false) ∧
    (∃ (port : Fin 2) (tick : BitVec 64) (phase : Fin 32) (largest : Fin 131073) (s : State), s.sh (F.GN_PORT_CFG_EN port.val) ≠ 0 ∧ s.doorOpen .gn = true ∧ pointDead s (ptGn port.val) = false ∧ (s.gnp port.val).stamps = []) ∧
    (∃ (port : Fin 2) (tick : BitVec 64) (phase : Fin 32) (largest : Fin 131073) (a : Nat) (i : Nat) (l : List (Nat × Nat)) (r : Rat) (s : State), s.sh (F.GN_PORT_CFG_EN port.val) ≠ 0 ∧ s.doorOpen .gn = true ∧ pointDead s (ptGn port.val) = false ∧ (s.gnp port.val).stamps = (a, i) :: l ∧ 65536 * 50000000000 / ((32 * tick.toNat + phase.val - a : Nat) : Rat) = r ∧ |r - (s.sh (F.GN_PORT_FS port.val) : Rat)| * 5000 ≤ (s.sh (F.GN_PORT_FS port.val) : Rat) ∧ gnPortState s port.val = 1) ∧
    (∃ (port : Fin 2) (s : State), gnPortState s port.val = 1) ∧
    (∃ (fn : Fn) (s : State), s.takes .gn stAcq fn.val = true ∧ s.secureSt fn.val = true ∧ s.gn.jobs.length < 16 ∧ gnPortState s (sigPort (s.rd (fn.val + 1) F.GN_ACQ_ARG0_SIGNAL)) = 1 ∧ (maskPrns (s.rd (fn.val + 1) F.GN_ACQ_ARG0_SIGNAL) (s.rd (fn.val + 1) F.GN_ACQ_ARG1) (s.rd (fn.val + 1) F.GN_ACQ_ARG2)) ≠ [] ∧ (maskPrns (s.rd (fn.val + 1) F.GN_ACQ_ARG0_SIGNAL) (s.rd (fn.val + 1) F.GN_ACQ_ARG1) (s.rd (fn.val + 1) F.GN_ACQ_ARG2)).any (fun p => !prnOk (s.rd (fn.val + 1) F.GN_ACQ_ARG0_SIGNAL) p) = false) ∧
    (∃ (fn : Fn) (s : State), s.takes .gn stAcq fn.val = true ∧ s.secureSt fn.val = true) ∧
    (∃ (tick : BitVec 64) (phase : Fin 32) (p1 : BitVec 64) (p2 : BitVec 64) (noise : BitVec 64) (code : BitVec 48) (doppler : BitVec 32) (j : GnJob) (r : List GnJob) (prn : Nat) (rest : List Nat) (s : State), s.doorOpen .gn = true ∧ s.gn.jobs = j :: r ∧ j.prns = prn :: rest ∧ s.gn.spRun = none ∧ j.capEnd ≠ 0 ∧ (j.ready ≤ s.frc ∨ j.fail = true) ∧ wsub 32 (s.sh F.GN_ACQ_WR_IDX) (s.sh F.GN_ACQ_RD_IDX) < 256) ∧
    (∃ (j : GnJob) (r : List GnJob) (s : State), s.doorOpen .gn = true ∧ s.gn.jobs = j :: r ∧ j.prns = []) ∧
    (∃ (fn : Fn) (s : State), s.takesWrite .gn fn.val = true ∧ s.secureSt fn.val = true ∧ s.sh F.GN_SS_RESULT1_BUSY = 0 ∧ s.sh F.GN_SS_CODE_CODE_COUNT ≠ 0 ∧ s.sh F.GN_SS_DOP_DOP_COUNT ≠ 0) ∧
    (∃ (fn : Fn) (code : BitVec 12) (doppler : BitVec 16) (ratio : BitVec 16) (s : State), s.takesWrite .gn fn.val = true ∧ s.secureSt fn.val = true ∧ s.sh F.GN_SS_RESULT1_BUSY = 1) ∧
    (∃ (code : BitVec 12) (doppler : BitVec 16) (ratio : BitVec 16) (s : State), s.doorOpen .gn = true ∧ s.sh F.GN_SS_RESULT1_BUSY = 1 ∧ (s.gn.ssEnd ≤ s.frc ∨ (s.sh F.GN_SS_CFG_STOP_ON_DETECT = 1 ∧ s.sh F.GN_SS_CFG_THRESH ≤ ratio.toNat))) :=
  ⟨⟨1, 1, 7, put [(0, F.GN_PORT_FS 1, 24000000), (0, F.GN_PORT_IF 1, 0)] up, by decide +kernel⟩,
  ⟨1, 0, 0, put [(0, F.GN_PORT_CFG_EN 0, 1)] up, by decide +kernel⟩,
  ⟨1, 5, 0, 131072, put [(0, F.GN_PORT_CFG_EN 1, 1)] up, by decide +kernel⟩,
  ⟨0, 4194304, 0, 0, 0, 0, [], 24414062.5, (put [(0, F.GN_PORT_CFG_EN 0, 1), (0, F.GN_PORT_STATUS_STATE 0, 1), (0, F.GN_PORT_FS 0, 24414062)] up).setGnp 0 { stamps := [(0, 0)] }, by decide +kernel⟩,
  ⟨1, put [(0, F.GN_PORT_STATUS_STATE 1, 1)] up, by decide +kernel⟩,
  ⟨1, put [(0, F.GN_PORT_STATUS_STATE 0, 1), (2, F.GN_ACQ_ARG1, 0x80000001)] up, by decide +kernel⟩,
  ⟨513, up, by decide +kernel⟩,
  ⟨0, 0, 1, 1, 1, 0, 0, ⟨1, 0, false, 1, 1, 0, 0, [1], 0, 1, false⟩, [], 1, [], { up with gn := { up.gn with jobs := [⟨1, 0, false, 1, 1, 0, 0, [1], 0, 1, false⟩] } }, by decide +kernel⟩,
  ⟨⟨1, 0, false, 1, 1, 0, 0, [], 0, 1, false⟩, [], { up with gn := { up.gn with jobs := [⟨1, 0, false, 1, 1, 0, 0, [], 0, 1, false⟩] } }, by decide +kernel⟩,
  ⟨1, put [(0, F.GN_SS_CODE_CODE_COUNT, 1), (0, F.GN_SS_DOP_DOP_COUNT, 1)] up, by decide +kernel⟩,
  ⟨1, 4095, 65535, 0, put [(0, F.GN_SS_RESULT1_BUSY, 1)] up, by decide +kernel⟩,
  ⟨4095, 65535, 65535, put [(0, F.GN_SS_RESULT1_BUSY, 1)] up, by decide +kernel⟩⟩

theorem test_hyps_GnssChannelCommands :
    (∃ (fn : Fn) (s : State), s.takes .gn stGnCh fn.val = true ∧ s.secureSt fn.val = true ∧ s.rd (fn.val + 1) F.GN_CH_SEL < 192 ∧ (gnState s (s.rd (fn.val + 1) F.GN_CH_SEL) = gnIDLE ∨ gnState s (s.rd (fn.val + 1) F.GN_CH_SEL) = gnLOST) ∧ gnPortState s (sigPort (bits (s.rd (fn.val + 1) F.GN_CH_ARG0) 0 3)) = 1 ∧ prnOk (bits (s.rd (fn.val + 1) F.GN_CH_ARG0) 0 3) (bits (s.rd (fn.val + 1) F.GN_CH_ARG0) 8 8) = true ∧ (bits (s.rd (fn.val + 1) F.GN_CH_ARG2) 0 16 * 2 ^ 32 + (s.rd (fn.val + 1) F.GN_CH_ARG1)) / 2 ^ 32 < codeLen (bits (s.rd (fn.val + 1) F.GN_CH_ARG0) 0 3) ∧ (32 * ((s.rd (fn.val + 1) F.GN_CH_ARG4) + 2 ^ 32 * (s.rd (fn.val + 1) F.GN_CH_ARG5)) + bits (s.rd (fn.val + 1) F.GN_CH_ARG0) 16 5) ≤ 32 * s.frc ∧ 32 * s.frc ≤ (32 * ((s.rd (fn.val + 1) F.GN_CH_ARG4) + 2 ^ 32 * (s.rd (fn.val + 1) F.GN_CH_ARG5)) + bits (s.rd (fn.val + 1) F.GN_CH_ARG0) 16 5) + 32 * 6250000000) ∧
    (∃ (fn : Fn) (s : State), s.takes .gn stGnCh fn.val = true ∧ s.secureSt fn.val = true ∧ s.rd (fn.val + 1) F.GN_CH_SEL < 192) ∧
    (∃ (fn : Fn) (s : State), s.takes .gn stGnCh fn.val = true ∧ s.secureSt fn.val = true ∧ s.rd (fn.val + 1) F.GN_CH_SEL < 192 ∧ gnState s (s.rd (fn.val + 1) F.GN_CH_SEL) = gnTRACKING ∧ (s.rd (fn.val + 1) F.GN_CH_ARG0) % primMs (s.gnc (s.rd (fn.val + 1) F.GN_CH_SEL)).sig = 0 ∧ (s.rd (fn.val + 1) F.GN_CH_ARG0) < 604800000 ∧ ((uns 32 ((epochOf (ncoAt s (s.rd (fn.val + 1) F.GN_CH_SEL) (s.gnc (s.rd (fn.val + 1) F.GN_CH_SEL)) s.frc)) - ((s.rd (fn.val + 1) F.GN_CH_ARG1) : Int))) ≤ 10000 ∨ 2 ^ 32 - 10000 ≤ (uns 32 ((epochOf (ncoAt s (s.rd (fn.val + 1) F.GN_CH_SEL) (s.gnc (s.rd (fn.val + 1) F.GN_CH_SEL)) s.frc)) - ((s.rd (fn.val + 1) F.GN_CH_ARG1) : Int))))) ∧
    (∃ (ch : Fin 192) (st : GnStart) (s : State), s.doorOpen .gn = true ∧ (s.gnc ch.val).start = some st ∧ st.at_ ≤ (s.frc : Rat) ∧ (gnState s ch.val = gnIDLE ∨ gnState s ch.val = gnLOST)) ∧
    (∃ (ch : Fin 192) (taps : List (BitVec 32)) (s : State), s.doorOpen .gn = true ∧ gnState s ch.val ≠ gnIDLE ∧ taps.length = 14 ∧ (s.gnc ch.val).at_ + (((s.gnc ch.val).next * primCode (s.gnc ch.val).sig : Nat) - (s.gnc ch.val).code) / codeRate s ch.val (s.gnc ch.val) ≤ (s.frc : Rat)) ∧
    (∃ (fn : Fn) (ch : Fin 192) (value : BitVec 32) (s : State), s.takesWrite .gn fn.val = true ∧ updMay s fn.val ch.val = true) ∧
    (∃ (ch : Fin 192) (s : State), gnState s ch.val = gnCOASTING ∧ (s.gnc ch.val).coastAt + ticksOfMs (s.sh F.GN_CTRL_COAST_MS) ≤ s.frc) ∧
    (∃ (tick : BitVec 64) (s : State), s.doorOpen .gn = true ∧ s.sh F.GN_CTRL_EN ≠ 0 ∧ tick.toNat % measPeriod s = 0 ∧ tick.toNat ≤ s.frc ∧ (∀ l ∈ s.gn.lastLatch, l < tick.toNat) ∧ wsub 32 (s.sh F.GN_MEAS_WR_IDX) (s.sh F.GN_MEAS_RD_IDX) + 1 + (recording s tick.toNat).length ≤ 4096) ∧
    (∃ (tick : BitVec 64) (s : State), s.doorOpen .gn = true ∧ s.sh F.GN_CTRL_EN ≠ 0 ∧ tick.toNat % measPeriod s = 0 ∧ tick.toNat ≤ s.frc ∧ (∀ l ∈ s.gn.lastLatch, l < tick.toNat) ∧ 4096 < wsub 32 (s.sh F.GN_MEAS_WR_IDX) (s.sh F.GN_MEAS_RD_IDX) + 1 + (recording s tick.toNat).length) :=
  ⟨⟨1, put [(0, F.GN_PORT_STATUS_STATE 0, 1), (2, F.GN_CH_SEL, 191), (2, F.GN_CH_ARG0, 0x100)] up, by decide +kernel⟩,
  ⟨1, put [(2, F.GN_CH_SEL, 3)] up, by decide +kernel⟩,
  ⟨1, put [(2, F.GN_CH_SEL, 0), (0, F.GN_CH_STATE_STATE 0, 2)] up, by decide +kernel⟩,
  ⟨191, ⟨0, 0, 1, 5⟩, up.setGnc 191 { up.gnc 191 with start := some ⟨0, 0, 1, 5⟩ }, by decide +kernel⟩,
  ⟨0, List.replicate 14 0, { put [(0, F.GN_CH_STATE_STATE 0, 2)] up with frc := 2000000 }, by decide +kernel⟩,
  ⟨1, 191, 0x80000000, up, by decide +kernel⟩,
  ⟨0, { put [(0, F.GN_CH_STATE_STATE 0, 3), (0, F.GN_CTRL_COAST_MS, 0)] up with frc := 2 ^ 50 }, by decide +kernel⟩,
  ⟨0, put [(0, F.GN_CTRL_EN, 1)] up, by decide +kernel⟩,
  ⟨0, put [(0, F.GN_CTRL_EN, 1), (0, F.GN_MEAS_WR_IDX, 4096)] up, by decide +kernel⟩⟩

theorem test_hyps_GnssSolutionCommands :
    (∃ (tick : BitVec 64) (pairs : List GnPair) (first : GnFit) (second : GnFit) (s : State), s.doorOpen .gn = true ∧ stewardRuns s = true ∧ s.sh F.GN_CTRL_EN ≠ 0 ∧ tick.toNat % 1562500000 = 0 ∧ tick.toNat ≤ s.frc ∧ (∀ l ∈ s.gn.lastSolve, l < tick.toNat) ∧ s.sh F.GN_CTRL_SOLVE = 0) ∧
    (∃ (tick : BitVec 64) (pairs : List GnPair) (first : GnFit) (second : GnFit) (fit : GnFit) (l : List GnPair) (sys : List Nat) (s : State), s.doorOpen .gn = true ∧ stewardRuns s = true ∧ s.sh F.GN_CTRL_EN ≠ 0 ∧ tick.toNat % 1562500000 = 0 ∧ tick.toNat ≤ s.frc ∧ (∀ l ∈ s.gn.lastSolve, l < tick.toNat) ∧ s.sh F.GN_CTRL_SOLVE ≠ 0 ∧ solveAt ({ s with gn := { s.gn with lastSolve := some tick.toNat } } : State) pairs first second = (some (fit, l, sys), false)) ∧
    (∃ (x : BitVec 64) (y : BitVec 64) (z : BitVec 64) (a : Nat) (s : State), s.doorOpen .gn = true ∧ stewardRuns s = true ∧ s.gn.surveyAt = some a ∧ s.sh F.GN_SOL_CFG_MODE = 1 ∧ a + s.sh F.GN_SURVEY_S * 1562500000 ≤ s.frc) ∧
    (∃ (s : State), s.doorOpen .gn = true ∧ s.sh F.GN_SP_CFG_SP_EN ≠ 0 ∧ s.sh F.GN_CTRL_EN ≠ 0 ∧ s.gn.spDue ≤ s.frc ∧ s.gn.spWait = false) ∧
    (∃ (tick : BitVec 64) (results : List SpResult) (x : Nat) (cs : List Nat) (s : State), s.doorOpen .gn = true ∧ s.gn.spRun = some (x, cs)) ∧
    (∃ (ch : Fin 192) (cands : List NavCand) (tow : BitVec 32) (epoch : BitVec 32) (week : BitVec 16) (p : Nat × Bool) (s : State), s.doorOpen .gn = true ∧ stewardRuns s = true ∧ gnState s ch.val = gnTRACKING ∧ (gnFlag s ch.val 4 = true ∨ (gnFlag s ch.val 3 = true ∧ (s.gnc ch.val).sig ≠ 3)) ∧ (s.gnc ch.val).lock = some p ∧ ((cands.filter fun k => k.check && (decide ((s.gnc ch.val).sig < 2) || !k.complement)).map fun k => (k.pos.toNat, k.complement)).contains p = true) ∧
    (∃ (ch : Fin 192) (cands : List NavCand) (tow : BitVec 32) (epoch : BitVec 32) (week : BitVec 16) (p : Nat × Bool) (s : State), s.doorOpen .gn = true ∧ stewardRuns s = true ∧ gnState s ch.val = gnTRACKING ∧ (gnFlag s ch.val 4 = true ∨ (gnFlag s ch.val 3 = true ∧ (s.gnc ch.val).sig ≠ 3)) ∧ (s.gnc ch.val).lock = none ∧ (((cands.filter fun k => k.check && (decide ((s.gnc ch.val).sig < 2) || !k.complement)).map fun k => (k.pos.toNat, k.complement)).filter fun p => (s.gnc ch.val).cands.contains p) = [p]) :=
  ⟨⟨0, [], ⟨0, 0, 0, 0⟩, ⟨0, 0, 0, 0⟩, put [(0, F.GN_CTRL_EN, 1), (0, F.GN_CTRL_SOLVE, 0)] up, by decide +kernel⟩,
  ⟨0, gnPairs, ⟨0, 0, 0, 0⟩, ⟨0, 0, 0, 0⟩, ⟨0, 0, 0, 0⟩, gnPairs, [0], gnTracking up, by decide +kernel⟩,
  ⟨1, 0xFFFFFFFFFFFFFFFF, 3, 0, { put [(0, F.GN_SOL_CFG_MODE, 1)] up with gn := { up.gn with surveyAt := some 0 }, frc := 2 ^ 60 }, by decide +kernel⟩,
  ⟨{ put [(0, F.GN_SP_CFG_SP_EN, 1), (0, F.GN_CTRL_EN, 1)] up with frc := 2 ^ 60 }, by decide +kernel⟩,
  ⟨0, [], 0, [], { up with gn := { up.gn with spRun := some (0, []) } }, by decide +kernel⟩,
  ⟨0, [⟨5, false, true⟩], 0, 0, 0, (5, false), (put [(0, F.GN_CH_STATE_STATE 0, 2), (0, F.GN_CH_STATE_FLAGS 0, 16)] up).setGnc 0 { lock := some (5, false) }, by decide +kernel⟩,
  ⟨191, [⟨5, false, true⟩], 0, 0, 0, (5, false), (put [(0, F.GN_CH_STATE_STATE 191, 2), (0, F.GN_CH_STATE_FLAGS 191, 16)] up).setGnc 191 { cands := [(5, false)] }, by decide +kernel⟩⟩

theorem test_hyps_GnssPulseAndAudit :
    (∃ (fn : Fn) (s : State), s.takesWrite .gn fn.val = true ∧ s.secureSt fn.val = true) ∧
    (∃ (at_ : Nat) (m : PpsModel) (s : State), s.gn.modelNew = some (at_, m) ∧ at_ ≤ s.frc) ∧
    (∃ (fn : Fn) (value : BitVec 32) (s : State), s.takesWrite .gn fn.val = true ∧ s.secureSt fn.val = true ∧ s.sh F.GN_PPS_CFG_EN = 0 ∧ bitOf value.toNat 0 = true) ∧
    (∃ (fn : Fn) (value : BitVec 32) (s : State), s.takesWrite .gn fn.val = true ∧ s.secureSt fn.val = true ∧ bitOf value.toNat 0 = false) ∧
    (∃ (p : PpsPulse) (s : State), s.gn.pulse = some p ∧ p.edge ≤ (s.frc : Int) * 640 ∧ p.squelched = false) ∧
    (∃ (fn : Fn) (value : BitVec 32) (s : State), s.takesWrite .gn fn.val = true ∧ s.secureSt fn.val = true ∧ bitOf value.toNat 0 = true ∧ audState s = audOFF) ∧
    (∃ (fn : Fn) (value : BitVec 32) (s : State), s.takesWrite .gn fn.val = true ∧ s.secureSt fn.val = true ∧ bitOf value.toNat 0 = false) ∧
    (∃ (s : State), s.doorOpen .gn = true ∧ audState s = audAWAKE ∧ snapState s ≠ snapCAPTURING ∧ s.gn.awakeAt + s.sh F.GN_AUD_CFG_AUDIT_ON_MIN * 60 * 1562500000 ≤ s.frc) ∧
    (∃ (s : State), s.doorOpen .gn = true ∧ audState s = audSLEEP ∧ s.rd64 0 F.GN_AUD_WAKE_LO F.GN_AUD_WAKE_HI ≤ s.frc ∧ s.sh F.PWR_STATUS_STATE ≤ 2) ∧
    (∃ (at_ : Nat) (s : State), s.doorOpen .gn = true ∧ s.gn.warmAt = some at_ ∧ at_ ≤ s.frc) ∧
    (∃ (fn : Fn) (s : State), s.takesWrite .gn fn.val = true ∧ s.secureSt fn.val = true ∧ snapRefused s = false) ∧
    (∃ (x : GnSnap) (s : State), s.doorOpen .gn = true ∧ s.gn.snap = some x ∧ snapState s = snapARMED ∧ x.tick ≤ s.frc ∧ ([0, 1].any fun p => bitOf (s.sh F.GN_SNAP_CFG_SNAP_PORTS) p && gnPortState s p != 1) = false) ∧
    (∃ (samples0 : List Byte) (samples1 : List Byte) (stamps0 : List SnapStamp) (stamps1 : List SnapStamp) (x : GnSnap) (s : State), s.doorOpen .gn = true ∧ s.gn.snap = some x ∧ snapState s = snapCAPTURING ∧ x.tick + s.sh F.GN_SNAP_CFG_LEN_MS * 1562500 ≤ s.frc) ∧
    (∃ (fn : Fn) (s : State), s.takesWrite .gn fn.val = true ∧ s.secureSt fn.val = true ∧ snapState s = snapHELD) :=
  ⟨⟨1, up, by decide +kernel⟩,
  ⟨0, ⟨0, 0, 5, 0⟩, { up with gn := { up.gn with modelNew := some (0, ⟨0, 0, 5, 0⟩) } }, by decide +kernel⟩,
  ⟨1, 1, up, by decide +kernel⟩,
  ⟨1, 0xFFFE, up, by decide +kernel⟩,
  ⟨⟨1, 0, 0, 0, true, false, 0, 0⟩, { up with gn := { up.gn with pulse := some ⟨1, 0, 0, 0, true, false, 0, 0⟩ } }, by decide +kernel⟩,
  ⟨1, 1, up, by decide +kernel⟩,
  ⟨1, 0, up, by decide +kernel⟩,
  ⟨{ put [(0, F.GN_AUD_STATUS_STATE, 1)] up with frc := 2 ^ 60 }, by decide +kernel⟩,
  ⟨put [(0, F.GN_AUD_STATUS_STATE, 2)] up, by decide +kernel⟩,
  ⟨0, { up with gn := { up.gn with warmAt := some 0 } }, by decide +kernel⟩,
  ⟨1, { put [(0, F.GN_SNAP_CFG_SNAP_PORTS, 0)] up with stw := { up.stw with regions := [(3, 0, 0x500000)] } }, by decide +kernel⟩,
  ⟨{ tick := 0 }, { put [(0, F.GN_SNAP_STATUS_STATE, 1), (0, F.GN_SNAP_CFG_SNAP_PORTS, 0)] up with gn := { up.gn with snap := some { tick := 0 } } }, by decide +kernel⟩,
  ⟨[], [], [], [], { tick := 0 }, { put [(0, F.GN_SNAP_STATUS_STATE, 2)] up with gn := { up.gn with snap := some { tick := 0 } }, frc := 2 ^ 60 }, by decide +kernel⟩,
  ⟨513, put [(0, F.GN_SNAP_STATUS_STATE, 3)] up, by decide +kernel⟩⟩

theorem test_hyps_PortCommands :
    (∃ (fn : Fn) (port : Fin 16) (value : BitVec 32) (s : State), s.takesWrite .prt fn.val = true ∧ s.secureSt fn.val = true ∧ s.sh (F.PRT_PORT_CFG_EN port.val) = 0 ∧ bitOf value.toNat 0 = true ∧ portOk s port.val (bits value.toNat 1 4) (bits value.toNat 5 2) = true) ∧
    (∃ (fn : Fn) (port : Fin 16) (value : BitVec 32) (s : State), s.takesWrite .prt fn.val = true ∧ s.secureSt fn.val = true ∧ s.sh (F.PRT_PORT_CFG_EN port.val) = 1 ∧ bitOf value.toNat 0 = false ∧ (bits value.toNat 1 4) = portMode s port.val ∧ (bits value.toNat 5 2) = s.sh (F.PRT_PORT_CFG_FEC port.val) ∧ bits value.toNat 7 1 = s.sh (F.PRT_PORT_CFG_AN_EN port.val)) ∧
    (∃ (lane : Fin 16) (s : State), s.sh (F.PRT_LANE_STATUS_BLOCK_LOCK lane.val) ≠ 0) ∧
    (∃ (port : Fin 16) (s : State), s.doorOpen .prt = true ∧ s.sh (F.PRT_PORT_STATUS_STATE port.val) = 1 ∧ (s.prtPort port.val).downAt + ticksOfMs (s.sh (F.PRT_PORT_FRAME_LINKUP_MS port.val)) ≤ s.frc) ∧
    (∃ (port : Fin 16) (cause : LinkCause) (s : State), s.doorOpen .prt = true ∧ s.sh (F.PRT_PORT_CFG_EN port.val) ≠ 0 ∧ linkConcerns s port.val cause = true) ∧
    (∃ (port : Fin 16) (present : Bool) (s : State), portUp s port.val = true) ∧
    (∃ (port : Fin 16) (tick : BitVec 64) (phase : Fin 32) (b : BitVec 13) (frame : List Byte) (s : State), s.doorOpen .prt = true ∧ portUp s port.val = true ∧ 14 ≤ frame.length ∧ rxFlags s port.val frame false false false = 0 ∧ rxShareHeld s port.val + (frame.take (frame.length - 4)).length ≤ (((tget s.stw.shares port.val).map (·.1)).getD 0) * 1024 ∧ ofBe (slice (frame.take (frame.length - 4)) 12 2) ≠ 0x8808 ∧ ofBe (slice (frame.take (frame.length - 4)) 12 2) ≠ 0x8809) ∧
    (∃ (port : Fin 16) (tick : BitVec 64) (phase : Fin 32) (b : BitVec 13) (f : TxFrame) (rest : List TxFrame) (s : State), s.doorOpen .prt = true ∧ s.safe = false ∧ portUp s port.val = true ∧ (s.prtPort port.val).freeAt ≤ (s.frc : Rat) ∧ (s.schPort port.val).pipe = f :: rest ∧ dueLaunch s port.val = none ∧ frameFits s port.val f (s.frc : Rat) = true ∧ bitPosOk s port.val b.toNat = true) ∧
    (∃ (port : Fin 16) (tick : BitVec 64) (phase : Fin 32) (b : BitVec 13) (l : Launch) (s : State), s.doorOpen .prt = true ∧ s.safe = false ∧ portUp s port.val = true ∧ (s.prtPort port.val).freeAt ≤ (s.frc : Rat) ∧ (s.schPort port.val).pipe = [] ∧ dueLaunch s port.val = some l) ∧
    (∃ (port : Fin 16) (l : Launch) (s : State), (s.schPort port.val).launches.find? (fun l => decide (l.start < (s.frc : Rat) + 40)) = some l) ∧
    (∃ (fn : Fn) (port : Fin 16) (dir : Fin 2) (value : BitVec 32) (s : State), s.takesWrite .prt fn.val = true ∧ s.secureSt fn.val = true ∧ s.sh (prtTsr port.val dir.val).en = 0) :=
  ⟨⟨1, 15, 1, up, by decide +kernel⟩,
  ⟨1, 0, 0, put [(0, F.PRT_PORT_CFG_EN 0, 1), (0, F.PRT_PORT_CFG_MODE 0, 0), (0, F.PRT_PORT_CFG_FEC 0, 0), (0, F.PRT_PORT_CFG_AN_EN 0, 0)] up, by decide +kernel⟩,
  ⟨15, put [(0, F.PRT_LANE_STATUS_BLOCK_LOCK 15, 1)] up, by decide +kernel⟩,
  ⟨0, { put [(0, F.PRT_PORT_STATUS_STATE 0, 1)] up with frc := 2 ^ 60 }, by decide +kernel⟩,
  ⟨0, .hiBer, put [(0, F.PRT_PORT_CFG_EN 0, 1)] up, by decide +kernel⟩,
  ⟨15, true, put [(0, F.PRT_PORT_STATUS_STATE 15, 2)] up, by decide +kernel⟩,
  ⟨15, 5, 31, 0, zeros 60 ++ leBytes 4 (crc32 (zeros 60)), { put [(0, F.PRT_PORT_STATUS_STATE 15, 2)] up with stw := { up.stw with shares := [(15, 64, 64)] } }, by decide +kernel⟩,
  ⟨0, 0, 0, 0, frame0, [], (put [(0, F.PRT_PORT_STATUS_STATE 0, 2), (0, F.PRT_PORT_CFG_MODE 0, 0)] up).setSchPort 0 { up.schPort 0 with pipe := [frame0] }, by decide +kernel⟩,
  ⟨0, 0, 0, 0, ⟨frame0, 40, 60, 0, 0, true⟩, (put [(0, F.PRT_PORT_STATUS_STATE 0, 2)] up).setSchPort 0 { up.schPort 0 with launches := [⟨frame0, 40, 60, 0, 0, true⟩] }, by decide +kernel⟩,
  ⟨0, ⟨frame0, 39, 60, 0, 0, true⟩, up.setSchPort 0 { up.schPort 0 with launches := [⟨frame0, 39, 60, 0, 0, true⟩] }, by decide +kernel⟩,
  ⟨1, 15, 1, 1, up, by decide +kernel⟩⟩

theorem test_hyps_ServingMessages :
    (∃ (pipe : Fin 8) (m : SveMsg) (granted : Bool) (s : State), s.doorOpen .sve = true ∧ nextMsg s pipe.val = some (m, granted) ∧ m.kind = .delayReq) ∧
    (∃ (pipe : Fin 8) (m : SveMsg) (granted : Bool) (s : State), s.doorOpen .sve = true ∧ nextMsg s pipe.val = some (m, granted) ∧ m.kind = .ntp) ∧
    (∃ (pipe : Fin 8) (m : SveMsg) (granted : Bool) (s : State), s.doorOpen .sve = true ∧ nextMsg s pipe.val = some (m, granted) ∧ m.kind = .followUp) ∧
    (∃ (pipe : Fin 8) (m : SveMsg) (granted : Bool) (start : BitVec 64) (tick : BitVec 64) (phase : Fin 32) (b : BitVec 13) (s : State), s.doorOpen .sve = true ∧ nextMsg s pipe.val = some (m, granted) ∧ m.kind = .nts) ∧
    (∃ (m : SveMsg) (rest : List SveMsg) (sa : Option Nat) (s : State), s.doorOpen .sve = true ∧ s.sve.sig = m :: rest ∧ ((findCtx ({ s with sve := { s.sve with sig := rest } } : State) false (clientKey m.snap.idx (parse m.frame) (ptpMessage m.frame (parse m.frame)))).map fun c => ctxPoisoned ({ s with sve := { s.sve with sig := rest } } : State) c).getD false = false ∧ (verifyFor (ptpMessage m.frame (parse m.frame)) 44 (entTenant m.snap.data) ((findCtx ({ s with sve := { s.sve with sig := rest } } : State) false (clientKey m.snap.idx (parse m.frame) (ptpMessage m.frame (parse m.frame)))).map fun c => Ctx.sa (ctxRead ({ s with sve := { s.sve with sig := rest } } : State) c)) false ({ s with sve := { s.sve with sig := rest } } : State)).1 = some sa) ∧
    (∃ (bitmap : Fin 12) (word : BitVec 16) (a : Nat) (s : State), s.doorOpen .sve = true ∧ s.sh F.SVE_CTRL_EN ≠ 0 ∧ ((wheelNow s ((bitmap.val : Int) - 7)) % 65536).toNat = word.toNat ∧ tget s.sve.wheel bitmap.val ≠ some (wheelNow s ((bitmap.val : Int) - 7)) ∧ wheelAddr ({ s with sve := { s.sve with wheel := tset s.sve.wheel bitmap.val (wheelNow s ((bitmap.val : Int) - 7)) } } : State) ((bitmap.val : Int) - 7) (16 * word.toNat) = some a ∧ ({ s with sve := { s.sve with wheel := tset s.sve.wheel bitmap.val (wheelNow s ((bitmap.val : Int) - 7)) } } : State).shmPoisoned a 4 = false) ∧
    (∃ (t3 : Option (BitVec 96)) (m : Octets) (x32 : Nat) (time : Int) (rest : List (Octets × Nat × Int)) (s : State), s.sve.cli.inbox = (m, x32, time) :: rest) ∧
    (∃ (t : Nat) (log : Int) (s : State), s.sve.cli.ann = some (t, log) ∧ (t : Rat) + logTicks (s.sh F.SVE_CLI_CFG_CLI_ANN_TO) log ≤ (s.frc : Rat) ∧ s.sh F.SVE_CLI_CFG_CLI_EN ≠ 0) ∧
    (∃ (t : Nat) (log : Int) (s : State), s.sve.cli.sync = some (t, log) ∧ (t : Rat) + logTicks (s.sh F.SVE_CLI_CFG_CLI_SYNC_TO) log ≤ (s.frc : Rat) ∧ s.sh F.SVE_CLI_CFG_CLI_EN ≠ 0) ∧
    (∃ (s : State), s.doorOpen .sve = true ∧ s.sve.sweepAt + 15625000000 ≤ s.frc) :=
  ⟨⟨0, msgOf .delayReq, true, withMsg .delayReq up, by decide +kernel⟩,
  ⟨0, msgOf .ntp, true, withMsg .ntp up, by decide +kernel⟩,
  ⟨0, msgOf .followUp, true, withMsg .followUp up, by decide +kernel⟩,
  ⟨0, msgOf .nts, true, 0, 0, 0, 0, withMsg .nts up, by decide +kernel⟩,
  ⟨msgOf .signaling, [], none, { up with sve := { up.sve with sig := [msgOf .signaling] } }, by decide +kernel⟩,
  ⟨7, 0, 0x9C0000, put [(0, F.SVE_CTRL_EN, 1)] { up with stw := { up.stw with regions := [(0, 0, 0x700000), (1, 0x700000, 0x100000)] } }, by decide +kernel⟩,
  ⟨none, zeros 44, 5, 0, [], setCli { up.sve.cli with inbox := [(zeros 44, 5, 0)] } up, by decide +kernel⟩,
  ⟨0, 0, { put [(0, F.SVE_CLI_CFG_CLI_EN, 1)] (setCli { up.sve.cli with ann := some (0, 0) } up) with frc := 2 ^ 60 }, by decide +kernel⟩,
  ⟨0, 0, { put [(0, F.SVE_CLI_CFG_CLI_EN, 1)] (setCli { up.sve.cli with sync := some (0, 0) } up) with frc := 2 ^ 60 }, by decide +kernel⟩,
  ⟨{ up with frc := 15625000000 }, by decide +kernel⟩⟩

theorem test_hyps_ClassifierAndContextCommands :
    (∃ (fn : Fn) (drain : Bool) (expectGen : Fin 16) (s : State), s.takes .sve stCls fn.val = true ∧ s.secureSt fn.val = true ∧ expectGen.val = (s.cls (s.rd (fn.val + 1) F.SVE_CLS_SEL)).gen ∧ entAction (clsWindow s (ownWin fn)) < 5 ∧ kindAllows s (clsWindow s (ownWin fn)) = true ∧ s.sve.waits.any (fun x => x.entry == (s.rd (fn.val + 1) F.SVE_CLS_SEL)) = false ∧ (entMessages s (s.rd (fn.val + 1) F.SVE_CLS_SEL)).any (fun m => m.snap.gen == ((s.cls (s.rd (fn.val + 1) F.SVE_CLS_SEL)).gen + 1) % 16) = false ∧ (drain = false ∨ entMessages s (s.rd (fn.val + 1) F.SVE_CLS_SEL) = [])) ∧
    (∃ (fn : Fn) (drain : Bool) (expectGen : Fin 16) (s : State), s.takes .sve stCls fn.val = true ∧ s.secureSt fn.val = true ∧ expectGen.val = (s.cls (s.rd (fn.val + 1) F.SVE_CLS_SEL)).gen ∧ entAction (clsWindow s (ownWin fn)) < 5 ∧ kindAllows s (clsWindow s (ownWin fn)) = true ∧ s.sve.waits.any (fun x => x.entry == (s.rd (fn.val + 1) F.SVE_CLS_SEL)) = false ∧ (entMessages s (s.rd (fn.val + 1) F.SVE_CLS_SEL)).any (fun m => m.snap.gen == ((s.cls (s.rd (fn.val + 1) F.SVE_CLS_SEL)).gen + 1) % 16) = true) ∧
    (∃ (fn : Fn) (drain : Bool) (expectGen : Fin 16) (s : State), s.takes .sve stCls fn.val = true ∧ s.secureSt fn.val = true ∧ expectGen.val = (s.cls (s.rd (fn.val + 1) F.SVE_CLS_SEL)).gen ∧ entAction (splice (padTo 32 (s.cls (s.rd (fn.val + 1) F.SVE_CLS_SEL)).data) 0 (oct [byteAt (padTo 32 (s.cls (s.rd (fn.val + 1) F.SVE_CLS_SEL)).data) 0 / 2 * 2])) < 5 ∧ kindAllows s (splice (padTo 32 (s.cls (s.rd (fn.val + 1) F.SVE_CLS_SEL)).data) 0 (oct [byteAt (padTo 32 (s.cls (s.rd (fn.val + 1) F.SVE_CLS_SEL)).data) 0 / 2 * 2])) = true ∧ s.sve.waits.any (fun x => x.entry == (s.rd (fn.val + 1) F.SVE_CLS_SEL)) = false ∧ (entMessages s (s.rd (fn.val + 1) F.SVE_CLS_SEL)).any (fun m => m.snap.gen == ((s.cls (s.rd (fn.val + 1) F.SVE_CLS_SEL)).gen + 1) % 16) = false ∧ (drain = false ∨ entMessages s (s.rd (fn.val + 1) F.SVE_CLS_SEL) = [])) ∧
    (∃ (entry : Fin 4096) (x : ClsWait) (s : State), s.sve.waits.find? (fun x => x.entry == entry.val) = some x ∧ x.old = none ∧ (entMessages s entry.val).any (fun m => m.snap.gen == ((s.cls entry.val).gen + 1) % 16) = false) ∧
    (∃ (fn : Fn) (s : State), s.takes .sve stCls fn.val = true ∧ (s.secureSt fn.val = true ∨ tenantOf fn.val = entTenant (padTo 32 (s.cls (s.rd (fn.val + 1) F.SVE_CLS_SEL)).data))) ∧
    (∃ (fn : Fn) (s : State), s.takes .sve stCtx fn.val = true ∧ (s.rd (fn.val + 1) F.SVE_CTX_SEL) < ctxCount s ∧ (s.secureSt fn.val = true ∨ tenantOf fn.val = ctxTenant s (ctxRead s (s.rd (fn.val + 1) F.SVE_CTX_SEL))) ∧ ctxPoisoned s (s.rd (fn.val + 1) F.SVE_CTX_SEL) = false) ∧
    (∃ (fn : Fn) (n : Nat) (s : State), s.takes .sve stCtx fn.val = true ∧ s.secureSt fn.val = true ∧ Ctx.active (installRecord s (ownWin fn)) = true ∧ (Ctx.mcast (installRecord s (ownWin fn)) && (entUnicastOnly (s.cls (Ctx.entry (installRecord s (ownWin fn)))).data || entAction (s.cls (Ctx.entry (installRecord s (ownWin fn)))).data != 2)) = false ∧ findCtx s (Ctx.mcast (installRecord s (ownWin fn))) (Ctx.key (installRecord s (ownWin fn))) = none ∧ admits s false (bestPipe s) (entTenant (s.cls (Ctx.entry (installRecord s (ownWin fn)))).data) (([0, 1, 2].map fun g => grantLoad (installRecord s (ownWin fn)) g).sum) 0 (([0, 1, 2].map fun g => grantSecLoad (installRecord s (ownWin fn)) g).sum) 0 = true ∧ freeCtx s (bestPipe s) = some n) ∧
    (∃ (fn : Fn) (s : State), s.takes .sve stCtx fn.val = true ∧ (s.rd (fn.val + 1) F.SVE_CTX_SEL) < ctxCount s ∧ (s.secureSt fn.val = true ∨ tenantOf fn.val = ctxTenant s (ctxRead s (s.rd (fn.val + 1) F.SVE_CTX_SEL))) ∧ ctxPoisoned s (s.rd (fn.val + 1) F.SVE_CTX_SEL) = false) ∧
    (∃ (fn : Fn) (types : Fin 8) (s : State), s.takes .sve stCtx fn.val = true ∧ (s.rd (fn.val + 1) F.SVE_CTX_SEL) < ctxCount s ∧ (s.secureSt fn.val = true ∨ tenantOf fn.val = ctxTenant s (ctxRead s (s.rd (fn.val + 1) F.SVE_CTX_SEL))) ∧ ctxPoisoned s (s.rd (fn.val + 1) F.SVE_CTX_SEL) = false ∧ types.val ≠ 0) :=
  ⟨⟨1, true, 0, up, by decide +kernel⟩,
  ⟨1, true, 0, { up with sve := { up.sve with sig := [{ msgOf .signaling with snap := { (msgOf .signaling).snap with gen := 1 } }] } }, by decide +kernel⟩,
  ⟨1, true, 0, up, by decide +kernel⟩,
  ⟨0, ⟨⟨1, 2⟩, 0, zeros 32, none⟩, { up with sve := { up.sve with waits := [⟨⟨1, 2⟩, 0, zeros 32, none⟩] } }, by decide +kernel⟩,
  ⟨1, up, by decide +kernel⟩,
  ⟨1, { up with stw := { up.stw with regions := [(0, 0, 0x700000), (1, 0x700000, 0x100000)] } }, by decide +kernel⟩,
  ⟨1, 0, put [(2, F.SVE_CTX_DATA 0, 1)] ({ up with stw := { up.stw with regions := [(0, 0, 0x700000), (1, 0x700000, 0x100000)] } }), by decide +kernel⟩,
  ⟨1, { up with stw := { up.stw with regions := [(0, 0, 0x700000), (1, 0x700000, 0x100000)] } }, by decide +kernel⟩,
  ⟨1, 7, { up with stw := { up.stw with regions := [(0, 0, 0x700000), (1, 0x700000, 0x100000)] } }, by decide +kernel⟩⟩

theorem test_hyps_SecurityAssociationCommands :
    (∃ (fn : Fn) (s : State), s.takes .sec stSa fn.val = true ∧ s.secureSt fn.val = true ∧ bits (s.rd (fn.val + 1) (F.SEC_SA_DATA 0)) 1 2 ≠ 3 ∧ (bitOf (s.rd (fn.val + 1) (F.SEC_SA_DATA 0)) 3 = false ∨ bits (s.rd (fn.val + 1) (F.SEC_SA_DATA 0)) 1 2 = 2) ∧ (bitOf (s.rd (fn.val + 1) (F.SEC_SA_DATA 0)) 0 = false ∨ saTaken s (s.rd (fn.val + 1) F.SEC_SA_SEL) (bits (s.rd (fn.val + 1) (F.SEC_SA_DATA 0)) 16 9) (bits (s.rd (fn.val + 1) (F.SEC_SA_DATA 0)) 8 8) = false) ∧ halfLoaded (s.sa (s.rd (fn.val + 1) F.SEC_SA_SEL)).a = false ∧ halfLoaded (s.sa (s.rd (fn.val + 1) F.SEC_SA_SEL)).b = false) ∧
    (∃ (fn : Fn) (s : State), s.takes .sec stSa fn.val = true ∧ (s.secureSt fn.val = true ∨ tenantOf fn.val = (s.sa (s.rd (fn.val + 1) F.SEC_SA_SEL)).tenant)) ∧
    (∃ (fn : Fn) (key : Nat) (s : State), s.takes .sec stSa fn.val = true ∧ s.secureSt fn.val = true ∧ ksDeliver s (bits (s.rd (fn.val + 1) F.SEC_SA_ARG0) 16 10) masterGh (algUsage (s.sa (s.rd (fn.val + 1) F.SEC_SA_SEL)).alg) (s.sa (s.rd (fn.val + 1) F.SEC_SA_SEL)).tenant = some key ∧ (s.rd (fn.val + 1) F.SEC_SA_ARG0 % 2 == 1) ≠ (s.sa (s.rd (fn.val + 1) F.SEC_SA_SEL)).tx ∧ (halfLoaded ((s.sa (s.rd (fn.val + 1) F.SEC_SA_SEL)).half (!(s.rd (fn.val + 1) F.SEC_SA_ARG0 % 2 == 1))) && halfKeyId ((s.sa (s.rd (fn.val + 1) F.SEC_SA_SEL)).half (!(s.rd (fn.val + 1) F.SEC_SA_ARG0 % 2 == 1))) == (s.rd (fn.val + 1) F.SEC_SA_ARG1)) = false ∧ attrLen (s.ksSlot (bits (s.rd (fn.val + 1) F.SEC_SA_ARG0) 16 10)).attr = algLen (s.sa (s.rd (fn.val + 1) F.SEC_SA_SEL)).alg) ∧
    (∃ (fn : Fn) (s : State), s.takes .sec stSa fn.val = true ∧ s.secureSt fn.val = true ∧ (s.rd (fn.val + 1) F.SEC_SA_ARG0 % 2 == 1) ≠ (s.sa (s.rd (fn.val + 1) F.SEC_SA_SEL)).tx ∧ (s.sa (s.rd (fn.val + 1) F.SEC_SA_SEL)).rot = none) ∧
    (∃ (fn : Fn) (frcTime : Bool) (s : State), s.takes .sec stSa fn.val = true ∧ s.secureSt fn.val = true ∧ halfLoaded ((s.sa (s.rd (fn.val + 1) F.SEC_SA_SEL)).half (!(s.sa (s.rd (fn.val + 1) F.SEC_SA_SEL)).tx)) = true ∧ (frcTime = false ∨ s.frc + 64 ≤ (s.rd64 (fn.val + 1) F.SEC_SA_ARG0 F.SEC_SA_ARG1))) ∧
    (∃ (sa : Fin 4096) (c : Nat) (s : State), (s.sa sa.val).rot = some c ∧ c ≤ s.frc) ∧
    (∃ (fn : Fn) (s : State), s.takes .sec stSa fn.val = true ∧ s.secureSt fn.val = true ∧ halfLoaded (s.sa (s.rd (fn.val + 1) F.SEC_SA_SEL)).a = false ∧ halfLoaded (s.sa (s.rd (fn.val + 1) F.SEC_SA_SEL)).b = false) :=
  ⟨⟨1, put [(2, F.SEC_SA_DATA 0, 0xD)] up, by decide +kernel⟩,
  ⟨2, put [(3, F.SEC_SA_SEL, 7)] (up.setSa 7 { tenant := 1, a := some ⟨5, 6, 7, 8, false⟩ }), by decide +kernel⟩,
  ⟨1, 7, put [(2, F.SEC_SA_ARG0, 1), (2, F.SEC_SA_ARG1, 9)] (withKey 16 up), by decide +kernel⟩,
  ⟨513, put [(514, F.SEC_SA_ARG0, 1)] up, by decide +kernel⟩,
  ⟨1, true, put [(2, F.SEC_SA_ARG0, 64)] (up.setSa 1 { b := some ⟨5, 6, 7, 8, false⟩ }), by decide +kernel⟩,
  ⟨4095, 0, up.setSa 4095 { rot := some 0 }, by decide +kernel⟩,
  ⟨1, up, by decide +kernel⟩⟩

theorem test_hyps_NtsKeyCommands :
    (∃ (fn : Fn) (key : Nat) (s : State), s.takes .sec stNts fn.val = true ∧ s.secureSt fn.val = true ∧ ksDeliver s (s.rd (fn.val + 1) F.SEC_NTS_CFG_SLOT) masterSiv usageNts (s.rd (fn.val + 1) F.SEC_NTS_CFG_OWNER) = some key ∧ s.nts (s.rd (fn.val + 1) F.SEC_NTS_SEL) = none ∧ s.sec.nts.any (fun e => e.2.keyId == (s.rd (fn.val + 1) F.SEC_NTS_KEYID)) = false ∧ attrLen (s.ksSlot (s.rd (fn.val + 1) F.SEC_NTS_CFG_SLOT)).attr = 32) ∧
    (∃ (fn : Fn) (e : NtsEnt) (s : State), s.takes .sec stNts fn.val = true ∧ s.secureSt fn.val = true ∧ s.nts (s.rd (fn.val + 1) F.SEC_NTS_SEL) = some e ∧ e.state = 1) ∧
    (∃ (fn : Fn) (e : NtsEnt) (s : State), s.takes .sec stNts fn.val = true ∧ s.secureSt fn.val = true ∧ s.nts (s.rd (fn.val + 1) F.SEC_NTS_SEL) = some e ∧ e.state = 1) ∧
    (∃ (fn : Fn) (count : Fin 16) (e : NtsEnt) (s : State), s.takes .sec stNts fn.val = true ∧ currentNts s (tenantOf fn.val) = some e ∧ 1 ≤ count.val ∧ count.val ≤ 8 ∧ (s.rd64 (fn.val + 1) F.SEC_NTS_ADDR_LO F.SEC_NTS_ADDR_HI) % 64 = 0 ∧ ownsBuf s fn.val (s.rd64 (fn.val + 1) F.SEC_NTS_ADDR_LO F.SEC_NTS_ADDR_HI) (64 + 104 * count.val) = true ∧ e.lost = false ∧ bufCode s (s.rd64 (fn.val + 1) F.SEC_NTS_ADDR_LO F.SEC_NTS_ADDR_HI) 64 = Code.ok) ∧
    (∃ (fn : Fn) (e : NtsEnt) (s : State), s.takes .sec stNts fn.val = true ∧ s.nts (s.rd (fn.val + 1) F.SEC_NTS_SEL) = some e ∧ (s.secureSt fn.val = true ∨ e.owner = tenantOf fn.val)) :=
  ⟨⟨1, 7, withKey 32 up, by decide +kernel⟩,
  ⟨1, ⟨1, 0, 0, 0, 0, false⟩, up.setNts 0 ⟨1, 0, 0, 0, 0, false⟩, by decide +kernel⟩,
  ⟨1, ⟨1, 0, 0, 0, 0, false⟩, up.setNts 0 ⟨1, 0, 0, 0, 0, false⟩, by decide +kernel⟩,
  ⟨2, 8, ⟨2, 1, 0, 0, 0, false⟩, up.setNts 0 ⟨2, 1, 0, 0, 0, false⟩, by decide +kernel⟩,
  ⟨2, ⟨2, 1, 6, 5, 0, false⟩, up.setNts 0 ⟨2, 1, 6, 5, 0, false⟩, by decide +kernel⟩⟩

theorem test_hyps_SchedulerCommands :
    (∃ (port : Fin 16) (l : List Launch) (x : Launch) (s : State), s.safe = false ∧ s.doorOpen .sch = true ∧ portUp s port.val = true ∧ (s.schPort port.val).pipe.length + ((s.schPort port.val).launches.filter (·.selected)).length < s.sh (F.SCH_PORT_CFG_RUN_AHEAD port.val) ∧ selectLaunch (s.schPort port.val).launches = some (l, x)) ∧
    (∃ (port : Fin 16) (e : Nat × TxQueue) (s : State), s.safe = false ∧ s.doorOpen .sch = true ∧ portUp s port.val = true ∧ (s.schPort port.val).pipe.length + ((s.schPort port.val).launches.filter (·.selected)).length < s.sh (F.SCH_PORT_CFG_RUN_AHEAD port.val) ∧ selectLaunch (s.schPort port.val).launches = none ∧ (List.range 4).findSome? (fun l => bestQueue (purgeNoFit port.val s) port.val l) = some e) ∧
    (∃ (fn : Fn) (s : State), s.takes .sch stQ fn.val = true ∧ s.secureSt fn.val = true ∧ ((s.q (s.rd (fn.val + 1) F.SCH_Q_SEL)).frames = [] ∨ ((windowQ s (ownWin fn) (s.q (s.rd (fn.val + 1) F.SCH_Q_SEL))).port = (s.q (s.rd (fn.val + 1) F.SCH_Q_SEL)).port ∧ (windowQ s (ownWin fn) (s.q (s.rd (fn.val + 1) F.SCH_Q_SEL))).level = (s.q (s.rd (fn.val + 1) F.SCH_Q_SEL)).level ∧ (windowQ s (ownWin fn) (s.q (s.rd (fn.val + 1) F.SCH_Q_SEL))).host = (s.q (s.rd (fn.val + 1) F.SCH_Q_SEL)).host))) ∧
    (∃ (fn : Fn) (clearMax : Bool) (s : State), s.takes .sch stQ fn.val = true ∧ (s.secureSt fn.val = true ∨ tenantOf fn.val = (s.q (s.rd (fn.val + 1) F.SCH_Q_SEL)).owner)) ∧
    (∃ (fn : Fn) (s : State), s.takes .sch stQ fn.val = true ∧ (s.secureSt fn.val = true ∨ ((s.q (s.rd (fn.val + 1) F.SCH_Q_SEL)).host = true ∧ tenantOf fn.val = (s.q (s.rd (fn.val + 1) F.SCH_Q_SEL)).owner))) ∧
    (∃ (fn : Fn) (port : Fin 16) (value : BitVec 32) (s : State), s.takesWrite .sch fn.val = true ∧ s.secureSt fn.val = true ∧ bitOf value.toNat 9 = true ∧ bitOf value.toNat 10 = false ∧ t96Valid (s.sh (F.SCH_GATE_BASE0 port.val) + 2 ^ 32 * s.sh (F.SCH_GATE_BASE1 port.val) + 2 ^ 64 * s.sh (F.SCH_GATE_BASE2 port.val)) = true ∧ 1 ≤ bits value.toNat 0 9 ∧ bits value.toNat 0 9 ≤ 256 ∧ vc0Ns s (s.frc : Rat) + 1000 ≤ (linOfT96 (s.sh (F.SCH_GATE_BASE0 port.val) + 2 ^ 32 * s.sh (F.SCH_GATE_BASE1 port.val) + 2 ^ 64 * s.sh (F.SCH_GATE_BASE2 port.val)) : Rat) / 65536) ∧
    (∃ (fn : Fn) (port : Fin 16) (value : BitVec 32) (s : State), s.takesWrite .sch fn.val = true ∧ s.secureSt fn.val = true ∧ bitOf value.toNat 10 = true) ∧
    (∃ (port : Fin 16) (tick : BitVec 64) (base : Rat) (len : Nat) (s : State), (s.schPort port.val).arm = some (base, len) ∧ tick.toNat ≤ s.frc ∧ base ≤ vc0Ns s (tick.toNat : Rat) ∧ (tick.toNat = 0 ∨ vc0Ns s ((tick.toNat - 1 : Nat) : Rat) < base)) ∧
    (∃ (port : Fin 16) (tick : BitVec 64) (s : State), tick.toNat ≤ s.frc ∧ (¬ ((entryAt s port.val (activeList s port.val) (vc0Ns s (tick.toNat : Rat))).1 = (entryAt s port.val (activeList s port.val) (vc0Ns s ((tick.toNat - 1 : Nat) : Rat))).1 ∧ (entryAt s port.val (activeList s port.val) (vc0Ns s (tick.toNat : Rat))).2.1 = (entryAt s port.val (activeList s port.val) (vc0Ns s ((tick.toNat - 1 : Nat) : Rat))).2.1))) :=
  ⟨⟨0, [⟨frame0, 40, 60, 0, 0, true⟩], ⟨frame0, 40, 60, 0, 0, false⟩, (put [(0, F.PRT_PORT_STATUS_STATE 0, 2), (0, F.SCH_PORT_CFG_RUN_AHEAD 0, 1)] up).setSchPort 0 { up.schPort 0 with launches := [⟨frame0, 40, 60, 0, 0, false⟩] }, by decide +kernel⟩,
  ⟨0, (0, { TxQueue.init 0 with frames := [frame0] }), (put [(0, F.PRT_PORT_STATUS_STATE 0, 2), (0, F.SCH_PORT_CFG_RUN_AHEAD 0, 1), (0, F.SCH_PORT_CFG_GATE_EN 0, 0)] up).setQ 0 { up.q 0 with frames := [frame0] }, by decide +kernel⟩,
  ⟨1, up, by decide +kernel⟩,
  ⟨1, true, put [(2, F.SCH_Q_SEL, 1023)] up, by decide +kernel⟩,
  ⟨1, up.setQ 0 { up.q 0 with frames := [frame0] }, by decide +kernel⟩,
  ⟨1, 15, 0x300, put [(0, F.SCH_GATE_BASE1 15, 0x10000)] up, by decide +kernel⟩,
  ⟨1, 0, 0x600, up, by decide +kernel⟩,
  ⟨0, 0, 0, 1, up.setSchPort 0 { up.schPort 0 with arm := some (0, 1) }, by decide +kernel⟩,
  ⟨0, 1562500, { up with frc := 1562500 }, by decide +kernel⟩⟩

theorem test_hyps_PolicerCommands :
    (∃ (fn : Fn) (s : State), s.takes .pol stPol fn.val = true ∧ s.secureSt fn.val = true) ∧
    (∃ (fn : Fn) (s : State), s.takes .pol stPol fn.val = true ∧ (s.secureSt fn.val = true ∨ tenantOf fn.val = (s.policer (s.rd (fn.val + 1) F.POL_SEL)).owner)) ∧
    (∃ (fn : Fn) (s : State), s.takes .pol stPol fn.val = true ∧ s.secureSt fn.val = true) ∧
    (∃ (fn : Fn) (s : State), s.takes .pol stPol fn.val = true ∧ s.secureSt fn.val = true) :=
  ⟨⟨1, up, by decide +kernel⟩,
  ⟨2, put [(3, F.POL_SEL, 4095)] (up.setPolicer 4095 { owner := 1, green := 5, cir := 77, tc := 2 ^ 26 }), by decide +kernel⟩,
  ⟨1, up, by decide +kernel⟩,
  ⟨513, up, by decide +kernel⟩⟩

theorem test_hyps_ChainLinkCommands :
    (∃ (fn : Fn) (port : Fin 5) (value : BitVec 32) (s : State), s.takesWrite .ubw fn.val = true ∧ s.secureSt fn.val = true ∧ ubwEn s port.val = false ∧ bitOf value.toNat 0 = true ∧ (((if port.val = 4 then 2 else if bits value.toNat 1 2 = 3 then 0 else bits value.toNat 1 2) = 1 ∧ port.val ≠ 4) → (List.range 4).all (fun q => q == port.val || !ubwEn s q || ubwRole s q != 1) = true)) ∧
    (∃ (fn : Fn) (port : Fin 5) (value : BitVec 32) (s : State), s.takesWrite .ubw fn.val = true ∧ s.secureSt fn.val = true ∧ ubwEn s port.val = true ∧ bitOf value.toNat 0 = false ∧ (if port.val = 4 then 2 else if bits value.toNat 1 2 = 3 then 0 else bits value.toNat 1 2) = ubwRole s port.val ∧ bits value.toNat 3 1 = s.sh (F.UBW_PORT_CFG_TX_INV port.val) ∧ bits value.toNat 4 1 = s.sh (F.UBW_PORT_CFG_RX_INV port.val) ∧ bits value.toNat 5 4 = s.sh (F.UBW_PORT_CFG_TX_EQ port.val)) ∧
    (∃ (port : Fin 5) (s : State), s.doorOpen .ubw = true ∧ ubwEn s port.val = true ∧ ubwState s port.val = ubHUNT) ∧
    (∃ (port : Fin 5) (s : State), s.doorOpen .ubw = true ∧ ubwEn s port.val = true ∧ ubwState s port.val ≠ ubHUNT) ∧
    (∃ (port : Fin 5) (block : BitVec 64) (tick : BitVec 64) (phase : Fin 32) (marker : List Byte) (s : State), s.doorOpen .ubw = true ∧ markerValid marker = true ∧ ubwLinked (ubwState s port.val) = true ∧ block.toNat = (s.ubwPort port.val).next) ∧
    (∃ (port : Fin 5) (block : BitVec 64) (tick : BitVec 64) (phase : Fin 32) (marker : List Byte) (t : Nat × Nat) (s : State), s.doorOpen .ubw = true ∧ markerValid marker = true ∧ ubwState s port.val = ubSEARCH ∧ ((s.ubwPort port.val).tracks.filter (fun t => block.toNat ≤ t.1 + 16384)).find? (fun t => t.1 + 16384 == block.toNat) = some t ∧ 3 ≤ t.2) ∧
    (∃ (port : Fin 5) (block : BitVec 64) (tick : BitVec 64) (phase : Fin 32) (marker : List Byte) (t : Nat × Nat) (s : State), s.doorOpen .ubw = true ∧ markerValid marker = true ∧ ubwState s port.val = ubSEARCH ∧ ((s.ubwPort port.val).tracks.filter (fun t => block.toNat ≤ t.1 + 16384)).find? (fun t => t.1 + 16384 == block.toNat) = some t ∧ t.2 < 3) ∧
    (∃ (port : Fin 5) (block : BitVec 64) (s : State), s.doorOpen .ubw = true ∧ ubwState s port.val = ubSEARCH) ∧
    (∃ (port : Fin 5) (block : BitVec 64) (s : State), s.doorOpen .ubw = true ∧ ubwLinked (ubwState s port.val) = true ∧ block.toNat = (s.ubwPort port.val).next ∧ (s.ubwPort port.val).miss + 1 < 3) ∧
    (∃ (port : Fin 5) (block : BitVec 64) (s : State), s.doorOpen .ubw = true ∧ ubwLinked (ubwState s port.val) = true ∧ block.toNat = (s.ubwPort port.val).next ∧ 3 ≤ (s.ubwPort port.val).miss + 1) ∧
    (∃ (port : Fin 5) (tick : BitVec 64) (phase : Fin 32) (s : State), s.doorOpen .ubw = true ∧ ubwEn s port.val = true ∧ port.val ≠ 4 ∧ ubwState s port.val ≠ ubSEARCH) :=
  ⟨⟨1, 0, 3, up, by decide +kernel⟩,
  ⟨1, 3, 0, put [(0, F.UBW_PORT_CFG_EN 3, 1)] up, by decide +kernel⟩,
  ⟨4, put [(0, F.UBW_PORT_CFG_EN 4, 1), (0, F.UBW_PORT_STATUS_STATE 4, 1)] up, by decide +kernel⟩,
  ⟨4, put [(0, F.UBW_PORT_CFG_EN 4, 1), (0, F.UBW_PORT_STATUS_STATE 4, 4)] up, by decide +kernel⟩,
  ⟨2, 0, 5, 31, (oct [0xC3, 1, 0, 7, 0, 0] ++ beBytes 2 (crc16 (oct [0xC3, 1, 0, 7, 0, 0]))), put [(0, F.UBW_PORT_STATUS_STATE 2, 3)] up, by decide +kernel⟩,
  ⟨0, 16384, 5, 31, (oct [0xC3, 1, 0, 7, 0, 0] ++ beBytes 2 (crc16 (oct [0xC3, 1, 0, 7, 0, 0]))), (0, 3), (put [(0, F.UBW_PORT_STATUS_STATE 0, 2)] up).setUbwPort 0 { up.ubwPort 0 with tracks := [(0, 3)] }, by decide +kernel⟩,
  ⟨0, 16384, 5, 31, (oct [0xC3, 1, 0, 7, 0, 0] ++ beBytes 2 (crc16 (oct [0xC3, 1, 0, 7, 0, 0]))), (0, 2), (put [(0, F.UBW_PORT_STATUS_STATE 0, 2)] up).setUbwPort 0 { up.ubwPort 0 with tracks := [(0, 2)] }, by decide +kernel⟩,
  ⟨1, 0, put [(0, F.UBW_PORT_STATUS_STATE 1, 2)] up, by decide +kernel⟩,
  ⟨1, 0, (put [(0, F.UBW_PORT_STATUS_STATE 1, 4)] up).setUbwPort 1 { up.ubwPort 1 with miss := 0 }, by decide +kernel⟩,
  ⟨1, 0, (put [(0, F.UBW_PORT_STATUS_STATE 1, 4)] up).setUbwPort 1 { up.ubwPort 1 with miss := 2 }, by decide +kernel⟩,
  ⟨3, 1, 0, put [(0, F.UBW_PORT_CFG_EN 3, 1), (0, F.UBW_PORT_STATUS_STATE 3, 4)] up, by decide +kernel⟩⟩

theorem test_hyps_ChainMessageCommands :
    (∃ (port : Fin 5) (message : List Byte) (s : State), s.doorOpen .ubw = true ∧ ubwLinked (ubwState s port.val) = true ∧ message.length = 64 ∧ crc16 (message.take 62) ≠ ofBe (slice message 62 2) ∧ (s.ubwPort port.val).bad + 1 < 64) ∧
    (∃ (port : Fin 5) (message : List Byte) (s : State), s.doorOpen .ubw = true ∧ ubwLinked (ubwState s port.val) = true ∧ port.val ≠ 4 ∧ message.length = 64 ∧ crc16 (message.take 62) = ofBe (slice message 62 2) ∧ complementary (ubwRole s port.val) (byteAt message 2 % 4) = true) ∧
    (∃ (port : Fin 5) (tick : BitVec 64) (s : State), s.doorOpen .ubw = true ∧ tick.toNat % 1562500 = 0 ∧ tick.toNat ≤ s.frc ∧ (s.ubwPort port.val).win < tick.toNat ∧ (s.ubwPort port.val).thetas = []) ∧
    (∃ (port : Fin 5) (tick : BitVec 64) (n : Nat) (th : Int × UbwStamp) (l : List (Int × UbwStamp)) (s : State), s.doorOpen .ubw = true ∧ port.val ≠ 4 ∧ tick.toNat % 1562500 = 0 ∧ tick.toNat ≤ s.frc ∧ (s.ubwPort port.val).win < tick.toNat ∧ ubwSlot s port.val = some n ∧ (s.ubwPort port.val).thetas = th :: l ∧ (s.ubwPort port.val).means.length < 999 ∧ ubwRoot s = true) ∧
    (∃ (port : Fin 5) (tick : BitVec 64) (phase : Fin 32) (frame : List Byte) (error : Bool) (egress : List UbwEgress) (s : State), s.doorOpen .ubw = true ∧ port.val ≠ 4 ∧ ubwLinked (ubwState s port.val) = true ∧ ubwMismatch s port.val = false ∧ chainHdrOk (frame.take (frame.length - 4)) (frame.take (frame.length - 4)).length = false) ∧
    (∃ (port : Fin 5) (tick : BitVec 64) (phase : Fin 32) (frame : List Byte) (error : Bool) (egress : List UbwEgress) (s : State), s.doorOpen .ubw = true ∧ port.val ≠ 4 ∧ ubwLinked (ubwState s port.val) = true ∧ ubwMismatch s port.val = false ∧ chainHdrOk (frame.take (frame.length - 4)) (frame.take (frame.length - 4)).length = true ∧ (chainHdr (frame.take (frame.length - 4))).up = true ∧ ubwRole s port.val = 0) ∧
    (∃ (port : Fin 5) (tick : BitVec 64) (phase : Fin 32) (frame : List Byte) (error : Bool) (egress : List UbwEgress) (s : State), s.doorOpen .ubw = true ∧ port.val ≠ 4 ∧ ubwLinked (ubwState s port.val) = true ∧ ubwMismatch s port.val = false ∧ chainHdrOk (frame.take (frame.length - 4)) (frame.take (frame.length - 4)).length = true ∧ (chainHdr (frame.take (frame.length - 4))).up = false ∧ ubwRole s port.val = 1) ∧
    (∃ (port : Fin 5) (tick : BitVec 64) (phase : Fin 32) (frame : List Byte) (error : Bool) (egress : List UbwEgress) (s : State), s.doorOpen .ubw = true ∧ port.val ≠ 4 ∧ ubwLinked (ubwState s port.val) = true ∧ ubwMismatch s port.val = false ∧ chainHdrOk (frame.take (frame.length - 4)) (frame.take (frame.length - 4)).length = true ∧ (((chainHdr (frame.take (frame.length - 4))).up = true ∧ ubwRole s port.val ≠ 0) ∨ ((chainHdr (frame.take (frame.length - 4))).up = false ∧ ubwRole s port.val ≠ 1))) :=
  ⟨⟨1, zeros 64, put [(0, F.UBW_PORT_STATUS_STATE 1, 4)] up, by decide +kernel⟩,
  ⟨1, zeros 62 ++ beBytes 2 (crc16 (zeros 62)), put [(0, F.UBW_PORT_STATUS_STATE 1, 4), (0, F.UBW_PORT_CFG_ROLE 1, 1)] up, by decide +kernel⟩,
  ⟨4, 1562500, { up with frc := 1562500 }, by decide +kernel⟩,
  ⟨0, 1562500, 26, (5, ⟨0, 0, 0⟩), [], (put [(0, F.UBW_CTRL_ROOT, 1), (0, F.UBW_PORT_CFG_ROLE 0, 1)] { up with frc := 1562500 }).setUbwPort 0 { up.ubwPort 0 with thetas := [(5, ⟨0, 0, 0⟩)] }, by decide +kernel⟩,
  ⟨1, 0, 0, zeros 64, false, [], put [(0, F.UBW_PORT_STATUS_STATE 1, 4), (0, F.UBW_PORT_CFG_ROLE 1, 1)] up, by decide +kernel⟩,
  ⟨1, 0, 0, (oct [17, 1, 0, 8, 0, 14, 0, 0] ++ zeros 18), false, [], put [(0, F.UBW_PORT_STATUS_STATE 1, 4), (0, F.UBW_PORT_CFG_ROLE 1, 0)] up, by decide +kernel⟩,
  ⟨1, 0, 0, (oct [1, 0, 0, 8, 0, 14, 0, 0] ++ zeros 18), false, [], put [(0, F.UBW_PORT_STATUS_STATE 1, 4), (0, F.UBW_PORT_CFG_ROLE 1, 1)] up, by decide +kernel⟩,
  ⟨1, 0, 0, (oct [17, 1, 0, 8, 0, 14, 0, 0] ++ zeros 18), false, [], put [(0, F.UBW_PORT_STATUS_STATE 1, 4), (0, F.UBW_PORT_CFG_ROLE 1, 1)] up, by decide +kernel⟩⟩

theorem test_hyps_MateCommands :
    (∃ (s : State), mateRuns s = true ∧ s.sh F.MATE_STATUS_HB_SEEN = 1) ∧
    (∃ (s : State), mateRuns s = true ∧ s.sh F.MATE_STATUS_HB_SEEN = 0) ∧
    (∃ (s : State), mateRuns s = true ∧ mateState s = mtACTIVE ∧ s.sh F.MATE_STATUS_SIDE = 1 ∧ s.sh F.MATE_STATUS_HB_SEEN = 1) ∧
    (∃ (t : Nat) (s : State), mateRuns s = true ∧ mateState s = mtHOLD ∧ s.mate.holdEnd = some t ∧ t ≤ s.frc) ∧
    (∃ (s : State), mateRuns s = true ∧ mateState s = mtSTANDBY ∧ s.sh F.MATE_STATUS_CLAIM ≠ 0 ∧ hbFault s = false ∧ s.sh F.MATE_STATUS_HB_SEEN = 0 ∧ s.mate.toffee = none ∧ max s.mate.from_ s.mate.silentAt + ticksOfMs (s.sh F.MATE_TIMERS_SOLO_MS) ≤ s.frc) ∧
    (∃ (t : Nat) (s : State), mateRuns s = true ∧ s.sh F.MATE_STATUS_TOFFEE_FRESH = 1 ∧ s.mate.toffee = some t ∧ t + 3 * 163840 ≤ s.frc) ∧
    (∃ (tick : BitVec 64) (seen : List ObsPairs) (s : State), mateRuns s = true ∧ s.doorOpen .out = true ∧ tick.toNat % 1562500 = 0 ∧ tick.toNat ≤ s.frc ∧ s.mate.obsAt < tick.toNat) :=
  ⟨⟨put [(0, F.MATE_CTRL_MATE_EN, 1), (0, F.MATE_STATUS_HB_SEEN, 1)] up, by decide +kernel⟩,
  ⟨put [(0, F.MATE_CTRL_MATE_EN, 1)] up, by decide +kernel⟩,
  ⟨put [(0, F.MATE_CTRL_MATE_EN, 1), (0, F.MATE_STATUS_HB_SEEN, 1), (0, F.MATE_STATUS_SIDE, 1), (0, F.MATE_STATUS_STATE, 3)] up, by decide +kernel⟩,
  ⟨0, { put [(0, F.MATE_CTRL_MATE_EN, 1), (0, F.MATE_STATUS_STATE, 2)] up with mate := { up.mate with holdEnd := some 0 } }, by decide +kernel⟩,
  ⟨{ put [(0, F.MATE_CTRL_MATE_EN, 1), (0, F.MATE_STATUS_STATE, 1), (0, F.MATE_STATUS_CLAIM, 256), (0, F.MATE_TIMERS_SOLO_MS, 0)] up with mate := { up.mate with toffee := none }, frc := 2 ^ 50 }, by decide +kernel⟩,
  ⟨0, { put [(0, F.MATE_CTRL_MATE_EN, 1), (0, F.MATE_STATUS_TOFFEE_FRESH, 1)] up with mate := { up.mate with toffee := some 0 }, frc := 491520 }, by decide +kernel⟩,
  ⟨1562500, [], { put [(0, F.MATE_CTRL_MATE_EN, 1)] up with frc := 1562500 }, by decide +kernel⟩⟩

theorem test_hyps_SlotCommands :
    (∃ (fn : Fn) (s : State), s.takes .ks stKs fn.val = true ∧ (s.secureSt fn.val = true ∨ ownAttr fn.val (s.ksSlot (s.rd (fn.val + 1) F.KS_SEL)).attr = true)) ∧
    (∃ (fn : Fn) (stored : Bool) (s : State), s.takes .ks stKs fn.val = true ∧ asBlank s = false ∧ (s.secureSt fn.val = true ∨ (256 ≤ (s.rd (fn.val + 1) F.KS_SEL) ∧ (attrType (s.ksSlot (s.rd (fn.val + 1) F.KS_SEL)).attr = 0 ∨ ownAttr fn.val (s.ksSlot (s.rd (fn.val + 1) F.KS_SEL)).attr = true) ∧ ownAttr fn.val (ksAttr s (ownWin fn)) = true)) ∧ attrOk (s.rd (fn.val + 1) F.KS_SEL) (ksAttr s (ownWin fn)) = true ∧ (storeOk (s.rd (fn.val + 1) F.KS_SEL) stored = true) ∧ attrType (s.ksSlot (s.rd (fn.val + 1) F.KS_SEL)).attr = 0 ∧ s.sh F.KS_STATUS_ENTROPY_OK = 1) ∧
    (∃ (fn : Fn) (stored : Bool) (ki : Nat) (s : State), s.takes .ks stKs fn.val = true ∧ asBlank s = false ∧ s.secureSt fn.val = true ∧ attrOk (s.rd (fn.val + 1) F.KS_SEL) (ksAttr s (ownWin fn)) = true ∧ (storeOk (s.rd (fn.val + 1) F.KS_SEL) stored = true) ∧ attrType (s.ksSlot (s.rd (fn.val + 1) F.KS_SEL)).attr = 0 ∧ (s.rd (fn.val + 1) (F.KS_ARG 4) % 65536) = 0xFFFF ∧ s.ks.root = some ki ∧ (attrMeasBind (ksAttr s (ownWin fn)) = false ∨ 256 ≤ (s.rd (fn.val + 1) F.KS_SEL))) ∧
    (∃ (fn : Fn) (stored : Bool) (s : State), s.takes .ks stKs fn.val = true ∧ asBlank s = false ∧ (s.secureSt fn.val = true ∨ (256 ≤ (s.rd (fn.val + 1) F.KS_SEL) ∧ (attrType (s.ksSlot (s.rd (fn.val + 1) F.KS_SEL)).attr = 0 ∨ ownAttr fn.val (s.ksSlot (s.rd (fn.val + 1) F.KS_SEL)).attr = true) ∧ ownAttr fn.val (ksAttr s (ownWin fn)) = true)) ∧ (s.secureSt fn.val = true ∨ ((s.rd (fn.val + 1) (F.KS_ARG 4) % 65536) < 1024 ∧ ownAttr fn.val (s.ksSlot (s.rd (fn.val + 1) (F.KS_ARG 4) % 65536)).attr = true)) ∧ attrOk (s.rd (fn.val + 1) F.KS_SEL) (ksAttr s (ownWin fn)) = true ∧ (storeOk (s.rd (fn.val + 1) F.KS_SEL) stored = true) ∧ attrType (s.ksSlot (s.rd (fn.val + 1) F.KS_SEL)).attr = 0 ∧ (s.rd (fn.val + 1) (F.KS_ARG 4) % 65536) < 1024 ∧ parentOk s (ksAttr s (ownWin fn)) (s.rd (fn.val + 1) (F.KS_ARG 4) % 65536) (s.ksSlot (s.rd (fn.val + 1) (F.KS_ARG 4) % 65536)).attr = true ∧ (attrMeasBind (ksAttr s (ownWin fn)) = false ∨ 256 ≤ (s.rd (fn.val + 1) F.KS_SEL))) ∧
    (∃ (fn : Fn) (stored : Bool) (s : State), s.takes .ks stKs fn.val = true ∧ asBlank s = false ∧ (s.secureSt fn.val = true ∨ (256 ≤ (s.rd (fn.val + 1) F.KS_SEL) ∧ (attrType (s.ksSlot (s.rd (fn.val + 1) F.KS_SEL)).attr = 0 ∨ ownAttr fn.val (s.ksSlot (s.rd (fn.val + 1) F.KS_SEL)).attr = true) ∧ ownAttr fn.val (ksAttr s (ownWin fn)) = true)) ∧ attrOk (s.rd (fn.val + 1) F.KS_SEL) (ksAttr s (ownWin fn)) = true ∧ (storeOk (s.rd (fn.val + 1) F.KS_SEL) stored = true) ∧ attrType (s.ksSlot (s.rd (fn.val + 1) F.KS_SEL)).attr ≠ 0 ∧ restricts (s.ksSlot (s.rd (fn.val + 1) F.KS_SEL)).attr (ksAttr s (ownWin fn)) = true ∧ attrExpired (s.ksSlot (s.rd (fn.val + 1) F.KS_SEL)).attr = false) ∧
    (∃ (fn : Fn) (stored : Bool) (s : State), s.takes .ks stKs fn.val = true ∧ asBlank s = false ∧ (s.secureSt fn.val = true ∨ (256 ≤ (s.rd (fn.val + 1) F.KS_SEL) ∧ (attrType (s.ksSlot (s.rd (fn.val + 1) F.KS_SEL)).attr = 0 ∨ ownAttr fn.val (s.ksSlot (s.rd (fn.val + 1) F.KS_SEL)).attr = true))) ∧ (storeOk (s.rd (fn.val + 1) F.KS_SEL) stored = true)) :=
  ⟨⟨1, up, by decide +kernel⟩,
  ⟨1, false, put [(2, F.KS_SEL, 256), (0, F.KS_STATUS_ENTROPY_OK, 1), (2, F.KS_ATTR 0, 69633), (2, F.KS_ATTR 1, 1), (2, F.KS_ATTR 2, 3)] (withKey 32 up), by decide +kernel⟩,
  ⟨1, false, 1, put [(2, F.KS_SEL, 256), (2, F.KS_ARG 4, 65535), (2, F.KS_ATTR 0, 69633), (2, F.KS_ATTR 1, 1), (2, F.KS_ATTR 2, 3)] (withKey 32 up), by decide +kernel⟩,
  ⟨1, false, put [(2, F.KS_SEL, 256), (2, F.KS_ARG 4, 3), (2, F.KS_ATTR 0, 69633), (2, F.KS_ATTR 1, 1), (2, F.KS_ATTR 2, 3)] ((withKey 32 up).setKsSlot 3 { attr := oct [5, 32, 8, 0, 8, 0, 0, 0, 3] ++ zeros 23 }), by decide +kernel⟩,
  ⟨1, false, put [(2, F.KS_SEL, 256), (2, F.KS_ATTR 0, 69633), (2, F.KS_ATTR 1, 1), (2, F.KS_ATTR 2, 1)] ((withKey 16 up).setKsSlot 256 { attr := oct [1, 16, 1, 0, 3, 0, 0, 0, 3] ++ zeros 23 }), by decide +kernel⟩,
  ⟨1, true, withKey 32 up, by decide +kernel⟩⟩

theorem test_hyps_RootCommands :
    (∃ (fn : Fn) (s : State), s.takes .ks stKs fn.val = true ∧ (s.secureSt fn.val = true ∨ fn.val = 0) ∧ s.sh F.KS_LIFECYCLE_STATE = 0 ∧ s.sh F.KS_STATUS_ENTROPY_OK = 1) ∧
    (∃ (fn : Fn) (s : State), s.takes .ks stKs fn.val = true ∧ asBlank s = false ∧ s.secureSt fn.val = true ∧ s.sh F.KS_LIFECYCLE_STATE = 1) ∧
    (∃ (fn : Fn) (s : State), s.takes .ks stKs fn.val = true ∧ asBlank s = false ∧ s.secureSt fn.val = true ∧ s.sh F.KS_LIFECYCLE_STATE = 1) ∧
    (∃ (fn : Fn) (s : State), s.takes .ks stKs fn.val = true ∧ asBlank s = false ∧ s.secureSt fn.val = true ∧ s.sh F.KS_LIFECYCLE_AUTH_LOCKED = 0 ∧ (s.rd64 (fn.val + 1) (F.KS_ARG 0) (F.KS_ARG 1)) % 64 = 0 ∧ ownsBuf s fn.val (s.rd64 (fn.val + 1) (F.KS_ARG 0) (F.KS_ARG 1)) 48 = true ∧ bufCode s (s.rd64 (fn.val + 1) (F.KS_ARG 0) (F.KS_ARG 1)) 48 = Code.ok) ∧
    (∃ (fn : Fn) (s : State), s.takes .ks stKs fn.val = true ∧ asBlank s = false ∧ s.secureSt fn.val = true) ∧
    (∃ (fn : Fn) (s : State), s.takes .ks stKs fn.val = true ∧ asBlank s = false ∧ (s.rd64 (fn.val + 1) (F.KS_ARG 0) (F.KS_ARG 1)) % 64 = 0 ∧ ownsBuf s fn.val (s.rd64 (fn.val + 1) (F.KS_ARG 0) (F.KS_ARG 1)) 6784 = true) ∧
    (∃ (fn : Fn) (s : State), s.takes .ks stKs fn.val = true ∧ (s.rd64 (fn.val + 1) (F.KS_ARG 0) (F.KS_ARG 1)) % 64 = 0 ∧ ownsBuf s fn.val (s.rd64 (fn.val + 1) (F.KS_ARG 0) (F.KS_ARG 1)) 12288 = true) ∧
    (∃ (fn : Fn) (s : State), s.takes .ks stKs fn.val = true ∧ asBlank s = false ∧ s.secureSt fn.val = true ∧ (s.rd64 (fn.val + 1) (F.KS_ARG 0) (F.KS_ARG 1)) % 64 = 0 ∧ ownsBuf s fn.val (s.rd64 (fn.val + 1) (F.KS_ARG 0) (F.KS_ARG 1)) 4748 = true ∧ bufCode s (s.rd64 (fn.val + 1) (F.KS_ARG 0) (F.KS_ARG 1)) 4748 = Code.ok ∧ (s.rd64 (fn.val + 1) (F.KS_ARG 2) (F.KS_ARG 3)) % 64 = 0 ∧ ownsBuf s fn.val (s.rd64 (fn.val + 1) (F.KS_ARG 2) (F.KS_ARG 3)) 2049 = true ∧ bufCode s (s.rd64 (fn.val + 1) (F.KS_ARG 2) (F.KS_ARG 3)) 2049 = Code.ok) :=
  ⟨⟨0, put [(0, F.KS_STATUS_ENTROPY_OK, 1)] up, by decide +kernel⟩,
  ⟨1, withKey 32 up, by decide +kernel⟩,
  ⟨513, withKey 32 up, by decide +kernel⟩,
  ⟨1, withKey 32 up, by decide +kernel⟩,
  ⟨1, withKey 32 up, by decide +kernel⟩,
  ⟨2, withKey 32 up, by decide +kernel⟩,
  ⟨2, up, by decide +kernel⟩,
  ⟨1, withKey 32 up, by decide +kernel⟩⟩

theorem test_hyps_KeyEvents :
    (∃ (tick : BitVec 64) (s : State), tick.toNat % 1562500000 = 0 ∧ tick.toNat ≤ s.frc ∧ s.ks.checkedAt < tick.toNat ∧ s.doorOpen .ks = true) ∧
    (∃ (source : Fin 6) (s : State), bitOf (s.sh F.KS_TAMPER_CFG) source.val = true ∧ s.sh F.PWR_STATUS_STATE ≠ 4) ∧
    (∃ (source : Fin 6) (s : State), bitOf (s.sh F.KS_TAMPER_CFG) source.val = false) :=
  ⟨⟨1562500000, { up with frc := 1562500000 }, by decide +kernel⟩,
  ⟨5, put [(0, F.KS_TAMPER_CFG, 32)] up, by decide +kernel⟩,
  ⟨5, put [(0, F.KS_TAMPER_CFG, 0)] up, by decide +kernel⟩⟩

theorem test_hyps_SharedMemoryCommands :
    (∃ (bank : Fin 272) (r : ShmReq) (s : State), s.doorOpen .shm = true ∧ bank.val < 256 ∧ reqReaches r = true ∧ reqShapeOk r = true ∧ shmBank r.addr.toNat = bank.val ∧ shmSwept s r.addr.toNat 1 = true) ∧
    (∃ (fn : Fn) (wide : Bool) (s : State), s.takes .shm stAtom fn.val = true ∧ (s.rd (fn.val + 1) F.SHM_ATOM_ADDR) < dualBase ∧ (s.rd (fn.val + 1) F.SHM_ATOM_ADDR) % (if wide then 8 else 4) = 0 ∧ shmPermitted s fn.val (s.rd (fn.val + 1) F.SHM_ATOM_ADDR) (if wide then 8 else 4) permATOMIC = true ∧ shmReadCode s (s.rd (fn.val + 1) F.SHM_ATOM_ADDR) (if wide then 8 else 4) = Code.ok) ∧
    (∃ (fn : Fn) (wide : Bool) (s : State), s.takes .shm stAtom fn.val = true ∧ (s.rd (fn.val + 1) F.SHM_ATOM_ADDR) < dualBase ∧ (s.rd (fn.val + 1) F.SHM_ATOM_ADDR) % (if wide then 8 else 4) = 0 ∧ shmPermitted s fn.val (s.rd (fn.val + 1) F.SHM_ATOM_ADDR) (if wide then 8 else 4) permATOMIC = true ∧ shmReadCode s (s.rd (fn.val + 1) F.SHM_ATOM_ADDR) (if wide then 8 else 4) = Code.ok) ∧
    (∃ (fn : Fn) (s : State), s.takes .shm stCt fn.val = true ∧ s.secureSt fn.val = true ∧ canReach (s.rd (fn.val + 1) F.SHM_CT_SEL_MASTER) (s.rd (fn.val + 1) F.SHM_CT_SEL_GROUP) = true ∧ ((s.rd (fn.val + 1) F.SHM_CT_DATA_WORDS) ≤ (ctSet s (s.rd (fn.val + 1) F.SHM_CT_SEL_MASTER) (s.rd (fn.val + 1) F.SHM_CT_SEL_GROUP)) ∨ ctSum s (s.rd (fn.val + 1) F.SHM_CT_SEL_MASTER) (s.rd (fn.val + 1) F.SHM_CT_SEL_GROUP) - (ctSet s (s.rd (fn.val + 1) F.SHM_CT_SEL_MASTER) (s.rd (fn.val + 1) F.SHM_CT_SEL_GROUP)) + (s.rd (fn.val + 1) F.SHM_CT_DATA_WORDS) ≤ 13107)) ∧
    (∃ (fn : Fn) (s : State), s.takes .shm stCt fn.val = true ∧ s.secureSt fn.val = true ∧ canReach (s.rd (fn.val + 1) F.SHM_CT_SEL_MASTER) (s.rd (fn.val + 1) F.SHM_CT_SEL_GROUP) = true ∧ (ctSet s (s.rd (fn.val + 1) F.SHM_CT_SEL_MASTER) (s.rd (fn.val + 1) F.SHM_CT_SEL_GROUP)) < (s.rd (fn.val + 1) F.SHM_CT_DATA_WORDS) ∧ 13107 < ctSum s (s.rd (fn.val + 1) F.SHM_CT_SEL_MASTER) (s.rd (fn.val + 1) F.SHM_CT_SEL_GROUP) - (ctSet s (s.rd (fn.val + 1) F.SHM_CT_SEL_MASTER) (s.rd (fn.val + 1) F.SHM_CT_SEL_GROUP)) + (s.rd (fn.val + 1) F.SHM_CT_DATA_WORDS)) ∧
    (∃ (fn : Fn) (s : State), s.takes .shm stCt fn.val = true ∧ s.secureSt fn.val = true) ∧
    (∃ (tick : BitVec 64) (waiting : List (Fin 21 × Fin 17)) (s : State), s.doorOpen .shm = true ∧ tick.toNat % 1280 = 0 ∧ 0 < tick.toNat ∧ tick.toNat ≤ s.frc ∧ s.shmx.win = tick.toNat / 1280 - 1 ∧ (List.range 21).all (fun m => waiting.all fun e => e.1.val != m || ctAt s m e.2.val s.shmx.win ≤ recvIn s m e.2.val s.shmx.win) = true) :=
  ⟨⟨0, ⟨18, false, 0, .read 4⟩, put [(0, F.SHM_GRP_STATUS_SWEPT 0, 1)] up, by decide +kernel⟩,
  ⟨1, true, put ((2, F.SHM_ATOM_ADDR, 32) :: (List.range 17).map fun g => (0, F.SHM_GRP_STATUS_SWEPT g, 1)) up, by decide +kernel⟩,
  ⟨1, true, put ((2, F.SHM_ATOM_ADDR, 32) :: (List.range 17).map fun g => (0, F.SHM_GRP_STATUS_SWEPT g, 1)) up, by decide +kernel⟩,
  ⟨1, put [(2, F.SHM_CT_SEL_MASTER, 2), (2, F.SHM_CT_SEL_GROUP, 16), (2, F.SHM_CT_DATA_WORDS, 13107)] up, by decide +kernel⟩,
  ⟨1, put [(2, F.SHM_CT_SEL_MASTER, 2), (2, F.SHM_CT_SEL_GROUP, 16), (2, F.SHM_CT_DATA_WORDS, 13108)] up, by decide +kernel⟩,
  ⟨1, up, by decide +kernel⟩,
  ⟨1280, [(0, 0)], { up with frc := 1280 }, by decide +kernel⟩⟩

theorem test_hyps_SharedMemoryUpkeep :
    (∃ (bank : Fin 272) (e : ShmCe) (s : State), s.shmx.ce.find? (fun e => e.bank == bank.val) = some e ∧ s.shmx.ceAt = none) ∧
    (∃ (group : Fin 17) (t0 : Nat) (s : State), s.shmx.sweepAt = some t0 ∧ group.val ≠ 15 ∧ s.sh (F.SHM_GRP_STATUS_SWEPT group.val) = 0 ∧ s.shmx.held = [] ∧ (List.range 17).all (fun h => !(decide (sweepPlace h < sweepPlace group.val)) || s.sh (F.SHM_GRP_STATUS_SWEPT h) == 1) = true ∧ t0 + 5120 + 20480 * sweepPlace group.val ≤ s.frc) ∧
    (∃ (s : State), s.doorOpen .shm = true ∧ s.sh F.SHM_CTRL_WALK_EN = 1 ∧ s.sh F.SHM_STATUS_SWEEP_DONE = 1 ∧ s.shmx.walk.at_ = none ∧ degraded s s.shmx.walk.bank = false ∧ s.shmx.walk.done + ticksOfNs (s.sh F.SHM_CTRL_ROW_GAP_US * 1000) ≤ s.frc) ∧
    (∃ (t : Nat) (s : State), s.shmx.walk.at_ = some t) ∧
    (∃ (t : Nat) (s : State), s.shmx.walk.at_ = some t ∧ tgetD s.shmx.walk.spares s.shmx.walk.bank 0 < 4) ∧
    (∃ (t : Nat) (s : State), s.shmx.walk.at_ = some t ∧ 4 ≤ tgetD s.shmx.walk.spares s.shmx.walk.bank 0) ∧
    (∃ (t : Nat) (s : State), s.shmx.walk.at_ = some t ∧ s.shmx.walk.starved = false ∧ t + ticksOfNs (s.sh F.SHM_CTRL_WALK_STALL_US * 10000) < s.frc) :=
  ⟨⟨3, ⟨3, 96, 2, 1⟩, { up with shmx := { up.shmx with ce := [⟨3, 96, 2, 1⟩] } }, by decide +kernel⟩,
  ⟨16, 0, { up with frc := 2 ^ 40, shmx := { up.shmx with sweepAt := some 0 } }, by decide +kernel⟩,
  ⟨put [(0, F.SHM_CTRL_WALK_EN, 1), (0, F.SHM_STATUS_SWEEP_DONE, 1)] { up with frc := 2 ^ 60 }, by decide +kernel⟩,
  ⟨0, { up with shmx := { up.shmx with walk := { up.shmx.walk with at_ := some 0 } } }, by decide +kernel⟩,
  ⟨0, { up with shmx := { up.shmx with walk := { up.shmx.walk with at_ := some 0 } } }, by decide +kernel⟩,
  ⟨0, { up with shmx := { up.shmx with walk := { up.shmx.walk with at_ := some 0, spares := [(0, 4)] } } }, by decide +kernel⟩,
  ⟨0, { up with frc := 2 ^ 50, shmx := { up.shmx with walk := { up.shmx.walk with at_ := some 0 } } }, by decide +kernel⟩⟩

theorem test_hyps_RingCommands :
    (∃ (fn : Fn) (ring : Fin 16) (value : BitVec 32) (s : State), s.takesWrite .hif fn.val = true ∧ ring.val < pairsOf fn.val ∧ wsub 32 value.toNat (s.rd (fn.val + 1) (F.HIF_SQ_HEAD ring.val)) ≤ ringEntries s fn.val ring.val) ∧
    (∃ (fn : Fn) (ring : Fin 16) (value : BitVec 32) (s : State), s.takesWrite .hif fn.val = true ∧ ring.val < pairsOf fn.val ∧ ringEntries s fn.val ring.val < wsub 32 value.toNat (s.rd (fn.val + 1) (F.HIF_SQ_HEAD ring.val))) ∧
    (∃ (s : State), nextRing s = none) ∧
    (∃ (k : Nat) (s : State), nextRing s = some k ∧ addrIsShm (sqBase s (k / 16) (k % 16) + sqOctets (ringKind s (k / 16) (k % 16)) * (s.rd (k / 16 + 1) (F.HIF_SQ_HEAD (k % 16)) % ringEntries s (k / 16) (k % 16))) = true ∧ s.shmPoisoned ((sqBase s (k / 16) (k % 16) + sqOctets (ringKind s (k / 16) (k % 16)) * (s.rd (k / 16 + 1) (F.HIF_SQ_HEAD (k % 16)) % ringEntries s (k / 16) (k % 16))) % 2 ^ 32) (sqOctets (ringKind s (k / 16) (k % 16))) = false) ∧
    (∃ (fn : Fn) (ring : Fin 16) (c : RingCmd) (s : State), (s.hif.cmds.filter fun c => c.tag.fn == fn.val && c.tag.r == ring.val).find? (fun c => !c.started) = some c ∧ recOrdered c.octets = false ∧ ((s.hif.cmds.filter fun c => c.tag.fn == fn.val && c.tag.r == ring.val).takeWhile (fun c => c.started)).all (fun x => !recOrdered x.octets || (cmdOutcome s x).isSome) = true) ∧
    (∃ (slot : Fin 4096) (c : RingCmd) (code : Nat) (cause : Nat) (tick : Nat) (s : State), s.hif.cmds.find? (fun c => c.slot == slot.val) = some c ∧ cmdOutcome s c = some (code, cause, tick) ∧ c.done ≠ none ∧ ringLive s c.tag.fn c.tag.r c.tag.en = true ∧ c.dead = false) :=
  ⟨⟨2, 3, 1, up, by decide +kernel⟩,
  ⟨2, 3, 0xFFFFFFFF, up, by decide +kernel⟩,
  ⟨up, by decide +kernel⟩,
  ⟨0, put [(1, F.HIF_RING_CFG_EN 0, 1), (1, F.HIF_SQ_TAIL 0, 1), (1, F.HIF_RING_CFG_LOG2_SIZE 0, 4), (1, F.HIF_RING_PARAM 0, 16), (1, F.HIF_SQ_BASE_HI 0, 0x80000000)] up, by decide +kernel⟩,
  ⟨1, 0, { slot := 0, tag := ⟨1, 0, 0, 0⟩, octets := zeros 128, dup := false }, { up with hif := { up.hif with cmds := [{ slot := 0, tag := ⟨1, 0, 0, 0⟩, octets := zeros 128, dup := false }] } }, by decide +kernel⟩,
  ⟨0, { slot := 0, tag := ⟨1, 0, 0, 0⟩, octets := zeros 128, dup := false, started := true, done := some (1, 5) }, 1, 0, 5, { put [(2, F.HIF_RING_CFG_EN 0, 1)] up with hif := { up.hif with cmds := [{ slot := 0, tag := ⟨1, 0, 0, 0⟩, octets := zeros 128, dup := false, started := true, done := some (1, 5) }] } }, by decide +kernel⟩⟩

theorem test_hyps_ProtectionTableCommands :
    (∃ (fn : Fn) (s : State), s.takes .hif stHif fn.val = true) ∧
    (∃ (fn : Fn) (s : State), s.takes .hif stHif fn.val = true ∧ s.secureSt fn.val = true ∧ (s.rd (fn.val + 1) F.HIF_W_SEL) < 4096 ∧ drainWaits s = false ∧ rsHoldsTable s = false) ∧
    (∃ (fn : Fn) (s : State), s.takes .hif stHif fn.val = true ∧ s.secureSt fn.val = true ∧ (s.rd (fn.val + 1) F.HIF_W_SEL) < 4096) ∧
    (∃ (fn : Fn) (s : State), s.takes .hif stHif fn.val = true ∧ s.secureSt fn.val = true ∧ drainWaits s = false ∧ bitOf (s.rd (fn.val + 1) (F.HIF_W_ARG 0)) 0 = false) ∧
    (∃ (fn : Fn) (s : State), s.takes .hif stHif fn.val = true ∧ s.secureSt fn.val = true ∧ drainWaits s = false ∧ bitOf (s.rd (fn.val + 1) (F.HIF_W_ARG 0)) 0 = true) ∧
    (∃ (fn : Fn) (s : State), s.takes .hif stHif fn.val = true ∧ s.secureSt fn.val = true ∧ drainWaits s = false ∧ rsHoldsTable s = false) ∧
    (∃ (d : Req) (s : State), d ∈ s.reqs ∧ d.blk = .hif ∧ d.op = hifOpCommit ∧ s.reqs.all (fun r => !(holdsBuffer r && r.ep != d.ep)) = true) :=
  ⟨⟨2, up, by decide +kernel⟩,
  ⟨1, put [(2, F.HIF_W_SEL, 4095)] up, by decide +kernel⟩,
  ⟨1, put [(2, F.HIF_W_SEL, 4095)] up, by decide +kernel⟩,
  ⟨1, up, by decide +kernel⟩,
  ⟨1, put [(2, F.HIF_W_ARG 0, 1)] up, by decide +kernel⟩,
  ⟨1, up, by decide +kernel⟩,
  ⟨⟨.hif, ownWin 1, stHif, hifOpCommit, 0, 0, 0⟩, { up with reqs := [⟨.hif, ownWin 1, stHif, hifOpCommit, 0, 0, 0⟩] }, by decide +kernel⟩⟩

theorem test_hyps_HostMoveCommands :
    (∃ (fn : Fn) (s : State), s.takes .hif stHif fn.val = true ∧ 1 ≤ (s.rd (fn.val + 1) (F.HIF_W_ARG 4)) ∧ (s.rd (fn.val + 1) (F.HIF_W_ARG 4)) ≤ 1048576 ∧ addrIsShm ((s.rd (fn.val + 1) (F.HIF_W_ARG 0)) + 2 ^ 32 * (s.rd (fn.val + 1) (F.HIF_W_ARG 1))) = false ∧ addrIsShm ((s.rd (fn.val + 1) (F.HIF_W_ARG 2)) + 2 ^ 32 * (s.rd (fn.val + 1) (F.HIF_W_ARG 3))) = true ∧ addrWellFormed ((s.rd (fn.val + 1) (F.HIF_W_ARG 2)) + 2 ^ 32 * (s.rd (fn.val + 1) (F.HIF_W_ARG 3))) = true ∧ shmPermitted s fn.val (((s.rd (fn.val + 1) (F.HIF_W_ARG 2)) + 2 ^ 32 * (s.rd (fn.val + 1) (F.HIF_W_ARG 3))) % 2 ^ 32) (s.rd (fn.val + 1) (F.HIF_W_ARG 4)) permW = true ∧ copyReach s (((s.rd (fn.val + 1) (F.HIF_W_ARG 2)) + 2 ^ 32 * (s.rd (fn.val + 1) (F.HIF_W_ARG 3))) % 2 ^ 32) (s.rd (fn.val + 1) (F.HIF_W_ARG 4)) false = ((s.rd (fn.val + 1) (F.HIF_W_ARG 4)), Code.ok)) ∧
    (∃ (fn : Fn) (s : State), s.takes .hif stHif fn.val = true ∧ s.secureSt fn.val = true ∧ (s.rd (fn.val + 1) F.HIF_W_SEL) < 24 ∧ (s.sh (F.HIF_SU_COUNT (s.rd (fn.val + 1) F.HIF_W_SEL))) ≠ 0xFFFF ∧ s.gated (s.rd (fn.val + 1) F.HIF_W_SEL) = false) ∧
    (∃ (fn : Fn) (s : State), s.takes .hif stHif fn.val = true ∧ s.secureSt fn.val = true ∧ (s.rd (fn.val + 1) F.HIF_W_SEL) < 24 ∧ 1 < (s.sh (F.HIF_SU_COUNT (s.rd (fn.val + 1) F.HIF_W_SEL)))) ∧
    (∃ (fn : Fn) (s : State), s.takes .hif stHif fn.val = true ∧ s.secureSt fn.val = true ∧ (s.rd (fn.val + 1) F.HIF_W_SEL) < 24 ∧ (s.sh (F.HIF_SU_COUNT (s.rd (fn.val + 1) F.HIF_W_SEL))) = 1) ∧
    (∃ (fn : Fn) (s : State), s.takes .hif stHif fn.val = true ∧ tenant0 fn.val = true ∧ gateable.any (fun k => k.code == (s.rd (fn.val + 1) F.HIF_W_SEL)) = true ∧ (s.rd (fn.val + 1) (F.HIF_W_ARG 0)) % 4 ≠ 3) :=
  ⟨⟨1, put ((2, F.HIF_W_ARG 0, 0) :: (2, F.HIF_W_ARG 1, 0) :: (2, F.HIF_W_ARG 2, 64) :: (2, F.HIF_W_ARG 3, 0x80000000) :: (2, F.HIF_W_ARG 4, 1) :: (List.range 17).map fun g => (0, F.SHM_GRP_STATUS_SWEPT g, 1)) up, by decide +kernel⟩,
  ⟨1, put [(2, F.HIF_W_SEL, 23)] up, by decide +kernel⟩,
  ⟨1, put [(0, F.HIF_SU_COUNT 0, 2)] up, by decide +kernel⟩,
  ⟨1, put [(0, F.HIF_SU_COUNT 0, 1)] up, by decide +kernel⟩,
  ⟨1, put [(2, F.HIF_W_SEL, 6)] up, by decide +kernel⟩⟩

theorem test_hyps_PacketRingCommands :
    (∃ (h : HostTag) (d : Octets) (l : List (HostTag × Octets)) (s : State), s.hif.txq = (h, d) :: l) ∧
    (∃ (h : HostTag) (code : Nat) (cause : Nat) (frc : Nat) (l : List (HostTag × Nat × Nat × Nat)) (s : State), s.hif.txDone = (h, code, cause, frc) :: l) ∧
    (∃ (x : RxFrame) (l : List RxFrame) (s : State), s.hif.rxq = x :: l ∧ ringLive s x.tag.fn x.tag.r x.tag.en = false) ∧
    (∃ (x : RxFrame) (l : List RxFrame) (s : State), s.hif.rxq = x :: l ∧ ringLive s x.tag.fn x.tag.r x.tag.en = true ∧ x.octets.length ≤ ofLe (slice (s.memRead x.tag.fn (sqBase s x.tag.fn x.tag.r + 16 * (x.tag.idx % ringEntries s x.tag.fn x.tag.r)) 16) 8 2) ∧ ownsBuf s x.tag.fn (ofLe (slice (s.memRead x.tag.fn (sqBase s x.tag.fn x.tag.r + 16 * (x.tag.idx % ringEntries s x.tag.fn x.tag.r)) 16) 0 8)) x.octets.length = true) ∧
    (∃ (fn : Fn) (vector : Fin 32) (w : Vec) (s : State), tget s.vecs (fn.val * 32 + vector.val) = some w ∧ w.waiting = true ∧ w.until_ ≤ s.frc) :=
  ⟨⟨⟨0, 0, 0, 0⟩, zeros 32, [], { put [(1, F.HIF_RING_CFG_EN 0, 1)] up with hif := { up.hif with txq := [(⟨0, 0, 0, 0⟩, zeros 32)] } }, by decide +kernel⟩,
  ⟨⟨0, 0, 0, 0⟩, 1, 0, 5, [], { put [(1, F.HIF_RING_CFG_EN 0, 1)] up with hif := { up.hif with txDone := [(⟨0, 0, 0, 0⟩, 1, 0, 5)] } }, by decide +kernel⟩,
  ⟨⟨⟨0, 0, 0, 0⟩, 16, zeros 60, 0, 0, 5⟩, [], { up with hif := { up.hif with rxq := [⟨⟨0, 0, 0, 0⟩, 16, zeros 60, 0, 0, 5⟩] } }, by decide +kernel⟩,
  ⟨⟨⟨0, 0, 0, 0⟩, 16, [], 0, 0, 5⟩, [], { put [(1, F.HIF_RING_CFG_EN 0, 1)] up with hif := { up.hif with rxq := [⟨⟨0, 0, 0, 0⟩, 16, [], 0, 0, 5⟩] } }, by decide +kernel⟩,
  ⟨0, 0, { waiting := true }, { up with vecs := [(0, { waiting := true })] }, by decide +kernel⟩⟩

theorem test_hyps_MmioAndLink :
    (∃ (fn : Fn) (addr : BitVec 28) (n : BitVec 13) (s : State), fn.val ≤ 1 ∧ shmPermitted s fn.val addr.toNat n.toNat permR = true ∧ shmSwept s addr.toNat n.toNat = true ∧ s.shmPoisoned addr.toNat n.toNat = false) ∧
    (∃ (fn : Fn) (addr : BitVec 28) (d : List Byte) (s : State), fn.val ≤ 1 ∧ shmPermitted s fn.val addr.toNat d.length permW = true ∧ shmSwept s addr.toNat d.length = true) ∧
    (∃ (fn : Fn) (addr : BitVec 28) (n : BitVec 13) (s : State), fn.val ≤ 1 ∧ shmPermitted s fn.val addr.toNat n.toNat permR = false) ∧
    (∃ (fn : Fn) (addr : BitVec 19) (write : Bool) (s : State), fn.val ≠ 513) ∧
    (∃ (fn : Fn) (addr : BitVec 19) (b : Blk) (s : State), addr.toNat % 4 = 0 ∧ fn.val ≠ 513 ∧ Blk.ofCode (addr.toNat / 0x4000) = some b ∧ mayRead s fn.val b (addr.toNat % 0x4000) = false) ∧
    (∃ (fn : Fn) (value : BitVec 32) (s : State), s.takesWrite .hif fn.val = true) ∧
    (∃ (speed : Fin 5) (width : Fin 4) (vfs : Fin 512) (ltr : Bool) (s : State), s.sh F.RST_STATUS_PROOF_DONE = 1 ∧ s.sh F.HIF_STATUS_LINK_UP = 0 ∧ s.pwr.deep = 0) :=
  ⟨⟨1, 32, 4, put ((List.range 17).map fun g => (0, F.SHM_GRP_STATUS_SWEPT g, 1)) up, by decide +kernel⟩,
  ⟨1, 32, [7, 8], put ((List.range 17).map fun g => (0, F.SHM_GRP_STATUS_SWEPT g, 1)) up, by decide +kernel⟩,
  ⟨0, 0, 4, up, by decide +kernel⟩,
  ⟨512, 3, true, up, by decide +kernel⟩,
  ⟨2, 0x3400C, .ks, up, by decide +kernel⟩,
  ⟨2, 0xFFFFFFFF, up, by decide +kernel⟩,
  ⟨4, 3, 511, true, up, by decide +kernel⟩⟩

theorem test_hyps_DoorCommands :
    (∃ (block : Fin 24) (b : Blk) (s : State), Blk.ofCode block.val = some b ∧ neverReset b = false ∧ s.safe = false ∧ s.sh F.RST_STATUS_PROOF_DONE ≠ 0) ∧
    (∃ (block : Fin 24) (b : Blk) (s : State), Blk.ofCode block.val = some b ∧ neverReset b = true) ∧
    (∃ (block : Fin 24) (s : State), s.sh (F.FLT_BLK_STATUS_DOOR block.val) = 1) ∧
    (∃ (block : Fin 24) (s : State), s.sh (F.FLT_BLK_STATUS_DOOR block.val) ≠ 1) ∧
    (∃ (block : Fin 24) (b : Blk) (s : State), Blk.ofCode block.val = some b ∧ s.sh (F.FLT_BLK_STATUS_DOOR b.code) = 2 ∧ s.gated b.code = false) ∧
    (∃ (block : Fin 24) (b : Blk) (s : State), Blk.ofCode block.val = some b ∧ s.sh (F.FLT_BLK_STATUS_DOOR b.code) = 2 ∧ s.gated b.code = true ∧ s.pwr.waking.contains b.code = true) ∧
    (∃ (block : Fin 24) (gen : BitVec 16) (b : Blk) (s : State), Blk.ofCode block.val = some b ∧ s.doorOpen b = true ∧ gen.toNat = s.gen b) ∧
    (∃ (block : Fin 24) (gen : BitVec 16) (b : Blk) (s : State), Blk.ofCode block.val = some b ∧ (s.doorOpen b = false ∨ gen.toNat ≠ s.gen b)) :=
  ⟨⟨6, .tdc, up, by decide +kernel⟩,
  ⟨0, .tb, up, by decide +kernel⟩,
  ⟨23, put [(0, F.FLT_BLK_STATUS_DOOR 23, 1)] up, by decide +kernel⟩,
  ⟨23, up, by decide +kernel⟩,
  ⟨6, .tdc, put [(0, F.FLT_BLK_STATUS_DOOR 6, 2)] up, by decide +kernel⟩,
  ⟨6, .tdc, { put [(0, F.FLT_BLK_STATUS_DOOR 6, 2), (0, F.PWR_BLK_GATED 6, 1)] up with pwr := { up.pwr with waking := [6] } }, by decide +kernel⟩,
  ⟨6, 1, .tdc, up, by decide +kernel⟩,
  ⟨6, 0, .tdc, up, by decide +kernel⟩⟩

theorem test_hyps_StewardCommands :
    (∃ (fn : Fn) (o : Octets) (n : Nat) (f : ImgFail) (s : State), s.takes .stw stStw fn.val = true ∧ s.secure fn.val = true ∧ s.sh F.STW_STATUS_IMAGE = 0 ∧ bufImage fn.val (s.rd64 (fn.val + 1) (F.STW_ARG 0) (F.STW_ARG 1)) s = (some o, n) ∧ checkImage false o s = some f) ∧
    (∃ (fn : Fn) (o : Octets) (n : Nat) (s : State), s.takes .stw stStw fn.val = true ∧ s.secure fn.val = true ∧ s.sh F.STW_STATUS_IMAGE = 0 ∧ bufImage fn.val (s.rd64 (fn.val + 1) (F.STW_ARG 0) (F.STW_ARG 1)) s = (some o, n)) ∧
    (∃ (fn : Fn) (src : Fin 4) (readOk : Bool) (o : Octets) (n : Nat) (c : Nat) (s : State), s.takes .stw stStw fn.val = true ∧ (s.secure fn.val = true ∨ tenant0 fn.val = true) ∧ src.val ≠ 3 ∧ srcImage (ownWin fn) src.val readOk s = (some o, n, c)) ∧
    (∃ (fn : Fn) (src : Fin 4) (readOk : Bool) (o : Octets) (n : Nat) (c : Nat) (s : State), s.takes .stw stStw fn.val = true ∧ s.secure fn.val = true ∧ src.val ≠ 3 ∧ s.frc + 312500000 ≤ (s.rd64 (fn.val + 1) (F.STW_ARG 2) (F.STW_ARG 3)) ∧ (s.rd64 (fn.val + 1) (F.STW_ARG 2) (F.STW_ARG 3)) ≤ s.frc + 93750000000 ∧ s.sh F.STW_STATUS_RS_STATE = 0 ∧ srcImage (ownWin fn) src.val readOk s = (some o, n, c)) ∧
    (∃ (fn : Fn) (src : Fin 4) (readOk : Bool) (s : State), s.takes .stw stStw fn.val = true ∧ s.secure fn.val = true ∧ src.val ≠ 3 ∧ ((s.rd64 (fn.val + 1) (F.STW_ARG 2) (F.STW_ARG 3)) < s.frc + 312500000 ∨ s.frc + 93750000000 < (s.rd64 (fn.val + 1) (F.STW_ARG 2) (F.STW_ARG 3)))) ∧
    (∃ (r : Restructure) (s : State), s.stw.rs = some r ∧ s.sh F.STW_STATUS_RS_STATE = 1 ∧ s.frc + 31250000 ≤ r.tick) ∧
    (∃ (r : Restructure) (s : State), s.stw.rs = some r ∧ s.sh F.STW_STATUS_RS_STATE = 1 ∧ r.tick < s.frc + 31250000) ∧
    (∃ (r : Restructure) (s : State), s.stw.rs = some r ∧ s.sh F.STW_STATUS_RS_STATE = 2 ∧ s.frc < r.tick) ∧
    (∃ (r : Restructure) (s : State), s.stw.rs = some r ∧ s.sh F.STW_STATUS_RS_STATE = 2 ∧ r.tick ≤ s.frc) ∧
    (∃ (r : Restructure) (s : State), s.stw.rs = some r ∧ s.sh F.STW_STATUS_RS_STATE = 3 ∧ s.safe = false ∧ r.blks = [] ∧ imgRecs r.image = [] ∧ sectsOf r.image = []) ∧
    (∃ (fn : Fn) (r : Restructure) (s : State), s.takes .stw stStw fn.val = true ∧ s.secure fn.val = true ∧ rsHoldsTable s = true ∧ s.stw.rs = some r ∧ s.frc < r.tick) ∧
    (∃ (fn : Fn) (s : State), s.takes .stw stStw fn.val = true ∧ s.secure fn.val = true ∧ s.sh F.STW_STATUS_IMAGE ≠ 0 ∧ s.sh F.STW_STATUS_SVN_MIN < s.sh F.STW_IMG_INFO) :=
  ⟨⟨1, zeros 16, 0, (checkImage false (zeros 16) up).getD ⟨0, 0, 0⟩, up, by decide +kernel⟩,
  ⟨1, zeros 16, 0, up, by decide +kernel⟩,
  ⟨1, 0, true, zeros 16, 0, 0, up, by decide +kernel⟩,
  ⟨1, 0, true, zeros 16, 0, 0, put [(2, F.STW_ARG 2, 312500000)] up, by decide +kernel⟩,
  ⟨1, 0, true, up, by decide +kernel⟩,
  ⟨{ image := [], src := 0, tick := 31250000, win := ownWin 1, groups := [], pt := false, blks := [] }, { put [(0, F.STW_STATUS_RS_STATE, 1)] up with stw := { up.stw with rs := some { image := [], src := 0, tick := 31250000, win := ownWin 1, groups := [], pt := false, blks := [] } } }, by decide +kernel⟩,
  ⟨{ image := [], src := 0, tick := 0, win := ownWin 1, groups := [], pt := false, blks := [] }, { put [(0, F.STW_STATUS_RS_STATE, 1)] up with stw := { up.stw with rs := some { image := [], src := 0, tick := 0, win := ownWin 1, groups := [], pt := false, blks := [] } } }, by decide +kernel⟩,
  ⟨{ image := [], src := 0, tick := 5, win := ownWin 1, groups := [], pt := false, blks := [] }, { put [(0, F.STW_STATUS_RS_STATE, 2)] up with stw := { up.stw with rs := some { image := [], src := 0, tick := 5, win := ownWin 1, groups := [], pt := false, blks := [] } } }, by decide +kernel⟩,
  ⟨{ image := [], src := 0, tick := 0, win := ownWin 1, groups := [], pt := false, blks := [] }, { put [(0, F.STW_STATUS_RS_STATE, 2)] up with stw := { up.stw with rs := some { image := [], src := 0, tick := 0, win := ownWin 1, groups := [], pt := false, blks := [] } } }, by decide +kernel⟩,
  ⟨{ image := [], src := 0, tick := 0, win := ownWin 1, groups := [], pt := false, blks := [] }, { put [(0, F.STW_STATUS_RS_STATE, 3)] up with stw := { up.stw with rs := some { image := [], src := 0, tick := 0, win := ownWin 1, groups := [], pt := false, blks := [] } } }, by decide +kernel⟩,
  ⟨1, { image := [], src := 0, tick := 5, win := ownWin 1, groups := [], pt := false, blks := [] }, { put [(0, F.STW_STATUS_RS_STATE, 1)] up with stw := { up.stw with rs := some { image := [], src := 0, tick := 5, win := ownWin 1, groups := [], pt := false, blks := [] } } }, by decide +kernel⟩,
  ⟨1, put [(0, F.STW_STATUS_IMAGE, 1), (0, F.STW_IMG_INFO, 3)] up, by decide +kernel⟩⟩

theorem test_hyps_ResetCommands :
    (∃ (s : State), s.rst.pin = false ∧ s.sh F.RST_STATUS_STUCK_ACTIVE = 0) ∧
    (∃ (s : State), (s.rst.pin = true ∨ s.sh F.RST_STATUS_STUCK_ACTIVE = 1)) ∧
    (∃ (heldMs : BitVec 32) (s : State), s.rst.pin = true) ∧
    (∃ (heldMs : BitVec 32) (s : State), s.rst.pin = true ∧ s.sh F.RST_BAT_STATUS_RSTPIN_STUCK_M = 1) ∧
    (∃ (s : State), s.rst.pin = false ∧ s.pwr.deep ≤ 2 ∧ s.sh F.RST_OPT_PERST_MODE = 1) ∧
    (∃ (s : State), s.rst.pin = false ∧ s.pwr.deep ≤ 2 ∧ s.sh F.RST_OPT_PERST_MODE = 0) ∧
    (∃ (fn : Fn) (s : State), (s.takes .rst stRst fn.val = true ∨ s.safe = true) ∧ s.secureSt fn.val = true) ∧
    (∃ (fn : Fn) (s : State), (s.takes .rst stRst fn.val = true ∨ s.safe = true) ∧ s.secureSt fn.val = true) ∧
    (∃ (fn : Fn) (s : State), s.takes .rst stRst fn.val = true ∧ s.secureSt fn.val = true) ∧
    (∃ (fn : Fn) (s : State), s.takes .rst stRst fn.val = true ∧ s.secureSt fn.val = true) :=
  ⟨⟨up, by decide +kernel⟩,
  ⟨put [(0, F.RST_STATUS_STUCK_ACTIVE, 1)] up, by decide +kernel⟩,
  ⟨0xFFFFFFFF, { up with rst := { up.rst with pin := true } }, by decide +kernel⟩,
  ⟨8000, { put [(0, F.RST_BAT_STATUS_RSTPIN_STUCK_M, 1)] up with rst := { up.rst with pin := true } }, by decide +kernel⟩,
  ⟨put [(0, F.RST_OPT_PERST_MODE, 1)] up, by decide +kernel⟩,
  ⟨put [(0, F.RST_OPT_PERST_MODE, 0)] up, by decide +kernel⟩,
  ⟨1, up, by decide +kernel⟩,
  ⟨1, up, by decide +kernel⟩,
  ⟨1, up, by decide +kernel⟩,
  ⟨1, up, by decide +kernel⟩⟩

theorem test_hyps_ProofingCommands :
    (∃ (p : ProofData) (s : State), s.rst.pin = false ∧ s.sh F.RST_STATUS_PROOF_DONE = 0 ∧ s.pwr.deep ≤ 2 ∧ s.sh F.RST_STATUS_PROOF_STEP = 0) ∧
    (∃ (p : ProofData) (s : State), s.rst.pin = false ∧ s.sh F.RST_STATUS_PROOF_DONE = 0 ∧ s.pwr.deep ≤ 2 ∧ s.sh F.RST_STATUS_PROOF_STEP = 1) ∧
    (∃ (p : ProofData) (s : State), s.rst.pin = false ∧ s.sh F.RST_STATUS_PROOF_DONE = 0 ∧ s.pwr.deep ≤ 2 ∧ s.sh F.RST_STATUS_PROOF_STEP = 2) ∧
    (∃ (p : ProofData) (s : State), s.rst.pin = false ∧ s.sh F.RST_STATUS_PROOF_DONE = 0 ∧ s.pwr.deep ≤ 2 ∧ s.sh F.RST_STATUS_PROOF_STEP = 3) ∧
    (∃ (p : ProofData) (s : State), s.rst.pin = false ∧ s.sh F.RST_STATUS_PROOF_DONE = 0 ∧ s.pwr.deep ≤ 2 ∧ s.sh F.RST_STATUS_PROOF_STEP = 5) ∧
    (∃ (p : ProofData) (s : State), s.rst.pin = false ∧ s.sh F.RST_STATUS_PROOF_DONE = 0 ∧ s.pwr.deep ≤ 2 ∧ s.sh F.RST_STATUS_PROOF_STEP = 4 ∧ s.sh F.SHM_STATUS_SWEEP_DONE = 0) ∧
    (∃ (p : ProofData) (s : State), s.rst.pin = false ∧ s.sh F.RST_STATUS_PROOF_DONE = 0 ∧ s.pwr.deep ≤ 2 ∧ s.sh F.RST_STATUS_PROOF_STEP = 4 ∧ s.sh F.SHM_STATUS_SWEEP_DONE = 1) ∧
    (∃ (p : ProofData) (s : State), s.rst.pin = false ∧ s.sh F.RST_STATUS_PROOF_DONE = 0 ∧ s.pwr.deep ≤ 2 ∧ s.sh F.RST_STATUS_PROOF_STEP = 6) ∧
    (∃ (p : ProofData) (s : State), s.rst.pin = false ∧ s.sh F.RST_STATUS_PROOF_DONE = 0 ∧ s.pwr.deep ≤ 2 ∧ 7 ≤ s.sh F.RST_STATUS_PROOF_STEP) ∧
    (∃ (s : State), s.rst.pin = false ∧ s.sh F.RST_STATUS_PROOF_DONE = 0 ∧ s.pwr.deep ≤ 2 ∧ s.sh F.RST_STATUS_PROOF_STEP = 3) ∧
    (∃ (s : State), s.rst.pin = false ∧ s.sh F.RST_STATUS_PROOF_DONE = 0 ∧ s.pwr.deep ≤ 2 ∧ (s.sh F.RST_STATUS_PROOF_STEP = 1 ∨ s.sh F.RST_STATUS_PROOF_STEP = 5)) :=
  ⟨⟨⟨true, true, true, true, true⟩, put [(0, F.RST_STATUS_PROOF_STEP, 0)] State.reset, by decide +kernel⟩,
  ⟨⟨true, true, true, true, true⟩, put [(0, F.RST_STATUS_PROOF_STEP, 1)] State.reset, by decide +kernel⟩,
  ⟨⟨true, true, true, true, true⟩, put [(0, F.RST_STATUS_PROOF_STEP, 2)] State.reset, by decide +kernel⟩,
  ⟨⟨true, true, true, true, true⟩, put [(0, F.RST_STATUS_PROOF_STEP, 3)] State.reset, by decide +kernel⟩,
  ⟨⟨true, true, true, true, true⟩, put [(0, F.RST_STATUS_PROOF_STEP, 5)] State.reset, by decide +kernel⟩,
  ⟨⟨true, true, true, true, true⟩, put [(0, F.RST_STATUS_PROOF_STEP, 4)] State.reset, by decide +kernel⟩,
  ⟨⟨true, true, true, true, true⟩, put [(0, F.RST_STATUS_PROOF_STEP, 4), (0, F.SHM_STATUS_SWEEP_DONE, 1)] State.reset, by decide +kernel⟩,
  ⟨⟨true, true, true, true, true⟩, put [(0, F.RST_STATUS_PROOF_STEP, 6)] State.reset, by decide +kernel⟩,
  ⟨⟨true, true, true, true, true⟩, put [(0, F.RST_STATUS_PROOF_STEP, 7)] State.reset, by decide +kernel⟩,
  ⟨put [(0, F.RST_STATUS_PROOF_STEP, 3)] State.reset, by decide +kernel⟩,
  ⟨put [(0, F.RST_STATUS_PROOF_STEP, 5)] State.reset, by decide +kernel⟩⟩

theorem test_hyps_PowerCommands :
    (∃ (idle : IdleEngines) (s : State), s.sh F.RST_STATUS_PROOF_DONE = 1 ∧ s.pwr.deep = 0) ∧
    (∃ (k : EngKind) (s : State), gatedEng s k ≠ 0) ∧
    (∃ (k : EngKind) (s : State), gatedEng s k = 0) ∧
    (∃ (fn : Fn) (s : State), s.takes .pwr stPwr fn.val = true ∧ s.secureSt fn.val = true ∧ enterCause s (s.rd (fn.val + 1) F.PWR_ARG) = none) ∧
    (∃ (fn : Fn) (c : Nat) (s : State), s.takes .pwr stPwr fn.val = true ∧ s.secureSt fn.val = true ∧ enterCause s (s.rd (fn.val + 1) F.PWR_ARG) = some c) ∧
    (∃ (source : Fin 5) (s : State), s.pwr.deep = 3 ∧ source.val ≠ 4 ∧ bitOf (s.sh F.PWR_WAKE_CFG) source.val = true) ∧
    (∃ (source : Fin 5) (s : State), s.pwr.deep = 4 ∧ source.val ≠ 4 ∧ bitOf (s.sh F.PWR_WAKE_CFG) source.val = true) ∧
    (∃ (source : Fin 5) (s : State), s.pwr.deep = 2 ∧ bitOf (s.sh F.PWR_WAKE_CFG) source.val = true ∧ (source.val ≠ 4 ∨ s.rd64 0 F.PWR_WAKE_FRC_LO F.PWR_WAKE_FRC_HI ≤ s.frc)) ∧
    (∃ (source : Fin 5) (s : State), (s.pwr.deep = 0 ∨ bitOf (s.sh F.PWR_WAKE_CFG) source.val = false)) :=
  ⟨⟨⟨0, 0, false, false, false, false⟩, up, by decide +kernel⟩,
  ⟨.gh, { up with pwr := { up.pwr with gated := [(.gh, 2)] } }, by decide +kernel⟩,
  ⟨.gh, up, by decide +kernel⟩,
  ⟨1, put [(2, F.PWR_ARG, 2), (0, F.PWR_WAKE_CFG, 1)] up, by decide +kernel⟩,
  ⟨1, 5, put [(2, F.PWR_ARG, 7)] up, by decide +kernel⟩,
  ⟨1, { put [(0, F.PWR_WAKE_CFG, 2)] up with pwr := { up.pwr with deep := 3 } }, by decide +kernel⟩,
  ⟨1, { put [(0, F.PWR_WAKE_CFG, 2)] up with pwr := { up.pwr with deep := 4 } }, by decide +kernel⟩,
  ⟨4, { put [(0, F.PWR_WAKE_CFG, 16)] up with pwr := { up.pwr with deep := 2 } }, by decide +kernel⟩,
  ⟨0, up, by decide +kernel⟩⟩

theorem test_hyps_CollectorCommands :
    (∃ (sources : List FltHit) (s : State), hitsOf sources ≠ []) ∧
    (∃ (sources : List FltHit) (s : State), hitsOf sources = []) ∧
    (∃ (block : Fin 24) (b : Blk) (tm : ReadyTimer) (s : State), Blk.ofCode block.val = some b ∧ tget s.flt.timers b.code = some tm ∧ tm.fired = false ∧ tm.deadline ≤ s.frc ∧ s.sh (F.FLT_BLK_STATUS_DOOR b.code) ≠ 0) ∧
    (∃ (s : State), s.sh F.FLT_STATUS_RC_CLOCK = 0) ∧
    (∃ (r : FltRec) (l : List FltRec) (s : State), s.flt.fifo = r :: l ∧ s.sh F.FLT_LOG_CFG_EN = 1 ∧ (wsub 32 (s.sh F.FLT_LOG_WR_IDX) (s.sh F.FLT_LOG_RD_IDX)) < (2 ^ s.sh F.FLT_LOG_CFG_LOG2_RECORDS) ∧ s.doorOpen .shm = true ∧ s.sh F.FLT_LOG_CFG_WM = 0) :=
  ⟨⟨[⟨0, 1, 2⟩], up, by decide +kernel⟩,
  ⟨[], up, by decide +kernel⟩,
  ⟨6, .tdc, ⟨0, false⟩, { put [(0, F.FLT_BLK_STATUS_DOOR 6, 2)] up with flt := { up.flt with timers := [(6, ⟨0, false⟩)] } }, by decide +kernel⟩,
  ⟨up, by decide +kernel⟩,
  ⟨⟨0, 0, 0, 0, false, false, false, false, false, false, 0, 0, 0, 0, 0⟩, [], { put [(0, F.FLT_LOG_CFG_EN, 1)] up with flt := { up.flt with fifo := [⟨0, 0, 0, 0, false, false, false, false, false, false, 0, 0, 0, 0, 0⟩] } }, by decide +kernel⟩⟩

theorem test_hyps_FaultWindowCommands :
    (∃ (fn : Fn) (s : State), s.takes .flt stFlt fn.val = true ∧ s.secureSt fn.val = true ∧ s.sh F.FLT_STATUS_LOCKED = 0 ∧ (s.rd (fn.val + 1) F.FLT_SRC_SEL) ≠ 1344 ∧ srcDesc (s.rd (fn.val + 1) F.FLT_SRC_SEL) ≠ none ∧ cfgBreaks (s.rd (fn.val + 1) F.FLT_SRC_SEL) (s.rd (fn.val + 1) F.FLT_SRC_CFG_EN + 2 * s.rd (fn.val + 1) F.FLT_SRC_CFG_SEV + 8 * s.rd (fn.val + 1) F.FLT_SRC_CFG_REACTION) = false) ∧
    (∃ (fn : Fn) (s : State), s.takes .flt stFlt fn.val = true ∧ s.secureSt fn.val = true ∧ s.sh F.FLT_STATUS_LOCKED = 0 ∧ (s.rd (fn.val + 1) F.FLT_SRC_SEL) ≠ 1344 ∧ srcDesc (s.rd (fn.val + 1) F.FLT_SRC_SEL) ≠ none ∧ cfgBreaks (s.rd (fn.val + 1) F.FLT_SRC_SEL) (s.rd (fn.val + 1) F.FLT_SRC_CFG_EN + 2 * s.rd (fn.val + 1) F.FLT_SRC_CFG_SEV + 8 * s.rd (fn.val + 1) F.FLT_SRC_CFG_REACTION) = true) ∧
    (∃ (fn : Fn) (s : State), s.takes .flt stFlt fn.val = true ∧ s.secureSt fn.val = true ∧ s.sh F.FLT_STATUS_LOCKED = 1) ∧
    (∃ (fn : Fn) (s : State), s.takes .flt stFlt fn.val = true ∧ (tenant0 fn.val = true ∨ s.secureSt fn.val = true)) ∧
    (∃ (fn : Fn) (b : Blk) (s : State), s.takes .flt stFlt fn.val = true ∧ s.secureSt fn.val = true ∧ Blk.ofCode (s.rd (fn.val + 1) F.FLT_ARG_BLOCK) = some b ∧ neverReset b = false ∧ s.gated b.code = false) ∧
    (∃ (fn : Fn) (real : List FltHit) (s : State), s.takes .flt stFlt fn.val = true ∧ s.secureSt fn.val = true ∧ s.develop = true ∧ srcDesc (s.rd (fn.val + 1) F.FLT_SRC_SEL) ≠ none) ∧
    (∃ (fn : Fn) (s : State), s.takes .flt stFlt fn.val = true ∧ s.secureSt fn.val = true) :=
  ⟨⟨1, put [(2, F.FLT_SRC_CFG_EN, 1), (2, F.FLT_SRC_CFG_REACTION, 8)] up, by decide +kernel⟩,
  ⟨1, put [(2, F.FLT_SRC_CFG_REACTION, 64)] up, by decide +kernel⟩,
  ⟨1, put [(0, F.FLT_STATUS_LOCKED, 1)] up, by decide +kernel⟩,
  ⟨0, put [(1, F.FLT_SRC_SEL, 1217)] up, by decide +kernel⟩,
  ⟨1, .tdc, put [(2, F.FLT_ARG_BLOCK, 6)] up, by decide +kernel⟩,
  ⟨1, [], put [(0, F.KS_LIFECYCLE_STATE, 1), (2, F.FLT_SRC_SEL, 1217)] up, by decide +kernel⟩,
  ⟨1, up, by decide +kernel⟩⟩

theorem test_hyps_CounterCommands :
    (∃ (fn : Fn) (n : Fin 128) (value : BitVec 32) (s : State), s.takesWrite .pmc fn.val = true ∧ s.secureSt fn.val = true) ∧
    (∃ (s : State), s.pmc.wins.all (fun e => !(winDue s e.1 e.2 && e.2.started)) = true) ∧
    (∃ (e : Nat × WinCtr) (l : List (Nat × WinCtr)) (s : State), s.pmc.wins.filter (fun e => winDue s e.1 e.2 && e.2.started) = e :: l ∧ s.pmc.winDoneAt = none) ∧
    (∃ (fn : Fn) (frcTime : Bool) (s : State), s.takes .pmc stPmc fn.val = true ∧ s.pmc.snap = none ∧ (s.rd64 (fn.val + 1) F.PMC_SNAP_ADDR_LO F.PMC_SNAP_ADDR_HI) % 64 = 0 ∧ ownsBuf s fn.val (s.rd64 (fn.val + 1) F.PMC_SNAP_ADDR_LO F.PMC_SNAP_ADDR_HI) snapLen = true ∧ (frcTime = false ∨ s.frc + 64 ≤ (s.rd64 (fn.val + 1) F.PMC_SNAP_TIME_LO F.PMC_SNAP_TIME_HI))) ∧
    (∃ (p : PmcSnap) (s : State), s.pmc.snap = some p ∧ p.taken = none ∧ p.tick ≤ s.frc) ∧
    (∃ (p : PmcSnap) (c : Tbl Nat) (w : Tbl WinCtr) (s : State), s.pmc.snap = some p ∧ p.taken = some (c, w)) :=
  ⟨⟨1, 127, 3, up, by decide +kernel⟩,
  ⟨up, by decide +kernel⟩,
  ⟨(5, { started := true }), [], { put [(0, F.PMC_WIN_CFG_MODE 5, 2)] up with pmc := { up.pmc with wins := [(5, { started := true })] } }, by decide +kernel⟩,
  ⟨2, false, up, by decide +kernel⟩,
  ⟨⟨ownWin 1, 0, 0, none⟩, { up with pmc := { up.pmc with snap := some ⟨ownWin 1, 0, 0, none⟩ } }, by decide +kernel⟩,
  ⟨⟨ownWin 1, 0, 0, some ([], [])⟩, [], [], { up with pmc := { up.pmc with snap := some ⟨ownWin 1, 0, 0, some ([], [])⟩ } }, by decide +kernel⟩⟩

theorem test_hyps_ManagementPortCommands :
    (∃ (fn : Fn) (value : BitVec 32) (s : State), s.takesWrite .mgp fn.val = true ∧ s.secureSt fn.val = true ∧ s.sh F.MGP_CFG_EN = 0 ∧ (bitOf value.toNat 0 = false ∨ bitOf value.toNat 4 = true ∨ (if bits value.toNat 2 2 = 3 then 2 else bits value.toNat 2 2) ≠ 2)) ∧
    (∃ (speed : Fin 3) (full : Bool) (s : State), s.doorOpen .mgp = true) ∧
    (∃ (speed : Fin 3) (full : Bool) (s : State), s.doorOpen .mgp = true ∧ s.sh F.MGP_CFG_AN_EN = 1 ∧ (speed.val ≠ 2 ∨ full = true) ∧ s.sh F.MGP_STATUS_LINK_UP = 0) ∧
    (∃ (fn : Fn) (value : BitVec 32) (s : State), s.takesWrite .mgp fn.val = true ∧ s.secureSt fn.val = true ∧ bitOf value.toNat 11 = true ∧ s.sh F.MGP_MDIO_BUSY = 0) ∧
    (∃ (data : BitVec 16) (v : Nat) (s : State), s.mgp.mdio = some v ∧ bitOf v 10 = false) ∧
    (∃ (tick : BitVec 64) (phase : Fin 32) (frame : List Byte) (s : State), s.doorOpen .mgp = true ∧ s.sh F.MGP_CFG_EN = 1 ∧ s.sh F.MGP_STATUS_LINK_UP = 1 ∧ 14 ≤ frame.length ∧ mgpFlags s frame false = 0) ∧
    (∃ (tick : BitVec 64) (phase : Fin 32) (frame : List Byte) (codeErr : Bool) (s : State), s.doorOpen .mgp = true ∧ s.sh F.MGP_CFG_EN = 1 ∧ s.sh F.MGP_STATUS_LINK_UP = 1 ∧ frame.length < 14) ∧
    (∃ (tick : BitVec 64) (phase : Fin 32) (collisions : Fin 17) (late : Bool) (deferred : Bool) (s : State), s.doorOpen .mgp = true ∧ s.sh F.MGP_CFG_EN = 1 ∧ s.sh F.MGP_STATUS_LINK_UP = 1 ∧ s.safe = false ∧ mgpReady s 1 = true ∧ (actOps (slice (s.memRead (mgpOwner s 1) (mgpSq s 1 + 32 * ((s.sh (F.MGP_SQ_HEAD 1)) % mgpEntries s 1)) 32) 16 16)).any (fun e => e.1 != 0) = false ∧ (ofLe (slice (s.memRead (mgpOwner s 1) (mgpSq s 1 + 32 * ((s.sh (F.MGP_SQ_HEAD 1)) % mgpEntries s 1)) 32) 8 2) < 14 ∨ s.sh F.MGP_FRAME < ofLe (slice (s.memRead (mgpOwner s 1) (mgpSq s 1 + 32 * ((s.sh (F.MGP_SQ_HEAD 1)) % mgpEntries s 1)) 32) 8 2) + 4)) ∧
    (∃ (tick : BitVec 64) (phase : Fin 32) (collisions : Fin 17) (late : Bool) (deferred : Bool) (s : State), s.doorOpen .mgp = true ∧ s.sh F.MGP_CFG_EN = 1 ∧ s.sh F.MGP_STATUS_LINK_UP = 1 ∧ s.safe = false ∧ mgpReady s 1 = true ∧ s.sh F.MGP_STATUS_FULL_ACT = 1 ∧ (actOps (slice (s.memRead (mgpOwner s 1) (mgpSq s 1 + 32 * ((s.sh (F.MGP_SQ_HEAD 1)) % mgpEntries s 1)) 32) 16 16)).any (fun e => e.1 != 0) = false ∧ 14 ≤ (ofLe (slice (s.memRead (mgpOwner s 1) (mgpSq s 1 + 32 * ((s.sh (F.MGP_SQ_HEAD 1)) % mgpEntries s 1)) 32) 8 2)) ∧ (ofLe (slice (s.memRead (mgpOwner s 1) (mgpSq s 1 + 32 * ((s.sh (F.MGP_SQ_HEAD 1)) % mgpEntries s 1)) 32) 8 2)) + 4 ≤ s.sh F.MGP_FRAME ∧ ownsBuf s (mgpOwner s 1) (ofLe (slice (s.memRead (mgpOwner s 1) (mgpSq s 1 + 32 * ((s.sh (F.MGP_SQ_HEAD 1)) % mgpEntries s 1)) 32) 0 8)) (ofLe (slice (s.memRead (mgpOwner s 1) (mgpSq s 1 + 32 * ((s.sh (F.MGP_SQ_HEAD 1)) % mgpEntries s 1)) 32) 8 2)) = true ∧ bufCode s (ofLe (slice (s.memRead (mgpOwner s 1) (mgpSq s 1 + 32 * ((s.sh (F.MGP_SQ_HEAD 1)) % mgpEntries s 1)) 32) 0 8)) (ofLe (slice (s.memRead (mgpOwner s 1) (mgpSq s 1 + 32 * ((s.sh (F.MGP_SQ_HEAD 1)) % mgpEntries s 1)) 32) 8 2)) ≠ Code.poisoned) ∧
    (∃ (frame : List Byte) (s : State), wakeHits s frame = []) ∧
    (∃ (frame : List Byte) (p : Nat) (l : List Nat) (s : State), wakeHits s frame = p :: l ∧ (s.pwr.deep = 0 ∨ bitOf (s.sh F.PWR_WAKE_CFG) 1 = false)) :=
  ⟨⟨1, 0x19, up, by decide +kernel⟩,
  ⟨2, true, up, by decide +kernel⟩,
  ⟨2, true, put [(0, F.MGP_CFG_AN_EN, 1)] up, by decide +kernel⟩,
  ⟨1, 0x800, up, by decide +kernel⟩,
  ⟨7, 0, { up with mgp := { up.mgp with mdio := some 0 } }, by decide +kernel⟩,
  ⟨0, 31, (zeros 60 ++ leBytes 4 (crc32 (zeros 60))), put [(0, F.MGP_CFG_EN, 1), (0, F.MGP_STATUS_LINK_UP, 1)] up, by decide +kernel⟩,
  ⟨0, 31, zeros 13, true, put [(0, F.MGP_CFG_EN, 1), (0, F.MGP_STATUS_LINK_UP, 1)] up, by decide +kernel⟩,
  ⟨0, 0, 0, false, false, put [(0, F.MGP_CFG_EN, 1), (0, F.MGP_STATUS_LINK_UP, 1), (0, F.MGP_RING_CFG_EN 1, 1), (0, F.MGP_SQ_TAIL 1, 1), (0, F.MGP_RING_CFG_LOG2_SIZE 1, 4)] up, by decide +kernel⟩,
  ⟨0, 0, 0, true, false, State.shmWrite 8 (oct [14]) (put [(0, F.MGP_STATUS_FULL_ACT, 1), (0, F.MGP_RING_CFG_OWNER 1, 1), (0, F.MGP_SQ_BASE_HI 1, 0x80000000)] (put [(0, F.MGP_CFG_EN, 1), (0, F.MGP_STATUS_LINK_UP, 1), (0, F.MGP_RING_CFG_EN 1, 1), (0, F.MGP_SQ_TAIL 1, 1), (0, F.MGP_RING_CFG_LOG2_SIZE 1, 4)] up)), by decide +kernel⟩,
  ⟨[], up, by decide +kernel⟩,
  ⟨(zeros 60 ++ leBytes 4 (crc32 (zeros 60))), 3, [], put [(0, F.MGP_WAKE_CFG, 8), (0, F.MGP_WAKE_MASK 3 0, 1), (0, F.MGP_WAKE_CRC 3, crc16 (zeros 1))] up, by decide +kernel⟩⟩

theorem test_hyps_BusyWindowsKeepTheirCommand :
    (∃ (fn : Fn) (offset : Bool) (frcTime : Bool) (kind : Fin 4) (slot : Fin 8) (s : State), s.safe = false ∧ s.rd (fn.val + 1) stVc.busy = 1) ∧
    (∃ (fn : Fn) (offset : Bool) (frcTime : Bool) (kind : Fin 4) (slot : Fin 8) (s : State), s.safe = true ∧ s.rd (fn.val + 1) stVc.busy = 1) ∧
    (∃ (fn : Fn) (ack : Bool) (s : State), s.safe = false ∧ s.rd (fn.val + 1) stSrv.busy = 1) ∧
    (∃ (fn : Fn) (ack : Bool) (s : State), s.safe = true ∧ s.rd (fn.val + 1) stSrv.busy = 1) ∧
    (∃ (fn : Fn) (s : State), s.safe = false ∧ s.rd (fn.val + 1) stAcq.busy = 1) ∧
    (∃ (fn : Fn) (s : State), s.safe = true ∧ s.rd (fn.val + 1) stAcq.busy = 1) ∧
    (∃ (fn : Fn) (s : State), s.safe = false ∧ s.rd (fn.val + 1) stGnCh.busy = 1) ∧
    (∃ (fn : Fn) (s : State), s.safe = true ∧ s.rd (fn.val + 1) stGnCh.busy = 1) ∧
    (∃ (fn : Fn) (s : State), s.safe = false ∧ s.rd (fn.val + 1) stCls.busy = 1) ∧
    (∃ (fn : Fn) (s : State), s.safe = true ∧ s.rd (fn.val + 1) stCls.busy = 1) ∧
    (∃ (fn : Fn) (types : Fin 8) (s : State), s.safe = false ∧ s.rd (fn.val + 1) stCtx.busy = 1) ∧
    (∃ (fn : Fn) (types : Fin 8) (s : State), s.safe = true ∧ s.rd (fn.val + 1) stCtx.busy = 1) ∧
    (∃ (fn : Fn) (frcTime : Bool) (s : State), s.safe = false ∧ s.rd (fn.val + 1) stSa.busy = 1) ∧
    (∃ (fn : Fn) (frcTime : Bool) (s : State), s.safe = true ∧ s.rd (fn.val + 1) stSa.busy = 1) ∧
    (∃ (fn : Fn) (count : Fin 16) (s : State), s.safe = false ∧ s.rd (fn.val + 1) stNts.busy = 1) ∧
    (∃ (fn : Fn) (count : Fin 16) (s : State), s.safe = true ∧ s.rd (fn.val + 1) stNts.busy = 1) ∧
    (∃ (fn : Fn) (clearMax : Bool) (s : State), s.safe = false ∧ s.rd (fn.val + 1) stQ.busy = 1) ∧
    (∃ (fn : Fn) (clearMax : Bool) (s : State), s.safe = true ∧ s.rd (fn.val + 1) stQ.busy = 1) ∧
    (∃ (fn : Fn) (s : State), s.safe = false ∧ s.rd (fn.val + 1) stPol.busy = 1) ∧
    (∃ (fn : Fn) (s : State), s.safe = true ∧ s.rd (fn.val + 1) stPol.busy = 1) ∧
    (∃ (fn : Fn) (stored : Bool) (s : State), s.safe = false ∧ s.rd (fn.val + 1) stKs.busy = 1) ∧
    (∃ (fn : Fn) (stored : Bool) (s : State), s.safe = true ∧ s.rd (fn.val + 1) stKs.busy = 1) ∧
    (∃ (fn : Fn) (wide : Bool) (s : State), s.safe = false ∧ s.rd (fn.val + 1) stAtom.busy = 1) ∧
    (∃ (fn : Fn) (wide : Bool) (s : State), s.safe = true ∧ s.rd (fn.val + 1) stAtom.busy = 1) ∧
    (∃ (fn : Fn) (s : State), s.safe = false ∧ s.rd (fn.val + 1) stCt.busy = 1) ∧
    (∃ (fn : Fn) (s : State), s.safe = true ∧ s.rd (fn.val + 1) stCt.busy = 1) ∧
    (∃ (fn : Fn) (s : State), s.safe = false ∧ s.rd (fn.val + 1) stHif.busy = 1) ∧
    (∃ (fn : Fn) (s : State), s.safe = true ∧ s.rd (fn.val + 1) stHif.busy = 1) ∧
    (∃ (fn : Fn) (src : Fin 4) (readOk : Bool) (s : State), s.safe = false ∧ s.rd (fn.val + 1) stStw.busy = 1) ∧
    (∃ (fn : Fn) (src : Fin 4) (readOk : Bool) (s : State), s.safe = true ∧ s.rd (fn.val + 1) stStw.busy = 1) ∧
    (∃ (fn : Fn) (verified : Bool) (s : State), s.safe = false ∧ s.rd (fn.val + 1) stRst.busy = 1) ∧
    (∃ (fn : Fn) (verified : Bool) (s : State), s.safe = true ∧ s.rd (fn.val + 1) stRst.busy = 1) ∧
    (∃ (fn : Fn) (s : State), s.safe = false ∧ s.rd (fn.val + 1) stPwr.busy = 1) ∧
    (∃ (fn : Fn) (s : State), s.safe = true ∧ s.rd (fn.val + 1) stPwr.busy = 1) ∧
    (∃ (fn : Fn) (real : List FltHit) (s : State), s.safe = false ∧ s.rd (fn.val + 1) stFlt.busy = 1) ∧
    (∃ (fn : Fn) (real : List FltHit) (s : State), s.safe = true ∧ s.rd (fn.val + 1) stFlt.busy = 1) ∧
    (∃ (fn : Fn) (frcTime : Bool) (s : State), s.safe = false ∧ s.rd (fn.val + 1) stPmc.busy = 1) ∧
    (∃ (fn : Fn) (frcTime : Bool) (s : State), s.safe = true ∧ s.rd (fn.val + 1) stPmc.busy = 1) :=
  ⟨⟨2, true, true, 1, 0, put [(3, stVc.busy, 1)] up, by decide +kernel⟩,
  ⟨2, true, true, 1, 0, put [(3, stVc.busy, 1), (0, F.FLT_STATUS_SAFE, 1)] up, by decide +kernel⟩,
  ⟨2, true, put [(3, stSrv.busy, 1)] up, by decide +kernel⟩,
  ⟨2, true, put [(3, stSrv.busy, 1), (0, F.FLT_STATUS_SAFE, 1)] up, by decide +kernel⟩,
  ⟨2, put [(3, stAcq.busy, 1)] up, by decide +kernel⟩,
  ⟨2, put [(3, stAcq.busy, 1), (0, F.FLT_STATUS_SAFE, 1)] up, by decide +kernel⟩,
  ⟨2, put [(3, stGnCh.busy, 1)] up, by decide +kernel⟩,
  ⟨2, put [(3, stGnCh.busy, 1), (0, F.FLT_STATUS_SAFE, 1)] up, by decide +kernel⟩,
  ⟨2, put [(3, stCls.busy, 1)] up, by decide +kernel⟩,
  ⟨2, put [(3, stCls.busy, 1), (0, F.FLT_STATUS_SAFE, 1)] up, by decide +kernel⟩,
  ⟨2, 0, put [(3, stCtx.busy, 1)] up, by decide +kernel⟩,
  ⟨2, 0, put [(3, stCtx.busy, 1), (0, F.FLT_STATUS_SAFE, 1)] up, by decide +kernel⟩,
  ⟨2, true, put [(3, stSa.busy, 1)] up, by decide +kernel⟩,
  ⟨2, true, put [(3, stSa.busy, 1), (0, F.FLT_STATUS_SAFE, 1)] up, by decide +kernel⟩,
  ⟨2, 0, put [(3, stNts.busy, 1)] up, by decide +kernel⟩,
  ⟨2, 0, put [(3, stNts.busy, 1), (0, F.FLT_STATUS_SAFE, 1)] up, by decide +kernel⟩,
  ⟨2, true, put [(3, stQ.busy, 1)] up, by decide +kernel⟩,
  ⟨2, true, put [(3, stQ.busy, 1), (0, F.FLT_STATUS_SAFE, 1)] up, by decide +kernel⟩,
  ⟨2, put [(3, stPol.busy, 1)] up, by decide +kernel⟩,
  ⟨2, put [(3, stPol.busy, 1), (0, F.FLT_STATUS_SAFE, 1)] up, by decide +kernel⟩,
  ⟨2, true, put [(3, stKs.busy, 1)] up, by decide +kernel⟩,
  ⟨2, true, put [(3, stKs.busy, 1), (0, F.FLT_STATUS_SAFE, 1)] up, by decide +kernel⟩,
  ⟨2, true, put [(3, stAtom.busy, 1)] up, by decide +kernel⟩,
  ⟨2, true, put [(3, stAtom.busy, 1), (0, F.FLT_STATUS_SAFE, 1)] up, by decide +kernel⟩,
  ⟨2, put [(3, stCt.busy, 1)] up, by decide +kernel⟩,
  ⟨2, put [(3, stCt.busy, 1), (0, F.FLT_STATUS_SAFE, 1)] up, by decide +kernel⟩,
  ⟨2, put [(3, stHif.busy, 1)] up, by decide +kernel⟩,
  ⟨2, put [(3, stHif.busy, 1), (0, F.FLT_STATUS_SAFE, 1)] up, by decide +kernel⟩,
  ⟨2, 1, true, put [(3, stStw.busy, 1)] up, by decide +kernel⟩,
  ⟨2, 1, true, put [(3, stStw.busy, 1), (0, F.FLT_STATUS_SAFE, 1)] up, by decide +kernel⟩,
  ⟨2, true, put [(3, stRst.busy, 1)] up, by decide +kernel⟩,
  ⟨2, true, put [(3, stRst.busy, 1), (0, F.FLT_STATUS_SAFE, 1)] up, by decide +kernel⟩,
  ⟨2, put [(3, stPwr.busy, 1)] up, by decide +kernel⟩,
  ⟨2, put [(3, stPwr.busy, 1), (0, F.FLT_STATUS_SAFE, 1)] up, by decide +kernel⟩,
  ⟨2, [], put [(3, stFlt.busy, 1)] up, by decide +kernel⟩,
  ⟨2, [], put [(3, stFlt.busy, 1), (0, F.FLT_STATUS_SAFE, 1)] up, by decide +kernel⟩,
  ⟨2, true, put [(3, stPmc.busy, 1)] up, by decide +kernel⟩,
  ⟨2, true, put [(3, stPmc.busy, 1), (0, F.FLT_STATUS_SAFE, 1)] up, by decide +kernel⟩⟩

theorem test_hyps_WindowsAnswerWithoutRunning :
    (∃ (fn : Fn) (offset : Bool) (frcTime : Bool) (kind : Fin 4) (slot : Fin 8) (s : State), s.rd (fn.val + 1) stVc.busy ≠ 1 ∧ (s.safe = true ∨ s.rsHolds .tb fn.val = true)) ∧
    (∃ (fn : Fn) (offset : Bool) (frcTime : Bool) (kind : Fin 4) (slot : Fin 8) (s : State), s.rd (fn.val + 1) stVc.busy ≠ 1 ∧ s.safe = false ∧ s.rsHolds .tb fn.val = false ∧ s.doorOpen .tb = false) ∧
    (∃ (fn : Fn) (ack : Bool) (s : State), s.rd (fn.val + 1) stSrv.busy ≠ 1 ∧ (s.safe = true ∨ s.rsHolds .srv fn.val = true)) ∧
    (∃ (fn : Fn) (ack : Bool) (s : State), s.rd (fn.val + 1) stSrv.busy ≠ 1 ∧ s.safe = false ∧ s.rsHolds .srv fn.val = false ∧ s.doorOpen .srv = false) ∧
    (∃ (fn : Fn) (s : State), s.rd (fn.val + 1) stAcq.busy ≠ 1 ∧ (s.safe = true ∨ s.rsHolds .gn fn.val = true)) ∧
    (∃ (fn : Fn) (s : State), s.rd (fn.val + 1) stAcq.busy ≠ 1 ∧ s.safe = false ∧ s.rsHolds .gn fn.val = false ∧ s.doorOpen .gn = false) ∧
    (∃ (fn : Fn) (s : State), s.rd (fn.val + 1) stGnCh.busy ≠ 1 ∧ (s.safe = true ∨ s.rsHolds .gn fn.val = true)) ∧
    (∃ (fn : Fn) (s : State), s.rd (fn.val + 1) stGnCh.busy ≠ 1 ∧ s.safe = false ∧ s.rsHolds .gn fn.val = false ∧ s.doorOpen .gn = false) ∧
    (∃ (fn : Fn) (s : State), s.rd (fn.val + 1) stCls.busy ≠ 1 ∧ (s.safe = true ∨ s.rsHolds .sve fn.val = true)) ∧
    (∃ (fn : Fn) (s : State), s.rd (fn.val + 1) stCls.busy ≠ 1 ∧ s.safe = false ∧ s.rsHolds .sve fn.val = false ∧ s.doorOpen .sve = false) ∧
    (∃ (fn : Fn) (types : Fin 8) (s : State), s.rd (fn.val + 1) stCtx.busy ≠ 1 ∧ (s.safe = true ∨ s.rsHolds .sve fn.val = true)) ∧
    (∃ (fn : Fn) (types : Fin 8) (s : State), s.rd (fn.val + 1) stCtx.busy ≠ 1 ∧ s.safe = false ∧ s.rsHolds .sve fn.val = false ∧ s.doorOpen .sve = false) ∧
    (∃ (fn : Fn) (frcTime : Bool) (s : State), s.rd (fn.val + 1) stSa.busy ≠ 1 ∧ (s.safe = true ∨ s.rsHolds .sec fn.val = true)) ∧
    (∃ (fn : Fn) (frcTime : Bool) (s : State), s.rd (fn.val + 1) stSa.busy ≠ 1 ∧ s.safe = false ∧ s.rsHolds .sec fn.val = false ∧ s.doorOpen .sec = false) ∧
    (∃ (fn : Fn) (count : Fin 16) (s : State), s.rd (fn.val + 1) stNts.busy ≠ 1 ∧ (s.safe = true ∨ s.rsHolds .sec fn.val = true)) ∧
    (∃ (fn : Fn) (count : Fin 16) (s : State), s.rd (fn.val + 1) stNts.busy ≠ 1 ∧ s.safe = false ∧ s.rsHolds .sec fn.val = false ∧ s.doorOpen .sec = false) ∧
    (∃ (fn : Fn) (clearMax : Bool) (s : State), s.rd (fn.val + 1) stQ.busy ≠ 1 ∧ (s.safe = true ∨ s.rsHolds .sch fn.val = true)) ∧
    (∃ (fn : Fn) (clearMax : Bool) (s : State), s.rd (fn.val + 1) stQ.busy ≠ 1 ∧ s.safe = false ∧ s.rsHolds .sch fn.val = false ∧ s.doorOpen .sch = false) ∧
    (∃ (fn : Fn) (s : State), s.rd (fn.val + 1) stPol.busy ≠ 1 ∧ (s.safe = true ∨ s.rsHolds .pol fn.val = true)) ∧
    (∃ (fn : Fn) (s : State), s.rd (fn.val + 1) stPol.busy ≠ 1 ∧ s.safe = false ∧ s.rsHolds .pol fn.val = false ∧ s.doorOpen .pol = false) ∧
    (∃ (fn : Fn) (stored : Bool) (s : State), s.rd (fn.val + 1) stKs.busy ≠ 1 ∧ (s.safe = true ∨ s.rsHolds .ks fn.val = true)) ∧
    (∃ (fn : Fn) (stored : Bool) (s : State), s.rd (fn.val + 1) stKs.busy ≠ 1 ∧ s.safe = false ∧ s.rsHolds .ks fn.val = false ∧ s.doorOpen .ks = false) ∧
    (∃ (fn : Fn) (wide : Bool) (s : State), s.rd (fn.val + 1) stAtom.busy ≠ 1 ∧ (s.safe = true ∨ s.rsHolds .shm fn.val = true)) ∧
    (∃ (fn : Fn) (wide : Bool) (s : State), s.rd (fn.val + 1) stAtom.busy ≠ 1 ∧ s.safe = false ∧ s.rsHolds .shm fn.val = false ∧ s.doorOpen .shm = false) ∧
    (∃ (fn : Fn) (s : State), s.rd (fn.val + 1) stCt.busy ≠ 1 ∧ (s.safe = true ∨ s.rsHolds .shm fn.val = true)) ∧
    (∃ (fn : Fn) (s : State), s.rd (fn.val + 1) stCt.busy ≠ 1 ∧ s.safe = false ∧ s.rsHolds .shm fn.val = false ∧ s.doorOpen .shm = false) ∧
    (∃ (fn : Fn) (s : State), s.rd (fn.val + 1) stHif.busy ≠ 1 ∧ (s.safe = true ∨ s.rsHolds .hif fn.val = true)) ∧
    (∃ (fn : Fn) (s : State), s.rd (fn.val + 1) stHif.busy ≠ 1 ∧ s.safe = false ∧ s.rsHolds .hif fn.val = false ∧ s.doorOpen .hif = false) ∧
    (∃ (fn : Fn) (src : Fin 4) (readOk : Bool) (s : State), s.rd (fn.val + 1) stStw.busy ≠ 1 ∧ (s.safe = true ∨ s.rsHolds .stw fn.val = true)) ∧
    (∃ (fn : Fn) (src : Fin 4) (readOk : Bool) (s : State), s.rd (fn.val + 1) stStw.busy ≠ 1 ∧ s.safe = false ∧ s.rsHolds .stw fn.val = false ∧ s.doorOpen .stw = false) ∧
    (∃ (fn : Fn) (verified : Bool) (s : State), s.rd (fn.val + 1) stRst.busy ≠ 1 ∧ (s.safe = true ∨ s.rsHolds .rst fn.val = true)) ∧
    (∃ (fn : Fn) (verified : Bool) (s : State), s.rd (fn.val + 1) stRst.busy ≠ 1 ∧ s.safe = false ∧ s.rsHolds .rst fn.val = false ∧ s.doorOpen .rst = false) ∧
    (∃ (fn : Fn) (s : State), s.rd (fn.val + 1) stPwr.busy ≠ 1 ∧ (s.safe = true ∨ s.rsHolds .pwr fn.val = true)) ∧
    (∃ (fn : Fn) (s : State), s.rd (fn.val + 1) stPwr.busy ≠ 1 ∧ s.safe = false ∧ s.rsHolds .pwr fn.val = false ∧ s.doorOpen .pwr = false) ∧
    (∃ (fn : Fn) (real : List FltHit) (s : State), s.rd (fn.val + 1) stFlt.busy ≠ 1 ∧ (s.safe = true ∨ s.rsHolds .flt fn.val = true)) ∧
    (∃ (fn : Fn) (real : List FltHit) (s : State), s.rd (fn.val + 1) stFlt.busy ≠ 1 ∧ s.safe = false ∧ s.rsHolds .flt fn.val = false ∧ s.doorOpen .flt = false) ∧
    (∃ (fn : Fn) (frcTime : Bool) (s : State), s.rd (fn.val + 1) stPmc.busy ≠ 1 ∧ (s.safe = true ∨ s.rsHolds .pmc fn.val = true)) ∧
    (∃ (fn : Fn) (frcTime : Bool) (s : State), s.rd (fn.val + 1) stPmc.busy ≠ 1 ∧ s.safe = false ∧ s.rsHolds .pmc fn.val = false ∧ s.doorOpen .pmc = false) :=
  ⟨⟨2, true, true, 1, 0, put [(0, F.FLT_STATUS_SAFE, 1)] up, by decide +kernel⟩,
  ⟨2, true, true, 1, 0, State.reset, by decide +kernel⟩,
  ⟨2, true, put [(0, F.FLT_STATUS_SAFE, 1)] up, by decide +kernel⟩,
  ⟨2, true, State.reset, by decide +kernel⟩,
  ⟨2, put [(0, F.FLT_STATUS_SAFE, 1)] up, by decide +kernel⟩,
  ⟨2, State.reset, by decide +kernel⟩,
  ⟨2, put [(0, F.FLT_STATUS_SAFE, 1)] up, by decide +kernel⟩,
  ⟨2, State.reset, by decide +kernel⟩,
  ⟨2, put [(0, F.FLT_STATUS_SAFE, 1)] up, by decide +kernel⟩,
  ⟨2, State.reset, by decide +kernel⟩,
  ⟨2, 0, put [(0, F.FLT_STATUS_SAFE, 1)] up, by decide +kernel⟩,
  ⟨2, 0, State.reset, by decide +kernel⟩,
  ⟨2, true, put [(0, F.FLT_STATUS_SAFE, 1)] up, by decide +kernel⟩,
  ⟨2, true, State.reset, by decide +kernel⟩,
  ⟨2, 0, put [(0, F.FLT_STATUS_SAFE, 1)] up, by decide +kernel⟩,
  ⟨2, 0, State.reset, by decide +kernel⟩,
  ⟨2, true, put [(0, F.FLT_STATUS_SAFE, 1)] up, by decide +kernel⟩,
  ⟨2, true, State.reset, by decide +kernel⟩,
  ⟨2, put [(0, F.FLT_STATUS_SAFE, 1)] up, by decide +kernel⟩,
  ⟨2, State.reset, by decide +kernel⟩,
  ⟨2, true, put [(0, F.FLT_STATUS_SAFE, 1)] up, by decide +kernel⟩,
  ⟨2, true, State.reset, by decide +kernel⟩,
  ⟨2, true, put [(0, F.FLT_STATUS_SAFE, 1)] up, by decide +kernel⟩,
  ⟨2, true, State.reset, by decide +kernel⟩,
  ⟨2, put [(0, F.FLT_STATUS_SAFE, 1)] up, by decide +kernel⟩,
  ⟨2, State.reset, by decide +kernel⟩,
  ⟨2, put [(0, F.FLT_STATUS_SAFE, 1)] up, by decide +kernel⟩,
  ⟨2, State.reset, by decide +kernel⟩,
  ⟨2, 1, true, put [(0, F.FLT_STATUS_SAFE, 1)] up, by decide +kernel⟩,
  ⟨2, 1, true, State.reset, by decide +kernel⟩,
  ⟨2, true, put [(0, F.FLT_STATUS_SAFE, 1)] up, by decide +kernel⟩,
  ⟨2, true, State.reset, by decide +kernel⟩,
  ⟨2, put [(0, F.FLT_STATUS_SAFE, 1)] up, by decide +kernel⟩,
  ⟨2, State.reset, by decide +kernel⟩,
  ⟨2, [], put [(0, F.FLT_STATUS_SAFE, 1)] up, by decide +kernel⟩,
  ⟨2, [], State.reset, by decide +kernel⟩,
  ⟨2, true, put [(0, F.FLT_STATUS_SAFE, 1)] up, by decide +kernel⟩,
  ⟨2, true, State.reset, by decide +kernel⟩⟩

theorem test_hyps_SharedMemoryReadsBack :
    (∃ (a : Nat) (d : Octets) (s : State), Memory.wf s.shm = true) :=
  ⟨31, [1, 2], up, by decide +kernel⟩

theorem test_hyps_EventRingNeverStalls :
    (∃ (e : EvRef) (fn : Nat) (obj : Nat) (s : State), evEnabled s (fn + 1) e = true ∧ s.rd (fn + 1) F.HIF_ER_CFG_EN = 1 ∧ wsub 32 (s.rd (fn + 1) F.HIF_ER_WR) (s.rd (fn + 1) F.HIF_ER_RD) = 2 ^ s.rd (fn + 1) F.HIF_ER_CFG_LOG2_SIZE) ∧
    (∃ (e : EvRef) (fn : Nat) (obj : Nat) (s : State), evEnabled s (fn + 1) e = true ∧ s.rd (fn + 1) F.HIF_ER_CFG_EN = 1 ∧ wsub 32 (s.rd (fn + 1) F.HIF_ER_WR) (s.rd (fn + 1) F.HIF_ER_RD) < 2 ^ s.rd (fn + 1) F.HIF_ER_CFG_LOG2_SIZE ∧ addrIsShm (s.rd64 (fn + 1) F.HIF_ER_BASE_LO F.HIF_ER_BASE_HI + 32 * ((s.rd (fn + 1) F.HIF_ER_WR) % (2 ^ s.rd (fn + 1) F.HIF_ER_CFG_LOG2_SIZE))) = true) :=
  ⟨⟨Ev.KS_EXPIRED, 1, 5, put [(2, evEn Ev.KS_EXPIRED.reg, 0xFFFFFFFF), (2, F.HIF_ER_CFG_EN, 1), (2, F.HIF_ER_CFG_LOG2_SIZE, 4), (2, F.HIF_ER_WR, 7), (2, F.HIF_ER_RD, 0xFFFFFFF7)] up, by decide +kernel⟩,
  ⟨Ev.KS_EXPIRED, 1, 5, put [(2, evEn Ev.KS_EXPIRED.reg, 0xFFFFFFFF), (2, F.HIF_ER_CFG_EN, 1), (2, F.HIF_ER_CFG_LOG2_SIZE, 4), (2, F.HIF_ER_BASE_HI, 0x80000000)] up, by decide +kernel⟩⟩

theorem test_hyps_MaskedSourcesOnlyCount :
    (∃ (src : Fin 1536) (obj : BitVec 16) (det : BitVec 64) (s : State), (srcDesc src.val).isSome = true ∧ src.val ≠ 1344 ∧ s.srcCfg src.val % 2 = 0) ∧
    (∃ (src : Fin 1536) (obj : BitVec 16) (det : BitVec 64) (s : State), (srcDesc src.val).isSome = true ∧ src.val ≠ 1344 ∧ s.srcCfg src.val % 2 = 1 ∧ bits (s.srcCfg src.val) 3 7 = 0 ∧ s.flt.fifo.length < 64) :=
  ⟨⟨1217, 0, 0, { up with flt := { up.flt with cfg := [(1217, 0)] } }, by decide +kernel⟩,
  ⟨1217, 0, 0, { up with flt := { up.flt with cfg := [(1217, 1)] } }, by decide +kernel⟩⟩

theorem test_hyps_DelayJumpRestartsTheFilter :
    (∃ (p : Nat) (a : UbwStamp) (t1 : Int) (d : Int) (s : State), 2 ≤ s.sh F.UBW_FILTER ∧ s.sh F.UBW_FILTER ≤ (s.ubwPort p).delays.length ∧ s.sh F.UBW_CTRL_DELAY_JUMP_PS * 65536 < (d - roundDiv ((s.ubwPort p).delays.take (s.sh F.UBW_FILTER)).sum (s.sh F.UBW_FILTER)).natAbs * 1000) ∧
    (∃ (p : Nat) (a : UbwStamp) (t1 : Int) (d : Int) (s : State), (s.ubwPort p).delays.length + 1 < s.sh F.UBW_FILTER) ∧
    (∃ (p : Nat) (a : UbwStamp) (t1 : Int) (d : Int) (s : State), 1 ≤ s.sh F.UBW_FILTER ∧ s.sh F.UBW_FILTER ≤ (s.ubwPort p).delays.length + 1 ∧ ((s.ubwPort p).delays.length < s.sh F.UBW_FILTER ∨ (d - roundDiv ((s.ubwPort p).delays.take (s.sh F.UBW_FILTER)).sum (s.sh F.UBW_FILTER)).natAbs * 1000 ≤ s.sh F.UBW_CTRL_DELAY_JUMP_PS * 65536)) :=
  ⟨⟨0, ⟨0, 0, 0⟩, 0, 2 ^ 60, (put [(0, F.UBW_FILTER, 2)] up).setUbwPort 0 { up.ubwPort 0 with delays := [1, 2] }, by decide +kernel⟩,
  ⟨0, ⟨0, 0, 0⟩, 0, 2 ^ 60, (put [(0, F.UBW_FILTER, 3)] up).setUbwPort 0 { up.ubwPort 0 with delays := [1] }, by decide +kernel⟩,
  ⟨0, ⟨0, 0, 0⟩, 0, 5, (put [(0, F.UBW_FILTER, 2)] up).setUbwPort 0 { up.ubwPort 0 with delays := [1] }, by decide +kernel⟩⟩

end Sys2Proof.Machine
end

section
/-! PROOFS. Every step keeps the state well-formed: the laws of what each operation keeps, put together over the commands. -/

namespace Sys2Proof.Machine

/-- The next state, where an outcome has one, is well-formed. -/
def OutcomeWf (o : Host.Outcome State Fault Refusal) : Prop := ∀ t, o = .next t → t.wf = true

theorem outcomeWf_next {t : State} (h : t.wf = true) : OutcomeWf (.next t) := by
  rintro _ ⟨⟩
  exact h

theorem tickFrc_keeps : Keeps State.tickFrc := by
  intro s h
  unfold State.tickFrc
  split
  · exact wf_of_eq h rfl rfl rfl rfl rfl
  · exact h

/-- Each command's meaning is one operation of the model, and that operation's law says what it keeps. -/
theorem outcomeWf_exec (c : Instr) {s : State} (h : s.wf = true) : OutcomeWf (exec c s) := by
  cases c with
  -- Registers and commit groups
  | registerWrite => exact outcomeWf_next (registerWrite_keeps _ _ _ _ h)
  | cg0Arm => exact outcomeWf_next (writeCg0Ctrl_keeps _ _ _ _ _ h)
  | cg0Abort => exact outcomeWf_next (writeCg0Ctrl_keeps _ _ _ _ _ h)
  | synCgArm => exact outcomeWf_next (writeCgCtrl_keeps _ _ _ _ h)
  | synCgAbort => exact outcomeWf_next (writeCgCtrl_keeps _ _ _ _ h)
  | cg14Arm => exact outcomeWf_next (writePortCg_keeps _ _ _ _ _ _ h)
  | cg14Abort => exact outcomeWf_next (writePortCg_keeps _ _ _ _ _ _ h)
  | cg15Arm => exact outcomeWf_next (writePortCg_keeps _ _ _ _ _ _ h)
  | cg15Abort => exact outcomeWf_next (writePortCg_keeps _ _ _ _ _ _ h)
  | groupCommit => exact outcomeWf_next (groupCommit_keeps _ _ _ h)
  -- Doors
  | blockResetOrder => exact outcomeWf_next (resetOrder_keeps _ _ h)
  | doorAbsent => exact outcomeWf_next (doorAbsent_keeps _ _ h)
  | blockReady =>
    refine outcomeWf_next ?_
    split
    · exact blockReady_keeps _ _ h
    · exact h
  | doorReply =>
    refine outcomeWf_next ?_
    split
    · exact doorReply_keeps _ _ _ h
    · exact h
  -- Timebase and virtual clocks
  | tbFrcLoRead => exact outcomeWf_next (readFrcLo_keeps _ _ h)
  | tbCapture => exact outcomeWf_next (opCapture_keeps _ _ _ h)
  | vcSelWrite => exact outcomeWf_next (writeVcSel_keeps _ _ _ h)
  | vcBase0Read => exact outcomeWf_next (readVcBase0_keeps _ _ h)
  | vcSet => exact outcomeWf_next (opVcSet_keeps _ _ _ _ h)
  | vcAbort => exact outcomeWf_next (opVcAbort_keeps _ _ h)
  | vcRate => exact outcomeWf_next (opVcRate_keeps _ _ _ h)
  | vcAdjust => exact outcomeWf_next (opVcAdjust_keeps _ _ _ h)
  | vcSchedAdd => exact outcomeWf_next (opSchedAdd_keeps _ _ _ h)
  | vcSchedCancel => exact outcomeWf_next (opSchedCancel_keeps _ _ _ h)
  | vcSchedClear => exact outcomeWf_next (opSchedClear_keeps _ _ h)
  | vcRetire => exact outcomeWf_next (opVcRetire_keeps _ _ _ h)
  | vcResetClock => exact outcomeWf_next (opVcResetClock_keeps _ _ h)
  | vcSetTick => exact outcomeWf_next (vcSetTick_keeps _ _ h)
  | vcRateTick => exact outcomeWf_next (vcRateTick_keeps _ _ h)
  | vcAdjustTick => exact outcomeWf_next (vcAdjustTick_keeps _ _ h)
  | slewDone => exact outcomeWf_next (slewDone_keeps _ _ _ h)
  | vcRetireTick => exact outcomeWf_next (vcRetireTick_keeps _ _ h)
  | vcParentChange => exact outcomeWf_next (vcParentChange_keeps _ _ h)
  | segmentActivation => exact outcomeWf_next (segmentActivation_keeps _ _ _ _ h)
  | rampDone => exact outcomeWf_next (rampDone_keeps _ _ _ h)
  | leapSecondEnd => exact outcomeWf_next (leapSecondEnd_keeps _ _ h)
  | ptmRequest => exact outcomeWf_next (ptmRequest_keeps _ _ h)
  -- Error bound ledger
  | bndTokStart => exact outcomeWf_next (opTokStart_keeps _ _ h)
  | tokenDone => exact outcomeWf_next (tokenDone_keeps _ _ h)
  | pathStale => exact outcomeWf_next (pathBecomesStale_keeps _ _ h)
  | ageExpired => exact outcomeWf_next (agePasses_keeps _ h)
  -- References
  | refCfgWrite => exact outcomeWf_next (writeRefCfg_keeps _ _ _ _ h)
  | refEdgeStamp => exact outcomeWf_next (refEdgeStamp_keeps _ _ _ _ _ h)
  | refStampMissing => exact outcomeWf_next (stampMissing_keeps _ _ h)
  | refLinkLoss => exact outcomeWf_next (linkLost_keeps _ _ h)
  | monitorTick => exact outcomeWf_next (monitorAll_keeps _ _ h)
  | holdoffExpiry => exact outcomeWf_next (holdoffExpiry_keeps _ _ h)
  | esmcPdu =>
    refine outcomeWf_next ?_
    split
    · exact esmcPdu_keeps _ _ _ h
    · exact h
  | esmcTimeout => exact outcomeWf_next (esmcTimeout_keeps _ _ h)
  | todinFrame => exact outcomeWf_next (todinFrame_keeps _ _ _ _ h)
  -- Servo
  | servoUpdate => exact outcomeWf_next (servoUpdate_keeps _ h)
  | servoStall => exact outcomeWf_next (servoStall_keeps _ h)
  | phaseStep => exact outcomeWf_next (opPhaseStep_keeps _ _ h)
  | acceptOffset => exact outcomeWf_next (opAcceptOffset_keeps _ _ h)
  | nougatReset => exact outcomeWf_next (opNougatReset_keeps _ _ h)
  | atomTuneNow => exact outcomeWf_next (opAtomTuneNow_keeps _ _ _ h)
  | rateOwnerWrite => exact outcomeWf_next (writeSrvCtrl_keeps _ _ _ h)
  | hoSrcWrite => exact outcomeWf_next (writeHoCfg_keeps _ _ _ h)
  | atomAlm => exact outcomeWf_next (atomAlm_keeps _ _ h)
  | nougatSample => exact outcomeWf_next (nougatSample_keeps _ _ h)
  | atomTune => exact outcomeWf_next (atomTune_keeps _ _ h)
  -- Synthesis and outputs
  | retuneLocked =>
    refine outcomeWf_next ?_
    split
    · exact h
    · exact retuneLocked_keeps _ _ _ h
  | retuneTimeout => exact outcomeWf_next (retuneTimeout_keeps _ _ h)
  | synthLockLoss => exact outcomeWf_next (synthLockLoss_keeps _ _ h)
  | lostRetry => exact outcomeWf_next (lostRetry_keeps _ _ h)
  | synMemoSelWrite => exact outcomeWf_next (writeMemoSel_keeps _ _ _ h)
  | memoPin => exact outcomeWf_next (memoCmd_keeps _ _ _ h)
  | memoUnpin => exact outcomeWf_next (memoCmd_keeps _ _ _ h)
  | memoInvalidate => exact outcomeWf_next (memoCmd_keeps _ _ _ h)
  | outputChangeApply => exact outcomeWf_next (outputChangeApply_keeps _ _ h)
  | dividerRestart => exact outcomeWf_next (dividerRestart_keeps _ _ _ h)
  | delayReached => exact outcomeWf_next (delayReached_keeps _ _ h)
  | pulseEmit => exact outcomeWf_next (pulseEmit_keeps _ _ _ h)
  | todFrameSend => exact outcomeWf_next (todSend_keeps _ _ _ _ h)
  -- Time intervals
  | tdcEdge => exact outcomeWf_next (tdcEdge_keeps _ _ _ _ _ _ h)
  | calPair => exact outcomeWf_next (calPair_keeps _ _ _ _ _ h)
  | tdcRecordWrite => exact outcomeWf_next (tdcRecordWrite_keeps _ _ h)
  | tdcChEn => exact outcomeWf_next (writeChCfg_keeps _ _ _ _ h)
  | tdcDrained => exact outcomeWf_next (tdcDrained_keeps _ _ h)
  | tdcGateArm => exact outcomeWf_next (writeTdcGate_keeps _ _ _ _ h)
  | tdcGateDisarm => exact outcomeWf_next (writeTdcGate_keeps _ _ _ _ h)
  | tdcGateEdge => exact outcomeWf_next (tdcGateEdge_keeps _ _ _ _ _ _ h)
  | tdcGateFrcWindow => exact outcomeWf_next (tdcGateWindow_keeps _ _ h)
  | calCmd => exact outcomeWf_next (writeCalCmd_keeps _ _ _ h)
  | calPeriodicDue => exact outcomeWf_next (calPeriodicDue_keeps _ _ h)
  | calibrationComplete => exact outcomeWf_next (calComplete_keeps _ _ _ h)
  -- GNSS
  | gnPortEn => exact outcomeWf_next (writeGnPortCfg_keeps _ _ _ _ h)
  | gnPortStamp => exact outcomeWf_next (portStamp_keeps _ _ _ _ h)
  | gnPortLost => exact outcomeWf_next (portLost_keeps _ _ h)
  | gnAcqSubmit => exact outcomeWf_next (opGnAcq_keeps _ _ _ h)
  | gnAcqAbortAll => exact outcomeWf_next (opGnAcq_keeps _ _ _ h)
  | acqPrnDone => exact outcomeWf_next (acqPrnDone_keeps _ _ _ _ _ _ _ h)
  | acqJobDone => exact outcomeWf_next (acqJobDone_keeps _ h)
  | ssStart => exact outcomeWf_next (writeSsCmd_keeps _ _ _ _ _ _ _ h)
  | ssAbort => exact outcomeWf_next (writeSsCmd_keeps _ _ _ _ _ _ _ h)
  | ssDone => exact outcomeWf_next (ssDone_keeps _ _ _ _ h)
  | gnChStart => exact outcomeWf_next (opGnCh_keeps _ _ _ h)
  | gnChStop => exact outcomeWf_next (opGnCh_keeps _ _ _ h)
  | gnChSetTow => exact outcomeWf_next (opGnCh_keeps _ _ _ h)
  | chStartEpoch => exact outcomeWf_next (chStartEpoch_keeps _ _ h)
  | integrationBoundary => exact outcomeWf_next (intBoundary_keeps _ _ _ h)
  | loopUpdate => exact outcomeWf_next (writeUpdCtrl_keeps _ _ _ _ h)
  | coastExpiry => exact outcomeWf_next (coastExpiry_keeps _ _ h)
  | measLatch => exact outcomeWf_next (measLatch_keeps _ _ h)
  | timeSolution => exact outcomeWf_next (timeSolution_keeps _ _ _ _ _ h)
  | surveyDone => exact outcomeWf_next (surveyDone_keeps _ _ _ _ h)
  | spPassDue => exact outcomeWf_next (spPassDue_keeps _ h)
  | spPassComplete => exact outcomeWf_next (spPassComplete_keeps _ _ _ h)
  | navFrame => exact outcomeWf_next (navFrame_keeps _ _ _ _ _ _ _ _ h)
  | ppsModelCommit => exact outcomeWf_next (writePpsCommit_keeps _ _ h)
  | ppsModelApply => exact outcomeWf_next (ppsModelApply_keeps _ h)
  | gnssPpsEn => exact outcomeWf_next (writePpsCfg_keeps _ _ _ h)
  | gnssPpsPulse => exact outcomeWf_next (gnssPpsPulse_keeps _ h)
  | auditEnWrite => exact outcomeWf_next (writeAudCfg_keeps _ _ _ h)
  | auditSleep => exact outcomeWf_next (auditSleep_keeps _ h)
  | auditWake => exact outcomeWf_next (auditWake_keeps _ h)
  | feWarmDone => exact outcomeWf_next (feWarmDone_keeps _ h)
  | snapArm => exact outcomeWf_next (writeSnapCtrl_keeps _ _ _ _ h)
  | snapTrigger => exact outcomeWf_next (snapTrigger_keeps _ h)
  | snapCaptureDone => exact outcomeWf_next (snapCaptureDone_keeps _ _ _ _ _ h)
  | snapRelease => exact outcomeWf_next (writeSnapCtrl_keeps _ _ _ _ h)
  -- Serving ports and engines
  | prtPortEn => exact outcomeWf_next (writePortCfg_keeps _ _ _ _ h)
  | laneLockLoss => exact outcomeWf_next (laneLockLoss_keeps _ _ h)
  | portLinkUp => exact outcomeWf_next (portLinkHeld_keeps _ _ h)
  | portLinkDown => exact outcomeWf_next (portLinkFails_keeps _ _ _ h)
  | remoteFault => exact outcomeWf_next (remoteFault_keeps _ _ _ h)
  | prtFrameRx => exact outcomeWf_next (frameRx_keeps _ _ _ _ _ _ _ _ h)
  | prtFrameTx => exact outcomeWf_next (frameTx_keeps _ _ _ _ h)
  | tsrEn => exact outcomeWf_next (writeTsr_keeps _ _ _ _ _ _ _ h)
  | delayReq => exact outcomeWf_next (pipeStep_keeps _ _ _ (serveDelayReq_keeps _) _ h)
  | signalingRequest => exact outcomeWf_next (signalingRequest_keeps _ h)
  | ntpRequest => exact outcomeWf_next (pipeStep_keeps _ _ _ (fun m _ => serveNtp_keeps m) _ h)
  | ntsRequest => exact outcomeWf_next (ntsRequest_keeps _ _ _ _ _ h)
  | launchMiss => exact outcomeWf_next (launchMissed_keeps _ _ h)
  | cadenceDue => exact outcomeWf_next (cadenceDue_keeps _ _ _ h)
  | followUp => exact outcomeWf_next (pipeStep_keeps _ _ _ (fun m _ => serveFollowUp_keeps _ m) _ h)
  | ptpClientMessage => exact outcomeWf_next (ptpClientMessage_keeps _ _ h)
  | cliAnnTimeout => exact outcomeWf_next (cliAnnTimeout_keeps _ h)
  | cliSyncTimeout => exact outcomeWf_next (cliSyncTimeout_keeps _ h)
  | clsWrite => exact outcomeWf_next (opClsWrite_keeps _ _ _ _ h)
  | clsWriteComplete => exact outcomeWf_next (clsWriteComplete_keeps _ _ h)
  | clsRead => exact outcomeWf_next (opClsRead_keeps _ _ h)
  | clsInvalidate => exact outcomeWf_next (opClsInvalidate_keeps _ _ _ _ h)
  | ctxRead => exact outcomeWf_next (opCtxRead_keeps _ _ h)
  | ctxInstall => exact outcomeWf_next (opCtxInstall_keeps _ _ h)
  | ctxRelease => exact outcomeWf_next (opCtxRelease_keeps _ _ h)
  | ctxCancelGrant => exact outcomeWf_next (opCtxCancelGrant_keeps _ _ _ h)
  | grantSweep => exact outcomeWf_next (grantSweep_keeps _ h)
  -- Serving security
  | saWrite => exact outcomeWf_next (opSaWrite_keeps _ _ h)
  | saRead => exact outcomeWf_next (opSaRead_keeps _ _ h)
  | saLoadKey => exact outcomeWf_next (opSaLoadKey_keeps _ _ h)
  | saUnloadKey => exact outcomeWf_next (opSaUnloadKey_keeps _ _ h)
  | saRotate => exact outcomeWf_next (opSaRotate_keeps _ _ _ h)
  | rotateTick => exact outcomeWf_next (rotateTick_keeps _ _ h)
  | saInvalidate => exact outcomeWf_next (opSaInvalidate_keeps _ _ h)
  | ntsLoad => exact outcomeWf_next (opNtsLoad_keeps _ _ h)
  | ntsMakeCurrent => exact outcomeWf_next (opNtsMakeCurrent_keeps _ _ h)
  | ntsUnload => exact outcomeWf_next (opNtsUnload_keeps _ _ h)
  | ntsMint => exact outcomeWf_next (opNtsMint_keeps _ _ _ h)
  | ntsRead => exact outcomeWf_next (opNtsRead_keeps _ _ h)
  -- Scheduling and policing
  | schSelect => exact outcomeWf_next (schSelect_keeps _ _ h)
  | qWrite => exact outcomeWf_next (opQWrite_keeps _ _ h)
  | qRead => exact outcomeWf_next (opQRead_keeps _ _ _ h)
  | qFlush => exact outcomeWf_next (opQFlush_keeps _ _ h)
  | gateListArm => exact outcomeWf_next (writeGateCtrl_keeps _ _ _ _ h)
  | gateListAbort => exact outcomeWf_next (writeGateCtrl_keeps _ _ _ _ h)
  | gateTakeover => exact outcomeWf_next (gateTakeover_keeps _ _ _ h)
  | gateEntryStart => exact outcomeWf_next (gateEntryStart_keeps _ _ _ h)
  | polWrite => exact outcomeWf_next (opPolWrite_keeps _ _ h)
  | polRead => exact outcomeWf_next (opPolRead_keeps _ _ h)
  | polRefill => exact outcomeWf_next (opPolRefill_keeps _ _ h)
  | polClearCounts => exact outcomeWf_next (opPolClearCounts_keeps _ _ h)
  -- Ubwick chain
  | ubwPortEn => exact outcomeWf_next (writeUbwCfg_keeps _ _ _ _ h)
  | ubwBlockLock => exact outcomeWf_next (ubwBlockLock_keeps _ _ _ h)
  | ubwMarkerRx => exact outcomeWf_next (markerRx_keeps _ _ _ _ _ h)
  | markerMissing => exact outcomeWf_next (markerMissing_keeps _ _ _ h)
  | superframeTx => exact outcomeWf_next (superframeTx_keeps _ _ _ h)
  | ubwTimingMsg => exact outcomeWf_next (timingRx_keeps _ _ _ h)
  | exchangeWindowEnd => exact outcomeWf_next (exchangeWindow_keeps _ _ _ h)
  | ubwChainFrame => exact outcomeWf_next (chainRx_keeps _ _ _ _ _ _ h)
  -- Mate pair
  | heartbeatSilent => exact outcomeWf_next (heartbeatSilent_keeps _ h)
  | heartbeatContention => exact outcomeWf_next (heartbeatContention_keeps _ h)
  | mateHoldoffExpiry => exact outcomeWf_next (mateHoldoff_keeps _ h)
  | mateSoloTimeout => exact outcomeWf_next (mateStep_keeps _ _ h)
  | toffeeStale => exact outcomeWf_next (toffeeStale_keeps _ h)
  | obsWindow => exact outcomeWf_next (obsWindows_keeps _ _ _ h)
  -- Key store
  | ksReadAttr => exact outcomeWf_next (opKsReadAttr_keeps _ _ h)
  | ksGenerate => exact outcomeWf_next (opKsGenerate_keeps _ _ _ h)
  | ksDerive => exact outcomeWf_next (opKsDerive_keeps _ _ _ h)
  | ksRestrict => exact outcomeWf_next (opKsRestrict_keeps _ _ _ h)
  | ksWipe => exact outcomeWf_next (opKsWipe_keeps _ _ _ h)
  | ksEnvApply => exact outcomeWf_next (opKsEnvApply_keeps _ _ _ h)
  | ksIdStatement => exact outcomeWf_next (opKsIdStatement_keeps _ _ h)
  | ksEkCert => exact outcomeWf_next (opKsEkCert_keeps _ _ h)
  | ksAuthSet => exact outcomeWf_next (opKsAuthSet_keeps _ _ _ h)
  | ksLockAuth => exact outcomeWf_next (opKsLockAuth_keeps _ _ h)
  | ksProvision => exact outcomeWf_next (opKsProvision_keeps _ _ h)
  | ksDeploy => exact outcomeWf_next (opKsDeploy_keeps _ _ h)
  | ksReturn => exact outcomeWf_next (opKsReturn_keeps _ _ h)
  | tamperTrip => exact outcomeWf_next (tamperTrip_keeps _ _ h)
  | keyDelivery => exact outcomeWf_next (keyDelivery_keeps _ _ _ _ _ h)
  | slotExpiryCheck => exact outcomeWf_next (expiryCheck_keeps _ _ h)
  -- Shared SRAM
  | shmAccess => exact outcomeWf_next (shmCycle_keeps _ _ _ _ _ h)
  | ceWriteback => exact outcomeWf_next (ceWriteback_keeps _ _ _ h)
  | shmAtomAdd => exact outcomeWf_next (opAtom_keeps _ _ _ _ h)
  | shmAtomSwap => exact outcomeWf_next (opAtom_keeps _ _ _ _ h)
  | shmCtWrite => exact outcomeWf_next (opCt_keeps _ _ _ h)
  | shmCtRead => exact outcomeWf_next (opCt_keeps _ _ _ h)
  | contractWindowEnd => exact outcomeWf_next (contractWindow_keeps _ _ _ h)
  | sweepGroupDone => exact outcomeWf_next (sweepGroup_keeps _ _ h)
  | walkRowStart => exact outcomeWf_next (walkStart_keeps _ h)
  | walkRowDone => exact outcomeWf_next (walkDone_keeps _ _ h)
  | walkStarved => exact outcomeWf_next (walkStarved_keeps _ h)
  -- Host interface
  | sqDoorbell => exact outcomeWf_next (writeAtDoor_keeps _ _ _ _ (opDoorbell_keeps _ _ _) _ h)
  | ringFetch => exact outcomeWf_next (ringFetch_keeps _ h)
  | ringCommand => exact outcomeWf_next (ringCommand_keeps _ _ _ h)
  | ringCompletion => exact outcomeWf_next (ringCompletion_keeps _ _ h)
  | hifNop => exact outcomeWf_next (opHifNop_keeps _ _ h)
  | hifCopy => exact outcomeWf_next (opHifCopy_keeps _ _ h)
  | ptWrite => exact outcomeWf_next (opPtWrite_keeps _ _ h)
  | ptRead => exact outcomeWf_next (opPtRead_keeps _ _ h)
  | ptCommit => exact outcomeWf_next (opPtCommit_keeps _ _ h)
  | ptCommitDrained => exact outcomeWf_next (ptDrained_keeps _ h)
  | ptAbort => exact outcomeWf_next (opPtAbort_keeps _ _ h)
  | suHold => exact outcomeWf_next (opSuHold_keeps _ _ h)
  | suRelease => exact outcomeWf_next (opSuRelease_keeps _ _ h)
  | pwrReq => exact outcomeWf_next (opPwrReq_keeps _ _ h)
  | txDescriptor => exact outcomeWf_next (txDescriptor_keeps _ h)
  | txCompletion => exact outcomeWf_next (txCompletion_keeps _ h)
  | rxDelivery => exact outcomeWf_next (rxDelivery_keeps _ h)
  | irqIntervalEnd => exact outcomeWf_next (irqIntervalEnd_keeps _ _ _ h)
  | mmioShmAccess => exact outcomeWf_next (mmioShm_keeps _ _ _ _ h)
  | mmioMalformed => exact outcomeWf_next (mmioMalformed_keeps _ _ _ _ h)
  | mmioReadRefused => exact outcomeWf_next (mmioReadRefused_keeps _ _ _ h)
  | hifLatTolWrite => exact outcomeWf_next (writeAtDoor_keeps _ _ _ _ (opLatTol_keeps _ _) _ h)
  | functionLevelReset => exact outcomeWf_next (functionsReset_keeps _ _ h)
  | pcieLinkDown => exact outcomeWf_next (linkDown_keeps _ h)
  | pcieLinkUp => exact outcomeWf_next (linkUp_keeps _ _ _ _ _ h)
  -- Steward
  | stwLoad => exact outcomeWf_next (opStwLoad_keeps _ _ h)
  | stwRestructure => exact outcomeWf_next (opRestructure_keeps _ _ _ _ h)
  | rsStaged => exact outcomeWf_next (rsStaged_keeps _ h)
  | rsLate => exact outcomeWf_next (rsLate_keeps _ h)
  | rsApply => exact outcomeWf_next (rsApply_keeps _ h)
  | rsDone => exact outcomeWf_next (rsDone_keeps _ h)
  | stwAbort => exact outcomeWf_next (opStwAbort_keeps _ _ h)
  | stwVerify => exact outcomeWf_next (opVerify_keeps _ _ _ _ h)
  | stwSvnCommit => exact outcomeWf_next (opSvnCommit_keeps _ _ h)
  -- Reset and power
  | powerOnReset => exact outcomeWf_next (chipReset_keeps _ _ _ (onlyIf_keeps _ _ batteryLost_keeps _ h))
  | resetNAssert => exact outcomeWf_next (resetNAssert_keeps _ h)
  | resetNRelease => exact outcomeWf_next (resetNRelease_keeps _ _ h)
  | stuckRelease => exact outcomeWf_next (stuckRelease_keeps _ _ h)
  | stuckClearCount => exact outcomeWf_next (State.wr_keeps _ _ _ _ h)
  | perstN => exact outcomeWf_next (perstN_keeps _ h)
  | rstColdReset => exact outcomeWf_next (opColdReset_keeps _ _ h)
  | rstWarmReset => exact outcomeWf_next (opWarmReset_keeps _ _ h)
  | rstOptWrite => exact outcomeWf_next (opOptWrite_keeps _ _ _ h)
  | rstClearStuck => exact outcomeWf_next (opClearStuck_keeps _ _ h)
  | proofingStepDone => exact outcomeWf_next (proofDone_keeps _ _ h)
  | proofingTimeout => exact outcomeWf_next (proofTimeout_keeps _ h)
  | governorDecision => exact outcomeWf_next (governor_keeps _ _ h)
  | engineWake => exact outcomeWf_next (engineWake_keeps _ _ h)
  | pwrEnter => exact outcomeWf_next (opPwrEnter_keeps _ _ h)
  | wakeEvent => exact outcomeWf_next (wakeUp_keeps _ _ h)
  -- Fault collector
  | faultHit =>
    refine outcomeWf_next ?_
    split
    · exact h
    · exact hits_keeps _ _ h
  | tmrCompare => exact outcomeWf_next (tmrCompare_keeps _ _ h)
  | readyTimeout =>
    refine outcomeWf_next ?_
    split
    · exact readyTimeout_keeps _ _ h
    · exact h
  | sclkStop => exact outcomeWf_next (sclkStop_keeps _ h)
  | fltLogWrite => exact outcomeWf_next (fltLogWrite_keeps _ h)
  | fltSrcWrite => exact outcomeWf_next (opSrcWrite_keeps _ _ h)
  | fltSrcRead => exact outcomeWf_next (opSrcRead_keeps _ _ h)
  | fltBlockReset => exact outcomeWf_next (opBlockReset_keeps _ _ h)
  | fltInject => exact outcomeWf_next (opInject_keeps _ _ _ h)
  | fltLock => exact outcomeWf_next (opFltLock_keeps _ _ h)
  -- Counters
  | pmcCntLoRead => exact outcomeWf_next (readCntLo_keeps _ _ h)
  | pmcWinCfgWrite => exact outcomeWf_next (writeWin_keeps _ _ _ _ _ h)
  | pmcWinValLoRead => exact outcomeWf_next (readWinLo_keeps _ _ _ h)
  | pmcWindowEnd => exact outcomeWf_next (windowEnd_keeps _ h)
  | pmcSnapshot => exact outcomeWf_next (opSnapshot_keeps _ _ _ h)
  | pmcSnapshotTick => exact outcomeWf_next (snapshotTick_keeps _ h)
  | pmcSnapshotDone => exact outcomeWf_next (snapshotDone_keeps _ h)
  -- Management port
  | mgpEn => exact outcomeWf_next (writeMgpCfg_keeps _ _ _ h)
  | mgpLinkChange => exact outcomeWf_next (mgpLink_keeps _ _ _ _ h)
  | mdioStart => exact outcomeWf_next (writeMdio_keeps _ _ _ h)
  | mdioDone => exact outcomeWf_next (mdioDone_keeps _ _ h)
  | mgpFrameRx => exact outcomeWf_next (mgpFrameRx_keeps _ _ _ _ h)
  | mgpFrameTx => exact outcomeWf_next (mgpFrameTx_keeps _ _ _ _ _ h)
  | mgpWakeMatch => exact outcomeWf_next (mgpWakeMatch_keeps _ _ h)
  -- Heartbeat and safety clock seen again
  | heartbeatSeen => exact outcomeWf_next (mateStep_keeps _ _ (noteHeartbeat_keeps _ h))
  | sclkReturn => exact outcomeWf_next (State.wr_keeps _ _ _ _ h)

theorem outcomeWf_step {s : State} (h : s.wf = true) : OutcomeWf (step s) := by
  unfold step
  split
  · exact outcomeWf_next (tickFrc_keeps s h)
  · exact outcomeWf_exec _ (wf_of_eq h rfl rfl rfl rfl rfl)

/-- Settles O5: a tick of FRC touches no memory and no register, and every command keeps the canonical forms. -/
theorem everyStepKeepsTheStateWellFormed : Obligations.EveryStepKeepsTheStateWellFormed := by
  unfold Obligations.EveryStepKeepsTheStateWellFormed
  exact fun t _ hs hstep => outcomeWf_step hs t hstep

end Sys2Proof.Machine
end

section
/-! PROOFS. A write of a block's EVT_STATUS register, from the address to the writer's own flags (R5, R602, R605). -/

namespace Sys2Proof.Machine

theorem blk_code_lt (b : Blk) : b.code < 24 := by
  cases b <;> decide

theorem ofCode_code (b : Blk) : Blk.ofCode b.code = some b := by
  cases b <;> rfl

/-- Every block lists an EVT_STATUS register. -/
theorem regAt_evtStatus (b : Blk) : (regAt b 0x4).isNone = false := by
  cases b <;> decide +kernel

/-- In every block, offset 4 is handled as the event flags of the block's own number. -/
theorem regWrite_evtStatus (w : Win) (b : Blk) (v : Nat) (s : State) : regWrite w b 0x4 v s = writeEvt b b.code w 0x4 v s := by
  rw [regWrite.eq_def, regAt_evtStatus]
  cases b <;> rfl

theorem busWrite_evtStatus (w : Win) (b : Blk) (v : Nat) (s : State) : busWrite w b 0x4 v s = writeEvt b b.code w 0x4 v s :=
  (if_neg (by omega)).trans (regWrite_evtStatus w b v s)

/-- An aligned address below the MSI-X table is a block's code and an offset in that block (Table 24.1). -/
theorem registerWrite_block (fn : Nat) (b : Blk) (off v : Nat) (s : State) (hoff : off < 0x4000) (hal : off % 4 = 0) :
    registerWrite fn (b.code * 0x4000 + off) v s = busWrite ⟨fn, fn + 1⟩ b off v s := by
  have hb := blk_code_lt b
  have hdiv : (b.code * 0x4000 + off) / 0x4000 = b.code := by omega
  have hmod : (b.code * 0x4000 + off) % 0x4000 = off := by omega
  rw [registerWrite, if_neg (by omega), if_pos (by omega), hdiv, hmod, ofCode_code]

/-- A write of EVT_STATUS that is taken clears the flags it names in the writer's copy. -/
theorem writeEvt_takes (b : Blk) (reg : Nat) (w : Win) (off v : Nat) (s : State) (h : s.takesWrite b w.fn = true) :
    writeEvt b reg w off v s =
      { s with evtOwn := tset s.evtOwn (reg * 1024 + w.c) (s.evStatus w.c reg &&& (2 ^ 32 - 1 - v)) } :=
  writeAtDoor_takes b w.fn off _ s h

theorem exec_registerWrite (fn : Fn) (addr : BitVec 19) (v : BitVec 32) (s : State) :
    exec (.registerWrite fn addr v) s = .next (registerWrite fn.val addr.toNat v.toNat s) := rfl

/-- Settles O8: the address reaches the block's EVT_STATUS, and a write that is taken clears flags of the writer's copy alone. -/
theorem eventFlagsCleared : Obligations.EventFlagsCleared := by
  unfold Obligations.EventFlagsCleared
  intro fn b v s h
  have haddr : (BitVec.ofNat 19 (b.code * 0x4000 + 4)).toNat = b.code * 0x4000 + 4 := by
    have hb := blk_code_lt b
    rw [BitVec.toNat_ofNat, Nat.mod_eq_of_lt (by omega)]
  rw [exec_registerWrite, haddr, registerWrite_block _ _ _ _ _ (by decide) rfl, busWrite_evtStatus, writeEvt_takes _ _ _ _ _ _ h]

end Sys2Proof.Machine
end

section
/-! PROOFS. The step and the machine after reset: the queue's front command runs, no command stops the machine, and every register starts at its
reset value (R33, R36, R505, R544). -/

namespace Sys2Proof.Machine

theorem step_pending_cons (c : Instr) (rest : List Instr) (s : State) (h : s.pending = c :: rest) : step s = exec c { s with pending := rest } := by
  rw [step, h]

/-- Settles O1: the step takes the command off the front of the queue and executes it. -/
theorem stepRunsFrontCommand : Obligations.StepRunsFrontCommand := by
  unfold Obligations.StepRunsFrontCommand
  exact fun c rest s => step_pending_cons c rest { s with pending := c :: rest } rfl

/-- Each row of the opcode table is one operation on the state, so its arm is `.next` of that operation. -/
theorem exec_eq_next (c : Instr) (s : State) : ∃ t, exec c s = .next t := by
  cases c
  all_goals exact ⟨_, rfl⟩

/-- Settles O3: the arm of every command answers a next state. -/
theorem everyCommandCompletes : Obligations.EveryCommandCompletes := by
  unfold Obligations.EveryCommandCompletes
  exact exec_eq_next

/-- The register file is empty after reset, so a shared field reads its reset value. -/
@[simp] theorem reset_sh (f : FieldRef) : State.reset.sh f = f.rst := rfl

theorem reset_gen (b : Blk) : State.reset.gen b = 1 := reset_sh _

/-- Proofing is not done after reset, which holds every door closed (Table 20.3). -/
theorem reset_doorOpen (b : Blk) : State.reset.doorOpen b = false := by
  simp [State.doorOpen, F.RST_STATUS_PROOF_DONE]

theorem reset_safe : State.reset.safe = false := by
  simp [State.safe, F.FLT_STATUS_SAFE]

theorem reset_wf : State.reset.wf = true := by
  rw [State.wf_iff]
  exact ⟨rfl, rfl, rfl, rfl, rfl⟩

/-- Settles O4: the queue and the memories are empty, and every register reads its reset value. -/
theorem resetState : Obligations.ResetState := by
  unfold Obligations.ResetState
  exact ⟨rfl, rfl, rfl, rfl, fun b => ⟨reset_gen b, reset_doorOpen b⟩, reset_sh _, reset_safe, reset_wf⟩

end Sys2Proof.Machine
end

section
/-! PROOFS. A block reset's way through the door: order, ABSENT, ready again, and the replies at a door (R33 to R38, R555, R566). -/

namespace Sys2Proof.Machine

/-! ### The four rows, by the block that a code names -/

theorem exec_blockResetOrder (block : Fin 24) (s : State) : exec (.blockResetOrder block) s = .next (resetOrder block.val s) := rfl

theorem exec_doorAbsent (block : Fin 24) (s : State) : exec (.doorAbsent block) s = .next (doorAbsent block.val s) := rfl

theorem exec_blockReady {block : Fin 24} {b : Blk} (hb : Blk.ofCode block.val = some b) (s : State) :
    exec (.blockReady block) s = .next (blockReady b s) := by
  change execBlockReady block s = _
  rw [execBlockReady, hb]

theorem exec_doorReply {block : Fin 24} {b : Blk} (hb : Blk.ofCode block.val = some b) (gen : BitVec 16) (s : State) :
    exec (.doorReply block gen) s = .next (doorReply b gen.toNat s) := by
  change execDoorReply block gen s = _
  rw [execDoorReply, hb]

/-! ### What each row does, case by case -/

/-- A block that may be reset begins its reset, out of the safe state and after Proofing. -/
theorem resetOrder_begins {n : Nat} {b : Blk} {s : State} (hb : Blk.ofCode n = some b) (hr : neverReset b = false) (hs : s.safe = false)
    (hp : s.sh F.RST_STATUS_PROOF_DONE ≠ 0) : resetOrder n s = orderBlockReset b none s := by
  simp [resetOrder, hb, hr, hs, hp]

theorem resetOrder_neverReset {n : Nat} {b : Blk} (s : State) (hb : Blk.ofCode n = some b) (hr : neverReset b = true) : resetOrder n s = s := by
  simp [resetOrder, hb, hr]

theorem doorAbsent_fenced {n : Nat} {s : State} (h : s.sh (F.FLT_BLK_STATUS_DOOR n) = 1) :
    doorAbsent n s = (s.wr 0 (F.FLT_BLK_STATUS_DOOR n) 2).wr 0 (F.FLT_BLK_STATUS_GEN n) (nextGen (s.sh (F.FLT_BLK_STATUS_GEN n))) :=
  if_pos h

theorem doorAbsent_not_fenced {n : Nat} {s : State} (h : s.sh (F.FLT_BLK_STATUS_DOOR n) ≠ 1) : doorAbsent n s = s :=
  if_neg h

/-- A block that a reset made ABSENT reopens its door and closes its shadow, and its BLOCK_RESET completes (R566). -/
theorem blockReady_reopens {b : Blk} {s : State} (hd : s.sh (F.FLT_BLK_STATUS_DOOR b.code) = 2) (hg : s.gated b.code = false) :
    blockReady b s = (let t := closeShadow b (reopenHook b (s.wr 0 (F.FLT_BLK_STATUS_DOOR b.code) 0))
      finish .flt fltOpReset b.code Code.ok 0
        (post Ev.FLT_BLOCK_READY b.code { t with flt := { t.flt with timers := tdel t.flt.timers b.code } })) := by
  rw [blockReady, if_neg (not_not_intro hd), hg]
  rfl

/-- A gated block on its way back is ON again (R555). -/
theorem blockReady_resumes {b : Blk} {s : State} (hd : s.sh (F.FLT_BLK_STATUS_DOOR b.code) = 2) (hg : s.gated b.code = true)
    (hw : s.pwr.waking.contains b.code = true) : blockReady b s = resumeGated b s := by
  rw [blockReady, if_neg (not_not_intro hd), if_pos hg, if_pos hw]

theorem doorReply_delivered {b : Blk} {gen : Nat} {s : State} (ho : s.doorOpen b = true) (hg : gen = s.gen b) : doorReply b gen s = s := by
  simp [doorReply, ho, hg]

theorem doorReply_discarded {b : Blk} {gen : Nat} {s : State} (h : s.doorOpen b = false ∨ gen ≠ s.gen b) :
    doorReply b gen s = count (evDiscard b) 0 1 s := by
  refine if_neg ?_
  rcases h with hclosed | hstale
  · simp [hclosed]
  · simp [hstale]

/-- Settles O43: each row's cases at the door, by the block that the command names. -/
theorem doorCommands : Obligations.DoorCommands := by
  unfold Obligations.DoorCommands
  refine ⟨?order, ?never, ?fenced, ?unfenced, ?ready, ?gated, ?delivered, ?discarded⟩
  case order => exact fun block b s hb hr hs hp => by rw [exec_blockResetOrder, resetOrder_begins hb hr hs hp]
  case never => exact fun block b s hb hr => by rw [exec_blockResetOrder, resetOrder_neverReset s hb hr]
  case fenced => exact fun block s h => by rw [exec_doorAbsent, doorAbsent_fenced h, nextGen]
  case unfenced => exact fun block s h => by rw [exec_doorAbsent, doorAbsent_not_fenced h]
  case ready => exact fun block b s hb hd hg => by rw [exec_blockReady hb, blockReady_reopens hd hg]
  case gated => exact fun block b s hb hd hg hw => by rw [exec_blockReady hb, blockReady_resumes hd hg hw]
  case delivered => exact fun block gen b s hb ho hg => by rw [exec_doorReply hb, doorReply_delivered ho hg]
  case discarded => exact fun block gen b s hb h => by rw [exec_doorReply hb, doorReply_discarded h]

end Sys2Proof.Machine
end

section
/-! PROOFS. With nothing queued, a step is one tick of FRC (R45). -/

namespace Sys2Proof.Machine

theorem step_pending_nil {s : State} (h : s.pending = []) : step s = .next s.tickFrc := by
  rw [step, h]

theorem tickFrc_running {s : State} (h : s.sh F.TB_STATUS_FRC_RUN = 1) : s.tickFrc = { s with frc := (s.frc + 1) % 2 ^ 64 } :=
  if_pos h

theorem tickFrc_stopped {s : State} (h : s.sh F.TB_STATUS_FRC_RUN ≠ 1) : s.tickFrc = s :=
  if_neg h

/-- Settles O2: an idle step is a tick, which counts while FRC runs. That time passes only in an idle step is the model's choice (assumption 2). -/
theorem idleStepIsOneTick : Obligations.IdleStepIsOneTick := by
  unfold Obligations.IdleStepIsOneTick
  refine ⟨?running, ?stopped⟩
  case running => exact fun s hp hr => by rw [step_pending_nil hp, tickFrc_running hr]
  case stopped => exact fun s hp hr => by rw [step_pending_nil hp, tickFrc_stopped hr]

end Sys2Proof.Machine
end

section
/-! PROOFS. Writes to the fields of one register copy: what the copy reads afterwards, and that no other copy changes (R605). -/

namespace Sys2Proof.Machine

theorem key_eq_copy_add (f : FieldRef) (c : Nat) : f.key c = c * 2 ^ 24 + f.key 0 := by
  unfold FieldRef.key
  omega

theorem key_copy_ne {f g : FieldRef} (c : Nat) (h : g.key 0 ≠ f.key 0) : g.key c ≠ f.key c := by
  rw [key_eq_copy_add g, key_eq_copy_add f]
  omega

theorem rd_wr_other_field (s : State) (c : Nat) {f g : FieldRef} (v : Nat) (h : g.key 0 ≠ f.key 0) : (s.wr c f v).rd c g = s.rd c g :=
  rd_wr_ne s v (key_copy_ne c h)

theorem onlyCopy_refl (c : Nat) (s : State) : onlyCopy c s s := ⟨rfl, fun _ _ => rfl⟩

theorem onlyCopy_trans {c : Nat} {s t u : State} (hst : onlyCopy c s t) (htu : onlyCopy c t u) : onlyCopy c s u := by
  obtain ⟨ht, htregs⟩ := hst
  obtain ⟨hu, huregs⟩ := htu
  refine ⟨?_, fun k hk => (huregs k hk).trans (htregs k hk)⟩
  rw [hu, ht]

/-- A copy's fields lie in its own 2^24 keys, so a write to one leaves the other copies. -/
theorem onlyCopy_wr {c : Nat} {s t : State} {f : FieldRef} (v : Nat) (hf : f.key 0 < 2 ^ 24) (h : onlyCopy c s t) : onlyCopy c s (t.wr c f v) := by
  refine onlyCopy_trans h ⟨rfl, fun k hk => tget_tset_ne _ _ ?_⟩
  have hkey := key_eq_copy_add f c
  omega

/-- In a function's own window, a completion without a cause field is the writes of the code and of BUSY (R505). -/
theorem complete_ownWin {st : StatRef} (hst : st.cause = none) (fn : Fn) (code cause : Nat) (s : State) :
    complete st (ownWin fn) code cause s = (s.wr (fn.val + 1) st.code code).wr (fn.val + 1) st.busy 0 := by
  have hc : fn.val + 1 < 1024 := by omega
  rw [complete, hst]
  exact if_pos hc

end Sys2Proof.Machine
end

section
/-! PROOFS. The commands of the SEC_SA window and the tick of a rotation (R81, R337 to R340, R358, R444). -/

namespace Sys2Proof.Machine

/-! ### The rows, by operation -/

theorem exec_saWrite (fn : Fn) (s : State) : exec (.saWrite fn) s = .next (opSaWrite (ownWin fn) s) := rfl
theorem exec_saRead (fn : Fn) (s : State) : exec (.saRead fn) s = .next (opSaRead (ownWin fn) s) := rfl
theorem exec_saLoadKey (fn : Fn) (s : State) : exec (.saLoadKey fn) s = .next (opSaLoadKey (ownWin fn) s) := rfl
theorem exec_saUnloadKey (fn : Fn) (s : State) : exec (.saUnloadKey fn) s = .next (opSaUnloadKey (ownWin fn) s) := rfl
theorem exec_saRotate (fn : Fn) (frcTime : Bool) (s : State) : exec (.saRotate fn frcTime) s = .next (opSaRotate (ownWin fn) frcTime s) := rfl
theorem exec_rotateTick (sa : Fin 4096) (s : State) : exec (.rotateTick sa) s = .next (rotateTick sa.val s) := rfl
theorem exec_saInvalidate (fn : Fn) (s : State) : exec (.saInvalidate fn) s = .next (opSaInvalidate (ownWin fn) s) := rfl

/-! ### What each operation does where the rules allow it -/

/-- A command that the window takes, from a function that may give it, runs its body on the selected SA (R358). -/
theorem saCommand_permitted {fn : Fn} {read : Bool} {s : State} (body : Nat → State → State) (ht : s.takes .sec stSa fn.val = true)
    (hp : s.secureSt fn.val = true ∨ read = true ∧ tenantOf fn.val = (s.sa (s.rd (fn.val + 1) F.SEC_SA_SEL)).tenant) :
    saCommand (ownWin fn) read body s = body (s.rd (fn.val + 1) F.SEC_SA_SEL) s := by
  rw [saCommand, command_takes _ _ _ (ownWin fn) _ _ rfl ht]
  exact if_pos (by simpa using hp)

section
variable {fn : Fn} {s : State} {n : Nat} {x : SaEnt}

/-- WRITE of DATA0 = d to an SA without keys (R337). -/
theorem opSaWrite_stores {d : Nat} (ht : s.takes .sec stSa fn.val = true) (hs : s.secureSt fn.val = true)
    (hn : s.rd (fn.val + 1) F.SEC_SA_SEL = n) (hx : s.sa n = x) (hd : s.rd (fn.val + 1) (F.SEC_SA_DATA 0) = d)
    (halg : bits d 1 2 ≠ 3) (hicv : bitOf d 3 = false ∨ bits d 1 2 = 2)
    (hfree : bitOf d 0 = false ∨ saTaken s n (bits d 16 9) (bits d 8 8) = false) (ha : halfLoaded x.a = false) (hb : halfLoaded x.b = false) :
    opSaWrite (ownWin fn) s = completeOk stSa (ownWin fn) (s.setSa n { x with
      valid := bitOf d 0, alg := bits d 1 2, icv32 := bitOf d 3, cfZero := bitOf d 4, spp := bits d 8 8, tenant := bits d 16 9 }) := by
  subst hn hx hd
  rw [opSaWrite, saCommand_permitted _ ht (.inl hs)]
  have hicvOk : (bitOf (s.rd (fn.val + 1) (F.SEC_SA_DATA 0)) 3 && bits (s.rd (fn.val + 1) (F.SEC_SA_DATA 0)) 1 2 != 2) = false := by
    rcases hicv with h | h <;> simp [h]
  have hfreeOk : (bitOf (s.rd (fn.val + 1) (F.SEC_SA_DATA 0)) 0 && saTaken s (s.rd (fn.val + 1) F.SEC_SA_SEL)
      (bits (s.rd (fn.val + 1) (F.SEC_SA_DATA 0)) 16 9) (bits (s.rd (fn.val + 1) (F.SEC_SA_DATA 0)) 8 8)) = false := by
    rcases hfree with h | h <;> simp [h]
  exact if_neg (by simp [halg, hicvOk, hfreeOk, ha, hb])

/-- LOAD_KEY of a delivered key into the half that does not transmit (R338, R444). -/
theorem opSaLoadKey_loads {half : Bool} {slot id key : Nat} (ht : s.takes .sec stSa fn.val = true) (hs : s.secureSt fn.val = true)
    (hn : s.rd (fn.val + 1) F.SEC_SA_SEL = n) (hx : s.sa n = x) (hhalf : (s.rd (fn.val + 1) F.SEC_SA_ARG0 % 2 == 1) = half)
    (hslot : bits (s.rd (fn.val + 1) F.SEC_SA_ARG0) 16 10 = slot) (hid : s.rd (fn.val + 1) F.SEC_SA_ARG1 = id)
    (hkey : ksDeliver s slot masterGh (algUsage x.alg) x.tenant = some key) (htx : half ≠ x.tx)
    (hother : (halfLoaded (x.half (!half)) && halfKeyId (x.half (!half)) == id) = false) (hlen : attrLen (s.ksSlot slot).attr = algLen x.alg) :
    opSaLoadKey (ownWin fn) s = completeOk stSa (ownWin fn) (s.setSa n { x.setHalf half (some { keyId := id, slot := slot, key := key }) with
      lost := ((x.half (!half)).map (·.lost)).getD false }) := by
  subst hn hx hhalf hslot hid
  rw [opSaLoadKey, saCommand_permitted _ ht (.inl hs)]
  dsimp only
  rw [hkey]
  exact if_neg (by simp [htx, hother, hlen])

/-- UNLOAD_KEY of the half that does not transmit, while no rotation is pending (R338). -/
theorem opSaUnloadKey_empties {half : Bool} (ht : s.takes .sec stSa fn.val = true) (hs : s.secureSt fn.val = true)
    (hn : s.rd (fn.val + 1) F.SEC_SA_SEL = n) (hx : s.sa n = x) (hhalf : (s.rd (fn.val + 1) F.SEC_SA_ARG0 % 2 == 1) = half)
    (htx : half ≠ x.tx) (hrot : x.rot = none) :
    opSaUnloadKey (ownWin fn) s = completeOk stSa (ownWin fn) (s.setSa n { x.setHalf half none with
      lost := ((x.half (!half)).map (·.lost)).getD false }) := by
  subst hn hx hhalf
  rw [opSaUnloadKey, saCommand_permitted _ ht (.inl hs)]
  exact if_neg (by simp [htx, hrot])

/-- ROTATE to a loaded half, at once or at an FRC tick at least 64 ahead (R81, R339). -/
theorem opSaRotate_pends {frcTime : Bool} {tick : Nat} (ht : s.takes .sec stSa fn.val = true) (hs : s.secureSt fn.val = true)
    (hn : s.rd (fn.val + 1) F.SEC_SA_SEL = n) (hx : s.sa n = x) (htick : s.rd64 (fn.val + 1) F.SEC_SA_ARG0 F.SEC_SA_ARG1 = tick)
    (hloaded : halfLoaded (x.half (!x.tx)) = true) (hahead : frcTime = false ∨ s.frc + 64 ≤ tick) :
    opSaRotate (ownWin fn) frcTime s =
      completeOk stSa (ownWin fn) (s.setSa n { x with rot := some (if frcTime then tick else s.frc + 64) }) := by
  subst hn hx htick
  rw [opSaRotate, saCommand_permitted _ ht (.inl hs)]
  refine if_neg ?_
  rcases hahead with himmediate | htime
  · simp [hloaded, himmediate]
  · simp [hloaded, Nat.not_lt.2 htime]

/-- The tick of a pending rotation exchanges the halves (R339). -/
theorem rotateTick_due {c : Nat} (hrot : (s.sa n).rot = some c) (hc : c ≤ s.frc) :
    rotateTick n s = postAt Ev.SEC_ROTATED c n [] (s.setSa n { s.sa n with tx := !(s.sa n).tx, rot := none }) := by
  rw [rotateTick, hrot]
  exact if_neg (Nat.not_lt.2 hc)

theorem opSaInvalidate_deletes (ht : s.takes .sec stSa fn.val = true) (hs : s.secureSt fn.val = true)
    (hn : s.rd (fn.val + 1) F.SEC_SA_SEL = n) (ha : halfLoaded (s.sa n).a = false) (hb : halfLoaded (s.sa n).b = false) :
    opSaInvalidate (ownWin fn) s = completeOk stSa (ownWin fn) { s with sec := { s.sec with sas := tdel s.sec.sas n } } := by
  subst hn
  rw [opSaInvalidate, saCommand_permitted _ ht (.inl hs)]
  exact if_neg (by simp [ha, hb])

end

/-! ### READ -/

/-- The window of copy c filled from an SA, with the counters of its halves latched and the command completed (Table 12.1). -/
def saShown (c : Nat) (x : SaEnt) (s : State) : State :=
  let data := (((s.wr c (F.SEC_SA_DATA 0) x.data0).wr c (F.SEC_SA_DATA 1) (halfKeyId x.a)).wr c (F.SEC_SA_DATA 2) (halfKeyId x.b)).wr c
    (F.SEC_SA_DATA 3) (halfSlot x.a + 2 ^ 16 * halfSlot x.b)
  let counters := (data.wr c F.SEC_SA_SEQ_A (halfCtr x.a)).wr c F.SEC_SA_SEQ_B (halfCtr x.b)
  (counters.wr c F.SEC_SA_STATUS_CODE Code.ok).wr c F.SEC_SA_STATUS_BUSY 0

/-- READ by the secure world, the steward or the SA's own tenant shows the selected SA. -/
theorem opSaRead_shows {fn : Fn} {s : State} (ht : s.takes .sec stSa fn.val = true)
    (hp : s.secureSt fn.val = true ∨ tenantOf fn.val = (s.sa (s.rd (fn.val + 1) F.SEC_SA_SEL)).tenant) :
    opSaRead (ownWin fn) s = saShown (fn.val + 1) (s.sa (s.rd (fn.val + 1) F.SEC_SA_SEL)) s := by
  rw [opSaRead, saCommand_permitted _ ht (hp.imp_right (⟨rfl, ·⟩))]
  exact complete_ownWin rfl fn _ _ _

theorem saShown_onlyCopy (c : Nat) (x : SaEnt) (s : State) : onlyCopy c s (saShown c x s) := by
  unfold saShown
  repeat' apply onlyCopy_wr _ (by decide)
  exact onlyCopy_refl c s

/-- The window reads the completion, and the SA's fields as wide as their registers. -/
theorem saShown_reads (c : Nat) (x : SaEnt) (s : State) :
    (saShown c x s).rd c F.SEC_SA_STATUS_CODE = Code.ok ∧ (saShown c x s).rd c (F.SEC_SA_DATA 0) = x.data0 % 2 ^ 32 ∧
      (saShown c x s).rd c (F.SEC_SA_DATA 1) = halfKeyId x.a % 2 ^ 32 ∧ (saShown c x s).rd c F.SEC_SA_SEQ_A = halfCtr x.a % 2 ^ 32 ∧
      (saShown c x s).rd c F.SEC_SA_SEQ_B = halfCtr x.b % 2 ^ 32 := by
  simp (disch := decide) only [saShown, rd_wr_self, rd_wr_other_field]
  exact ⟨rfl, rfl, rfl, rfl, rfl⟩

/-- Settles O26: each command's case, on the SA that the window selects. That INVALIDATE deletes the entry, that a ROTATE replaces a pending one and that
a half that has lost its key counts as not loaded is the model's choice (assumption 120). -/
theorem securityAssociationCommands : Obligations.SecurityAssociationCommands := by
  unfold Obligations.SecurityAssociationCommands
  refine ⟨?write, ?read, ?load, ?unload, ?rotate, ?tick, ?invalidate⟩
  case write => exact fun fn s ht hs halg hicv hfree ha hb => by rw [exec_saWrite, opSaWrite_stores ht hs rfl rfl rfl halg hicv hfree ha hb]
  case read =>
    intro fn s ht hp
    refine ⟨_, exec_saRead fn s, ?_⟩
    rw [opSaRead_shows ht hp]
    obtain ⟨hcode, hdata0, hdata1, hseqA, hseqB⟩ := saShown_reads (fn.val + 1) (s.sa (s.rd (fn.val + 1) F.SEC_SA_SEL)) s
    exact ⟨hcode, hdata0, hdata1, hseqA, hseqB, saShown_onlyCopy _ _ _⟩
  case load =>
    exact fun fn key s ht hs hkey htx hother hlen => by rw [exec_saLoadKey, opSaLoadKey_loads ht hs rfl rfl rfl rfl rfl hkey htx hother hlen]
  case unload => exact fun fn s ht hs htx hrot => by rw [exec_saUnloadKey, opSaUnloadKey_empties ht hs rfl rfl rfl htx hrot]
  case rotate => exact fun fn frcTime s ht hs hloaded hahead => by rw [exec_saRotate, opSaRotate_pends ht hs rfl rfl rfl hloaded hahead]
  case tick => exact fun sa c s hrot hc => by rw [exec_rotateTick, rotateTick_due hrot hc]
  case invalidate => exact fun fn s ht hs ha hb => by rw [exec_saInvalidate, opSaInvalidate_deletes ht hs rfl ha hb]

end Sys2Proof.Machine
end

section
/-! PROOFS. The token window's START, TOKEN_DONE, and the ledger's points and age passing their limits (R86, R89, R94 to R97). -/

namespace Sys2Proof.Machine

/-! ### The rows, by operation -/

theorem exec_bndTokStart (fn : Fn) (s : State) : exec (.bndTokStart fn) s = .next (opTokStart (ownWin fn) s) := rfl
theorem exec_tokenDone (index : Fin 8) (s : State) : exec (.tokenDone index) s = .next (tokenDone index.val s) := rfl
theorem exec_pathStale (point : Fin 24) (s : State) : exec (.pathStale point) s = .next (pathBecomesStale point.val s) := rfl
theorem exec_ageExpired (s : State) : exec .ageExpired s = .next (agePasses s) := rfl

/-! ### Registers -/

/-- Fields of different copies have different keys (R605). -/
theorem key_ne_of_copy_ne {f g : FieldRef} {c d : Nat} (hf : f.key 0 < 2 ^ 24) (hg : g.key 0 < 2 ^ 24) (h : d ≠ c) : g.key d ≠ f.key c := by
  rw [key_eq_copy_add g, key_eq_copy_add f]
  omega

/-- Two registers of 32 bits keep a value modulo 2^64. -/
theorem rd64_wr64_words (s : State) (c : Nat) {lo hi : FieldRef} (v : Nat) (hlo : lo.w = 32) (hhi : hi.w = 32) (h : lo.key c ≠ hi.key c) :
    (s.wr64 c lo hi v).rd64 c lo hi = v % 2 ^ 64 := by
  rw [rd64_wr64 s c lo hi v hlo h, hhi]
  omega

/-- A command in progress differs from its issuer's registers in BUSY alone. -/
theorem rd_accept (b : Blk) (st : StatRef) (w : Win) (op obj : Nat) (s : State) (c : Nat) (f : FieldRef) :
    (accept b st w op obj s).rd c f = (s.wr w.c st.busy 1).rd c f := rfl

theorem rd64_accept (b : Blk) (st : StatRef) (w : Win) (op obj : Nat) (s : State) (c : Nat) (lo hi : FieldRef) :
    (accept b st w op obj s).rd64 c lo hi = (s.wr w.c st.busy 1).rd64 c lo hi := rfl

theorem rd64_setTokens (l : List Token) (s : State) (c : Nat) (lo hi : FieldRef) :
    (setTokens l s).rd64 c lo hi = (s.wr 0 F.BND_STATUS_TOK_PENDING l.length).rd64 c lo hi := rfl

/-! ### START -/

/-- The counter value of the next token (R95). -/
def nextTokenCounter (s : State) : Nat := s.rd64 0 F.BND_TOK_COUNT_LO F.BND_TOK_COUNT_HI

/-- The token that a window's START captures now (R95). -/
def capturedToken (w : Win) (s : State) : Token :=
  ⟨w, s.rd64 w.c F.BND_TOK_ADDR_LO F.BND_TOK_ADDR_HI, nextTokenCounter s,
    tokenBody s w (s.rd w.c F.BND_TOK_SEL) (nextTokenCounter s) (tokNonce s w)⟩

/-- The counter value taken for a window, and BND_TOK_COUNT one further (R95). -/
def tokenCounted (w : Win) (s : State) : State :=
  (s.wr64 w.c F.BND_TOK_CTR_LO F.BND_TOK_CTR_HI (nextTokenCounter s)).wr64 0 F.BND_TOK_COUNT_LO F.BND_TOK_COUNT_HI (nextTokenCounter s + 1)

/-- START accepted: the token is counted and pending, and the command in progress (R95). -/
def tokenStarted (w : Win) (s : State) : State :=
  accept .bnd stTok w 0 (nextTokenCounter s) (setTokens (s.bnd.tokens ++ [capturedToken w s]) (tokenCounted w s))

/-- START with none of R94's causes of refusal is accepted. -/
theorem opTokStart_accepts {fn : Fn} {s : State} {addr : Nat} (ht : s.takes .bnd stTok fn.val = true)
    (hread : vcReadable s (s.rd (fn.val + 1) F.BND_TOK_SEL) fn.val = true) (hlife : s.sh F.KS_LIFECYCLE_STATE ≠ 0)
    (hroom : s.bnd.tokens.length < 8) (haddr : s.rd64 (fn.val + 1) F.BND_TOK_ADDR_LO F.BND_TOK_ADDR_HI = addr) (halign : addr % 64 = 0)
    (howns : ownsBuf s fn.val addr 3584 = true) : opTokStart (ownWin fn) s = tokenStarted (ownWin fn) s := by
  subst haddr
  rw [opTokStart, command_takes _ _ _ (ownWin fn) _ _ rfl ht]
  exact if_neg (by simp [hread, hlife, hroom, halign, howns])

theorem tokenStarted_busy (w : Win) (s : State) : (tokenStarted w s).rd w.c F.BND_TOK_STATUS_BUSY = 1 := by
  rw [tokenStarted, rd_accept]
  exact rd_wr_self _ _ _ _

/-- Neither BUSY of a function's copy nor the number of pending tokens shares BND_TOK_COUNT's registers. -/
theorem tokenStarted_count (fn : Fn) (s : State) :
    nextTokenCounter (tokenStarted (ownWin fn) s) = (nextTokenCounter s + 1) % 2 ^ 64 := by
  have hcopy : 0 ≠ fn.val + 1 := by omega
  calc nextTokenCounter (tokenStarted (ownWin fn) s)
      = (setTokens (s.bnd.tokens ++ [capturedToken (ownWin fn) s]) (tokenCounted (ownWin fn) s)).rd64 0 F.BND_TOK_COUNT_LO F.BND_TOK_COUNT_HI := by
        rw [nextTokenCounter, tokenStarted, rd64_accept]
        exact rd64_wr_ne _ _ (key_ne_of_copy_ne (by decide) (by decide) hcopy) (key_ne_of_copy_ne (by decide) (by decide) hcopy)
    _ = nextTokenCounter (tokenCounted (ownWin fn) s) := by
        rw [rd64_setTokens]
        exact rd64_wr_ne _ _ (by decide) (by decide)
    _ = (nextTokenCounter s + 1) % 2 ^ 64 := rd64_wr64_words _ _ _ rfl rfl (by decide)

theorem tokenStarted_tokens (w : Win) (s : State) : (tokenStarted w s).bnd.tokens = s.bnd.tokens ++ [capturedToken w s] := rfl

theorem tokenStarted_sameMem (w : Win) (s : State) : sameMem s (tokenStarted w s) := ⟨rfl, rfl, rfl⟩

/-! ### TOKEN_DONE, staleness and age -/

/-- A pending token is written, signed, into its buffer and completes (R97). -/
theorem tokenDone_pending {i : Nat} {k : Token} {s : State} (h : s.bnd.tokens[i]? = some k) :
    tokenDone i s = tokenFinish k Code.ok (dmaWrite k.win.fn k.addr (tokenBuffer s k.body) s) := by
  rw [tokenDone, h]

/-- A point of the ledger whose calibration is too old, and not marked yet, is marked stale (R89). -/
theorem pathBecomesStale_marks {p : Nat} {s : State} (hp : p < 24) (hold : pathStale s p s.frc = true)
    (hnew : s.sh (F.BND_PATH_STALE_IS_STALE p) ≠ 1) :
    pathBecomesStale p s = syncBound (post Ev.BND_PATH_STALE p (s.wr 0 (F.BND_PATH_STALE_IS_STALE p) 1)) :=
  if_neg (by simp [hp, hold, hnew])

theorem agePasses_expired {s : State} (h : ageExpired s s.frc = true) : agePasses s = syncBound s :=
  if_pos h

/-- Settles O12: an accepted START is counted and pending, and each other row acts once it is due. That a token completes at its own row, and that the
key store's door is not looked at when it is accepted, is the model's choice (assumptions 41 and 42). -/
theorem tokenAndLedgerCommands : Obligations.TokenAndLedgerCommands := by
  unfold Obligations.TokenAndLedgerCommands
  refine ⟨?start, ?done, ?stale, ?expired⟩
  case start =>
    intro fn s ht hread hlife hroom halign howns
    refine ⟨tokenStarted (ownWin fn) s, ?_, tokenStarted_busy (ownWin fn) s, tokenStarted_count fn s, tokenStarted_tokens (ownWin fn) s,
      tokenStarted_sameMem (ownWin fn) s⟩
    rw [exec_bndTokStart, opTokStart_accepts ht hread hlife hroom rfl halign howns]
  case done => exact fun index k s hk => by rw [exec_tokenDone, tokenDone_pending hk]
  case stale => exact fun point s hold hnew => by rw [exec_pathStale, pathBecomesStale_marks point.isLt hold hnew]
  case expired => exact fun s h => by rw [exec_ageExpired, agePasses_expired h]

end Sys2Proof.Machine
end

section
/-! PROOFS. The reference slots: configuration, stamps, losses, monitor ticks, hold-offs, quality messages and time-of-day frames (R100 to R124). -/

namespace Sys2Proof.Machine

/-! ### The rows, by operation -/

theorem exec_refCfgWrite (fn : Fn) (slot : Fin 32) (value : BitVec 32) (s : State) :
    exec (.refCfgWrite fn slot value) s = .next (writeRefCfg fn.val slot.val value.toNat s) := rfl
theorem exec_refEdgeStamp (slot : Fin 32) (tick : BitVec 64) (phase : Fin 32) (edges : BitVec 16) (label : Option (BitVec 96)) (s : State) :
    exec (.refEdgeStamp slot tick phase edges label) s =
      .next (refEdgeStamp slot.val (32 * tick.toNat + phase.val) edges.toNat (label.map fun l => linOfT96 l.toNat) s) := rfl
theorem exec_refStampMissing (slot : Fin 32) (s : State) : exec (.refStampMissing slot) s = .next (stampMissing slot.val s) := rfl
theorem exec_refLinkLoss (slot : Fin 32) (s : State) : exec (.refLinkLoss slot) s = .next (linkLost slot.val s) := rfl
theorem exec_monitorTick (tick : BitVec 64) (s : State) : exec (.monitorTick tick) s = .next (monitorAll tick.toNat s) := rfl
theorem exec_holdoffExpiry (sel : Fin 6) (s : State) : exec (.holdoffExpiry sel) s = .next (holdoffExpiry sel.val s) := rfl
theorem exec_esmcPdu (port : Fin 16) (pdu : List Byte) (s : State) :
    exec (.esmcPdu port pdu) s = .next (if portUp s port.val then esmcPdu (portLanes s port.val) pdu s else s) := rfl
theorem exec_esmcTimeout (lane : Fin 16) (s : State) : exec (.esmcTimeout lane) s = .next (esmcTimeout (lane.val + 8) s) := rfl
theorem exec_todinFrame (pin : Fin 4) (frame : List Byte) (whole : Bool) (s : State) :
    exec (.todinFrame pin frame whole) s = .next (todinFrame pin.val frame whole s) := rfl

/-! ### Configuration -/

/-- A write of REF_CFG that reaches its register, by a function that may write REF, for one of the 29 slots (R116, R124). -/
theorem writeRefCfg_stores {fn n v : Nat} {s : State} (ht : s.takesWrite .refs fn = true) (hs : s.secureSt fn = true) (hn : n < 29) :
    writeRefCfg fn n v s = evalSels (syncRefStatus (updateQr n (slotEnable n (bitOf v 0) (storeRefCfg n v s)))) := by
  have hmay : ¬ (!refMay s fn) = true := by simp [refMay, hs]
  rw [writeRefCfg, writeAtDoor_takes _ _ _ _ _ ht]
  exact (if_neg hmay).trans (if_neg (Nat.not_le.2 hn))

/-! ### Stamps -/

/-- The event slots lie among the 29 slots and are no pins (Table 4.1). -/
theorem eventSlot_bounds {n : Nat} (h : eventSlot n = true) : n < 29 ∧ pinSlot n = false := by
  simp only [eventSlot, pinSlot, Bool.and_eq_true, Bool.or_eq_false_iff, decide_eq_true_eq, decide_eq_false_iff_not, beq_eq_false_iff_ne] at h ⊢
  omega

theorem pinSlot_bounds {n : Nat} (h : pinSlot n = true) : n < 29 ∧ eventSlot n = false := by
  simp only [eventSlot, pinSlot, Bool.or_eq_true, Bool.and_eq_false_iff, decide_eq_true_eq, decide_eq_false_iff_not, beq_iff_eq] at h ⊢
  omega

theorem laneSlot_bounds {n : Nat} (hlo : 8 ≤ n) (hhi : n < 24) : n < 29 ∧ pinSlot n = false ∧ eventSlot n = false := by
  simp only [eventSlot, pinSlot, Bool.or_eq_false_iff, Bool.and_eq_false_iff, decide_eq_false_iff_not, beq_eq_false_iff_ne]
  omega

section
variable {n x32 delta : Nat} {s : State} (hst : slotState s n ≠ stDISABLED)
include hst

/-- An enabled event slot takes a time event with its label (R101). -/
theorem refEdgeStamp_event (l : Nat) (hev : eventSlot n = true) :
    refEdgeStamp n x32 delta (some l) s = syncCap n (takeStamp n x32 delta (some ((l : Rat) / 65536)) s) := by
  obtain ⟨hn, hpin⟩ := eventSlot_bounds hev
  rw [refEdgeStamp, if_neg (by omega), if_neg (by simp [hpin]), if_pos hev]

/-- An enabled edge source with a nominal rate, whose pin if it has one is alive and ready, takes the edge; p is the label, which only a REFIN pin
has, and the state that reading it leaves (R100, R101). -/
theorem refEdgeStamp_edge (label : Option Nat) {p : Option Rat × State} (hn : n < 29) (hev : eventSlot n = false)
    (hpin : pinSlot n = true → pointDead s (ptRef n) = false ∧ (s.slot n).ready = true) (hnom : s.sh (F.REF_NOMINAL n) ≠ 0)
    (hp : (if n < 8 then pulseLabel n s else (none, s)) = p) :
    refEdgeStamp n x32 delta label s = syncCap n (takeStamp n x32 delta p.1 p.2) := by
  have halive : (pinSlot n && pointDead s (ptRef n)) ≠ true := by
    simpa using fun h => (hpin h).1
  have hready : (pinSlot n && !(s.slot n).ready) ≠ true := by
    simpa using fun h => (hpin h).2
  subst hp
  rw [refEdgeStamp.eq_def, if_neg (by omega), if_neg halive, if_neg (by simp [hev])]
  exact if_neg (not_or.2 ⟨hnom, hready⟩)

/-- An Ethernet lane's edge carries no label. -/
theorem refEdgeStamp_lane (label : Option Nat) (hlo : 8 ≤ n) (hhi : n < 24) (hnom : s.sh (F.REF_NOMINAL n) ≠ 0) :
    refEdgeStamp n x32 delta label s = syncCap n (takeStamp n x32 delta none s) := by
  obtain ⟨hn, hpin, hev⟩ := laneSlot_bounds hlo hhi
  exact refEdgeStamp_edge hst label (p := (none, s)) hn hev (by simp [hpin]) hnom (if_neg (by omega))

/-- A REFIN pulse takes the label of its time-of-day input; ATOM_IN has none (R100). -/
theorem refEdgeStamp_pin (label : Option Nat) (hpin : pinSlot n = true) (halive : pointDead s (ptRef n) = false)
    (hnom : s.sh (F.REF_NOMINAL n) ≠ 0) (hready : (s.slot n).ready = true) :
    refEdgeStamp n x32 delta label s = if n = 28 then syncCap 28 (takeStamp 28 x32 delta none s)
      else syncCap n (takeStamp n x32 delta (pulseLabel n s).1 (pulseLabel n s).2) := by
  obtain ⟨hn, hev⟩ := pinSlot_bounds hpin
  split
  case isTrue hatom =>
    subst hatom
    exact refEdgeStamp_edge hst label (p := (none, s)) hn hev (fun _ => ⟨halive, hready⟩) hnom (if_neg (by omega))
  case isFalse hatom =>
    have hrefin : n < 8 := by simpa [pinSlot, hatom] using hpin
    exact refEdgeStamp_edge hst label (p := pulseLabel n s) hn hev (fun _ => ⟨halive, hready⟩) hnom (if_pos hrefin)

/-- A missing stamp is counted, ends the run of good stamps and leaves a gap; the profile's limit makes it a lost signal (R104). -/
theorem stampMissing_enabled (hn : n < 29) :
    stampMissing n s = if s.sh (F.REF_PROF_QUAL_LOS_COUNT (s.sh (F.REF_CFG_PROFILE n))) ≤ (s.slot n).missing + 1
      then signalLost n (s.setSlot n { s.slot n with missing := (s.slot n).missing + 1, good := 0, gap := true })
      else s.setSlot n { s.slot n with missing := (s.slot n).missing + 1, good := 0, gap := true } :=
  if_neg (by omega)

end

theorem linkLost_linked {n : Nat} {s : State} (hlo : 8 ≤ n) (hhi : n ≤ 27) (hgnss : n ≠ 24) :
    linkLost n s = updateQr n (signalLost n (s.setSlot n { s.slot n with linkUp := false })) :=
  if_pos ⟨hlo, hhi, hgnss⟩

/-! ### Monitor ticks and hold-offs -/

/-- A whole second not yet evaluated is evaluated, and then the steward, if it runs, does its tasks of the monitor tick (R110, R145, R146, R153). -/
theorem monitorAll_newSecond {tick : Nat} {s : State} (hreached : tick ≤ s.frc) (hsec : tick % 1562500000 = 0) (hnew : s.refs.lastTick < tick)
    (hruns : stewardRuns (freeReadings (atomWatch (monitorTick tick s))) = true) :
    monitorAll tick s = tempCheck 1 (tempCheck 0 (hoMonitor (stampPair (s.slot 28))
      (readTemp 1 (readTemp 0 (freeReadings (atomWatch (monitorTick tick s))))))) := by
  have hdue : ¬ (s.frc < tick ∨ tick % ticksPerSec ≠ 0 ∨ tick ≤ s.refs.lastTick) := by
    rw [ticksPerSec]
    omega
  rw [monitorAll, if_neg hdue]
  exact if_pos hruns

/-- A hold-off that has reached its tick ends, and its selector is evaluated (R121). -/
theorem holdoffExpiry_due {i d : Nat} {s : State} (hd : (s.sel i).holdoff = some d) (hreached : d ≤ s.frc) :
    holdoffExpiry i s = evalSel i (s.setSel i { s.sel i with holdoff := none }) := by
  rw [holdoffExpiry, hd]
  exact if_neg (Nat.not_lt.2 hreached)

/-! ### Quality messages and time-of-day frames -/

/-- The quality of a lane's slot is forgotten 5 s after its last ESMC PDU (R107). -/
theorem esmcTimeout_due {n q : Nat} {s : State} (hlo : 8 ≤ n) (hhi : n ≤ 23) (hq : (s.slot n).qlTick = some q) (hold : q + 7812500000 ≤ s.frc) :
    esmcTimeout n s = updateQr n (s.setSlot n { s.slot n with qlTick := none }) := by
  rw [esmcTimeout]
  simp only [hq]
  exact if_pos ⟨hlo, hhi, decide_eq_true hold⟩

/-- A valid frame that arrived whole labels the next pulse of the slots that name its pin, and is counted (R100, R185). -/
theorem todinFrame_valid {i : Nat} {f : Octets} (s : State) (h : todinValid f = true) :
    todinFrame i f true s =
      let t := each ((List.range 8).filter fun n => s.sh (F.REF_CFG_TOD_SRC n) == i + 1)
        (fun n t => t.setSlot n { t.slot n with nextLabel := some ((ofBe (slice f 8 6) : Rat) * 1000000000 + ofBe (slice f 14 4)) }) s
      t.wr 0 (F.OUT_TODIN_STATUS_FRAMES_OK i) (t.sh (F.OUT_TODIN_STATUS_FRAMES_OK i) + 1) :=
  if_pos (by simp [h])

theorem todinFrame_bad {i : Nat} {f : Octets} {whole : Bool} (s : State) (h : todinValid f = false ∨ whole = false) :
    todinFrame i f whole s = post Ev.OUT_TODIN_BAD i (s.wr 0 (F.OUT_TODIN_STATUS_FRAMES_BAD i) (s.sh (F.OUT_TODIN_STATUS_FRAMES_BAD i) + 1)) :=
  if_neg (by rcases h with h | h <;> simp [h])

/-- Settles O13: each row is one operation on its slot, selector, port or pin, and each clause is the branch of it that its conditions select. -/
theorem referenceEvents : Obligations.ReferenceEvents := by
  unfold Obligations.ReferenceEvents
  refine ⟨?cfg, ?event, ?lane, ?pin, ?missing, ?lost, ?link, ?monitor, ?holdoff, ?esmc, ?timeout, ?tod, ?todBad⟩
  case cfg => exact fun fn slot value s ht hs hn => by rw [exec_refCfgWrite, writeRefCfg_stores ht hs hn]
  case event => exact fun slot tick phase edges label s hst hev => by rw [exec_refEdgeStamp, Option.map_some, refEdgeStamp_event hst _ hev]
  case lane => exact fun slot tick phase edges label s hst hlo hhi hnom => by rw [exec_refEdgeStamp, refEdgeStamp_lane hst _ hlo hhi hnom]
  case pin =>
    exact fun slot tick phase edges label s hpin hst halive hnom hready => by
      rw [exec_refEdgeStamp, refEdgeStamp_pin hst _ hpin halive hnom hready]
  case missing => exact fun slot s hst hn hbelow => by rw [exec_refStampMissing, stampMissing_enabled hst hn, if_neg (Nat.not_le.2 hbelow)]
  case lost => exact fun slot s hst hn hlimit => by rw [exec_refStampMissing, stampMissing_enabled hst hn, if_pos hlimit]
  case link => exact fun slot s hlo hhi hgnss => by rw [exec_refLinkLoss, linkLost_linked hlo hhi hgnss]
  case monitor => exact fun tick s hreached hsec hnew hruns => by rw [exec_monitorTick, monitorAll_newSecond hreached hsec hnew hruns]
  case holdoff => exact fun sel d s hd hreached => by rw [exec_holdoffExpiry, holdoffExpiry_due hd hreached]
  case esmc => exact fun port pdu s hup => by rw [exec_esmcPdu, if_pos hup]
  case timeout => exact fun lane q s hq hold => by rw [exec_esmcTimeout, esmcTimeout_due (by omega) (by omega) hq hold]
  case tod => exact fun pin frame s h => by rw [exec_todinFrame, todinFrame_valid s h]
  case todBad => exact fun pin frame whole s h => by rw [exec_todinFrame, todinFrame_bad s h]

end Sys2Proof.Machine
end

section
/-! PROOFS. The servo: updates and the stall monitor, the commands of SRV_CMD, the configuration words and the atomic oscillator (R126 to R160). -/

namespace Sys2Proof.Machine

/-! ### The rows, by operation -/

theorem exec_servoUpdate (s : State) : exec .servoUpdate s = .next (servoUpdate s) := rfl
theorem exec_servoStall (s : State) : exec .servoStall s = .next (servoStall s) := rfl
theorem exec_phaseStep (fn : Fn) (s : State) : exec (.phaseStep fn) s = .next (opPhaseStep (ownWin fn) s) := rfl
theorem exec_acceptOffset (fn : Fn) (s : State) : exec (.acceptOffset fn) s = .next (opAcceptOffset (ownWin fn) s) := rfl
theorem exec_nougatReset (fn : Fn) (s : State) : exec (.nougatReset fn) s = .next (opNougatReset (ownWin fn) s) := rfl
theorem exec_atomTuneNow (fn : Fn) (ack : Bool) (s : State) : exec (.atomTuneNow fn ack) s = .next (opAtomTuneNow (ownWin fn) ack s) := rfl
theorem exec_rateOwnerWrite (fn : Fn) (value : BitVec 32) (s : State) :
    exec (.rateOwnerWrite fn value) s = .next (writeSrvCtrl fn.val value.toNat s) := rfl
theorem exec_hoSrcWrite (fn : Fn) (value : BitVec 32) (s : State) : exec (.hoSrcWrite fn value) s = .next (writeHoCfg fn.val value.toNat s) := rfl
theorem exec_atomAlm (level : Bool) (s : State) : exec (.atomAlm level) s = .next (atomAlm level s) := rfl
theorem exec_nougatSample (model : Fin 2) (s : State) : exec (.nougatSample model) s = .next (nougatSample model.val s) := rfl
theorem exec_atomTune (ack : Bool) (s : State) : exec (.atomTune ack) s = .next (atomTune ack s) := rfl

/-! ### Updates and the stall monitor -/

/-- An update that has not been done yet and whose arm is in time moves the six DPLLs and takes the stamps as read (R126). -/
theorem servoUpdate_inTime {s : State} {tick : Nat} (htick : (s.frc / updPeriod s + 1) * updPeriod s = tick) (hruns : stewardRuns s = true)
    (hdoor : s.doorOpen .srv = true) (hnew : tick ≠ s.srv.target) (hahead : s.frc + 64 ≤ tick) :
    servoUpdate s = clearUnread (each [1, 2, 3, 4, 5] (odUpdate tick (s.srv.wasRat && !vc0Rat s))
      (sysUpdate tick { s with srv := { s.srv with target := tick } })) := by
  subst htick
  exact (if_neg (by simp [hruns, hdoor, hnew])).trans (if_neg (Nat.not_lt.2 hahead))

theorem servoStall_raises {s : State} (hproof : s.sh F.RST_STATUS_PROOF_DONE = 1) (hstall : s.sh F.SRV_STATUS_STALL = 0)
    (hlate : s.srv.cg0At + 16 * updPeriod s ≤ s.frc) : servoStall s = post Ev.SRV_STALL 0 (s.wr 0 F.SRV_STATUS_STALL 1) :=
  if_pos ⟨hproof, hstall, hlate⟩

/-! ### The commands of SRV_CMD -/

theorem secureSt_of_secure {s : State} {fn : Nat} (h : s.secure fn = true) : s.secureSt fn = true := by
  rw [State.secureSt, h, Bool.true_or]

section
variable {fn : Fn} {s : State} (ht : s.takes .srv stSrv fn.val = true)
include ht

/-- A command that SRV_CMD takes from the secure world or the steward runs its body (R160, R161). -/
theorem srvCommand_permitted (body : State → State) (hs : s.secureSt fn.val = true) : srvCommand (ownWin fn) body s = body s := by
  rw [srvCommand, command_takes _ _ _ (ownWin fn) _ _ rfl ht]
  exact if_pos hs

/-- PHASE_STEP by d within the limits of R142, with no step pending: VC0 is adjusted, and the target offset o moves with it 64 ticks later. -/
theorem opPhaseStep_adjusts {d o : Int} (hs : s.secureSt fn.val = true) (hd : sgn 64 (s.rd64 (fn.val + 1) F.SRV_ARG0 F.SRV_ARG1) = d)
    (ho : sgn 64 (s.rd64 0 F.SRV_SYS_TARGET_LO F.SRV_SYS_TARGET_HI) = o) (hrat : vc0Rat s = true) (hpend : s.srv.oPend = none)
    (hstep : d.natAbs ≤ (s.vc 0).adjLimit * 65536) (hoffset : (o + d).natAbs ≤ 2 ^ 47 * 65536) :
    opPhaseStep (ownWin fn) s = completeOk stSrv (ownWin fn)
      { stewardAdjust d s with srv := { (stewardAdjust d s).srv with oPend := some (s.frc + 64, o + d) } } := by
  subst hd ho
  rw [opPhaseStep, srvCommand_permitted ht _ hs, hpend]
  exact if_neg (by simpa [hrat, hstep] using hoffset)

/-- ACCEPT_OFFSET of a rejected offset by the secure world is noted for the next update (R139). -/
theorem opAcceptOffset_notes (hs : s.secure fn.val = true) (hrej : s.sh F.SRV_STATUS_OFFSET_REJECT ≠ 0) :
    opAcceptOffset (ownWin fn) s = completeOk stSrv (ownWin fn) { s with srv := { s.srv with acceptCmd := true } } := by
  rw [opAcceptOffset, srvCommand_permitted ht _ (secureSt_of_secure hs)]
  exact if_neg (by simp [hrej, hs])

theorem opNougatReset_resets (hs : s.secureSt fn.val = true) :
    opNougatReset (ownWin fn) s = completeOk stSrv (ownWin fn) (resetModel (s.rd (fn.val + 1) F.SRV_ARG0 % 2) s) :=
  srvCommand_permitted ht _ hs

theorem opAtomTuneNow_steer (ack : Bool) (hs : s.secureSt fn.val = true) (hmode : s.sh F.SRV_HO_CFG_ATOM_MODE = 1) :
    opAtomTuneNow (ownWin fn) ack s = completeOk stSrv (ownWin fn) (tuneWrite ack s) := by
  rw [opAtomTuneNow, srvCommand_permitted ht _ hs]
  exact if_pos hmode

end

/-! ### The configuration words -/

/-- Bits cut to w fit a field of w bits. -/
theorem bits_mod (v lo w : Nat) : bits v lo w % 2 ^ w = bits v lo w := Nat.mod_mod _ _

theorem bits_lt (v lo w : Nat) : bits v lo w < 2 ^ w := Nat.mod_lt _ (Nat.two_pow_pos w)

/-- SRV_CTRL as a write of v leaves it: UPD_LOG2 at most 10 and OFFSET_N at least 1 (R126, R138). -/
def srvCtrlSet (v : Nat) (s : State) : State :=
  ((s.wr 0 F.SRV_CTRL_RATE_OWNER (bits v 0 1)).wr 0 F.SRV_CTRL_UPD_LOG2 (min (bits v 1 4) 10)).wr 0 F.SRV_CTRL_OFFSET_N
    (if bits v 8 8 = 0 then 1 else bits v 8 8)

theorem writeSrvCtrl_stores {fn v : Nat} {s : State} (ht : s.takesWrite .srv fn = true) (hs : s.secure fn = true) :
    writeSrvCtrl fn v s = srvCtrlSet v s := by
  rw [writeSrvCtrl, writeAtDoor_takes _ _ _ _ _ ht]
  exact if_neg (by simp [secureSt_of_secure hs, hs])

theorem srvCtrlSet_reads (v : Nat) (s : State) :
    (srvCtrlSet v s).sh F.SRV_CTRL_RATE_OWNER = bits v 0 1 ∧ (srvCtrlSet v s).sh F.SRV_CTRL_UPD_LOG2 = min (bits v 1 4) 10 ∧
      (srvCtrlSet v s).sh F.SRV_CTRL_OFFSET_N = if bits v 8 8 = 0 then 1 else bits v 8 8 := by
  have hn : (if bits v 8 8 = 0 then 1 else bits v 8 8) < 2 ^ 8 := by
    split
    · decide
    · exact bits_lt v 8 8
  have hu : min (bits v 1 4) 10 < 2 ^ 4 := (Nat.min_le_right _ _).trans_lt (by decide)
  simp (disch := decide) only [srvCtrlSet, sh_wr_self, sh_wr_ne]
  exact ⟨bits_mod v 0 1, Nat.mod_eq_of_lt hu, Nat.mod_eq_of_lt hn⟩

theorem srvCtrlSet_onlyCopy (v : Nat) (s : State) : onlyCopy 0 s (srvCtrlSet v s) := by
  unfold srvCtrlSet
  repeat' apply onlyCopy_wr _ (by decide)
  exact onlyCopy_refl 0 s

/-- A temperature source as SRV_HO_CFG stores it: the reserved code 3 is none (Table 5.12). -/
def storedTempSrc (x : Nat) : Nat := if x = 3 then 0 else x

/-- SRV_HO_CFG as a write of v leaves it. -/
def hoCfgSet (v : Nat) (s : State) : State :=
  let t := ((s.wr 0 F.SRV_HO_CFG_HO_SRC (bits v 0 1)).wr 0 F.SRV_HO_CFG_ATOM_MODE (bits v 1 1)).wr 0 F.SRV_HO_CFG_ATOM_ALM_POL (bits v 2 1)
  let t := (t.wr 0 F.SRV_HO_CFG_OD_HO_TRACK (bits v 3 1)).wr 0 F.SRV_HO_CFG_TEMP_SRC0 (storedTempSrc (bits v 4 2))
  (t.wr 0 F.SRV_HO_CFG_TEMP_SRC1 (storedTempSrc (bits v 6 2))).wr 0 F.SRV_HO_CFG_ATOM_SETTLE_S (bits v 16 16)

/-- A write of SRV_HO_CFG by the secure world stores it, and the conditions of R146 are looked at with the new polarity. -/
theorem writeHoCfg_stores {fn v : Nat} {s : State} (ht : s.takesWrite .srv fn = true) (hs : s.secure fn = true) :
    writeHoCfg fn v s = atomWatch (hoCfgSet v s) := by
  rw [writeHoCfg, writeAtDoor_takes _ _ _ _ _ ht]
  exact if_neg (by simp [secureSt_of_secure hs, hs])

/-- Looking at the failure conditions writes one register, ATOM_STATUS.ALM. -/
theorem sh_atomWatch (s : State) {f : FieldRef} (h : f.key 0 ≠ F.SRV_ATOM_STATUS_ALM.key 0) : (atomWatch s).sh f = s.sh f :=
  sh_wr_ne s _ h

theorem hoCfgSet_reads (v : Nat) (s : State) :
    (hoCfgSet v s).sh F.SRV_HO_CFG_HO_SRC = bits v 0 1 ∧ (hoCfgSet v s).sh F.SRV_HO_CFG_ATOM_MODE = bits v 1 1 ∧
      (hoCfgSet v s).sh F.SRV_HO_CFG_ATOM_ALM_POL = bits v 2 1 ∧ (hoCfgSet v s).sh F.SRV_HO_CFG_ATOM_SETTLE_S = bits v 16 16 := by
  simp (disch := decide) only [hoCfgSet, sh_wr_self, sh_wr_ne]
  exact ⟨bits_mod v 0 1, bits_mod v 1 1, bits_mod v 2 1, bits_mod v 16 16⟩

theorem atomWatch_hoCfgSet_sameMem (v : Nat) (s : State) : sameMem s (atomWatch (hoCfgSet v s)) := ⟨rfl, rfl, rfl⟩

/-! ### Nougat samples -/

theorem ng_setNg (m : Nat) (g : NgModel) (s : State) : (s.setNg m g).ng m = g := tgetD_tset_self _ _ _ _

theorem ng_wr (s : State) (c : Nat) (f : FieldRef) (v m : Nat) : (s.wr c f v).ng m = s.ng m := rfl

theorem srv_of_onlyEvents {s t : State} (h : onlyEvents s t) : t.srv = s.srv := by
  rw [h.1]

/-- An event leaves the models. -/
theorem ng_post (e : EvRef) (obj m : Nat) (s : State) : (post e obj s).ng m = s.ng m := by
  rw [State.ng, srv_of_onlyEvents (onlyEvents_post e obj s), State.ng]

theorem ng_setNgState (m st k : Nat) (s : State) : (setNgState m st s).ng k = s.ng k := by
  rw [setNgState]
  split
  · rfl
  · rw [ng_post, ng_wr]

/-- A fit is stored in registers. -/
theorem ng_storeFit (m k : Nat) (g : NgModel) (s : State) : (storeFit m g s).ng k = s.ng k := rfl

/-! The tick, the registers and what is computed from them do not look at the models. -/

theorem frc_setNg (m : Nat) (g : NgModel) (s : State) : (s.setNg m g).frc = s.frc := rfl
theorem sh_setNg (m : Nat) (g : NgModel) (s : State) (f : FieldRef) : (s.setNg m g).sh f = s.sh f := rfl
theorem sys_setNg (m : Nat) (g : NgModel) (s : State) : (s.setNg m g).srv.sys = s.srv.sys := rfl
theorem training_setNg (m : Nat) (g : NgModel) (s : State) : training (s.setNg m g) = training s := rfl
theorem tuneFreq_setNg (m : Nat) (g : NgModel) (s : State) : tuneFreq (s.setNg m g) = tuneFreq s := rfl
theorem ngTheta_setNg (m : Nat) (g : NgModel) (s : State) (k : Nat) : ngTheta (s.setNg m g) k = ngTheta s k := rfl

/-- A model's state after a sample that has made it g, with its hours of training (Table 5.3); back is that θ lies in the samples' span again. -/
def ngJudged (m hrs : Nat) (g : NgModel) (back : Bool) (t : State) : State :=
  if ngState t m = 0 ∧ t.sh (trainMin m) ≤ hrs then setNgState m 1 (t.setNg m { g with bad := 0, okRun := 0 })
  else if ngState t m = 1 ∧ 3 ≤ g.bad then setNgState m 2 (t.setNg m { g with bad := 0, okRun := 0 })
  else if ngState t m = 2 ∧ 3 ≤ g.okRun ∧ back = true then setNgState m 1 (t.setNg m { g with bad := 0, okRun := 0 })
  else t

/-- A change of a model's state restarts its counts and keeps its samples. -/
theorem ngJudged_keeps {m : Nat} {g : NgModel} {t : State} (hrs : Nat) (back : Bool) (ht : t.ng m = g) :
    ((ngJudged m hrs g back t).ng m).samples = g.samples ∧ ((ngJudged m hrs g back t).ng m).lastTry = g.lastTry := by
  have hchanged (st : Nat) : ((setNgState m st (t.setNg m { g with bad := 0, okRun := 0 })).ng m).samples = g.samples ∧
      ((setNgState m st (t.setNg m { g with bad := 0, okRun := 0 })).ng m).lastTry = g.lastTry := by
    rw [ng_setNgState, ng_setNg]
    exact ⟨rfl, rfl⟩
  unfold ngJudged
  split_ifs
  · exact hchanged 1
  · exact hchanged 2
  · exact hchanged 1
  · rw [ht]
    exact ⟨rfl, rfl⟩

section
variable {m : Nat} {y : Rat} {s : State} (hdue : (s.ng m).lastTry + 15625000000 ≤ s.frc) (hruns : stewardRuns s = true)
  (htrain : training s = true) (hmean : winMean (oscOffset m) (s.frc - 156250000000) s.frc s.frc s.srv.sys.hist = some y)
include hdue hruns htrain hmean

/-- Under the training conditions, a sample that is due makes the model one sample longer; it is fitted and judged (R152). -/
theorem nougatSample_judges : ∃ (hrs : Nat) (g : NgModel) (back : Bool) (t : State),
    nougatSample m s = ngJudged m hrs g back ((storeFit m g (t.setNg m g)).wr 0 (trainH m) hrs) ∧ g.lastTry = s.frc ∧
      g.samples = (s.ng m).samples ++
        [⟨s.frc, if m = 1 ∧ s.sh F.SRV_HO_CFG_ATOM_MODE = 1 then y - tuneFreq s else y, ngTheta s m⟩] := by
  have hnow : ¬ (s.frc < (s.ng m).lastTry + 10 * ticksPerSec ∨ (!stewardRuns s) = true) := by
    simp [hruns, ticksPerSec, hdue]
  have hwindow : 100 * ticksPerSec = 156250000000 := rfl
  simp only [nougatSample, if_neg hnow, frc_setNg, sh_setNg, sys_setNg, training_setNg, tuneFreq_setNg, ngTheta_setNg, ng_setNg, htrain, if_true,
    hwindow, hmean]
  exact ⟨_, _, _, _, rfl, rfl, rfl⟩

theorem nougatSample_appends :
    ((nougatSample m s).ng m).samples = (s.ng m).samples ++
        [⟨s.frc, if m = 1 ∧ s.sh F.SRV_HO_CFG_ATOM_MODE = 1 then y - tuneFreq s else y, ngTheta s m⟩] ∧
      ((nougatSample m s).ng m).lastTry = s.frc := by
  obtain ⟨hrs, g, back, t, hsample, htick, hlonger⟩ := nougatSample_judges hdue hruns htrain hmean
  have hfitted : ((storeFit m g (t.setNg m g)).wr 0 (trainH m) hrs).ng m = g := by
    rw [ng_wr, ng_storeFit, ng_setNg]
  obtain ⟨hsamples, hlast⟩ := ngJudged_keeps hrs back hfitted
  rw [hsample, hsamples, hlast]
  exact ⟨hlonger, htick⟩

end

/-! ### The atomic oscillator -/

/-- In STEER mode under the training conditions, a tune word that is due is written (R157). -/
theorem atomTune_steers {s : State} (ack : Bool) (hmode : s.sh F.SRV_HO_CFG_ATOM_MODE = 1) (htrain : training s = true)
    (hruns : stewardRuns s = true) (hdue : s.srv.tuneAt + s.sh F.SRV_ATOM_CFG_TUNE_S * 1562500000 ≤ s.frc) :
    atomTune ack s = tuneWrite ack (s.wr 0 F.SRV_ATOM_STATUS_STEERING 1) := by
  have hperiod : (s.wr 0 F.SRV_ATOM_STATUS_STEERING 1).sh F.SRV_ATOM_CFG_TUNE_S = s.sh F.SRV_ATOM_CFG_TUNE_S := sh_wr_ne s 1 (by decide)
  have hon : (s.sh F.SRV_HO_CFG_ATOM_MODE == 1 && training s && stewardRuns s) = true := by simp [hmode, htrain, hruns]
  rw [atomTune, hon]
  refine if_pos ?_
  simp [b2n, hperiod, ticksPerSec, hdue]

/-- Outside STEER mode nothing steers. -/
theorem atomTune_idle {s : State} (ack : Bool) (hmode : s.sh F.SRV_HO_CFG_ATOM_MODE ≠ 1) :
    atomTune ack s = s.wr 0 F.SRV_ATOM_STATUS_STEERING 0 := by
  have hoff : (s.sh F.SRV_HO_CFG_ATOM_MODE == 1 && training s && stewardRuns s) = false := by simp [hmode]
  rw [atomTune, hoff]
  rfl

/-- Settles O14: each row is one operation of the servo, and each clause is the branch of it that its conditions select. That an accepted offset waits
for the next update, that a PHASE_STEP adds to the steward's pending ADJUST and that the target offset rises when that is taken, is the model's choice
(assumptions 61 and 65), as is when the conditions of ATOM_IN are looked at (67). -/
theorem servoCommands : Obligations.ServoCommands := by
  unfold Obligations.ServoCommands
  refine ⟨?update, ?stall, ?step, ?accept, ?reset, ?tuneNow, ?ctrl, ?hoCfg, ?alarm, ?sample, ?steer, ?idle⟩
  case update => exact fun s hruns hdoor hnew hahead => by rw [exec_servoUpdate, servoUpdate_inTime rfl hruns hdoor hnew hahead]
  case stall => exact fun s hproof hstall hlate => by rw [exec_servoStall, servoStall_raises hproof hstall hlate]
  case step => exact fun fn s ht hs hrat hpend hstep hoffset => by rw [exec_phaseStep, opPhaseStep_adjusts ht hs rfl rfl hrat hpend hstep hoffset]
  case accept => exact fun fn s ht hs hrej => by rw [exec_acceptOffset, opAcceptOffset_notes ht hs hrej]
  case reset => exact fun fn s ht hs => by rw [exec_nougatReset, opNougatReset_resets ht hs]
  case tuneNow => exact fun fn ack s ht hs hmode => by rw [exec_atomTuneNow, opAtomTuneNow_steer ht ack hs hmode]
  case ctrl =>
    intro fn value s ht hs
    obtain ⟨howner, hupd, hoffset⟩ := srvCtrlSet_reads value.toNat s
    exact ⟨srvCtrlSet value.toNat s, by rw [exec_rateOwnerWrite, writeSrvCtrl_stores ht hs], howner, hupd, hoffset, srvCtrlSet_onlyCopy _ s⟩
  case hoCfg =>
    intro fn value s ht hs
    refine ⟨atomWatch (hoCfgSet value.toNat s), by rw [exec_hoSrcWrite, writeHoCfg_stores ht hs], ?_⟩
    simp (disch := decide) only [sh_atomWatch]
    obtain ⟨hsrc, hmode, hpol, hsettle⟩ := hoCfgSet_reads value.toNat s
    exact ⟨hsrc, hmode, hpol, hsettle, atomWatch_hoCfgSet_sameMem _ s⟩
  case alarm => exact fun level s => by rw [exec_atomAlm, atomAlm]
  case sample => exact fun model y s hdue hruns htrain hmean => ⟨_, exec_nougatSample model s, nougatSample_appends hdue hruns htrain hmean⟩
  case steer => exact fun ack s hmode htrain hruns hdue => by rw [exec_atomTune, atomTune_steers ack hmode htrain hruns hdue]
  case idle => exact fun ack s hmode => by rw [exec_atomTune, atomTune_idle ack hmode]

end Sys2Proof.Machine
end

section
/-! PROOFS. The CRC of time-of-day frames and of the chain's markers, octet by octet (R184). -/

namespace Sys2Proof.Machine

/-- One bit of the CRC: a shift to the left, reduced by the polynomial 0x1021 where a 1 leaves the 16 bits (R184). -/
def crcBit (c : Nat) : Nat := if c < 0x8000 then 2 * c else (2 * c - 0x10000) ^^^ 0x1021

theorem crcBit_lt {c : Nat} (h : c < 2 ^ 16) : crcBit c < 2 ^ 16 := by
  unfold crcBit
  split
  · omega
  · exact Nat.xor_lt_two_pow (by omega) (by decide)

theorem iterate_crcBit_lt (n : Nat) {c : Nat} (h : c < 2 ^ 16) : crcBit^[n] c < 2 ^ 16 :=
  Function.Iterate.rec (· < 2 ^ 16) h (fun _ => crcBit_lt) n

/-- On 16 bits, the remainder of the model's shift is the subtraction of the bit that leaves. -/
theorem crcStep_eq_iterate (n : Nat) {c : Nat} (h : c < 2 ^ 16) : crcStep 16 0x1021 n c = crcBit^[n] c := by
  induction n generalizing c with
  | zero => rfl
  | succ n ih =>
    have hbit : (if c < 2 ^ (16 - 1) then 2 * c % 2 ^ 16 else 2 * c % 2 ^ 16 ^^^ 0x1021) = crcBit c := by
      unfold crcBit
      split
      · rw [if_pos ‹_›, Nat.mod_eq_of_lt (by omega)]
      · rw [if_neg ‹_›, show 2 * c % 2 ^ 16 = 2 * c - 0x10000 by omega]
    rw [crcStep, hbit, ih (crcBit_lt h), Function.iterate_succ_apply]

theorem octet_shifted_lt (b : Byte) : 256 * b.toNat < 2 ^ 16 := by
  have := b.isLt
  omega

theorem crc16_append (o : Octets) (b : Byte) : crc16 (o ++ [b]) = crcStep 16 0x1021 8 (crc16 o ^^^ (256 * b.toNat)) := by
  simp only [crc16, crcMsb, List.foldl_append, List.foldl_cons, List.foldl_nil, Nat.mul_comm b.toNat, Nat.reduceSub, Nat.reducePow]

theorem crc16_lt (o : Octets) : crc16 o < 2 ^ 16 := by
  induction o using List.reverseRecOn with
  | nil => decide
  | append_singleton o b ih =>
    have hin := Nat.xor_lt_two_pow ih (octet_shifted_lt b)
    rw [crc16_append, crcStep_eq_iterate 8 hin]
    exact iterate_crcBit_lt 8 hin

/-- Settles O58: an octet enters at the top of the 16 bits and is shifted through bit by bit; the initial and the check value are computed. -/
theorem timeOfDayCrc : Obligations.TimeOfDayCrc := by
  unfold Obligations.TimeOfDayCrc
  refine ⟨⟨rfl, ?check⟩, ?octet⟩
  case check => decide +kernel
  case octet => exact fun o b => by rw [crc16_append, crcStep_eq_iterate 8 (Nat.xor_lt_two_pow (crc16_lt o) (octet_shifted_lt b))]; rfl

end Sys2Proof.Machine
end

section
/-! PROOFS. The synthesisers' locks, retunes and losses, and the band memo's window (R165, R166, R173, R190). -/

namespace Sys2Proof.Machine

/-! ### The rows, by operation -/

/-- A band that locks reaches S1 to S5 while the door of SYN is open; S0 has no search. -/
theorem exec_retuneLocked {k : Fin 6} (band : BitVec 10) {s : State} (hk : k.val ≠ 0) (hdoor : s.doorOpen .syn = true) :
    exec (.retuneLocked k band) s = .next (retuneLocked k.val band.toNat s) :=
  congrArg Host.Outcome.next (if_neg (by simp [hk, hdoor]))
theorem exec_retuneTimeout (k : Fin 6) (s : State) : exec (.retuneTimeout k) s = .next (retuneTimeout k.val s) := rfl
theorem exec_synthLockLoss (k : Fin 6) (s : State) : exec (.synthLockLoss k) s = .next (synthLockLoss k.val s) := rfl
theorem exec_lostRetry (k : Fin 6) (s : State) : exec (.lostRetry k) s = .next (lostRetry k.val s) := rfl
theorem exec_synMemoSelWrite (fn : Fn) (value : BitVec 32) (s : State) :
    exec (.synMemoSelWrite fn value) s = .next (writeMemoSel (ownWin fn) value.toNat s) := rfl
theorem exec_memoPin (fn : Fn) (s : State) : exec (.memoPin fn) s = .next (memoCmd (ownWin fn) memoPin s) := rfl
theorem exec_memoUnpin (fn : Fn) (s : State) : exec (.memoUnpin fn) s = .next (memoCmd (ownWin fn) memoUnpin s) := rfl
theorem exec_memoInvalidate (fn : Fn) (s : State) : exec (.memoInvalidate fn) s = .next (memoCmd (ownWin fn) memoInvalidate s) := rfl

/-! ### Locks -/

/-- In SEARCHING any band may lock, and the memo takes the result (R166). -/
theorem retuneLocked_searching {k : Nat} (band : Nat) {s : State} (hst : synState s k = sySEARCH) :
    retuneLocked k band s = synLock k band (memoStore k (synM s k) band (s.wr 0 (F.SYN_S_STATUS_MEMO_HIT k) 0)) := by
  have hretune : synState s k ≠ syRETUNE := by rw [hst]; decide
  exact (if_neg hretune).trans (if_pos hst)

/-- In RETUNING the stored band or a neighbour of it locks within 4 µs, and the memo entry counts as used (R166). -/
theorem retuneLocked_retuning {k band i : Nat} {s : State} (hst : synState s k = syRETUNE) (hmemo : memoFind (s.syn k) (synM s k) = some i)
    (htime : s.frc ≤ (s.syn k).startAt + 6250) (hbelow : band ≤ (tgetD (s.syn k).memo i {}).band + 1)
    (habove : (tgetD (s.syn k).memo i {}).band ≤ band + 1) :
    retuneLocked k band s = synLock k band (((s.setSyn k { s.syn k with
      memo := tset (s.syn k).memo i { tgetD (s.syn k).memo i {} with used := (s.syn k).uses + 1 }, uses := (s.syn k).uses + 1 }).wr
        0 (F.SYN_S_STATUS_MEMO_ENTRY k) i).wr 0 (F.SYN_S_STATUS_MEMO_HIT k) 1) := by
  rw [retuneLocked, if_pos hst, hmemo]
  exact if_pos (by simp [htime, hbelow, habove])

/-! ### A retune that is too slow -/

/-- The lock mask and the BUSY mask are no registers of a synthesiser. -/
theorem sh_setSynState_ne {k : Nat} (st : Nat) (s : State) {f : FieldRef} (hstate : f.key 0 ≠ (F.SYN_S_STATUS_STATE k).key 0)
    (hlocked : f.key 0 ≠ F.SYN_STATUS_LOCKED.key 0) (hbusy : f.key 0 ≠ F.SYN_STATUS_BUSY.key 0) : (setSynState k st s).sh f = s.sh f := by
  rw [setSynState, syncSyn, sh_wr_ne _ _ hbusy, sh_wr_ne _ _ hlocked, sh_wr_ne _ _ hstate]

theorem synState_setSynState (k : Fin 6) {st : Nat} (hst : st < 8) (s : State) : synState (setSynState k.val st s) k.val = st := by
  have hkeys : ∀ k : Fin 6, (F.SYN_S_STATUS_STATE k.val).key 0 ≠ F.SYN_STATUS_LOCKED.key 0 ∧
      (F.SYN_S_STATUS_STATE k.val).key 0 ≠ F.SYN_STATUS_BUSY.key 0 := by decide
  obtain ⟨hlocked, hbusy⟩ := hkeys k
  rw [synState, setSynState, syncSyn, sh_wr_ne _ _ hbusy, sh_wr_ne _ _ hlocked, sh_wr_self]
  exact Nat.mod_eq_of_lt hst

theorem syn_setSyn (k : Nat) (y : SynK) (s : State) : (s.setSyn k y).syn k = y := tgetD_tset_self _ _ _ _

theorem out_of_onlyEvents {s t : State} (h : onlyEvents s t) : t.out = s.out := by
  rw [h.1]

/-- A retune that has taken 4 µs is reported, and the time of the search starts (Table 6.1). -/
def retuneSlow (k : Nat) (s : State) : State := post Ev.SYN_RETUNE_SLOW k (s.setSyn k { s.syn k with startAt := s.frc })

theorem retuneTimeout_late {k : Nat} {s : State} (hst : synState s k = syRETUNE) (hlate : (s.syn k).startAt + 6250 ≤ s.frc) :
    retuneTimeout k s = setSynState k sySEARCH ((retuneSlow k s).wr 0 (F.SYN_S_COUNTS_SEARCHES k)
      ((retuneSlow k s).sh (F.SYN_S_COUNTS_SEARCHES k) + 1)) :=
  if_pos ⟨hst, hlate⟩

theorem startAt_retuneSlow (k : Nat) (s : State) : ((retuneSlow k s).syn k).startAt = s.frc := by
  rw [State.syn, retuneSlow, out_of_onlyEvents (onlyEvents_post _ _ _)]
  exact congrArg SynK.startAt (syn_setSyn _ _ _)

theorem searches_retuneSlow (k : Fin 6) (s : State) :
    (retuneSlow k.val s).sh (F.SYN_S_COUNTS_SEARCHES k.val) = s.sh (F.SYN_S_COUNTS_SEARCHES k.val) := by
  have hring : ∀ k : Fin 6, erKey ((F.SYN_S_COUNTS_SEARCHES k.val).key 0) = false := by decide
  exact rd_of_onlyEvents (onlyEvents_post _ _ _) 0 _ (hring k)

/-- It becomes a search that starts now and is counted (R165). -/
theorem retuneTimeout_searches {k : Fin 6} {s : State} (hst : synState s k.val = syRETUNE) (hlate : (s.syn k.val).startAt + 6250 ≤ s.frc) :
    synState (retuneTimeout k.val s) k.val = sySEARCH ∧ ((retuneTimeout k.val s).syn k.val).startAt = s.frc ∧
      (retuneTimeout k.val s).sh (F.SYN_S_COUNTS_SEARCHES k.val) =
        (s.sh (F.SYN_S_COUNTS_SEARCHES k.val) + 1) % 2 ^ (F.SYN_S_COUNTS_SEARCHES k.val).w := by
  have hkeys : ∀ k : Fin 6, (F.SYN_S_COUNTS_SEARCHES k.val).key 0 ≠ (F.SYN_S_STATUS_STATE k.val).key 0 ∧
      (F.SYN_S_COUNTS_SEARCHES k.val).key 0 ≠ F.SYN_STATUS_LOCKED.key 0 ∧
      (F.SYN_S_COUNTS_SEARCHES k.val).key 0 ≠ F.SYN_STATUS_BUSY.key 0 := by decide
  obtain ⟨hstate, hlocked, hbusy⟩ := hkeys k
  rw [retuneTimeout_late hst hlate]
  refine ⟨synState_setSynState k (by decide) _, startAt_retuneSlow k.val s, ?_⟩
  rw [sh_setSynState_ne _ _ hstate hlocked hbusy, sh_wr_self, searches_retuneSlow]

/-! ### Loss of lock -/

theorem synthLockLoss_s0 (s : State) : synthLockLoss 0 s = raise 256 0 0 s := rfl

/-- A locked Sk stops its outputs and enters LOST, with its event and its fault source (R165, R173, Table 21.1). -/
theorem synthLockLoss_locked {k : Nat} {s : State} (hk : k ≠ 0) (hst : synState s k = syLOCKED) :
    synthLockLoss k s = (let t := stopFed k (s.setSyn k { s.syn k with startAt := s.frc })
      raise (256 + k) k 0 (post Ev.SYN_LOL k (setSynState k syLOST
        (t.wr 0 (F.SYN_S_COUNTS_LOL_COUNT k) (t.sh (F.SYN_S_COUNTS_LOL_COUNT k) + 1))))) :=
  (if_neg hk).trans (if_pos hst)

theorem lostRetry_due {k : Nat} {s : State} (hst : synState s k = syLOST) (hdue : (s.syn k).startAt + 1563 ≤ s.frc) :
    lostRetry k s = startRetune k s.frc s :=
  if_pos ⟨hst, hdue⟩

/-! ### The memo window -/

/-- The window of a copy with entry i of synthesiser k selected and latched (R166). -/
def memoLatched (c k i : Nat) (e : MemoEntry) (s : State) : State :=
  (((((((s.wr c F.SYN_MEMO_SEL_SYNTH k).wr c F.SYN_MEMO_SEL_ENTRY i).wr c F.SYN_MEMO_KEY_INT (e.key / 2 ^ 40)).wr c F.SYN_MEMO_KEY_LO e.key).wr
    c F.SYN_MEMO_KEY_HI_KEY_FRAC (e.key / 2 ^ 32)).wr c F.SYN_MEMO_KEY_HI_VALID (b2n e.valid)).wr c F.SYN_MEMO_KEY_HI_PINNED (b2n e.pinned)).wr
    c F.SYN_MEMO_BAND e.band

theorem writeMemoSel_latches {w : Win} {v k i : Nat} {s : State} (ht : s.takesWrite .syn w.fn = true) (hs : s.secureSt w.fn = true)
    (hk : bits v 0 3 = k) (hi : bits v 4 4 = i) (hlo : 1 ≤ k) (hhi : k ≤ 5) :
    writeMemoSel w v s = memoLatched w.c k i (tgetD (s.syn k).memo i {}) s := by
  have hmay : ¬ (!synMay s w.fn) = true := by simp [synMay, hs]
  rw [writeMemoSel, writeAtDoor_takes _ _ _ _ _ ht, if_neg hmay, hk, hi, if_pos ⟨hlo, hhi⟩]
  rfl

theorem b2n_lt (b : Bool) : b2n b < 2 := by
  cases b <;> decide

theorem memoLatched_reads {c k i : Nat} (e : MemoEntry) (s : State) (hk : k < 8) (hi : i < 16) :
    (memoLatched c k i e s).rd c F.SYN_MEMO_SEL_SYNTH = k ∧ (memoLatched c k i e s).rd c F.SYN_MEMO_SEL_ENTRY = i ∧
      (memoLatched c k i e s).rd c F.SYN_MEMO_KEY_LO = e.key % 2 ^ 32 ∧ (memoLatched c k i e s).rd c F.SYN_MEMO_KEY_HI_VALID = b2n e.valid ∧
      (memoLatched c k i e s).rd c F.SYN_MEMO_KEY_HI_PINNED = b2n e.pinned ∧
      (memoLatched c k i e s).rd c F.SYN_MEMO_BAND = e.band % 2 ^ F.SYN_MEMO_BAND.w := by
  simp (disch := decide) only [memoLatched, rd_wr_other_field, rd_wr_self, and_true]
  exact ⟨Nat.mod_eq_of_lt hk, Nat.mod_eq_of_lt hi, rfl, Nat.mod_eq_of_lt (b2n_lt _), Nat.mod_eq_of_lt (b2n_lt _)⟩

theorem memoLatched_onlyCopy (c k i : Nat) (e : MemoEntry) (s : State) : onlyCopy c s (memoLatched c k i e s) := by
  unfold memoLatched
  iterate 8 refine onlyCopy_wr _ (by decide) ?_
  exact onlyCopy_refl c s

/-- A memo command that reaches its register, from a function that may write SYN, changes the selected entry (R166, R190). -/
theorem memoCmd_permitted {w : Win} {s : State} (f : MemoEntry → MemoEntry) (ht : s.takesWrite .syn w.fn = true) (hs : s.secureSt w.fn = true) :
    memoCmd w f s = s.setSyn (s.rd w.c F.SYN_MEMO_SEL_SYNTH) { s.syn (s.rd w.c F.SYN_MEMO_SEL_SYNTH) with
      memo := tupd (s.syn (s.rd w.c F.SYN_MEMO_SEL_SYNTH)).memo (s.rd w.c F.SYN_MEMO_SEL_ENTRY) {} f } := by
  rw [memoCmd, writeAtDoor_takes _ _ _ _ _ ht]
  exact if_neg (by simp [synMay, hs])

/-- Settles O15: each row is one operation of the synthesiser, and each clause is the branch of it that its conditions select. The band that locks is
an operand (assumption 80); that a LOST synthesiser without a memo entry searches, and that its outputs stop as a retune starts, is the model's choice
(assumptions 73 and 74). -/
theorem synthesiserCommands : Obligations.SynthesiserCommands := by
  unfold Obligations.SynthesiserCommands
  refine ⟨?search, ?retune, ?slow, ?lossS0, ?loss, ?retry, ?select, ?pin, ?unpin, ?invalidate⟩
  case search => exact fun k band s hk hdoor hst => by rw [exec_retuneLocked band hk hdoor, retuneLocked_searching _ hst]
  case retune =>
    exact fun k band i s hk hdoor hst hmemo htime hbelow habove => by
      rw [exec_retuneLocked band hk hdoor, retuneLocked_retuning hst hmemo htime hbelow habove]
  case slow => exact fun k s hst hlate => ⟨_, exec_retuneTimeout k s, retuneTimeout_searches hst hlate⟩
  case lossS0 => exact fun s => by rw [exec_synthLockLoss, Fin.val_zero, synthLockLoss_s0]
  case loss => exact fun k s hk hst => by rw [exec_synthLockLoss, synthLockLoss_locked hk hst]
  case retry => exact fun k s hst hdue => by rw [exec_lostRetry, lostRetry_due hst hdue]
  case select =>
    intro fn value s ht hs hlo hhi
    obtain ⟨hsynth, hentry, hkey, hvalid, hpinned, hband⟩ := memoLatched_reads (c := fn.val + 1)
      (tgetD (s.syn (bits value.toNat 0 3)).memo (bits value.toNat 4 4) {}) s (bits_lt value.toNat 0 3) (bits_lt value.toNat 4 4)
    refine ⟨_, ?_, hsynth, hentry, hkey, hvalid, hpinned, hband, memoLatched_onlyCopy _ _ _ _ s⟩
    rw [exec_synMemoSelWrite, writeMemoSel_latches ht hs rfl rfl hlo hhi]
  case pin => exact fun fn s ht hs => by rw [exec_memoPin, memoCmd_permitted _ ht hs]; rfl
  case unpin => exact fun fn s ht hs => by rw [exec_memoUnpin, memoCmd_permitted _ ht hs]; rfl
  case invalidate => exact fun fn s ht hs => by rw [exec_memoInvalidate, memoCmd_permitted _ ht hs]; rfl

end Sys2Proof.Machine
end

section
/-! PROOFS. The clock outputs' changes, the pulses and the time-of-day frames (R169 to R182). -/

namespace Sys2Proof.Machine

/-! ### The rows, by operation -/

theorem exec_outputChangeApply (out : Fin 20) (s : State) : exec (.outputChangeApply out) s = .next (outputChangeApply out.val s) := rfl
theorem exec_dividerRestart (group : Fin 8) (k : Fin 6) (s : State) :
    exec (.dividerRestart group k) s = .next (dividerRestart (6 + group.val) k.val s) := rfl
theorem exec_delayReached (out : Fin 20) (s : State) : exec (.delayReached out) s = .next (delayReached out.val s) := rfl
theorem exec_pulseEmit (po : Fin 8) (tick : BitVec 64) (s : State) : exec (.pulseEmit po tick) s = .next (pulseEmit po.val tick.toNat s) := rfl
theorem exec_todFrameSend (pin : Fin 4) (s : State) : exec (.todFrameSend pin) s = .next (todSend frameSource
    (fun s src tick seq t => if src = 8 then gnssFrame s tick seq t else todFrame s src tick seq t) pin.val s) := rfl

/-! ### Clock outputs -/

/-- A change that waits for the output's own edge is applied once that edge has come (R169, R171). -/
theorem outputChangeApply_due {n : Nat} {s : State} (hwait : (s.clk n).wait = 1) (hdue : changeInstant s n ≤ (s.frc : Rat)) :
    outputChangeApply n s = applyChange n (changeInstant s n) none s :=
  (if_pos hwait).trans (if_neg (not_lt.2 hdue))

/-- The members of an aligned restart restart at the DCO edge after the last of them completes its period (R170). -/
theorem dividerRestart_due {g k : Nat} {t : Rat} {s : State} (hsome : alignMembers s g k ≠ [])
    (ht : ((alignMembers s g k).map fun n => if (s.clk n).run then risingAfter s (s.clk n) (s.clk n).since else (s.clk n).since).foldl max 0 = t)
    (hdue : t ≤ (s.frc : Rat)) :
    dividerRestart g k s = each (alignMembers s g k) (fun n => applyChange n t (some (⌈synCycle s k t⌉ : Rat))) s := by
  obtain ⟨m, ms, hms⟩ := List.exists_cons_of_ne_nil hsome
  subst ht
  rw [hms] at hdue
  rw [dividerRestart, hms]
  exact if_neg (not_lt.2 hdue)

/-- A moving delay that has arrived is the delay in effect (R174). -/
theorem delayReached_due {n : Nat} {t : Rat} {s : State} (hmove : (s.clk n).moveEnd = some t) (hdue : t ≤ (s.frc : Rat)) :
    delayReached n s = syncClk n (s.setClk n { s.clk n with
      moveEnd := none, cur := { (s.clk n).cur with phase := (clkEff s n).phase, fine := (clkEff s n).fine } }) := by
  rw [delayReached, hmove]
  exact if_neg (not_lt.2 hdue)

/-! ### Pulses -/

/-- What every member's operation leaves alone, the row of them leaves alone. -/
theorem each_leaves {α β : Type} (view : State → β) {f : α → State → State} (hf : ∀ a s, view (f a s) = view s) (l : List α) (s : State) :
    view (each l f s) = view s := by
  induction l generalizing s with
  | nil => rfl
  | cons a l ih => exact (ih (f a s)).trans (hf a s)

/-- Scheduling frames changes the pins' queues alone (R182). -/
theorem todSchedule_leaves {β : Type} (view : State → β) (hview : ∀ tods t, view { t with out := { t.out with tods := tods } } = view t)
    (src tick : Nat) (target : Int) (leap : Bool) (s : State) : view (todSchedule src tick target leap s) = view s := by
  refine each_leaves view (fun _ _ => ?_) _ s
  exact hview _ _

theorem sh_todSchedule (src tick : Nat) (target : Int) (leap : Bool) (s : State) (f : FieldRef) :
    (todSchedule src tick target leap s).sh f = s.sh f :=
  todSchedule_leaves (·.sh f) (fun _ _ => rfl) ..

theorem rd64_todSchedule (src tick : Nat) (target : Int) (leap : Bool) (s : State) (c : Nat) (lo hi : FieldRef) :
    (todSchedule src tick target leap s).rd64 c lo hi = s.rd64 c lo hi :=
  todSchedule_leaves (·.rd64 c lo hi) (fun _ _ => rfl) ..

theorem po_todSchedule (src tick : Nat) (target : Int) (leap : Bool) (s : State) (n : Nat) :
    (todSchedule src tick target leap s).po n = s.po n :=
  todSchedule_leaves (·.po n) (fun _ _ => rfl) ..

section
variable (n tick : Nat) (target : Int) (s : State)

/-- A pulse output after its target, with no new values waiting: the next target is one period later, and an emitted pulse is the last one (R177, R181). -/
def poAdvanced : PulseOut :=
  { s.po n with
      new := none
      next := some (target + (s.po n).cur.p * 2 ^ 48)
      lastEdge := if poEmits s n (s.po n).cur tick then some (poEdge s (s.po n) (s.po n).cur target tick) else (s.po n).lastEdge
      lastWidth := if poEmits s n (s.po n).cur tick then (s.po n).cur.width else (s.po n).lastWidth }

/-- The state with the output advanced, ACTIVE or SQUELCHED (R181). -/
def pulsePassed : State :=
  (s.setPo n (poAdvanced n tick target s)).wr 0 (F.OUT_PO_STATUS_STATE n) (if poEmits s n (s.po n).cur tick then 1 else 2)

/-- An emitted pulse is shown and counted; the first of a squelched run is reported (R177, R181). -/
def pulseShown : State :=
  if poEmits s n (s.po n).cur tick then
    ((pulsePassed n tick target s).wr64 0 (F.OUT_PO_LAST_LO n) (F.OUT_PO_LAST_HI n)
      (ceilDiv (poEdge s (s.po n) (s.po n).cur target tick) 128)).wr 0 (F.OUT_PO_STATUS_PULSES n)
        ((pulsePassed n tick target s).sh (F.OUT_PO_STATUS_PULSES n) + 1)
  else onlyIf (s.sh (F.OUT_PO_STATUS_STATE n) != 2) (post Ev.OUT_PO_SQUELCH n) (pulsePassed n tick target s)

variable {n tick target s}

/-- With no new values waiting, the tick at which the followed time reaches the target passes it and schedules the frames of its pulse. -/
theorem pulseEmit_due (hdoor : s.doorOpen .out = true) (hnext : (s.po n).next = some target) (hnew : (s.po n).new = none) (htick : tick ≤ s.frc)
    (hat : poAt s (s.po n) (s.po n).cur target tick = true) :
    pulseEmit n tick s = todSchedule n tick (poLabel (s.po n) target) (s.vc (s.po n).cur.vc).leapUntil.isSome (pulseShown n tick target s) := by
  have hreached : ¬ (decide (s.frc < tick) || !poAt s (s.po n) (s.po n).cur target tick) = true := by
    simp [hat, htick]
  rw [pulseEmit, if_pos hdoor, hnext, hnew]
  exact if_neg hreached

end

theorem po_setPo (n : Nat) (p : PulseOut) (s : State) : (s.setPo n p).po n = p := tgetD_tset_self _ _ _ _

theorem po_post (e : EvRef) (obj n : Nat) (s : State) : (post e obj s).po n = s.po n := by
  rw [State.po, out_of_onlyEvents (onlyEvents_post e obj s)]
  rfl

theorem po_pulseShown (n tick : Nat) (target : Int) (s : State) : (pulseShown n tick target s).po n = poAdvanced n tick target s := by
  have hpassed : (pulsePassed n tick target s).po n = poAdvanced n tick target s := po_setPo _ _ _
  unfold pulseShown onlyIf
  split_ifs
  · exact hpassed
  · rw [po_post, hpassed]
  · exact hpassed

section
variable {tick : Nat} {target : Int} {s : State} (n : Fin 8)

/-- STATE is neither of a pulse's two results nor a register of the event rings. -/
theorem state_pulseShown :
    (pulseShown n.val tick target s).sh (F.OUT_PO_STATUS_STATE n.val) = if poEmits s n.val (s.po n.val).cur tick then 1 else 2 := by
  have hkeys : ∀ n : Fin 8, (F.OUT_PO_STATUS_STATE n.val).key 0 ≠ (F.OUT_PO_STATUS_PULSES n.val).key 0 ∧
      (F.OUT_PO_STATUS_STATE n.val).key 0 ≠ (F.OUT_PO_LAST_LO n.val).key 0 ∧
      (F.OUT_PO_STATUS_STATE n.val).key 0 ≠ (F.OUT_PO_LAST_HI n.val).key 0 ∧ erKey ((F.OUT_PO_STATUS_STATE n.val).key 0) = false := by decide
  obtain ⟨hpulses, hlo, hhi, hring⟩ := hkeys n
  have hpassed : (pulsePassed n.val tick target s).sh (F.OUT_PO_STATUS_STATE n.val) =
      if poEmits s n.val (s.po n.val).cur tick then 1 else 2 := by
    rw [pulsePassed, sh_wr_self]
    split <;> rfl
  rw [← hpassed, pulseShown, onlyIf]
  split_ifs
  · rw [sh_wr_ne _ _ hpulses, State.wr64, sh_wr_ne _ _ hhi, sh_wr_ne _ _ hlo]
  · exact rd_of_onlyEvents (onlyEvents_post _ _ _) 0 _ hring
  · rfl

variable (hemit : poEmits s n.val (s.po n.val).cur tick = true)
include hemit

theorem pulses_pulseShown : (pulseShown n.val tick target s).sh (F.OUT_PO_STATUS_PULSES n.val) =
    (s.sh (F.OUT_PO_STATUS_PULSES n.val) + 1) % 2 ^ (F.OUT_PO_STATUS_PULSES n.val).w := by
  have hstate : ∀ n : Fin 8, (F.OUT_PO_STATUS_PULSES n.val).key 0 ≠ (F.OUT_PO_STATUS_STATE n.val).key 0 := by decide
  have hpassed : (pulsePassed n.val tick target s).sh (F.OUT_PO_STATUS_PULSES n.val) = s.sh (F.OUT_PO_STATUS_PULSES n.val) :=
    sh_wr_ne _ _ (hstate n)
  rw [pulseShown, if_pos hemit, sh_wr_self, hpassed]

theorem last_pulseShown : (pulseShown n.val tick target s).rd64 0 (F.OUT_PO_LAST_LO n.val) (F.OUT_PO_LAST_HI n.val) =
    ceilDiv (poEdge s (s.po n.val) (s.po n.val).cur target tick) 128 % 2 ^ 64 := by
  have hkeys : ∀ n : Fin 8, (F.OUT_PO_LAST_LO n.val).key 0 ≠ (F.OUT_PO_STATUS_PULSES n.val).key 0 ∧
      (F.OUT_PO_LAST_HI n.val).key 0 ≠ (F.OUT_PO_STATUS_PULSES n.val).key 0 ∧
      (F.OUT_PO_LAST_LO n.val).key 0 ≠ (F.OUT_PO_LAST_HI n.val).key 0 := by decide
  obtain ⟨hlo, hhi, hwords⟩ := hkeys n
  rw [pulseShown, if_pos hemit, rd64_wr_ne _ _ hlo hhi, rd64_wr64_words _ _ _ rfl rfl hwords]

end

/-! ### Time-of-day frames -/

/-- A frame that is not sent changes no queue. -/
theorem out_todSkip (j : Nat) (s : State) : (todSkip j s).out = s.out :=
  (out_of_onlyEvents (onlyEvents_post _ _ _)).trans (wr_out _ _ _ _)

/-- A frame that is due leaves its pin's queue, whether it is sent, skipped or has no sentence (R182, R183, R186). -/
theorem todSend_dequeues (source : State → Nat → Nat → Option TodSource) (frame : State → Nat → Nat → Nat → TodSource → Octets) {j : Nat}
    {d : TodDue} {rest : List TodDue} {s : State} (hqueue : (tgetD s.out.tods j {}).due = d :: rest) (hdue : d.at_ ≤ s.frc) :
    (tgetD (todSend source frame j s).out.tods j {}).due = rest := by
  have hput (x : TodOut) (tods : Tbl TodOut) (hx : x.due = rest) : (tgetD (tset tods j x) j {}).due = rest := by
    rw [tgetD_tset_self, hx]
  rw [todSend, hqueue]
  simp only [if_neg (Nat.not_lt.2 hdue)]
  split
  next =>
    rw [out_todSkip]
    exact hput _ _ rfl
  next =>
    split
    next => exact hput _ _ rfl
    next =>
      split_ifs
      · rw [out_todSkip]
        exact hput _ _ rfl
      · exact hput _ _ rfl
      · exact hput _ _ rfl

theorem todSend_empty (source : State → Nat → Nat → Option TodSource) (frame : State → Nat → Nat → Nat → TodSource → Octets) {j : Nat}
    {s : State} (hqueue : (tgetD s.out.tods j {}).due = []) : todSend source frame j s = s := by
  rw [todSend, hqueue]

/-- Settles O16: each row acts once what it waits for has come. That the arrival of a moved delay is fixed at the move, and that a frame takes its
configuration at its pulse, is the model's choice (assumptions 76 and 77). -/
theorem outputCommands : Obligations.OutputCommands := by
  unfold Obligations.OutputCommands
  refine ⟨?change, ?restart, ?delay, ?pulse, ?frame, ?noFrame⟩
  case change => exact fun out s hwait hdue => by rw [exec_outputChangeApply, outputChangeApply_due hwait hdue]
  case restart => exact fun group k t s hsome ht hdue => by rw [exec_dividerRestart, dividerRestart_due hsome ht hdue]
  case delay => exact fun out t s hmove hdue => by rw [exec_delayReached, delayReached_due hmove hdue]
  case pulse =>
    intro po tick target s hdoor hnext hnew htick hat
    refine ⟨_, exec_pulseEmit po tick s, ?_⟩
    rw [pulseEmit_due hdoor hnext hnew htick hat, po_todSchedule, po_pulseShown]
    simp only [sh_todSchedule, rd64_todSchedule]
    exact ⟨rfl, state_pulseShown po, rfl, fun hemit => ⟨pulses_pulseShown po hemit, last_pulseShown po hemit⟩⟩
  case frame => exact fun pin d rest s hqueue hdue => ⟨_, exec_todFrameSend pin s, todSend_dequeues _ _ hqueue hdue⟩
  case noFrame => exact fun pin s hqueue => by rw [exec_todFrameSend, todSend_empty _ _ hqueue]

end Sys2Proof.Machine
end

section
/-! PROOFS. The channels, gates and interpolators of the time-interval measurement (R192 to R206, R214). -/

namespace Sys2Proof.Machine

/-! ### The rows, by operation -/

theorem exec_tdcEdge (ch : Fin 16) (tick : BitVec 64) (sub : Fin 640) (code : BitVec 12) (falling : Bool) (s : State) :
    exec (.tdcEdge ch tick sub code falling) s = .next (tdcEdge ch.val tick.toNat sub.val code.toNat falling s) := rfl
theorem exec_calPair (point : Fin 105) (half : Fin 2) (c1 c2 : BitVec 12) (s : State) :
    exec (.calPair point half c1 c2) s = .next (calPair point.val half.val c1.toNat c2.toNat s) := rfl
theorem exec_tdcRecordWrite (ch : Fin 16) (s : State) : exec (.tdcRecordWrite ch) s = .next (tdcRecordWrite ch.val s) := rfl
theorem exec_tdcChEn (fn : Fn) (ch : Fin 16) (value : BitVec 32) (s : State) :
    exec (.tdcChEn fn ch value) s = .next (writeChCfg fn.val ch.val value.toNat s) := rfl
theorem exec_tdcDrained (ch : Fin 16) (s : State) : exec (.tdcDrained ch) s = .next (tdcDrained ch.val s) := rfl
theorem exec_tdcGateArm (fn : Fn) (gate : Fin 4) (s : State) : exec (.tdcGateArm fn gate) s = .next (writeTdcGate fn.val gate.val true s) := rfl
theorem exec_tdcGateDisarm (fn : Fn) (gate : Fin 4) (s : State) :
    exec (.tdcGateDisarm fn gate) s = .next (writeTdcGate fn.val gate.val false s) := rfl
theorem exec_tdcGateEdge (gate : Fin 4) (tick : BitVec 64) (sub : Fin 640) (code : BitVec 12) (falling : Bool) (s : State) :
    exec (.tdcGateEdge gate tick sub code falling) s = .next (tdcGateEdge gate.val tick.toNat sub.val code.toNat falling s) := rfl
theorem exec_tdcGateFrcWindow (gate : Fin 4) (s : State) : exec (.tdcGateFrcWindow gate) s = .next (tdcGateWindow gate.val s) := rfl

/-! ### Edges at a stamp point -/

/-- Without a half that can take it, an edge is lost and leaves no trace at its point (R197). -/
theorem takeEdge_lost {p f sub : Nat} (x : Nat) {s : State} (hhalf : halfFor s p (f * 640 + sub) = none) : takeEdge p f sub x s = (none, s) := by
  rw [takeEdge, hhalf]

/-- The half that takes an edge converts its code with the half's own pair (R192, R196). -/
theorem takeEdge_stamp {p f sub h : Nat} (x : Nat) {s : State} (hhalf : halfFor s p (f * 640 + sub) = some h) :
    (takeEdge p f sub x s).1 = some (
      let pr := (s.half p h).pair.getD (0, 0)
      let c := convert p f x pr.1 pr.2
      (c.1, h, c.2)) := by
  rw [takeEdge, hhalf]

section
variable {n f sub : Nat} {falling : Bool} {s : State} (hdoor : s.doorOpen .tdc = true) (hstate : chState s n ≠ 0)
  (hfrom : (s.chan n).from_ ≤ f) (huntil : (s.chan n).until_ = none) (hsel : edgeSelected s n falling = true)
include hdoor hstate hfrom huntil hsel

/-- A lost edge of a live channel is counted, and the next record reports it (R197). -/
theorem tdcEdge_lost (x : Nat) (hhalf : halfFor s n (f * 640 + sub) = none) :
    tdcEdge n f sub x falling s = (s.setChan n { s.chan n with lost := (s.chan n).lost + 1 }).wr 0 (F.TDC_CH_COUNTS_LOST n)
      (s.sh (F.TDC_CH_COUNTS_LOST n) + 1) := by
  rw [tdcEdge, huntil]
  refine (if_neg (by simp [hdoor, hstate, hfrom, hsel])).trans ?_
  rw [takeEdge_lost x hhalf]

/-- A taken edge of a live channel shows the pair of its half, and its record enters the FIFO where the gate lets it (R192, R206). -/
theorem tdcEdge_taken (x : Nat) {h c1 c2 : Nat} (hhalf : halfFor s n (f * 640 + sub) = some h) (hpair : (s.half n h).pair = some (c1, c2)) :
    tdcEdge n f sub x falling s = (
      let c := convert n f x c1 c2
      let t := ((takeEdge n f sub x s).2.wr 0 (F.TDC_CH_CAL_C1 n) c1).wr 0 (F.TDC_CH_CAL_C2 n) c2
      if inGate t n c.1 then fifoPut n { stamp := c.1, falling := falling, half := h, clamp := c.2 } t else t) := by
  have htake := takeEdge_stamp x hhalf
  rw [tdcEdge, huntil]
  refine (if_neg (by simp [hdoor, hstate, hfrom, hsel])).trans ?_
  simp only [htake, hpair, Option.getD_some]

end

/-! ### Calibration pairs -/

section
variable {p h c1 c2 : Nat} {s : State}

/-- A pair within the limits is the pair of its half, which is not FAILED (R194, R195). -/
theorem calPair_accepted (hlo : c1 + 768 ≤ c2) (hhi : c2 ≤ c1 + 1280) (hok : (s.half p h).failed = false) :
    calPair p h c1 c2 s = syncHalves p (s.setHalf p h { s.half p h with pair := some (c1, c2), rej := 0, acc := (s.half p h).acc + 1 }) := by
  rw [calPair, if_pos ⟨hlo, hhi⟩]
  simp only [hok, Bool.false_and, onlyIf, Bool.false_eq_true, if_false]

/-- A pair outside the limits counts against its half, which fails at the fourth in a row (R195). -/
theorem calPair_rejected (hout : ¬ (c1 + 768 ≤ c2 ∧ c2 ≤ c1 + 1280)) (hrej : (s.half p h).rej + 1 < 4) :
    calPair p h c1 c2 s = syncHalves p (s.setHalf p h { s.half p h with rej := (s.half p h).rej + 1, acc := 0 }) := by
  have hfew : decide (4 ≤ (s.half p h).rej + 1) = false := decide_eq_false (Nat.not_le.2 hrej)
  rw [calPair, if_neg hout]
  simp only [hfew, Bool.and_false, Bool.or_false, Bool.false_eq_true, if_false]

end

/-! ### The writer and the channels -/

/-- The writer moves the oldest record into a ring that has room, or that overwrites (R200 to R202). -/
theorem tdcRecordWrite_writes {n : Nat} {r : TdcRec} {rest : List TdcRec} {s : State} (hdoor : s.doorOpen .tdc = true)
    (hfifo : (s.chan n).fifo = r :: rest) (hroom : (ringFull s n && s.sh (F.TDC_CH_CFG_OVF_MODE n) == 0) = false) :
    tdcRecordWrite n s = (
      let w := s.sh (F.TDC_CH_WR_IDX n)
      let wm := s.sh (F.TDC_CH_WM n)
      syncFull n (onlyIf (wm != 0 && wsub 32 w (s.sh (F.TDC_CH_RD_IDX n)) + 1 == wm) (post Ev.TDC_RING_WM n)
        (((s.shmWrite (s.sh (F.TDC_CH_RING_BASE n) + 16 * (w % ringSize s n)) (tdcOctets n r ((s.chan n).carry + r.lost) (s.chan n).seq)).setChan n
          { s.chan n with fifo := rest, carry := 0, seq := ((s.chan n).seq + 1) % 2 ^ 32 }).wr 0 (F.TDC_CH_WR_IDX n) (w + 1)))) := by
  rw [tdcRecordWrite, if_pos hdoor, hfifo]
  exact if_neg (by simp [hroom])

/-- The configuration of a channel that is OFF, as a write of v leaves it; EN follows (R198, R201, R203, R206). -/
def chCfgSet (n v : Nat) (s : State) : State :=
  (((((s.wr 0 (F.TDC_CH_CFG_SRC n) (bits v 1 2)).wr 0 (F.TDC_CH_CFG_EDGE n) (min (bits v 3 2) 2)).wr 0 (F.TDC_CH_CFG_OVF_MODE n) (bits v 5 1)).wr
    0 (F.TDC_CH_CFG_GATE_EN n) (bits v 6 1)).wr 0 (F.TDC_CH_CFG_GATE_SEL n) (bits v 7 2)).wr 0 (F.TDC_CH_CFG_OWNER n) (bits v 16 9)

theorem writeChCfg_off {fn n v : Nat} {s : State} (ht : s.takesWrite .tdc fn = true) (hs : s.secureSt fn = true) (hoff : chState s n = 0) :
    writeChCfg fn n v s = chEnable n (bitOf v 0) (chCfgSet n v s) := by
  have hmay : ¬ (!tdcMay s n fn || (!s.secureSt fn && bits v 16 9 != s.sh (F.TDC_CH_CFG_OWNER n))) = true := by simp [tdcMay, hs]
  rw [writeChCfg, writeAtDoor_takes _ _ _ _ _ ht, if_neg hmay]
  dsimp only
  rw [if_neg (not_not_intro hoff), chCfgSet]

/-- A channel on its way to OFF is OFF once its last tick has passed and its FIFO is empty (R203). -/
theorem tdcDrained_off {n u : Nat} {s : State} (hstate : chState s n = 2) (hfifo : (s.chan n).fifo = []) (huntil : (s.chan n).until_ = some u)
    (hpast : u ≤ s.frc) : tdcDrained n s = setChState n 0 s := by
  rw [tdcDrained, huntil]
  exact if_pos ⟨hstate, hfifo, decide_eq_true hpast⟩

/-! ### Gates -/

section
variable {fn g : Nat} {s : State} (ht : s.takesWrite .tdc fn = true) (hs : s.secureSt fn = true)
include ht hs

/-- ARM of a gate that is not armed, with a window that can still be met where it is a window of FRC (R204, R205). -/
theorem writeTdcGate_arms {o c : Nat} (hidle : gateArmed s g = false) (ho : s.rd64 0 (F.TDC_GATE_OPEN_LO g) (F.TDC_GATE_OPEN_HI g) = o)
    (hc : s.rd64 0 (F.TDC_GATE_CLOSE_LO g) (F.TDC_GATE_CLOSE_HI g) = c) (hwindow : gateMode s g ≠ 2 ∨ (s.frc + 64 ≤ o ∧ o < c)) :
    writeTdcGate fn g true s =
      (s.setGate g { open_ := none, last := none, times := (o, c), done := 0 }).wr 0 (F.TDC_GATE_CTRL_ARMED g) 1 := by
  have hmeets : ¬ (gateMode s g = 2 ∧ (o < s.frc + 64 ∨ c ≤ o)) := by omega
  rw [writeTdcGate, writeAtDoor_takes _ _ _ _ _ ht, if_neg (by simp [hs]), if_neg (by decide), if_neg (by simp [hidle]), ho, hc]
  exact if_neg hmeets

/-- DISARM closes an open window at its own tick (R204, R206). -/
theorem writeTdcGate_disarms : writeTdcGate fn g false s = (tdcGateClose g (32 * s.frc) s).wr 0 (F.TDC_GATE_CTRL_ARMED g) 0 := by
  rw [writeTdcGate, writeAtDoor_takes _ _ _ _ _ ht, if_neg (by simp [hs])]
  rfl

end

section
variable {g : Nat} {s : State} (hdoor : s.doorOpen .tdc = true) (harmed : gateArmed s g = true)
include hdoor harmed

/-- In EDGE mode each active edge that is taken opens the gate, or closes it and counts a window (R204). -/
theorem tdcGateEdge_toggles {f sub h st : Nat} {cl falling : Bool} (x : Nat) (hmode : gateMode s g = 1)
    (hactive : falling = (s.sh (F.TDC_GATE_CFG_POL g) == 1)) (htake : (takeEdge (16 + g) f sub x s).1 = some (st, h, cl)) :
    tdcGateEdge g f sub x falling s =
      if (s.gate g).open_.isSome then gateCount g (tdcGateClose g st (takeEdge (16 + g) f sub x s).2)
      else tdcGateOpen g st (takeEdge (16 + g) f sub x s).2 := by
  rw [tdcGateEdge, if_neg (by simp [hdoor, harmed, hmode])]
  simp only [htake, hmode, hactive, beq_self_eq_true, Bool.not_true, Bool.false_eq_true, one_ne_zero, if_false]

/-- In FRC_WINDOW mode a gate that is not open opens at OPEN (R204). -/
theorem tdcGateWindow_opens (hmode : gateMode s g = 2) (hopen : (s.gate g).open_ = none) (hreached : (s.gate g).times.1 ≤ s.frc) :
    tdcGateWindow g s = tdcGateOpen g (32 * (s.gate g).times.1) s := by
  rw [tdcGateWindow, if_neg (by simp [harmed, hmode, hdoor]), if_neg (by simp [hopen])]
  exact if_neg (Nat.not_lt.2 hreached)

/-- An open one closes at CLOSE, and has had its window (R204). -/
theorem tdcGateWindow_closes (hmode : gateMode s g = 2) (hopen : (s.gate g).open_ ≠ none) (hreached : (s.gate g).times.2 ≤ s.frc) :
    tdcGateWindow g s = gateCount g (tdcGateClose g (32 * (s.gate g).times.2) s) := by
  rw [tdcGateWindow, if_neg (by simp [harmed, hmode, hdoor]), if_pos (Option.isSome_iff_ne_none.2 hopen)]
  exact if_neg (Nat.not_lt.2 hreached)

end

/-- Settles O17: each row is one operation, and each clause is the branch of it that its conditions select. That a half takes no edge before its first
accepted pair, and that EN of a ring its owner may not have is refused, is the model's choice (assumptions 81 and 83). -/
theorem tdcCommands : Obligations.TdcCommands := by
  unfold Obligations.TdcCommands
  refine ⟨?taken, ?lost, ?accepted, ?rejected, ?record, ?enable, ?drained, ?arm, ?disarm, ?edge, ?opens, ?closes⟩
  case taken =>
    exact fun ch tick sub code falling h c1 c2 s hdoor hstate hfrom huntil hsel hhalf hpair => by
      rw [exec_tdcEdge, tdcEdge_taken hdoor hstate hfrom huntil hsel _ hhalf hpair]
  case lost =>
    exact fun ch tick sub code falling s hdoor hstate hfrom huntil hsel hhalf => by
      rw [exec_tdcEdge, tdcEdge_lost hdoor hstate hfrom huntil hsel _ hhalf]
  case accepted => exact fun point half c1 c2 s hlo hhi hok => by rw [exec_calPair, calPair_accepted hlo hhi hok]
  case rejected => exact fun point half c1 c2 s hout hrej => by rw [exec_calPair, calPair_rejected hout hrej]
  case record => exact fun ch r rest s hdoor hfifo hroom => by rw [exec_tdcRecordWrite, tdcRecordWrite_writes hdoor hfifo hroom]
  case enable => exact fun fn ch value s ht hs hoff => by rw [exec_tdcChEn, writeChCfg_off ht hs hoff, chCfgSet]
  case drained => exact fun ch u s hstate hfifo huntil hpast => by rw [exec_tdcDrained, tdcDrained_off hstate hfifo huntil hpast]
  case arm => exact fun fn gate s ht hs hidle hwindow => by rw [exec_tdcGateArm, writeTdcGate_arms ht hs hidle rfl rfl hwindow]
  case disarm => exact fun fn gate s ht hs => by rw [exec_tdcGateDisarm, writeTdcGate_disarms ht hs]
  case edge =>
    intro gate tick sub code falling s hdoor harmed hmode hactive hready
    obtain ⟨h, hhalf⟩ := Option.isSome_iff_exists.1 hready
    have htake := takeEdge_stamp code.toNat hhalf
    refine ⟨_, by rw [htake]; rfl, ?_⟩
    rw [exec_tdcGateEdge, tdcGateEdge_toggles hdoor harmed _ hmode hactive htake]
  case opens =>
    exact fun gate s hdoor harmed hmode hopen hreached => by rw [exec_tdcGateFrcWindow, tdcGateWindow_opens hdoor harmed hmode hopen hreached]
  case closes =>
    exact fun gate s hdoor harmed hmode hopen hreached => by rw [exec_tdcGateFrcWindow, tdcGateWindow_closes hdoor harmed hmode hopen hreached]

end Sys2Proof.Machine
end

section
/-! PROOFS. The calibration engine of the timestamp planes (R207 to R211, R214). -/

namespace Sys2Proof.Machine

/-! ### The rows, by operation -/

theorem exec_calCmd (fn : Fn) (point : Fin 32) (s : State) : exec (.calCmd fn point) s = .next (writeCalCmd fn.val point.val s) := rfl
theorem exec_calPeriodicDue (point : Fin 23) (s : State) : exec (.calPeriodicDue point) s = .next (calPeriodicDue point.val s) := rfl
theorem exec_calibrationComplete (tx rx : List (BitVec 32)) (s : State) :
    exec (.calibrationComplete tx rx) s = .next (calComplete tx rx s) := rfl

/-! ### Requests -/

/-- CAL_CMD of a plane point, from a function that may write the TDC, joins the commanded requests (R210, R214). -/
theorem writeCalCmd_queues {fn p : Nat} {s : State} (ht : s.takesWrite .tdc fn = true) (hs : s.secureSt fn = true) (hlo : 1 ≤ p) (hhi : p ≤ 22) :
    writeCalCmd fn p s = startCal { s with tdc := { s.tdc with reqCmd := s.tdc.reqCmd ++ [p] } } := by
  have hplane : ¬ (p = 0 ∨ 22 < p) := by omega
  rw [writeCalCmd, writeAtDoor_takes _ _ _ _ _ ht, if_neg (by simp [hs])]
  exact if_neg hplane

/-- A linked point joins the periodic requests CAL_PERIOD_S after its last calibration, unless it is among them (R210). -/
theorem calPeriodicDue_queues {p c : Nat} {s : State} (hcal : tget s.tdc.calAt p = some c) (hen : s.sh F.TDC_CTRL_CAL_EN = 1)
    (hdue : c + s.sh F.TDC_CTRL_CAL_PERIOD_S * ticksPerSec ≤ s.frc) (hlink : s.tdc.linkUp.contains p = true)
    (hnew : s.tdc.reqPer.contains p = false) :
    calPeriodicDue p s = startCal { s with tdc := { s.tdc with reqPer := s.tdc.reqPer ++ [p] } } := by
  rw [calPeriodicDue, hcal]
  exact if_pos ⟨hen, hdue, hlink, hnew⟩

/-- Settles O18: a request joins its queue and the engine starts where it is idle; the calibration that runs completes with 256 samples of each
direction while the door of the TDC is open, which is the branch of R208, R209 and R211. -/
theorem calibrationCommands : Obligations.CalibrationCommands := by
  unfold Obligations.CalibrationCommands
  refine ⟨?command, ?periodic, ?complete⟩
  case command => exact fun fn point s ht hs hlo hhi => by rw [exec_calCmd, writeCalCmd_queues ht hs hlo hhi]
  case periodic =>
    exact fun point c s hcal hen hdue hlink hnew => by rw [exec_calPeriodicDue, calPeriodicDue_queues hcal hen hdue hlink hnew]
  case complete =>
    intro tx rx p k s hrun htx hrx hdoor
    have hsampled : ¬ (tx.length ≠ 256 ∨ rx.length ≠ 256 ∨ s.doorOpen .tdc = false) := by simp [htx, hrx, hdoor]
    rw [exec_calibrationComplete, calComplete, hrun]
    exact congrArg Host.Outcome.next (if_neg hsampled)

end Sys2Proof.Machine
end

section
/-! PROOFS. The tracking channels of the GNSS baseband: their commands, integrations and measurement epochs (R231 to R241, R250). -/

namespace Sys2Proof.Machine

/-! ### The rows, by operation -/

theorem exec_gnChStart (fn : Fn) (s : State) : exec (.gnChStart fn) s = .next (opGnCh (ownWin fn) 1 s) := rfl
theorem exec_gnChStop (fn : Fn) (s : State) : exec (.gnChStop fn) s = .next (opGnCh (ownWin fn) 2 s) := rfl
theorem exec_gnChSetTow (fn : Fn) (s : State) : exec (.gnChSetTow fn) s = .next (opGnCh (ownWin fn) 3 s) := rfl
theorem exec_chStartEpoch (ch : Fin 192) (s : State) : exec (.chStartEpoch ch) s = .next (chStartEpoch ch.val s) := rfl
theorem exec_integrationBoundary (ch : Fin 192) (taps : List (BitVec 32)) (s : State) :
    exec (.integrationBoundary ch taps) s = .next (intBoundary ch.val taps s) := rfl
theorem exec_loopUpdate (fn : Fn) (ch : Fin 192) (value : BitVec 32) (s : State) :
    exec (.loopUpdate fn ch value) s = .next (writeUpdCtrl fn.val ch.val value.toNat s) := rfl
theorem exec_coastExpiry (ch : Fin 192) (s : State) : exec (.coastExpiry ch) s = .next (coastExpiry ch.val s) := rfl
theorem exec_measLatch (tick : BitVec 64) (s : State) : exec (.measLatch tick) s = .next (measLatch tick.toNat s) := rfl

/-! ### What events and register writes leave of the GNSS blocks -/

theorem gn_of_onlyEvents {s t : State} (h : onlyEvents s t) : t.gn = s.gn := by
  rw [h.1]

theorem gn_post (e : EvRef) (obj : Nat) (s : State) : (post e obj s).gn = s.gn := gn_of_onlyEvents (onlyEvents_post e obj s)

theorem gnc_post (e : EvRef) (obj c : Nat) (s : State) : (post e obj s).gnc c = s.gnc c := by
  rw [State.gnc, gn_post, State.gnc]

/-- An event leaves every register but WR and LOST of the event rings. -/
theorem sh_post (e : EvRef) (obj : Nat) (s : State) {f : FieldRef} (h : erKey (f.key 0) = false) : (post e obj s).sh f = s.sh f :=
  rd_of_onlyEvents (onlyEvents_post e obj s) 0 f h

/-- An event to some of the functions is no more than an event to all of them (R509). -/
theorem onlyEvents_postReach (e : EvRef) (reach : Nat → Bool) (tick obj : Nat) (data : Octets) (s : State) :
    onlyEvents s (postReach e reach tick obj data s) :=
  onlyEvents_trans (onlyEvents_of_regs (t := count e.ctr obj 1 s) rfl)
    (onlyEvents_trans (onlyEvents_each _ (fun fn => setFlag e (fn + 1)) (fun _ _ => onlyEvents_of_regs rfl) _) (onlyEvents_erWriteAll ..))

theorem gnc_setGnc (c : Nat) (x : GnChan) (s : State) : (s.setGnc c x).gnc c = x := tgetD_tset_self ..

/-- A latch instant is new where every instant latched before it is earlier. -/
theorem latch_new (last : Option Nat) (latch : Nat) : (∀ l ∈ last, l < latch) →
    (match last with
      | some l => decide (l < latch)
      | none => true) = true := by
  intro h
  cases last with
  | none => rfl
  | some l => exact decide_eq_true (h l rfl)

/-! ### The window GN_CH_CMD -/

section
variable {fn : Fn} {s t : State} (ht : s.takes .gn stGnCh fn.val = true) (hs : s.secureSt fn.val = true)
  (hc : s.rd (fn.val + 1) F.GN_CH_SEL < 192)

include hs hc in
/-- The secure world and the steward may command every channel that exists (R250). -/
theorem gnChCommand_permitted : ¬ (!gnMay s (ownWin fn).fn || decide (192 ≤ s.rd (ownWin fn).c F.GN_CH_SEL)) = true := by
  simp [gnMay, hs, hc]

include ht hs hc

/-- START with operands that R233 accepts completes OK. -/
theorem opGnCh_start (h : gnStart (s.rd (fn.val + 1) F.GN_CH_SEL) (bits (s.rd (fn.val + 1) F.GN_CH_ARG0) 0 3)
      (bits (s.rd (fn.val + 1) F.GN_CH_ARG0) 8 8) (bits (s.rd (fn.val + 1) F.GN_CH_ARG2) 0 16 * 2 ^ 32 + s.rd (fn.val + 1) F.GN_CH_ARG1)
      (sgn 32 (s.rd (fn.val + 1) F.GN_CH_ARG3))
      (32 * (s.rd (fn.val + 1) F.GN_CH_ARG4 + 2 ^ 32 * s.rd (fn.val + 1) F.GN_CH_ARG5) + bits (s.rd (fn.val + 1) F.GN_CH_ARG0) 16 5) s = some t) :
    opGnCh (ownWin fn) 1 s = completeOk stGnCh (ownWin fn) t := by
  rw [opGnCh, command_takes _ _ _ (ownWin fn) _ _ rfl ht]
  refine (if_neg (gnChCommand_permitted hs hc)).trans ?_
  dsimp only
  rw [h]
  rfl

theorem opGnCh_stop : opGnCh (ownWin fn) 2 s = completeOk stGnCh (ownWin fn) (gnStop (s.rd (fn.val + 1) F.GN_CH_SEL) s) := by
  rw [opGnCh, command_takes _ _ _ (ownWin fn) _ _ rfl ht]
  exact if_neg (gnChCommand_permitted hs hc)

/-- SET_TOW with operands that R239 accepts completes OK. -/
theorem opGnCh_setTow (h : setTow (s.rd (fn.val + 1) F.GN_CH_SEL) (s.rd (fn.val + 1) F.GN_CH_ARG0) (s.rd (fn.val + 1) F.GN_CH_ARG1)
      (bits (s.rd (fn.val + 1) F.GN_CH_ARG2) 0 16) s = some t) :
    opGnCh (ownWin fn) 3 s = completeOk stGnCh (ownWin fn) t := by
  rw [opGnCh, command_takes _ _ _ (ownWin fn) _ _ rfl ht]
  refine (if_neg (gnChCommand_permitted hs hc)).trans ?_
  dsimp only
  rw [h]
  rfl

end

/-- The instant of the first primary epoch at least 64 ticks ahead, for a code phase at an instant and a carrier frequency (R233). -/
def startEpochAt (s : State) (c g : Nat) (freq : Int) (code ref : Rat) : Rat :=
  let r := codeRate s c { sig := g, freq := freq }
  let n := ⌈(code + r * ((s.frc : Rat) + 64 - ref)) / (primCode g : Rat)⌉
  ref + ((n : Rat) * (primCode g : Rat) - code) / r

/-- A start that R233 allows waits for its epoch. -/
theorem gnStart_places {c g prn code x32 : Nat} {dop : Int} {s : State} (hstate : gnState s c = gnIDLE ∨ gnState s c = gnLOST)
    (hport : gnPortState s (sigPort g) = 1) (hprn : prnOk g prn = true) (hcode : code / 2 ^ 32 < codeLen g) (hpast : x32 ≤ 32 * s.frc)
    (hrecent : 32 * s.frc ≤ x32 + 32 * 6250000000) :
    gnStart c g prn code dop x32 s = some (s.setGnc c { s.gnc c with
      start := some ⟨startEpochAt s c g (dop * 2 ^ 16) code (x32 / 32), g, prn, dop * 2 ^ 16⟩ }) := by
  refine if_neg ?_
  rintro (⟨hidle, hlost⟩ | h | h | h | h | h)
  · exact hstate.elim hidle hlost
  · exact h hport
  · simp [hprn] at h
  all_goals omega

/-- SET_TOW of an epoch `back` primary periods ago stores the present epoch's time of week (R239). -/
theorem setTow_stores {c ms epoch week : Nat} {s : State} {e : Int} (htrack : gnState s c = gnTRACKING) (hms : ms % primMs (s.gnc c).sig = 0)
    (hweek : ms < 604800000) (he : epochOf (ncoAt s c (s.gnc c) s.frc) = e)
    (hrecent : uns 32 (e - epoch) ≤ 10000 ∨ 2 ^ 32 - 10000 ≤ uns 32 (e - epoch)) :
    setTow c ms epoch week s = some (
      let total := (ms : Int) + sgn 32 (uns 32 (e - epoch)) * primMs (s.gnc c).sig
      setGnFlag c 5 true (s.setGnc c { s.gnc c with
        tow := some (e.toNat, (total % 604800000).toNat, uns 16 ((week : Int) + total / 604800000)) })) := by
  have hback : e - (e - sgn 32 (uns 32 (e - epoch))) = sgn 32 (uns 32 (e - epoch)) := by omega
  subst he
  rw [setTow]
  refine (if_neg ?_).trans ?_
  · rintro (h | h | h | ⟨hlo, hhi⟩)
    · exact h htrack
    · exact h hms
    all_goals omega
  · dsimp only
    rw [hback]

/-! ### The start epoch -/

/-- STATE of a channel is none of the counts that follow it, nor a register of the event rings. -/
theorem gnState_key (c : Fin 192) : (F.GN_CH_STATE_STATE c.val).key 0 ≠ F.GN_STATUS_CH_ACTIVE.key 0 ∧
    (F.GN_CH_STATE_STATE c.val).key 0 ≠ F.GN_INT_STATUS_SP_CHANNELS.key 0 ∧
    (F.GN_CH_STATE_STATE c.val).key 0 ≠ F.GN_INT_STATUS_FRAME_LOCKED.key 0 ∧ erKey ((F.GN_CH_STATE_STATE c.val).key 0) = false := by
  simp only [erKey, FieldRef.key, F.GN_CH_STATE_STATE, F.GN_STATUS_CH_ACTIVE, F.GN_INT_STATUS_SP_CHANNELS, F.GN_INT_STATUS_FRAME_LOCKED, F.HIF_ER_WR,
    F.HIF_ER_LOST, Blk.code, Bool.or_eq_false_iff, beq_eq_false_iff_ne]
  omega

theorem gnState_syncGn (c : Fin 192) (s : State) : gnState (syncGn s) c.val = gnState s c.val := by
  obtain ⟨hactive, hsp, hframe, -⟩ := gnState_key c
  simp only [gnState, syncGn, sh_wr_ne _ _ hframe, sh_wr_ne _ _ hsp, sh_wr_ne _ _ hactive]

theorem gnState_post (e : EvRef) (obj : Nat) (c : Fin 192) (s : State) : gnState (post e obj s) c.val = gnState s c.val :=
  sh_post e obj s (gnState_key c).2.2.2

/-- Entry to PULL_IN from a state in which nothing is tracked is the new STATE and its event (R232). -/
theorem setGnState_pullIn {c : Nat} {s : State} (h : gnState s c = gnIDLE ∨ gnState s c = gnLOST) :
    setGnState c gnPULLIN s = post Ev.GN_CH_STATE c (syncGn (s.wr 0 (F.GN_CH_STATE_STATE c) gnPULLIN)) := by
  rcases h with h | h <;> simp [setGnState, h, gnIDLE, gnPULLIN, gnTRACKING, gnCOASTING, gnLOST, onlyIf]

/-- The channel as a start leaves it: its phases hold at the start epoch. -/
def startedChan (s : State) (c : Nat) (st : GnStart) : GnChan :=
  { sig := st.sig, prn := st.prn, at_ := st.at_, freq := st.freq, owner := s.sh (F.GN_CH_LOOP_OWNER c)
    portLost := gnPortState s (sigPort st.sig) != 1 }

/-- The started channel with its registers anew, before it enters PULL_IN. -/
def chStarted (c : Nat) (st : GnStart) (s : State) : State :=
  let t := ((s.setGnc c (startedChan s c st)).wr 0 (F.GN_CH_STATE_SIGNAL c) st.sig).wr 0 (F.GN_CH_STATE_PRN c) st.prn
  let t := (t.wr 0 (F.GN_CH_STATE_FLAGS c) 0).wr 0 (F.GN_CH_STATE_T_INT_MS c) (primMs st.sig)
  (t.wr 0 (F.GN_CH_CN0_CN0 c) 0).wr 0 (F.GN_CH_CN0_LOCK_S c) 0

theorem chStartEpoch_due {c : Nat} {st : GnStart} {s : State} (hdoor : s.doorOpen .gn = true) (hstart : (s.gnc c).start = some st)
    (hdue : st.at_ ≤ (s.frc : Rat)) (hstate : gnState s c = gnIDLE ∨ gnState s c = gnLOST) :
    chStartEpoch c s = setGnState c gnPULLIN (chStarted c st s) := by
  rw [chStartEpoch, hstart]
  refine if_neg ?_
  rintro (h | h | ⟨hidle, hlost⟩)
  · exact not_lt.2 hdue h
  · simp [hdoor] at h
  · exact hstate.elim hidle hlost

theorem gnc_chStarted (c : Nat) (st : GnStart) (s : State) : (chStarted c st s).gnc c = startedChan s c st := gnc_setGnc ..

/-- STATE shares its register with SIGNAL, PRN, FLAGS and T_INT_MS, and its bits with none of them. -/
theorem gnState_chStarted (c : Nat) (st : GnStart) (s : State) : gnState (chStarted c st s) c = gnState s c := by
  have hkeys : (F.GN_CH_STATE_STATE c).key 0 ≠ (F.GN_CH_STATE_SIGNAL c).key 0 ∧ (F.GN_CH_STATE_STATE c).key 0 ≠ (F.GN_CH_STATE_PRN c).key 0 ∧
      (F.GN_CH_STATE_STATE c).key 0 ≠ (F.GN_CH_STATE_FLAGS c).key 0 ∧ (F.GN_CH_STATE_STATE c).key 0 ≠ (F.GN_CH_STATE_T_INT_MS c).key 0 ∧
      (F.GN_CH_STATE_STATE c).key 0 ≠ (F.GN_CH_CN0_CN0 c).key 0 ∧ (F.GN_CH_STATE_STATE c).key 0 ≠ (F.GN_CH_CN0_LOCK_S c).key 0 := by
    simp only [FieldRef.key, F.GN_CH_STATE_SIGNAL, F.GN_CH_STATE_PRN, F.GN_CH_STATE_FLAGS, F.GN_CH_STATE_T_INT_MS, F.GN_CH_CN0_CN0,
      F.GN_CH_CN0_LOCK_S, F.GN_CH_STATE_STATE]
    omega
  obtain ⟨hsig, hprn, hflags, htint, hcn0, hlock⟩ := hkeys
  simp only [gnState, chStarted, sh_wr_ne _ _ hlock, sh_wr_ne _ _ hcn0, sh_wr_ne _ _ htint, sh_wr_ne _ _ hflags, sh_wr_ne _ _ hprn,
    sh_wr_ne _ _ hsig]
  rfl

/-- The channel pulls in on what its start named (R232, R233). -/
theorem chStartEpoch_pullsIn {c : Fin 192} {st : GnStart} {s : State} (hdoor : s.doorOpen .gn = true) (hstart : (s.gnc c.val).start = some st)
    (hdue : st.at_ ≤ (s.frc : Rat)) (hstate : gnState s c.val = gnIDLE ∨ gnState s c.val = gnLOST) :
    gnState (chStartEpoch c.val s) c.val = gnPULLIN ∧ (chStartEpoch c.val s).gnc c.val = startedChan s c.val st := by
  rw [chStartEpoch_due hdoor hstart hdue hstate, setGnState_pullIn (by rwa [gnState_chStarted])]
  refine ⟨?_, ?_⟩
  · rw [gnState_post, gnState_syncGn]
    exact sh_wr_self ..
  · rw [gnc_post]
    exact gnc_chStarted c.val st s

/-! ### Integrations -/

/-- The numbering of a channel's integrations: the one in progress, its first epoch, and the last two that ended (R234). -/
def integrations (c : Nat) (s : State) : Nat × Nat × List (Nat × Nat) := ((s.gnc c).k, (s.gnc c).first, (s.gnc c).ended)

theorem integrations_of_chans {c : Nat} {s t : State} (h : t.gn.chans = s.gn.chans) : integrations c t = integrations c s := by
  simp only [integrations, State.gnc, h]

theorem integrations_post (e : EvRef) (obj c : Nat) (s : State) : integrations c (post e obj s) = integrations c s :=
  integrations_of_chans (by rw [gn_post])

theorem integrations_wr (c d : Nat) (f : FieldRef) (v : Nat) (s : State) : integrations c (s.wr d f v) = integrations c s := rfl

theorem integrations_setGnFlag (c d i : Nat) (v : Bool) (s : State) : integrations c (setGnFlag d i v s) = integrations c s := rfl

theorem integrations_syncGn (c : Nat) (s : State) : integrations c (syncGn s) = integrations c s := rfl

theorem integrations_spRecord (kind c d : Nat) (s : State) : integrations c (spRecord kind d s) = integrations c s :=
  integrations_of_chans rfl

theorem integrations_setGnc (c : Nat) (x : GnChan) (s : State) : integrations c (s.setGnc c x) = (x.k, x.first, x.ended) := by
  rw [integrations, gnc_setGnc]

section
variable {c : Nat} {s : State}

/-- A change of a channel's other fields leaves the numbering. -/
theorem integrations_setGnc_of {x : GnChan} {u : State} (hu : integrations c u = integrations c s) (hk : x.k = (u.gnc c).k)
    (hfirst : x.first = (u.gnc c).first) (hended : x.ended = (u.gnc c).ended) : integrations c (u.setGnc c x) = integrations c s := by
  rw [← hu, integrations_setGnc, hk, hfirst, hended, integrations]

theorem integrations_ite {p : Prop} [Decidable p] {t u : State} (ht : integrations c t = integrations c s)
    (hu : integrations c u = integrations c s) :
    integrations c (if p then t else u) = integrations c s := by
  split
  · exact ht
  · exact hu

theorem integrations_onlyIf (b : Bool) {f : State → State} (hf : integrations c (f s) = integrations c s) :
    integrations c (onlyIf b f s) = integrations c s := integrations_ite hf rfl

end

/-- The end of SECOND_PEAK ends no integration (R256). -/
theorem integrations_spClear (c : Nat) (s : State) : integrations c (spClear c s) = integrations c s := by
  have hcleared : integrations c (s.setGnc c { s.gnc c with sp := false, hits := 0, quiet := 0 }) = integrations c s :=
    integrations_setGnc_of rfl rfl rfl rfl
  refine integrations_ite ?_ hcleared
  rw [integrations_post, integrations_syncGn, integrations_spRecord]
  exact hcleared

/-- Of the channel states only IDLE starts the numbering anew (R232). -/
theorem integrations_setGnState (c : Nat) {st : Nat} (hst : st ≠ gnIDLE) (s : State) : integrations c (setGnState c st s) = integrations c s := by
  unfold setGnState
  extract_lets old left entered _ _ coasted _ _ dropped kept posted
  split
  · rfl
  · have hentered : integrations c entered = integrations c s := integrations_ite (integrations_spClear c s) rfl
    have hcoasted : integrations c coasted = integrations c s :=
      integrations_ite (integrations_setGnc_of hentered rfl rfl rfl) hentered
    have hdropped : integrations c dropped = integrations c s :=
      integrations_ite (integrations_setGnc_of hcoasted rfl rfl rfl) hcoasted
    have hkept : kept = dropped := if_neg hst
    rw [integrations_onlyIf _ (integrations_post ..), integrations_post, integrations_syncGn, hkept, hdropped]

/-- A DUMP event ends no integration (Table 8.11). -/
theorem integrations_dumpEvent (c d : Nat) (s : State) : integrations c (dumpEvent d s) = integrations c s := by
  refine integrations_ite ?_ rfl
  refine integrations_of_chans ?_
  rw [gn_of_onlyEvents (onlyEvents_postReach ..)]

theorem integrations_missUpd (c : Nat) (s : State) : integrations c (missUpd c s) = integrations c s := by
  have hmissed : integrations c (s.setGnc c { s.gnc c with misses := (s.gnc c).misses + 1 }) = integrations c s :=
    integrations_setGnc_of rfl rfl rfl rfl
  exact integrations_ite ((integrations_setGnState c (by decide) _).trans hmissed) hmissed

/-- An update changes the loops, the locks and the state, never to IDLE (R235, R236). -/
theorem integrations_applyUpd (c : Nat) (u : GnUpd) (s : State) : integrations c (applyUpd c u s) = integrations c s := by
  have hjudged (b : Bool) (t : State) : integrations c (setGnState c (if b then gnTRACKING else gnPULLIN) t) = integrations c t :=
    integrations_setGnState c (by cases b <;> decide) t
  unfold applyUpd
  extract_lets x carrOn was y flagged synced t locked st
  have ht : integrations c t = integrations c s :=
    (integrations_onlyIf _ rfl).trans ((integrations_onlyIf _ rfl).trans (integrations_setGnc_of rfl rfl rfl rfl))
  refine integrations_ite ((hjudged ..).trans ht) (integrations_ite (integrations_ite ?_ (integrations_ite ((hjudged ..).trans ht) ht)) ht)
  exact (integrations_setGnState c (by decide) t).trans ht

/-- An integration that has ended with its tap sums counts up, and the next one begins at the epoch that ended it (R234). -/
theorem integrations_intBoundary {c : Nat} {taps : List (BitVec 32)} {s : State} (hdoor : s.doorOpen .gn = true) (hstate : gnState s c ≠ gnIDLE)
    (htaps : taps.length = 14)
    (hdue : (s.gnc c).at_ + (((s.gnc c).next * primCode (s.gnc c).sig : Nat) - (s.gnc c).code) / codeRate s c (s.gnc c) ≤ (s.frc : Rat)) :
    integrations c (intBoundary c taps s) =
      (((s.gnc c).k + 1) % 2 ^ 32, (s.gnc c).next, ((s.gnc c).k, (s.gnc c).first) :: (s.gnc c).ended.take 1) := by
  have hended : ¬ (gnState s c = gnIDLE ∨ taps.length ≠ 14 ∨
      (s.frc : Rat) < (s.gnc c).at_ + (((s.gnc c).next * primCode (s.gnc c).sig : Nat) - (s.gnc c).code) / codeRate s c (s.gnc c) ∨
      s.doorOpen .gn = false) := by
    rintro (h | h | h | h)
    · exact hstate h
    · exact h htaps
    · exact not_lt.2 hdue h
    · simp [hdoor] at h
  unfold intBoundary
  extract_lets x end_ y ms flags dump written pw counted shown dumped updated z n lockS
  rw [if_neg hended]
  have hcounted : integrations c dumped = integrations c counted := integrations_dumpEvent c c shown
  have hupdated : integrations c updated = integrations c dumped := by
    unfold updated
    split
    · exact integrations_ite (integrations_applyUpd ..) (integrations_missUpd ..)
    · exact integrations_missUpd ..
  have hbegun : integrations c (updated.setGnc c { z with next := z.first + n, owner := updated.sh (F.GN_CH_LOOP_OWNER c) }) =
      integrations c counted :=
    integrations_setGnc_of (hupdated.trans hcounted) rfl rfl rfl
  exact hbegun.trans (integrations_setGnc ..)

/-! ### Updates and coasting -/

theorem writeUpdCtrl_submits {fn c v : Nat} {s : State} (ht : s.takesWrite .gn fn = true) (hmay : updMay s fn c = true) :
    writeUpdCtrl fn c v s = submitUpd c v s := by
  rw [writeUpdCtrl, writeAtDoor_takes _ _ _ _ _ ht]
  exact if_neg (by simp [hmay])

theorem coastExpiry_due {c : Nat} {s : State} (hstate : gnState s c = gnCOASTING)
    (hdue : (s.gnc c).coastAt + ticksOfMs (s.sh F.GN_CTRL_COAST_MS) ≤ s.frc) : coastExpiry c s = setGnState c gnLOST s :=
  if_pos ⟨hstate, hdue⟩

/-! ### Measurement epochs -/

section
variable {latch : Nat} {s : State}

/-- The state with a latch's epoch number taken (R240). -/
def epochTaken (latch : Nat) (s : State) : State := { s with gn := { s.gn with epoch := (s.gn.epoch + 1) % 2 ^ 32, lastLatch := some latch } }

/-- A sample index is read from the stamps, or drawn freely; either way the registers and what the GNSS blocks hold stay. -/
theorem sampleIndex_leaves (p tick : Nat) (s : State) : ∃ i n, sampleIndex p tick s = (i, { s with fresh := n }) := by
  unfold sampleIndex
  split
  · exact ⟨_, s.fresh, rfl⟩
  · exact ⟨_, s.fresh + 1, rfl⟩

variable (hdoor : s.doorOpen .gn = true) (hen : s.sh F.GN_CTRL_EN ≠ 0) (hperiod : latch % measPeriod s = 0) (hreached : latch ≤ s.frc)
include hdoor hen hperiod hreached

/-- A latch instant that has been reached, and is new, takes an epoch (R240). -/
theorem latch_due {new : Bool} (hfresh : new = true) :
    ¬ (s.doorOpen .gn = false ∨ s.sh F.GN_CTRL_EN = 0 ∨ latch % measPeriod s ≠ 0 ∨ s.frc < latch ∨ new = false) := by
  simp [hdoor, hen, hperiod, hreached, hfresh]

variable (hnew : ∀ l ∈ s.gn.lastLatch, l < latch)
include hnew

/-- An epoch that the ring has no room for is dropped whole (R241). -/
theorem measLatch_drops (hfull : 4096 < wsub 32 (s.sh F.GN_MEAS_WR_IDX) (s.sh F.GN_MEAS_RD_IDX) + 1 + (recording s latch).length) :
    measLatch latch s = post Ev.GN_EPOCH_DROPPED 0 ((epochTaken latch s).wr 0 F.GN_COUNTS_EPOCH_DROPPED (s.sh F.GN_COUNTS_EPOCH_DROPPED + 1)) :=
  (if_neg (latch_due hdoor hen hperiod hreached (latch_new _ _ hnew))).trans (if_pos hfull)

/-- An epoch that fits is written whole: the index passes its header and its records (R240, R241). -/
theorem measLatch_writes
    (hroom : wsub 32 (s.sh F.GN_MEAS_WR_IDX) (s.sh F.GN_MEAS_RD_IDX) + 1 + (recording s latch).length ≤ 4096) :
    ∃ t : State, measLatch latch s = post Ev.GN_EPOCH 0 (t.wr 0 F.GN_MEAS_WR_IDX (s.sh F.GN_MEAS_WR_IDX + 1 + (recording s latch).length)) ∧
      t.gn.epoch = (s.gn.epoch + 1) % 2 ^ 32 ∧ t.gn.lastLatch = some latch := by
  unfold measLatch
  extract_lets fresh ep cs wr _ t
  have hfresh : fresh = true := latch_new _ _ hnew
  obtain ⟨i0, n0, h0⟩ := sampleIndex_leaves 0 latch t
  obtain ⟨i1, n1, h1⟩ := sampleIndex_leaves 1 latch { t with fresh := n0 }
  rw [if_neg (latch_due hdoor hen hperiod hreached hfresh), if_neg (not_lt.2 hroom), h0]
  dsimp only
  rw [h1]
  refine ⟨_, rfl, ?_, ?_⟩
  · exact (each_leaves (fun u : State => u.gn.epoch) (fun _ _ => by rfl) _ _).trans (by rfl)
  · exact (each_leaves (fun u : State => u.gn.lastLatch) (fun _ _ => by rfl) _ _).trans (by rfl)

end

/-- Settles O20: each command completes on the channel that its window selects, and each row is the branch that its conditions select. An update
changes no numbering of integrations, and the records of an epoch change nothing but SHM and the slip marks. -/
theorem gnssChannelCommands : Obligations.GnssChannelCommands := by
  unfold Obligations.GnssChannelCommands
  refine ⟨?start, ?stop, ?setTow, ?startEpoch, ?boundary, ?update, ?coast, ?latch, ?dropped⟩
  case start =>
    intro fn s ht hs hc hstate hport hprn hcode hpast hrecent
    rw [exec_gnChStart, opGnCh_start ht hs hc (gnStart_places hstate hport hprn hcode hpast hrecent)]
    push_cast
    rfl
  case stop => exact fun fn s ht hs hc => by rw [exec_gnChStop, opGnCh_stop ht hs hc]
  case setTow =>
    exact fun fn s ht hs hc htrack hms hweek hrecent => by
      rw [exec_gnChSetTow, opGnCh_setTow ht hs hc (setTow_stores htrack hms hweek rfl hrecent)]
  case startEpoch =>
    intro ch st s hdoor hstart hdue hstate
    obtain ⟨hpulls, hchan⟩ := chStartEpoch_pullsIn hdoor hstart hdue hstate
    refine ⟨_, exec_chStartEpoch ch s, hpulls, ?_⟩
    rw [hchan]
    exact ⟨rfl, rfl, rfl, rfl, rfl⟩
  case boundary =>
    intro ch taps s hdoor hstate htaps hdue
    have hnumbers := integrations_intBoundary hdoor hstate htaps hdue
    simp only [integrations, Prod.mk.injEq] at hnumbers
    exact ⟨_, exec_integrationBoundary ch taps s, hnumbers⟩
  case update => exact fun fn ch value s ht hmay => by rw [exec_loopUpdate, writeUpdCtrl_submits ht hmay]
  case coast => exact fun ch s hstate hdue => by rw [exec_coastExpiry, coastExpiry_due hstate hdue]
  case latch =>
    intro tick s hdoor hen hperiod hreached hnew hroom
    obtain ⟨t, hwrites, hepoch, hlast⟩ := measLatch_writes hdoor hen hperiod hreached hnew hroom
    refine ⟨_, exec_measLatch tick s, ?_⟩
    rw [hwrites, gn_post, sh_post _ _ _ (by decide), sh_wr_self, wr_gn]
    exact ⟨hepoch, hlast, rfl⟩
  case dropped =>
    exact fun tick s hdoor hen hperiod hreached hnew hfull => by rw [exec_measLatch, measLatch_drops hdoor hen hperiod hreached hnew hfull]; rfl

end Sys2Proof.Machine
end

section
/-! PROOFS. The time solution, the survey, the second-peak monitor and the frame search of the GNSS baseband (R242 to R245, R251 to R259). -/

namespace Sys2Proof.Machine

/-! ### The rows, by operation -/

theorem exec_timeSolution (tick : BitVec 64) (pairs : List GnPair) (first second : GnFit) (s : State) :
    exec (.timeSolution tick pairs first second) s = .next (timeSolution tick.toNat pairs first second s) := rfl
theorem exec_surveyDone (x y z : BitVec 64) (s : State) : exec (.surveyDone x y z) s = .next (surveyDone x.toNat y.toNat z.toNat s) := rfl
theorem exec_spPassDue (s : State) : exec .spPassDue s = .next (spPassDue s) := rfl
theorem exec_spPassComplete (tick : BitVec 64) (results : List SpResult) (s : State) :
    exec (.spPassComplete tick results) s = .next (spPassComplete tick.toNat results s) := rfl
theorem exec_navFrame (ch : Fin 192) (cands : List NavCand) (tow epoch : BitVec 32) (week : BitVec 16) (eph alm : Bool) (s : State) :
    exec (.navFrame ch cands tow epoch week eph alm) s = .next (navFrame ch.val cands tow.toNat epoch.toNat week.toNat eph alm s) := rfl

/-! ### The time solution -/

theorem onlyIf_false (f : State → State) (s : State) : onlyIf false f s = s := rfl

/-- The state with its present solution registers and integrity state among the solutions of the window (R267). -/
def solutionKept (latch : Nat) (t : State) : State :=
  { t with gn := { t.gn with sols := t.gn.sols ++ [⟨latch, sgn 64 (t.sh F.GN_SOL_OFFSET_LO + 2 ^ 32 * t.sh F.GN_SOL_OFFSET_HI),
    t.sh F.GN_SOL_BOUND_LO + 2 ^ 32 * t.sh F.GN_SOL_BOUND_HI, t.sh F.GN_INT_STATUS_STATE⟩] } }

section
variable {latch : Nat} {s : State} (hdoor : s.doorOpen .gn = true) (hruns : stewardRuns s = true) (hen : s.sh F.GN_CTRL_EN ≠ 0)
  (hsec : latch % ticksPerSec = 0) (hreached : latch ≤ s.frc)
include hdoor hruns hen hsec hreached

/-- A whole-second latch that has been reached, and is new, is solved for (R242). -/
theorem solution_due {new : Bool} (hfresh : new = true) : ¬ (s.doorOpen .gn = false ∨ stewardRuns s = false ∨ s.sh F.GN_CTRL_EN = 0 ∨
    latch % ticksPerSec ≠ 0 ∨ s.frc < latch ∨ new = false) := by
  simp [hdoor, hruns, hen, hsec, hreached, hfresh]

variable {t : State} (pairs : List GnPair) (first second : GnFit) (hnew : ∀ l ∈ s.gn.lastSolve, l < latch)
  (hnoted : { s with gn := { s.gn with lastSolve := some latch } } = t)
include hnew hnoted

/-- With SOLVE 0 there is no solution, and the integrity is judged without one (R242, R251). -/
theorem timeSolution_unsolved (hsolve : s.sh F.GN_CTRL_SOLVE = 0) :
    timeSolution latch pairs first second s = decideIntegrity latch none false (setSolState 0 t) := by
  subst hnoted
  exact (if_neg (solution_due hdoor hruns hen hsec hreached (latch_new _ _ hnew))).trans (if_pos hsolve)

/-- A fit of enough pairs, none excluded, is delivered, judged and kept (R242, R244, R251). -/
theorem timeSolution_solved {fit : GnFit} {l : List GnPair} {sys : List Nat} (hsolve : s.sh F.GN_CTRL_SOLVE ≠ 0)
    (hfit : solveAt t pairs first second = (some (fit, l, sys), false)) :
    timeSolution latch pairs first second s = solutionKept latch (decideIntegrity latch (some (fit, l, sys)) false (deliver latch fit l sys t)) := by
  have hsolve : ¬ t.sh F.GN_CTRL_SOLVE = 0 := hnoted ▸ hsolve
  unfold timeSolution
  extract_lets fresh _ noted
  have hfresh : fresh = true := latch_new _ _ hnew
  rw [if_neg (solution_due hdoor hruns hen hsec hreached hfresh), show noted = t from hnoted, if_neg hsolve, hfit]
  dsimp only
  rw [onlyIf_false]
  generalize decideIntegrity latch (some (fit, l, sys)) false (deliver latch fit l sys t) = u
  rfl

end

/-! ### The survey -/

/-- The survey ended: its mean position is stored and MODE leaves SURVEY (R242). -/
def surveyStored (x y z : Nat) (s : State) : State :=
  let t := ((s.wr64 0 F.GN_POS_X_LO F.GN_POS_X_HI x).wr64 0 F.GN_POS_Y_LO F.GN_POS_Y_HI y).wr64 0 F.GN_POS_Z_LO F.GN_POS_Z_HI z
  let t := t.wr 0 F.GN_SOL_CFG_MODE 0
  { t with gn := { t.gn with surveyAt := none } }

theorem surveyDone_lasted {x y z a : Nat} {s : State} (hdoor : s.doorOpen .gn = true) (hruns : stewardRuns s = true) (hat : s.gn.surveyAt = some a)
    (hmode : s.sh F.GN_SOL_CFG_MODE = 1) (hlasted : a + s.sh F.GN_SURVEY_S * ticksPerSec ≤ s.frc) :
    surveyDone x y z s = post Ev.GN_SURVEY_DONE 0 (surveyStored x y z s) := by
  rw [surveyDone, hat]
  exact if_pos ⟨hmode, hlasted, hruns, hdoor⟩

theorem rd64_post (e : EvRef) (obj : Nat) (s : State) {lo hi : FieldRef} (hlo : erKey (lo.key 0) = false) (hhi : erKey (hi.key 0) = false) :
    (post e obj s).rd64 0 lo hi = s.rd64 0 lo hi := by
  rw [State.rd64, rd_of_onlyEvents (onlyEvents_post e obj s) 0 _ hlo, rd_of_onlyEvents (onlyEvents_post e obj s) 0 _ hhi, State.rd64]

theorem rd64_wr64_ne (s : State) {c d : Nat} {lo hi f g : FieldRef} (v : Nat) (hf : f.key d ≠ lo.key c ∧ f.key d ≠ hi.key c)
    (hg : g.key d ≠ lo.key c ∧ g.key d ≠ hi.key c) : (s.wr64 c lo hi v).rd64 d f g = s.rd64 d f g := by
  rw [State.wr64, rd64_wr_ne _ _ hf.2 hg.2, rd64_wr_ne _ _ hf.1 hg.1]

theorem rd64_setGn (g : GnSt) (s : State) (c : Nat) (lo hi : FieldRef) : ({ s with gn := g } : State).rd64 c lo hi = s.rd64 c lo hi := rfl

/-- Each coordinate reads back modulo 2^64. -/
theorem surveyStored_reads (x y z : Nat) (s : State) :
    (surveyStored x y z s).rd64 0 F.GN_POS_X_LO F.GN_POS_X_HI = x % 2 ^ 64 ∧
      (surveyStored x y z s).rd64 0 F.GN_POS_Y_LO F.GN_POS_Y_HI = y % 2 ^ 64 ∧
      (surveyStored x y z s).rd64 0 F.GN_POS_Z_LO F.GN_POS_Z_HI = z % 2 ^ 64 ∧ (surveyStored x y z s).sh F.GN_SOL_CFG_MODE = 0 := by
  simp (disch := decide) only [surveyStored, rd64_setGn, rd64_wr_ne, rd64_wr64_ne, rd64_wr64_words, true_and]
  exact sh_wr_self ..

/-! ### The second-peak monitor -/

/-- A pass that falls due while none waits is the one that waits for the engine (R254). -/
theorem spPassDue_waits {due : Nat} {s : State} (hdoor : s.doorOpen .gn = true) (hen : s.sh F.GN_SP_CFG_SP_EN ≠ 0) (hgn : s.sh F.GN_CTRL_EN ≠ 0)
    (hreached : s.gn.spDue ≤ s.frc) (hwait : s.gn.spWait = false) (hnext : s.gn.spDue + s.sh F.GN_SP_CFG_SP_PERIOD_S * ticksPerSec = due) :
    spPassDue s = engineNext { s with gn := { s.gn with spDue := due, spWait := true } } := by
  rw [spPassDue, if_neg (by simp [hdoor, hen, hgn, hreached]), hnext]
  exact if_neg (by simp [hwait])

/-- A complete pass judges the channels it ran over and frees the engine (R255, R256). -/
theorem spPassComplete_judges {tick x : Nat} {results : List SpResult} {cs : List Nat} {s : State} (hdoor : s.doorOpen .gn = true)
    (hrun : s.gn.spRun = some (x, cs)) : spPassComplete tick results s =
      (let t := each (results.filter fun r => cs.contains r.ch.val) (spResult tick) s
      engineNext { t with gn := { t.gn with spRun := none } }) := by
  rw [spPassComplete, hrun]
  exact if_neg (by simp [hdoor])

/-! ### The frame search -/

section
variable {c tow epoch week : Nat} {l : List NavCand} {p : Nat × Bool} {s : State} (hdoor : s.doorOpen .gn = true) (hruns : stewardRuns s = true)
  (htrack : gnState s c = gnTRACKING) (hsync : gnFlag s c 4 = true ∨ (gnFlag s c 3 = true ∧ (s.gnc c).sig ≠ 3))

/-- The positions at which a frame passed its check; a complement counts for signals 0 and 1 alone (R258). -/
def framePassed (x : GnChan) (l : List NavCand) : List (Nat × Bool) :=
  (l.filter fun k => k.check && (decide (x.sig < 2) || !k.complement)).map fun k => (k.pos.toNat, k.complement)

include hdoor hruns htrack hsync

/-- Frames are searched in TRACKING with symbols in step, which signal 3 gives by its secondary code alone (R258). -/
theorem frame_searched : ¬ (stewardRuns s = false ∨ s.doorOpen .gn = false ∨ gnState s c ≠ gnTRACKING ∨
    (gnFlag s c 3 = false ∧ gnFlag s c 4 = false) ∨ ((s.gnc c).sig = 3 ∧ gnFlag s c 4 = false)) := by
  rcases hsync with hsec | ⟨hbit, hsig⟩
  · simp [hdoor, hruns, htrack, hsec]
  · simp [hdoor, hruns, htrack, hbit, hsig]

/-- A frame that passes at the locked position clears the failures (R258). -/
theorem navFrame_passes (hlock : (s.gnc c).lock = some p) (hpass : (framePassed (s.gnc c) l).contains p = true) :
    navFrame c l tow epoch week false false s = s.setGnc c { s.gnc c with fails := 0 } := by
  unfold navFrame
  extract_lets x ok t y g ephs
  have ht : t = s.setGnc c { s.gnc c with fails := 0 } := by
    unfold t
    split
    next q hq =>
      obtain rfl : p = q := Option.some.inj (hlock.symm.trans hq)
      exact if_pos hpass
    next hnone => cases hlock.symm.trans hnone
  rw [if_neg (frame_searched hdoor hruns htrack hsync), if_pos (by simp), ht]

/-- The one position that passed in two frames running locks (R258, R259). -/
theorem navFrame_locks (hlock : (s.gnc c).lock = none)
    (hpass : ((framePassed (s.gnc c) l).filter fun p => (s.gnc c).cands.contains p) = [p]) :
    navFrame c l tow epoch week false false s = frameLock c p.1 p.2 tow epoch week s := by
  unfold navFrame
  extract_lets x ok t y g ephs
  have ht : t = frameLock c p.1 p.2 tow epoch week s := by
    unfold t
    rw [show x.lock = none from hlock, show (ok.filter fun p => x.cands.contains p) = [p] from hpass]
  rw [if_neg (frame_searched hdoor hruns htrack hsync), if_pos (by simp), ht]

end

/-- Settles O21: each row is one operation, and each clause is the branch of it that its conditions select. -/
theorem gnssSolutionCommands : Obligations.GnssSolutionCommands := by
  unfold Obligations.GnssSolutionCommands
  refine ⟨?unsolved, ?solved, ?survey, ?passDue, ?passComplete, ?passes, ?locks⟩
  case unsolved =>
    exact fun tick pairs first second s hdoor hruns hen hsec hreached hnew hsolve =>
      congrArg Host.Outcome.next (timeSolution_unsolved hdoor hruns hen hsec hreached pairs first second hnew rfl hsolve)
  case solved =>
    intro tick pairs first second fit l sys s hdoor hruns hen hsec hreached hnew hsolve hfit
    rw [exec_timeSolution, timeSolution_solved hdoor hruns hen hsec hreached pairs first second hnew rfl hsolve hfit]
    rfl
  case survey =>
    intro x y z a s hdoor hruns hat hmode hlasted
    have hword (v : BitVec 64) : v.toNat % 2 ^ 64 = v.toNat := Nat.mod_eq_of_lt v.isLt
    obtain ⟨hx, hy, hz, hfixed⟩ := surveyStored_reads x.toNat y.toNat z.toNat s
    refine ⟨_, exec_surveyDone x y z s, ?_⟩
    rw [surveyDone_lasted hdoor hruns hat hmode hlasted, gn_post, sh_post _ _ _ (by decide)]
    simp (disch := decide) only [rd64_post]
    exact ⟨hx.trans (hword x), hy.trans (hword y), hz.trans (hword z), hfixed, rfl⟩
  case passDue =>
    exact fun s hdoor hen hgn hreached hwait => congrArg Host.Outcome.next (spPassDue_waits hdoor hen hgn hreached hwait rfl)
  case passComplete => exact fun tick results x cs s hdoor hrun => by rw [exec_spPassComplete, spPassComplete_judges hdoor hrun]
  case passes =>
    exact fun ch cands tow epoch week p s hdoor hruns htrack hsync hlock hpass => by
      rw [exec_navFrame, navFrame_passes hdoor hruns htrack hsync hlock hpass]
  case locks =>
    exact fun ch cands tow epoch week p s hdoor hruns htrack hsync hlock hpass => by
      rw [exec_navFrame, navFrame_locks hdoor hruns htrack hsync hlock hpass]

end Sys2Proof.Machine
end

section
/-! PROOFS. The serving ports: configuration, links, received and sent frames, reserved launches and timestamp rings (R273 to R293, R353, R377). -/

namespace Sys2Proof.Machine

/-! ### The rows, by operation -/

theorem exec_prtPortEn (fn : Fn) (port : Fin 16) (value : BitVec 32) (s : State) :
    exec (.prtPortEn fn port value) s = .next (writePortCfg fn.val port.val value.toNat s) := rfl
theorem exec_laneLockLoss (lane : Fin 16) (s : State) : exec (.laneLockLoss lane) s = .next (laneLockLoss lane.val s) := rfl
theorem exec_portLinkUp (port : Fin 16) (s : State) : exec (.portLinkUp port) s = .next (portLinkHeld port.val s) := rfl
theorem exec_portLinkDown (port : Fin 16) (cause : LinkCause) (s : State) :
    exec (.portLinkDown port cause) s = .next (portLinkFails port.val cause s) := rfl
theorem exec_remoteFault (port : Fin 16) (present : Bool) (s : State) :
    exec (.remoteFault port present) s = .next (remoteFault port.val present s) := rfl
theorem exec_prtFrameRx (port : Fin 16) (tick : BitVec 64) (phase : Fin 32) (b : BitVec 13) (frame : List Byte) (code fec cut : Bool) (s : State) :
    exec (.prtFrameRx port tick phase b frame code fec cut) s =
      .next (frameRx port.val (32 * tick.toNat + phase.val) b.toNat frame code fec cut s) := rfl
theorem exec_prtFrameTx (port : Fin 16) (tick : BitVec 64) (phase : Fin 32) (b : BitVec 13) (s : State) :
    exec (.prtFrameTx port tick phase b) s = .next (frameTx port.val (32 * tick.toNat + phase.val) b.toNat s) := rfl
theorem exec_launchMiss (port : Fin 16) (s : State) : exec (.launchMiss port) s = .next (launchMissed port.val s) := rfl
theorem exec_tsrEn (fn : Fn) (port : Fin 16) (dir : Fin 2) (value : BitVec 32) (s : State) :
    exec (.tsrEn fn port dir value) s =
      .next (writeTsr .prt (0x120 + 0x40 * port.val + 0x10 * dir.val) (prtTsr port.val dir.val) Ev.PRT_AUTH_REFUSED fn.val value.toNat s) := rfl

/-! ### Fields of one register -/

/-- Fields that begin at different bits of a word are different fields, whatever their registers. -/
theorem sh_wr_other_bits (s : State) {f g : FieldRef} (v : Nat) (h : (g.lo % 32 == f.lo % 32) = false) : (s.wr 0 f v).sh g = s.sh g := by
  refine sh_wr_ne s v ?_
  have hbits := ne_of_beq_false h
  unfold FieldRef.key
  omega

/-! ### Port configuration (R273) -/

/-- The configuration of port n as a write of v leaves it while EN is 0; EN follows. -/
def portCfgSet (n v : Nat) (s : State) : State :=
  (((s.wr 0 (F.PRT_PORT_CFG_ERR_DELIVER n) (bits v 8 1)).wr 0 (F.PRT_PORT_CFG_MODE n) (bits v 1 4)).wr 0 (F.PRT_PORT_CFG_FEC n) (bits v 5 2)).wr
    0 (F.PRT_PORT_CFG_AN_EN n) (bits v 7 1)

theorem sh_en_portCfgSet (m n v : Nat) (s : State) : (portCfgSet n v s).sh (F.PRT_PORT_CFG_EN m) = s.sh (F.PRT_PORT_CFG_EN m) := by
  rw [portCfgSet]
  iterate 4 rw [sh_wr_other_bits _ _ rfl]

theorem portMode_wr_mode_ne {m n : Nat} (hm : m ≠ n) (v : Nat) (s : State) : portMode (s.wr 0 (F.PRT_PORT_CFG_MODE n) v) m = portMode s m := by
  refine sh_wr_ne s v ?_
  simp only [FieldRef.key, F.PRT_PORT_CFG_MODE]
  omega

theorem portMode_wr_other_bits (s : State) {f : FieldRef} (v n : Nat) (h : ((F.PRT_PORT_CFG_MODE n).lo % 32 == f.lo % 32) = false) :
    portMode (s.wr 0 f v) n = portMode s n := sh_wr_other_bits s v h

theorem portMode_portCfgSet {m n : Nat} (hm : m ≠ n) (v : Nat) (s : State) : portMode (portCfgSet n v s) m = portMode s m := by
  rw [portCfgSet, portMode_wr_other_bits _ _ _ rfl, portMode_wr_other_bits _ _ _ rfl, portMode_wr_mode_ne hm, portMode_wr_other_bits _ _ _ rfl]

/-- Which lanes the other ports take does not depend on the port's own configuration. -/
theorem laneTaken_portCfgSet (n v l : Nat) (s : State) : laneTaken (portCfgSet n v s) n l = laneTaken s n l := by
  unfold laneTaken
  congr 1
  funext m
  by_cases hm : m = n
  · simp [hm]
  · simp only [sh_en_portCfgSet, portLanes, portMode_portCfgSet hm]

theorem portOk_portCfgSet (n v mode fec : Nat) (s : State) : portOk (portCfgSet n v s) n mode fec = portOk s n mode fec := by
  simp only [portOk, laneTaken_portCfgSet]

section
variable {fn n v : Nat} {s : State} (ht : s.takesWrite .prt fn = true) (hs : s.secureSt fn = true)
include ht hs

/-- EN written to a disabled port that may have its mode, FEC and lanes. -/
theorem writePortCfg_enables (hoff : s.sh (F.PRT_PORT_CFG_EN n) = 0) (hen : bitOf v 0 = true) (hok : portOk s n (bits v 1 4) (bits v 5 2) = true) :
    writePortCfg fn n v s = setMembers n true (portDown n ((portCfgSet n v s).wr 0 (F.PRT_PORT_CFG_EN n) 1)) := by
  have hstays : (s.wr 0 (F.PRT_PORT_CFG_ERR_DELIVER n) (bits v 8 1)).sh (F.PRT_PORT_CFG_EN n) ≠ 1 := by
    rw [sh_wr_other_bits s _ rfl]
    omega
  have hallowed : ¬ (!portOk (portCfgSet n v s) n (bits v 1 4) (bits v 5 2)) = true := by
    simp [portOk_portCfgSet, hok]
  rw [writePortCfg, writeAtDoor_takes _ _ _ _ _ ht, if_neg (by simp [prtMay, hs])]
  dsimp only
  rw [if_neg hstays, if_neg (by simp [hen])]
  exact if_neg hallowed

/-- EN cleared, with nothing else changed but ERR_DELIVER, on an enabled port. -/
theorem writePortCfg_disables (hon : s.sh (F.PRT_PORT_CFG_EN n) = 1) (hen : bitOf v 0 = false) (hmode : bits v 1 4 = portMode s n)
    (hfec : bits v 5 2 = s.sh (F.PRT_PORT_CFG_FEC n)) (han : bits v 7 1 = s.sh (F.PRT_PORT_CFG_AN_EN n)) :
    writePortCfg fn n v s = setMembers n false (portDown n
      ((s.wr 0 (F.PRT_PORT_CFG_ERR_DELIVER n) (bits v 8 1)).wr 0 (F.PRT_PORT_CFG_EN n) 0)) := by
  have hstays : (s.wr 0 (F.PRT_PORT_CFG_ERR_DELIVER n) (bits v 8 1)).sh (F.PRT_PORT_CFG_EN n) = 1 := (sh_wr_other_bits s _ rfl).trans hon
  have hsame : (bits v 1 4 != portMode (s.wr 0 (F.PRT_PORT_CFG_ERR_DELIVER n) (bits v 8 1)) n ||
      bits v 5 2 != (s.wr 0 (F.PRT_PORT_CFG_ERR_DELIVER n) (bits v 8 1)).sh (F.PRT_PORT_CFG_FEC n) ||
      bits v 7 1 != (s.wr 0 (F.PRT_PORT_CFG_ERR_DELIVER n) (bits v 8 1)).sh (F.PRT_PORT_CFG_AN_EN n)) = false := by
    rw [portMode_wr_other_bits _ _ _ rfl, sh_wr_other_bits _ _ rfl, sh_wr_other_bits _ _ rfl, ← hmode, ← hfec, ← han]
    simp
  rw [writePortCfg, writeAtDoor_takes _ _ _ _ _ ht, if_neg (by simp [prtMay, hs])]
  dsimp only
  rw [if_pos hstays, if_neg (by simp [hen]), hsame, onlyIf_false]

end

/-! ### Links (R276 to R278) -/

theorem laneLockLoss_locked {l : Nat} {s : State} (h : s.sh (F.PRT_LANE_STATUS_BLOCK_LOCK l) ≠ 0) :
    laneLockLoss l s = (let t := linkLost (8 + l) ((s.wr 0 (F.PRT_LANE_STATUS_BLOCK_LOCK l) 0).wr 0
        (F.PRT_LANE_STATUS_LOCK_LOSS l) (s.sh (F.PRT_LANE_STATUS_LOCK_LOSS l) + 1))
      if t.sh (F.PRT_LANE_STATUS_MEMBER l) = 1 then portDown (t.sh (F.PRT_LANE_STATUS_PORT l)) t else t) :=
  if_neg h

/-- The port's status without the faults of R277. -/
def portFaultsCleared (n : Nat) (s : State) : State :=
  (((s.wr 0 (F.PRT_PORT_STATUS_LOCAL_FAULT n) 0).wr 0 (F.PRT_PORT_STATUS_HI_BER n) 0).wr 0 (F.PRT_PORT_STATUS_DESKEW_FAIL n) 0).wr
    0 (F.PRT_PORT_STATUS_SPEED_MISMATCH n) 0

/-- A DOWN port whose conditions have held for LINKUP_MS is UP, and shows whether it negotiated (R277). -/
theorem portLinkHeld_up {n : Nat} {s : State} (hdoor : s.doorOpen .prt = true) (hdown : s.sh (F.PRT_PORT_STATUS_STATE n) = 1)
    (hheld : (s.prtPort n).downAt + ticksOfMs (s.sh (F.PRT_PORT_FRAME_LINKUP_MS n)) ≤ s.frc) :
    portLinkHeld n s = portLinkUp n ((portFaultsCleared n s).wr 0 (F.PRT_PORT_STATUS_AN_DONE n)
      (b2n (portMode (portFaultsCleared n s) n == 0 && (portFaultsCleared n s).sh (F.PRT_PORT_CFG_AN_EN n) == 1))) := by
  have hready : ¬ (s.sh (F.PRT_PORT_STATUS_STATE n) ≠ 1 ∨ s.doorOpen .prt = false ∨
      s.frc < (s.prtPort n).downAt + ticksOfMs (s.sh (F.PRT_PORT_FRAME_LINKUP_MS n))) := by
    simp [hdoor, hdown, hheld]
  rw [portLinkHeld, if_neg hready]
  dsimp only
  rw [portFaultsCleared, portMode_wr_other_bits (f := F.PRT_PORT_STATUS_SPEED_MISMATCH n) _ _ _ rfl,
    sh_wr_other_bits (f := F.PRT_PORT_STATUS_SPEED_MISMATCH n) _ _ rfl]

theorem portLinkFails_concerned {n : Nat} {c : LinkCause} {s : State} (hdoor : s.doorOpen .prt = true) (hen : s.sh (F.PRT_PORT_CFG_EN n) ≠ 0)
    (hconcern : linkConcerns s n c = true) : portLinkFails n c s = portDown n (linkFails n c s) :=
  if_neg (by simp [hdoor, hen, hconcern])

theorem remoteFault_up {n : Nat} (present : Bool) {s : State} (hup : portUp s n = true) :
    remoteFault n present s = onlyIf (present && s.sh (F.PRT_PORT_STATUS_REMOTE_FAULT n) == 0) (post Ev.PRT_FAULT n)
      (s.wr 0 (F.PRT_PORT_STATUS_REMOTE_FAULT n) (b2n present)) :=
  if_neg (by simp [hup])

/-! ### Received frames (R280, R281) -/

/-- A frame without an OVERSIZE flag is no longer than MAX_FRAME. -/
theorem length_le_maxFrame_of_rxFlags {n : Nat} {o : Octets} {code fec cut : Bool} {s : State} (h : rxFlags s n o code fec cut = 0) :
    o.length ≤ s.sh (F.PRT_PORT_FRAME_MAX_FRAME n) := by
  by_contra hlong
  simp [rxFlags, b2n, Nat.lt_of_not_le hlong] at h

/-- A good frame that its port's share can hold, and that is no MAC control or slow protocol frame, is counted and classified without its FCS. -/
theorem frameRx_good {n x32 b : Nat} {o kept : Octets} {s : State} (hdoor : s.doorOpen .prt = true) (hup : portUp s n = true) (hlen : 14 ≤ o.length)
    (hflags : rxFlags s n o false false false = 0) (hkept : o.take (o.length - 4) = kept)
    (hshare : rxShareHeld s n + kept.length ≤ (((tget s.stw.shares n).map (·.1)).getD 0) * 1024)
    (hcontrol : ofBe (slice kept 12 2) ≠ 0x8808) (hslow : ofBe (slice kept 12 2) ≠ 0x8809) :
    frameRx n x32 b o false false false s =
      classifyFrame ⟨n, kept, parse kept, x32, stampRx s n b⟩ (count Ct.PRT_RX_BYTES n (o.length + 20) s) := by
  subst hkept
  have hfits := Nat.not_lt.2 (length_le_maxFrame_of_rxFlags hflags)
  have hguard : ¬ (!portUp s n || !s.doorOpen .prt) = true := by simp [hup, hdoor]
  unfold frameRx
  extract_lets counted noFec flags maxf kept share r served
  have hkept : kept = o.take (o.length - 4) := if_neg hfits
  have hheld : ¬ share < rxShareHeld noFec n + kept.length := hkept ▸ Nat.not_lt.2 hshare
  have hclean : ¬ flags ≠ 0 := not_not_intro hflags
  have hmac : ofBe (slice kept 12 2) ≠ 0x8808 := hkept ▸ hcontrol
  have hserved : served = counted := if_neg fun h => (hkept ▸ hslow) h.1
  rw [if_neg hguard, if_neg (Nat.not_lt.2 hlen), if_neg hheld, if_neg hclean, if_neg hmac, hserved]
  unfold r
  rw [hkept]
  rfl

/-! ### Sent frames (R289, R353, R377) -/

theorem headTx_fits {n x32 b : Nat} {f : TxFrame} {s : State} (rest : List TxFrame) (hfits : frameFits s n f (s.frc : Rat) = true)
    (hpos : bitPosOk s n b = true) :
    headTx n f rest x32 b s =
      offerFrame n f x32 b ((s.frc : Rat) + lineTicks s n f.len) (s.setSchPort n { s.schPort n with pipe := rest }) :=
  (if_pos hfits).trans (if_pos hpos)

section
variable {n x32 b : Nat} {s : State} (hdoor : s.doorOpen .prt = true) (hsafe : s.safe = false) (hup : portUp s n = true)
  (hfree : (s.prtPort n).freeAt ≤ (s.frc : Rat))
include hdoor hsafe hup hfree

/-- An UP port outside the safe state takes frames once its line is free. -/
theorem port_takesFrame : ¬ (s.safe || !s.doorOpen .prt || !portUp s n || decide ((s.frc : Rat) < (s.prtPort n).freeAt)) = true := by
  simp [hdoor, hsafe, hup, hfree]

/-- Without a reservation that is due, the head of the pipeline is next. -/
theorem frameTx_head {f : TxFrame} {rest : List TxFrame} (hpipe : (s.schPort n).pipe = f :: rest) (hdue : dueLaunch s n = none) :
    frameTx n x32 b s = headTx n f rest x32 b s := by
  rw [frameTx, if_neg (port_takesFrame hdoor hsafe hup hfree), hpipe, hdue]

/-- With an empty pipeline, a reservation that is due is next. -/
theorem frameTx_launch {l : Launch} (hpipe : (s.schPort n).pipe = []) (hdue : dueLaunch s n = some l) : frameTx n x32 b s = launchTx n l s := by
  rw [frameTx, if_neg (port_takesFrame hdoor hsafe hup hfree), hpipe, hdue]

end

/-- A response that is not in the MAC 25.6 ns before its start is missed (R353). -/
theorem launchMissed_late {n : Nat} {l : Launch} {s : State}
    (hlate : ((s.schPort n).launches.find? fun l => decide (l.start < (s.frc : Rat) + 40)) = some l) :
    launchMissed n s = launchMiss (s.setSchPort n { s.schPort n with launches := (s.schPort n).launches.erase l }) := by
  rw [launchMissed]
  dsimp only
  rw [hlate]

/-! ### Timestamp rings (R291, R293) -/

/-- The secure world's or the steward's write to a ring that is not enabled sets its size, its owner and its watermark, then EN. -/
theorem writeTsr_disabled {b : Blk} {off fn v : Nat} {r : TsrRef} {auth : EvRef} {s : State} (ht : s.takesWrite b fn = true)
    (hs : s.secureSt fn = true) (hoff : s.sh r.en = 0) :
    writeTsr b off r auth fn v s =
      tsrEnable r (bitOf v 0) (((s.wr 0 r.log (max 8 (min (bits v 1 4) 12))).wr 0 r.owner (bits v 5 9)).wr 0 r.wm (bits v 16 16)) := by
  have hdisabled : s.sh r.en ≠ 1 := by omega
  rw [writeTsr, writeAtDoor_takes _ _ _ _ _ ht]
  dsimp only
  rw [if_pos (by simp [hs]), writeTsrCfg, if_neg hdisabled]

/-- Settles O23: each row is one operation on its port, lane or ring, and each clause is the branch of it that its conditions select. That LINKUP_MS counts
from the tick at which the port went DOWN, that the time of a frame is an exact rational of ticks, and that frames wait in their port's share until they
are delivered, is the model's choice (assumptions 101, 103 and 129). -/
theorem portCommands : Obligations.PortCommands := by
  unfold Obligations.PortCommands
  refine ⟨?enable, ?disable, ?lockLoss, ?up, ?down, ?fault, ?received, ?head, ?launch, ?missed, ?ring⟩
  case enable => exact fun fn port value s ht hs hoff hen hok => by rw [exec_prtPortEn, writePortCfg_enables ht hs hoff hen hok, portCfgSet]
  case disable =>
    exact fun fn port value s ht hs hon hen hmode hfec han => by rw [exec_prtPortEn, writePortCfg_disables ht hs hon hen hmode hfec han]
  case lockLoss => exact fun lane s hlocked => by rw [exec_laneLockLoss, laneLockLoss_locked hlocked]
  case up => exact fun port s hdoor hdown hheld => by rw [exec_portLinkUp, portLinkHeld_up hdoor hdown hheld]; rfl
  case down => exact fun port cause s hdoor hen hconcern => by rw [exec_portLinkDown, portLinkFails_concerned hdoor hen hconcern]
  case fault => exact fun port present s hup => by rw [exec_remoteFault, remoteFault_up present hup]
  case received =>
    exact fun port tick phase b frame s hdoor hup hlen hflags hshare hcontrol hslow => by
      rw [exec_prtFrameRx, frameRx_good hdoor hup hlen hflags rfl hshare hcontrol hslow]
  case head =>
    exact fun port tick phase b f rest s hdoor hsafe hup hfree hpipe hdue hfits hpos => by
      rw [exec_prtFrameTx, frameTx_head hdoor hsafe hup hfree hpipe hdue, headTx_fits rest hfits hpos]
  case launch =>
    exact fun port tick phase b l s hdoor hsafe hup hfree hpipe hdue => by
      rw [exec_prtFrameTx, frameTx_launch hdoor hsafe hup hfree hpipe hdue, launchTx]
  case missed => exact fun port l s hlate => by rw [exec_launchMiss, launchMissed_late hlate]
  case ring => exact fun fn port dir value s ht hs hoff => by rw [exec_tsrEn, writeTsr_disabled ht hs hoff]

end Sys2Proof.Machine
end

section
/-! PROOFS. The serving engines: messages of a pipeline, the grant engine, the cadence wheel, the PTP client session and the sweep (R295 to R331,
R351). -/

namespace Sys2Proof.Machine

/-! ### The rows, by operation -/

theorem exec_delayReq (pipe : Fin 8) (s : State) :
    exec (.delayReq pipe) s = .next (pipeStep pipe.val .delayReq (serveDelayReq pipe.val) s) := rfl
theorem exec_ntpRequest (pipe : Fin 8) (s : State) : exec (.ntpRequest pipe) s = .next (pipeStep pipe.val .ntp (fun m _ => serveNtp m) s) := rfl
theorem exec_followUp (pipe : Fin 8) (s : State) :
    exec (.followUp pipe) s = .next (pipeStep pipe.val .followUp (fun m _ => serveFollowUp pipe.val m) s) := rfl
theorem exec_ntsRequest (pipe : Fin 8) (start tick : BitVec 64) (phase : Fin 32) (b : BitVec 13) (s : State) :
    exec (.ntsRequest pipe start tick phase b) s = .next (ntsRequest pipe.val start.toNat (32 * tick.toNat + phase.val) b.toNat s) := rfl
theorem exec_signalingRequest (s : State) : exec .signalingRequest s = .next (signalingRequest s) := rfl
theorem exec_cadenceDue (bitmap : Fin 12) (word : BitVec 16) (s : State) :
    exec (.cadenceDue bitmap word) s = .next (cadenceDue bitmap.val word.toNat s) := rfl
theorem exec_ptpClientMessage (t3 : Option (BitVec 96)) (s : State) :
    exec (.ptpClientMessage t3) s = .next (ptpClientMessage (t3.map (·.toNat)) s) := rfl
theorem exec_cliAnnTimeout (s : State) : exec .cliAnnTimeout s = .next (cliAnnTimeout s) := rfl
theorem exec_cliSyncTimeout (s : State) : exec .cliSyncTimeout s = .next (cliSyncTimeout s) := rfl
theorem exec_grantSweep (s : State) : exec .grantSweep s = .next (grantSweep s) := rfl

/-! ### Pipelines (R295, R297) -/

/-- What an NTS request leaves once it has been served; a start that the port could not reserve is none that the row can have. -/
def ntsServed (m : SveMsg) (s : State) : Option State → State
  | some t => credit m.snap t
  | none => s

section
variable {p : Nat} {m : SveMsg} {granted : Bool} {s : State} (hdoor : s.doorOpen .sve = true) (hnext : nextMsg s p = some (m, granted))
include hdoor hnext

/-- A pipeline whose next message is of the row's kind takes it out and serves it. A Follow_Up is the device's own message: no frame completes. -/
theorem pipeStep_takes {k : SveKind} (body : SveMsg → Bool → State → State) (hkind : m.kind = k) :
    pipeStep p k body s =
      if k = .followUp then body m granted (popMsg p granted s) else credit m.snap (body m granted (popMsg p granted s)) := by
  rw [pipeStep, if_neg (by simp [hdoor]), hnext]
  exact if_pos hkind

/-- A received message credits the counter of its entry when it has been served (R304). -/
theorem pipeStep_credits {k : SveKind} (body : SveMsg → Bool → State → State) (hkind : m.kind = k) (hk : k ≠ .followUp) :
    pipeStep p k body s = credit m.snap (body m granted (popMsg p granted s)) :=
  (pipeStep_takes hdoor hnext body hkind).trans (if_neg hk)

theorem pipeStep_followUp (body : SveMsg → Bool → State → State) (hkind : m.kind = .followUp) :
    pipeStep p .followUp body s = body m granted (popMsg p granted s) :=
  (pipeStep_takes hdoor hnext body hkind).trans (if_pos rfl)

theorem ntsRequest_serves (start : Rat) (x32 b : Nat) (hkind : m.kind = .nts) :
    ntsRequest p start x32 b s = ntsServed m s (serveNts m start x32 b (popMsg p granted s)) := by
  rw [ntsRequest, if_neg (by simp [hdoor]), hnext]
  exact if_neg (not_not_intro hkind)

end

/-! ### The grant engine (R314, R315) -/

/-- The state without the Signaling message at the head of the grant engine's queue. -/
def sigTaken (rest : List SveMsg) (s : State) : State := { s with sve := { s.sve with sig := rest } }

/-- The PTP octets of a message in the SVE. -/
def sigOctets (m : SveMsg) : Octets := ptpMessage m.frame (parse m.frame)

def sigKey (m : SveMsg) : Octets := clientKey m.snap.idx (parse m.frame) (sigOctets m)

/-- The unicast context of the client that a message comes from. -/
def sigCtx (m : SveMsg) (s : State) : Option Nat := findCtx s false (sigKey m)

/-- The verification of a Signaling message (R344). -/
def sigVerify (m : SveMsg) (s : State) : Option (Option Nat) × State :=
  verifyFor (sigOctets m) 44 (entTenant m.snap.data) ((sigCtx m s).map fun c => Ctx.sa (ctxRead s c)) false s

/-- The request of a message of a client with the context `ctx`, in hand: the directory may refuse the key of a new client. -/
def sigReq (m : SveMsg) (sa ctx : Option Nat) (s : State) : SigReq :=
  ⟨m, sigOctets m, sa, ctx.isNone && Config.dirFull s.sve.dir (sigKey m), ctx⟩

/-- The answers to a request's TLVs, in their order. -/
def sigAnswers (q : SigReq) (s : State) : Octets × SigReq × State :=
  answerTlvs q.msg.length 44 q
    (onlyIf q.dirBad (fun t => post Ev.SVE_DIR_FULL q.m.snap.idx (t.wr 0 F.SVE_COUNTS_DIR_FULL (t.sh F.SVE_COUNTS_DIR_FULL + 1))) s)

/-- The record under which an answer is sent: that of the client's context, where it has one by now. -/
def sigRecord (s : State) : Option Nat → Octets
  | some c => ctxRead s c
  | none => zeros 64

/-- The message of the answers to a request, if there are any: the request's frame has completed. -/
def sigReply (m : SveMsg) (a : Octets × SigReq × State) : State :=
  let t := credit m.snap a.2.2
  if a.1.isEmpty then t
  else (emitPtp m.port 1 (entTenant m.snap.data) (entClock m.snap.data) (sigRecord t a.2.1.ctx)
    (replyRoute m.port m.frame (parse m.frame) false 320 320)
    (ptpMsg t (entProfile m.snap.data) 0xC (entDomain m.snap.data) m.port false true 0 (ofBe (slice (sigOctets m) 30 2)) 0x7F
      (slice (sigOctets m) 20 10 ++ a.1)) [] none t).2

/-- The first Signaling message of a client whose context is not poisoned and that passes its verification is answered. -/
theorem signalingRequest_answers {m : SveMsg} {rest : List SveMsg} {sa : Option Nat} {s : State} (hdoor : s.doorOpen .sve = true)
    (hsig : s.sve.sig = m :: rest)
    (hclean : ((sigCtx m (sigTaken rest s)).map fun c => ctxPoisoned (sigTaken rest s) c).getD false = false)
    (hverified : (sigVerify m (sigTaken rest s)).1 = some sa) :
    signalingRequest s =
      sigReply m (sigAnswers (sigReq m sa (sigCtx m (sigTaken rest s)) (sigVerify m (sigTaken rest s)).2) (sigVerify m (sigTaken rest s)).2) := by
  rw [signalingRequest, hsig]
  dsimp only
  rw [if_neg (by simp [hdoor]), ← sigTaken, ← sigOctets, ← sigKey, ← sigCtx, if_neg (ne_true_of_eq_false hclean), ← sigVerify, hverified]
  rfl

/-! ### The cadence wheel (R322, R323) -/

/-- The state in which word `now` of bitmap l has been reached. -/
def wheelTurned (l : Nat) (now : Int) (s : State) : State := { s with sve := { s.sve with wheel := tset s.sve.wheel l now } }

/-- A word that VC0 has just reached, and that can be read, is served bit by bit: its 16 Sync bits, then its 16 Announce bits. -/
theorem cadenceDue_serves {l word a : Nat} {log now : Int} {s : State} (hlog : (l : Int) - 7 = log) (hnow : wheelNow s log = now)
    (hdoor : s.doorOpen .sve = true) (hen : s.sh F.SVE_CTRL_EN ≠ 0) (hword : (now % 65536).toNat = word) (hnew : tget s.sve.wheel l ≠ some now)
    (haddr : wheelAddr (wheelTurned l now s) log (16 * word) = some a) (hclean : (wheelTurned l now s).shmPoisoned a 4 = false) :
    cadenceDue l word s =
      each (List.range 32) (fun i t =>
        onlyIf (bitOf (ofLe ((wheelTurned l now s).shmRead a 4)) i) (dueBit log (i / 16) (16 * word + i % 16)) t) (wheelTurned l now s) := by
  have hfalls : ¬ (!s.doorOpen .sve || s.sh F.SVE_CTRL_EN == 0 || (now % 65536).toNat != word || tget s.sve.wheel l == some now) = true := by
    simp [hdoor, hen, hword, hnew]
  rw [cadenceDue]
  dsimp only
  rw [hlog, hnow, if_neg hfalls, ← wheelTurned, haddr]
  exact if_neg (ne_true_of_eq_false hclean)

/-! ### The client session (R330, R331) -/

/-- The state in which the oldest message of the session has left its inbox, counted. -/
def cliTaken (rest : List (Octets × Nat × Int)) (s : State) : State :=
  (setCli { s.sve.cli with inbox := rest } s).wr 0 F.SVE_CLI_STATUS_MESSAGES (s.sh F.SVE_CLI_STATUS_MESSAGES + 1)

/-- A Follow_Up of the session gives the exchange of its Sync the time t1. -/
def cliFollowUp (m : Octets) (t : State) : State :=
  match t.sve.cli.exch with
  | some e => if e.seq = ofBe (slice m 30 2) then
      setCli { t.sve.cli with exch := some { e with t1 := some (ptpNs (slice m 34 10) + ptpCorr m) } } t else t
  | none => t

/-- A message of the session reaches the steward by its messageType. -/
def cliDeliver (m : Octets) (x32 : Nat) (time : Int) (t3 : Option Nat) (t : State) : State :=
  match ptpType m with
  | 0 => cliSync m x32 time t
  | 8 => cliFollowUp m t
  | 9 => cliDelayResp m t3 t
  | _ => cliAnnounce m t

theorem ptpClientMessage_delivers {m : Octets} {x32 : Nat} {time : Int} {rest : List (Octets × Nat × Int)} {s : State} (t3 : Option Nat)
    (hinbox : s.sve.cli.inbox = (m, x32, time) :: rest) : ptpClientMessage t3 s = cliDeliver m x32 time t3 (cliTaken rest s) := by
  rw [ptpClientMessage, hinbox]
  rfl

/-- Without an Announce for the time-out, the session has none and REF25 loses its received quality (R108). -/
theorem cliAnnTimeout_lost {t : Nat} {log : Int} {s : State} (hann : s.sve.cli.ann = some (t, log))
    (hlate : (t : Rat) + logTicks (s.sh F.SVE_CLI_CFG_CLI_ANN_TO) log ≤ (s.frc : Rat)) (hen : s.sh F.SVE_CLI_CFG_CLI_EN ≠ 0) :
    cliAnnTimeout s = (let x := setCli { s.sve.cli with ann := none } s
      updateQr 25 ((post Ev.SVE_CLI_LOST 0 (x.wr 0 F.SVE_CLI_STATUS_ANN_TIMEOUT 1)).setSlot 25 { x.slot 25 with qlTick := none })) := by
  rw [cliAnnTimeout, hann]
  exact if_neg (not_or_intro (not_lt.2 hlate) hen)

/-- Without a Sync for the time-out, REF25 has lost its link (R104). -/
theorem cliSyncTimeout_lost {t : Nat} {log : Int} {s : State} (hsync : s.sve.cli.sync = some (t, log))
    (hlate : (t : Rat) + logTicks (s.sh F.SVE_CLI_CFG_CLI_SYNC_TO) log ≤ (s.frc : Rat)) (hen : s.sh F.SVE_CLI_CFG_CLI_EN ≠ 0) :
    cliSyncTimeout s = linkLost 25 (post Ev.SVE_CLI_LOST 0 ((setCli { s.sve.cli with sync := none } s).wr 0 F.SVE_CLI_STATUS_SYNC_LOST 1)) := by
  rw [cliSyncTimeout, hsync]
  exact if_neg (not_or_intro (not_lt.2 hlate) hen)

/-! ### The sweep (R320) -/

/-- 10 s after the last sweep, every context in use is visited. -/
theorem grantSweep_due {s : State} (hdoor : s.doorOpen .sve = true) (hdue : s.sve.sweepAt + 10 * ticksPerSec ≤ s.frc) :
    grantSweep s = each s.sve.dir sweepContext { s with sve := { s.sve with sweepAt := s.frc } } :=
  if_neg (by simp [hdoor, hdue])

/-- Settles O24: each row is one operation of the serving engines, and each clause is the branch of it that its conditions select. That a pipeline
serves a whole message in its row, that the wheel asks for EN and serves a word only when VC0 has just reached it, and that t3 comes with the
Delay_Resp, is the model's choice (assumptions 108, 114, 115 and 117). -/
theorem servingMessages : Obligations.ServingMessages := by
  unfold Obligations.ServingMessages
  refine ⟨?delayReq, ?ntp, ?followUp, ?nts, ?signaling, ?cadence, ?client, ?announce, ?sync, ?sweep⟩
  case delayReq =>
    exact fun pipe m granted s hdoor hnext hkind => by rw [exec_delayReq, pipeStep_credits hdoor hnext _ hkind (by decide)]
  case ntp => exact fun pipe m granted s hdoor hnext hkind => by rw [exec_ntpRequest, pipeStep_credits hdoor hnext _ hkind (by decide)]
  case followUp => exact fun pipe m granted s hdoor hnext hkind => by rw [exec_followUp, pipeStep_followUp hdoor hnext _ hkind]
  case nts =>
    exact fun pipe m granted start tick phase b s hdoor hnext hkind => by
      rw [exec_ntsRequest, ntsRequest_serves hdoor hnext _ _ _ hkind]
      rfl
  case signaling =>
    exact fun m rest sa s hdoor hsig hclean hverified => by
      rw [exec_signalingRequest, signalingRequest_answers hdoor hsig hclean hverified]
      rfl
  case cadence =>
    exact fun bitmap word a s hdoor hen hword hnew haddr hclean => by
      rw [exec_cadenceDue, cadenceDue_serves rfl rfl hdoor hen hword hnew haddr hclean]
      rfl
  case client =>
    exact fun t3 m x32 time rest s hinbox => by
      rw [exec_ptpClientMessage, ptpClientMessage_delivers _ hinbox]
      rfl
  case announce => exact fun t log s hann hlate hen => by rw [exec_cliAnnTimeout, cliAnnTimeout_lost hann hlate hen]
  case sync => exact fun t log s hsync hlate hen => by rw [exec_cliSyncTimeout, cliSyncTimeout_lost hsync hlate hen]
  case sweep => exact fun s hdoor hdue => by rw [exec_grantSweep, grantSweep_due hdoor hdue]

end Sys2Proof.Machine
end

section
/-! PROOFS. The link delay of a chain port and its filter (R401, R402). -/

namespace Sys2Proof.Machine

/-- A full filter of DELAY_N delays whose mean differs from d by more than DELAY_JUMP_PS (R402). -/
def delayJumps (p : Nat) (d : Int) (s : State) : Bool :=
  ((s.ubwPort p).delays.take (s.sh F.UBW_FILTER)).length == s.sh F.UBW_FILTER &&
    decide (s.sh F.UBW_CTRL_DELAY_JUMP_PS * 65536 <
      (d - roundDiv ((s.ubwPort p).delays.take (s.sh F.UBW_FILTER)).sum (s.sh F.UBW_FILTER)).natAbs * 1000)

/-- The offset of arrival a against its departure t1 at the mean of the delays ds (R401). -/
def sampleTheta (p : Nat) (a : UbwStamp) (t1 : Int) (ds : List Int) (s : State) : Int :=
  a.time - t1 - (roundDiv ds.sum (s.sh F.UBW_FILTER) + roundDiv (ubwAsym s p) 2)

section
variable {p : Nat} {a : UbwStamp} {t1 d : Int} {s : State}

theorem exchangeSample_jumps (hn : 2 ≤ s.sh F.UBW_FILTER) (hjump : delayJumps p d s = true) :
    exchangeSample p a t1 d s = (post Ev.UBW_DELAY_JUMP p s).setUbwPort p { s.ubwPort p with delays := [d] } := by
  rw [exchangeSample, ← delayJumps, hjump]
  exact if_pos hn

theorem exchangeSample_without_jump (hjump : delayJumps p d s = false) :
    exchangeSample p a t1 d s = (
      let ds := (d :: (s.ubwPort p).delays.take (s.sh F.UBW_FILTER)).take (s.sh F.UBW_FILTER)
      if ds.length < s.sh F.UBW_FILTER then s.setUbwPort p { s.ubwPort p with delays := ds }
      else (s.setUbwPort p { s.ubwPort p with delays := ds, thetas := (sampleTheta p a t1 ds s, a) :: (s.ubwPort p).thetas }).wr
        0 (F.UBW_PORT_DELAY p) (satU 32 (roundDiv ds.sum (s.sh F.UBW_FILTER)).toNat)) := by
  rw [exchangeSample, ← delayJumps, hjump]
  rfl

theorem delayJumps_full (hfull : s.sh F.UBW_FILTER ≤ (s.ubwPort p).delays.length)
    (hfar : s.sh F.UBW_CTRL_DELAY_JUMP_PS * 65536 <
      (d - roundDiv ((s.ubwPort p).delays.take (s.sh F.UBW_FILTER)).sum (s.sh F.UBW_FILTER)).natAbs * 1000) :
    delayJumps p d s = true := by
  simp [delayJumps, hfull, hfar]

/-- A filter that is not full, or whose mean is near, is not restarted. -/
theorem delayJumps_eq_false (h : (s.ubwPort p).delays.length < s.sh F.UBW_FILTER ∨
      (d - roundDiv ((s.ubwPort p).delays.take (s.sh F.UBW_FILTER)).sum (s.sh F.UBW_FILTER)).natAbs * 1000 ≤ s.sh F.UBW_CTRL_DELAY_JUMP_PS * 65536) :
    delayJumps p d s = false := by
  rcases h with hshort | hnear
  · simp [delayJumps, hshort]
  · simp [delayJumps, hnear]

/-- While the filter lacks delays, a further one joins it and gives no offset. -/
theorem exchangeSample_collects (hshort : (s.ubwPort p).delays.length + 1 < s.sh F.UBW_FILTER) :
    exchangeSample p a t1 d s = s.setUbwPort p { s.ubwPort p with delays := d :: (s.ubwPort p).delays } := by
  have hall : (d :: (s.ubwPort p).delays.take (s.sh F.UBW_FILTER)).take (s.sh F.UBW_FILTER) = d :: (s.ubwPort p).delays := by
    rw [List.take_of_length_le (l := (s.ubwPort p).delays) (by omega), List.take_of_length_le (by simp; omega)]
  rw [exchangeSample_without_jump (delayJumps_eq_false (.inl (by omega))), hall]
  exact if_pos hshort

/-- With DELAY_N delays and no jump, the newest DELAY_N of them give one offset. -/
theorem exchangeSample_offset (hjump : delayJumps p d s = false) (hfull : s.sh F.UBW_FILTER ≤ (s.ubwPort p).delays.length + 1) :
    (exchangeSample p a t1 d s).ubwPort p = { s.ubwPort p with
      delays := (d :: (s.ubwPort p).delays.take (s.sh F.UBW_FILTER)).take (s.sh F.UBW_FILTER)
      thetas := (sampleTheta p a t1 ((d :: (s.ubwPort p).delays.take (s.sh F.UBW_FILTER)).take (s.sh F.UBW_FILTER)) s, a) ::
        (s.ubwPort p).thetas } := by
  rw [exchangeSample_without_jump hjump]
  dsimp only
  rw [if_neg (by simp; omega)]
  exact tgetD_tset_self _ _ _ _

end

/-- Settles O59: the jump decides between a restarted filter and one that keeps its delays, whose length decides about the offset. That the jump is
taken against the mean of the full filter, and that the check for it is not made before, is the model's choice (assumption 135). -/
theorem delayJumpRestartsTheFilter : Obligations.DelayJumpRestartsTheFilter := by
  unfold Obligations.DelayJumpRestartsTheFilter
  refine ⟨?jump, ?collect, ?offset⟩
  case jump => exact fun p a t1 d s hn hfull hfar => exchangeSample_jumps hn (delayJumps_full hfull hfar)
  case collect => exact fun p a t1 d s hshort => exchangeSample_collects hshort
  case offset =>
    intro p a t1 d s _ hfull hnear
    rw [exchangeSample_offset (delayJumps_eq_false hnear) hfull]
    exact ⟨_, rfl, rfl⟩

end Sys2Proof.Machine
end

section
/-! PROOFS. Octets of the shared SRAM, and the poison marks of its words (R464, R467). -/

namespace Sys2Proof.Machine

section
variable {a : Nat} {d : Octets} {s : State} (hs : Memory.wf s.shm = true)
include hs

theorem shmRead_shmWrite_same : (s.shmWrite a d).shmRead a d.length = d := cgetN_csetAll s.shm a d hs

/-- An octet outside the written ones reads as before. -/
theorem shmRead_shmWrite_outside {b : Nat} (hb : b < a ∨ a + d.length ≤ b) : (s.shmWrite a d).shmRead b 1 = s.shmRead b 1 :=
  congrArg (fun x => [x]) (cget_csetAll_out s.shm a b d hs hb)

end

/-- A word keeps its mark unless the write covers it whole. -/
theorem mem_shmWrite_poison (a : Nat) (d : Octets) (s : State) (w : Nat) :
    w ∈ (s.shmWrite a d).shmx.poison ↔ w ∈ s.shmx.poison ∧ ¬(a ≤ 32 * w ∧ 32 * w + 32 ≤ a + d.length) := by
  simp only [State.shmWrite, List.mem_filter, ← Bool.decide_and, Bool.not_eq_true', decide_eq_false_iff_not]

/-- Settles O54: the laws of the byte memory, and the marks of the words that the write covers whole. -/
theorem sharedMemoryReadsBack : Obligations.SharedMemoryReadsBack := by
  unfold Obligations.SharedMemoryReadsBack
  exact fun a d s hs => ⟨shmRead_shmWrite_same hs, fun _ hb => shmRead_shmWrite_outside hs hb, wf_csetAll s.shm a d hs, mem_shmWrite_poison a d s, rfl⟩

end Sys2Proof.Machine
end

section
/-! PROOFS. Hits of fault sources, and the fault collector's clocks and log (R559, R562, R567, R569, R571, R640). -/

namespace Sys2Proof.Machine

/-! ### The rows, by operation -/

theorem exec_faultHit (sources : List FltHit) (s : State) :
    exec (.faultHit sources) s = .next (if hitsOf sources = [] then s else hits (hitsOf sources) s) := rfl
theorem exec_tmrCompare (mismatch : Option (BitVec 16)) (s : State) : exec (.tmrCompare mismatch) s = .next (tmrCompare mismatch s) := rfl
theorem exec_readyTimeout {block : Fin 24} {b : Blk} (hb : Blk.ofCode block.val = some b) (s : State) :
    exec (.readyTimeout block) s = .next (readyTimeout b s) := by
  change execReadyTimeout block s = _
  rw [execReadyTimeout, hb]
theorem exec_sclkStop (s : State) : exec .sclkStop s = .next (sclkStop s) := rfl
theorem exec_sclkReturn (s : State) : exec .sclkReturn s = .next (s.wr 0 F.FLT_STATUS_RC_CLOCK 0) := rfl
theorem exec_fltLogWrite (s : State) : exec .fltLogWrite s = .next (fltLogWrite s) := rfl

/-! ### One hit of a source that causes no reaction (R562) -/

/-- The hit that an existing source reports. -/
def hitOf (h : FltHit) : Hit := { src := h.source.val, obj := h.object.toNat, detail := h.detail.toNat }

theorem hitsOf_singleton {h : FltHit} (hsrc : (srcDesc h.source.val).isSome = true) : hitsOf [h] = [hitOf h] := by
  simp [hitsOf, hsrc, hitOf]

theorem exec_faultHit_singleton {h : FltHit} (hsrc : (srcDesc h.source.val).isSome = true) (s : State) :
    exec (.faultHit [h]) s = .next (hits [hitOf h] s) := by
  rw [exec_faultHit, hitsOf_singleton hsrc, if_neg (List.cons_ne_nil _ _)]

section
variable {h : Hit} {s : State}

/-- A masked source is not judged. -/
theorem judge_masked (hsrc : h.src ≠ 1344) (hen : s.srcCfg h.src % 2 = 0) : judge s h = none := by
  simp [judge, hsrc, bitOf, hen]

/-- With REACTION 0, an enabled source neither reacts nor escalates. -/
theorem judge_quiet (hsrc : h.src ≠ 1344) (hen : s.srcCfg h.src % 2 = 1) (hrc : bits (s.srcCfg h.src) 3 7 = 0) :
    ∃ j, judge s h = some j ∧ j.hit = h ∧ j.rc = 0 ∧ j.esc = false := by
  have hblk : bitOf (s.srcCfg h.src) 5 = false := by
    simp only [bits, bitOf, beq_eq_false_iff_ne] at hrc ⊢
    omega
  have hcfg : (if h.src == 1344 then srcDefault 1344 else s.srcCfg h.src) = s.srcCfg h.src := if_neg (by simpa using hsrc)
  rw [judge, hcfg]
  refine ⟨_, if_neg (by simp [bitOf, hen]), rfl, hrc, ?_⟩
  dsimp only
  rw [hblk, Bool.false_and]

/-- What a hit leaves once it has been latched and counted, when nothing of it is judged. -/
theorem hits_masked (hjudge : judge s h = none) : hits [h] s = latchHit h s := by
  simp [hits, hitsWith, hjudge, combined, each, onlyIf]

end

/-! ### A judged hit without a reaction -/

theorem combined_quiet {j : Judged} (hrc : j.rc = 0) (hesc : j.esc = false) : combined [j] = (false, false, false) := by
  simp [combined, hrc, hesc, bitOf]

theorem applied_quiet {j : Judged} (hrc : j.rc = 0) : applied j false false = (0, false) := by
  simp [applied, hrc]

theorem additive_quiet (j : Judged) (s : State) : additive j (0, false) s = s := by
  simp [additive, bitOf, onlyIf]

/-- A record without a reaction enters a FIFO that has room (R569). -/
theorem logRecord_quiet {r : FltRec} {s : State} (hr : r.reaction = 0) (hroom : s.flt.fifo.length < 64) :
    logRecord r s = State.wr 0 F.FLT_STATUS_FIFO (s.flt.fifo.length + 1) { s with flt := { s.flt with
      fifo := s.flt.fifo ++ [{ r with lostBefore := s.flt.lostBefore }], seq := (s.flt.seq + 1) % 2 ^ 32, lostBefore := false } } := by
  have hlast : (bitOf r.reaction 3 || bitOf r.reaction 5) = false := by simp [hr, bitOf]
  rw [logRecord, hlast]
  exact if_neg (Nat.not_le.2 hroom) |>.trans (congrArg (fun n => State.wr 0 F.FLT_STATUS_FIFO n _) List.length_append)

/-- A judged hit with REACTION 0 is latched, counted and logged, and does nothing else (R562). -/
theorem hits_quiet {h : Hit} {j : Judged} {s : State} (hjudge : judge s h = some j) (hrc : j.rc = 0) (hesc : j.esc = false)
    (hroom : s.flt.fifo.length < 64) :
    hits [h] s = logRecord (recordOf (latchHit h s) j (0, false)) (latchHit h s) := by
  have hlost : (logRecord (recordOf (latchHit h s) j (0, false)) (latchHit h s)).sh F.FLT_STATUS_LOST = (latchHit h s).sh F.FLT_STATUS_LOST := by
    rw [logRecord_quiet (s := latchHit h s) rfl hroom]
    exact sh_wr_ne _ _ (by decide)
  have hnone : combined [] = (false, false, false) := rfl
  rw [hits, hitsWith]
  -- A hit that does not act, a dry one and a real one all apply REACTION 0.
  cases hact : j.acting <;> cases hdry : j.hit.dry <;>
    simp [hjudge, hact, hdry, hnone, combined_quiet hrc hesc, applied_quiet hrc, additive_quiet, hlost, each, onlyIf, bitOf]

/-- Settles O57: a masked hit is not judged; one with EN 1 and REACTION 0 is judged, and neither its record nor its reaction does more than the log
takes. That a masked hit takes no seq is the model's choice (assumption 179). -/
theorem maskedSourcesOnlyCount : Obligations.MaskedSourcesOnlyCount := by
  unfold Obligations.MaskedSourcesOnlyCount
  refine ⟨?masked, ?quiet⟩
  case masked =>
    exact fun src obj det s hsrc htmr hen => by
      rw [exec_faultHit_singleton hsrc, hits_masked (judge_masked htmr hen), latchHit, hitOf]
  case quiet =>
    intro src obj det s hsrc htmr hen hrc hroom
    obtain ⟨j, hjudge, hhit, hrc0, hesc⟩ := judge_quiet (h := hitOf ⟨src, obj, det⟩) htmr hen hrc
    refine ⟨{ recordOf (latchHit (hitOf ⟨src, obj, det⟩) s) j (0, false) with lostBefore := s.flt.lostBefore }, ?_⟩
    have hobj : obj.toNat % 2 ^ 16 = obj.toNat := Nat.mod_eq_of_lt obj.isLt
    have hdet : det.toNat % 2 ^ 64 = det.toNat := Nat.mod_eq_of_lt det.isLt
    rw [exec_faultHit_singleton hsrc, hits_quiet hjudge hrc0 hesc hroom, logRecord_quiet (s := latchHit (hitOf ⟨src, obj, det⟩) s) rfl hroom]
    unfold recordOf
    rw [hhit]
    exact ⟨rfl, rfl, rfl, rfl, hobj, hdet, rfl, rfl⟩

/-- A shared register is a matter of the register file. -/
theorem sh_of_regs {s t : State} (h : t.regs = s.regs) (f : FieldRef) : t.sh f = s.sh f :=
  congrArg (tgetD · (f.key 0) f.rst) h

/-! ### Doors that do not come back, and the log (R567, R569) -/

/-- The deadline of a block whose door has not come back (R567). -/
theorem readyTimeout_due {b : Blk} {tm : ReadyTimer} {s : State} (htm : tget s.flt.timers b.code = some tm) (hfired : tm.fired = false)
    (hdue : tm.deadline ≤ s.frc) (hdoor : s.sh (F.FLT_BLK_STATUS_DOOR b.code) ≠ 0) :
    readyTimeout b s = finish .flt fltOpReset b.code Code.blockAbsent 0 (hits [{ src := 64 * b.code + 48, primary := true }]
      (closeShadow b { s with flt := { s.flt with timers := tset s.flt.timers b.code { tm with fired := true } } })) := by
  rw [readyTimeout, htm]
  exact if_neg (by simp [hfired, hdue, hdoor])

theorem sclkStop_falls_back {s : State} (hrc : s.sh F.FLT_STATUS_RC_CLOCK = 0) :
    sclkStop s = raise 1346 0 0 (s.wr 0 F.FLT_STATUS_RC_CLOCK 1) :=
  if_neg (by simp [hrc])

/-- The record r moved from the FIFO, which keeps l, to the slot of the log ring that WR_IDX names. -/
def logMoved (r : FltRec) (l : List FltRec) (s : State) : State :=
  let size := 2 ^ s.sh F.FLT_LOG_CFG_LOG2_RECORDS
  let wr := s.sh F.FLT_LOG_WR_IDX
  let t := { s.shmWrite (s.sh F.FLT_LOG_BASE / (32 * size) * (32 * size) + 32 * (wr % size)) r.octets with flt := { s.flt with fifo := l } }
  State.wr 0 F.FLT_LOG_WR_IDX (wr + 1) (t.wr 0 F.FLT_STATUS_FIFO l.length)

theorem logMoved_watermark (r : FltRec) (l : List FltRec) (s : State) : (logMoved r l s).sh F.FLT_LOG_CFG_WM = s.sh F.FLT_LOG_CFG_WM := by
  have hidx : F.FLT_LOG_CFG_WM.key 0 ≠ F.FLT_LOG_WR_IDX.key 0 := by decide
  have hfifo : F.FLT_LOG_CFG_WM.key 0 ≠ F.FLT_STATUS_FIFO.key 0 := by decide
  unfold logMoved
  rw [sh_wr_ne _ _ hidx, sh_wr_ne _ _ hfifo]
  exact sh_of_regs (by simp only [shmWrite_regs]) _

/-- The oldest record goes into an enabled ring that has room, while SHM can be reached; without a watermark nothing is posted. -/
theorem fltLogWrite_moves {r : FltRec} {l : List FltRec} {s : State} (hfifo : s.flt.fifo = r :: l) (hen : s.sh F.FLT_LOG_CFG_EN = 1)
    (hroom : wsub 32 (s.sh F.FLT_LOG_WR_IDX) (s.sh F.FLT_LOG_RD_IDX) < 2 ^ s.sh F.FLT_LOG_CFG_LOG2_RECORDS) (hshm : s.doorOpen .shm = true)
    (hwm : s.sh F.FLT_LOG_CFG_WM = 0) : fltLogWrite s = logMoved r l s := by
  rw [fltLogWrite, hfifo]
  dsimp only
  rw [if_neg (by simp [hen, hroom, hshm]), ← logMoved, logMoved_watermark, hwm]
  rfl

/-- Settles O48: each row is one operation of the collector, and each clause is the branch of it that its conditions select. -/
theorem collectorCommands : Obligations.CollectorCommands := by
  unfold Obligations.CollectorCommands
  refine ⟨?taken, ?reserved, ?tmr, ?timeout, ?stop, ?back, ?log⟩
  case taken => exact fun sources s hsome => by rw [exec_faultHit, if_neg hsome]
  case reserved => exact fun sources s hnone => by rw [exec_faultHit, if_pos hnone]
  case tmr => exact fun i s => ⟨exec_tmrCompare (some i) s, exec_tmrCompare none s⟩
  case timeout =>
    exact fun block b tm s hb htm hfired hdue hdoor => by rw [exec_readyTimeout hb, readyTimeout_due htm hfired hdue hdoor]
  case stop => exact fun s hrc => by rw [exec_sclkStop, sclkStop_falls_back hrc]
  case back => exact exec_sclkReturn
  case log => exact fun r l s hfifo hen hroom hshm hwm => by rw [exec_fltLogWrite, fltLogWrite_moves hfifo hen hroom hshm hwm, logMoved]

end Sys2Proof.Machine
end

section
/-! PROOFS. The window of the fault collector (R560, R573, R574). -/

namespace Sys2Proof.Machine

/-! ### The rows, by operation -/

theorem exec_fltSrcWrite (fn : Fn) (s : State) : exec (.fltSrcWrite fn) s = .next (opSrcWrite (ownWin fn) s) := rfl
theorem exec_fltSrcRead (fn : Fn) (s : State) : exec (.fltSrcRead fn) s = .next (opSrcRead (ownWin fn) s) := rfl
theorem exec_fltBlockReset (fn : Fn) (s : State) : exec (.fltBlockReset fn) s = .next (opBlockReset (ownWin fn) s) := rfl
theorem exec_fltInject (fn : Fn) (real : List FltHit) (s : State) : exec (.fltInject fn real) s = .next (opInject (ownWin fn) real s) := rfl
theorem exec_fltLock (fn : Fn) (s : State) : exec (.fltLock fn) s = .next (opFltLock (ownWin fn) s) := rfl

/-- A command that the window takes, from a function with the authority for it, runs its body. -/
theorem fltCommand_permitted {fn : Fn} {s : State} (auth : State → Bool) (body : State → State) (ht : s.takes .flt stFlt fn.val = true)
    (hauth : auth s = true) : fltCommand (ownWin fn) auth body s = body s :=
  (command_takes _ _ _ (ownWin fn) _ _ rfl ht).trans (if_pos hauth)

section
variable {fn : Fn} {s : State} {src : Nat} (ht : s.takes .flt stFlt fn.val = true) (hs : s.secureSt fn.val = true)
include ht hs

/-! ### SRC_WRITE -/

section
variable {cfg : Nat} (hsel : s.rd (fn.val + 1) F.FLT_SRC_SEL = src)
  (hcfg : s.rd (fn.val + 1) F.FLT_SRC_CFG_EN + 2 * s.rd (fn.val + 1) F.FLT_SRC_CFG_SEV + 8 * s.rd (fn.val + 1) F.FLT_SRC_CFG_REACTION = cfg)
  (hopen : s.sh F.FLT_STATUS_LOCKED = 0) (hfree : src ≠ 1344) (hexists : srcDesc src ≠ none)
include hsel hcfg hopen hfree hexists

theorem opSrcWrite_configures (hkeeps : cfgBreaks src cfg = false) :
    opSrcWrite (ownWin fn) s = completeOk stFlt (ownWin fn) { s with flt := { s.flt with
      cfg := if cfg = srcDefault src then tdel s.flt.cfg src else tset s.flt.cfg src cfg } } := by
  subst hsel hcfg
  rw [opSrcWrite, fltCommand_permitted _ _ ht hs, if_neg (by simp [hopen]), if_neg (not_or_intro hfree hexists)]
  exact if_neg (ne_true_of_eq_false hkeeps)

theorem opSrcWrite_breaks (hbreaks : cfgBreaks src cfg = true) : opSrcWrite (ownWin fn) s = refuse stFlt (ownWin fn) FltCause.rule s := by
  subst hsel hcfg
  rw [opSrcWrite, fltCommand_permitted _ _ ht hs, if_neg (by simp [hopen]), if_neg (not_or_intro hfree hexists)]
  exact if_pos hbreaks

end

theorem opSrcWrite_locked (hlocked : s.sh F.FLT_STATUS_LOCKED = 1) : opSrcWrite (ownWin fn) s = refuse stFlt (ownWin fn) FltCause.locked s := by
  rw [opSrcWrite, fltCommand_permitted _ _ ht hs]
  exact if_pos hlocked

/-! ### BLOCK_RESET, INJECT and LOCK -/

/-- A block that may be reset and is not gated begins its reset, with which the command completes (R566). -/
theorem opBlockReset_begins {b : Blk} (hb : Blk.ofCode (s.rd (fn.val + 1) F.FLT_ARG_BLOCK) = some b) (hmay : neverReset b = false)
    (hon : s.gated b.code = false) :
    opBlockReset (ownWin fn) s = orderBlockReset b none (accept .flt stFlt (ownWin fn) fltOpReset b.code s) := by
  rw [opBlockReset, fltCommand_permitted _ _ ht hs]
  dsimp only
  rw [hb]
  dsimp only
  rw [if_neg (ne_true_of_eq_false hmay), if_neg (ne_true_of_eq_false hon)]

/-- In DEVELOP an injected hit joins the real hits of its cycle in their ascending order (R563, R573). -/
theorem opInject_develop {real : List FltHit} (hsel : s.rd (fn.val + 1) F.FLT_SRC_SEL = src) (hdev : s.develop = true)
    (hexists : srcDesc src ≠ none) :
    opInject (ownWin fn) real s = hits (((hitsOf real).filter fun x => decide (x.src ≤ src)) ++
      { src := src, injected := true, dry := s.rd (fn.val + 1) F.FLT_ARG_MODE == 0 && src != 1344 } ::
        (hitsOf real).filter fun x => decide (src < x.src)) (completeOk stFlt (ownWin fn) s) := by
  subst hsel
  rw [opInject, fltCommand_permitted _ _ ht hs, if_neg (by simp [hdev])]
  exact if_neg hexists

theorem opFltLock_locks : opFltLock (ownWin fn) s = completeOk stFlt (ownWin fn) (s.wr 0 F.FLT_STATUS_LOCKED 1) :=
  fltCommand_permitted _ _ ht hs

end

/-! ### SRC_READ -/

/-- The window of copy c filled with a source's configuration and description, and the command completed. -/
def srcShown (c src : Nat) (s : State) : State :=
  let cfg := ((s.wr c F.FLT_SRC_CFG_EN (s.srcCfg src)).wr c F.FLT_SRC_CFG_SEV (bits (s.srcCfg src) 1 2)).wr c F.FLT_SRC_CFG_REACTION
    (bits (s.srcCfg src) 3 7)
  let desc := ((cfg.wr c F.FLT_SRC_CFG_CLASS (b2n (((srcDesc src).map (·.integrity)).getD false))).wr c F.FLT_SRC_CFG_CASCADE
    (b2n (((srcDesc src).map (·.cascade)).getD false))).wr c F.FLT_SRC_CFG_FIXED (b2n (src == 1344))
  ((desc.wr c F.FLT_CMD_STATUS_CODE Code.ok).wr c F.FLT_CMD_STATUS_BUSY 0).wr c F.FLT_CMD_STATUS_CAUSE 0

theorem opSrcRead_shows {fn : Fn} {s : State} (ht : s.takes .flt stFlt fn.val = true) (hmay : tenant0 fn.val = true ∨ s.secureSt fn.val = true) :
    opSrcRead (ownWin fn) s = srcShown (fn.val + 1) (s.rd (fn.val + 1) F.FLT_SRC_SEL) s := by
  rw [opSrcRead, fltCommand_permitted _ _ ht (by simpa using hmay)]
  have hc : fn.val + 1 < 1024 := by omega
  simp only [completeOk, complete, stFlt, noteDone, if_pos hc]
  rfl

theorem srcShown_onlyCopy (c src : Nat) (s : State) : onlyCopy c s (srcShown c src s) := by
  unfold srcShown
  repeat' apply onlyCopy_wr _ (by decide)
  exact onlyCopy_refl c s

/-- The window reads the completion and the source's configuration. -/
theorem srcShown_reads (c src : Nat) (s : State) :
    (srcShown c src s).rd c F.FLT_SRC_CFG_EN = s.srcCfg src % 2 ∧ (srcShown c src s).rd c F.FLT_SRC_CFG_SEV = bits (s.srcCfg src) 1 2 ∧
      (srcShown c src s).rd c F.FLT_SRC_CFG_REACTION = bits (s.srcCfg src) 3 7 ∧ (srcShown c src s).rd c F.FLT_CMD_STATUS_CODE = Code.ok := by
  simp (disch := decide) only [srcShown, rd_wr_self, rd_wr_other_field]
  exact ⟨rfl, Nat.mod_mod _ _, Nat.mod_mod _ _, rfl⟩

/-- Settles O49: each command of the window runs for a function with the authority, and each clause is the branch that its conditions select. -/
theorem faultWindowCommands : Obligations.FaultWindowCommands := by
  unfold Obligations.FaultWindowCommands
  refine ⟨?write, ?breaks, ?locked, ?read, ?reset, ?inject, ?lock⟩
  case write =>
    exact fun fn s ht hs hopen hfree hexists hkeeps => by rw [exec_fltSrcWrite, opSrcWrite_configures ht hs rfl rfl hopen hfree hexists hkeeps]
  case breaks =>
    exact fun fn s ht hs hopen hfree hexists hbreaks => by rw [exec_fltSrcWrite, opSrcWrite_breaks ht hs rfl rfl hopen hfree hexists hbreaks]
  case locked => exact fun fn s ht hs hlocked => by rw [exec_fltSrcWrite, opSrcWrite_locked ht hs hlocked]
  case read =>
    intro fn s ht hmay
    refine ⟨_, exec_fltSrcRead fn s, ?_⟩
    rw [opSrcRead_shows ht hmay]
    obtain ⟨hen, hsev, hreaction, hcode⟩ := srcShown_reads (fn.val + 1) (s.rd (fn.val + 1) F.FLT_SRC_SEL) s
    exact ⟨hen, hsev, hreaction, hcode, srcShown_onlyCopy _ _ _⟩
  case reset => exact fun fn b s ht hs hb hmay hon => by rw [exec_fltBlockReset, opBlockReset_begins ht hs hb hmay hon]
  case inject => exact fun fn real s ht hs hdev hexists => by rw [exec_fltInject, opInject_develop ht hs rfl hdev hexists]
  case lock => exact fun fn s ht hs => by rw [exec_fltLock, opFltLock_locks ht hs]

end Sys2Proof.Machine
end

section
/-! PROOFS. An event at its function's event ring, full or not (R509, R510); and a table of lost counts at which O55 fails. -/

namespace Sys2Proof.Machine

theorem bitOf_setBitN (n i : Nat) : bitOf (setBitN n i) i = true := by
  unfold setBitN
  split
  · assumption
  · rename_i hclear
    simp only [bitOf, beq_iff_eq] at hclear ⊢
    rw [Nat.add_div_right _ (Nat.two_pow_pos i)]
    omega

/-- A canonical table without a key has no entry there. -/
theorem tget_tdel_self {α : Type} {t : Tbl α} (n : Nat) (h : twf t = true) : tget (tdel t n) n = none := by
  rw [twf_iff] at h
  induction t with
  | nil => rfl
  | cons e t ih =>
    obtain ⟨k, v⟩ := e
    obtain ⟨hlt, ht⟩ := List.pairwise_cons.1 h
    unfold tdel
    split
    · rename_i hk
      match t, hlt with
      | [], _ => rfl
      | (l, w) :: t, hlt =>
        have hl : k < l := hlt l (by simp)
        rw [tget, if_neg (by omega), if_pos (by omega)]
    · split
      · rename_i hk hlow
        rw [tget, if_neg hk, if_pos hlow]
      · rename_i hk hhigh
        rw [tget, if_neg hk, if_neg hhigh, ih ht]

/-- A condition of a vector changes the vectors alone. -/
theorem raiseVec_vecs (fn v itr : Nat) (s : State) : ∃ l, raiseVec fn v itr s = { s with vecs := l } := by
  unfold raiseVec
  dsimp only
  split
  · split
    · exact ⟨_, rfl⟩
    · exact ⟨_, rfl⟩
  · exact ⟨s.vecs, rfl⟩

/-! ### One record at a ring -/

/-- A full ring of copy c, in which one more record is lost. -/
def erMissed (c : Nat) (s : State) : State :=
  { s.wr c F.HIF_ER_LOST (s.rd c F.HIF_ER_LOST + 1) with erLost := tset s.erLost c (tgetD s.erLost c 0 + 1) }

/-- A ring of copy c that has taken the octets of a record at SHM address a, and the vectors after that. -/
def erStored (c a : Nat) (r : Octets) (l : Tbl Vec) (s : State) : State :=
  { (s.shmWrite a r).wr c F.HIF_ER_WR (s.rd c F.HIF_ER_WR + 1) with erLost := tdel s.erLost c, vecs := l }

/-- The address of the slot that WR names in the event ring of copy c. -/
def erSlot (c : Nat) (s : State) : Nat :=
  s.rd64 c F.HIF_ER_BASE_LO F.HIF_ER_BASE_HI + 32 * (s.rd c F.HIF_ER_WR % 2 ^ s.rd c F.HIF_ER_CFG_LOG2_SIZE)

/-- The record of an event at that slot, with the lost count so far. -/
def erRecord (e : EvRef) (tick obj : Nat) (data : Octets) (c : Nat) (s : State) : Octets :=
  eventRecord (phaseOf (s.rd c F.HIF_ER_WR) (2 ^ s.rd c F.HIF_ER_CFG_LOG2_SIZE)) (b2n (0 < tgetD s.erLost c 0)) e.blk.code e.bit obj
    (satU 16 (tgetD s.erLost c 0)) tick data

section
variable {e : EvRef} {tick obj c : Nat} {data : Octets} {s : State} (hen : s.rd c F.HIF_ER_CFG_EN = 1)
include hen

theorem erWrite_full (hfull : wsub 32 (s.rd c F.HIF_ER_WR) (s.rd c F.HIF_ER_RD) = 2 ^ s.rd c F.HIF_ER_CFG_LOG2_SIZE) :
    erWrite e tick obj data c s = erMissed c s := by
  rw [erWrite, if_neg (by simp [hen])]
  exact if_pos hfull.ge

theorem erWrite_room (hroom : wsub 32 (s.rd c F.HIF_ER_WR) (s.rd c F.HIF_ER_RD) < 2 ^ s.rd c F.HIF_ER_CFG_LOG2_SIZE)
    (hshm : addrIsShm (erSlot c s) = true) :
    ∃ l, erWrite e tick obj data c s = erStored c (erSlot c s % 2 ^ 32) (erRecord e tick obj data c s) l s := by
  rw [erWrite, if_neg (by simp [hen])]
  dsimp only
  rw [if_neg (Nat.not_le.2 hroom), ← erSlot, ← erRecord, dmaWrite, if_pos hshm]
  generalize erRecord e tick obj data c s = r
  exact raiseVec_vecs (c - 1) (erVector (c - 1)) (s.rd c F.HIF_ER_CFG_ITR_US)
    { (s.shmWrite (erSlot c s % 2 ^ 32) r).wr c F.HIF_ER_WR (s.rd c F.HIF_ER_WR + 1) with erLost := tdel s.erLost c }

end

/-! ### An event that is addressed to one function -/

/-- The flag and the count of an event for function fn, before its ring is looked at. -/
def evNoted (e : EvRef) (fn obj : Nat) (s : State) : State := setFlag e (fn + 1) (count e.ctr obj 1 s)

theorem postTo_enabled {e : EvRef} {fn : Nat} {s : State} (obj : Nat) (hen : evEnabled s (fn + 1) e = true) :
    postTo e fn obj s = erWrite e s.frc obj [] (fn + 1) (evNoted e fn obj s) :=
  if_pos hen

theorem evNoted_flag (e : EvRef) (fn obj : Nat) (s : State) : bitOf ((evNoted e fn obj s).evStatus (fn + 1) e.reg) e.bit = true := by
  have hflag : (evNoted e fn obj s).evStatus (fn + 1) e.reg = setBitN (s.evStatus (fn + 1) e.reg) e.bit := tgetD_tset_self _ _ _ _
  rw [hflag, bitOf_setBitN]

theorem evNoted_count (e : EvRef) (fn obj : Nat) (s : State) :
    tgetD (evNoted e fn obj s).pmc.cnt e.ctr 0 = (tgetD s.pmc.cnt e.ctr 0 + 1) % 2 ^ 48 := tgetD_tset_self _ _ _ _

section
variable {e : EvRef} {fn obj : Nat} {s : State} (hev : evEnabled s (fn + 1) e = true) (hen : s.rd (fn + 1) F.HIF_ER_CFG_EN = 1)
include hev hen

/-- The first clause of O55: a full ring loses the record, and the memories and WR stay. -/
theorem postTo_full (hfull : wsub 32 (s.rd (fn + 1) F.HIF_ER_WR) (s.rd (fn + 1) F.HIF_ER_RD) = 2 ^ s.rd (fn + 1) F.HIF_ER_CFG_LOG2_SIZE) :
    (postTo e fn obj s).shm = s.shm ∧ (postTo e fn obj s).hostMem = s.hostMem ∧
      tgetD (postTo e fn obj s).erLost (fn + 1) 0 = tgetD s.erLost (fn + 1) 0 + 1 ∧
      (postTo e fn obj s).rd (fn + 1) F.HIF_ER_LOST = (s.rd (fn + 1) F.HIF_ER_LOST + 1) % 2 ^ 32 ∧
      (postTo e fn obj s).rd (fn + 1) F.HIF_ER_WR = s.rd (fn + 1) F.HIF_ER_WR ∧
      bitOf ((postTo e fn obj s).evStatus (fn + 1) e.reg) e.bit = true ∧
      tgetD (postTo e fn obj s).pmc.cnt e.ctr 0 = (tgetD s.pmc.cnt e.ctr 0 + 1) % 2 ^ 48 := by
  have hpost : postTo e fn obj s = erMissed (fn + 1) (evNoted e fn obj s) := (postTo_enabled obj hev).trans (erWrite_full hen hfull)
  rw [hpost]
  exact ⟨rfl, rfl, tgetD_tset_self _ _ _ _, rd_wr_self _ _ _ _, rd_wr_other_field _ _ _ (by decide), evNoted_flag e fn obj s,
    evNoted_count e fn obj s⟩

/-- The second clause of O55 but for the lost count, whose entry leaves its table. -/
theorem postTo_room (hroom : wsub 32 (s.rd (fn + 1) F.HIF_ER_WR) (s.rd (fn + 1) F.HIF_ER_RD) < 2 ^ s.rd (fn + 1) F.HIF_ER_CFG_LOG2_SIZE)
    (hshm : addrIsShm (erSlot (fn + 1) s) = true) :
    (postTo e fn obj s).shm = csetAll s.shm (erSlot (fn + 1) s % 2 ^ 32) (erRecord e s.frc obj [] (fn + 1) s) ∧
      (postTo e fn obj s).hostMem = s.hostMem ∧ (postTo e fn obj s).erLost = tdel s.erLost (fn + 1) ∧
      (postTo e fn obj s).rd (fn + 1) F.HIF_ER_LOST = s.rd (fn + 1) F.HIF_ER_LOST ∧
      (postTo e fn obj s).rd (fn + 1) F.HIF_ER_WR = (s.rd (fn + 1) F.HIF_ER_WR + 1) % 2 ^ 32 ∧
      bitOf ((postTo e fn obj s).evStatus (fn + 1) e.reg) e.bit = true ∧
      tgetD (postTo e fn obj s).pmc.cnt e.ctr 0 = (tgetD s.pmc.cnt e.ctr 0 + 1) % 2 ^ 48 := by
  obtain ⟨l, hl⟩ := erWrite_room (e := e) (tick := s.frc) (obj := obj) (data := []) (s := evNoted e fn obj s) hen hroom hshm
  rw [(postTo_enabled obj hev).trans hl]
  generalize hr : erRecord e s.frc obj [] (fn + 1) (evNoted e fn obj s) = r
  have hr' : erRecord e s.frc obj [] (fn + 1) s = r := hr
  rw [hr']
  exact ⟨rfl, rfl, rfl, rd_wr_other_field _ _ _ (by decide), rd_wr_self _ _ _ _, evNoted_flag e fn obj s, evNoted_count e fn obj s⟩

/-- In a canonical table of lost counts, the count of the ring starts anew. -/
theorem postTo_room_lost (hroom : wsub 32 (s.rd (fn + 1) F.HIF_ER_WR) (s.rd (fn + 1) F.HIF_ER_RD) < 2 ^ s.rd (fn + 1) F.HIF_ER_CFG_LOG2_SIZE)
    (hshm : addrIsShm (erSlot (fn + 1) s) = true) (hlost : twf s.erLost = true) : tgetD (postTo e fn obj s).erLost (fn + 1) 0 = 0 := by
  obtain ⟨-, -, hdel, -⟩ := postTo_room (obj := obj) hev hen hroom hshm
  rw [hdel, tgetD, tget_tdel_self _ hlost]
  rfl

end

/-! ### A state that O55 speaks of as well -/

/-- An empty event ring in SHM that function 0 has enabled, for the events of the key store: its copy of lost counts is listed twice, which no run from
reset makes and O55 does not exclude. -/
def lostListedTwice : State :=
  { ((State.reset.wr 1 F.KS_EVT_EN 1).wr 1 F.HIF_ER_CFG_EN 1).wr 1 F.HIF_ER_BASE_HI (2 ^ 31) with erLost := [(1, 1), (1, 1)] }

/-- Refutes O55: in a table of lost counts that lists a copy twice, the second entry stays when the record with the first has gone to the ring. With a
canonical table both clauses hold (`postTo_full`, `postTo_room`, `postTo_room_lost`). -/
theorem not_eventRingNeverStalls : ¬ Obligations.EventRingNeverStalls := by
  unfold Obligations.EventRingNeverStalls
  rintro ⟨-, hroom⟩
  obtain ⟨-, -, hlost, -⟩ := hroom Ev.KS_ZEROISED 0 0 lostListedTwice (by decide) (by decide) (by decide) (by decide)
  obtain ⟨-, -, hdel, -⟩ := postTo_room (e := Ev.KS_ZEROISED) (fn := 0) (obj := 0) (s := lostListedTwice) (by decide) (by decide) (by decide)
    (by decide)
  rw [hdel] at hlost
  exact absurd hlost (by decide)

end Sys2Proof.Machine
end

section
/-! PROOFS. The master keys of the NTS engine: the commands of the SEC_NTS window (R348, R350, R358, R444). -/

namespace Sys2Proof.Machine

/-! ### The rows, by operation -/

theorem exec_ntsLoad (fn : Fn) (s : State) : exec (.ntsLoad fn) s = .next (opNtsLoad (ownWin fn) s) := rfl
theorem exec_ntsMakeCurrent (fn : Fn) (s : State) : exec (.ntsMakeCurrent fn) s = .next (opNtsMakeCurrent (ownWin fn) s) := rfl
theorem exec_ntsUnload (fn : Fn) (s : State) : exec (.ntsUnload fn) s = .next (opNtsUnload (ownWin fn) s) := rfl
theorem exec_ntsMint (fn : Fn) (count : Fin 16) (s : State) : exec (.ntsMint fn count) s = .next (opNtsMint (ownWin fn) count.val s) := rfl
theorem exec_ntsRead (fn : Fn) (s : State) : exec (.ntsRead fn) s = .next (opNtsRead (ownWin fn) s) := rfl

/-- A command that the window takes, from a function that may give it, runs its body on the selected entry (R358). -/
theorem ntsCommand_permitted {fn : Fn} {s : State} (open_ : State → Nat → Bool) (body : Nat → State → State)
    (ht : s.takes .sec stNts fn.val = true) (hp : s.secureSt fn.val = true ∨ open_ s (s.rd (fn.val + 1) F.SEC_NTS_SEL) = true) :
    ntsCommand (ownWin fn) open_ body s = body (s.rd (fn.val + 1) F.SEC_NTS_SEL) s := by
  rw [ntsCommand, command_takes _ _ _ (ownWin fn) _ _ rfl ht]
  exact if_pos (by simpa using hp)

section
variable {fn : Fn} {s : State} {n : Nat} (ht : s.takes .sec stNts fn.val = true)
include ht

section
variable (hs : s.secureSt fn.val = true) (hn : s.rd (fn.val + 1) F.SEC_NTS_SEL = n)
include hs hn

/-- LOAD of a delivered key under a new key number into an EMPTY entry (R350, R444). -/
theorem opNtsLoad_loads {slot owner id key : Nat} (hslot : s.rd (fn.val + 1) F.SEC_NTS_CFG_SLOT = slot)
    (howner : s.rd (fn.val + 1) F.SEC_NTS_CFG_OWNER = owner) (hid : s.rd (fn.val + 1) F.SEC_NTS_KEYID = id)
    (hkey : ksDeliver s slot masterSiv usageNts owner = some key) (hempty : s.nts n = none)
    (hnew : s.sec.nts.any (fun e => e.2.keyId == id) = false) (hlen : attrLen (s.ksSlot slot).attr = 32) :
    opNtsLoad (ownWin fn) s =
      completeOk stNts (ownWin fn) (s.setNts n { state := 1, owner := owner, slot := slot, keyId := id, key := key }) := by
  subst hn hslot howner hid
  rw [opNtsLoad, ntsCommand_permitted _ _ ht (.inl hs)]
  dsimp only
  rw [hkey]
  exact if_neg (by simp [hempty, hnew, hlen])

section
variable {e : NtsEnt} (he : s.nts n = some e) (hstate : e.state = 1)
include he hstate

/-- MAKE_CURRENT of an ACCEPT entry (R350). -/
theorem opNtsMakeCurrent_exchanges :
    opNtsMakeCurrent (ownWin fn) s = completeOk stNts (ownWin fn) { s with sec := { s.sec with
      nts := tmap (fun k x => if k = n then { x with state := 2 } else if x.owner = e.owner ∧ x.state = 2 then { x with state := 1 } else x)
        s.sec.nts } } := by
  subst hn
  rw [opNtsMakeCurrent, ntsCommand_permitted _ _ ht (.inl hs), he]
  exact if_neg (not_not_intro hstate)

/-- UNLOAD of an ACCEPT entry (R350). -/
theorem opNtsUnload_empties :
    opNtsUnload (ownWin fn) s = completeOk stNts (ownWin fn) { s with sec := { s.sec with nts := tdel s.sec.nts n } } := by
  subst hn
  rw [opNtsUnload, ntsCommand_permitted _ _ ht (.inl hs), he]
  exact if_pos hstate

end

end

/-- MINT, by any function whose tenant has a CURRENT key, into an aligned buffer of its own (R348). -/
theorem opNtsMint_mints {count a : Nat} {e : NtsEnt} {o : Octets} (he : currentNts s (tenantOf fn.val) = some e)
    (ha : s.rd64 (fn.val + 1) F.SEC_NTS_ADDR_LO F.SEC_NTS_ADDR_HI = a) (ho : s.memRead fn.val a 64 = o) (hlo : 1 ≤ count) (hhi : count ≤ 8)
    (halign : a % 64 = 0) (howns : ownsBuf s fn.val a (64 + 104 * count) = true) (hlost : e.lost = false) (hbuf : bufCode s a 64 = Code.ok) :
    opNtsMint (ownWin fn) count s = completeOk stNts (ownWin fn) (sivOps count
      (dmaWrite fn.val (a + 64) (mintCookies e (o.take 32) (o.drop 32) count s).1 (mintCookies e (o.take 32) (o.drop 32) count s).2)) := by
  have hmay : ¬ (count < 1 ∨ 8 < count ∨ a % 64 ≠ 0 ∨ (!ownsBuf s fn.val a (64 + 104 * count)) = true ∨ e.lost = true) := by
    simp [howns, hlost]
    omega
  subst ha ho
  rw [opNtsMint, ntsCommand_permitted _ _ ht (.inr rfl)]
  dsimp only
  rw [he]
  exact (if_neg hmay).trans (if_neg (not_not_intro hbuf))

end

/-! ### READ -/

theorem b2n_mod_two (b : Bool) : b2n b % 2 = b2n b := by
  cases b
  · rfl
  · rfl

/-- The window of copy c filled from an entry, and the command completed. -/
def ntsShown (c : Nat) (e : NtsEnt) (s : State) : State :=
  let state := (s.wr c F.SEC_NTS_CFG_STATE e.state).wr c F.SEC_NTS_CFG_KEY_LOST (b2n e.lost)
  let key := ((state.wr c F.SEC_NTS_CFG_OWNER e.owner).wr c F.SEC_NTS_CFG_SLOT e.slot).wr c F.SEC_NTS_KEYID e.keyId
  (key.wr c F.SEC_NTS_STATUS_CODE Code.ok).wr c F.SEC_NTS_STATUS_BUSY 0

/-- READ by the secure world, the steward or the owner of the selected entry. -/
theorem opNtsRead_shows {fn : Fn} {e : NtsEnt} {s : State} (ht : s.takes .sec stNts fn.val = true)
    (he : s.nts (s.rd (fn.val + 1) F.SEC_NTS_SEL) = some e) (hp : s.secureSt fn.val = true ∨ e.owner = tenantOf fn.val) :
    opNtsRead (ownWin fn) s = ntsShown (fn.val + 1) e s := by
  rw [opNtsRead, ntsCommand_permitted _ _ ht (by simpa [he] using hp), he]
  exact complete_ownWin rfl fn _ _ _

theorem ntsShown_onlyCopy (c : Nat) (e : NtsEnt) (s : State) : onlyCopy c s (ntsShown c e s) := by
  unfold ntsShown
  repeat' apply onlyCopy_wr _ (by decide)
  exact onlyCopy_refl c s

/-- The window reads the completion, and the entry's fields as wide as their registers. -/
theorem ntsShown_reads (c : Nat) (e : NtsEnt) (s : State) :
    (ntsShown c e s).rd c F.SEC_NTS_STATUS_CODE = Code.ok ∧ (ntsShown c e s).rd c F.SEC_NTS_CFG_STATE = e.state % 2 ^ F.SEC_NTS_CFG_STATE.w ∧
      (ntsShown c e s).rd c F.SEC_NTS_CFG_OWNER = e.owner % 2 ^ F.SEC_NTS_CFG_OWNER.w ∧
      (ntsShown c e s).rd c F.SEC_NTS_CFG_SLOT = e.slot % 2 ^ F.SEC_NTS_CFG_SLOT.w ∧
      (ntsShown c e s).rd c F.SEC_NTS_KEYID = e.keyId % 2 ^ 32 ∧ (ntsShown c e s).rd c F.SEC_NTS_CFG_KEY_LOST = b2n e.lost := by
  have hlost : b2n e.lost % 2 ^ F.SEC_NTS_CFG_KEY_LOST.w = b2n e.lost := b2n_mod_two e.lost
  simp (disch := decide) only [ntsShown, rd_wr_self, rd_wr_other_field]
  exact ⟨rfl, trivial, trivial, trivial, rfl, hlost⟩

/-- Settles O27: each command's case, on the entry that the window selects. -/
theorem ntsKeyCommands : Obligations.NtsKeyCommands := by
  unfold Obligations.NtsKeyCommands
  refine ⟨?load, ?current, ?unload, ?mint, ?read⟩
  case load => exact fun fn key s ht hs hkey hempty hnew hlen => by rw [exec_ntsLoad, opNtsLoad_loads ht hs rfl rfl rfl rfl hkey hempty hnew hlen]
  case current => exact fun fn e s ht hs he hstate => by rw [exec_ntsMakeCurrent, opNtsMakeCurrent_exchanges ht hs rfl he hstate]
  case unload => exact fun fn e s ht hs he hstate => by rw [exec_ntsUnload, opNtsUnload_empties ht hs rfl he hstate]
  case mint =>
    exact fun fn count e s ht he hlo hhi halign howns hlost hbuf => by
      rw [exec_ntsMint, opNtsMint_mints ht he rfl rfl hlo hhi halign howns hlost hbuf]
  case read =>
    intro fn e s ht he hp
    refine ⟨_, exec_ntsRead fn s, ?_⟩
    rw [opNtsRead_shows ht he hp]
    obtain ⟨hcode, hstate, howner, hslot, hid, hlost⟩ := ntsShown_reads (fn.val + 1) e s
    exact ⟨hcode, hstate, howner, hslot, hid, hlost, ntsShown_onlyCopy _ _ _⟩

end Sys2Proof.Machine
end

section
/-! PROOFS. The ingress policers: the commands of the POL window (R380, R383, R389, R390). -/

namespace Sys2Proof.Machine

/-! ### The rows, by operation -/

theorem exec_polWrite (fn : Fn) (s : State) : exec (.polWrite fn) s = .next (opPolWrite (ownWin fn) s) := rfl
theorem exec_polRead (fn : Fn) (s : State) : exec (.polRead fn) s = .next (opPolRead (ownWin fn) s) := rfl
theorem exec_polRefill (fn : Fn) (s : State) : exec (.polRefill fn) s = .next (opPolRefill (ownWin fn) s) := rfl
theorem exec_polClearCounts (fn : Fn) (s : State) : exec (.polClearCounts fn) s = .next (opPolClearCounts (ownWin fn) s) := rfl

/-- A command that the window takes, from a function that may give it, runs its body on the selected policer (R389). -/
theorem polCommand_permitted {fn : Fn} {read : Bool} {s : State} (body : Nat → State → State) (ht : s.takes .pol stPol fn.val = true)
    (hp : s.secureSt fn.val = true ∨ read = true ∧ tenantOf fn.val = (s.policer (s.rd (fn.val + 1) F.POL_SEL)).owner) :
    polCommand (ownWin fn) read body s = body (s.rd (fn.val + 1) F.POL_SEL) s := by
  rw [polCommand, command_takes _ _ _ (ownWin fn) _ _ rfl ht]
  exact if_pos (by simpa using hp)

/-! ### WRITE -/

/-- A policer p with the configuration of the window of copy c; its buckets are held to the new sizes (R383). -/
def polConfigured (c : Nat) (p : Policer) (s : State) : Policer :=
  { p with
    en := s.rd c F.POL_CFG_EN == 1, mode := s.rd c F.POL_CFG_MODE, unit := s.rd c F.POL_CFG_UNIT, ovh := sgn 8 (s.rd c F.POL_CFG_OVH)
    owner := s.rd c F.POL_CFG_OWNER, cir := s.rd c F.POL_CIR, cbs := s.rd c F.POL_CBS, pir := s.rd c F.POL_PIR, ebs := s.rd c F.POL_EBS_PBS
    tc := min p.tc (s.rd c F.POL_CBS * token), te := min p.te (s.rd c F.POL_EBS_PBS * token) }

section
variable {fn : Fn} {s : State} {n : Nat} {p : Policer} (ht : s.takes .pol stPol fn.val = true)
include ht

section
variable (hs : s.secureSt fn.val = true) (hn : s.rd (fn.val + 1) F.POL_SEL = n) (hpol : s.policer n = p)
include hs hn hpol

/-- WRITE configures the selected policer, and fills its buckets where EN becomes 1. -/
theorem opPolWrite_stores {q : Policer} (hq : polConfigured (fn.val + 1) p s = q) :
    opPolWrite (ownWin fn) s = completeOk stPol (ownWin fn) (s.setPolicer n (if q.en && !p.en then q.fill s.frc else q)) := by
  subst hn hpol hq
  rw [opPolWrite, polCommand_permitted _ ht (.inl hs)]
  rfl

theorem opPolRefill_fills : opPolRefill (ownWin fn) s = completeOk stPol (ownWin fn) (s.setPolicer n (p.fill s.frc)) := by
  subst hn hpol
  exact polCommand_permitted _ ht (.inl hs)

theorem opPolClearCounts_clears :
    opPolClearCounts (ownWin fn) s = completeOk stPol (ownWin fn) (s.setPolicer n { p with green := 0, yellow := 0, red := 0 }) := by
  subst hn hpol
  exact polCommand_permitted _ ht (.inl hs)

end

end

/-! ### READ -/

/-- The window of copy c filled from a policer, and the command completed (Table 13.13). -/
def polShown (c : Nat) (p : Policer) (s : State) : State :=
  let mode := (((s.wr c F.POL_CFG_EN (b2n p.en)).wr c F.POL_CFG_MODE p.mode).wr c F.POL_CFG_UNIT p.unit).wr c F.POL_CFG_OVH (uns 8 p.ovh)
  let sizes := ((((mode.wr c F.POL_CFG_OWNER p.owner).wr c F.POL_CIR p.cir).wr c F.POL_CBS p.cbs).wr c F.POL_PIR p.pir).wr c F.POL_EBS_PBS p.ebs
  let tokens := (sizes.wr c F.POL_TOKENS0 (p.tc / token)).wr c F.POL_TOKENS1 (p.te / token)
  let counts := ((tokens.wr c F.POL_CNT_GREEN p.green).wr c F.POL_CNT_YELLOW p.yellow).wr c F.POL_CNT_RED p.red
  (counts.wr c F.POL_CMD_STATUS_CODE Code.ok).wr c F.POL_CMD_STATUS_BUSY 0

/-- READ by the secure world, the steward or the owner of the selected policer. -/
theorem opPolRead_shows {fn : Fn} {s : State} (ht : s.takes .pol stPol fn.val = true)
    (hp : s.secureSt fn.val = true ∨ tenantOf fn.val = (s.policer (s.rd (fn.val + 1) F.POL_SEL)).owner) :
    opPolRead (ownWin fn) s = polShown (fn.val + 1) (s.policer (s.rd (fn.val + 1) F.POL_SEL)) s := by
  rw [opPolRead, polCommand_permitted _ ht (hp.imp_right (⟨rfl, ·⟩))]
  exact complete_ownWin rfl fn _ _ _

theorem polShown_onlyCopy (c : Nat) (p : Policer) (s : State) : onlyCopy c s (polShown c p s) := by
  unfold polShown
  repeat' apply onlyCopy_wr _ (by decide)
  exact onlyCopy_refl c s

/-- The window reads the completion, and the policer's fields as wide as their registers. -/
theorem polShown_reads (c : Nat) (p : Policer) (s : State) :
    (polShown c p s).rd c F.POL_CMD_STATUS_CODE = Code.ok ∧ (polShown c p s).rd c F.POL_CFG_EN = b2n p.en ∧
      (polShown c p s).rd c F.POL_CIR = p.cir % 2 ^ 32 ∧ (polShown c p s).rd c F.POL_TOKENS0 = p.tc / 2 ^ 24 % 2 ^ 32 ∧
      (polShown c p s).rd c F.POL_TOKENS1 = p.te / 2 ^ 24 % 2 ^ 32 ∧ (polShown c p s).rd c F.POL_CNT_GREEN = p.green % 2 ^ 32 ∧
      (polShown c p s).rd c F.POL_CNT_YELLOW = p.yellow % 2 ^ 32 ∧ (polShown c p s).rd c F.POL_CNT_RED = p.red % 2 ^ 32 := by
  simp (disch := decide) only [polShown, rd_wr_self, rd_wr_other_field]
  exact ⟨rfl, b2n_mod_two p.en, rfl, rfl, rfl, rfl, rfl, rfl⟩

/-- Settles O29: each command's case, on the policer that the window selects. -/
theorem policerCommands : Obligations.PolicerCommands := by
  unfold Obligations.PolicerCommands
  refine ⟨?write, ?read, ?refill, ?clear⟩
  case write => exact fun fn s ht hs => by rw [exec_polWrite, opPolWrite_stores ht hs rfl rfl rfl, polConfigured]
  case read =>
    intro fn s ht hp
    refine ⟨_, exec_polRead fn s, ?_⟩
    rw [opPolRead_shows ht hp]
    obtain ⟨hcode, hen, hcir, htc, hte, hgreen, hyellow, hred⟩ := polShown_reads (fn.val + 1) (s.policer (s.rd (fn.val + 1) F.POL_SEL)) s
    exact ⟨hcode, hen, hcir, htc, hte, hgreen, hyellow, hred, polShown_onlyCopy _ _ _⟩
  case refill => exact fun fn s ht hs => by rw [exec_polRefill, opPolRefill_fills ht hs rfl rfl]
  case clear => exact fun fn s ht hs => by rw [exec_polClearCounts, opPolClearCounts_clears ht hs rfl rfl]

end Sys2Proof.Machine
end

section
/-! PROOFS. The scheduler: selection, the commands of the queue window, and the gate lists (R360 to R364, R370 to R375, R384, R389). -/

namespace Sys2Proof.Machine

/-! ### The rows, by operation -/

theorem exec_schSelect (port : Fin 16) (s : State) : exec (.schSelect port) s = .next (schSelect port.val s) := rfl
theorem exec_qWrite (fn : Fn) (s : State) : exec (.qWrite fn) s = .next (opQWrite (ownWin fn) s) := rfl
theorem exec_qRead (fn : Fn) (clearMax : Bool) (s : State) : exec (.qRead fn clearMax) s = .next (opQRead (ownWin fn) clearMax s) := rfl
theorem exec_qFlush (fn : Fn) (s : State) : exec (.qFlush fn) s = .next (opQFlush (ownWin fn) s) := rfl
theorem exec_gateListArm (fn : Fn) (port : Fin 16) (value : BitVec 32) (s : State) :
    exec (.gateListArm fn port value) s = .next (writeGateCtrl fn.val port.val value.toNat s) := rfl
theorem exec_gateListAbort (fn : Fn) (port : Fin 16) (value : BitVec 32) (s : State) :
    exec (.gateListAbort fn port value) s = .next (writeGateCtrl fn.val port.val value.toNat s) := rfl
theorem exec_gateTakeover (port : Fin 16) (tick : BitVec 64) (s : State) :
    exec (.gateTakeover port tick) s = .next (gateTakeover port.val tick.toNat s) := rfl
theorem exec_gateEntryStart (port : Fin 16) (tick : BitVec 64) (s : State) :
    exec (.gateEntryStart port tick) s = .next (gateEntryStart port.val tick.toNat s) := rfl

/-! ### Selection (R363, R364, R378) -/

section
variable {n : Nat} {s : State} (hsafe : s.safe = false) (hdoor : s.doorOpen .sch = true) (hup : portUp s n = true)
  (hroom : (s.schPort n).pipe.length + ((s.schPort n).launches.filter (·.selected)).length < s.sh (F.SCH_PORT_CFG_RUN_AHEAD n))
include hsafe hdoor hup hroom

/-- A port with room takes a reservation that is not selected yet. -/
theorem schSelect_launch {l : List Launch} {x : Launch} (hlaunch : selectLaunch (s.schPort n).launches = some (l, x)) :
    schSelect n s = count Ct.SCH_SELECTED x.frame.queue 1
      (s.setSchPort n { s.schPort n with launches := l, sels := (s.schPort n).sels + 1 }) := by
  rw [schSelect, if_neg (by simp [hsafe, hdoor, hup])]
  dsimp only
  rw [if_neg (Nat.not_le.2 hroom), hlaunch]

/-- Without one it takes the head of the first eligible queue of the highest level, when the heads that fit no window have gone. -/
theorem schSelect_queue {e : Nat × TxQueue} (hnone : selectLaunch (s.schPort n).launches = none)
    (hbest : (List.range 4).findSome? (fun l => bestQueue (purgeNoFit n s) n l) = some e) : schSelect n s = selectFrom n e.1 (purgeNoFit n s) := by
  rw [schSelect, if_neg (by simp [hsafe, hdoor, hup])]
  dsimp only
  rw [if_neg (Nat.not_le.2 hroom), hnone]
  dsimp only
  rw [hbest]

end

/-! ### The queue window (R362, R370, R384, R389) -/

/-- A command that the window takes runs its body on the selected queue. -/
theorem qCommand_takes {fn : Fn} {s : State} (body : Nat → State → State) (ht : s.takes .sch stQ fn.val = true) :
    qCommand (ownWin fn) body s = body (s.rd (fn.val + 1) F.SCH_Q_SEL) s :=
  command_takes _ _ _ (ownWin fn) _ _ rfl ht

section
variable {fn : Fn} {s : State} {q : Nat} {x : TxQueue} (ht : s.takes .sch stQ fn.val = true) (hq : s.rd (fn.val + 1) F.SCH_Q_SEL = q)
  (hx : s.q q = x)
include ht hq hx

/-- WRITE of a queue that is empty or stays where it is. -/
theorem opQWrite_stores {y : TxQueue} (hs : s.secureSt fn.val = true) (hy : windowQ s (ownWin fn) x = y)
    (hstays : x.frames = [] ∨ (y.port = x.port ∧ y.level = x.level ∧ y.host = x.host)) :
    opQWrite (ownWin fn) s = completeOk stQ (ownWin fn) (revoke (fun f => f.queue == q) (s.setQ q y)) := by
  subst hq hx hy
  rw [opQWrite, qCommand_takes _ ht]
  refine if_neg ?_
  rcases hstays with hempty | ⟨hport, hlevel, hhost⟩
  · simp [hs, hempty]
  · simp [hs, hport, hlevel, hhost]

theorem opQFlush_discards (hmay : s.secureSt fn.val = true ∨ (x.host = true ∧ tenantOf fn.val = x.owner)) :
    opQFlush (ownWin fn) s = (
      let t := queueDiscard q TxCause.flushed Ct.SCH_FLUSHED s
      completeOk stQ (ownWin fn) (revoke (fun f => f.queue == q)
        (t.setQ q { t.q q with otherDrop := ((t.q q).otherDrop + x.frames.length) % 2 ^ 16 }))) := by
  subst hq hx
  rw [opQFlush, qCommand_takes _ ht]
  refine if_neg ?_
  rcases hmay with hs | ⟨hhost, htenant⟩
  · simp [hs]
  · simp [hhost, htenant]

end

/-- The window of copy c filled from a queue x (R384). -/
def qFilled (c : Nat) (x : TxQueue) (s : State) : State :=
  let cfg := ((s.wr c F.SCH_Q_CFG0 (b2n x.en + 2 * x.port + 32 * x.level + 128 * b2n x.host + 256 * x.owner)).wr c F.SCH_Q_CFG1
    (x.weight + 2 ^ 16 * uns 8 x.ovh)).wr c F.SCH_Q_CFG2 x.rate
  let sizes := (cfg.wr c F.SCH_Q_CFG3 x.burst).wr c F.SCH_Q_CFG4 x.maxDepth
  let depth := ((sizes.wr c F.SCH_Q_DEPTH_DEPTH (satU 16 x.frames.length)).wr c F.SCH_Q_DEPTH_ELIGIBLE (b2n (eligible s x.port x))).wr
    c F.SCH_Q_BYTES (x.frames.map (·.len)).sum
  let delay := (depth.wr c F.SCH_Q_AGE ((x.frames.head?.map fun f => delayNs (s.frc - f.enq)).getD 0)).wr c F.SCH_Q_MAX_DELAY x.maxDelay
  (delay.wr c F.SCH_Q_DROPS_TAIL_DROP x.tailDrop).wr c F.SCH_Q_DROPS_OTHER_DROP x.otherDrop

/-- The longest delay of queue q starts anew. -/
def maxDelayCleared (q : Nat) (s : State) : State := s.setQ q { s.q q with maxDelay := 0 }

/-- The scheduler's own status is in the shared copy, so a function's copy reads on as before a change of a queue. -/
theorem rd_setQ (q : Nat) (x : TxQueue) (s : State) (c : Nat) (f : FieldRef) : (s.setQ q x).rd (c + 1) f = s.rd (c + 1) f := by
  refine rd_wr_ne _ _ ?_
  have hkey := key_eq_copy_add f (c + 1)
  have hstatus : F.SCH_STATUS.key 0 < 2 ^ 24 := by decide
  omega

theorem rd_onlyIf_maxDelayCleared (b : Bool) (q : Nat) (s : State) (c : Nat) (f : FieldRef) :
    (onlyIf b (maxDelayCleared q) s).rd (c + 1) f = s.rd (c + 1) f := by
  cases b
  · rfl
  · exact rd_setQ _ _ _ _ _

theorem q_wr (c : Nat) (f : FieldRef) (v : Nat) (s : State) (q : Nat) : (s.wr c f v).q q = s.q q := rfl

/-- CLEAR_MAX changes the longest delay of the queue alone. -/
theorem q_onlyIf_maxDelayCleared (b : Bool) (q : Nat) (s : State) :
    (onlyIf b (maxDelayCleared q) s).q q = { s.q q with maxDelay := if b then 0 else (s.q q).maxDelay } := by
  cases b
  · rfl
  · exact tgetD_tset_self _ _ _ _

theorem satU_mod (w n : Nat) : satU w n % 2 ^ w = satU w n := by
  have hpos := Nat.two_pow_pos w
  apply Nat.mod_eq_of_lt
  unfold satU
  split
  · assumption
  · omega

theorem qFilled_reads (c : Nat) (x : TxQueue) (s : State) :
    (qFilled c x s).rd c F.SCH_Q_CFG2 = x.rate % 2 ^ 32 ∧ (qFilled c x s).rd c F.SCH_Q_DEPTH_DEPTH = satU 16 x.frames.length ∧
      (qFilled c x s).rd c F.SCH_Q_BYTES = (x.frames.map (·.len)).sum % 2 ^ 32 ∧
      (qFilled c x s).rd c F.SCH_Q_MAX_DELAY = x.maxDelay % 2 ^ 32 := by
  simp (disch := decide) only [qFilled, rd_wr_self, rd_wr_other_field]
  exact ⟨rfl, satU_mod 16 _, rfl, rfl⟩

/-- READ of queue q in the window of function copy k + 1, with the command completed. -/
def qShown (k q : Nat) (clearMax : Bool) (s : State) : State :=
  ((onlyIf clearMax (maxDelayCleared q) (qFilled (k + 1) (s.q q) s)).wr (k + 1) F.SCH_Q_STATUS_CODE Code.ok).wr (k + 1) F.SCH_Q_STATUS_BUSY 0

/-- READ by the secure world, the steward or the queue's owner. -/
theorem opQRead_shows {fn : Fn} {clearMax : Bool} {s : State} {q : Nat} (ht : s.takes .sch stQ fn.val = true)
    (hq : s.rd (fn.val + 1) F.SCH_Q_SEL = q) (hp : s.secureSt fn.val = true ∨ tenantOf fn.val = (s.q q).owner) :
    opQRead (ownWin fn) clearMax s = qShown fn.val q clearMax s := by
  subst hq
  rw [opQRead, qCommand_takes _ ht]
  refine (if_neg ?_).trans (complete_ownWin rfl fn _ _ _)
  rcases hp with hs | htenant
  · simp [hs]
  · simp [htenant]

theorem qShown_q (k q : Nat) (clearMax : Bool) (s : State) :
    (qShown k q clearMax s).q q = { s.q q with maxDelay := if clearMax then 0 else (s.q q).maxDelay } := by
  simp only [qShown, q_wr, q_onlyIf_maxDelayCleared, qFilled]

/-- The window reads the completion, and the queue's figures as wide as their registers. -/
theorem qShown_reads (k q : Nat) (clearMax : Bool) (s : State) :
    (qShown k q clearMax s).rd (k + 1) F.SCH_Q_STATUS_CODE = Code.ok ∧ (qShown k q clearMax s).rd (k + 1) F.SCH_Q_STATUS_BUSY = 0 ∧
      (qShown k q clearMax s).rd (k + 1) F.SCH_Q_CFG2 = (s.q q).rate % 2 ^ 32 ∧
      (qShown k q clearMax s).rd (k + 1) F.SCH_Q_DEPTH_DEPTH = satU 16 (s.q q).frames.length ∧
      (qShown k q clearMax s).rd (k + 1) F.SCH_Q_BYTES = ((s.q q).frames.map (·.len)).sum % 2 ^ 32 ∧
      (qShown k q clearMax s).rd (k + 1) F.SCH_Q_MAX_DELAY = (s.q q).maxDelay % 2 ^ 32 := by
  obtain ⟨hrate, hdepth, hbytes, hdelay⟩ := qFilled_reads (k + 1) (s.q q) s
  simp (disch := decide) only [qShown, rd_wr_self, rd_wr_other_field, rd_onlyIf_maxDelayCleared]
  exact ⟨rfl, rfl, hrate, hdepth, hbytes, hdelay⟩

/-! ### Gate lists (R373 to R375) -/

/-- Fields of one block in different registers, or at different places of one register, have different keys. -/
theorem key_ne_of_off (c : Nat) {f g : FieldRef} (hblk : g.blk = f.blk) (hf : f.lo.blt 32 = true) (hg : g.lo.blt 32 = true) (hoff : g.off ≠ f.off) :
    g.key c ≠ f.key c := by
  rw [Nat.blt_eq] at hf hg
  unfold FieldRef.key
  rw [hblk]
  omega

theorem key_ne_of_lo (c : Nat) {f g : FieldRef} (hblk : g.blk = f.blk) (hoff : g.off = f.off) (hlo : (g.lo == f.lo) = false) :
    g.key c ≠ f.key c := by
  rw [beq_eq_false_iff_ne] at hlo
  unfold FieldRef.key
  rw [hblk, hoff]
  omega

/-- A port's armed gate list, and the bits that show it. -/
def gateArmSet (n : Nat) (a : Option (Rat × Nat)) (s : State) : State :=
  ((s.setSchPort n { s.schPort n with arm := a }).wr 0 (F.SCH_GATE_CTRL_ARM n) (b2n a.isSome)).wr 0 (F.SCH_GATE_CTRL_ARMED n) (b2n a.isSome)

/-- The BASE that a port's registers hold, as T96. -/
def gateBase (n : Nat) (s : State) : Nat :=
  s.sh (F.SCH_GATE_BASE0 n) + 2 ^ 32 * s.sh (F.SCH_GATE_BASE1 n) + 2 ^ 64 * s.sh (F.SCH_GATE_BASE2 n)

theorem gateBase_wr_len (n v : Nat) (s : State) : gateBase n (s.wr 0 (F.SCH_GATE_CTRL_LEN n) v) = gateBase n s := by
  have h0 := key_ne_of_off 0 (f := F.SCH_GATE_CTRL_LEN n) (g := F.SCH_GATE_BASE0 n) rfl rfl rfl (by simp [F.SCH_GATE_CTRL_LEN, F.SCH_GATE_BASE0])
  have h1 := key_ne_of_off 0 (f := F.SCH_GATE_CTRL_LEN n) (g := F.SCH_GATE_BASE1 n) rfl rfl rfl (by simp [F.SCH_GATE_CTRL_LEN, F.SCH_GATE_BASE1])
  have h2 := key_ne_of_off 0 (f := F.SCH_GATE_CTRL_LEN n) (g := F.SCH_GATE_BASE2 n) rfl rfl rfl (by simp [F.SCH_GATE_CTRL_LEN, F.SCH_GATE_BASE2])
  rw [gateBase, sh_wr_ne _ _ h0, sh_wr_ne _ _ h1, sh_wr_ne _ _ h2, gateBase]

section
variable {fn n v : Nat} {s : State} (ht : s.takesWrite .sch fn = true) (hs : s.secureSt fn = true)
include ht hs

/-- ARM with a valid BASE at least 1 µs ahead of VC0 and 1 to 256 entries (R374). -/
theorem writeGateCtrl_arms {len : Nat} (hlen : bits v 0 9 = len) (harm : bitOf v 9 = true) (hkeep : bitOf v 10 = false)
    (hvalid : t96Valid (gateBase n s) = true) (hlo : 1 ≤ len) (hhi : len ≤ 256)
    (hahead : vc0Ns s (s.frc : Rat) + 1000 ≤ (linOfT96 (gateBase n s) : Rat) / 65536) :
    writeGateCtrl fn n v s = gateArmSet n (some ((linOfT96 (gateBase n s) : Rat) / 65536, len)) (s.wr 0 (F.SCH_GATE_CTRL_LEN n) len) := by
  subst hlen
  have hvc0 : vc0Ns (s.wr 0 (F.SCH_GATE_CTRL_LEN n) (bits v 0 9)) ((s.wr 0 (F.SCH_GATE_CTRL_LEN n) (bits v 0 9)).frc : Rat) =
      vc0Ns s (s.frc : Rat) := rfl
  rw [writeGateCtrl, writeAtDoor_takes _ _ _ _ _ ht, if_neg (by simp [hs])]
  dsimp only
  rw [if_neg (by simp [hkeep]), if_neg (by simp [harm]), ← gateBase, gateBase_wr_len, hvc0]
  exact if_neg (by simp [hvalid, hahead]; omega)

/-- ABORT withdraws an armed list (R374). -/
theorem writeGateCtrl_aborts (habort : bitOf v 10 = true) :
    writeGateCtrl fn n v s = gateArmSet n none (s.wr 0 (F.SCH_GATE_CTRL_LEN n) (bits v 0 9)) := by
  rw [writeGateCtrl, writeAtDoor_takes _ _ _ _ _ ht, if_neg (by simp [hs])]
  exact if_pos habort

end

/-- The port's status of selections and reservations lies beside its gate registers. -/
theorem sh_setSchPort {n : Nat} (p : SchPort) (s : State) {f : FieldRef} (hblk : f.blk = .sch) (hlo : f.lo.blt 32 = true)
    (hoff : f.off ≠ 0x204 + 0x40 * n) : (s.setSchPort n p).sh f = s.sh f := by
  have hreserved := key_ne_of_off 0 (f := F.SCH_PORT_STATUS_RESERVED n) hblk rfl hlo hoff
  have hahead := key_ne_of_off 0 (f := F.SCH_PORT_STATUS_AHEAD n) hblk rfl hlo hoff
  rw [State.setSchPort, sh_wr_ne _ _ hreserved, sh_wr_ne _ _ hahead]
  rfl

theorem gateArmSet_arm (n : Nat) (a : Option (Rat × Nat)) (s : State) : ((gateArmSet n a s).schPort n).arm = a :=
  congrArg SchPort.arm (tgetD_tset_self _ _ _ _)

theorem gateArmSet_sameMem (n : Nat) (a : Option (Rat × Nat)) (s : State) : sameMem s (gateArmSet n a s) := ⟨rfl, rfl, rfl⟩

/-- ARM and ARMED show whether a list is armed, and LEN stays. -/
theorem gateArmSet_reads (n : Nat) (a : Option (Rat × Nat)) (s : State) :
    (gateArmSet n a s).sh (F.SCH_GATE_CTRL_ARM n) = b2n a.isSome ∧ (gateArmSet n a s).sh (F.SCH_GATE_CTRL_ARMED n) = b2n a.isSome ∧
      (gateArmSet n a s).sh (F.SCH_GATE_CTRL_LEN n) = s.sh (F.SCH_GATE_CTRL_LEN n) := by
  have harm := key_ne_of_lo 0 (f := F.SCH_GATE_CTRL_ARMED n) (g := F.SCH_GATE_CTRL_ARM n) rfl rfl rfl
  have hlenArmed := key_ne_of_lo 0 (f := F.SCH_GATE_CTRL_ARMED n) (g := F.SCH_GATE_CTRL_LEN n) rfl rfl rfl
  have hlenArm := key_ne_of_lo 0 (f := F.SCH_GATE_CTRL_ARM n) (g := F.SCH_GATE_CTRL_LEN n) rfl rfl rfl
  refine ⟨?_, ?_, ?_⟩
  · rw [gateArmSet, sh_wr_ne _ _ harm, sh_wr_self]
    exact b2n_mod_two _
  · rw [gateArmSet, sh_wr_self]
    exact b2n_mod_two _
  · rw [gateArmSet, sh_wr_ne _ _ hlenArmed, sh_wr_ne _ _ hlenArm, sh_setSchPort _ _ rfl rfl (by simp [F.SCH_GATE_CTRL_LEN])]

/-- A takeover by the armed list, whose BASE VC0 has just reached (R375). -/
theorem gateTakeover_takes {n tick len : Nat} {base : Rat} {s : State} (harm : (s.schPort n).arm = some (base, len)) (hpast : tick ≤ s.frc)
    (hreached : base ≤ vc0Ns s (tick : Rat)) (hfirst : tick = 0 ∨ vc0Ns s ((tick - 1 : Nat) : Rat) < base) :
    gateTakeover n tick s = (
      let t := (((s.setSchPort n { s.schPort n with arm := none, base := base }).wr 0 (F.SCH_GATE_CTRL_ARM n) 0).wr
        0 (F.SCH_GATE_CTRL_ARMED n) 0).wr 0 (F.SCH_GATE_CTRL_ACTIVE_BANK n) (1 - s.sh (F.SCH_GATE_CTRL_ACTIVE_BANK n))
      postAt Ev.SCH_GATE_SWAP tick n [] (gateRefresh n tick (t.wr 0 (F.SCH_GATE_STATUS_ACTIVE_LEN n) len))) := by
  have hnow : ¬ (s.frc < tick ∨ vc0Ns s tick < base ∨ (0 < tick ∧ base ≤ vc0Ns s (tick - 1 : Nat))) := by
    rintro (hfuture | hearly | ⟨hpos, hbefore⟩)
    · omega
    · exact absurd hreached (not_le.2 hearly)
    · rcases hfirst with hzero | hjust
      · omega
      · exact absurd hbefore (not_le.2 hjust)
  rw [gateTakeover, harm]
  refine (if_neg hnow).trans ?_
  dsimp only
  rw [sh_setSchPort _ _ rfl rfl (by simp [F.SCH_GATE_CTRL_ACTIVE_BANK])]

/-- The first tick at which another entry, or the same one in another cycle, is in force (R373). -/
theorem gateEntryStart_starts {n tick : Nat} {s : State} (hpast : tick ≤ s.frc)
    (hnew : ¬ ((entryAt s n (activeList s n) (vc0Ns s (tick : Rat))).1 = (entryAt s n (activeList s n) (vc0Ns s ((tick - 1 : Nat) : Rat))).1 ∧
      (entryAt s n (activeList s n) (vc0Ns s (tick : Rat))).2.1 = (entryAt s n (activeList s n) (vc0Ns s ((tick - 1 : Nat) : Rat))).2.1)) :
    gateEntryStart n tick s = gateRefresh n tick s :=
  if_neg (not_or_intro (Nat.not_lt.2 hpast) hnew)

/-- Settles O28: each row is one operation of the scheduler, and each clause is the branch of it that its conditions select. -/
theorem schedulerCommands : Obligations.SchedulerCommands := by
  unfold Obligations.SchedulerCommands
  refine ⟨?launch, ?queue, ?write, ?read, ?flush, ?arm, ?abort, ?takeover, ?entry⟩
  case launch =>
    exact fun port l x s hsafe hdoor hup hroom hlaunch => by rw [exec_schSelect, schSelect_launch hsafe hdoor hup hroom hlaunch]
  case queue =>
    exact fun port e s hsafe hdoor hup hroom hnone hbest => by rw [exec_schSelect, schSelect_queue hsafe hdoor hup hroom hnone hbest]
  case write => exact fun fn s ht hs hstays => by rw [exec_qWrite, opQWrite_stores ht rfl rfl hs rfl hstays]
  case read =>
    intro fn clearMax s ht hp
    refine ⟨_, exec_qRead fn clearMax s, ?_⟩
    rw [opQRead_shows ht rfl hp]
    generalize s.rd (fn.val + 1) F.SCH_Q_SEL = q
    obtain ⟨hcode, hbusy, hrate, hdepth, hbytes, hdelay⟩ := qShown_reads fn.val q clearMax s
    have hqueue := qShown_q fn.val q clearMax s
    exact ⟨hcode, hbusy, hrate, hdepth, hbytes, hdelay, by rw [hqueue], by rw [hqueue]⟩
  case flush => exact fun fn s ht hmay => by rw [exec_qFlush, opQFlush_discards ht rfl rfl hmay]
  case arm =>
    intro fn port value s ht hs harm hkeep hvalid hlo hhi hahead
    refine ⟨_, exec_gateListArm fn port value s, ?_⟩
    rw [writeGateCtrl_arms ht hs rfl harm hkeep hvalid hlo hhi hahead]
    obtain ⟨harmed, hshown, hlen⟩ := gateArmSet_reads port.val (some ((linOfT96 (gateBase port.val s) : Rat) / 65536, bits value.toNat 0 9))
      (s.wr 0 (F.SCH_GATE_CTRL_LEN port.val) (bits value.toNat 0 9))
    exact ⟨gateArmSet_arm _ _ _, harmed, hshown, hlen.trans ((sh_wr_self _ _ _).trans (Nat.mod_mod _ _)), gateArmSet_sameMem _ _ _⟩
  case abort =>
    intro fn port value s ht hs habort
    refine ⟨_, exec_gateListAbort fn port value s, ?_⟩
    rw [writeGateCtrl_aborts ht hs habort]
    obtain ⟨harm, hshown, -⟩ := gateArmSet_reads port.val none (s.wr 0 (F.SCH_GATE_CTRL_LEN port.val) (bits value.toNat 0 9))
    exact ⟨gateArmSet_arm _ _ _, harm, hshown, gateArmSet_sameMem _ _ _⟩
  case takeover =>
    exact fun port tick base len s harm hpast hreached hfirst => by
      rw [exec_gateTakeover, gateTakeover_takes harm hpast hreached hfirst]
  case entry => exact fun port tick s hpast hnew => by rw [exec_gateEntryStart, gateEntryStart_starts hpast hnew]

end Sys2Proof.Machine
end

section
/-! PROOFS. The ports of the chain link: configuration, block lock, markers and superframes (R392 to R398, R405, R411). -/

namespace Sys2Proof.Machine

/-! ### The rows, by operation -/

theorem exec_ubwPortEn (fn : Fn) (port : Fin 5) (value : BitVec 32) (s : State) :
    exec (.ubwPortEn fn port value) s = .next (writeUbwCfg fn.val port.val value.toNat s) := rfl
theorem exec_ubwBlockLock (port : Fin 5) (locked : Bool) (s : State) :
    exec (.ubwBlockLock port locked) s = .next (ubwBlockLock port.val locked s) := rfl
theorem exec_ubwMarkerRx (port : Fin 5) (block tick : BitVec 64) (phase : Fin 32) (marker : List Byte) (s : State) :
    exec (.ubwMarkerRx port block tick phase marker) s =
      .next (markerRx port.val block.toNat (32 * tick.toNat + phase.val) marker s) := rfl
theorem exec_markerMissing (port : Fin 5) (block : BitVec 64) (s : State) :
    exec (.markerMissing port block) s = .next (markerMissing port.val block.toNat s) := rfl
theorem exec_superframeTx (port : Fin 5) (tick : BitVec 64) (phase : Fin 32) (s : State) :
    exec (.superframeTx port tick phase) s = .next (superframeTx port.val (32 * tick.toNat + phase.val) s) := rfl

/-! ### Configuration (R392, R396) -/

/-- The role that a write of v gives port p: M keeps its own, and 3 counts as 0. -/
def ubwRoleOf (p v : Nat) : Nat := if p = 4 then 2 else if bits v 1 2 = 3 then 0 else bits v 1 2

section
variable {fn p v : Nat} {s : State} (ht : s.takesWrite .ubw fn = true) (hs : s.secureSt fn = true)
include ht hs

/-- A disabled port is enabled under its new configuration, unless a second UPSTREAM port would result. -/
theorem writeUbwCfg_enables (hoff : ubwEn s p = false) (hen : bitOf v 0 = true)
    (hsingle : (ubwRoleOf p v = 1 ∧ p ≠ 4) → (List.range 4).all (fun q => q == p || !ubwEn s q || ubwRole s q != 1) = true) :
    writeUbwCfg fn p v s = (
      let t := (s.wr 0 (F.UBW_PORT_CFG_FWD_EN p) (bits v 9 1)).wr 0 (F.UBW_PORT_CFG_ROLE p) (ubwRoleOf p v)
      let t := (t.wr 0 (F.UBW_PORT_CFG_TX_INV p) (bits v 3 1)).wr 0 (F.UBW_PORT_CFG_RX_INV p) (bits v 4 1)
      ubwEnter p ubHUNT ((t.wr 0 (F.UBW_PORT_CFG_TX_EQ p) (bits v 5 4)).wr 0 (F.UBW_PORT_CFG_EN p) 1)) := by
  have hfirst : ¬ (bitOf v 0 && p != 4 && ubwRoleOf p v == 1 && (List.range 4).any fun q => q != p && ubwEn s q && ubwRole s q == 1) = true := by
    simp only [Bool.and_eq_true, bne_iff_ne, beq_iff_eq, List.any_eq_true, not_and, not_exists]
    rintro ⟨⟨-, hport⟩, hrole⟩ q hq ⟨hother, hon⟩ hup
    have hfree := List.all_eq_true.1 (hsingle ⟨hrole, hport⟩) q hq
    simp [hother, hon, hup] at hfree
  rw [writeUbwCfg, writeAtDoor_takes _ _ _ _ _ ht, if_neg (by simp [hs]), ← ubwRoleOf]
  dsimp only
  rw [if_neg (ne_true_of_eq_false hoff), if_neg hfirst]
  exact if_pos hen

/-- An enabled port is disabled; what the write may not change then stays as it is (R392). -/
theorem writeUbwCfg_disables (hon : ubwEn s p = true) (hdis : bitOf v 0 = false) (hrole : ubwRoleOf p v = ubwRole s p)
    (htx : bits v 3 1 = s.sh (F.UBW_PORT_CFG_TX_INV p)) (hrx : bits v 4 1 = s.sh (F.UBW_PORT_CFG_RX_INV p))
    (heq : bits v 5 4 = s.sh (F.UBW_PORT_CFG_TX_EQ p)) :
    writeUbwCfg fn p v s = ubwOff p (s.wr 0 (F.UBW_PORT_CFG_FWD_EN p) (bits v 9 1)) := by
  rw [writeUbwCfg, writeAtDoor_takes _ _ _ _ _ ht, if_neg (by simp [hs]), ← ubwRoleOf]
  dsimp only
  rw [if_pos hon, hrole, htx, hrx, heq, hdis]
  simp [onlyIf]

end

/-! ### Block lock (R396) -/

theorem ubwState_ne_search_of_linked {st : Nat} (h : ubwLinked st = true) : st ≠ ubSEARCH := by
  rintro rfl
  exact absurd h (by decide)

section
variable {p : Nat} {s : State} (hdoor : s.doorOpen .ubw = true)
include hdoor

theorem ubwBlockLock_gained (hen : ubwEn s p = true) (hhunt : ubwState s p = ubHUNT) : ubwBlockLock p true s = ubwEnter p ubSEARCH s := by
  rw [ubwBlockLock, if_neg (by simp [hdoor, hen]), if_pos rfl, if_pos hhunt]

theorem ubwBlockLock_lost (hen : ubwEn s p = true) (hlocked : ubwState s p ≠ ubHUNT) : ubwBlockLock p false s = ubwEnter p ubHUNT s := by
  rw [ubwBlockLock, if_neg (by simp [hdoor, hen]), if_neg Bool.false_ne_true, if_neg hlocked]

/-! ### Markers (R397) -/

section
variable {block x32 : Nat} {m : Octets} (hvalid : markerValid m = true)
include hvalid

/-- A valid marker where a linked port expects it. -/
theorem markerRx_expected (hlinked : ubwLinked (ubwState s p) = true) (hnext : block = (s.ubwPort p).next) :
    markerRx p block x32 m s = (
      let t := noteArrival p (ofBe (slice m 2 2)) x32 s
      t.setUbwPort p { t.ubwPort p with next := block + 16384, miss := 0 }) := by
  rw [markerRx, if_neg (by simp [hvalid]), if_neg (by simp [hdoor]), if_neg (ubwState_ne_search_of_linked hlinked)]
  exact if_pos (by simp [hlinked, hnext])

section
variable {t : Nat × Nat} (hsearch : ubwState s p = ubSEARCH)
  (htrack : ((s.ubwPort p).tracks.filter (fun t => block ≤ t.1 + 16384)).find? (fun t => t.1 + 16384 == block) = some t)
include hsearch htrack

/-- The fourth valid marker of a track aligns the port. -/
theorem markerRx_aligns (hfour : 3 ≤ t.2) :
    markerRx p block x32 m s = (
      let r := ubwEnter p ubALIGNED (noteArrival p (ofBe (slice m 2 2)) x32 s)
      r.setUbwPort p { r.ubwPort p with next := block + 16384 }) := by
  rw [markerRx, if_neg (by simp [hvalid]), if_neg (by simp [hdoor]), if_pos hsearch, markerSearch, htrack]
  exact if_pos hfour

/-- An earlier one advances its track. -/
theorem markerRx_advances (hfew : t.2 < 3) :
    markerRx p block x32 m s = s.setUbwPort p { s.ubwPort p with
      tracks := ((s.ubwPort p).tracks.filter (fun t => block ≤ t.1 + 16384)).map fun x => if x.1 = t.1 then (block, t.2 + 1) else x } := by
  rw [markerRx, if_neg (by simp [hvalid]), if_neg (by simp [hdoor]), if_pos hsearch, markerSearch, htrack]
  exact if_neg (Nat.not_le.2 hfew)

end

end

/-- In SEARCH a missing marker ends its candidate track. -/
theorem markerMissing_search {block : Nat} (hsearch : ubwState s p = ubSEARCH) :
    markerMissing p block s = s.setUbwPort p { s.ubwPort p with tracks := (s.ubwPort p).tracks.filter fun t => t.1 + 16384 != block } := by
  rw [markerMissing, if_neg (by simp [hdoor])]
  exact if_pos hsearch

/-- A linked port with one more missing marker, which it expects 16,384 blocks further on. -/
def markerMissed (p : Nat) (s : State) : State :=
  State.wr 0 (F.UBW_PORT_COUNTS_BAD_MARKER p) (s.sh (F.UBW_PORT_COUNTS_BAD_MARKER p) + 1)
    (s.setUbwPort p { s.ubwPort p with next := (s.ubwPort p).next + 16384, miss := (s.ubwPort p).miss + 1 })

/-- A linked port counts the miss, and the third in a row sends it back to SEARCH. -/
theorem markerMissing_linked {block : Nat} (hlinked : ubwLinked (ubwState s p) = true) (hnext : block = (s.ubwPort p).next) :
    markerMissing p block s = if 3 ≤ (s.ubwPort p).miss + 1 then ubwEnter p ubSEARCH (markerMissed p s) else markerMissed p s := by
  rw [markerMissing, if_neg (by simp [hdoor]), if_neg (ubwState_ne_search_of_linked hlinked)]
  exact if_pos (by simp [hlinked, hnext])

/-! ### Superframes (R394, R398, R411) -/

/-- A superframe of a chain port that is not in SEARCH. -/
theorem superframeTx_sends {x32 : Nat} (hen : ubwEn s p = true) (hport : p ≠ 4) (hstate : ubwState s p ≠ ubSEARCH) :
    superframeTx p x32 s = (
      let k := (s.ubwPort p).sf
      let t := sendTiming p k (syncNode (s.setUbwPort p { s.ubwPort p with sf := (k + 1) % 65536 }))
      drainLocal p x32 (t.setUbwPort p { t.ubwPort p with deps := (ubwStamp t k x32 (ubwTxC t p) :: (t.ubwPort p).deps).take 64 })) := by
  rw [superframeTx, if_neg (by simp [hdoor, hen])]
  dsimp only
  rw [if_neg hport, if_neg (not_and_of_not_left _ hstate)]

end

/-- Settles O30: each row is one operation on its port, and each clause is the branch of it that its conditions select. -/
theorem chainLinkCommands : Obligations.ChainLinkCommands := by
  unfold Obligations.ChainLinkCommands
  refine ⟨?enable, ?disable, ?gained, ?lost, ?expected, ?aligns, ?advances, ?ended, ?missed, ?third, ?superframe⟩
  case enable => exact fun fn port value s ht hs hoff hen hsingle => by rw [exec_ubwPortEn, writeUbwCfg_enables ht hs hoff hen hsingle, ubwRoleOf]
  case disable =>
    exact fun fn port value s ht hs hon hdis hrole htx hrx heq => by rw [exec_ubwPortEn, writeUbwCfg_disables ht hs hon hdis hrole htx hrx heq]
  case gained => exact fun port s hdoor hen hhunt => by rw [exec_ubwBlockLock, ubwBlockLock_gained hdoor hen hhunt]
  case lost => exact fun port s hdoor hen hlocked => by rw [exec_ubwBlockLock, ubwBlockLock_lost hdoor hen hlocked]
  case expected =>
    exact fun port block tick phase marker s hdoor hvalid hlinked hnext => by rw [exec_ubwMarkerRx, markerRx_expected hdoor hvalid hlinked hnext]
  case aligns =>
    exact fun port block tick phase marker t s hdoor hvalid hsearch htrack hfour => by
      rw [exec_ubwMarkerRx, markerRx_aligns hdoor hvalid hsearch htrack hfour]
  case advances =>
    exact fun port block tick phase marker t s hdoor hvalid hsearch htrack hfew => by
      rw [exec_ubwMarkerRx, markerRx_advances hdoor hvalid hsearch htrack hfew]
  case ended => exact fun port block s hdoor hsearch => by rw [exec_markerMissing, markerMissing_search hdoor hsearch]
  case missed =>
    exact fun port block s hdoor hlinked hnext hfew => by
      rw [exec_markerMissing, markerMissing_linked hdoor hlinked hnext, if_neg (Nat.not_le.2 hfew), markerMissed]
  case third =>
    exact fun port block s hdoor hlinked hnext hthird => by
      rw [exec_markerMissing, markerMissing_linked hdoor hlinked hnext, if_pos hthird, markerMissed]
  case superframe =>
    exact fun port tick phase s hdoor hen hport hstate => by rw [exec_superframeTx, superframeTx_sends hdoor hen hport hstate]

end Sys2Proof.Machine
end

section
/-! PROOFS. The key store: lifecycle, authorities, identity and envelopes (R436, R440, R451 to R458, R463), and the key events (R440, R441, R444, R446). -/

namespace Sys2Proof.Machine

/-! ### The rows, by operation -/

theorem exec_ksProvision (fn : Fn) (s : State) : exec (.ksProvision fn) s = .next (opKsProvision (ownWin fn) s) := rfl
theorem exec_ksDeploy (fn : Fn) (s : State) : exec (.ksDeploy fn) s = .next (opKsDeploy (ownWin fn) s) := rfl
theorem exec_ksReturn (fn : Fn) (s : State) : exec (.ksReturn fn) s = .next (opKsReturn (ownWin fn) s) := rfl
theorem exec_ksAuthSet (fn : Fn) (stored : Bool) (s : State) : exec (.ksAuthSet fn stored) s = .next (opKsAuthSet (ownWin fn) stored s) := rfl
theorem exec_ksLockAuth (fn : Fn) (s : State) : exec (.ksLockAuth fn) s = .next (opKsLockAuth (ownWin fn) s) := rfl
theorem exec_ksIdStatement (fn : Fn) (s : State) : exec (.ksIdStatement fn) s = .next (opKsIdStatement (ownWin fn) s) := rfl
theorem exec_ksEkCert (fn : Fn) (s : State) : exec (.ksEkCert fn) s = .next (opKsEkCert (ownWin fn) s) := rfl
theorem exec_ksEnvApply (fn : Fn) (stored : Bool) (s : State) : exec (.ksEnvApply fn stored) s = .next (opKsEnvApply (ownWin fn) stored s) := rfl
theorem exec_keyDelivery (master : Fin 4) (slot : Fin 1024) (usage : Fin 5) (tenant : Fin 512) (s : State) :
    exec (.keyDelivery master slot usage tenant) s = .next (keyDelivery master.val slot.val usage.val tenant.val s) := rfl
theorem exec_slotExpiryCheck (tick : BitVec 64) (s : State) : exec (.slotExpiryCheck tick) s = .next (expiryCheck tick.toNat s) := rfl
theorem exec_tamperTrip (source : Fin 6) (s : State) : exec (.tamperTrip source) s = .next (tamperTrip source.val s) := rfl

/-- A buffer is well placed where it is aligned to 64 octets and its function owns it. -/
theorem ksBufOk_iff {s : State} {fn a n : Nat} : ksBufOk s fn a n = true ↔ a % 64 = 0 ∧ ownsBuf s fn a n = true := by
  simp [ksBufOk]

section
variable {fn : Fn} {s : State} (ht : s.takes .ks stKs fn.val = true)
include ht

/-- A command that the window takes runs its body where R438 and the authority of Table 16.10 let it. -/
theorem ksCommand_permitted {exempt : Bool} {auth : State → Bool} (body : State → State) (hroot : asBlank s = false ∨ exempt = true)
    (hauth : auth s = true) : ksCommand (ownWin fn) exempt auth body s = body s := by
  rw [ksCommand, command_takes _ _ _ (ownWin fn) _ _ rfl ht]
  have hblank : (asBlank s && !exempt) = false := by obtain h | h := hroot <;> simp [h]
  simp [hblank, hauth]

/-! ### Lifecycle (R436) -/

theorem opKsProvision_provisions (hp : s.secureSt fn.val = true ∨ fn.val = 0) (hblank : s.sh F.KS_LIFECYCLE_STATE = 0)
    (hent : s.sh F.KS_STATUS_ENTROPY_OK = 1) :
    opKsProvision (ownWin fn) s = completeOk stKs (ownWin fn) (newRoot (s.wr 0 F.KS_LIFECYCLE_STATE 1)) := by
  rw [opKsProvision, ksCommand_permitted ht _ (.inr rfl) (by simpa [hblank] using hp), if_neg (by simp [hblank]), if_neg (by simp [hent])]

section
variable (hroot : asBlank s = false) (hs : s.secureSt fn.val = true)
include hroot hs

theorem opKsDeploy_deploys (hdev : s.sh F.KS_LIFECYCLE_STATE = 1) :
    opKsDeploy (ownWin fn) s
      = completeOk stKs (ownWin fn) (syncKs ((s.wr 0 F.KS_LIFECYCLE_STATE 2).wr 0 F.KS_LIFECYCLE_AUTH_LOCKED 1)) := by
  rw [opKsDeploy, ksCommand_permitted ht _ (.inl hroot) hs, if_neg (by simp [hdev])]

theorem opKsReturn_zeroises (hdev : s.sh F.KS_LIFECYCLE_STATE = 1) :
    opKsReturn (ownWin fn) s = completeOk stKs (ownWin fn) (zeroise (s.wr 0 F.KS_LIFECYCLE_STATE 3)) := by
  rw [opKsReturn, ksCommand_permitted ht _ (.inl hroot) hs, if_neg (by simp [hdev])]

/-! ### Authorities (R454) -/

theorem opKsAuthSet_stores {a : Nat} (ha : ksAddr s (ownWin fn) 0 = a) (hopen : s.sh F.KS_LIFECYCLE_AUTH_LOCKED = 0)
    (hbuf : ksBufOk s fn.val a 48 = true) (hcode : bufCode s a 48 = Code.ok) :
    opKsAuthSet (ownWin fn) true s
      = completeOk stKs (ownWin fn) (putAuth (s.rd (fn.val + 1) (F.KS_ARG 4) % 4) (s.memRead fn.val a 48) s) := by
  subst ha
  rw [opKsAuthSet, ksCommand_permitted ht _ (.inl hroot) hs]
  dsimp only
  rw [if_neg (by simp [hopen]), if_neg (by simp [show ksBufOk s (ownWin fn).fn _ 48 = true from hbuf]), if_neg (by simp [hcode]),
    if_neg (by simp)]

theorem opKsLockAuth_locks : opKsLockAuth (ownWin fn) s = completeOk stKs (ownWin fn) (s.wr 0 F.KS_LIFECYCLE_AUTH_LOCKED 1) :=
  ksCommand_permitted ht _ (.inl hroot) hs

/-! ### Envelopes (R456 to R458) -/

/-- An envelope at a and its key block at b, both readable, are judged by Table 16.7 and applied where they pass. -/
theorem opKsEnvApply_judges {a b : Nat} (ha : ksAddr s (ownWin fn) 0 = a) (hb : ksAddr s (ownWin fn) 2 = b)
    (hbufA : ksBufOk s fn.val a 4748 = true) (hcodeA : bufCode s a 4748 = Code.ok)
    (hbufB : ksBufOk s fn.val b 2049 = true) (hcodeB : bufCode s b 2049 = Code.ok) :
    opKsEnvApply (ownWin fn) true s =
      match envRefusal s (s.memRead fn.val a 4748) (s.memRead fn.val b 2049) with
      | some c => post Ev.KS_ENV_REFUSED (ofBe (slice (s.memRead fn.val a 4748) 72 2)) (refuse stKs (ownWin fn) c s)
      | none => completeOk stKs (ownWin fn)
          (post Ev.KS_ENV_APPLIED (ofBe (slice (s.memRead fn.val a 4748) 72 2)) (envApply (s.memRead fn.val a 4748) s)) := by
  subst ha hb
  rw [opKsEnvApply, ksCommand_permitted ht _ (.inl hroot) hs]
  dsimp only
  rw [if_neg (by simp [show ksBufOk s (ownWin fn).fn _ 4748 = true from hbufA, show ksBufOk s (ownWin fn).fn _ 2049 = true from hbufB]),
    if_neg (by simp [hcodeA]), if_neg (by simp [hcodeB])]
  have hstored : ∀ e, (envPersists e && !true) = false := fun e => by simp
  simp only [hstored, Bool.false_eq_true, if_false] <;> rfl

end

/-! ### Identity (R451, R452) -/

theorem opKsIdStatement_writes {a : Nat} (ha : ksAddr s (ownWin fn) 0 = a) (hroot : asBlank s = false)
    (hbuf : ksBufOk s fn.val a 6784 = true) :
    opKsIdStatement (ownWin fn) s = completeOk stKs (ownWin fn) (dmaWrite fn.val a (idStatement s) s) := by
  subst ha
  rw [opKsIdStatement, ksCommand_permitted ht _ (.inl hroot) rfl]
  exact if_neg (by simp [show ksBufOk s (ownWin fn).fn _ 6784 = true from hbuf])

theorem opKsEkCert_writes {a : Nat} (ha : ksAddr s (ownWin fn) 0 = a) (hbuf : ksBufOk s fn.val a 12288 = true) :
    opKsEkCert (ownWin fn) s = completeOk stKs (ownWin fn)
      ((dmaWrite fn.val a (Config.ekChain.take 12288) s).wr (fn.val + 1) (F.KS_ARG 4) (Config.ekChain.take 12288).length) := by
  subst ha
  rw [opKsEkCert, ksCommand_permitted ht _ (.inr rfl) rfl]
  exact if_neg (by simp [show ksBufOk s (ownWin fn).fn _ 12288 = true from hbuf])

end

/-- Settles O34: each root command that its window takes, from a function of its authority, in a lifecycle state that allows it
and with its buffers in place, has the effect that R436, R440 and R451 to R458 give. -/
theorem rootCommands : Obligations.RootCommands := by
  unfold Obligations.RootCommands
  refine ⟨?provision, ?deploy, ?returns, ?authSet, ?lockAuth, ?idStatement, ?ekCert, ?envApply⟩
  case provision => exact fun fn s ht hp hblank hent => by rw [exec_ksProvision, opKsProvision_provisions ht hp hblank hent]
  case deploy => exact fun fn s ht hroot hs hdev => by rw [exec_ksDeploy, opKsDeploy_deploys ht hroot hs hdev]
  case returns => exact fun fn s ht hroot hs hdev => by rw [exec_ksReturn, opKsReturn_zeroises ht hroot hs hdev]
  case authSet =>
    exact fun fn s ht hroot hs hopen halign hown hcode => by
      rw [exec_ksAuthSet, opKsAuthSet_stores ht hroot hs rfl hopen (ksBufOk_iff.2 ⟨halign, hown⟩) hcode]
      rfl
  case lockAuth => exact fun fn s ht hroot hs => by rw [exec_ksLockAuth, opKsLockAuth_locks ht hroot hs]
  case idStatement =>
    exact fun fn s ht hroot halign hown => by
      rw [exec_ksIdStatement, opKsIdStatement_writes ht rfl hroot (ksBufOk_iff.2 ⟨halign, hown⟩)]
      rfl
  case ekCert =>
    exact fun fn s ht halign hown => by
      rw [exec_ksEkCert, opKsEkCert_writes ht rfl (ksBufOk_iff.2 ⟨halign, hown⟩)]
      rfl
  case envApply =>
    exact fun fn s ht hroot hs halignA hownA hcodeA halignB hownB hcodeB => by
      rw [exec_ksEnvApply, opKsEnvApply_judges ht hroot hs rfl rfl (ksBufOk_iff.2 ⟨halignA, hownA⟩) hcodeA
        (ksBufOk_iff.2 ⟨halignB, hownB⟩) hcodeB]
      rfl

/-! ### Zeroisation leaves the power state alone (R441) -/

/-- What the operation of every member of a list leaves alone, the row of them leaves alone. -/
theorem each_leaves_mem {α β : Type} (view : State → β) {f : α → State → State} {l : List α} (hf : ∀ a ∈ l, ∀ s, view (f a s) = view s)
    (s : State) : view (each l f s) = view s := by
  induction l generalizing s with
  | nil => rfl
  | cons a l ih =>
    exact (ih (fun b hb => hf b (.tail a hb)) (f a s)).trans (hf a (.head l) s)

theorem sh_wr64_ne (s : State) {lo hi g : FieldRef} (v : Nat) (hlo : g.key 0 ≠ lo.key 0) (hhi : g.key 0 ≠ hi.key 0) :
    (s.wr64 0 lo hi v).sh g = s.sh g := by
  rw [State.wr64, sh_wr_ne _ _ hhi, sh_wr_ne _ _ hlo]

/-- The entry of an SA loses the keys whose slot p names (R356). -/
def loseSaKeys (p : Nat → Bool) (e : Nat × SaEnt) (t : State) : State :=
  post Ev.SEC_KEY_LOST e.1 (t.setSa e.1 { e.2 with
    a := loseHalf (fun x => p x.slot) e.2.a, b := loseHalf (fun x => p x.slot) e.2.b, lost := true })

/-- A master entry loses its key (R356). -/
def loseNtsKey (e : Nat × NtsEnt) (t : State) : State := post Ev.SEC_KEY_LOST e.1 (t.setNts e.1 { e.2 with lost := true, key := 0 })

theorem loseKeys_eq (p : Nat → Bool) (s : State) : ∃ sas nts, loseKeys p s = each nts loseNtsKey (each sas (loseSaKeys p) s) := ⟨_, _, rfl⟩

theorem sh_loseKeys (p : Nat → Bool) (s : State) {f : FieldRef} (hf : erKey (f.key 0) = false) : (loseKeys p s).sh f = s.sh f := by
  obtain ⟨sas, nts, h⟩ := loseKeys_eq p s
  have hsa : ∀ e t, (loseSaKeys p e t).sh f = t.sh f := fun e t => (sh_post _ _ _ hf).trans (sh_of_regs rfl f)
  have hnts : ∀ e t, (loseNtsKey e t).sh f = t.sh f := fun e t => (sh_post _ _ _ hf).trans (sh_of_regs rfl f)
  rw [h]
  exact (each_leaves (·.sh f) hnts nts _).trans (each_leaves (·.sh f) hsa sas s)

theorem sh_syncKs (s : State) {f : FieldRef}
    (hf : ∀ g ∈ [F.KS_STATUS_PERSIST_USED, F.KS_STATUS_VOLATILE_USED, F.KS_STATUS_AS_BLANK, F.KS_LIFECYCLE_ROOT_VALID], f.key 0 ≠ g.key 0) :
    (syncKs s).sh f = s.sh f := by
  simp only [List.forall_mem_cons, List.not_mem_nil, false_imp_iff, implies_true, and_true] at hf
  obtain ⟨hpersist, hvolatile, hblank, hvalid⟩ := hf
  unfold syncKs
  rw [sh_wr_ne _ _ hvalid, sh_wr_ne _ _ hblank, sh_wr_ne _ _ hvolatile, sh_wr_ne _ _ hpersist]

theorem clearAuth_powerState (s : State) : (clearAuth s).sh F.PWR_STATUS_STATE = s.sh F.PWR_STATUS_STATE := by
  have hkey : ∀ i ∈ List.range 4, ∀ j ∈ List.range 12, F.PWR_STATUS_STATE.key 0 ≠ (F.KS_AUTH i j).key 0 := by decide
  refine each_leaves_mem (·.sh F.PWR_STATUS_STATE) (fun i hi t => ?_) s
  exact each_leaves_mem (·.sh F.PWR_STATUS_STATE) (fun j hj t => sh_wr_ne t 0 (hkey i hi j hj)) t

/-- What zeroisation clears in the registers. -/
def zeroisedRegs (s : State) : State :=
  let counts := clearAuth ((s.wr64 0 F.KS_WRITES_LO F.KS_WRITES_HI 0).wr64 0 F.KS_ENV_COUNT_LO F.KS_ENV_COUNT_HI 0)
  ((counts.wr64 0 F.BND_TOK_COUNT_LO F.BND_TOK_COUNT_HI 0).wr 0 F.KS_STATUS_ID_READY 0).wr 0 F.SEC_STATUS_NONCE_KEY 0

theorem zeroise_eq (s : State) : zeroise s = syncKs (loseKeys (fun _ => true) { zeroisedRegs s with
    ks := { (zeroisedRegs s).ks with root := none, slots := [], authCopy := [], zeroised := true, held := [], last := none } }) := rfl

theorem zeroise_powerState (s : State) : (zeroise s).sh F.PWR_STATUS_STATE = s.sh F.PWR_STATUS_STATE := by
  have hregs : (zeroisedRegs s).sh F.PWR_STATUS_STATE = s.sh F.PWR_STATUS_STATE := by
    rw [zeroisedRegs, sh_wr_ne _ _ (by decide), sh_wr_ne _ _ (by decide), sh_wr64_ne _ _ (by decide) (by decide), clearAuth_powerState,
      sh_wr64_ne _ _ (by decide) (by decide), sh_wr64_ne _ _ (by decide) (by decide)]
  have hks : ∀ (t : State) k, { t with ks := k }.sh F.PWR_STATUS_STATE = t.sh F.PWR_STATUS_STATE := fun _ _ => rfl
  rw [zeroise_eq, sh_syncKs _ (by decide), sh_loseKeys _ _ (by decide), hks, hregs]

/-! ### The key events (R440, R444, R446) -/

/-- A delivery answers with what the checks deliver, and the steward holds what it was given (R444). -/
theorem keyDelivery_answers (slot master usage tenant : Nat) (s : State) {k : Option Nat} (hk : ksDeliver s slot master usage tenant = k) :
    keyDelivery master slot usage tenant s = { s with ks := { s.ks with
      last := some (master, slot, k), held := if k.isSome ∧ master = 2 then tset s.ks.held slot (k.getD 0) else s.ks.held } } := by
  subst hk
  unfold keyDelivery
  cases ksDeliver s slot master usage tenant with
  | none => simp
  | some v => simp only [Option.isSome_some, true_and, Option.getD_some]; rfl

theorem expiryCheck_second {tick : Nat} {s : State} (hsec : tick % 1562500000 = 0) (hreached : tick ≤ s.frc) (hnew : s.ks.checkedAt < tick)
    (hdoor : s.doorOpen .ks = true) :
    expiryCheck tick s = each ((s.ks.slots.filter fun e => slotExpired s tick e.2.attr).map (·.1)) expireSlot
      { s with ks := { s.ks with checkedAt := tick } } :=
  if_neg (by simp [ticksPerSec, hsec, hdoor]; omega)

/-- An enabled source outside P4 zeroises the store and hits source 832. -/
theorem tamperTrip_enabled {i : Nat} {s : State} (hen : bitOf (s.sh F.KS_TAMPER_CFG) i = true) (hpwr : s.sh F.PWR_STATUS_STATE ≠ 4) :
    tamperTrip i s = raise 832 0 0 (post Ev.KS_ZEROISED 0 (zeroise
      ((s.wr 0 F.KS_TAMPER_LOG_CAUSE (setBitN (s.sh F.KS_TAMPER_LOG_CAUSE) i)).wr 0 F.KS_TAMPER_LOG_COUNT
        (min 255 (s.sh F.KS_TAMPER_LOG_COUNT + 1))))) := by
  rw [tamperTrip, if_neg (by simp [hen])]
  dsimp only
  rw [sh_wr_ne (g := F.KS_TAMPER_LOG_COUNT) _ _ (by decide)]
  exact if_neg (by rw [zeroise_powerState, sh_wr_ne _ _ (by decide), sh_wr_ne _ _ (by decide)]; exact hpwr)

theorem tamperTrip_disabled {i : Nat} {s : State} (hen : bitOf (s.sh F.KS_TAMPER_CFG) i = false) : tamperTrip i s = s :=
  if_pos (by simp [hen])

/-- Settles O35: delivery by the store's checks, the steward's copy (the model's choice, assumption 144), the expiry of a whole
second, and tamper sources by their enable bit. -/
theorem keyEvents : Obligations.KeyEvents := by
  unfold Obligations.KeyEvents
  refine ⟨?delivery, ?expiry, ?enabled, ?disabled⟩
  case delivery => exact fun master slot usage tenant s => by rw [exec_keyDelivery, keyDelivery_answers _ _ _ _ s rfl]
  case expiry => exact fun tick s hsec hreached hnew hdoor => by rw [exec_slotExpiryCheck, expiryCheck_second hsec hreached hnew hdoor]
  case enabled => exact fun source s hen hpwr => by rw [exec_tamperTrip, tamperTrip_enabled hen hpwr]
  case disabled => exact fun source s hen => by rw [exec_tamperTrip, tamperTrip_disabled hen]

end Sys2Proof.Machine
end

section
/-! PROOFS. The steps of Proofing (R437, R450, R531, R539, R544 to R549). -/

namespace Sys2Proof.Machine

/-! ### The rows, by operation -/

theorem exec_proofingStepDone (p : ProofData) (s : State) : exec (.proofingStepDone p) s = .next (proofDone p s) := rfl
theorem exec_proofingTimeout (s : State) : exec .proofingTimeout s = .next (proofTimeout s) := rfl

/-- What step n does as it completes (Table 20.3). -/
def stepCompleted (p : ProofData) (n : Nat) (s : State) : State :=
  match n with
  | 0 => nextStep (proof0 p.side s)
  | 1 => nextStep s
  | 2 => nextStep (proof2 s)
  | 3 => nextStep (proof3 s)
  | 4 => if s.sh F.SHM_STATUS_SWEEP_DONE = 1 then nextStep s else s
  | 5 => nextStep (proof5 p.entropyOk p.rootOk s)
  | 6 => if proofStep (bootImage p.readA p.readB s) = 6 then nextStep (bootImage p.readA p.readB s) else bootImage p.readA p.readB s
  | _ => proof7 s

/-- Step 7 is the last. -/
theorem stepCompleted_last (p : ProofData) {n : Nat} (s : State) (hn : 7 ≤ n) : stepCompleted p n s = proof7 s := by
  generalize hlast : proof7 s = t
  unfold stepCompleted
  split
  case h_8 => exact hlast
  all_goals omega

/-- What step n does as its time runs out (R545). -/
def stepTimedOut (n : Nat) (s : State) : State :=
  match n with
  | 3 => raise 1216 0 0 (nextStep (startSweep (useOptions 0 (zeros 14 ++ oct [0x1D, 1] ++ zeros 48) s)))
  | 1 | 5 => (satAdd F.RST_CNT_PROOF_PROOF_FAIL 1 s).wr 0 F.RST_STATUS_PROOF_STEP 0
  | _ => s

section
variable {s : State} (hpin : s.rst.pin = false) (hdone : s.sh F.RST_STATUS_PROOF_DONE = 0) (hdeep : s.pwr.deep ≤ 2)
include hpin hdone hdeep

theorem proofing_runs : proofing s = true := by simp [proofing, hpin, hdone, hdeep]

theorem proofDone_step (p : ProofData) {n : Nat} (hstep : s.sh F.RST_STATUS_PROOF_STEP = n) : proofDone p s = stepCompleted p n s := by
  subst hstep
  exact if_neg (by simp [proofing_runs hpin hdone hdeep])

theorem proofTimeout_step {n : Nat} (hstep : s.sh F.RST_STATUS_PROOF_STEP = n) : proofTimeout s = stepTimedOut n s := by
  subst hstep
  exact if_neg (by simp [proofing_runs hpin hdone hdeep])

/-- Step 4 goes on where the sweep is done. -/
theorem proofDone_swept (p : ProofData) (hstep : s.sh F.RST_STATUS_PROOF_STEP = 4) (hsweep : s.sh F.SHM_STATUS_SWEEP_DONE = 1) :
    proofDone p s = s.wr 0 F.RST_STATUS_PROOF_STEP 5 := by
  rw [proofDone_step hpin hdone hdeep p hstep]
  refine (if_pos hsweep).trans ?_
  rw [nextStep, proofStep, hstep]

theorem proofDone_unswept (p : ProofData) (hstep : s.sh F.RST_STATUS_PROOF_STEP = 4) (hsweep : s.sh F.SHM_STATUS_SWEEP_DONE = 0) :
    proofDone p s = s := by
  rw [proofDone_step hpin hdone hdeep p hstep]
  exact if_neg (by rw [hsweep]; decide)

theorem proofDone_last (p : ProofData) (hstep : 7 ≤ s.sh F.RST_STATUS_PROOF_STEP) : proofDone p s = proof7 s :=
  (proofDone_step hpin hdone hdeep p rfl).trans (stepCompleted_last p s hstep)

end

/-- Settles O46: each step of Proofing by its number, and the time-outs of steps 1, 3 and 5 (those of steps 2, 4 and 6 are the
model's choice, assumption 176). -/
theorem proofingCommands : Obligations.ProofingCommands := by
  unfold Obligations.ProofingCommands
  refine ⟨?step0, ?step1, ?step2, ?step3, ?step5, ?waits, ?swept, ?step6, ?step7, ?timeout3, ?timeout15⟩
  case step0 => exact fun p s hpin hdone hdeep hstep => congrArg _ (proofDone_step hpin hdone hdeep p hstep)
  case step1 => exact fun p s hpin hdone hdeep hstep => congrArg _ (proofDone_step hpin hdone hdeep p hstep)
  case step2 => exact fun p s hpin hdone hdeep hstep => congrArg _ (proofDone_step hpin hdone hdeep p hstep)
  case step3 => exact fun p s hpin hdone hdeep hstep => congrArg _ (proofDone_step hpin hdone hdeep p hstep)
  case step5 => exact fun p s hpin hdone hdeep hstep => congrArg _ (proofDone_step hpin hdone hdeep p hstep)
  case waits =>
    exact fun p s hpin hdone hdeep hstep hsweep => by rw [exec_proofingStepDone, proofDone_unswept hpin hdone hdeep p hstep hsweep]
  case swept =>
    exact fun p s hpin hdone hdeep hstep hsweep => by rw [exec_proofingStepDone, proofDone_swept hpin hdone hdeep p hstep hsweep]
  case step6 =>
    exact fun p s hpin hdone hdeep hstep => congrArg _ (proofDone_step hpin hdone hdeep p hstep)
  case step7 => exact fun p s hpin hdone hdeep hstep => by rw [exec_proofingStepDone, proofDone_last hpin hdone hdeep p hstep]
  case timeout3 => exact fun s hpin hdone hdeep hstep => congrArg _ (proofTimeout_step hpin hdone hdeep hstep)
  case timeout15 =>
    intro s hpin hdone hdeep hstep
    obtain hstep | hstep := hstep
    · exact congrArg _ (proofTimeout_step hpin hdone hdeep hstep)
    · exact congrArg _ (proofTimeout_step hpin hdone hdeep hstep)

end Sys2Proof.Machine
end

section
/-! PROOFS. Resets by supply, pin and command, and the option bytes (R516, R538 to R548, R558). -/

namespace Sys2Proof.Machine

/-! ### The rows, by operation -/

theorem exec_powerOnReset (vbat : Bool) (s : State) :
    exec (.powerOnReset vbat) s = .next (chipReset 1 .power (onlyIf (!vbat) batteryLost s)) := rfl
theorem exec_resetNAssert (s : State) : exec .resetNAssert s = .next (resetNAssert s) := rfl
theorem exec_resetNRelease (heldMs : BitVec 32) (s : State) : exec (.resetNRelease heldMs) s = .next (resetNRelease heldMs.toNat s) := rfl
theorem exec_stuckRelease (heldMs : BitVec 32) (s : State) : exec (.stuckRelease heldMs) s = .next (stuckRelease heldMs.toNat s) := rfl
theorem exec_perstN (s : State) : exec .perstN s = .next (perstN s) := rfl
theorem exec_pcieLinkDown (s : State) : exec .pcieLinkDown s = .next (linkDown s) := rfl
theorem exec_rstColdReset (fn : Fn) (s : State) : exec (.rstColdReset fn) s = .next (opColdReset (ownWin fn) s) := rfl
theorem exec_rstWarmReset (fn : Fn) (s : State) : exec (.rstWarmReset fn) s = .next (opWarmReset (ownWin fn) s) := rfl
theorem exec_rstOptWrite (fn : Fn) (verified : Bool) (s : State) :
    exec (.rstOptWrite fn verified) s = .next (opOptWrite (ownWin fn) verified s) := rfl
theorem exec_rstClearStuck (fn : Fn) (s : State) : exec (.rstClearStuck fn) s = .next (opClearStuck (ownWin fn) s) := rfl

/-! ### Pins (R538, R542, R543) -/

section
variable {s : State}

theorem resetNAssert_resets (hpin : s.rst.pin = false) (hstuck : s.sh F.RST_STATUS_STUCK_ACTIVE = 0) :
    resetNAssert s = { chipReset 2 .cold s with rst := { (chipReset 2 .cold s).rst with pin := true } } :=
  if_neg (by simp [hpin, hstuck])

theorem resetNAssert_ignored (h : s.rst.pin = true ∨ s.sh F.RST_STATUS_STUCK_ACTIVE = 1) : resetNAssert s = s :=
  if_pos (by simpa using h)

theorem satU_eq_min (n : Nat) : satU 32 n = min 0xFFFFFFFF n := by
  unfold satU
  split <;> omega

theorem resetNRelease_releases (heldMs : Nat) (hpin : s.rst.pin = true) :
    resetNRelease heldMs s = { s with rst := { s.rst with pin := false } }.wr 0 F.RST_HOLD_MS (min 0xFFFFFFFF (s.sh F.RST_HOLD_MS + heldMs)) := by
  rw [← satU_eq_min]
  exact if_neg (by simp [hpin])

theorem stuckRelease_resets (heldMs : Nat) (hpin : s.rst.pin = true) (hmode : s.sh F.RST_BAT_STATUS_RSTPIN_STUCK_M = 1) :
    stuckRelease heldMs s
      = (chipReset 3 .cold (satAdd F.RST_HOLD_MS heldMs (s.wr 0 F.RST_BAT_STATUS_STUCK_RESET 1))).wr 0 F.RST_STATUS_STUCK_ACTIVE 1 :=
  if_neg (by simp [hpin, hmode])

section
variable (hpin : s.rst.pin = false) (hdeep : s.pwr.deep ≤ 2)
include hpin hdeep

theorem perstN_resets (hmode : s.sh F.RST_OPT_PERST_MODE = 1) : perstN s = chipReset 7 .warm s := by
  rw [perstN, if_neg (by simp [hpin, hdeep]), if_pos (by simp [hmode])]

theorem perstN_linkDown (hmode : s.sh F.RST_OPT_PERST_MODE = 0) : perstN s = linkDown s := by
  rw [perstN, if_neg (by simp [hpin, hdeep]), if_neg (by simp [hmode])]

end

/-! ### Commands of RST (R538, R548, R558, R572) -/

section
variable {fn : Fn} (hs : s.secureSt fn.val = true)
include hs

theorem rstCommand_permitted (ht : s.takes .rst stRst fn.val = true) (body : State → State) : rstCommand (ownWin fn) body s = body s := by
  rw [rstCommand, command_takes _ _ _ (ownWin fn) _ _ rfl ht]
  exact if_pos hs

/-- The reset commands are taken in the safe state too. -/
theorem resetCommand_permitted (ht : s.takes .rst stRst fn.val = true ∨ s.safe = true) (code : Nat) (kind : RstKind) :
    resetCommand (ownWin fn) code kind s = chipReset code kind s := by
  obtain hsafe | hsafe := Bool.eq_false_or_eq_true s.safe
  · exact (if_pos hsafe).trans (if_pos hs)
  · have htakes := ht.resolve_right (by simp [hsafe])
    rw [resetCommand, if_neg (by simp [hsafe]), rstCommand_permitted hs htakes]

/-- OPT_WRITE, read back as written, replaces the copy that is not in force. -/
theorem opOptWrite_writes (ht : s.takes .rst stRst fn.val = true) :
    opOptWrite (ownWin fn) true s = post Ev.RST_OPT_WRITTEN 0 (completeOk stRst (ownWin fn)
      (flashWrite (if s.sh F.RST_STATUS_OPT_SRC = 1 then 0x1000 else 0) (optCopy s (s.sh F.RST_OPT_SEQ + 1)) s)) := by
  rw [opOptWrite, rstCommand_permitted hs ht]
  refine (if_pos rfl).trans ?_
  split
  · rfl
  · rfl

theorem opClearStuck_clears (ht : s.takes .rst stRst fn.val = true) :
    opClearStuck (ownWin fn) s = completeOk stRst (ownWin fn) (s.wr 0 F.RST_BAT_STATUS_STUCK_RESET 0) := rstCommand_permitted hs ht _

end

end

/-- Settles O45: each reset by its source and kind, PERST_N by PERST_MODE, and the other commands of RST. -/
theorem resetCommands : Obligations.ResetCommands := by
  unfold Obligations.ResetCommands
  refine ⟨?power, ?assert, ?ignored, ?release, ?stuck, ?clearCount, ?perst, ?perstLink, ?cold, ?warm, ?optWrite, ?clearStuck⟩
  case power => exact fun s => ⟨by rw [exec_powerOnReset]; rfl, by rw [exec_powerOnReset]; rfl⟩
  case assert => exact fun s hpin hstuck => by rw [exec_resetNAssert, resetNAssert_resets hpin hstuck]
  case ignored => exact fun s h => by rw [exec_resetNAssert, resetNAssert_ignored h]
  case release => exact fun heldMs s hpin => by rw [exec_resetNRelease, resetNRelease_releases _ hpin]
  case stuck => exact fun heldMs s hpin hmode => by rw [exec_stuckRelease, stuckRelease_resets _ hpin hmode]
  case clearCount => exact fun s => rfl
  case perst => exact fun s hpin hdeep hmode => by rw [exec_perstN, perstN_resets hpin hdeep hmode]
  case perstLink => exact fun s hpin hdeep hmode => by rw [exec_perstN, perstN_linkDown hpin hdeep hmode, exec_pcieLinkDown]
  case cold => exact fun fn s ht hs => by rw [exec_rstColdReset, opColdReset, resetCommand_permitted hs ht]
  case warm => exact fun fn s ht hs => by rw [exec_rstWarmReset, opWarmReset, resetCommand_permitted hs ht]
  case optWrite => exact fun fn s ht hs => by rw [exec_rstOptWrite, opOptWrite_writes hs ht]
  case clearStuck => exact fun fn s ht hs => by rw [exec_rstClearStuck, opClearStuck_clears hs ht]

end Sys2Proof.Machine
end

section
/-! PROOFS. The governor, deep states and wake sources (R552 to R557, R596). -/

namespace Sys2Proof.Machine

/-! ### The rows, by operation -/

theorem exec_governorDecision (idle : IdleEngines) (s : State) : exec (.governorDecision idle) s = .next (governor idle s) := rfl
theorem exec_engineWake (k : EngKind) (s : State) : exec (.engineWake k) s = .next (engineWake k s) := rfl
theorem exec_pwrEnter (fn : Fn) (s : State) : exec (.pwrEnter fn) s = .next (opPwrEnter (ownWin fn) s) := rfl
theorem exec_wakeEvent (source : Fin 5) (s : State) : exec (.wakeEvent source) s = .next (wakeUp (source.val + 1) s) := rfl

section
variable {s : State}

/-! ### The governor (R552 to R554) -/

/-- May the governor choose P1, given its free choice? -/
def mayP1 (s : State) (pick : Nat) : Bool := !forcedP0 s && decide (26 ≤ leastTol s) && bitOf pick 16

/-- A group is in RETENTION as the tolerance of the state s and the choice among the groups let it. -/
def retainGroup (s : State) (pick g : Nat) (t : State) : State :=
  t.wr 0 (F.SHM_GRP_STATUS_RETENTION g)
    (b2n (!forcedP0 s && decide (2000 ≤ leastTol s) && mayRetain t g && (t.sh (F.SHM_GRP_STATUS_RETENTION g) == 1 || bitOf pick g)))

/-- What a decision of the governor makes of a state, with its free choice and the state after the choice. -/
def governed (idle : IdleEngines) (pick : Nat) (s t : State) : State :=
  let shown := t.wr 0 F.PWR_STATUS_FORCED (b2n (forcedP0 s))
  let engines := setPwrState (b2n (mayP1 s pick)) (setGated (if mayP1 s pick then stoppedEng shown idle else []) shown)
  each gateable tryGate (each (List.range 16) (retainGroup s pick) engines)

theorem governor_decides (idle : IdleEngines) (hdone : s.sh F.RST_STATUS_PROOF_DONE = 1) (hdeep : s.pwr.deep = 0) :
    governor idle s = governed idle (s.free 17).1 s (s.free 17).2 :=
  if_neg (by simp [hdone, hdeep])

theorem engineWake_stopped {k : EngKind} (h : gatedEng s k ≠ 0) :
    engineWake k s = setGated (s.pwr.gated.map fun e => if e.1 == k then (e.1, e.2 - 1) else e) s := if_neg h

theorem engineWake_running {k : EngKind} (h : gatedEng s k = 0) : engineWake k s = s := if_pos h

/-! ### ENTER (R556) -/

section
variable {fn : Fn} (ht : s.takes .pwr stPwr fn.val = true) (hs : s.secureSt fn.val = true)
include ht hs

theorem opPwrEnter_enters (hc : enterCause s (s.rd (fn.val + 1) F.PWR_ARG) = none) :
    opPwrEnter (ownWin fn) s = enterDeep (s.rd (fn.val + 1) F.PWR_ARG) (completeOk stPwr (ownWin fn) s) := by
  rw [opPwrEnter, command_takes _ _ _ (ownWin fn) _ _ rfl ht, if_neg (by simp [show s.secureSt (ownWin fn).fn = true from hs])]
  dsimp only
  rw [show enterCause s (s.rd (ownWin fn).c F.PWR_ARG) = none from hc]

theorem opPwrEnter_refused {c : Nat} (hc : enterCause s (s.rd (fn.val + 1) F.PWR_ARG) = some c) :
    opPwrEnter (ownWin fn) s = refuse stPwr (ownWin fn) c s := by
  rw [opPwrEnter, command_takes _ _ _ (ownWin fn) _ _ rfl ht, if_neg (by simp [show s.secureSt (ownWin fn).fn = true from hs])]
  dsimp only
  rw [show enterCause s (s.rd (ownWin fn).c F.PWR_ARG) = some c from hc]

end

/-! ### Wake sources (R557) -/

/-- The state with the cause of a wake in PWR_WAKE_CAUSE. -/
def wakeCaused (source : Nat) (s : State) : State :=
  (s.wr 0 F.PWR_WAKE_CAUSE_CAUSE (source + 1)).wr 0 F.PWR_WAKE_CAUSE_FROM s.pwr.deep

section
variable {source : Nat} (hen : bitOf (s.sh F.PWR_WAKE_CFG) source = true)
include hen

/-- An enabled source other than the wake tick ends P3 and P4 by a reset. -/
theorem wakeUp_from3 (hdeep : s.pwr.deep = 3) (hsrc : source ≠ 4) : wakeUp (source + 1) s = chipReset 8 .wake3 (wakeCaused source s) := by
  rw [wakeUp]
  dsimp only
  rw [if_neg (by simp [hdeep, hen, hsrc]), if_pos hdeep]
  rfl

theorem wakeUp_from4 (hdeep : s.pwr.deep = 4) (hsrc : source ≠ 4) : wakeUp (source + 1) s = chipReset 9 .power (wakeCaused source s) := by
  rw [wakeUp]
  dsimp only
  rw [if_neg (by simp [hdeep, hen, hsrc]), if_neg (by simp [hdeep]), if_pos hdeep]
  rfl

end

theorem wakeUp_ignored {source : Nat} (h : s.pwr.deep = 0 ∨ bitOf (s.sh F.PWR_WAKE_CFG) source = false) : wakeUp (source + 1) s = s := by
  refine if_pos ?_
  obtain h | h := h
  · exact .inl h
  · exact .inr (.inl h)

/-- The device comes back from P2 with the ports that were enabled. -/
def wokenFrom2 (source : Nat) (ports : List Nat) (s : State) : State :=
  let t := mateStep .other (syncClaim (each ports portOn { s with pwr := { s.pwr with deep := 0, ports := [] } }))
  let t := if t.sh F.MATE_CTRL_MATE_EN = 0 ∧ t.safe = false then setSharedDrive true t else t
  post Ev.PWR_WOKE (source + 1) (setPwrState 0 t)

/-- An enabled source ends P2 without a reset; the wake tick does so once FRC has reached it. -/
theorem wakeUp_from2 {source : Nat} (hdeep : s.pwr.deep = 2) (hen : bitOf (s.sh F.PWR_WAKE_CFG) source = true)
    (hdue : source ≠ 4 ∨ s.rd64 0 F.PWR_WAKE_FRC_LO F.PWR_WAKE_FRC_HI ≤ s.frc) :
    wakeUp (source + 1) s = wokenFrom2 source s.pwr.ports (wakeCaused source s) := by
  rw [wakeUp]
  dsimp only
  rw [if_neg (by simpa [hdeep, hen, imp_iff_not_or] using hdue), if_neg (by simp [hdeep]), if_neg (by simp [hdeep])]
  simp only [onlyIf, Bool.and_eq_true, beq_iff_eq, Bool.not_eq_true']
  rfl

end

/-- Settles O47: the governor's decision, engine wakes, ENTER by its first cause, and the wake sources from each deep state. -/
theorem powerCommands : Obligations.PowerCommands := by
  unfold Obligations.PowerCommands
  refine ⟨?governor, ?wake, ?running, ?enter, ?refused, ?from3, ?from4, ?from2, ?ignored⟩
  case governor =>
    exact fun idle s hdone hdeep => by
      rw [exec_governorDecision, governor_decides idle hdone hdeep]
      rfl
  case wake => exact fun k s h => by rw [exec_engineWake, engineWake_stopped h]
  case running => exact fun k s h => by rw [exec_engineWake, engineWake_running h]
  case enter => exact fun fn s ht hs hc => by rw [exec_pwrEnter, opPwrEnter_enters ht hs hc]
  case refused => exact fun fn c s ht hs hc => by rw [exec_pwrEnter, opPwrEnter_refused ht hs hc]
  case from3 =>
    exact fun source s hdeep hsrc hen => by
      rw [exec_wakeEvent, wakeUp_from3 hen hdeep hsrc]
      rfl
  case from4 =>
    exact fun source s hdeep hsrc hen => by
      rw [exec_wakeEvent, wakeUp_from4 hen hdeep hsrc]
      rfl
  case from2 =>
    exact fun source s hdeep hen hdue => by
      rw [exec_wakeEvent, wakeUp_from2 hdeep hen hdue]
      rfl
  case ignored => exact fun source s h => by rw [exec_wakeEvent, wakeUp_ignored h]

end Sys2Proof.Machine
end

section
/-! PROOFS. The HIF window: the protection table (R493, R494, R506), COPY, secure use and power requests (R506, R513, R514, R555), and the packet
rings and interrupt intervals (R507, R508, R511). -/

namespace Sys2Proof.Machine

/-! ### The rows, by operation -/

theorem exec_hifNop (fn : Fn) (s : State) : exec (.hifNop fn) s = .next (opHifNop (ownWin fn) s) := rfl
theorem exec_ptWrite (fn : Fn) (s : State) : exec (.ptWrite fn) s = .next (opPtWrite (ownWin fn) s) := rfl
theorem exec_ptRead (fn : Fn) (s : State) : exec (.ptRead fn) s = .next (opPtRead (ownWin fn) s) := rfl
theorem exec_ptCommit (fn : Fn) (s : State) : exec (.ptCommit fn) s = .next (opPtCommit (ownWin fn) s) := rfl
theorem exec_ptAbort (fn : Fn) (s : State) : exec (.ptAbort fn) s = .next (opPtAbort (ownWin fn) s) := rfl
theorem exec_ptCommitDrained (s : State) : exec .ptCommitDrained s = .next (ptDrained s) := rfl
theorem exec_hifCopy (fn : Fn) (s : State) : exec (.hifCopy fn) s = .next (opHifCopy (ownWin fn) s) := rfl
theorem exec_suHold (fn : Fn) (s : State) : exec (.suHold fn) s = .next (opSuHold (ownWin fn) s) := rfl
theorem exec_suRelease (fn : Fn) (s : State) : exec (.suRelease fn) s = .next (opSuRelease (ownWin fn) s) := rfl
theorem exec_pwrReq (fn : Fn) (s : State) : exec (.pwrReq fn) s = .next (opPwrReq (ownWin fn) s) := rfl
theorem exec_txDescriptor (s : State) : exec .txDescriptor s = .next (txDescriptor s) := rfl
theorem exec_txCompletion (s : State) : exec .txCompletion s = .next (txCompletion s) := rfl
theorem exec_rxDelivery (s : State) : exec .rxDelivery s = .next (rxDelivery s) := rfl
theorem exec_irqIntervalEnd (fn : Fn) (vector : Fin 32) (s : State) :
    exec (.irqIntervalEnd fn vector) s = .next (irqIntervalEnd fn.val vector.val s) := rfl

section
variable {fn : Fn} {s : State} (ht : s.takes .hif stHif fn.val = true)
include ht

/-- An operation that the window takes, from a function that may give it, runs its body. -/
theorem hifCommand_permitted {auth : State → Bool} (body : State → State) (hauth : auth s = true) :
    hifCommand (ownWin fn) auth body s = body s := by
  rw [hifCommand, command_takes _ _ _ (ownWin fn) _ _ rfl ht]
  exact if_pos hauth

/-! ### The protection table (R493, R494) -/

theorem opHifNop_completes : opHifNop (ownWin fn) s = completeOk stHif (ownWin fn) s := hifCommand_permitted ht _ rfl

section
variable (hs : s.secureSt fn.val = true)
include hs

/-- The eight data words of the window go into the selected entry of the shadow table. -/
theorem opPtWrite_writes (hsel : s.rd (fn.val + 1) F.HIF_W_SEL < 4096) (hdrain : drainWaits s = false) (hheld : rsHoldsTable s = false) :
    opPtWrite (ownWin fn) s = completeOk stHif (ownWin fn)
      (ptPut (s.rd (fn.val + 1) F.HIF_W_SEL) ((List.range 8).map fun i => leBytes 4 (s.rd (fn.val + 1) (F.HIF_W_DATA i))).flatten s) := by
  rw [opPtWrite, hifCommand_permitted ht _ hs]
  exact if_neg (by simp [hsel, hdrain, hheld])

/-- The entry that PT_READ shows: of the active table where ARG bit 0 is 1, otherwise of the shadow. -/
def ptEntryShown (c : Nat) (s : State) : Octets :=
  tgetD (if bitOf (s.rd c (F.HIF_W_ARG 0)) 0 then s.hif.ptActive else s.hif.ptShadow) (s.rd c F.HIF_W_SEL) (zeros 32)

theorem opPtRead_shows (hsel : s.rd (fn.val + 1) F.HIF_W_SEL < 4096) :
    opPtRead (ownWin fn) s = completeOk stHif (ownWin fn)
      (each (List.range 8) (fun i t => t.wr (fn.val + 1) (F.HIF_W_DATA i) (ofLe (slice (ptEntryShown (fn.val + 1) s) (4 * i) 4))) s) := by
  rw [opPtRead, hifCommand_permitted ht _ hs]
  exact if_neg (Nat.not_le.2 hsel)

section
variable (hdrain : drainWaits s = false)
include hdrain

theorem opPtCommit_completes (harg : bitOf (s.rd (fn.val + 1) (F.HIF_W_ARG 0)) 0 = false) :
    opPtCommit (ownWin fn) s
      = completeOk stHif (ownWin fn) ((ptCommit s).wr (fn.val + 1) F.HIF_W_RES0 ((ptCommit s).sh F.HIF_EPOCH)) := by
  rw [opPtCommit, hifCommand_permitted ht _ hs, if_neg (by simp [hdrain])]
  exact if_neg (by simp [harg])

/-- With DRAIN the commit waits for the requests of older epochs. -/
theorem opPtCommit_drains (harg : bitOf (s.rd (fn.val + 1) (F.HIF_W_ARG 0)) 0 = true) :
    opPtCommit (ownWin fn) s
      = accept .hif stHif (ownWin fn) hifOpCommit 0 ((ptCommit s).wr (fn.val + 1) F.HIF_W_RES0 ((ptCommit s).sh F.HIF_EPOCH)) := by
  rw [opPtCommit, hifCommand_permitted ht _ hs, if_neg (by simp [hdrain])]
  exact if_pos harg

theorem opPtAbort_aborts (hheld : rsHoldsTable s = false) :
    opPtAbort (ownWin fn) s = completeOk stHif (ownWin fn) { s with hif := { s.hif with ptShadow := s.hif.ptActive } } := by
  rw [opPtAbort, hifCommand_permitted ht _ hs]
  exact if_neg (by simp [hdrain, hheld])

end

end

end

/-- A commit that drains completes once no buffer is held under another epoch than its own. -/
theorem ptDrained_completes {d : Req} {s : State} (hmem : d ∈ s.reqs) (hblk : d.blk = .hif) (hop : d.op = hifOpCommit)
    (hclear : s.reqs.all (fun r => !(holdsBuffer r && r.ep != d.ep)) = true) : ptDrained s = finish .hif hifOpCommit 0 Code.ok 0 s := by
  have hdue : (s.reqs.any fun r => holdsBuffer r && r.ep != d.ep) = false := by rw [List.any_eq_not_all_not, hclear]; rfl
  exact if_pos (List.any_eq_true.2 ⟨d, hmem, by simp [hblk, hop, hdue]⟩)

/-- Settles O39: NOP and the PT commands of a window that takes them, and the end of a commit that drains. -/
theorem protectionTableCommands : Obligations.ProtectionTableCommands := by
  unfold Obligations.ProtectionTableCommands
  refine ⟨?nop, ?write, ?read, ?commit, ?drain, ?abort, ?drained⟩
  case nop => exact fun fn s ht => by rw [exec_hifNop, opHifNop_completes ht]
  case write => exact fun fn s ht hs hsel hdrain hheld => by rw [exec_ptWrite, opPtWrite_writes ht hs hsel hdrain hheld]
  case read =>
    exact fun fn s ht hs hsel => by
      rw [exec_ptRead, opPtRead_shows ht hs hsel]
      rfl
  case commit => exact fun fn s ht hs hdrain harg => by rw [exec_ptCommit, opPtCommit_completes ht hs hdrain harg]
  case drain => exact fun fn s ht hs hdrain harg => by rw [exec_ptCommit, opPtCommit_drains ht hs hdrain harg]
  case abort => exact fun fn s ht hs hdrain hheld => by rw [exec_ptAbort, opPtAbort_aborts ht hs hdrain hheld]
  case drained => exact fun d s hmem hblk hop hclear => by rw [exec_ptCommitDrained, ptDrained_completes hmem hblk hop hclear]

/-! ### COPY (R506) -/

/-- The address in two argument words of a HIF window. -/
def hifAddr (s : State) (c j : Nat) : Nat := s.rd c (F.HIF_W_ARG j) + 2 ^ 32 * s.rd c (F.HIF_W_ARG (j + 1))

/-- A COPY from host memory to SHM of which every word may be written moves all its octets. -/
theorem opHifCopy_moves {fn : Fn} {s : State} {src dst n : Nat} (ht : s.takes .hif stHif fn.val = true)
    (hsrc : hifAddr s (fn.val + 1) 0 = src) (hdst : hifAddr s (fn.val + 1) 2 = dst) (hn : s.rd (fn.val + 1) (F.HIF_W_ARG 4) = n)
    (hpos : 1 ≤ n) (hmax : n ≤ 1048576) (hhost : addrIsShm src = false) (hshm : addrIsShm dst = true) (hform : addrWellFormed dst = true)
    (hperm : shmPermitted s fn.val (dst % 2 ^ 32) n permW = true) (hreach : copyReach s (dst % 2 ^ 32) n false = (n, Code.ok)) :
    opHifCopy (ownWin fn) s = complete stHif (ownWin fn) Code.ok 0
      ((dmaWrite fn.val dst (s.memRead fn.val src n) (count Ct.HIF_RX_BYTES fn.val n s)).wr (fn.val + 1) F.HIF_W_RES0 n) := by
  have hsrc' : s.rd (ownWin fn).c (F.HIF_W_ARG 0) + 2 ^ 32 * s.rd (ownWin fn).c (F.HIF_W_ARG 1) = src := hsrc
  have hdst' : s.rd (ownWin fn).c (F.HIF_W_ARG 2) + 2 ^ 32 * s.rd (ownWin fn).c (F.HIF_W_ARG 3) = dst := hdst
  have hn' : s.rd (ownWin fn).c (F.HIF_W_ARG 4) = n := hn
  have hperm' : shmPermitted s (ownWin fn).fn (dst % 2 ^ 32) n permW = true := hperm
  have hne : (n != 0) = true := by simp; omega
  rw [opHifCopy, hifCommand_permitted ht _ rfl]
  simp only [hsrc', hdst', hn', hhost, Bool.false_eq_true, if_false]
  rw [hshm, hform, hperm', if_neg (by simp; omega), hreach]
  simp only [hne]
  rfl

/-! ### Secure use and power requests (R513, R514) -/

section
variable {fn : Fn} {s : State} {b : Nat} (ht : s.takes .hif stHif fn.val = true) (hsel : s.rd (fn.val + 1) F.HIF_W_SEL = b)
include ht hsel

section
variable (hs : s.secureSt fn.val = true) (hb : b < 24)
include hs hb

theorem opSuHold_holds (hroom : s.sh (F.HIF_SU_COUNT b) ≠ 0xFFFF) (hon : s.gated b = false) :
    opSuHold (ownWin fn) s = suHeld (ownWin fn) b s := by
  subst hsel
  rw [opSuHold, hifCommand_permitted ht _ hs]
  dsimp only
  rw [if_neg (by simp [hroom, hb]), if_neg (by simp [hon])]

/-- A release that leaves secure use lowers the count. -/
theorem opSuRelease_lowers (hn : 1 < s.sh (F.HIF_SU_COUNT b)) :
    opSuRelease (ownWin fn) s = completeOk stHif (ownWin fn)
      ((s.wr 0 (F.HIF_SU_COUNT b) (s.sh (F.HIF_SU_COUNT b) - 1)).wr (fn.val + 1) F.HIF_W_RES0 (s.sh (F.HIF_SU_COUNT b) - 1)) := by
  subst hsel
  have hlast : (s.sh (F.HIF_SU_COUNT (s.rd (ownWin fn).c F.HIF_W_SEL)) == 1) = false := by
    rw [beq_eq_false_iff_ne]
    exact Nat.ne_of_gt hn
  rw [opSuRelease, hifCommand_permitted ht _ hs]
  dsimp only
  rw [if_neg (by omega), hlast]
  rfl

/-- The last release applies the requests that waited. -/
theorem opSuRelease_applies (hn : s.sh (F.HIF_SU_COUNT b) = 1) :
    opSuRelease (ownWin fn) s = completeOk stHif (ownWin fn)
      (applyDeferred b ((s.wr 0 (F.HIF_SU_COUNT b) 0).wr (fn.val + 1) F.HIF_W_RES0 0)) := by
  subst hsel
  have hcount : s.sh (F.HIF_SU_COUNT (s.rd (ownWin fn).c F.HIF_W_SEL)) = 1 := hn
  rw [opSuRelease, hifCommand_permitted ht _ hs]
  dsimp only
  rw [hcount, if_neg (by omega)]
  rfl

end

/-- A request for a gateable block is kept, and waits where it would gate a block in secure use. -/
theorem opPwrReq_records {req : Nat} {late : Bool} (htenant : tenant0 fn.val = true) (hgate : (gateable.any fun k => k.code == b) = true)
    (hreq : s.rd (fn.val + 1) (F.HIF_W_ARG 0) % 4 = req) (hkind : req ≠ 3) (hlate : (req == 2 && s.sh (F.HIF_SU_COUNT b) != 0) = late) :
    opPwrReq (ownWin fn) s
      = complete stHif (ownWin fn) (if late then Code.deferred else Code.ok) 0 (setPwrReq fn.val b req late s) := by
  subst hsel hreq hlate
  rw [opPwrReq, hifCommand_permitted ht _ htenant]
  refine if_neg ?_
  rintro (h | h)
  · exact Bool.false_ne_true (h.symm.trans hgate)
  · exact hkind h

end

/-- Settles O40: COPY from host memory, the secure-use counts and the power requests (that the SHM door is not looked at is the
model's choice, assumption 147). -/
theorem hostMoveCommands : Obligations.HostMoveCommands := by
  unfold Obligations.HostMoveCommands
  refine ⟨?copy, ?hold, ?lower, ?last, ?request⟩
  case copy =>
    exact fun fn s ht hpos hmax hhost hshm hform hperm hreach => by
      rw [exec_hifCopy, opHifCopy_moves ht rfl rfl rfl hpos hmax hhost hshm hform hperm hreach]
      rfl
  case hold => exact fun fn s ht hs hb hroom hon => by rw [exec_suHold, opSuHold_holds ht rfl hs hb hroom hon]
  case lower => exact fun fn s ht hs hb hn => by rw [exec_suRelease, opSuRelease_lowers ht rfl hs hb hn]
  case last => exact fun fn s ht hs hb hn => by rw [exec_suRelease, opSuRelease_applies ht rfl hs hb hn]
  case request =>
    exact fun fn s ht htenant hgate hkind => by rw [exec_pwrReq, opPwrReq_records ht rfl htenant hgate rfl hkind rfl]

/-! ### Packet rings (R507, R508) and interrupt intervals (R511) -/

section
variable {s : State}

theorem txDescriptor_offers {h : HostTag} {d : Octets} {l : List (HostTag × Octets)} (hq : s.hif.txq = (h, d) :: l) :
    txDescriptor s = if ringLive s h.fn h.r h.en = true then offerDescriptor h d { s with hif := { s.hif with txq := l } }
      else { s with hif := { s.hif with txq := l } } := by
  rw [txDescriptor, hq]

/-- The record of a transmit completion (Table 18.6). -/
def txRecord (h : HostTag) (code cause frc : Nat) : Octets := oct [0, code, cause, 0] ++ leBytes 4 h.idx ++ leBytes 8 frc

theorem txCompletion_writes {h : HostTag} {code cause frc : Nat} {l : List (HostTag × Nat × Nat × Nat)}
    (hq : s.hif.txDone = (h, code, cause, frc) :: l) :
    txCompletion s = if ringLive s h.fn h.r h.en = true then
        cqWrite h.fn h.r false (txRecord h code cause frc) { s with hif := { s.hif with txDone := l } }
      else { s with hif := { s.hif with txDone := l } } := by
  rw [txCompletion, hq]
  rfl

section
variable {x : RxFrame} {l : List RxFrame} (hq : s.hif.rxq = x :: l)
include hq

theorem rxDelivery_drops (hlive : ringLive s x.tag.fn x.tag.r x.tag.en = false) :
    rxDelivery s = count Ct.HIF_RX_DROP x.tag.fn 1 { s with hif := { s.hif with rxq := l } } := by
  rw [rxDelivery, hq]
  exact if_pos (by simp [hlive])

/-- The descriptor of the buffer that a received frame takes. -/
def rxDescriptor (s : State) (h : HostTag) : Octets := s.memRead h.fn (sqBase s h.fn h.r + 16 * (h.idx % ringEntries s h.fn h.r)) 16

/-- The record of a frame that was put into its buffer. -/
def rxRecord (x : RxFrame) : Octets :=
  oct [0, Code.ok, 0, x.src] ++ leBytes 4 x.tag.idx ++ leBytes 2 x.octets.length ++ oct [x.errs, 0] ++ leBytes 4 x.seq ++ leBytes 8 x.frc

/-- A frame that its buffer holds is written there, and its completion after it. -/
theorem rxDelivery_delivers {a : Nat} (hlive : ringLive s x.tag.fn x.tag.r x.tag.en = true)
    (haddr : ofLe (slice (rxDescriptor s x.tag) 0 8) = a) (hfit : x.octets.length ≤ ofLe (slice (rxDescriptor s x.tag) 8 2))
    (hown : ownsBuf s x.tag.fn a x.octets.length = true) :
    rxDelivery s = cqWrite x.tag.fn x.tag.r false (rxRecord x)
      (dmaWrite x.tag.fn a x.octets ({ s with hif := { s.hif with rxq := l } }.wr (x.tag.fn + 1) (F.HIF_SQ_HEAD x.tag.r) (x.tag.idx + 1))) := by
  subst haddr
  unfold rxDescriptor at hfit hown
  rw [rxDelivery, hq]
  dsimp only
  rw [if_neg (by simpa using hlive), if_neg (Nat.not_lt.2 hfit), hown]
  rfl

end

theorem irqIntervalEnd_sends {fn v : Nat} {w : Vec} (hv : tget s.vecs (fn * 32 + v) = some w) (hwait : w.waiting = true)
    (hdue : w.until_ ≤ s.frc) : irqIntervalEnd fn v s = sendVec fn v (itrOf s fn v) s := by
  rw [irqIntervalEnd, hv]
  exact if_pos (by simp [hwait, hdue])

end

/-- Settles O41: the oldest entry of each queue by whether its ring is live (partly the model's choice, assumption 154), and the
condition that waited for its interval. -/
theorem packetRingCommands : Obligations.PacketRingCommands := by
  unfold Obligations.PacketRingCommands
  refine ⟨?descriptor, ?completion, ?dropped, ?delivered, ?interval⟩
  case descriptor => exact fun h d l s hq => by rw [exec_txDescriptor, txDescriptor_offers hq]
  case completion =>
    exact fun h code cause frc l s hq => by
      rw [exec_txCompletion, txCompletion_writes hq]
      rfl
  case dropped => exact fun x l s hq hlive => by rw [exec_rxDelivery, rxDelivery_drops hq hlive]
  case delivered =>
    exact fun x l s hq hlive hfit hown => by
      rw [exec_rxDelivery, rxDelivery_delivers hq hlive rfl hfit hown]
      rfl
  case interval =>
    exact fun fn vector w s hv hwait hdue => by rw [exec_irqIntervalEnd, irqIntervalEnd_sends hv hwait hdue]

end Sys2Proof.Machine
end

section
/-! PROOFS. The host rings: doorbells, fetching, commands and completions (R497 to R504); and the accesses that the HIF answers by itself, function
resets and the PCIe link (R492, R512, R515 to R517, R547, R602). -/

namespace Sys2Proof.Machine

/-! ### The rows, by operation -/

theorem exec_ringFetch (s : State) : exec .ringFetch s = .next (ringFetch s) := rfl
theorem exec_ringCommand (fn : Fn) (ring : Fin 16) (s : State) : exec (.ringCommand fn ring) s = .next (ringCommand fn.val ring.val s) := rfl
theorem exec_ringCompletion (slot : Fin 4096) (s : State) : exec (.ringCompletion slot) s = .next (ringCompletion slot.val s) := rfl
theorem exec_mmioShmAccess (fn : Fn) (addr : BitVec 28) (act : MmioAct) (s : State) :
    exec (.mmioShmAccess fn addr act) s = .next (mmioShm fn.val addr.toNat act s) := rfl
theorem exec_mmioMalformed (fn : Fn) (addr : BitVec 19) (write : Bool) (s : State) :
    exec (.mmioMalformed fn addr write) s = .next (mmioMalformed fn.val addr.toNat write s) := rfl
theorem exec_mmioReadRefused (fn : Fn) (addr : BitVec 19) (s : State) :
    exec (.mmioReadRefused fn addr) s = .next (mmioReadRefused fn.val addr.toNat s) := rfl
theorem exec_pcieLinkUp (speed : Fin 5) (width : Fin 4) (vfs : Fin 512) (ltr : Bool) (s : State) :
    exec (.pcieLinkUp speed width vfs ltr) s = .next (linkUp speed.val width.val vfs.val ltr s) := rfl

/-- A doorbell of a function whose writes reach the HIF. -/
theorem exec_sqDoorbell {fn : Fn} {s : State} (ring : Fin 16) (value : BitVec 32) (ht : s.takesWrite .hif fn.val = true) :
    exec (.sqDoorbell fn ring value) s = .next (opDoorbell fn.val ring.val value.toNat s) :=
  congrArg _ (writeAtDoor_takes _ _ _ _ _ ht)

/-- A write of LAT_TOL that reaches the HIF. -/
theorem exec_hifLatTolWrite {fn : Fn} {s : State} (value : BitVec 32) (ht : s.takesWrite .hif fn.val = true) :
    exec (.hifLatTolWrite fn value) s = .next (opLatTol fn.val value.toNat s) :=
  congrArg _ (writeAtDoor_takes _ _ _ _ _ ht)

/-! ### Doorbells (R497) -/

section
variable {fn r v : Nat} {s : State} (hr : r < pairsOf fn)
include hr

theorem opDoorbell_takes (hv : wsub 32 v (s.rd (fn + 1) (F.HIF_SQ_HEAD r)) ≤ ringEntries s fn r) :
    opDoorbell fn r v s = s.wr (fn + 1) (F.HIF_SQ_TAIL r) v := by
  rw [opDoorbell, if_neg (Nat.not_le.2 hr), if_neg (Nat.not_lt.2 hv)]

theorem opDoorbell_refuses (hv : ringEntries s fn r < wsub 32 v (s.rd (fn + 1) (F.HIF_SQ_HEAD r))) :
    opDoorbell fn r v s = postTo Ev.HIF_RING_ERR fn r s := by
  rw [opDoorbell, if_neg (Nat.not_le.2 hr), if_pos hv]

end

/-! ### Fetching (R497, R498) -/

section
variable {s : State}

theorem ringFetch_idle (hn : nextRing s = none) : ringFetch s = s := by rw [ringFetch, hn]

/-- Ring k was served: its head is past the record, and the record's completion slot is reserved. -/
def ringServed (k : Nat) (s : State) : State :=
  let t := { s.wr (k / 16 + 1) (F.HIF_SQ_HEAD (k % 16)) (s.rd (k / 16 + 1) (F.HIF_SQ_HEAD (k % 16)) + 1) with hif := { s.hif with served := k } }
  t.wr (k / 16 + 1) (F.HIF_RING_STATUS_INFLIGHT (k % 16)) (t.rd (k / 16 + 1) (F.HIF_RING_STATUS_INFLIGHT (k % 16)) + 1)

/-- The address of the record at a ring's head. -/
def recordAddr (s : State) (k : Nat) : Nat :=
  sqBase s (k / 16) (k % 16) + sqOctets (ringKind s (k / 16) (k % 16)) * (s.rd (k / 16 + 1) (F.HIF_SQ_HEAD (k % 16)) % ringEntries s (k / 16) (k % 16))

/-- A ring in SHM gives the record at its head, where that is not poisoned. -/
theorem ringFetch_fetches {k a n : Nat} (hn : nextRing s = some k) (ha : recordAddr s k = a) (hlen : sqOctets (ringKind s (k / 16) (k % 16)) = n)
    (hshm : addrIsShm a = true) (hclean : s.shmPoisoned (a % 2 ^ 32) n = false) :
    ringFetch s = fetched ⟨k / 16, k % 16, s.rd (k / 16 + 1) (F.HIF_SQ_HEAD (k % 16)), tgetD s.hif.ringEn k 0⟩ (ringKind s (k / 16) (k % 16))
      (s.memRead (k / 16) a n) (ringServed k s) := by
  subst ha hlen
  unfold recordAddr at hshm
  rw [ringFetch, hn]
  dsimp only
  rw [hshm]
  refine Eq.trans (if_neg ?_) ?_
  · exact fun h => Bool.false_ne_true (hclean.symm.trans h)
  · rfl

/-! ### Commands (R502, R503) -/

/-- The commands in flight of a ring. -/
def ringCmds (s : State) (fn r : Nat) : List RingCmd := s.hif.cmds.filter fun c => c.tag.fn == fn && c.tag.r == r

theorem ringCommand_presents {fn r : Nat} {c : RingCmd} (hnext : (ringCmds s fn r).find? (fun c => !c.started) = some c)
    (hfree : recOrdered c.octets = false)
    (hbefore : ((ringCmds s fn r).takeWhile (fun c => c.started)).all (fun x => !recOrdered x.octets || (cmdOutcome s x).isSome) = true) :
    ringCommand fn r s = present c s := by
  have hbool : ∀ ordered ended : Bool, (!ordered || ended) = true → (ordered && !ended) = false := by decide
  have hended : ∀ x ∈ (ringCmds s fn r).takeWhile (fun c => c.started), (recOrdered x.octets && !(cmdOutcome s x).isSome) = false :=
    fun x hx => hbool _ _ (List.all_eq_true.1 hbefore x hx)
  unfold ringCmds at hnext hended
  rw [ringCommand]
  dsimp only
  rw [hnext]
  refine if_neg ?_
  rw [hfree, Bool.false_and, Bool.false_or, List.any_eq_true]
  rintro ⟨x, hx, hwaits⟩
  exact Bool.false_ne_true ((hended x hx).symm.trans hwaits)

/-! ### Completions (R504) -/

/-- The command on an instance has left it. -/
def instanceFreed (n : Nat) (s : State) : State :=
  let t := clearCopy (1024 + n) s
  syncInflight { t with hif := { t.hif with cmds := t.hif.cmds.filter fun y => y.slot != n, doneAt := tdel t.hif.doneAt (1024 + n) } }

/-- A command that the HIF completed, of a ring that lives, gets its record without a result. -/
theorem ringCompletion_writes {n code cause tick : Nat} {c : RingCmd} (hc : s.hif.cmds.find? (fun c => c.slot == n) = some c)
    (hout : cmdOutcome s c = some (code, cause, tick)) (hdone : c.done ≠ none) (hlive : ringLive s c.tag.fn c.tag.r c.tag.en = true)
    (hdead : c.dead = false) :
    ringCompletion n s = cqWrite c.tag.fn c.tag.r (recIrq c.octets) (completionRecord c code cause tick []) (instanceFreed n s) := by
  obtain ⟨d, hd⟩ := Option.ne_none_iff_exists'.1 hdone
  rw [ringCompletion, hc]
  dsimp only
  rw [hout]
  dsimp only
  rw [hd, hlive, hdead]
  rfl

end

/-- Settles O38: doorbells by how far ahead the tail is (that EN is not looked at is the model's choice, assumption 153), the fetch of
the ring whose turn it is (whose order is the model's choice, assumption 155), and the commands and completions of a ring. -/
theorem ringCommands : Obligations.RingCommands := by
  unfold Obligations.RingCommands
  refine ⟨?taken, ?refused, ?idle, ?fetch, ?command, ?completion⟩
  case taken => exact fun fn ring value s ht hr hv => by rw [exec_sqDoorbell ring value ht, opDoorbell_takes hr hv]
  case refused => exact fun fn ring value s ht hr hv => by rw [exec_sqDoorbell ring value ht, opDoorbell_refuses hr hv]
  case idle => exact fun s hn => by rw [exec_ringFetch, ringFetch_idle hn]
  case fetch =>
    exact fun k s hn hshm hclean => by
      rw [exec_ringFetch, ringFetch_fetches hn rfl rfl hshm hclean]
      rfl
  case command =>
    exact fun fn ring c s hnext hfree hbefore => by rw [exec_ringCommand, ringCommand_presents hnext hfree hbefore]
  case completion =>
    exact fun slot c code cause tick s hc hout hdone hlive hdead => by
      rw [exec_ringCompletion, ringCompletion_writes hc hout hdone hlive hdead]
      rfl

/-! ### The SHM aperture and refused accesses (R492, R602) -/

section
variable {fn a : Nat} {s : State}

section
variable (hfn : fn ≤ 1)
include hfn

theorem mmioShm_reads {n : BitVec 13} (hperm : shmPermitted s fn a n.toNat permR = true) (hswept : shmSwept s a n.toNat = true)
    (hclean : s.shmPoisoned a n.toNat = false) :
    mmioShm fn a (.read n) s = mmioDone fn (s.shmRead a n.toNat) false (count Ct.HIF_TX_BYTES fn n.toNat s) := by
  rw [mmioShm, if_neg (Nat.not_lt.2 hfn)]
  dsimp only
  rw [if_neg (fun h => Bool.false_ne_true (h.symm.trans hperm)), if_neg (fun h => Bool.false_ne_true (h.symm.trans hswept))]
  exact if_neg (fun h => Bool.false_ne_true (hclean.symm.trans h))

theorem mmioShm_writes {d : Octets} (hperm : shmPermitted s fn a d.length permW = true) (hswept : shmSwept s a d.length = true) :
    mmioShm fn a (.write d false) s = State.shmWrite a d (mmioDone fn [] false (count Ct.HIF_RX_BYTES fn d.length s)) := by
  rw [mmioShm, if_neg (Nat.not_lt.2 hfn)]
  dsimp only
  rw [if_neg (fun h => Bool.false_ne_true (h.symm.trans hperm)), if_neg (fun h => Bool.false_ne_true (h.symm.trans hswept))]
  rfl

/-- A read that the protection table does not permit is answered with ones. -/
theorem mmioShm_readRefused {n : BitVec 13} (hperm : shmPermitted s fn a n.toNat permR = false) :
    mmioShm fn a (.read n) s = protFault fn Code.refused a
      (mmioDone fn (List.replicate n.toNat 0xFF) false (count Ct.HIF_TX_BYTES fn n.toNat s)) := by
  rw [mmioShm, if_neg (Nat.not_lt.2 hfn)]
  exact if_pos hperm

end

theorem mmioMalformed_faults {write : Bool} (hfn : fn ≠ 513) :
    mmioMalformed fn a write s = protFault fn Code.refused a (mmioDone fn (if write then [] else List.replicate 4 0xFF) false s) := if_neg hfn

theorem mmioReadRefused_faults {b : Blk} (halign : a % 4 = 0) (hfn : fn ≠ 513) (hb : Blk.ofCode (a / 0x4000) = some b)
    (hread : mayRead s fn b (a % 0x4000) = false) : mmioReadRefused fn a s = protFault fn Code.refused a (mmioDone fn (zeros 4) false s) := by
  rw [mmioReadRefused, if_neg (by simp [halign, stewardFn, hfn]), hb]
  exact if_neg (by simp [hread])

end

/-! ### The link (R516, R517, R547) -/

theorem linkDown_resets (s : State) :
    linkDown s = functionsReset (fun n => decide (n ≤ 512))
      (((({ s with hif := { s.hif with ltrEn := false } }.wr 0 F.HIF_STATUS_LINK_UP 0).wr 0 F.HIF_STATUS_SPEED 0).wr 0 F.HIF_STATUS_WIDTH 0).wr 0
        F.HIF_STATUS_NUM_VFS 0) := rfl

/-- The link of a device out of Proofing and outside the deep states trains to the lesser of both sides. -/
theorem linkUp_trains {s : State} (speed width vfs : Nat) (ltr : Bool) (hdone : s.sh F.RST_STATUS_PROOF_DONE = 1)
    (hdown : s.sh F.HIF_STATUS_LINK_UP = 0) (hdeep : s.pwr.deep = 0) :
    linkUp speed width vfs ltr s =
      let t := (s.wr 0 F.HIF_STATUS_LINK_UP 1).wr 0 F.HIF_STATUS_SPEED (min (speed + 1) (s.sh F.RST_OPT_GEN_MAX))
      let t := (t.wr 0 F.HIF_STATUS_WIDTH (2 ^ min width (s.sh F.RST_OPT_WIDTH_MAX))).wr 0 F.HIF_STATUS_NUM_VFS vfs
      sendLtr (syncTol { t with hif := { t.hif with ltrEn := ltr } }) :=
  if_neg (by simp [hdone, hdown, hdeep])

/-- Settles O42: the aperture and the accesses that the HIF refuses (that the SHM door is not looked at is the model's choice,
assumption 147), LAT_TOL, function resets and the link (its NUM_VFS and LTR are the model's choice, assumption 160). -/
theorem mmioAndLink : Obligations.MmioAndLink := by
  unfold Obligations.MmioAndLink
  refine ⟨?read, ?write, ?denied, ?malformed, ?refused, ?latTol, ?flr, ?down, ?up⟩
  case read => exact fun fn addr n s hfn hperm hswept hclean => by rw [exec_mmioShmAccess, mmioShm_reads hfn hperm hswept hclean]
  case write => exact fun fn addr d s hfn hperm hswept => by rw [exec_mmioShmAccess, mmioShm_writes hfn hperm hswept]
  case denied => exact fun fn addr n s hfn hperm => by rw [exec_mmioShmAccess, mmioShm_readRefused hfn hperm]
  case malformed => exact fun fn addr write s hfn => by rw [exec_mmioMalformed, mmioMalformed_faults hfn]
  case refused => exact fun fn addr b s halign hfn hb hread => by rw [exec_mmioReadRefused, mmioReadRefused_faults halign hfn hb hread]
  case latTol => exact fun fn value s ht => by rw [exec_hifLatTolWrite value ht, opLatTol]
  case flr => exact fun f s => rfl
  case down => exact fun s => by rw [exec_pcieLinkDown, linkDown_resets]
  case up => exact fun speed width vfs ltr s hdone hdown hdeep => by rw [exec_pcieLinkUp, linkUp_trains _ _ _ _ hdone hdown hdeep]

end Sys2Proof.Machine
end

section
/-! PROOFS. The steward: images and live restructure (R527 to R537). -/

namespace Sys2Proof.Machine

/-! ### The rows, by operation -/

theorem exec_stwLoad (fn : Fn) (s : State) : exec (.stwLoad fn) s = .next (opStwLoad (ownWin fn) s) := rfl
theorem exec_stwVerify (fn : Fn) (src : Fin 4) (readOk : Bool) (s : State) :
    exec (.stwVerify fn src readOk) s = .next (opVerify (ownWin fn) src.val readOk s) := rfl
theorem exec_stwRestructure (fn : Fn) (src : Fin 4) (readOk : Bool) (s : State) :
    exec (.stwRestructure fn src readOk) s = .next (opRestructure (ownWin fn) src.val readOk s) := rfl
theorem exec_rsStaged (s : State) : exec .rsStaged s = .next (rsStaged s) := rfl
theorem exec_rsLate (s : State) : exec .rsLate s = .next (rsLate s) := rfl
theorem exec_rsApply (s : State) : exec .rsApply s = .next (rsApply s) := rfl
theorem exec_rsDone (s : State) : exec .rsDone s = .next (rsDone s) := rfl
theorem exec_stwAbort (fn : Fn) (s : State) : exec (.stwAbort fn) s = .next (opStwAbort (ownWin fn) s) := rfl
theorem exec_stwSvnCommit (fn : Fn) (s : State) : exec (.stwSvnCommit fn) s = .next (opSvnCommit (ownWin fn) s) := rfl

/-! ### What the commands make of an image's checks -/

/-- LOAD of an image that passes every check (R527, R528). -/
def imageLoaded (w : Win) (o : Octets) (s : State) : State :=
  let y := applyImage o s
  let t := completeOk stStw w (post Ev.STW_IMG_LOADED 0 (measure (setRunning 3 o y.st)))
  if y.fails.isEmpty then t else raise srcAPPLY 0 0 t

/-- LOAD of an image: the first check that it fails is reported. -/
def imageJudged (w : Win) (o : Octets) (s : State) : State :=
  match checkImage false o s with
  | some f => post Ev.STW_IMG_REJECTED 0 (stwFail w f s)
  | none => imageLoaded w o s

theorem imageJudged_rejected {w : Win} {o : Octets} {s : State} {f : ImgFail} (hf : checkImage false o s = some f) :
    imageJudged w o s = post Ev.STW_IMG_REJECTED 0 (stwFail w f s) := by
  unfold imageJudged
  rw [hf]

/-- VERIFY of an image: checks 1 to 8. -/
def imageVerified (w : Win) (o : Octets) (s : State) : State :=
  match checkImage true o (rsBase s) with
  | some f => if f.cause ≤ StwCause.contract then stwFail w f s else completeOk stStw w s
  | none => completeOk stStw w s

/-- A restructure to an image, accepted for a tick (R532, R533). -/
def rsAccepted (w : Win) (src tick : Nat) (o : Octets) (s : State) : State :=
  let rs : Restructure :=
    { image := o, src := src, tick := tick, win := w, groups := (stageAll o s).2, pt := (sectOf o 2).isSome, blks := imgBlks o }
  let t := (accept .stw stStw w stwOpRs 0 s).wr64 0 F.STW_RS_TIME_LO F.STW_RS_TIME_HI tick
  { t.wr 0 F.STW_STATUS_RS_STATE 1 with stw := { t.stw with rs := some rs } }

/-- RESTRUCTURE to an image: its checks, then that none of its groups is armed. -/
def rsJudged (w : Win) (src tick : Nat) (o : Octets) (s : State) : State :=
  match checkImage true o (rsBase s) with
  | some f => stwFail w f s
  | none => if (stageAll o s).2.any s.armed then stwFail w { cause := StwCause.busy } s else rsAccepted w src tick o s

section
variable {fn : Fn} {s : State} (ht : s.takes .stw stStw fn.val = true)
include ht

/-- A command that the window takes, from a function that may give it, runs its body. -/
theorem stwCommand_permitted {auth : State → Bool} (body : State → State) (hauth : auth s = true) :
    stwCommand (ownWin fn) auth body s = body s := by
  rw [stwCommand, command_takes _ _ _ (ownWin fn) _ _ rfl ht]
  exact if_pos hauth

theorem opVerify_verifies {src n c : Nat} {readOk : Bool} {o : Octets} (hp : s.secure fn.val = true ∨ tenant0 fn.val = true) (hsrc : src ≠ 3)
    (himg : srcImage (ownWin fn) src readOk s = (some o, n, c)) : opVerify (ownWin fn) src readOk s = imageVerified (ownWin fn) o s := by
  rw [opVerify, stwCommand_permitted ht _ (by simpa using hp), if_neg hsrc, himg]
  rfl

section
variable (hs : s.secure fn.val = true)
include hs

/-! ### LOAD and SVN_COMMIT (R527, R529) -/

theorem opStwLoad_judges {o : Octets} {n : Nat} (hidle : s.sh F.STW_STATUS_IMAGE = 0)
    (himg : bufImage fn.val (s.rd64 (fn.val + 1) (F.STW_ARG 0) (F.STW_ARG 1)) s = (some o, n)) :
    opStwLoad (ownWin fn) s = imageJudged (ownWin fn) o s := by
  have himg' : bufImage (ownWin fn).fn (s.rd64 (ownWin fn).c (F.STW_ARG 0) (F.STW_ARG 1)) s = (some o, n) := himg
  rw [opStwLoad, stwCommand_permitted ht _ hs, if_neg (by simp [hidle]), himg']
  rfl

theorem opSvnCommit_raises (hrun : s.sh F.STW_STATUS_IMAGE ≠ 0) (hless : s.sh F.STW_STATUS_SVN_MIN < s.sh F.STW_IMG_INFO) :
    opSvnCommit (ownWin fn) s
      = completeOk stStw (ownWin fn) (post Ev.STW_SVN_RAISED 0 (s.wr 0 F.STW_STATUS_SVN_MIN (s.sh F.STW_IMG_INFO))) := by
  rw [opSvnCommit, stwCommand_permitted ht _ hs, if_neg hrun]
  exact congrArg (completeOk stStw (ownWin fn)) (if_pos (decide_eq_true hless))

/-! ### RESTRUCTURE and ABORT (R532 to R534) -/

section
variable {src tick : Nat} {readOk : Bool} (htick : s.rd64 (fn.val + 1) (F.STW_ARG 2) (F.STW_ARG 3) = tick)
include htick

theorem opRestructure_judges {o : Octets} {n c : Nat} (hsrc : src ≠ 3) (hearly : s.frc + 312500000 ≤ tick)
    (hlate : tick ≤ s.frc + 93750000000) (hidle : s.sh F.STW_STATUS_RS_STATE = 0)
    (himg : srcImage (ownWin fn) src readOk s = (some o, n, c)) :
    opRestructure (ownWin fn) src readOk s = rsJudged (ownWin fn) src tick o s := by
  have htick' : s.rd64 (ownWin fn).c (F.STW_ARG 2) (F.STW_ARG 3) = tick := htick
  rw [opRestructure, stwCommand_permitted ht _ hs]
  dsimp only
  rw [htick', if_neg (by omega), if_neg (by simp [hidle]), himg]
  rfl

theorem opRestructure_refuses (hout : tick < s.frc + 312500000 ∨ s.frc + 93750000000 < tick) :
    opRestructure (ownWin fn) src readOk s = refuse stStw (ownWin fn) 0 s := by
  have htick' : s.rd64 (ownWin fn).c (F.STW_ARG 2) (F.STW_ARG 3) = tick := htick
  rw [opRestructure, stwCommand_permitted ht _ hs]
  dsimp only
  rw [htick', if_pos (.inr hout)]

end

theorem opStwAbort_aborts {r : Restructure} (hheld : rsHoldsTable s = true) (hrs : s.stw.rs = some r) (hbefore : s.frc < r.tick) :
    opStwAbort (ownWin fn) s = completeOk stStw (ownWin fn) (post Ev.STW_RS_FAILED 0 (rsDiscard 0 s)) := by
  rw [opStwAbort, stwCommand_permitted ht _ hs]
  exact if_pos (by simp [hheld, hrs, hbefore])

end

end

/-! ### The way of a restructure (R533 to R536) -/

/-- The shadow table takes the image's entries, where it has any. -/
def rsEntries (o : Octets) (s : State) : State :=
  match sectOf o 2 with
  | some x => putEntries x.recs s
  | none => s

/-- The image's patches are applied, where it has any. -/
def rsPatches (o : Octets) (s : State) : State :=
  match sectOf o 9 with
  | some x => applyPatches x.recs s
  | none => s

/-- The image's plan of regions is in force, where it has one. -/
def rsRegions (o : Octets) (s : State) : State :=
  match sectOf o 1 with
  | some x => { s with stw := { s.stw with regions := planRegions x.recs } }
  | none => s

/-- The groups and the table of a restructure in force. -/
def rsCommitted (r : Restructure) (s : State) : State :=
  let t := each r.groups (fun g t => commitGroup g r.tick t) (rsBase s)
  if r.pt then ptCommit t else t

/-- The image of a restructure running and measured, and what was bound to the old measurement wiped. -/
def rsMeasured (r : Restructure) (s : State) : State :=
  wipeBound (post Ev.STW_MEAS_CHANGE 0 (measure (setRunning (if r.src = 0 then 3 else r.src) r.image s)))

/-- Contexts and queues are zeroed unless they survive from the state s (R536). -/
def rsContexts (r : Restructure) (s t : State) : State := if rsKeeps r.image s then t else zeroContexts t

/-- A restructure is applied, and its held writes remain; s is the state before it. -/
def rsMarked (r : Restructure) (s t : State) : State :=
  let rs := { r with portsEn := (enabledPorts s).filter (fun n => decide (n < 16)), sveEn := s.sh F.SVE_CTRL_EN == 1 }
  { t.wr 0 F.STW_STATUS_RS_STATE 3 with stw := { t.stw with rs := some rs, busy := r.blks } }

/-- A restructure applied at its tick. -/
def rsApplied (r : Restructure) (s : State) : State :=
  rsMarked r s (rsContexts r s (rsRegions r.image (rsMeasured r (rsPatches r.image (rsCommitted r s)))))

/-- The steps one by one: a long state is compared step by step, never as a whole. -/
theorem rsApplied_of_steps {r : Restructure} {s t1 t2 t3 t4 t5 : State} (hcommitted : rsCommitted r s = t1)
    (hpatches : rsPatches r.image t1 = t2) (hmeasured : rsMeasured r t2 = t3) (hregions : rsRegions r.image t3 = t4)
    (hcontexts : rsContexts r s t4 = t5) : rsApplied r s = rsMarked r s t5 := by
  rw [rsApplied, hcommitted, hpatches, hmeasured, hregions, hcontexts]

/-- An EN that the image does not write is what was in force. -/
theorem imgEn_of_no_recs {o : Octets} (ho : imgRecs o = []) (b : Blk) (off : Nat) (was : Bool) : imgEn o b off was = was := by
  rw [imgEn, ho]
  rfl

theorem onlyIf_not (b : Bool) (f : State → State) (s : State) : onlyIf (!b) f s = if b then s else f s := by
  cases b <;> rfl

section
variable {r : Restructure} {s : State} (hrs : s.stw.rs = some r)
include hrs

section
variable (hval : s.sh F.STW_STATUS_RS_STATE = 1)
include hval

theorem rsStaged_stages (hintime : s.frc + 31250000 ≤ r.tick) :
    rsStaged s = post Ev.STW_RS_STAGED 0
      (finish .stw stwOpRs 0 Code.ok 0 ((rsEntries r.image (stageAll r.image s).1).wr 0 F.STW_STATUS_RS_STATE 2)) := by
  rw [rsStaged, hrs]
  dsimp only
  rw [if_neg (by simp [hval]; omega)]
  rfl

theorem rsLate_discards (hlate : r.tick < s.frc + 31250000) :
    rsLate s = post Ev.STW_RS_FAILED 0 (rsDiscard StwCause.late s) := by
  rw [rsLate, hrs]
  exact if_neg (by simp [hval]; omega)

end

theorem rsApply_early (hbefore : s.frc < r.tick) : rsApply s = s := by
  rw [rsApply, hrs]
  exact if_pos (.inr hbefore)

theorem rsApply_applies (hready : s.sh F.STW_STATUS_RS_STATE = 2) (hdue : r.tick ≤ s.frc) : rsApply s = rsApplied r s := by
  rw [rsApply, hrs]
  refine Eq.trans (if_neg (by simp [hready]; omega)) ?_
  extract_lets keeps ports sve t1 t2 t3 t4 t5 x5 t6 t7
  have hcontexts : rsContexts r s t6 = t7 := (onlyIf_not keeps zeroContexts t6).symm
  exact (rsApplied_of_steps (t1 := t2) (t2 := t3) (t3 := t5) (t4 := t6) (t5 := t7) rfl rfl rfl rfl hcontexts).symm

/-- An empty image restores EN of the ports and of the SVE, and ends the restructure. -/
theorem rsDone_empty (happlied : s.sh F.STW_STATUS_RS_STATE = 3) (hsafe : s.safe = false) (hblks : r.blks = [])
    (hrecs : imgRecs r.image = []) (hsects : sectsOf r.image = []) :
    rsDone s =
      let t := each (List.range 16) (fun n t =>
        if r.portsEn.contains n then writePortCfg stewardFn n (regValue t .prt (0x100 + 0x40 * n) 0 ||| 1) t else t) s
      let t := t.wr 0 F.SVE_CTRL_EN (b2n r.sveEn)
      post Ev.STW_RS_DONE 0 { t.wr 0 F.STW_STATUS_RS_STATE 0 with stw := { t.stw with rs := none, busy := [] } } := by
  rw [rsDone, hrs]
  dsimp only
  rw [if_neg (by simp [happlied, hsafe, hblks]), hsects]
  simp only [imgEn_of_no_recs hrecs]
  rfl

end

/-- Settles O44: LOAD and VERIFY by the first check that fails (that LOAD raises its APPLY source is the model's choice, assumptions
165, 167 and 168), a restructure from its acceptance to its end, and SVN_COMMIT. -/
theorem stewardCommands : Obligations.StewardCommands := by
  unfold Obligations.StewardCommands
  refine ⟨?rejects, ?load, ?verify, ?restructure, ?refuses, ?staged, ?late, ?early, ?apply, ?done, ?abort, ?svn⟩
  case rejects =>
    exact fun fn o n f s ht hs hidle himg hf => by rw [exec_stwLoad, opStwLoad_judges ht hs hidle himg, imageJudged_rejected hf]
  case load =>
    exact fun fn o n s ht hs hidle himg => by
      rw [exec_stwLoad, opStwLoad_judges ht hs hidle himg]
      rfl
  case verify =>
    exact fun fn src readOk o n c s ht hp hsrc himg => by
      rw [exec_stwVerify, opVerify_verifies ht hp hsrc himg]
      rfl
  case restructure =>
    exact fun fn src readOk o n c s ht hs hsrc hearly hlate hidle himg => by
      rw [exec_stwRestructure, opRestructure_judges ht hs rfl hsrc hearly hlate hidle himg]
      rfl
  case refuses =>
    exact fun fn src readOk s ht hs _ hout => by rw [exec_stwRestructure, opRestructure_refuses ht hs rfl hout]
  case staged =>
    exact fun r s hrs hval hintime => by
      rw [exec_rsStaged, rsStaged_stages hrs hval hintime]
      rfl
  case late => exact fun r s hrs hval hlate => by rw [exec_rsLate, rsLate_discards hrs hval hlate]
  case early => exact fun r s hrs _ hbefore => by rw [exec_rsApply, rsApply_early hrs hbefore]
  case apply =>
    exact fun r s hrs hready hdue => by
      rw [exec_rsApply, rsApply_applies hrs hready hdue]
      refine congrArg Host.Outcome.next ?_
      extract_lets t1 t2 t3 t5 x5 t6 t7
      exact rsApplied_of_steps (t1 := t2) (t2 := t3) (t3 := t5) (t4 := t6) (t5 := t7) rfl rfl rfl rfl rfl
  case done =>
    exact fun r s hrs happlied hsafe hblks hrecs hsects => by rw [exec_rsDone, rsDone_empty hrs happlied hsafe hblks hrecs hsects]
  case abort => exact fun fn r s ht hs hheld hrs hbefore => by rw [exec_stwAbort, opStwAbort_aborts ht hs hheld hrs hbefore]
  case svn => exact fun fn s ht hs hrun hless => by rw [exec_stwSvnCommit, opSvnCommit_raises ht hs hrun hless]

end Sys2Proof.Machine
end
